-- ==== Sys2Proof/Word.lean ====
section
/-!
DEFINITION. The word types of the register and memory spaces (R7, R22): 32-bit words and bytes.
-/
namespace Sys2Proof

/-- A register or parameter-space word. -/
abbrev Word := BitVec 32

/-- A byte of memory. -/
abbrev Byte := BitVec 8

end Sys2Proof
end

