-- ==== Sys2Proof/Machine/Sparse.lean ====
section
/-!
DEFINITION. A map from keys to values held as a list of pairs in one canonical form: keys strictly rising, and no
pair whose value is what an unlisted key reads as.  The register file, the memories and the sample frames all use
it.  `d` is always what the key in question reads as while it is unlisted.
-/
namespace Sys2Proof

/-- A sparse map: strictly rising keys, no default value listed. -/
abbrev Sparse (α : Type) := List (Nat × α)

namespace Sparse
variable {α : Type}

/-- The value at key `k`; `d` if `k` is not listed. -/
def get (d : α) : Sparse α → Nat → α
  | [], _ => d
  | (a, v) :: t, k => if a = k then v else get d t k

/-- The map with `v` at `k`; the entry is removed when `v` is the default `d` of `k`. -/
def set [DecidableEq α] (d : α) : Sparse α → Nat → α → Sparse α
  | [], k, v => if v = d then [] else [(k, v)]
  | (a, w) :: t, k, v =>
    if k < a then (if v = d then (a, w) :: t else (k, v) :: (a, w) :: t)
    else if a = k then (if v = d then t else (k, v) :: t)
    else (a, w) :: set d t k v

/-- Every key of the list is above `b`. -/
def above (b : Nat) : Sparse α → Bool
  | [] => true
  | (a, _) :: _ => b < a

/-- The canonical form: keys strictly rising and no listed value equal to its key's default `d`. -/
def wf [DecidableEq α] (d : Nat → α) : Sparse α → Bool
  | [] => true
  | (a, v) :: t => decide (v ≠ d a) && above a t && wf d t

end Sparse
end Sys2Proof
end

