-- ==== Sys2Proof/Machine/Bits.lean ====
section
/-!
DEFINITION. Bit fields, byte order (R7), rounding and saturation (R86), and the CRCs the spec names.
-/
namespace Sys2Proof.Machine

/-- `v` saturated to the signed 32-bit range (R86). -/
def sat32 (v : Int) : Int := max (-2147483648) (min 2147483647 v)

/-- A signed integer saturated and stored as a 32-bit word. -/
def satWord (v : Int) : Word := BitVec.ofInt 32 (sat32 v)

/-- `v / 2^n` rounded half up: half a unit added, then floored (R86, R127). -/
def roundShift (v : Int) (n : Nat) : Int := if n = 0 then v else (v + 2 ^ (n - 1)) / 2 ^ n

/-- `a / b` rounded half up, for a positive `b`. -/
def roundDiv (a b : Int) : Int := (2 * a + b) / (2 * b)

/-- `a / b` rounded up. -/
def ceilDiv (a b : Nat) : Nat := (a + b - 1) / b

/-- Bits [hi:lo] of a number. -/
def bitsOf (v hi lo : Nat) : Nat := v / 2 ^ lo % 2 ^ (hi + 1 - lo)

/-- Bit `n` of a number. -/
def bitOf (v n : Nat) : Bool := v / 2 ^ n % 2 == 1

/-- The number with bit `n` set or cleared. -/
def putBit (v n : Nat) (b : Bool) : Nat := if bitOf v n = b then v else if b then v + 2 ^ n else v - 2 ^ n

/-- The value as a signed number of `w` bits. -/
def signed (v w : Nat) : Int := if v % 2 ^ w < 2 ^ (w - 1) then (v % 2 ^ w : Nat) else (v % 2 ^ w : Nat) - (2 ^ w : Nat)

/-- A signed number as `w` bits of two's complement. -/
def unsigned (v : Int) (w : Nat) : Nat := (v % (2 ^ w : Nat)).toNat

/-- Little-endian bytes as a number (R7). -/
def leNat : List Byte → Nat
  | [] => 0
  | b :: t => b.toNat + 256 * leNat t

/-- A number as `n` little-endian bytes (R7). -/
def leBytes : Nat → Nat → List Byte
  | 0, _ => []
  | n + 1, v => BitVec.ofNat 8 v :: leBytes n (v / 256)

/-- A number as `n` bytes in network order (R7). -/
def beBytes (n v : Nat) : List Byte := (leBytes n v).reverse

/-- `n` bytes from offset `o` of a byte string, as a little-endian number; bytes past the end count as 0. -/
def fieldAt (b : List Byte) (o n : Nat) : Nat := leNat ((b.drop o).take n)

/-- A byte string cut into words of four bytes, little-endian; an incomplete last word is dropped (R39). -/
def wordsOf : List Byte → List Word
  | a :: b :: c :: d :: t => BitVec.ofNat 32 (leNat [a, b, c, d]) :: wordsOf t
  | _ => []

/-- One byte into a CRC of width `w`, most significant bit first. -/
def crcStep (w poly : Nat) : Nat → Nat → Nat
  | 0, c => c
  | n + 1, c =>
    let sh := (c * 2) % 2 ^ w
    crcStep w poly n (if bitOf c (w - 1) then Nat.xor sh poly else sh)

/-- A CRC of width `w` (at least 8) over bytes, most significant bit first, no final inversion. -/
def crcMsb (w poly : Nat) : Nat → List Byte → Nat
  | c, [] => c
  | c, b :: t => crcMsb w poly (crcStep w poly 8 (Nat.xor c (b.toNat * 2 ^ (w - 8)))) t

/-- One byte into a reflected CRC. -/
def crcRefStep (poly : Nat) : Nat → Nat → Nat
  | 0, c => c
  | n + 1, c => crcRefStep poly n (if bitOf c 0 then Nat.xor (c / 2) poly else c / 2)

/-- A reflected CRC over bytes, least significant bit first. -/
def crcLsb (poly : Nat) : Nat → List Byte → Nat
  | c, [] => c
  | c, b :: t => crcLsb poly (crcRefStep poly 8 (Nat.xor c b.toNat)) t

/-- CRC-16 of R39: polynomial 0x1021, initial value 0xFFFF. -/
def crc16 (b : List Byte) : Nat := crcMsb 16 0x1021 0xFFFF b

/-- CRC-32 of the flash records (R177, R180): the IEEE 802.3 CRC; the spec names only 'CRC-32' (PRESUMED). -/
def crc32 (b : List Byte) : Nat := Nat.xor (crcLsb 0xEDB88320 0xFFFFFFFF b) 0xFFFFFFFF

/-- The `n` least significant bits, set where the predicate holds of the bit's index. -/
def maskOf (p : Nat → Bool) : Nat → Nat
  | 0 => 0
  | n + 1 => maskOf p n + (if p n then 2 ^ n else 0)

/-- The list with its `i`-th element replaced. -/
def setAt {α : Type} (l : List α) (i : Nat) (a : α) : List α := l.set i a

/-- The elements of a list with their indices. -/
def indexed {α : Type} (l : List α) : List (Nat × α) := (List.range l.length).zip l

end Sys2Proof.Machine
end

