-- ==== Sys2Proof/Machine/PlanTypes.lean ====
section
/-!
DEFINITION. The plan as PLAN_LOAD takes it in (R67, R230, R231) and as ADMIT leaves it (R68, R70 to R76).
-/
namespace Sys2Proof.Machine

/-- An instance record (R67). -/
structure InstRec where
  typ : Nat
  kern : Nat
  phase : Nat
  cluster : Nat
  group : Nat
  size : Nat
  cls : Nat
  mirror : Bool
  linphase : Bool
  wake : Nat
  lookahead : Nat
deriving DecidableEq, Repr

/-- A path record (R67). -/
structure PathRec where
  inStrip : Nat
  outStrip : Nat
  srcKind : Nat
  dstKind : Nat
  srcAsrc : Bool
  dstAsrc : Bool
  mirrored : Bool
  ceiling : Nat
  rxStream : Nat
  txStream : Nat
deriving DecidableEq, Repr

/-- A custom kernel's entry of the plan image (R230, R231). -/
structure KernRec where
  blobLen : Nat
  magic : Nat
  format : Nat
  diss : Nat
  phases : Nat
  fmask : Nat
  rmask : Nat
  cyc : Nat
  ovh : Nat
  codeLen : Nat
  entry : Nat
  dataBytes : Nat
  initLen : Nat
  coefBytes : Nat
  latency : Nat
  mirrorOff : Nat
  mirrorBytes : Nat
  reservedZero : Bool
  /-- Header bytes 0 to 95, the code and the initial data: what SIG covers (R234). -/
  signed : List Byte
  sig : List Byte
  code : List (BitVec 64)
  init : List Byte
deriving DecidableEq, Repr

/-- A loaded plan image (R67). -/
structure Plan where
  rate : Nat
  frame : Nat
  sDim : Nat
  buDim : Nat
  oDim : Nat
  planned : Bool
  insts : List InstRec
  paths : List PathRec
  regs : List (Nat × Word)
  kerns : List KernRec
  image : List Byte
deriving DecidableEq, Repr

/-- An admitted plan: the plan with what admission decided (R68, R70 to R76, R90). -/
structure Admitted where
  plan : Plan
  /-- Dissolve allowance in per cent (R74). -/
  allowance : Nat
  /-- The cluster of every instance (R68). -/
  place : List Nat
  /-- For every instance, the handle it had in the running plan, if it is kept (R68). -/
  kept : List (Option Nat)
  /-- Coefficient array of every instance: bank-relative offset (0 = none) and length in bytes (R90). -/
  coef : List (Nat × Nat)
  disruptive : Bool
  /-- Dissolve places of every cluster: k of R74, R76. -/
  places : List Nat
  /-- Columns that may ramp at once at F = 1 (R75, R76). -/
  rB : Nat
  rD : Nat
  /-- path(c) without and with the reserve (R72). -/
  path : List Nat
  pathRes : List Nat
  tB : Nat
  tD : Nat
  worstMw : Nat
  expMw : Nat
  dramMbps : Nat
  latency : List Nat
deriving DecidableEq, Repr

end Sys2Proof.Machine
end

