-- ==== Sys2Proof/Machine/ObjTypes.lean ====
section
/-!
DEFINITION. Object instances as they run: object state, parameters, transitions, node ramps, concealment, clip players (spec/04 to
spec/06).
-/
namespace Sys2Proof.Machine

/-- A frame of samples, keyed by 16 × channel + sample index; an unlisted sample is 0 (R18). -/
abbrev Frame := Sparse Word

/-- A set of numbers. -/
abbrev NatSet := Sparse Bool

/-- Bytes of memory by address (R23). -/
abbrev Mem := Sparse Byte

/-- What an object keeps from sample to sample, and what its mirrored record carries (R123): per lane, input and output
histories (newest first), the applied gain in Q8.24 dB, a level, a hold count and a flag; sums over an integration, its
length so far and how many are complete. -/
structure ObjState where
  x : List (List Word)
  y : List (List Word)
  g : List Int
  lev : List Nat
  hold : List Nat
  flag : List Bool
  sum : List Int
  /-- Needed gains of a limiter's look-ahead, per lane, newest first (R98). -/
  need : List (List Int)
  n : Nat
  seq : Nat
deriving DecidableEq, Repr

/-- A ramp of one field in its integer encoding (R130, R168): from `e0` to `target` over `n` ticks, `k` of them done. -/
structure FieldRamp where
  key : Nat
  e0 : Int
  target : Int
  k : Nat
  n : Nat
deriving DecidableEq, Repr

/-- Words an instance works with: CTRL, the record words at 0x10 to 0x3C, the coefficient array (R89, R93). -/
structure Params where
  ctrl : Word
  par : List Word
  coef : List Word
deriving DecidableEq, Repr

/-- A running Parallel or Tap crossfade (R169): the old side, its state, samples done, length. -/
structure Fade where
  old : Params
  oldSt : ObjState
  j : Nat
  n : Nat
deriving DecidableEq, Repr

/-- A running Mode envelope (R171, R172): 32 e, whether it falls, the words to switch to at e = 0, and whether every field
switches (R76, allowance 0) or only those of class Mode. -/
structure Envelope where
  e : Nat
  falling : Bool
  next : Params
  whole : Bool
deriving DecidableEq, Repr

/-- A committed change of an instance that has not started (R76, R166): the Develop's sequence, its LD, the new words, the
first frame it may start with, and whether it has a reserve place or needs none. -/
structure Waiting where
  seq : Nat
  ld : Nat
  next : Params
  due : Nat
  ready : Bool
deriving DecidableEq, Repr

/-- A pilot generator's change of FREQ, and its fade at a plan start (R101): samples done of the ramp down (falling) or up,
and the FREQ word after it. -/
structure PilotGlide where
  falling : Bool
  j : Nat
  freq : Word
deriving DecidableEq, Repr

/-- An object instance of the running plan. -/
structure Inst where
  info : InstRec
  cluster : Nat
  now : Params
  st : ObjState
  clamped : Bool
  ramps : List FieldRamp
  fade : Option Fade
  /-- A Parallel or Tap change that waits for the running crossfade (R172): its words and its length. -/
  chained : Option (Params × Nat)
  env : Option Envelope
  waiting : Option Waiting
  glide : Option PilotGlide
  /-- State word bits of the last frame (R104). -/
  word : Nat
  /-- Whether it holds a reserve place (R76). -/
  placed : Bool
  dissolving : Bool
  /-- Which of a custom kernel's two copies is the active one (R232). -/
  side : Nat
  /-- The last group-sample written, and how far the hold-and-ramp of R78 has gone: 0 = not stopped, up to 32. -/
  last : List Word
  ovr : Nat
  /-- Stopped by its budget in this tick; its state is reset at the next tick start (R78). -/
  stopped : Bool
  /-- Samples left of the fade-in after an overrun (R78). -/
  fadeIn : Nat
  invalid : Nat
deriving DecidableEq, Repr

/-- A ramping node (R130): its bank offset, start and target, first frame, ticks. -/
structure NodeRamp where
  off : Nat
  g0 : Int
  g1 : Int
  first : Nat
  n : Nat
deriving DecidableEq, Repr

/-- A column whose node changes wait for the F = 1 reserve (R76, R134): output matrix or not, column, whether a
priority-0 route changes. Its ramps stand among the node ramps with no start tick yet. -/
structure DeferredCol where
  outMat : Bool
  col : Nat
  ls : Bool
deriving DecidableEq, Repr

/-- A channel's concealment (R110): last valid input, level count, length of the run of invalid samples. -/
structure Conceal where
  v : Word
  k : Nat
  run : Nat
deriving DecidableEq, Repr

/-- A clip player (R114 to R117). -/
structure Player where
  /-- Clip playing, if any, and the next frame to play. -/
  clip : Option Nat
  pos : Nat
  looping : Bool
  /-- Samples left and in all of a STOP ramp (R116). -/
  stopLeft : Nat
  stopLen : Nat
  /-- The clip that a PREEMPT replaced, its next frame, samples left of its 32-sample ramp, and its LOOP (R116). -/
  old : Option (Nat × Nat × Nat × Bool)
  underrun : Bool
  underruns : Nat
deriving DecidableEq, Repr

/-- A player at rest. -/
def Player.rest : Player :=
  { clip := none, pos := 0, looping := false, stopLeft := 0, stopLen := 0, old := none, underrun := false, underruns := 0 }

/-- A mirrored record (R92, R123, R237): an object's state; the newest input samples of an FIR or a delay, per lane, newest first; a clip player;
the mirrored bytes of a custom kernel's state area. -/
inductive MirrorRec where
  | object (st : ObjState)
  | inputs (x : List (List Word))
  | player (p : Player)
  | bytes (b : List Byte)
deriving DecidableEq, Repr

end Sys2Proof.Machine
end

