-- ==== Sys2Proof/Syntax.lean ====
section
/-!
DEFINITION. The block's commands, one constructor per row of spec/opcode_table.json: the host's commands and accesses,
the slot operations of a cluster, and the events of the device's own engines, ports and timers.  An event carries what its
environment supplies (samples, frames, readings, outcomes of a wait); everything else comes from the state.
-/
namespace Sys2Proof

/-- A descriptor as the host writes it (R46), with the bytes of its buffer, trailer included, whether the device can reach that buffer, and
`dest`: of a command, whether the destination that its body names can be written; of a posted descriptor, whether the descriptor can be written back. -/
structure Desc where
  op : BitVec 16
  flags : BitVec 8
  role : BitVec 8
  tag : Word
  bufAddr : BitVec 64
  bufLen : Word
  arg0 : Word
  arg1 : Word
  seq : Word
  buf : List Byte
  reach : Bool
  dest : Bool
deriving DecidableEq, Repr

/-- A mode change of a pair (R304): what an ARM message carries. -/
inductive ModeChange where
  /-- PLAN_LOAD and ADMIT (R71): the plan image; the allowance in per cent. -/
  | planLoad (image : List Byte)
  | admission (allowance : Nat)
  /-- A Develop (R163): sequence, T, LR, LD, CLASSES, lines, RWS registers, whether the pending plan goes with it. -/
  | develop (seq tick lr ld classes : Nat) (lines : List (Nat × List Byte)) (regs : List (Nat × Word)) (plan : Bool)
  /-- The cancel of a Develop (R163): its sequence and T. -/
  | cancel (seq tick : Nat)
  /-- A trigger firing (R152): input, on Asserted or on Released, Ta, the entries as read at detection. -/
  | fire (input : Nat) (asserted : Bool) (tick : Nat) (entries : List (Nat × List Byte))
  /-- A clip start (R115): tick, player, clip (none = STOP), LOOP, ZONE_SET. -/
  | clip (tick player : Nat) (clip : Option Nat) (looping : Bool) (preset : Nat)
  /-- A FIX (R179): its snapshot tick S. -/
  | fix (tick : Nat)
  /-- A Safelight run (R267): run number, the SAFELIGHT_RUN body. -/
  | safelight (run : Nat) (body : List Byte)
  /-- A shed or restore step (R472): level, T. -/
  | shed (level tick : Nat)
  | handover (tick : Nat)
deriving DecidableEq, Repr

/-- A CTRL message (R285, R287, R295, R296, R299, R303). -/
inductive CtrlMsg where
  /-- Capability: firmware version and pair compatibility, pair ID, SIDE, DRAM in GiB, MAX_RATE, life-cycle state. -/
  | capability (fw : BitVec 16) (compat : Byte) (pairId : BitVec 16) (side : Bool) (dramGib : Byte) (maxRate : Fin 4) (lc : Fin 8)
  /-- The claim a unit enters the election with, and its NODE_ID. -/
  | election (claim : BitVec 16) (node : BitVec 18)
  | join (pairId : BitVec 16) (follow : Bool)
  | yield
  /-- A known-answer result: whether it passed. -/
  | kat (passed : Bool)
  /-- The standby's half of a FIX has ended (R179): whether well. -/
  | fixDone (ok : Bool)
deriving DecidableEq, Repr

/-- A piece of the active's engine state in a BULK message (R297, R302). -/
inductive BulkItem where
  /-- A transfer begins: the receiver's own configuration goes. -/
  | start
  /-- A loaded, an admitted, the running plan; the Develop sequence. -/
  | loaded (p : Machine.Plan)
  | pending (a : Machine.Admitted)
  | plan (a : Machine.Admitted)
  | develop (seq : Nat)
  /-- Bytes of the parameter window, by BAR2 offset. -/
  | window (off : Nat) (data : List Byte)
  /-- A register's active and Latent value; a dirty bank line; a dirty RWS register; a held write (R158). -/
  | register (addr : Nat) (active latent : Word)
  | dirtyLine (line : Nat)
  | dirtyReg (addr : Nat)
  | held (key : Nat) (w : Word)
  | clip (num rate channels length loopStart : Nat) (data : List Word)
  /-- An instance as it runs; the object state of one alone; ramping nodes; what trigger entries hold (R151). -/
  | inst (handle : Nat) (i : Machine.Inst)
  | object (handle : Nat) (st : Machine.ObjState)
  | ramps (l : List Machine.NodeRamp) (waiting : List Machine.DeferredCol)
  | holds (raises : List (Nat × Nat × Nat)) (forces : List (Nat × Nat))
  /-- The trigger inputs whose present assertion has fired (R152), one bit each. -/
  | fired (mask : Byte)
  /-- Cluster data memory. -/
  | cluster (c : Fin 16) (addr : Nat) (data : List Byte)
  /-- A sample of exchange memory: point 0 to 5 of R542, 16 × channel + sample. -/
  | exchange (point : Fin 6) (key : Nat) (w : Word)
  | conceal (channel : Nat) (c : Machine.Conceal)
  | player (n : Fin 32) (p : Machine.Player)
  | armed (m : ModeChange)
  /-- An anchor of a time domain that runs on both units: domain, anchor (R360). -/
  | anchor (td : Fin 4) (anchor : BitVec 64)
deriving DecidableEq, Repr

/-- What the active sends to the standby as it takes it in (R267, R290, R360): a register, a word of the parameter window, an
ambient estimate (zone, Q8.24, tick, HELD), a probe synthesised for a zone with its band powers, a probe's restart with the number of its restarts, or
an anchor (domain, value, the tick from which it applies). -/
inductive MirrorWrite where
  | register (addr : Nat) (w : Word)
  | window (off : Nat) (w : Word)
  | ambient (zone : Nat) (w : Word) (tick : Nat) (held : Bool)
  | shape (zone number : Nat) (power : List Nat) (tick : Nat)
  | restart (zone restarts tick : Nat)
  | anchor (td : Nat) (value : Int) (tick : Nat)
deriving DecidableEq, Repr

/-- A message on the Porbuod link (R287). -/
inductive Msg where
  /-- Tick number, claim, digest, signatures and validity mask of frame n − 2. -/
  | tick (n : Nat) (claim : Nat) (digest : Nat) (sigs : List Nat) (mask : List Nat)
  /-- Mirrored input samples of frame n: channel, samples. -/
  | input (n : Nat) (samples : List (Nat × List Word))
  | state (records : List (Nat × Machine.MirrorRec))
  | param (writes : List MirrorWrite)
  | arm (seq : Nat) (m : ModeChange)
  | ack (seq : Nat)
  | confirm (seq : Nat)
  | bulk (items : List BulkItem)
  | ctrl (m : CtrlMsg)
deriving DecidableEq, Repr

/-- An RTP packet as a media MAC takes it in (R364): destination, whether it is no fragment with a good UDP checksum, the RTP
fields, the header extension (ID, LENGTH and data, network order), and the payload without CSRC list, extension, padding. -/
structure RtpPacket where
  dstIp : Word
  port : BitVec 16
  ok : Bool
  version : Fin 4
  pt : BitVec 7
  ssrc : Word
  seq : BitVec 16
  ts : Word
  ext : Option (List Byte)
  payload : List Byte
deriving DecidableEq, Repr

/-- A PTP message as a MAC takes it in (R357): message type, domain number, transport, clock identity of the sender. -/
structure PtpMsg where
  kind : Fin 16
  domain : Byte
  l2 : Bool
  gm : BitVec 64
deriving DecidableEq, Repr

/-- What a received frame carries (R346). -/
inductive NetBody where
  | rtp (p : RtpPacket)
  /-- An ARP request for an address, from one; a reply or gratuitous ARP for an address, with its MAC address. -/
  | arpRequest (target sender : Word) (mac : BitVec 48)
  | arpReply (ip : Word) (mac : BitVec 48)
  | echo (sender : Word) (data : List Byte)
  | igmpQuery
  | ptp (m : PtpMsg)
  | supervision
  | pause (quanta : BitVec 16)
  | other
deriving DecidableEq, Repr

/-- A received frame: whether its FCS is right, its source, its VLAN ID if tagged, its redundancy trailer (LanId, sequence
number) if it ends with one whose suffix and size match (R348). -/
structure NetFrame where
  fcsOk : Bool
  src : BitVec 48
  vid : Option (BitVec 12)
  rct : Option (Fin 16 × BitVec 16)
  body : NetBody
deriving DecidableEq, Repr

/-- What the device finds and measures as it starts up (R394, R422, R426, R485 to R488): the PAIR_SIDE pin; of each DRAM channel its
capacity in GiB, its two ranks, whether it trains; rows remapped by bank and row; whether a bank is beyond repair; the march's time
in µs; whether the key store opens, whether the firmware copy in SRAM passes; which configuration images pass their SHA-384; times
to management ready and engine running in ms. -/
structure BootEnv where
  side : Bool
  gib : Nat × Nat
  ranks : Bool × Bool
  trained : Bool × Bool
  remap : List (Nat × Nat)
  bankFail : Bool
  marchUs : Nat
  keysOk : Bool
  copyOk : Bool
  sha : Bool × Bool
  mgmtMs : Nat
  engineMs : Nat
deriving DecidableEq, Repr

/-- The commands. -/
inductive Instr where
  /-- NOP (R52): Command that does nothing and completes with OK. -/
  | nop (ring : Fin 16) (d : Desc)
  /-- PARAM_WRITE (R52): Command that writes data words into the parameter window, subject to range, active-bank and life-safety checks. -/
  | paramWrite (ring : Fin 16) (d : Desc)
  /-- PARAM_READ (R52): Command that copies up to 65,536 bytes of the parameter window to a host destination. -/
  | paramRead (ring : Fin 16) (d : Desc)
  /-- PLAN_LOAD (R85): Command that loads a plan image and checks its format and kernel signatures. -/
  | planLoad (ring : Fin 16) (d : Desc)
  /-- ADMIT (R70): Command that runs the nine admission checks on the loaded plan and writes the result buffer. -/
  | admitPlan (ring : Fin 16) (d : Desc) (peerSame : Bool)
  /-- DEVELOP (R160): Command that checks and fixes a commit set for tick T and starts writing its journal record. -/
  | develop (ring : Fin 16) (d : Desc)
  /-- DEVELOP_CANCEL (R162): DEVELOP with CANCEL = 1 that cancels the armed Develop if its T and role checks pass. -/
  | developCancel (ring : Fin 16) (d : Desc)
  /-- FIX (R178): Command that starts writing the configuration to the alternate flash slot. -/
  | fix (ring : Fin 16) (d : Desc)
  /-- CLIP_LOAD (R113): Command that takes a clip image from its upload ring into the clip library, or deletes a clip. -/
  | clipLoad (ring : Fin 16) (d : Desc)
  /-- CLIP_PLAY (R115): Command that fixes the start tick of a clip on a player, with optional preemption, loop and zone preset. -/
  | clipPlay (ring : Fin 16) (d : Desc)
  /-- CLIP_STOP (R116): CLIP_PLAY with STOP = 1 that ramps a player out over FADE_OUT samples and ends its clip. -/
  | clipStop (ring : Fin 16) (d : Desc)
  /-- VERIFY (R255): SAFELIGHT_RUN operation that starts acoustic verification of a range of paths. -/
  | verify (ring : Fin 16) (d : Desc)
  /-- CAPTURE (R263): SAFELIGHT_RUN operation that starts measuring paths to store their references. -/
  | capture (ring : Fin 16) (d : Desc)
  /-- LEARN_LINES (R247): SAFELIGHT_RUN operation that sets valid lines to LEARNING to form new baselines. -/
  | learnLines (ring : Fin 16) (d : Desc)
  /-- STORE (R268): SAFELIGHT_RUN operation that writes the Safelight store to its alternate half. -/
  | store (ring : Fin 16) (d : Desc)
  /-- ABORT (R255): SAFELIGHT_RUN operation that ramps out every running probe and ends the run. -/
  | abort (ring : Fin 16) (d : Desc)
  /-- PAIR_JOIN (R295): Command that starts pair formation with a pair ID, optionally as follower only. -/
  | pairJoin (ring : Fin 16) (d : Desc)
  /-- PAIR_YIELD (R299): Command that arms a handover on the active, or sets a standby yielded and out of the pair. -/
  | pairYield (ring : Fin 16) (d : Desc)
  /-- TIME_STEP (R353): Command that steps a host-steered time domain by a signed amount. -/
  | timeStep (ring : Fin 16) (d : Desc)
  /-- TIME_RATE (R353): Command that sets the RATE word of a host-steered time domain. -/
  | timeRate (ring : Fin 16) (d : Desc)
  /-- LOG_READ (R495): Command that copies a range of event log records to a host destination. -/
  | logRead (ring : Fin 16) (d : Desc)
  /-- SHEET_DEFINE (R55): Command that binds a Contact sheet with interval K and selectors to a sheet ring. -/
  | sheetDefine (ring : Fin 16) (d : Desc)
  /-- UPDATE_BEGIN (R502): Command that checks an update image header and starts erasing the alternate slot. -/
  | updateBegin (ring : Fin 16) (d : Desc)
  /-- UPDATE_CHUNK (R502): Command that stages one 4,096-byte chunk of update payload for programming. -/
  | updateChunk (ring : Fin 16) (d : Desc)
  /-- UPDATE_COMMIT (R502): Command that checks the programmed image and writes the firmware pointer or key store. -/
  | updateCommit (ring : Fin 16) (d : Desc)
  /-- LIFECYCLE_ADVANCE (R497): Command that zeroises secure memory, does the transition's work and blows the next state fuse. -/
  | lifecycleAdvance (ring : Fin 16) (d : Desc)
  /-- RING_DOORBELL (R42): Write of RING_TAIL that announces new descriptors, or raises TAIL_RANGE when out of range. -/
  | ringDoorbell (ring : Fin 64) (tail : BitVec 12) (descs : List Desc) (arrayOk : Bool)
  /-- RING_ENABLE (R45): Write of RING_CTRL.EN from 0 to 1 that sets HEAD and TAIL to 0 and clears STOPPED and DROP. -/
  | ringEnable (ring : Fin 64) (en : Bool)
  /-- RING_IRQ_TIMEOUT (R45): Expiry of TIME_US after the first unsignalled completion, which sends the ring's vector. -/
  | ringIrqTimeout (ring : Fin 64)
  /-- EVENT_DELIVERY (R44): Write of a queued event record into a posted buffer of its event ring, or its drop beyond 256. -/
  | eventDelivery (ring : Fin 64)
  /-- CONTACT_SHEET_EMIT (R56): Writing of a Contact sheet at the end of every K ticks, or its drop for lack of a buffer. -/
  | contactSheetEmit (ring : Fin 64)
  /-- SPI_TRANSACTION (R38): An SPI transaction of opcode, address and data words, taken whole, with optional CRC check. -/
  | spiTransaction (op : Byte) (addr : Word) (data : List Byte) (nread : Nat)
  /-- PCIE_LINK_RESET (R35): PCIe link-down, hot reset, FLR or D3hot that resets the HOST pages per RING_OWNER. -/
  | pcieLinkReset (kind : Fin 4)
  /-- REGISTER_WRITE (R512): Write to a register that has no behaviour of its own, per its access type. -/
  | registerWrite (addr : BitVec 20) (v : Word) (full : Bool)
  /-- UNALLOCATED_PAGE_ACCESS (R10): Access to an unallocated page that reads 0, ignores writes and sets DEVICE PAGE_STAT.STALE. -/
  | unallocatedPageAccess (addr : BitVec 20)
  /-- PARAM_WINDOW_WRITE (R23): Host BAR2 write into the parameter window, subject to bank, life-safety and hold rules. -/
  | paramWindowWrite (off : BitVec 26) (v : Word)
  /-- PAGE_STAT_READ (R26): Read of PAGE_STAT that clears STALE. -/
  | pageStatRead (page : Byte)
  /-- LO_HI_CAPTURE_READ (R21): Read of a LO word that captures its HI word for a consistent 64-bit value. -/
  | loHiCaptureRead (addr : BitVec 20)
  /-- TD_SEC_HI_READ (R352): Read of TD_SEC_HI that captures the whole domain time at one REFCLK edge. -/
  | tdSecHiRead (n : Fin 4) (edges : Nat)
  /-- OBJECT_AREA_CAPTURE (R91): Read of an object area's TICK_LO that captures the whole area. -/
  | objectAreaCapture (handle : BitVec 16)
  /-- AIN_CS_SEQ_READ (R329): Read of AIN_CS_SEQ that captures the channel-status and user-bit registers. -/
  | ainCsSeqRead (port : Fin 8)
  /-- REF_PD_SEQ_READ (R386): Read of REF_PD_SEQ that captures REF_PD. -/
  | refPdSeqRead
  /-- FLT_TOP_READ (R449): Read of FLT_TOP that captures FLT_TOP1. -/
  | fltTopRead (elapsedUs : Nat)
  /-- PB_LANE_STAT_READ (R286): Read of a Porbuod lane status that clears its BLOCK_ERR count. -/
  | pbLaneStatRead (lane : Fin 2)
  /-- SRST (R29): Write of PAGE_CTRL.SRST that resets a block's registers and state, refused while admitted. -/
  | srst (page : Byte)
  /-- FREEZE (R26): Write of PAGE_CTRL.FREEZE that captures the block's status and counters for reads. -/
  | freeze (page : Byte) (on : Bool)
  /-- PAGE_EN_WRITE (R30): Host write of PAGE_CTRL.EN, refused for admitted blocks and lanes in use. -/
  | pageEnWrite (page : Byte) (en : Bool)
  /-- FLT_LATCH_CLEAR (R33): W1C write of FLT_LATCH that clears bits only where RAW is 0. -/
  | fltLatchClear (page : Byte) (v : BitVec 16)
  /-- FLT_CLASS_WRITE (R31): Write of FLT_CLASS fields that can raise but never lower a source's class. -/
  | fltClassWrite (page : Byte) (reg : Fin 2) (v : BitVec 24)
  /-- FLT_MASK_WRITE (R32): Write of FLT_MASK, with F3 and F4 masks refused in Deployed. -/
  | fltMaskWrite (page : Byte) (v : BitVec 16)
  /-- FLT_ACK (R449): Host acknowledgement of an open fault entry by page, source and SEQ. -/
  | fltAck (page : Byte) (src : Fin 16) (seq : Byte)
  /-- MNOP (R221): M-slot no-op. -/
  | mnop (c : Fin 16)
  /-- MPY (R221): Accumulator set to a vector product. -/
  | mpy (c : Fin 16) (d : Fin 8) (a b : Fin 16)
  /-- MAC (R221): Vector product added to an accumulator. -/
  | mac (c : Fin 16) (d : Fin 8) (a b : Fin 16)
  /-- MSU (R221): Vector product subtracted from an accumulator. -/
  | msu (c : Fin 16) (d : Fin 8) (a b : Fin 16)
  /-- MACS (R221): Vector-by-scalar product added to an accumulator. -/
  | macs (c : Fin 16) (d : Fin 8) (a : Fin 16) (b : Fin 8)
  /-- MSUS (R221): Vector-by-scalar product subtracted from an accumulator. -/
  | msus (c : Fin 16) (d : Fin 8) (a : Fin 16) (b : Fin 8)
  /-- ACLR (R221): Accumulator cleared. -/
  | aclr (c : Fin 16) (d : Fin 8)
  /-- AMOV (R221): Accumulator copied. -/
  | amov (c : Fin 16) (d a : Fin 8)
  /-- AADD (R221): Accumulators added with saturation. -/
  | aadd (c : Fin 16) (d a : Fin 8)
  /-- ALDV (R221): Vector loaded into an accumulator with a shift. -/
  | aldv (c : Fin 16) (d : Fin 8) (a : Fin 16) (sh : Fin 8)
  /-- CVT (R204): Accumulator converted to 32 bits with rounding and saturation. -/
  | cvt (c : Fin 16) (d : Fin 16) (a sh : Fin 8)
  /-- ANORM (R207): Accumulator shifted by a signed count. -/
  | anorm (c : Fin 16) (d : Fin 8) (b : Fin 8) (imm : BitVec 7)
  /-- AEXP (R206): Redundant sign bits of each accumulator lane. -/
  | aexp (c : Fin 16) (d : Fin 16) (a : Fin 8)
  /-- AEXPM (R206): Smallest accumulator exponent of the four lanes to a scalar. -/
  | aexpm (c : Fin 16) (d a : Fin 8)
  /-- VADD (R205): Saturating vector add. -/
  | vadd (c : Fin 16) (d a b : Fin 16)
  /-- VSUB (R205): Saturating vector subtract. -/
  | vsub (c : Fin 16) (d a b : Fin 16)
  /-- VNEG (R221): Vector negation. -/
  | vneg (c : Fin 16) (d a : Fin 16)
  /-- VABS (R221): Vector absolute value. -/
  | vabs (c : Fin 16) (d a : Fin 16)
  /-- VMIN (R221): Signed vector minimum. -/
  | vmin (c : Fin 16) (d a b : Fin 16)
  /-- VMAX (R221): Signed vector maximum. -/
  | vmax (c : Fin 16) (d a b : Fin 16)
  /-- VAND (R221): Bitwise vector AND. -/
  | vand (c : Fin 16) (d a b : Fin 16)
  /-- VOR (R221): Bitwise vector OR. -/
  | vor (c : Fin 16) (d a b : Fin 16)
  /-- VXOR (R221): Bitwise vector XOR. -/
  | vxor (c : Fin 16) (d a b : Fin 16)
  /-- VMOV (R221): Vector copy. -/
  | vmov (c : Fin 16) (d a : Fin 16)
  /-- VSPL (R221): Scalar splatted to every lane. -/
  | vspl (c : Fin 16) (d : Fin 16) (a : Fin 8)
  /-- VMUL (R221): Vector product converted to 32 bits. -/
  | vmul (c : Fin 16) (d a b : Fin 16) (sh : Fin 8)
  /-- NORM (R207): Vector lanes shifted by a signed count. -/
  | norm (c : Fin 16) (d a : Fin 16) (b : Fin 8) (imm : BitVec 7)
  /-- EXP (R206): Redundant sign bits of each vector lane. -/
  | exp (c : Fin 16) (d a : Fin 16)
  /-- EXPM (R206): Smallest vector exponent of the four lanes to a scalar. -/
  | expm (c : Fin 16) (d : Fin 8) (a : Fin 16)
  /-- VCMPLT (R221): Per-lane signed less-than compare into CMP. -/
  | vcmplt (c : Fin 16) (a b : Fin 16)
  /-- VCMPLE (R221): Per-lane signed less-or-equal compare into CMP. -/
  | vcmple (c : Fin 16) (a b : Fin 16)
  /-- VCMPEQ (R221): Per-lane equality compare into CMP. -/
  | vcmpeq (c : Fin 16) (a b : Fin 16)
  /-- VSEL (R221): Per-lane select by CMP. -/
  | vsel (c : Fin 16) (d a b : Fin 16)
  /-- SADD (R221): Wrapping scalar add. -/
  | sadd (c : Fin 16) (d a b : Fin 8)
  /-- SSUB (R221): Wrapping scalar subtract. -/
  | ssub (c : Fin 16) (d a b : Fin 8)
  /-- SADDI (R221): Scalar add of an immediate. -/
  | saddi (c : Fin 16) (d a : Fin 8) (imm : BitVec 7)
  /-- SAND (R221): Scalar bitwise AND. -/
  | sand (c : Fin 16) (d a b : Fin 8)
  /-- SOR (R221): Scalar bitwise OR. -/
  | sor (c : Fin 16) (d a b : Fin 8)
  /-- SSHL (R221): Scalar left shift. -/
  | sshl (c : Fin 16) (d a : Fin 8) (n : Fin 32)
  /-- SSHR (R221): Scalar arithmetic right shift. -/
  | sshr (c : Fin 16) (d a : Fin 8) (n : Fin 32)
  /-- SMUL (R221): Low 32 bits of a scalar product. -/
  | smul (c : Fin 16) (d a b : Fin 8)
  /-- SCMPLT (R221): Scalar less-than compare into all CMP lanes. -/
  | scmplt (c : Fin 16) (a b : Fin 8)
  /-- ANOP (R223): A-slot no-op. -/
  | anop (c : Fin 16)
  /-- LDV (R223): 16-byte vector load. -/
  | ldv (c : Fin 16) (r : Fin 16) (p : Fin 8) (am : Fin 4)
  /-- STV (R223): 16-byte vector store. -/
  | stv (c : Fin 16) (r : Fin 16) (p : Fin 8) (am : Fin 4)
  /-- LDB (R223): 4-byte load broadcast into all lanes. -/
  | ldb (c : Fin 16) (r : Fin 16) (p : Fin 8) (am : Fin 4)
  /-- LDS (R223): 4-byte load into a scalar. -/
  | lds (c : Fin 16) (r : Fin 8) (p : Fin 8) (am : Fin 4)
  /-- STS (R223): 4-byte store of a scalar. -/
  | sts (c : Fin 16) (r : Fin 8) (p : Fin 8) (am : Fin 4)
  /-- STC (R223): Store of an accumulator converted to 32 bits. -/
  | stc (c : Fin 16) (r : Fin 8) (p : Fin 8) (am : Fin 4) (sh : Fin 8)
  /-- LDAP (R223): Load into one part of each accumulator lane. -/
  | ldap (c : Fin 16) (r : Fin 8) (part : Fin 4) (p : Fin 8) (am : Fin 4)
  /-- STAP (R223): Store of one part of each accumulator lane. -/
  | stap (c : Fin 16) (r : Fin 8) (part : Fin 4) (p : Fin 8) (am : Fin 4)
  /-- LDV2 (R223): Two vector loads on both slots. -/
  | ldv2 (c : Fin 16) (ra : Fin 16) (pa : Fin 8) (am : Fin 4) (rb : Fin 16) (pb : Fin 8) (ub : Bool)
  /-- LDVB (R223): Vector load with a broadcast load. -/
  | ldvb (c : Fin 16) (ra : Fin 16) (pa : Fin 8) (am : Fin 4) (rb : Fin 16) (pb : Fin 8) (ub : Bool)
  /-- LDST (R223): Vector load and vector store in one bundle. -/
  | ldst (c : Fin 16) (ra : Fin 16) (pa : Fin 8) (am : Fin 4) (rb : Fin 16) (pb : Fin 8) (ub : Bool)
  /-- AUPD (R223): Pointer update without access. -/
  | aupd (c : Fin 16) (p : Fin 8) (am : Fin 4)
  /-- SETM (R223): Modifier set from an immediate. -/
  | setm (c : Fin 16) (m : Fin 8) (imm : Byte)
  /-- MVP (R223): Pointer set from a scalar. -/
  | mvp (c : Fin 16) (p r : Fin 8)
  /-- MVM (R223): Modifier set from a scalar. -/
  | mvm (c : Fin 16) (m r : Fin 8)
  /-- MVL (R199): Buffer length set from a scalar, effective at the next update. -/
  | mvl (c : Fin 16) (l r : Fin 8)
  /-- MVB (R199): Buffer base set from a scalar, effective at the next update. -/
  | mvb (c : Fin 16) (b r : Fin 8)
  /-- RDP (R223): Pointer read into a scalar. -/
  | rdp (c : Fin 16) (r p : Fin 8)
  /-- PADDI (R223): Linear pointer add of an immediate. -/
  | paddi (c : Fin 16) (p : Fin 8) (imm : Byte)
  /-- LOAD_WRITEBACK (R218): Write of a loaded register at the end of the bundle after the load. -/
  | loadWriteback (c : Fin 16)
  /-- CNOP (R224): C-slot no-op. -/
  | cnop (c : Fin 16)
  /-- SWAP_END (R228): Ending SWAP that ends a kernel and starts the next with a fresh context. -/
  | swapEnd (c : Fin 16)
  /-- BR (R224): Relative branch with one empty bundle. -/
  | br (c : Fin 16) (rel : BitVec 10)
  /-- BRC (R225): Conditional relative branch on ANY or ALL. -/
  | brc (c : Fin 16) (cond : Fin 4) (rel : Byte)
  /-- LOOP (R225): Start of a zero-overhead loop over the next n bundles. -/
  | loop (c : Fin 16) (k : Fin 2) (n : Fin 512)
  /-- SETLC (R224): Loop counter set from an immediate. -/
  | setlc (c : Fin 16) (k : Fin 2) (imm : Fin 512)
  /-- MVLC (R224): Loop counter set from a scalar. -/
  | mvlc (c : Fin 16) (k : Fin 2) (a : Fin 8)
  /-- SMOV (R224): Scalar copy. -/
  | smov (c : Fin 16) (d a : Fin 8)
  /-- SLDI (R224): Scalar set from a sign-extended immediate. -/
  | sldi (c : Fin 16) (d : Fin 8) (imm : BitVec 7)
  /-- VEXT (R224): Vector lane extracted to a scalar. -/
  | vext (c : Fin 16) (d : Fin 8) (a : Fin 16) (l : Fin 4)
  /-- VINS (R224): Scalar inserted into a vector lane. -/
  | vins (c : Fin 16) (a : Fin 16) (l : Fin 4) (d : Fin 8)
  /-- RDCS (R224): CSTAT read into a scalar. -/
  | rdcs (c : Fin 16) (d : Fin 8)
  /-- TICK_START (R19): Issue of a tick every F media-clock periods with the next tick number. -/
  | tickStart (edges : Nat) (trigP trigN : Byte) (media : BitVec 16) (cycles : List (Nat × Nat × Nat)) (pdm : List (Nat × List Word))
  /-- TICK_ENTRY (R208): 400-cycle tick entry on each cluster once the tick start has crossed into the engine domain. -/
  | tickEntry (errs : List (Nat × Bool)) (bad late : List (Nat × Nat × Option Nat))
  /-- PHASE_B (R127): Crosspoint computation of the input matrix once phase A is complete. -/
  | phaseB (nodeErrs errs : List (Nat × Bool)) (cycles : Nat)
  /-- PHASE_C (R17): Bus strip processing of a bus group once its four columns are complete. -/
  | phaseC (g : Fin 128) (errs : List (Nat × Bool)) (bad late : List (Nat × Nat × Option Nat))
  /-- PHASE_D (R127): Crosspoint computation of the output matrix once phase C is complete. -/
  | phaseD (nodeErrs errs : List (Nat × Bool)) (cycles : Nat)
  /-- PHASE_E (R17): Output strip processing of an output group once its columns are complete. -/
  | phaseE (g : Fin 256) (errs : List (Nat × Bool)) (bad late : List (Nat × Nat × Option Nat))
  /-- KERNEL_BUDGET_EXHAUSTED (R212): Forced SWAP when a kernel's budget counter reaches 1, with substitute output and state reset. -/
  | kernelBudgetExhausted (cluster : Fin 16)
  /-- TICK_OVR (R79): Hold-and-ramp of an output group whose phase E is not complete when its port needs it. -/
  | tickOvr (g : Fin 256)
  /-- LINE_INTEGRATION_JUDGE (R244): Judgement of a completed correlator integration into a line reading and state. -/
  | lineJudge (n : Fin 1024)
  /-- AMBIENT_BLOCK (R250): Analysis of an 8,192-sample block that updates and publishes ambient estimates. -/
  | ambientBlock (zone : Fin 1024)
  /-- PROBE_SYNTHESIS_DONE (R256): Completion of probe synthesis for an output start or restart. -/
  | probeSynthesisDone (zone : Fin 1024)
  /-- PROBE_START (R258): Start of a probe at a period boundary with a fade-in period. -/
  | probeStart (zone : Fin 1024)
  /-- PROBE_PERIOD (R258): Accumulation of a probe period into the even or odd accumulator. -/
  | probePeriod (zone : Fin 1024) (bad eccBad : List Nat)
  /-- PROBE_YIELD (R259): Fade-out of a zone's probe while higher-priority activity is shown, and its return. -/
  | probeYield (zone : Fin 1024)
  /-- PROBE_OUTPUT_END (R258): End of an output's dwell that fades the probe out and starts extraction. -/
  | probeOutputEnd (zone : Fin 1024)
  /-- PATH_RESULT (R262): Completion of path extraction with verdict and PATH_RESULT record. -/
  | pathResult (path : Fin 4096)
  /-- SAFELIGHT_STORE_DONE (R268): Completion or failure of a Safelight STORE. -/
  | safelightStoreDone (ok : Bool)
  /-- TDM_INPUT_FRAME (R316): Taking of a whole TDM input frame into the port buffer with its validity. -/
  | tdmInputFrame (p : Fin 16) (slots : List Word) (noStart glitch : Bool) (rate : Int) (phase : BitVec 16)
  /-- TDM_OUTPUT_FRAME (R316): Emission of a whole TDM output frame with claim slots filled. -/
  | tdmOutputFrame (p : Fin 16)
  /-- TDM_BCLK_LOSS (R320): Entry into LOSS when no BCLK edge arrives within 4 expected periods. -/
  | tdmBclkLoss (p : Fin 16)
  /-- TDM_LOSS_EXIT (R323): Leaving LOSS after 64 consecutive clean frames. -/
  | tdmLossExit (p : Fin 16)
  /-- PRE_ROLL_END (R324): Enabling of a port's data after PRE_ROLL frames. -/
  | preRollEnd (page : Byte)
  /-- POST_ROLL_END (R325): End of a port's post-roll, after which it idles or restarts. -/
  | postRollEnd (page : Byte)
  /-- AES3_RX_FRAME (R327): Reception of an AES3 frame with lock, validity and parity handling. -/
  | aes3RxFrame (r : Fin 8) (preamble : Fin 3) (violation : Bool) (rate : Fin 8) (a b : Word) (va vb pa pb : Bool)
  /-- AES3_CS_BLOCK_RX (R329): Capture of a 192-frame channel-status and user block at a Z preamble with CRCC check. -/
  | aes3CsBlockRx (r : Fin 8) (csA csB ubA ubB : List Byte)
  /-- AES3_TX_BLOCK_START (R331): Taking of a committed channel-status set at a Z preamble of the transmitter. -/
  | aes3TxBlockStart (t : Fin 8) (aged : Bool)
  /-- AOUT_CS_COMMIT (R331): Write that arms a transmitter to take its channel-status set at a later Z preamble. -/
  | aoutCsCommit (t : Fin 8) (v : Bool)
  /-- PDM_CLOCK_LOSS (R335): Loss of a follower PDM clock that makes every microphone invalid. -/
  | pdmClockLoss
  /-- PDM_LOSS_EXIT (R335): End of PDM loss after 64 clean output samples. -/
  | pdmLossExit
  /-- MIC_STUCK (R335): Marking of a microphone stuck after 1,024 clock periods at one level. -/
  | micStuck (m : Fin 32)
  /-- MIC_STUCK_END (R335): Toggle of a stuck microphone's data that ends its STUCK marking and makes its channel valid again. -/
  | micStuckEnd (m : Fin 32)
  /-- ASRC_LOCK (R338): Lock of an ASRC ratio estimator, followed by a 32-sample fade-in. -/
  | asrcLock (kind : Fin 2) (port : Fin 16)
  /-- UNLOCK (R338): Unlock of an ASRC estimator on a ratio that moves too fast. -/
  | asrcUnlock (kind : Fin 2) (port : Fin 16)
  /-- MAC_FRAME_RX (R346): Reception of a whole Ethernet frame, delivered to streams or firmware, or discarded. -/
  | macFrameRx (mac : Fin 3) (f : NetFrame)
  /-- PAUSE_EXPIRY (R344): End of a pause after its quanta have elapsed. -/
  | pauseExpiry (mac : Fin 3)
  /-- MAC_FRAME_TX (R343): Start of a transmit frame once THRESH bytes or the whole frame are in the FIFO. -/
  | macFrameTx (mac : Fin 3) (underrun : Bool)
  /-- COLLISION (R345): Half-duplex collision with jam and back-off, or abort when late or excessive. -/
  | collision (late : Bool)
  /-- BACKOFF_EXPIRY (R345): End of a back-off that retries the frame. -/
  | backoffExpiry
  /-- ARP_RETRY_TIMER (R347): Sending of an ARP request every 1 s while a unicast destination is unresolved. -/
  | arpRetryTimer (stream : Byte)
  /-- ARP_REFRESH_TIMER (R347): Refresh of a resolved ARP entry every 60 s. -/
  | arpRefreshTimer (stream : Byte)
  /-- NO_ARP (R347): Raising of NO_ARP once a stream has been unresolved for 3 s. -/
  | noArp (stream : Byte)
  /-- PRP_SUPERVISION_TIMER (R348): Sending of a PRP supervision frame every 2 s on each port. -/
  | prpSupervisionTimer
  /-- PRP_NODE_AGEOUT (R348): Forgetting of a node table entry 60 s after its last frame. -/
  | prpNodeAgeout (node : BitVec 48)
  /-- PRP_PARTNER_TIMEOUT (R349): Counting of a frame whose partner has not arrived within 400 ms. -/
  | prpPartnerTimeout (node : BitVec 48) (seq : BitVec 16)
  /-- ONE_LAN (R350): Raising or clearing of ONE_LAN after 1 s of frames on one LAN or on both. -/
  | oneLan (lan : Fin 2) (raised : Bool)
  /-- STREAM_PACKET_RX (R364): Checking and buffering of a received RTP packet, or its discard as bad, early or late. -/
  | streamPacketRx (sample : Fin 16)
  /-- STREAM_PACKET_TX (R361): Sending of an RTP packet once a transmit stream has N_P samples. -/
  | streamPacketTx (stream : Byte) (full : Bool)
  /-- PTP_MESSAGE_RX (R357): Handling of a received PTP message by the domain's firmware instance. -/
  | ptpMessageRx (portState : Fin 10)
  /-- PTP_SYNC_INTERVAL (R354): Servo evaluation each sync interval that sets or clears LOCKED or enters REACQUIRE. -/
  | ptpSyncInterval (td : Fin 4) (offset : Word) (step : Option (Int × Word)) (rate : Option Word)
  /-- PTP_ANNOUNCE_TIMEOUT (R354): Entry into REACQUIRE and NO_MASTER after 3 announce intervals without announce. -/
  | ptpAnnounceTimeout (td : Fin 4)
  /-- PTP_CFG_APPLY (R357): Taking effect of a PTP_CFG write at the next announce interval. -/
  | ptpCfgApply (td : Fin 4)
  /-- ANCHOR_SLIP (R359): Move of a domain anchor after 16 ticks with |d| ≥ 2. -/
  | anchorSlip (td : Fin 4)
  /-- MACM_LINK_CHANGE (R370): Loss or return of the management MAC's link reported by its external RGMII PHY, raising or clearing LINK_DOWN. -/
  | macmLinkChange (up : Bool)
  /-- CLOCK_LOSS (R375): Detection of a lost clock or PLL unlock by the always-on monitor. -/
  | clockLoss (clock : Fin 6) (unlock : Bool)
  /-- CLK_FREQ (R375): Frequency check over 64 µs that finds a clock out of range. -/
  | clkFreq (clock : Fin 6)
  /-- CDC_TIMEOUT (R393): Parking of a write to a stopped domain after 10 µs. -/
  | cdcTimeout (domain : Fin 21)
  /-- NCO_UPDATE (R374): 1 ms update of the NCO word. -/
  | ncoUpdate (loop : Word) (pd : Option Word)
  /-- CANDIDATE_MEASUREMENT (R379): Drift measurement of a reference candidate that may disqualify it. -/
  | candidateMeasurement (slot : Fin 8) (ofs : BitVec 16)
  /-- CANDIDATE_QUALIFIED (R379): Qualification of a candidate after QUAL_S in its window. -/
  | candidateQualified (slot : Fin 8)
  /-- CANDIDATE_UNUSABLE (R379): Disqualification of a candidate that becomes unusable. -/
  | candidateUnusable (slot : Fin 8)
  /-- REFERENCE_SWITCH (R380): Hitless switch to the next qualified candidate, or entry into HOLDOVER or FREERUN. -/
  | referenceSwitch
  /-- REFERENCE_REVERT (R377): Move to a better-ranked candidate after REVERT_S. -/
  | referenceRevert (slot : Fin 8)
  /-- DPLL_SLEW_END (R382): End of an NCO slew with phase build-out and lock from step 1. -/
  | dpllSlewEnd
  /-- DPLL_LOCK (R383): Move from ACQUIRE to LOCK after 100 ms within frequency and phase limits. -/
  | dpllLock
  /-- DPLL_LOCK_STEP (R384): End of a lock bandwidth step that advances or repeats it. -/
  | dpllLockStep (ok : Bool)
  /-- DPLL_PHASE_ALARM (R383): Return from LOCK to ACQUIRE after 100 ms above 20 µs phase error. -/
  | dpllPhaseAlarm
  /-- OUTPUT_REALIGN (R389): Realignment of a word-clock or PPS output at its next edge. -/
  | outputRealign (output : Fin 3) (ofs : Word)
  /-- METER_HOLD_WRITE (R106): Write to a meter's HOLD word that sets it to 0. -/
  | meterHoldWrite (handle : BitVec 16) (lane : Fin 4)
  /-- REC_FREEZE (R120): REC_CTRL write with FREEZE = 1 that stops the recorder at the end of the tick. -/
  | recFreeze
  /-- REC_RESUME (R120): REC_CTRL write with FREEZE = 0 that clears AUTO_PENDING and FILL and resumes recording. -/
  | recResume
  /-- REC_DRAIN (R121): REC_CTRL write with DRAIN = 1 that starts sending frozen contents to a capture ring. -/
  | recDrain (ring : Fin 8)
  /-- RECORDER_DRAIN_BUFFER (R121): Filling of the next posted capture buffer with whole ticks of the frozen rings. -/
  | recorderDrainBuffer
  /-- RECORDER_AUTO_FREEZE (R120): Freeze of the recorder once POST_MS has elapsed after the first fault of F2 or above. -/
  | recorderAutoFreeze
  /-- DEFERRED_COLUMN_START (R134): Start of a column ramp deferred at F = 1 once a running column has finished. -/
  | deferredColumnStart (outMat : Bool) (col : Fin 1024)
  /-- DEVELOP_ARMED (R161): Arming of a Develop once its journal record is in flash, or void with DEV_TICK if too late. -/
  | developArmed
  /-- DEVELOP_COMMIT (R164): Application at tick T of the pending plan, the commit set, fired presets and clip starts. -/
  | developCommit
  /-- DISRUPTIVE_PLAN_START (R73): First tick R of a disruptive plan with new F and fs and all instances from rest. -/
  | disruptivePlanStart
  /-- MEDIA_GLIDE_END (R374): End of the media PLL glide to a new family, after which ports may enable data. -/
  | mediaGlideEnd
  /-- DISSOLVE_WAIT_START (R76): Start of a waiting Dissolve at tick entry when a reserve place comes free. -/
  | dissolveWaitStart (handle : BitVec 16)
  /-- DISSOLVE_END (R173): End of an instance's transition at the tick that processes its last sample. -/
  | dissolveEnd (handle : BitVec 16)
  /-- CHAINED_CHANGE_START (R172): Start of a waiting Parallel or Tap change once the running crossfade ends. -/
  | chainedChangeStart (handle : BitVec 16)
  /-- FIX_SNAPSHOT (R178): Copy of the configuration to DRAM at the next tick boundary S. -/
  | fixSnapshot
  /-- FIX_PHASE_DONE (R178): Completion of a FIX flash phase that starts the next, or fails the FIX. -/
  | fixPhaseDone (ok : Bool)
  /-- CLIP_START (R115): Start of a clip's frame 0 at sample 0 of its start tick. -/
  | clipStart (player : Fin 32)
  /-- CLIP_END (R116): End of a clip at LENGTH without loop, or after its stop ramp. -/
  | clipEnd (player : Fin 32)
  /-- TRIGGER_DETECTION (R149): Change of a trigger input's state after m consecutive readings, at detection tick D. -/
  | triggerDetection (input : Fin 8)
  /-- LINE_FAULT (R149): Line fault of a trigger pair after 3 equal readings, applying FAULT_POLICY. -/
  | lineFault (input : Fin 8)
  /-- LINE_FAULT_CLEAR (R149): Clearing of a trigger line fault after 3 complementary readings. -/
  | lineFaultClear (input : Fin 8)
  /-- TRIGGER_FIRE (R151): Firing of an input's trigger action entries at Ta = D + 3. -/
  | triggerFire (input : Fin 8)
  /-- FLT_INJ_FORCE_RAW (R458): Injection that forces one source's RAW bit for one always-on clock. -/
  | fltInjForceRaw (target : BitVec 9) (src : Fin 16)
  /-- FLT_INJ_RAILS_HIGH (R458): Injection that drives both rails of one source to 1. -/
  | fltInjRailsHigh (target : BitVec 9) (src : Fin 16)
  /-- FLT_INJ_RAILS_LOW (R458): Injection that drives both rails of one source to 0. -/
  | fltInjRailsLow (target : BitVec 9) (src : Fin 16)
  /-- FLT_INJ_FLIP_ONE (R458): Injection that flips one bit of the next write to an SRAM bank. -/
  | fltInjFlipOne (bank : BitVec 9)
  /-- FLT_INJ_FLIP_TWO (R458): Injection that flips two bits of the next write to an SRAM bank. -/
  | fltInjFlipTwo (bank : BitVec 9)
  /-- FLT_INJ_CORRUPT_SIGNATURE (R458): Injection that corrupts the next rotating known-answer signature of a unit. -/
  | fltInjCorruptSignature (unit : BitVec 9)
  /-- FLT_INJ_COLLECTOR_DISAGREE (R458): Injection that forces one collector copy to disagree. -/
  | fltInjCollectorDisagree (copy : BitVec 9)
  /-- FLT_INJ_STOP (R519): Write of FLT_INJ.MODE = 0 that releases held rails. -/
  | fltInjStop
  /-- MARCH_GO (R423): Write of MR_CTRL.GO that starts or refuses a march on request. -/
  | marchGo
  /-- MARCH_ABORT (R423): Write of MR_CTRL.ABORT that stops a march after the present segment. -/
  | marchAbort
  /-- REACQUIRE (R352): Write of TD_CTRL.REACQUIRE that moves a domain from TRACK to REACQUIRE. -/
  | reacquire (td : Fin 4)
  /-- TDC_LOAD (R358): Write of TDC_CTRL.LOAD that loads the compatibility counter at the next REFCLK edge. -/
  | tdcLoad
  /-- REF_OPEN (R386): Write of REF_CTRL.OPEN that opens the DPLL loop to software or closes it. -/
  | refOpen (on : Bool)
  /-- REF_NCO_WRITE (R386): Write of REF_NCO in OPEN, applied at the next 1 ms update. -/
  | refNcoWrite (v : Word)
  /-- ALIGN (R388): Write of ALIGN that requests realignment of a word-clock or PPS output. -/
  | align (outputs : Fin 8)
  /-- TICK_MATCH_ARM (R518): Write of TICK_MATCH_LO that arms the tick match vector, or sends it at once if late. -/
  | tickMatchArm (lo : Word)
  /-- EN_CAP_WRITE (R469): Write of the power cap, refused if the running plan would fail check 8, otherwise journaled. -/
  | enCapWrite (mw : BitVec 24)
  /-- LANE_LOOPBACK (R409): Write of LANE_TEST.LOOP that starts or ends a loopback on a lane not in use. -/
  | laneLoopback (lane : Fin 8) (mode : Fin 8)
  /-- LANE_TX_PATTERN (R410): Write of LANE_TEST.TX_PAT that starts or ends the pattern generator. -/
  | laneTxPattern (lane : Fin 8) (pattern : Fin 16)
  /-- LANE_RX_CHECKER (R410): Write of LANE_TEST.RX_PAT that starts the checker and clears its counts. -/
  | laneRxChecker (lane : Fin 8) (pattern : Fin 16)
  /-- LANE_INJ_ONE (R411): Write that inverts the next generated pattern bit. -/
  | laneInjOne (lane : Fin 8)
  /-- LANE_PLL_LOCK (R398): Lock of a lane's transmit PLL, moving the lane from IDLE to DETECT. -/
  | lanePllLock (lane : Fin 8)
  /-- LANE_SIGNAL_DETECT (R401): Detection of a training burst or line signal that starts CDR. -/
  | laneSignalDetect (lane : Fin 8)
  /-- LANE_CDR_LOCK (R402): CDR lock that moves the lane to ADAPT. -/
  | laneCdrLock (lane : Fin 8)
  /-- LANE_ADAPT_END (R402): End of an ADAPT attempt judged by FOM against FOM_MIN. -/
  | laneAdaptEnd (lane : Fin 8) (eh ew : Byte) (ctle : Fin 16) (dfe : Word)
  /-- LANE_ALIGNED (R403): Block or comma lock that brings the lane UP. -/
  | laneAlignedEv (lane : Fin 8) (inverted : Bool)
  /-- LANE_STATE_TIMEOUT (R402): Expiry of a bring-up state's bound that returns the lane to DETECT. -/
  | laneStateTimeout (lane : Fin 8)
  /-- LANE_DOWN (R405): Loss of a lane in UP that returns it to DETECT. -/
  | laneDown (lane : Fin 8) (cause : Fin 4)
  /-- LOW_FOM (R404): FOM measurement every 10 ms in UP that raises or clears LOW_FOM. -/
  | lowFom (lane : Fin 8) (eh ew : Byte)
  /-- PRBS_CHECKER_SYNC (R410): Checker declaring sync after 64 matching bits, or losing it on 16 errors in 1,024 bits and counting a resync. -/
  | prbsCheckerSync (lane : Fin 8) (sync : Bool) (bits errs : Nat)
  /-- LANE_INJ_PERIODIC (R411): Inversion of one generated pattern bit each time 2^(k+10) bits have passed, counted in LANE_INJ_CNT. -/
  | laneInjPeriodic (lane : Fin 8)
  /-- PCIE_LINK_UP (R34): PCIe link training to L0 that sets HOST_STAT link fields and puts lanes L0 to L3 in use. -/
  | pcieLinkUp (speed width : Fin 8)
  /-- KAT_ROUND_START (R453): Start of a rotating known-answer round every 500 ms. -/
  | katRoundStart
  /-- KAT_ROUND_DONE (R455): Comparison of a finished round's signature, raising KAT_FAIL and clearing KAT_OK on failure. -/
  | katRoundDone (failed : BitVec 17)
  /-- KAT_LATE (R453): Expiry of 500 ms with the rotating round unfinished. -/
  | katLate
  /-- FAULT_EDGE_COLLECT (R442): Taking in of an unmasked rising edge with SEQ, record and escalation. -/
  | faultEdgeCollect
  /-- RAIL_BROKEN (R441): Broken dual-rail line that forces its source active. -/
  | railBroken (page : Byte) (src : Fin 16)
  /-- FAULT_TIMER_EXPIRY (R443): Expiry of a reaction timer that escalates the entry or yields the unit. -/
  | faultTimerExpiry (page : Byte) (src : Fin 16)
  /-- FIRMWARE_AUTO_ACK (R450): Firmware acknowledgement of an F1 or F2 entry after its record is logged. -/
  | firmwareAutoAck (page : Byte) (src : Fin 16)
  /-- COLLECTOR (R451): Disagreement of the two collector copies that causes an F4 action. -/
  | collector
  /-- SENSOR_SAMPLE (R480): 1 ms temperature reading against WARN, CRIT and TRIP. -/
  | sensorSample (temps : Vector (BitVec 16) 8)
  /-- RAIL_MONITOR_READING (R481): Rail reading against the FAULT and WARN windows. -/
  | railMonitorReading (monitor : Fin 12) (mv : BitVec 16) (average : Option (BitVec 16))
  /-- SCRUB_PASS_END (R416): End of a scrub period that counts a pass or raises SCRUB_LATE. -/
  | scrubPassEnd (complete : Bool) (errors : List (Fin 6 × BitVec 24 × Bool))
  /-- DRAM_TEMP_POLL (R429): 32 ms MR4 poll that doubles refresh and raises HOT above 85 °C. -/
  | dramTempPoll (channel : Fin 2) (hot : Bool)
  /-- MARCH_SEGMENT_DONE (R424): Completion of a march segment or bank, with pass, fail or next segment. -/
  | marchSegmentDone (ok : Bool) (failAddr : Word)
  /-- FABRIC_AGE_PROMOTION (R433): Rise of a waiting request's QoS after AGE cycles, with STARVE at 8,192. -/
  | fabricAgePromotion (master : Fin 12) (cycles : Nat) (outstanding : Fin 193) (held : List Bool)
  /-- LOCK_TIMEOUT (R435): Break of a fabric lock held beyond 64 cycles. -/
  | lockTimeout
  /-- NO_PATH (R432): Completion of an access on a non-existent fabric path. -/
  | noPath (master target : Fin 12)
  /-- LOG_FLUSH (R493): Flush of staged log records every 250 ms, on 64 records, or after an F2 record. -/
  | logFlush (ok : Bool)
  /-- CLUSTER_WAKE (R476): Wake of a gated cluster when one of its groups leaves idleness. -/
  | clusterWake (c : Fin 16)
  /-- CLUSTER_IMAGE_RELOAD_DONE (R421): Completion of a cluster image reload with its check. -/
  | clusterImageReloadDone (c : Fin 16) (ok : Bool)
  /-- GROUP_IDLE (R474): Idleness of a wake group after EN_SIL.HOLD below threshold. -/
  | groupIdle (group : Byte)
  /-- ENERGY_WINDOW_END (R471): End of a power window that decides shed or restore steps and OVER_CAP. -/
  | energyWindowEnd
  /-- SHED_COMMIT (R471): Commit of a shed or restore step at tick D + 4. -/
  | shedCommit
  /-- PMBUS_CALIBRATION_READ (R465): 100 ms regulator read that updates the calibration factor K. -/
  | pmbusCalibrationRead (answers : Vector (Option (BitVec 20)) 8)
  /-- ZEROISE (R419): Firmware write of SR_SECURE.ZEROISE that starts zeroising secure memory. -/
  | zeroise
  /-- ZEROISE_DONE (R419): Completion of secure-memory zeroisation. -/
  | zeroiseDone
  /-- TAMPER (R500): Tamper event that zeroises secure memory and withholds keys. -/
  | tamper (cause : Fin 4)
  /-- MB_RESET_WARM (R482): MB_RESET write with KIND = 1 that makes a warm reset. -/
  | mbResetWarm (key : BitVec 16) (env : BootEnv)
  /-- MB_RESET_COLD (R482): MB_RESET write with KIND = 2 that makes a cold reset. -/
  | mbResetCold (key : BitVec 16) (env : BootEnv)
  /-- MB_RESET_MGMT (R483): MB_RESET write with KIND = 3 that restarts the management processor alone. -/
  | mbResetMgmt (key : BitVec 16) (copyOk : Bool)
  /-- MGMT_WDT (R479): Watchdog expiry that raises MGMT_WDT and restarts the management processor. -/
  | mgmtWdt (copyOk : Bool)
  /-- POR_N_ASSERT (R482): Assertion of POR_N that resets every domain. -/
  | porNAssert
  /-- POR_N_RELEASE (R487): Release of POR_N that runs the start-up stages to scene 0. -/
  | porNRelease (env : BootEnv)
  /-- RESET_N_ASSERT (R482): Warm reset from RESET_N that keeps SRAM and DRAM. -/
  | resetNAssert
  /-- RESET_N_RELEASE (R482): Release of RESET_N after a warm reset, which samples the straps, rechecks the firmware copy and resumes the engine within 40 ms. -/
  | resetNRelease (env : BootEnv) (sramLost : Bool)
  /-- FIRMWARE_CONFIRM (R503): Confirmation of a trial firmware slot once the engine runs. -/
  | firmwareConfirm
  /-- TRIAL_BOOT_TIMEOUT (R503): Cold reset onto the old slot when a trial slot is unconfirmed after 10 s. -/
  | trialBootTimeout (env : BootEnv)
  /-- UPDATE_PROGRAM_DONE (R502): Completion of background programming and read-back hashing of update chunks. -/
  | updateProgramDone (ok : Bool)
  /-- PFAIL_N_LOW (R459): PFAIL_N held low for 10 µs, starting the yield and the flash sequence. -/
  | pfailNLow
  /-- PFAIL_RECOVERY_RESTART (R460): Cold restart after PFAIL_N returns high and rails stay in range for 100 ms. -/
  | pfailRecoveryRestart (env : BootEnv)
  /-- CDC_CLOCK_RETURN (R393): Application of parked writes in order when a domain's clock returns. -/
  | cdcClockReturn (domain : Fin 21)
  /-- DESKEW_MARKER_RX (R407): Reception of a deskew marker that aligns the two Porbuod lanes. -/
  | deskewMarkerRx (lane : Fin 2) (marker : Option (List Byte)) (skew : Byte)
  /-- PORBUOD_RATE_STEP (R285): Step of the Porbuod link to the next rate after the capability exchange. -/
  | porbuodRateStep (ok : Bool)
  /-- TICK_MESSAGE_RX (R287): Reception of a TICK message with heartbeat, digest, signatures and validity mask. -/
  | tickMessageRx (ok : Bool) (n : BitVec 64) (claim : BitVec 16) (digest : BitVec 64) (sigs mask : List Nat)
  /-- INPUT_MESSAGE_RX (R292): Reception of mirrored input samples on the standby. -/
  | inputMessageRx (ok : Bool) (n : BitVec 64) (samples : List (Nat × List Word))
  /-- STATE_MESSAGE_RX (R123): Reception of mirrored object records loaded at the next tick boundary. -/
  | stateMessageRx (ok : Bool) (records : List (Nat × Machine.MirrorRec))
  /-- PARAM_MESSAGE_RX (R290): Application on the standby of mirrored writes in the active's order. -/
  | paramMessageRx (ok : Bool) (seq : Word) (writes : List MirrorWrite)
  /-- ARM_MESSAGE_RX (R304): Reception of an ARM of a mode change or cancel, journaled and acknowledged. -/
  | armMessageRx (ok : Bool) (seq : Word) (change : ModeChange)
  /-- ACK_MESSAGE_RX (R304): Reception of an ACK that lets the active send CONFIRM. -/
  | ackMessageRx (ok : Bool) (seq : Word)
  /-- CONFIRM_MESSAGE_RX (R304): Reception of a CONFIRM that lets the standby commit at T. -/
  | confirmMessageRx (ok : Bool) (seq arm : Word)
  /-- CONFIRM_DEADLINE (R304): Start of tick T − 2 without ACK, after which the active commits alone. -/
  | confirmDeadline
  /-- BULK_MESSAGE_RX (R297): Reception of state transfer or resync data. -/
  | bulkMessageRx (ok : Bool) (seq : Word) (items : List BulkItem)
  /-- CTRL_MESSAGE_RX (R287): Reception of a capability, election, join, yield or known-answer message. -/
  | ctrlMessageRx (ok : Bool) (seq : Word) (msg : CtrlMsg)
  /-- PB_RETRANSMIT (R287): Retransmission of a reliable message after 64 µs without acknowledgement. -/
  | pbRetransmit (seq : Word)
  /-- HEARTBEAT_MISS (R289): Missed heartbeat, with the link lost after two and a standby-ready demoted. -/
  | heartbeatMiss
  /-- CLMI_WORD_RX (R279): Reception of a claim word on CLMI, checked by marker and CRC. -/
  | clmiWordRx (w : Word)
  /-- CLMI_LOST (R310): No valid CLMI word in 2 consecutive ticks of a formed pair. -/
  | clmiLost
  /-- PROMOTION (R305): Promotion of a standby to active on a yielded or lost partner. -/
  | promotion
  /-- ELECTION (R296): Election of the active by claim comparison once the partner's link is up. -/
  | election
  /-- PAIR_WAIT_EXPIRY (R296): Expiry of PAIR_CFG.WAIT with no partner, promoting alone to epoch 1. -/
  | pairWaitExpiry
  /-- PAIR_LINK_TIMEOUT (R295): Expiry of 1 s after PAIR_JOIN with no Porbuod link, completing the command with PAIR_LINK, DETAIL 1. -/
  | pairLinkTimeout
  /-- STATE_TRANSFER_DONE (R297): Completion of the state transfer to the joining unit. -/
  | stateTransferDone
  /-- PAIR_VERIFY_DONE (R298): End of 16 verified ticks that makes the standby ready, or restarts the transfer. -/
  | pairVerifyDone
  /-- EXCUSE_WINDOW_CLOSE (R302): Close of an excuse window that resyncs mismatching state. -/
  | excuseWindowClose
  /-- HANDOVER (R299): Handover at tick H with the active yielding and the standby promoting. -/
  | handover
  /-- HANDOVER_COMPLETE (R299): Old active becoming standby-ready at H + 2. -/
  | handoverComplete
deriving DecidableEq, Repr

end Sys2Proof
end

