-- ==== Sys2Proof/Decode.lean ====
section
/-!
DEFINITION. The command a word of the opcode table spells. The block fetches nothing: its commands arrive as descriptors, register
accesses, frames, messages and events, and spec/opcode_table.json gives none of its rows bits, so no word spells one. (The one encoding the
spec does give, a kernel bundle's, is read by decodeBundle in Machine/Cluster.lean.)
-/
namespace Sys2Proof

/-- No row of the table has bits. -/
def decodeTableWord (_nbits _w : Nat) : Option Instr := none

end Sys2Proof
end

