-- ==== Sys2Proof/Machine/Plan.lean ====
section
/-!
DEFINITION. Reading a plan image (R67, R85, R230).
-/
namespace Sys2Proof.Machine

/-- The engine rates of R67 in Hz, by rate code. -/
def rateHz : Nat → Nat
  | 0 => 44100 | 1 => 48000 | 2 => 88200 | 3 => 96000 | 4 => 176400 | 5 => 192000 | 6 => 32000 | _ => 48000

/-- 0 for the 48 and 44.1 kHz column of R15, 1 for 96 and 88.2, 2 for 192 and 176.4. -/
def rateClass (r : Nat) : Nat := r / 2

/-- The capacities of R15 at a rate code: inputs, buses, outputs. -/
def maxDims (r : Nat) : Nat × Nat × Nat :=
  match rateClass r with
  | 0 => (2048, 512, 1024)
  | 1 => (1024, 512, 512)
  | _ => (512, 128, 256)

/-- TDM channels each way, network channels each way and mirrored inputs of R15 at a rate code. -/
def maxTdm (r : Nat) : Nat := 512 / 2 ^ rateClass r
def maxNet (r : Nat) : Nat := 2048 / 2 ^ rateClass r
def maxMirrored (r : Nat) : Nat := 512 / 2 ^ rateClass r

/-- F of a plan (R67). -/
def Plan.F (p : Plan) : Nat := 2 ^ p.frame

/-- fs of a plan in Hz (R67). -/
def Plan.fs (p : Plan) : Nat := rateHz p.rate

/-- The groups of a phase: 0 = A, 1 = C, 2 = E (R8, R67). -/
def Plan.groups (p : Plan) (phase : Nat) : Nat :=
  if phase = 0 then p.sDim / 4 else if phase = 1 then p.buDim / 4 else p.oDim / 4

/-- An instance record from its 16 bytes. -/
def parseInst (b : List Byte) : InstRec :=
  { typ := fieldAt b 0 1, kern := fieldAt b 1 1, phase := fieldAt b 2 1, cluster := fieldAt b 3 1,
    group := fieldAt b 4 2, size := fieldAt b 6 2, cls := fieldAt b 8 1, mirror := bitOf (fieldAt b 9 1) 0,
    linphase := bitOf (fieldAt b 9 1) 1, wake := fieldAt b 10 2, lookahead := fieldAt b 12 4 }

/-- A path record from its 16 bytes. -/
def parsePath (b : List Byte) : PathRec :=
  { inStrip := fieldAt b 0 2, outStrip := fieldAt b 2 2, srcKind := fieldAt b 4 1, dstKind := fieldAt b 5 1,
    srcAsrc := bitOf (fieldAt b 6 1) 0, dstAsrc := bitOf (fieldAt b 6 1) 1, mirrored := bitOf (fieldAt b 6 1) 2,
    ceiling := fieldAt b 8 4, rxStream := fieldAt b 12 2, txStream := fieldAt b 14 2 }

/-- The `n` records of `w` bytes from offset `o` of an image. -/
def records (b : List Byte) (w : Nat) : Nat → Nat → List (List Byte)
  | _, 0 => []
  | o, n + 1 => (b.drop o).take w :: records b w (o + w) n

/-- A 64-bit bundle from its eight bytes. -/
def bundleOf (b : List Byte) : BitVec 64 := BitVec.ofNat 64 (leNat b)

/-- A kernel entry at offset `o` of the image (R230, R231). -/
def parseKern (img : List Byte) (o : Nat) : KernRec :=
  let len := fieldAt img o 4
  let b := (img.drop (o + 16)).take len
  let codeLen := fieldAt b 16 4
  let initLen := fieldAt b 28 4
  { blobLen := len, magic := fieldAt b 0 4, format := fieldAt b 4 2, diss := fieldAt b 6 1, phases := fieldAt b 7 1,
    fmask := fieldAt b 8 1, rmask := fieldAt b 9 1, cyc := fieldAt b 10 2, ovh := fieldAt b 12 4, codeLen := codeLen,
    entry := fieldAt b 20 4, dataBytes := fieldAt b 24 4, initLen := initLen, coefBytes := fieldAt b 32 4,
    latency := fieldAt b 36 4, mirrorOff := fieldAt b 40 4, mirrorBytes := fieldAt b 44 4,
    reservedZero := ((b.drop 64).take 32).all (· == 0) && ((img.drop (o + 4)).take 12).all (· == 0),
    signed := b.take 96 ++ b.drop 128, sig := (b.drop 96).take 32,
    code := (records (b.drop 128) 8 0 (min codeLen 14336)).map bundleOf,
    init := (b.drop (128 + 8 * codeLen)).take initLen }

/-- The kernel entries from offset `o`; none if one runs past the end of the image. -/
def parseKerns (img : List Byte) : Nat → Nat → Option (List KernRec)
  | _, 0 => some []
  | o, n + 1 =>
    let len := fieldAt img o 4
    if o + 16 + len ≤ img.length then
      match parseKerns img (o + 16 + (len + 15) / 16 * 16) n with
      | some t => some (parseKern img o :: t)
      | none => none
    else none

/-- The table of R85: whether a record's type may stand in its phase with its SIZE and LOOKAHEAD. -/
def instShapeOk (i : InstRec) : Bool :=
  let ph (a c e : Bool) := (i.phase == 0 && a) || (i.phase == 1 && c) || (i.phase == 2 && e)
  match i.typ with
  | 0x01 | 0x02 | 0x03 | 0x06 | 0x09 | 0x0F => ph true true true && i.size == 0 && i.lookahead == 0
  | 0x04 | 0x05 => ph true true true && i.size == 0 && decide (i.lookahead ≤ 1024)
  | 0x07 => ph true true true && decide (1 ≤ i.size ∧ i.size ≤ 256) && i.lookahead == 0
  | 0x08 => ph true true true && decide (1 ≤ i.size ∧ i.size ≤ 65535) && i.lookahead == 0
  | 0x0A => ph false false true && i.size == 0 && i.lookahead == 0
  | 0x0B => ph true false false && i.size == 0 && i.lookahead == 0
  | 0x0C => ph true true true && decide (1 ≤ i.size ∧ i.size ≤ 8192) && i.lookahead == 0
  | 0x0D => ph false true true && i.size == 0 && i.lookahead == 0
  | 0x0E => ph true false false && i.size == 0 && i.lookahead == 0
  | 0x80 => ph true true true && i.size == 0 && i.lookahead == 0
  | _ => false

/-- Whether two records stand in one strip (R68). -/
def sameStrip (a b : InstRec) : Bool := a.phase == b.phase && a.group == b.group

/-- The strip of a record, as handles in ascending order (R68, R83). -/
def stripOf (l : List InstRec) (phase group : Nat) : List (Nat × InstRec) :=
  (indexed l).filter fun x => x.2.phase == phase && x.2.group == group

/-- The cluster a strip names, if one of its instances names one (R68). -/
def stripCluster (l : List InstRec) (phase group : Nat) : Option Nat :=
  ((stripOf l phase group).find? fun x => x.2.cluster != 0xFF).map fun x => x.2.cluster

/-- R85 over one instance record of a plan with the given dimensions and kernel count. -/
def instOk (all : List InstRec) (gA gC gE nk : Nat) (i : InstRec) (flags : Nat) : Bool :=
  instShapeOk i && decide (i.phase ≤ 2) && (decide (i.cluster ≤ 15) || i.cluster == 0xFF) && decide (i.cls ≤ 3) &&
  (if i.typ = 0x80 then decide (i.kern < nk) else i.kern == 0) &&
  decide (i.group < (if i.phase = 0 then gA else if i.phase = 1 then gC else gE)) && decide (flags < 4) &&
  decide ((stripOf all i.phase i.group).length ≤ 64) &&
  (match stripCluster all i.phase i.group with
   | some c => i.cluster == c || i.cluster == 0xFF
   | none => true)

/-- A clip player stands first in its strip, and a plan has at most 32 of them and 16 recorder taps (R85). -/
def instTotalsOk (l : List InstRec) : Bool :=
  decide ((l.filter fun i => i.typ == 0x0E).length ≤ 32) && decide ((l.filter fun i => i.typ == 0x0F).length ≤ 16) &&
  (indexed l).all fun x => x.2.typ != 0x0E || ((stripOf l x.2.phase x.2.group).head?.map fun y => y.1) == some x.1

/-- R85 over one path record; `flags` and `rsv` are its bytes 6 and 7. -/
def pathOk (s o : Nat) (p : PathRec) (flags rsv : Nat) : Bool :=
  decide (p.srcKind ≤ 4) && (p.dstKind == 0 || p.dstKind == 1 || p.dstKind == 3) && decide (flags < 8) && rsv == 0 &&
  decide (p.inStrip < s) && decide (p.outStrip < o)

/-- Reading a plan image: the plan, or none where R85 makes PLAN_LOAD complete with PLAN_FORMAT. -/
def parsePlan (b : List Byte) : Option Plan :=
  let f := fieldAt b
  let nI := f 16 4; let nP := f 20 4; let nK := f 24 4; let oI := f 28 4; let oP := f 32 4; let oK := f 36 4
  let oR := f 40 4; let nR := f 44 4
  let s := f 8 2; let bu := f 10 2; let o := f 12 2
  if b.length < 64 ∨ f 0 4 ≠ 0x4E414C50 ∨ f 4 2 ≠ 1 ∨ 5 < f 6 1 ∨ 4 < f 7 1 ∨ s % 4 ≠ 0 ∨ bu % 4 ≠ 0 ∨ o % 4 ≠ 0 then none
  else if 65535 < nI ∨ 4096 < nP ∨ 64 < nK ∨ oI % 16 ≠ 0 ∨ oP % 16 ≠ 0 ∨ oK % 16 ≠ 0 then none
  else if b.length < oI + 16 * nI ∨ b.length < oP + 16 * nP ∨ b.length < oR + 8 * nR ∨ b.length < oK then none
  else if f 14 2 / 2 ≠ 0 ∨ ((b.drop 48).take 16).any (· != 0) then none
  else
    let ri := records b 16 oI nI
    let rp := records b 16 oP nP
    let insts := ri.map parseInst
    let paths := rp.map parsePath
    match parseKerns b oK nK with
    | none => none
    | some ks =>
      if ri.all (fun x => instOk insts (s / 4) (bu / 4) (o / 4) nK (parseInst x) (fieldAt x 9 1)) && instTotalsOk insts &&
          rp.all (fun x => pathOk s o (parsePath x) (fieldAt x 6 1) (fieldAt x 7 1)) then
        some { rate := f 6 1, frame := f 7 1, sDim := s, buDim := bu, oDim := o, planned := bitOf (f 14 2) 0,
               insts := insts, paths := paths,
               regs := (records b 8 oR nR).map fun x => (fieldAt x 0 4, BitVec.ofNat 32 (fieldAt x 4 4)),
               kerns := ks, image := b }
      else none

end Sys2Proof.Machine
end

