-- ==== Sys2Proof/Machine/RegTypes.lean ====
section
/-!
DEFINITION. The vocabulary of the register directory: access types (R512), a field's place, a register row, and a
page row (R26, R27).
-/
namespace Sys2Proof.Machine

/-- The access types of R512. -/
inductive Acc where
  | rw | ro | w1c | w1s | wo | rws | rwa
deriving DecidableEq, Repr

/-- A register field: the BAR0 address of its register and its bits [hi:lo]. -/
structure Fld where
  addr : Nat
  hi : Nat
  lo : Nat
deriving DecidableEq, Repr

/-- The same field on the page `p` pages further on (an instance of its block). -/
def Fld.pg (f : Fld) (p : Nat) : Fld := { f with addr := f.addr + 4096 * p }

/-- The same field of the `i`-th element of a register array. -/
def Fld.ix (f : Fld) (i : Nat) : Fld := { f with addr := f.addr + 4 * i }

/-- A ring register's field for ring `r` (spec/02, ring register set). -/
def Fld.ring (f : Fld) (r : Nat) : Fld := { f with addr := f.addr + 4096 * (r / 32) + 0x20 * (r % 32) }

/-- A register of the receive-stream window for stream `n` itself: the window of page 0x65 shows one stream at a
time, so each stream's registers have a home of their own above the 1 MiB register space. -/
def Fld.rx (f : Fld) (n : Nat) : Fld := { f with addr := f.addr - 0x65000 + 0x100000 + 0x100 * n }

/-- A register of the transmit-stream window for stream `n` itself. -/
def Fld.tx (f : Fld) (n : Nat) : Fld := { f with addr := f.addr - 0x66000 + 0x200000 + 0x100 * n }

/-- The number of bits of a field. -/
def Fld.width (f : Fld) : Nat := f.hi + 1 - f.lo

/-- The bits of a field as a mask at its place. -/
def Fld.mask (f : Fld) : Word := BitVec.ofNat 32 (2 ^ f.width - 1) <<< f.lo

/-- One field of a register row: bits, access, reset value. -/
structure RegField where
  hi : Nat
  lo : Nat
  acc : Acc
  rst : Nat
deriving DecidableEq, Repr

/-- One register row of a page: offset, element count (4 bytes apart), fields. -/
structure RegRow where
  off : Nat
  count : Nat
  fields : List RegField
deriving DecidableEq, Repr

/-- One page row (R26, R27, R511): its first page, how many instances of it follow one another, its block type
code, the index of the page within its block, PAGE_CAPS, the reset values of QOS and EN, the reset classes of its
fault sources, and its register rows. -/
structure PageRow where
  page : Nat
  insts : Nat
  typ : Nat
  index : Nat
  pages : Nat
  mirror : Bool
  pwr : Bool
  admits : Bool
  shadow : Bool
  qos : Nat
  en : Bool
  classes : List Nat
  regs : List RegRow
deriving DecidableEq, Repr

end Sys2Proof.Machine
end

