-- ==== Sys2Proof/Machine/RegTab.lean ====
section
/-!
DEFINITION. The register directory: for every page, its registers with each field's bits, access type (R512) and
reset value, as the register tables of spec/02 to spec/19 give them.  A reset value the tables give in words
(fuses, pin, image, directory) is 0 here and is handled in RegDir.lean.
-/
namespace Sys2Proof.Machine.RegTab


def page00p0 : List RegRow := [
  ⟨0x040, 1, [⟨31, 16, .ro, 0x2048⟩, ⟨15, 8, .ro, 1⟩, ⟨7, 0, .ro, 1⟩]⟩ /- DEV_ID -/,
  ⟨0x044, 1, [⟨21, 16, .ro, 63⟩, ⟨12, 8, .ro, 16⟩, ⟨4, 0, .ro, 31⟩]⟩ /- DEV_CAPS -/,
  ⟨0x048, 1, [⟨31, 0, .ro, 0⟩]⟩ /- DEV_SERIAL_LO -/,
  ⟨0x04C, 1, [⟨31, 0, .ro, 0⟩]⟩ /- DEV_SERIAL_HI -/,
  ⟨0x050, 1, [⟨18, 16, .ro, 0⟩, ⟨9, 8, .ro, 0⟩, ⟨2, 2, .ro, 0⟩, ⟨1, 1, .ro, 0⟩, ⟨0, 0, .ro, 0⟩]⟩ /- DEV_STAT -/,
  ⟨0x054, 1, [⟨31, 16, .ro, 0⟩, ⟨7, 0, .ro, 0⟩]⟩ /- DEV_DRAM -/,
  ⟨0x058, 1, [⟨31, 16, .ro, 0⟩, ⟨7, 0, .ro, 0⟩]⟩ /- DEV_UNALLOC -/,
  ⟨0x05C, 1, [⟨31, 0, .ro, 0⟩]⟩ /- DEV_RWA_REJ -/,
  ⟨0x060, 1, [⟨19, 12, .ro, 0⟩, ⟨11, 0, .ro, 0⟩]⟩ /- DEV_RWA_LAST -/,
  ⟨0x070, 4, [⟨31, 0, .rw, 0⟩]⟩ /- DEV_SCRATCH -/]

/-- DEVICE, page 0x00. -/
def page00 : List RegRow := page00p0

def page01p0 : List RegRow := [
  ⟨0x040, 1, [⟨31, 0, .ro, 0⟩]⟩ /- TICK_NUM_LO -/,
  ⟨0x044, 1, [⟨31, 0, .ro, 0⟩]⟩ /- TICK_NUM_HI -/,
  ⟨0x048, 1, [⟨10, 8, .ro, 1⟩, ⟨2, 0, .ro, 2⟩]⟩ /- TICK_CFG -/,
  ⟨0x04C, 1, [⟨9, 9, .w1c, 0⟩, ⟨8, 8, .ro, 0⟩, ⟨1, 1, .ro, 0⟩, ⟨0, 0, .ro, 0⟩]⟩ /- TICK_STAT -/,
  ⟨0x050, 1, [⟨31, 0, .ro, 0⟩]⟩ /- TICK_PERIOD -/,
  ⟨0x058, 1, [⟨31, 0, .rw, 0⟩]⟩ /- TICK_MATCH_LO -/,
  ⟨0x05C, 1, [⟨31, 0, .rw, 0⟩]⟩ /- TICK_MATCH_HI -/,
  ⟨0x060, 1, [⟨8, 8, .rw, 0⟩, ⟨5, 0, .rw, 0⟩]⟩ /- TICK_MATCH_CTRL -/,
  ⟨0x064, 1, [⟨1, 0, .rw, 0⟩]⟩ /- TICK_TS_CTRL -/,
  ⟨0x068, 1, [⟨15, 0, .ro, 0⟩]⟩ /- TICK_TS_SEC_HI -/,
  ⟨0x06C, 1, [⟨31, 0, .ro, 0⟩]⟩ /- TICK_TS_SEC_LO -/,
  ⟨0x070, 1, [⟨29, 0, .ro, 0⟩]⟩ /- TICK_TS_NS -/]

/-- TICK, page 0x01. -/
def page01 : List RegRow := page01p0

def page02p0 : List RegRow := [
  ⟨0x040, 1, [⟨31, 16, .ro, 0⟩, ⟨10, 10, .ro, 0⟩, ⟨9, 9, .ro, 0⟩, ⟨8, 8, .ro, 0⟩, ⟨7, 0, .ro, 255⟩]⟩ /- ADM_STAT -/,
  ⟨0x044, 1, [⟨23, 0, .ro, 0⟩]⟩ /- ADM_DETAIL -/,
  ⟨0x048, 1, [⟨31, 0, .ro, 0⟩]⟩ /- ADM_EXCESS -/,
  ⟨0x04C, 1, [⟨31, 0, .ro, 0x17acf⟩]⟩ /- ADM_USABLE -/,
  ⟨0x050, 1, [⟨27, 24, .ro, 0⟩, ⟨23, 0, .ro, 0⟩]⟩ /- ADM_CRIT -/,
  ⟨0x054, 1, [⟨6, 0, .ro, 0⟩]⟩ /- ADM_ALLOW -/,
  ⟨0x058, 1, [⟨15, 0, .ro, 0⟩]⟩ /- ADM_MEDIA -/,
  ⟨0x060, 1, [⟨31, 0, .ro, 0⟩]⟩ /- OVR_COUNT -/,
  ⟨0x064, 1, [⟨19, 16, .ro, 0⟩, ⟨15, 0, .ro, 0⟩]⟩ /- OVR_LAST -/,
  ⟨0x068, 1, [⟨31, 0, .ro, 0⟩]⟩ /- OVR_TICK_LO -/,
  ⟨0x06C, 1, [⟨31, 0, .ro, 0⟩]⟩ /- OVR_TICK_HI -/,
  ⟨0x070, 1, [⟨31, 0, .ro, 0⟩]⟩ /- TICKOVR_COUNT -/,
  ⟨0x074, 1, [⟨31, 0, .ro, 0⟩]⟩ /- DISS_WAIT -/,
  ⟨0x100, 64, [⟨31, 16, .ro, 0⟩, ⟨15, 0, .ro, 0⟩]⟩ /- COST_TABLE -/]

/-- ADMIT, page 0x02. -/
def page02 : List RegRow := page02p0

def page03p0 : List RegRow := [
  ⟨0x040, 1, [⟨0, 0, .rw, 1⟩]⟩ /- EN_CTRL -/,
  ⟨0x044, 1, [⟨23, 0, .rw, 0xffffff⟩]⟩ /- EN_CAP -/,
  ⟨0x048, 1, [⟨9, 8, .ro, 0⟩, ⟨4, 4, .ro, 0⟩, ⟨1, 1, .ro, 0⟩, ⟨0, 0, .ro, 0⟩]⟩ /- EN_STAT -/,
  ⟨0x04C, 1, [⟨31, 0, .ro, 0⟩]⟩ /- EN_TICK -/,
  ⟨0x050, 1, [⟨23, 0, .ro, 0⟩]⟩ /- EN_AVG_MW -/,
  ⟨0x054, 1, [⟨23, 0, .rw, 0⟩]⟩ /- EN_PEAK_MW -/,
  ⟨0x058, 1, [⟨15, 0, .ro, 0x4000⟩]⟩ /- EN_CAL -/,
  ⟨0x05C, 1, [⟨31, 16, .ro, 0x43f8⟩, ⟨15, 0, .ro, 0x20d0⟩]⟩ /- EN_STATIC -/,
  ⟨0x060, 1, [⟨31, 16, .ro, 0⟩, ⟨15, 0, .ro, 0⟩]⟩ /- EN_ADMIT_MW -/,
  ⟨0x064, 1, [⟨31, 16, .rw, 10⟩, ⟨15, 8, .rw, 5⟩, ⟨7, 0, .rw, 10⟩]⟩ /- EN_SHED -/,
  ⟨0x068, 1, [⟨15, 8, .rwa, 100⟩, ⟨7, 0, .rwa, 100⟩]⟩ /- EN_EXPECT -/,
  ⟨0x06C, 1, [⟨23, 8, .rw, 100⟩, ⟨7, 0, .rw, 156⟩]⟩ /- EN_SIL -/,
  ⟨0x070, 1, [⟨31, 0, .ro, 0⟩]⟩ /- EN_SHED_CNT -/,
  ⟨0x080, 16, [⟨31, 0, .ro, 0⟩]⟩ /- EN_CLUSTER_UJ -/,
  ⟨0x0C0, 1, [⟨31, 0, .ro, 0⟩]⟩ /- EN_XPT_UJ -/,
  ⟨0x0C4, 1, [⟨31, 0, .ro, 0⟩]⟩ /- EN_DRAM_UJ -/,
  ⟨0x0C8, 1, [⟨31, 0, .ro, 0⟩]⟩ /- EN_OTHER_UJ -/,
  ⟨0x100, 8, [⟨31, 31, .rw, 0⟩, ⟨22, 16, .rw, 0⟩, ⟨7, 0, .rw, 255⟩]⟩ /- EN_PMB -/,
  ⟨0x120, 8, [⟨23, 0, .ro, 0⟩]⟩ /- EN_PMB_MW -/,
  ⟨0x140, 1, [⟨0, 0, .rw, 1⟩]⟩ /- EN_PMB_CTRL -/]

/-- ENERGY, page 0x03. -/
def page03 : List RegRow := page03p0

def page04p0 : List RegRow := [
  ⟨0x040, 256, [⟨23, 0, .rwa, 0⟩]⟩ /- EN_WAKE_TOL -/,
  ⟨0x440, 8, [⟨31, 0, .ro, 0⟩]⟩ /- EN_GROUP_IDLE -/,
  ⟨0x460, 1, [⟨31, 0, .ro, 0⟩]⟩ /- EN_GATE_CNT -/]

/-- ENERGY, page 0x04. -/
def page04 : List RegRow := page04p0

def page08p0 : List RegRow := [
  ⟨0x040, 1, [⟨8, 8, .rw, 0⟩, ⟨0, 0, .rw, 0⟩]⟩ /- HOST_CTRL -/,
  ⟨0x044, 1, [⟨8, 8, .ro, 1⟩, ⟨6, 4, .ro, 0⟩, ⟨3, 1, .ro, 0⟩, ⟨0, 0, .ro, 0⟩]⟩ /- HOST_STAT -/,
  ⟨0x048, 1, [⟨31, 0, .ro, 0x20481d7c⟩]⟩ /- HOST_PCI_ID -/,
  ⟨0x050, 1, [⟨15, 0, .rw, 0⟩]⟩ /- EVT_ROUTE -/,
  ⟨0x054, 1, [⟨5, 0, .rw, 0⟩]⟩ /- IRQ_FAULT_VEC -/,
  ⟨0x058, 1, [⟨31, 0, .ro, 0⟩]⟩ /- AUTH_NONCE -/,
  ⟨0x05C, 1, [⟨31, 0, .ro, 0⟩]⟩ /- AUTH_SEQ_OP -/,
  ⟨0x060, 1, [⟨31, 0, .ro, 0⟩]⟩ /- AUTH_SEQ_MT -/,
  ⟨0x064, 1, [⟨31, 0, .ro, 0⟩]⟩ /- AUTH_SEQ_LS -/,
  ⟨0x068, 1, [⟨31, 0, .ro, 0⟩]⟩ /- AUTH_FAIL_CNT -/]

/-- HOST, page 0x08. -/
def page08 : List RegRow := page08p0

def page09p0 : List RegRow := [
  ⟨0x040, 1, [⟨0, 0, .rw, 0⟩]⟩ /- SPI_CTRL -/,
  ⟨0x044, 1, [⟨1, 1, .w1c, 0⟩, ⟨0, 0, .w1c, 0⟩]⟩ /- SPI_STAT -/,
  ⟨0x400, 256, [⟨31, 0, .rw, 0⟩]⟩ /- MSIX_TABLE -/,
  ⟨0x800, 2, [⟨31, 0, .ro, 0⟩]⟩ /- MSIX_PBA -/]

/-- HOST, page 0x09. -/
def page09 : List RegRow := page09p0

def page0Ap0 : List RegRow := [
  ⟨0x000, 1, [⟨31, 6, .rw, 0⟩]⟩ /- RING_BASE_LO -/,
  ⟨0x004, 1, [⟨31, 0, .rw, 0⟩]⟩ /- RING_BASE_HI -/,
  ⟨0x008, 1, [⟨17, 16, .rw, 0⟩, ⟨11, 8, .rw, 4⟩, ⟨0, 0, .rw, 0⟩]⟩ /- RING_CTRL -/,
  ⟨0x00C, 1, [⟨11, 0, .rw, 0⟩]⟩ /- RING_TAIL -/,
  ⟨0x010, 1, [⟨11, 0, .ro, 0⟩]⟩ /- RING_HEAD -/,
  ⟨0x014, 1, [⟨31, 16, .rw, 0⟩, ⟨15, 8, .rw, 1⟩, ⟨5, 0, .rw, 0⟩]⟩ /- RING_IRQ -/,
  ⟨0x018, 1, [⟨17, 17, .ro, 0⟩, ⟨16, 16, .ro, 0⟩, ⟨15, 0, .ro, 0⟩]⟩ /- RING_STAT -/]

/-- HOST, page 0x0A. -/
def page0A : List RegRow := page0Ap0

def page10p0 : List RegRow := [
  ⟨0x040, 1, [⟨31, 16, .ro, 0⟩, ⟨10, 8, .ro, 0⟩, ⟨1, 1, .ro, 0⟩, ⟨0, 0, .ro, 0⟩]⟩ /- CL_STAT -/,
  ⟨0x044, 1, [⟨23, 0, .ro, 0⟩]⟩ /- CL_TICK_CYC -/,
  ⟨0x048, 1, [⟨23, 0, .ro, 0⟩]⟩ /- CL_STALL_CYC -/,
  ⟨0x04C, 1, [⟨23, 0, .rw, 0⟩]⟩ /- CL_PEAK_CYC -/,
  ⟨0x050, 1, [⟨15, 0, .ro, 400⟩]⟩ /- CL_ENTRY_CYC -/,
  ⟨0x054, 1, [⟨23, 0, .ro, 0⟩]⟩ /- CL_BUDGET -/,
  ⟨0x058, 1, [⟨23, 0, .ro, 0⟩]⟩ /- CL_BUDGET_LEFT -/,
  ⟨0x05C, 1, [⟨31, 0, .ro, 0⟩]⟩ /- CL_STOP_CNT -/,
  ⟨0x060, 1, [⟨13, 0, .ro, 0⟩]⟩ /- CL_CSTAT_TICK -/,
  ⟨0x064, 1, [⟨31, 0, .ro, 0⟩]⟩ /- CL_CIRC_CNT -/,
  ⟨0x068, 1, [⟨31, 16, .ro, 0⟩, ⟨14, 0, .ro, 0⟩]⟩ /- CL_WIN_LAST -/,
  ⟨0x06C, 1, [⟨31, 16, .ro, 0⟩, ⟨15, 0, .ro, 0⟩]⟩ /- CL_DM_ECC -/,
  ⟨0x070, 1, [⟨18, 2, .ro, 0⟩]⟩ /- CL_DM_ECC_ADDR -/,
  ⟨0x074, 1, [⟨31, 16, .ro, 0⟩, ⟨15, 0, .ro, 0⟩]⟩ /- CL_PM_ECC -/,
  ⟨0x078, 1, [⟨31, 0, .ro, 0⟩]⟩ /- CL_SLOT_PROMO -/,
  ⟨0x07C, 1, [⟨18, 0, .ro, 0⟩]⟩ /- CL_MEM_USE -/,
  ⟨0x080, 1, [⟨16, 0, .ro, 0⟩]⟩ /- CL_PM_USE -/,
  ⟨0x084, 1, [⟨10, 0, .ro, 0⟩]⟩ /- CL_INST -/]

/-- CLUSTER, page 0x10. -/
def page10 : List RegRow := page10p0

def page20p0 : List RegRow := [
  ⟨0x040, 1, [⟨27, 16, .ro, 0⟩, ⟨11, 0, .ro, 0⟩]⟩ /- XPT_DIM0 -/,
  ⟨0x044, 1, [⟨10, 0, .ro, 0⟩]⟩ /- XPT_DIM1 -/,
  ⟨0x048, 1, [⟨31, 16, .ro, 0⟩, ⟨1, 1, .ro, 0⟩, ⟨0, 0, .ro, 0⟩]⟩ /- XPT_STAT -/,
  ⟨0x04C, 1, [⟨31, 0, .ro, 0⟩]⟩ /- XPT_CYC_B -/,
  ⟨0x050, 1, [⟨31, 0, .ro, 0⟩]⟩ /- XPT_CYC_D -/,
  ⟨0x054, 1, [⟨1, 1, .ro, 0⟩, ⟨0, 0, .ro, 0⟩]⟩ /- XPT_LS_STAT -/,
  ⟨0x058, 1, [⟨31, 0, .ro, 0⟩]⟩ /- XPT_SAT_CNT -/,
  ⟨0x05C, 1, [⟨31, 0, .ro, 0⟩]⟩ /- XPT_DEFER_CNT -/,
  ⟨0x080, 16, [⟨7, 0, .rws, 196⟩]⟩ /- XPT_ACT_THRESH -/,
  ⟨0x100, 16, [⟨31, 0, .rwa, 0⟩]⟩ /- XPT_LS_BUS -/,
  ⟨0x200, 64, [⟨31, 0, .rws, 0xffffffff⟩]⟩ /- XPT_BUS_PRIO -/,
  ⟨0x300, 64, [⟨31, 0, .ro, 0xffffffff⟩]⟩ /- XPT_BUS_EFF -/,
  ⟨0x400, 16, [⟨31, 0, .ro, 0⟩]⟩ /- XPT_BUS_FORCE -/,
  ⟨0x440, 16, [⟨31, 0, .ro, 0⟩]⟩ /- XPT_BUS_ACT -/,
  ⟨0x480, 16, [⟨31, 0, .w1c, 0⟩]⟩ /- XPT_SAT_BUS -/,
  ⟨0x500, 32, [⟨31, 0, .w1c, 0⟩]⟩ /- XPT_SAT_OUT -/]

/-- XPT, page 0x20. -/
def page20 : List RegRow := page20p0

def page21p0 : List RegRow := [
  ⟨0x040, 512, [⟨31, 31, .rws, 1⟩, ⟨25, 16, .rws, 0⟩, ⟨15, 15, .rws, 1⟩, ⟨9, 0, .rws, 0⟩]⟩ /- XPT_ZONE_MAP -/]

/-- XPT, page 0x21. -/
def page21 : List RegRow := page21p0

def page22p0 : List RegRow := [
  ⟨0x040, 512, [⟨31, 16, .ro, 0⟩, ⟨15, 0, .ro, 0⟩]⟩ /- XPT_ZONE_ACT -/]

/-- XPT, page 0x22. -/
def page22 : List RegRow := page22p0

def page23p0 : List RegRow := [
  ⟨0x040, 128, [⟨31, 0, .ro, 0xffffffff⟩]⟩ /- XPT_ZONE_TOP -/]

/-- XPT, page 0x23. -/
def page23 : List RegRow := page23p0

def page24p0 : List RegRow := [
  ⟨0x040, 1, [⟨0, 0, .rw, 0⟩]⟩ /- SCN_CTRL -/,
  ⟨0x044, 1, [⟨31, 16, .ro, 0⟩, ⟨5, 5, .ro, 0⟩, ⟨4, 4, .ro, 0⟩, ⟨3, 3, .ro, 0⟩, ⟨2, 2, .ro, 0⟩, ⟨1, 1, .ro, 0⟩, ⟨0, 0, .ro, 0⟩]⟩ /- SCN_STAT -/,
  ⟨0x048, 1, [⟨31, 0, .ro, 0⟩]⟩ /- SCN_ARM_LO -/,
  ⟨0x04C, 1, [⟨31, 0, .ro, 0⟩]⟩ /- SCN_ARM_HI -/,
  ⟨0x050, 1, [⟨31, 0, .ro, 0⟩]⟩ /- SCN_LAST_LO -/,
  ⟨0x054, 1, [⟨31, 0, .ro, 0⟩]⟩ /- SCN_LAST_HI -/,
  ⟨0x058, 1, [⟨18, 0, .ro, 0⟩]⟩ /- SCN_DIRTY_LINES -/,
  ⟨0x05C, 1, [⟨31, 16, .ro, 0⟩, ⟨15, 0, .ro, 0⟩]⟩ /- SCN_DISS_CNT -/,
  ⟨0x060, 1, [⟨31, 0, .ro, 0⟩]⟩ /- SCN_CHAIN_CNT -/,
  ⟨0x064, 1, [⟨31, 0, .ro, 0⟩]⟩ /- SCN_HOLD_DROP -/,
  ⟨0x068, 1, [⟨31, 0, .ro, 0⟩]⟩ /- SCN_CANCEL_CNT -/,
  ⟨0x080, 1, [⟨26, 24, .ro, 0⟩, ⟨7, 0, .ro, 0⟩]⟩ /- FIX_STAT -/,
  ⟨0x084, 1, [⟨8, 8, .ro, 0⟩, ⟨0, 0, .ro, 0⟩]⟩ /- FIX_SLOT -/,
  ⟨0x088, 1, [⟨31, 0, .ro, 0⟩]⟩ /- FIX_SEQ -/,
  ⟨0x08C, 1, [⟨31, 0, .ro, 0⟩]⟩ /- FIX_TICK_LO -/,
  ⟨0x090, 1, [⟨31, 0, .ro, 0⟩]⟩ /- FIX_TICK_HI -/,
  ⟨0x094, 1, [⟨31, 0, .ro, 0⟩]⟩ /- FIX_AREA_BASE -/,
  ⟨0x098, 1, [⟨31, 0, .ro, 0⟩]⟩ /- FIX_AREA_SIZE -/,
  ⟨0x09C, 1, [⟨31, 0, .ro, 0⟩]⟩ /- JRNL_USED -/,
  ⟨0x0A0, 1, [⟨31, 0, .ro, 0⟩]⟩ /- JRNL_SIZE -/]

def page24p1 : List RegRow := [
  ⟨0x0A4, 1, [⟨31, 16, .ro, 0⟩, ⟨8, 8, .ro, 0⟩, ⟨1, 0, .ro, 0⟩]⟩ /- BOOT_SRC -/]

/-- SCENE, page 0x24. -/
def page24 : List RegRow := page24p0 ++ page24p1

def page28p0 : List RegRow := [
  ⟨0x040, 1, [⟨1, 1, .rw, 0⟩, ⟨0, 0, .rw, 0⟩]⟩ /- SL_CTRL -/,
  ⟨0x044, 1, [⟨15, 0, .rwa, 0⟩]⟩ /- SL_SHARE -/,
  ⟨0x048, 1, [⟨19, 0, .rwa, 0⟩]⟩ /- SL_SHARE_CYC -/,
  ⟨0x050, 1, [⟨31, 24, .rws, 15⟩, ⟨23, 16, .rws, 20⟩, ⟨15, 8, .rws, 64⟩, ⟨7, 0, .rws, 64⟩]⟩ /- SL_JUDGE0 -/,
  ⟨0x054, 1, [⟨31, 24, .rws, 16⟩, ⟨23, 16, .rws, 20⟩, ⟨15, 0, .rws, 0x3333⟩]⟩ /- SL_JUDGE1 -/,
  ⟨0x058, 1, [⟨31, 24, .rws, 10⟩, ⟨23, 16, .rws, 12⟩, ⟨15, 8, .rws, 6⟩, ⟨7, 0, .rws, 10⟩]⟩ /- SL_VERIFY0 -/,
  ⟨0x05C, 1, [⟨31, 16, .rws, 96⟩, ⟨15, 0, .rws, 24⟩]⟩ /- SL_VERIFY1 -/,
  ⟨0x060, 1, [⟨31, 16, .rws, 0xb333⟩, ⟨15, 0, .rws, 0xe666⟩]⟩ /- SL_VERIFY2 -/,
  ⟨0x064, 1, [⟨15, 8, .rws, 8⟩, ⟨3, 0, .rws, 9⟩]⟩ /- SL_VERIFY3 -/,
  ⟨0x068, 1, [⟨15, 0, .rws, 10⟩]⟩ /- SL_AMB -/,
  ⟨0x070, 1, [⟨31, 16, .ro, 0⟩, ⟨12, 8, .ro, 0⟩, ⟨3, 3, .ro, 0⟩, ⟨2, 2, .ro, 0⟩, ⟨1, 1, .ro, 0⟩]⟩ /- SL_STAT -/,
  ⟨0x074, 1, [⟨26, 16, .ro, 0⟩, ⟨10, 0, .ro, 0⟩]⟩ /- SL_LINES -/,
  ⟨0x078, 1, [⟨19, 16, .ro, 0⟩, ⟨9, 0, .ro, 0⟩]⟩ /- SL_ERR -/,
  ⟨0x07C, 1, [⟨19, 0, .ro, 0⟩]⟩ /- SL_SHARE_USE -/]

/-- SAFELIGHT, page 0x28. -/
def page28 : List RegRow := page28p0

def page29p0 : List RegRow := [
  ⟨0x040, 1, [⟨31, 0, .ro, 0⟩]⟩ /- SL_RUN_ID -/,
  ⟨0x044, 1, [⟨31, 16, .ro, 0⟩, ⟨2, 0, .ro, 0⟩]⟩ /- SL_RUN_STAT -/,
  ⟨0x048, 1, [⟨31, 16, .ro, 0⟩, ⟨15, 0, .ro, 0⟩]⟩ /- SL_RES_CNT0 -/,
  ⟨0x04C, 1, [⟨31, 16, .ro, 0⟩, ⟨15, 0, .ro, 0⟩]⟩ /- SL_RES_CNT1 -/,
  ⟨0x050, 1, [⟨31, 0, .ro, 0⟩]⟩ /- SL_RESHAPE_CNT -/,
  ⟨0x054, 1, [⟨31, 0, .ro, 0⟩]⟩ /- SL_PAUSE_CNT -/]

/-- SAFELIGHT, page 0x29. -/
def page29 : List RegRow := page29p0

def page2Ap0 : List RegRow := [
  ⟨0x040, 512, [⟨31, 16, .ro, 0x8000⟩, ⟨15, 15, .ro, 0⟩, ⟨14, 14, .ro, 0⟩, ⟨13, 0, .ro, 0x3fff⟩]⟩ /- SL_AMB_EST -/]

/-- SAFELIGHT, page 0x2A. -/
def page2A : List RegRow := page2Ap0

def page30p0 : List RegRow := [
  ⟨0x040, 1, [⟨26, 26, .rwa, 0⟩, ⟨25, 24, .rwa, 0⟩, ⟨22, 20, .rwa, 1⟩, ⟨17, 16, .rwa, 2⟩, ⟨15, 14, .rwa, 2⟩, ⟨12, 8, .rwa, 31⟩, ⟨7, 7, .rwa, 1⟩, ⟨6, 6, .rwa, 0⟩, ⟨5, 5, .rwa, 0⟩, ⟨4, 4, .rwa, 0⟩, ⟨3, 3, .rwa, 0⟩, ⟨2, 2, .rwa, 0⟩, ⟨1, 0, .rwa, 0⟩]⟩ /- TDM_CTRL -/,
  ⟨0x044, 1, [⟨31, 0, .rwa, 0⟩]⟩ /- TDM_SLOTMASK -/,
  ⟨0x048, 1, [⟨26, 16, .rwa, 0⟩, ⟨10, 0, .rwa, 0⟩]⟩ /- TDM_CHMAP -/,
  ⟨0x04C, 1, [⟨25, 16, .rwa, 64⟩, ⟨9, 0, .rwa, 64⟩]⟩ /- TDM_ROLL -/,
  ⟨0x050, 1, [⟨25, 16, .ro, 0⟩, ⟨6, 4, .ro, 0⟩, ⟨2, 0, .ro, 0⟩]⟩ /- TDM_STAT -/,
  ⟨0x054, 1, [⟨15, 0, .ro, 0⟩]⟩ /- TDM_RATE -/,
  ⟨0x058, 1, [⟨15, 0, .ro, 0⟩]⟩ /- TDM_PHASE -/,
  ⟨0x05C, 1, [⟨31, 0, .ro, 0⟩]⟩ /- TDM_LOSS_CNT -/,
  ⟨0x060, 1, [⟨31, 0, .ro, 0⟩]⟩ /- TDM_GLITCH_CNT -/,
  ⟨0x064, 1, [⟨31, 16, .ro, 0⟩, ⟨15, 0, .ro, 0⟩]⟩ /- TDM_SLIP_CNT -/]

/-- TDM, page 0x30. -/
def page30 : List RegRow := page30p0

def page40p0 : List RegRow := [
  ⟨0x040, 1, [⟨6, 4, .rwa, 1⟩, ⟨1, 1, .rwa, 0⟩, ⟨0, 0, .rwa, 0⟩]⟩ /- AIN_CTRL -/,
  ⟨0x044, 1, [⟨10, 0, .rwa, 0⟩]⟩ /- AIN_CHMAP -/,
  ⟨0x048, 1, [⟨8, 8, .ro, 0⟩, ⟨6, 4, .ro, 7⟩, ⟨0, 0, .ro, 0⟩]⟩ /- AIN_STAT -/,
  ⟨0x050, 6, [⟨31, 0, .ro, 0⟩]⟩ /- AIN_CS_A -/,
  ⟨0x068, 6, [⟨31, 0, .ro, 0⟩]⟩ /- AIN_CS_B -/,
  ⟨0x080, 1, [⟨31, 0, .ro, 0⟩]⟩ /- AIN_CS_SEQ -/,
  ⟨0x090, 6, [⟨31, 0, .ro, 0⟩]⟩ /- AIN_UB_A -/,
  ⟨0x0A8, 6, [⟨31, 0, .ro, 0⟩]⟩ /- AIN_UB_B -/,
  ⟨0x0C0, 1, [⟨31, 16, .ro, 0⟩, ⟨15, 0, .ro, 0⟩]⟩ /- AIN_ERR -/,
  ⟨0x0C4, 1, [⟨31, 0, .ro, 0⟩]⟩ /- AIN_INVALID_CNT -/]

/-- AESIN, page 0x40. -/
def page40 : List RegRow := page40p0

def page48p0 : List RegRow := [
  ⟨0x040, 1, [⟨8, 8, .rw, 0⟩, ⟨6, 4, .rwa, 1⟩, ⟨1, 1, .rwa, 0⟩, ⟨0, 0, .rwa, 0⟩]⟩ /- AOUT_CTRL -/,
  ⟨0x044, 1, [⟨9, 0, .rwa, 0⟩]⟩ /- AOUT_CHMAP -/,
  ⟨0x048, 1, [⟨2, 0, .ro, 0⟩]⟩ /- AOUT_STAT -/,
  ⟨0x050, 6, [⟨31, 0, .rw, 0⟩]⟩ /- AOUT_CS_A -/,
  ⟨0x068, 6, [⟨31, 0, .rw, 0⟩]⟩ /- AOUT_CS_B -/,
  ⟨0x080, 1, [⟨0, 0, .wo, 0⟩]⟩ /- AOUT_CS_COMMIT -/,
  ⟨0x084, 1, [⟨1, 0, .rw, 0⟩]⟩ /- AOUT_VAL -/,
  ⟨0x090, 6, [⟨31, 0, .rw, 0⟩]⟩ /- AOUT_UB_A -/,
  ⟨0x0A8, 6, [⟨31, 0, .rw, 0⟩]⟩ /- AOUT_UB_B -/]

/-- AESOUT, page 0x48. -/
def page48 : List RegRow := page48p0

def page50p0 : List RegRow := [
  ⟨0x040, 1, [⟨31, 16, .rwa, 0⟩, ⟨2, 2, .rwa, 0⟩, ⟨1, 1, .rwa, 0⟩, ⟨0, 0, .rwa, 1⟩]⟩ /- PDM_CTRL -/,
  ⟨0x044, 1, [⟨10, 0, .rwa, 0⟩]⟩ /- PDM_CHMAP -/,
  ⟨0x048, 1, [⟨0, 0, .ro, 0⟩]⟩ /- PDM_STAT -/,
  ⟨0x04C, 1, [⟨31, 0, .ro, 0⟩]⟩ /- PDM_STUCK -/,
  ⟨0x050, 1, [⟨31, 0, .ro, 0⟩]⟩ /- PDM_LOSS_CNT -/]

/-- PDM, page 0x50. -/
def page50 : List RegRow := page50p0

def page51p0 : List RegRow := [
  ⟨0x040, 64, [⟨31, 31, .rwa, 0⟩, ⟨30, 30, .rwa, 0⟩, ⟨29, 28, .rwa, 0⟩, ⟨27, 24, .rwa, 0⟩, ⟨20, 16, .rwa, 0⟩]⟩ /- ASRC_MAP -/,
  ⟨0x140, 2, [⟨31, 0, .ro, 0⟩]⟩ /- ASRC_LOCK -/,
  ⟨0x148, 1, [⟨31, 0, .ro, 0⟩]⟩ /- ASRC_UNLOCK_CNT -/]

/-- ASRC, page 0x51. -/
def page51 : List RegRow := page51p0

def page58p0 : List RegRow := [
  ⟨0x040, 1, [⟨31, 24, .ro, 0⟩, ⟨23, 16, .ro, 0⟩, ⟨15, 8, .ro, 0⟩, ⟨7, 0, .ro, 0⟩]⟩ /- TRIG_STAT -/,
  ⟨0x080, 8, [⟨11, 11, .rwa, 0⟩, ⟨10, 10, .rwa, 0⟩, ⟨9, 8, .rwa, 0⟩, ⟨7, 0, .rwa, 20⟩]⟩ /- TRIG_CFG -/,
  ⟨0x0A0, 8, [⟨31, 0, .ro, 0⟩]⟩ /- TRIG_CNT -/,
  ⟨0x0C0, 1, [⟨2, 0, .ro, 0⟩]⟩ /- TRIG_LAST -/,
  ⟨0x0C4, 1, [⟨31, 0, .ro, 0⟩]⟩ /- TRIG_TICK_LO -/,
  ⟨0x0C8, 1, [⟨31, 0, .ro, 0⟩]⟩ /- TRIG_TICK_HI -/,
  ⟨0x0CC, 1, [⟨31, 0, .ro, 0⟩]⟩ /- TRIG_SKIP -/]

/-- TRIG, page 0x58. -/
def page58 : List RegRow := page58p0

def page60p0 : List RegRow := [
  ⟨0x040, 1, [⟨16, 16, .rwa, 1⟩, ⟨9, 8, .rwa, 0⟩, ⟨5, 5, .rwa, 0⟩, ⟨4, 4, .rwa, 0⟩, ⟨3, 3, .rwa, 0⟩, ⟨1, 0, .rwa, 2⟩]⟩ /- MAC_CTRL -/,
  ⟨0x044, 1, [⟨31, 0, .rw, 0⟩]⟩ /- MAC_ADDR_LO -/,
  ⟨0x048, 1, [⟨15, 0, .rw, 0⟩]⟩ /- MAC_ADDR_HI -/,
  ⟨0x04C, 1, [⟨11, 0, .rwa, 0⟩]⟩ /- MAC_VLAN -/,
  ⟨0x050, 1, [⟨15, 15, .ro, 0⟩, ⟨13, 0, .rw, 256⟩]⟩ /- MAC_TXTHR -/,
  ⟨0x054, 1, [⟨6, 6, .ro, 0⟩, ⟨5, 5, .ro, 0⟩, ⟨4, 4, .ro, 0⟩, ⟨2, 1, .ro, 0⟩, ⟨0, 0, .ro, 0⟩]⟩ /- MAC_STAT -/,
  ⟨0x060, 1, [⟨31, 0, .ro, 0⟩]⟩ /- MAC_TX_FRAMES -/,
  ⟨0x064, 1, [⟨31, 0, .ro, 0⟩]⟩ /- MAC_RX_FRAMES -/,
  ⟨0x068, 1, [⟨31, 0, .ro, 0⟩]⟩ /- MAC_RX_FCS -/,
  ⟨0x06C, 1, [⟨31, 0, .ro, 0⟩]⟩ /- MAC_TX_UNDERRUN -/,
  ⟨0x070, 1, [⟨31, 0, .ro, 0⟩]⟩ /- MAC_PAUSE_RX -/,
  ⟨0x074, 1, [⟨31, 16, .ro, 0⟩, ⟨15, 0, .ro, 0⟩]⟩ /- MAC_COLL -/,
  ⟨0x078, 1, [⟨31, 0, .ro, 0⟩]⟩ /- MAC_EXCESS_COLL -/,
  ⟨0x07C, 1, [⟨31, 0, .ro, 0⟩]⟩ /- MAC_RX_DROP -/,
  ⟨0x080, 1, [⟨5, 4, .rw, 0⟩, ⟨0, 0, .rw, 0⟩]⟩ /- TS_CTRL -/,
  ⟨0x084, 1, [⟨15, 0, .rw, 0⟩]⟩ /- TS_LAT_TX -/,
  ⟨0x088, 1, [⟨15, 0, .rw, 0⟩]⟩ /- TS_LAT_RX -/]

/-- MAC, page 0x60. -/
def page60 : List RegRow := page60p0

def page64p0 : List RegRow := [
  ⟨0x040, 1, [⟨1, 1, .rwa, 1⟩, ⟨0, 0, .rwa, 1⟩]⟩ /- NET_CTRL -/,
  ⟨0x044, 1, [⟨31, 0, .rw, 0⟩]⟩ /- NET_IP -/,
  ⟨0x048, 1, [⟨10, 0, .ro, 0⟩]⟩ /- PRP_NODES -/,
  ⟨0x050, 1, [⟨31, 0, .ro, 0⟩]⟩ /- PRP_DUP -/,
  ⟨0x054, 1, [⟨31, 0, .ro, 0⟩]⟩ /- PRP_WRONG_LAN_A -/,
  ⟨0x058, 1, [⟨31, 0, .ro, 0⟩]⟩ /- PRP_WRONG_LAN_B -/,
  ⟨0x05C, 1, [⟨31, 0, .ro, 0⟩]⟩ /- PRP_MISS_A -/,
  ⟨0x060, 1, [⟨31, 0, .ro, 0⟩]⟩ /- PRP_MISS_B -/,
  ⟨0x080, 1, [⟨7, 0, .rw, 0⟩]⟩ /- STR_SEL_RX -/,
  ⟨0x084, 1, [⟨7, 0, .rw, 0⟩]⟩ /- STR_SEL_TX -/,
  ⟨0x100, 8, [⟨31, 0, .ro, 0⟩]⟩ /- STR_RX_ACT -/,
  ⟨0x120, 8, [⟨31, 0, .ro, 0⟩]⟩ /- STR_TX_ACT -/]

/-- STREAM, page 0x64. -/
def page64 : List RegRow := page64p0

def page65p0 : List RegRow := [
  ⟨0x040, 1, [⟨31, 31, .rwa, 0⟩, ⟨29, 28, .rwa, 0⟩, ⟨27, 26, .rwa, 1⟩, ⟨25, 24, .rwa, 3⟩, ⟨21, 16, .rwa, 0⟩, ⟨10, 0, .rwa, 0⟩]⟩ /- RX_CFG0 -/,
  ⟨0x044, 1, [⟨31, 0, .rwa, 0⟩]⟩ /- RX_CFG1 -/,
  ⟨0x048, 1, [⟨31, 16, .rwa, 0x138c⟩, ⟨8, 8, .rwa, 0⟩, ⟨7, 7, .rwa, 0⟩, ⟨6, 0, .rwa, 97⟩]⟩ /- RX_CFG2 -/,
  ⟨0x04C, 1, [⟨31, 0, .rwa, 0⟩]⟩ /- RX_CFG3 -/,
  ⟨0x050, 1, [⟨31, 0, .rwa, 0⟩]⟩ /- RX_CFG4 -/,
  ⟨0x054, 1, [⟨13, 0, .rwa, 1000⟩]⟩ /- RX_CFG5 -/,
  ⟨0x060, 1, [⟨31, 16, .ro, 0⟩, ⟨2, 0, .ro, 0⟩]⟩ /- RX_STAT -/,
  ⟨0x064, 1, [⟨31, 0, .ro, 0⟩]⟩ /- RX_LATE -/,
  ⟨0x068, 1, [⟨31, 0, .ro, 0⟩]⟩ /- RX_EARLY -/,
  ⟨0x06C, 1, [⟨31, 0, .ro, 0⟩]⟩ /- RX_LOST -/,
  ⟨0x070, 1, [⟨31, 0, .ro, 0⟩]⟩ /- RX_SEQGAP -/,
  ⟨0x074, 1, [⟨31, 0, .ro, 0⟩]⟩ /- RX_BAD -/,
  ⟨0x078, 1, [⟨31, 0, .ro, 0⟩]⟩ /- RX_SSRC_CHG -/,
  ⟨0x07C, 1, [⟨31, 14, .ro, 0⟩, ⟨7, 0, .ro, 0⟩]⟩ /- RX_BIH -/]

/-- STREAM, page 0x65. -/
def page65 : List RegRow := page65p0

def page66p0 : List RegRow := [
  ⟨0x040, 1, [⟨31, 31, .rwa, 0⟩, ⟨29, 28, .rwa, 0⟩, ⟨27, 26, .rwa, 1⟩, ⟨25, 24, .rwa, 3⟩, ⟨21, 16, .rwa, 0⟩, ⟨9, 0, .rwa, 0⟩]⟩ /- TX_CFG0 -/,
  ⟨0x044, 1, [⟨31, 0, .rwa, 0⟩]⟩ /- TX_CFG1 -/,
  ⟨0x048, 1, [⟨31, 16, .rwa, 0x138c⟩, ⟨15, 0, .rwa, 0x138c⟩]⟩ /- TX_CFG2 -/,
  ⟨0x04C, 1, [⟨31, 0, .rwa, 0⟩]⟩ /- TX_CFG3 -/,
  ⟨0x050, 1, [⟨31, 0, .rwa, 0⟩]⟩ /- TX_CFG4 -/,
  ⟨0x054, 1, [⟨31, 20, .rwa, 0⟩, ⟨19, 19, .rwa, 0⟩, ⟨18, 16, .rwa, 5⟩, ⟨13, 8, .rwa, 46⟩, ⟨7, 7, .rwa, 0⟩, ⟨6, 0, .rwa, 97⟩]⟩ /- TX_CFG5 -/,
  ⟨0x058, 1, [⟨7, 0, .rwa, 16⟩]⟩ /- TX_CFG6 -/,
  ⟨0x060, 1, [⟨1, 1, .ro, 0⟩, ⟨0, 0, .ro, 0⟩]⟩ /- TX_STAT -/,
  ⟨0x064, 1, [⟨31, 0, .ro, 0⟩]⟩ /- TX_PKTS -/,
  ⟨0x068, 1, [⟨31, 0, .ro, 0⟩]⟩ /- TX_DROP -/,
  ⟨0x06C, 1, [⟨31, 0, .ro, 0⟩]⟩ /- TX_NOARP -/]

/-- STREAM, page 0x66. -/
def page66 : List RegRow := page66p0

def page67p0 : List RegRow := [
  ⟨0x040, 8, [⟨31, 0, .ro, 0⟩]⟩ /- STR_CONC -/]

/-- STREAM, page 0x67. -/
def page67 : List RegRow := page67p0

def page68p0 : List RegRow := [
  ⟨0x040, 1, [⟨2, 2, .rw, 0⟩, ⟨1, 1, .w1s, 0⟩, ⟨0, 0, .rw, 0⟩]⟩ /- TD_CTRL -/,
  ⟨0x044, 1, [⟨8, 8, .w1c, 0⟩, ⟨4, 4, .ro, 0⟩, ⟨3, 3, .ro, 0⟩, ⟨1, 0, .ro, 0⟩]⟩ /- TD_STAT -/,
  ⟨0x048, 1, [⟨15, 0, .ro, 0⟩]⟩ /- TD_SEC_HI -/,
  ⟨0x04C, 1, [⟨31, 0, .ro, 0⟩]⟩ /- TD_SEC_LO -/,
  ⟨0x050, 1, [⟨29, 0, .ro, 0⟩]⟩ /- TD_NS -/,
  ⟨0x054, 1, [⟨31, 0, .ro, 0⟩]⟩ /- TD_FRAC -/,
  ⟨0x058, 1, [⟨31, 0, .ro, 0⟩]⟩ /- TD_RATE -/,
  ⟨0x05C, 1, [⟨31, 0, .ro, 0⟩]⟩ /- TD_OFFSET -/,
  ⟨0x060, 1, [⟨31, 0, .ro, 0⟩]⟩ /- TD_ANCHOR_LO -/,
  ⟨0x064, 1, [⟨31, 0, .ro, 0⟩]⟩ /- TD_ANCHOR_HI -/,
  ⟨0x068, 1, [⟨31, 0, .ro, 0⟩]⟩ /- TD_ANCHOR_SLIP -/,
  ⟨0x06C, 1, [⟨31, 0, .ro, 0⟩]⟩ /- TD_STEP_CNT -/,
  ⟨0x080, 1, [⟨31, 28, .rw, 1⟩, ⟨27, 24, .rw, 13⟩, ⟨17, 16, .rw, 1⟩, ⟨14, 14, .rw, 0⟩, ⟨13, 13, .rw, 0⟩, ⟨12, 12, .rw, 0⟩, ⟨10, 8, .rw, 0⟩, ⟨7, 0, .rw, 0⟩]⟩ /- PTP_CFG -/,
  ⟨0x084, 1, [⟨5, 4, .ro, 0⟩, ⟨3, 0, .ro, 0⟩]⟩ /- PTP_STAT -/,
  ⟨0x088, 1, [⟨31, 0, .ro, 0⟩]⟩ /- PTP_GM_LO -/,
  ⟨0x08C, 1, [⟨31, 0, .ro, 0⟩]⟩ /- PTP_GM_HI -/]

/-- TD, page 0x68. -/
def page68 : List RegRow := page68p0

def page6Cp0 : List RegRow := [
  ⟨0x040, 1, [⟨31, 0, .rw, 0xa000000⟩]⟩ /- TDC_INC -/,
  ⟨0x044, 1, [⟨31, 0, .ro, 0⟩]⟩ /- TDC_CNT_LO -/,
  ⟨0x048, 1, [⟨31, 0, .ro, 0⟩]⟩ /- TDC_CNT_HI -/,
  ⟨0x04C, 1, [⟨31, 0, .rw, 0⟩]⟩ /- TDC_SET_LO -/,
  ⟨0x050, 1, [⟨31, 0, .rw, 0⟩]⟩ /- TDC_SET_HI -/,
  ⟨0x054, 1, [⟨0, 0, .w1s, 0⟩]⟩ /- TDC_CTRL -/,
  ⟨0x058, 1, [⟨31, 0, .ro, 0⟩]⟩ /- TDC_TICK_LO -/,
  ⟨0x05C, 1, [⟨31, 0, .ro, 0⟩]⟩ /- TDC_TICK_HI -/]

/-- TDCOMPAT, page 0x6C. -/
def page6C : List RegRow := page6Cp0

def page70p0 : List RegRow := [
  ⟨0x040, 1, [⟨15, 8, .rw, 10⟩, ⟨0, 0, .rw, 0⟩]⟩ /- REF_CTRL -/,
  ⟨0x044, 1, [⟨25, 16, .rw, 100⟩, ⟨15, 8, .rw, 16⟩, ⟨7, 0, .rw, 20⟩]⟩ /- REF_CTRL1 -/,
  ⟨0x048, 1, [⟨31, 16, .rw, 60⟩, ⟨15, 0, .rw, 20⟩]⟩ /- REF_CTRL2 -/,
  ⟨0x04C, 1, [⟨10, 8, .rw, 1⟩, ⟨6, 4, .rw, 1⟩, ⟨0, 0, .rw, 0⟩]⟩ /- REF_EXT -/,
  ⟨0x050, 8, [⟨31, 31, .rw, 0⟩, ⟨27, 24, .rw, 0⟩, ⟨23, 20, .rw, 0⟩, ⟨19, 10, .rw, 50⟩, ⟨7, 0, .rw, 10⟩]⟩ /- REF_CAND -/,
  ⟨0x070, 1, [⟨13, 13, .ro, 0⟩, ⟨12, 12, .ro, 0⟩, ⟨10, 8, .ro, 0⟩, ⟨7, 4, .ro, 8⟩, ⟨2, 0, .ro, 0⟩]⟩ /- REF_STAT -/,
  ⟨0x074, 1, [⟨23, 16, .ro, 0⟩, ⟨15, 8, .ro, 0⟩, ⟨7, 0, .ro, 0⟩]⟩ /- REF_QUAL -/,
  ⟨0x078, 1, [⟨31, 0, .ro, 0⟩]⟩ /- REF_PD -/,
  ⟨0x07C, 1, [⟨31, 0, .ro, 0⟩]⟩ /- REF_PD_SEQ -/,
  ⟨0x080, 1, [⟨31, 0, .rw, 0⟩]⟩ /- REF_NCO -/,
  ⟨0x084, 1, [⟨31, 0, .rw, 0⟩]⟩ /- REF_FREERUN -/,
  ⟨0x088, 1, [⟨31, 0, .ro, 0⟩]⟩ /- REF_HOLD -/,
  ⟨0x08C, 1, [⟨31, 0, .ro, 0⟩]⟩ /- REF_SWITCH_CNT -/,
  ⟨0x090, 1, [⟨19, 16, .ro, 0⟩, ⟨11, 8, .ro, 8⟩, ⟨3, 0, .ro, 8⟩]⟩ /- REF_LAST -/,
  ⟨0x0A0, 2, [⟨8, 8, .rw, 0⟩, ⟨6, 4, .rw, 1⟩, ⟨0, 0, .rw, 0⟩]⟩ /- WOUT_CTRL -/,
  ⟨0x0A8, 1, [⟨16, 16, .rw, 0⟩, ⟨13, 12, .rw, 0⟩, ⟨9, 0, .rw, 100⟩]⟩ /- PPS_CTRL -/,
  ⟨0x0AC, 1, [⟨2, 0, .w1s, 0⟩]⟩ /- ALIGN -/,
  ⟨0x0B0, 1, [⟨10, 8, .ro, 0⟩]⟩ /- ALIGN_STAT -/,
  ⟨0x0B4, 2, [⟨31, 0, .ro, 0⟩]⟩ /- WOUT_OFS -/,
  ⟨0x0BC, 1, [⟨31, 0, .ro, 0⟩]⟩ /- PPS_OFS -/]

/-- REFSEL, page 0x70. -/
def page70 : List RegRow := page70p0

def page71p0 : List RegRow := [
  ⟨0x040, 8, [⟨31, 16, .ro, 0⟩, ⟨2, 2, .ro, 0⟩, ⟨1, 1, .ro, 0⟩, ⟨0, 0, .ro, 0⟩]⟩ /- REF_MEAS -/,
  ⟨0x080, 8, [⟨31, 0, .ro, 0⟩]⟩ /- REF_DISQ_CNT -/]

/-- REFSEL, page 0x71. -/
def page71 : List RegRow := page71p0

def page72p0 : List RegRow := [
  ⟨0x040, 1, [⟨8, 8, .ro, 0⟩, ⟨4, 4, .ro, 0⟩, ⟨2, 0, .ro, 0⟩]⟩ /- CG_STAT -/,
  ⟨0x044, 1, [⟨5, 0, .ro, 0⟩]⟩ /- CG_MON -/,
  ⟨0x048, 1, [⟨31, 0, .ro, 0⟩]⟩ /- CG_LOSS_CNT -/,
  ⟨0x050, 1, [⟨15, 0, .ro, 0⟩, ⟨20, 16, .ro, 0⟩]⟩ /- CDC_STAT -/,
  ⟨0x054, 1, [⟨31, 0, .ro, 0⟩]⟩ /- CDC_PARK_CNT -/,
  ⟨0x058, 1, [⟨31, 0, .ro, 0⟩]⟩ /- CDC_DISCARD -/,
  ⟨0x05C, 1, [⟨19, 12, .ro, 0⟩, ⟨11, 0, .ro, 0⟩]⟩ /- CDC_LAST -/]

/-- CLKGEN, page 0x72. -/
def page72 : List RegRow := page72p0

def page78p0 : List RegRow := [
  ⟨0x040, 1, [⟨9, 9, .rw, 0⟩, ⟨8, 8, .rw, 0⟩, ⟨4, 4, .rw, 0⟩]⟩ /- LANE_CTRL -/,
  ⟨0x044, 1, [⟨31, 24, .ro, 0⟩, ⟨18, 16, .ro, 0⟩, ⟨10, 8, .ro, 0⟩, ⟨4, 4, .ro, 0⟩, ⟨3, 3, .ro, 1⟩, ⟨2, 2, .ro, 0⟩, ⟨1, 1, .ro, 0⟩, ⟨0, 0, .ro, 0⟩]⟩ /- LANE_STAT -/,
  ⟨0x048, 1, [⟨20, 16, .rw, 6⟩, ⟨11, 8, .rw, 2⟩, ⟨5, 0, .rw, 40⟩]⟩ /- LANE_TX -/,
  ⟨0x04C, 1, [⟨27, 24, .ro, 0⟩, ⟨23, 0, .ro, 0⟩]⟩ /- LANE_RX -/,
  ⟨0x050, 1, [⟨15, 8, .rw, 32⟩, ⟨7, 0, .rw, 20⟩]⟩ /- LANE_FOM_CFG -/,
  ⟨0x054, 1, [⟨21, 16, .ro, 0⟩, ⟨7, 0, .ro, 0⟩]⟩ /- LANE_EYE -/,
  ⟨0x058, 1, [⟨31, 0, .ro, 0⟩]⟩ /- LANE_TRAIN_CNT -/,
  ⟨0x05C, 1, [⟨31, 0, .ro, 0⟩]⟩ /- LANE_LOSS_CNT -/,
  ⟨0x060, 1, [⟨31, 0, .ro, 0⟩]⟩ /- LANE_CODE_ERR -/,
  ⟨0x080, 1, [⟨22, 20, .rw, 0⟩, ⟨18, 16, .rw, 0⟩, ⟨11, 8, .rw, 0⟩, ⟨3, 0, .rw, 0⟩]⟩ /- LANE_TEST -/,
  ⟨0x084, 1, [⟨31, 0, .rw, 0xaaaa5555⟩]⟩ /- LANE_USER_PAT -/,
  ⟨0x088, 1, [⟨4, 4, .w1s, 0⟩, ⟨3, 0, .rw, 0⟩]⟩ /- LANE_INJ -/,
  ⟨0x08C, 1, [⟨31, 16, .ro, 0⟩, ⟨0, 0, .ro, 0⟩]⟩ /- LANE_PRBS_STAT -/,
  ⟨0x090, 1, [⟨31, 0, .ro, 0⟩]⟩ /- LANE_PRBS_ERR -/,
  ⟨0x094, 1, [⟨31, 0, .ro, 0⟩]⟩ /- LANE_PRBS_BITS_LO -/,
  ⟨0x098, 1, [⟨15, 0, .ro, 0⟩]⟩ /- LANE_PRBS_BITS_HI -/,
  ⟨0x09C, 1, [⟨31, 0, .ro, 0⟩]⟩ /- LANE_INJ_CNT -/]

/-- LANE, page 0x78. -/
def page78 : List RegRow := page78p0

def page80p0 : List RegRow := [
  ⟨0x040, 1, [⟨31, 16, .rwa, 0⟩, ⟨8, 8, .rwa, 0⟩, ⟨7, 0, .rwa, 10⟩]⟩ /- PAIR_CFG -/,
  ⟨0x044, 1, [⟨17, 0, .rwa, 0⟩]⟩ /- NODE_ID -/,
  ⟨0x048, 1, [⟨7, 0, .rwa, 4⟩]⟩ /- PAIR_EXCUSE -/,
  ⟨0x04C, 1, [⟨18, 16, .ro, 0⟩, ⟨9, 9, .ro, 0⟩, ⟨2, 2, .ro, 0⟩, ⟨1, 1, .ro, 0⟩, ⟨0, 0, .ro, 0⟩]⟩ /- PAIR_STAT -/,
  ⟨0x050, 1, [⟨31, 16, .ro, 0⟩, ⟨15, 0, .ro, 0⟩]⟩ /- PAIR_CLAIM -/,
  ⟨0x054, 1, [⟨17, 0, .ro, 0⟩]⟩ /- PAIR_PEER_NODE -/,
  ⟨0x058, 1, [⟨31, 8, .ro, 0⟩, ⟨7, 0, .ro, 0⟩]⟩ /- PAIR_XFER -/,
  ⟨0x05C, 1, [⟨23, 0, .ro, 0⟩]⟩ /- PAIR_XFER_MS -/,
  ⟨0x060, 1, [⟨3, 0, .ro, 0⟩]⟩ /- PAIR_LAST -/,
  ⟨0x064, 1, [⟨31, 0, .ro, 0⟩]⟩ /- PAIR_LAST_TICK_LO -/,
  ⟨0x068, 1, [⟨31, 0, .ro, 0⟩]⟩ /- PAIR_LAST_TICK_HI -/,
  ⟨0x06C, 1, [⟨31, 0, .ro, 0⟩]⟩ /- PAIR_PROMO_CNT -/,
  ⟨0x070, 1, [⟨31, 0, .ro, 0⟩]⟩ /- PAIR_MISMATCH_CNT -/,
  ⟨0x074, 1, [⟨31, 0, .ro, 0⟩]⟩ /- PAIR_EXCUSE_CNT -/,
  ⟨0x078, 1, [⟨31, 0, .ro, 0⟩]⟩ /- PAIR_RESYNC_CNT -/,
  ⟨0x080, 1, [⟨31, 0, .ro, 0⟩]⟩ /- PAIR_DIGEST_LO -/,
  ⟨0x084, 1, [⟨31, 0, .ro, 0⟩]⟩ /- PAIR_DIGEST_HI -/,
  ⟨0x088, 1, [⟨19, 0, .ro, 0⟩]⟩ /- PAIR_MIRROR -/,
  ⟨0x08C, 1, [⟨19, 0, .ro, 0⟩]⟩ /- PAIR_MIRROR_LIM -/,
  ⟨0x100, 64, [⟨31, 0, .rwa, 0⟩]⟩ /- PAIR_MIRIN -/]

def page80p1 : List RegRow := [
  ⟨0x200, 8, [⟨31, 0, .w1c, 0⟩]⟩ /- PAIR_SIGDIFF -/]

/-- PAIR, page 0x80. -/
def page80 : List RegRow := page80p0 ++ page80p1

def page81p0 : List RegRow := [
  ⟨0x040, 1, [⟨5, 4, .rwa, 3⟩, ⟨1, 0, .rwa, 2⟩]⟩ /- PB_CTRL -/,
  ⟨0x044, 1, [⟨10, 8, .ro, 0⟩, ⟨5, 4, .ro, 0⟩, ⟨1, 0, .ro, 0⟩]⟩ /- PB_STAT -/,
  ⟨0x048, 1, [⟨15, 0, .ro, 0⟩]⟩ /- PB_LAT -/,
  ⟨0x04C, 1, [⟨19, 0, .ro, 0⟩]⟩ /- PB_TX_TICK -/,
  ⟨0x050, 1, [⟨19, 0, .ro, 0⟩]⟩ /- PB_RX_TICK -/,
  ⟨0x054, 1, [⟨31, 0, .ro, 0⟩]⟩ /- PB_CRC_ERR -/,
  ⟨0x058, 1, [⟨31, 0, .ro, 0⟩]⟩ /- PB_RETX -/,
  ⟨0x05C, 1, [⟨31, 0, .ro, 0⟩]⟩ /- PB_LANE_LOSS -/,
  ⟨0x060, 1, [⟨31, 16, .ro, 0⟩, ⟨15, 8, .ro, 0⟩, ⟨1, 0, .ro, 0⟩]⟩ /- PB_PEER_CAP -/]

/-- PORBUOD, page 0x81. -/
def page81 : List RegRow := page81p0

def page82p0 : List RegRow := [
  ⟨0x040, 1, [⟨31, 16, .ro, 0⟩, ⟨15, 8, .ro, 0⟩, ⟨2, 2, .ro, 0⟩, ⟨1, 1, .ro, 0⟩, ⟨0, 0, .ro, 0⟩]⟩ /- PB_LANE0_STAT -/,
  ⟨0x044, 1, [⟨31, 16, .ro, 0⟩, ⟨15, 8, .ro, 0⟩, ⟨2, 2, .ro, 0⟩, ⟨1, 1, .ro, 0⟩, ⟨0, 0, .ro, 0⟩]⟩ /- PB_LANE1_STAT -/]

/-- PORBUOD, page 0x82. -/
def page82 : List RegRow := page82p0

def page83p0 : List RegRow := [
  ⟨0x040, 1, [⟨16, 16, .rwa, 1⟩, ⟨15, 0, .rwa, 0⟩]⟩ /- CLM_CTRL -/,
  ⟨0x044, 1, [⟨3, 0, .rwa, 8⟩]⟩ /- CLM_MERGE -/,
  ⟨0x048, 1, [⟨31, 16, .ro, 0⟩, ⟨0, 0, .ro, 0⟩]⟩ /- CLM_PINS -/,
  ⟨0x060, 1, [⟨15, 8, .ro, 0⟩, ⟨7, 0, .ro, 0⟩]⟩ /- CLM_MSEL_TDM -/,
  ⟨0x064, 1, [⟨31, 0, .ro, 0⟩]⟩ /- CLM_SWITCH_CNT -/,
  ⟨0x068, 1, [⟨31, 0, .ro, 0⟩]⟩ /- CLM_GAP_CNT -/,
  ⟨0x06C, 1, [⟨31, 0, .ro, 0⟩]⟩ /- CLM_MUTE_CNT -/,
  ⟨0x070, 1, [⟨31, 0, .ro, 0⟩]⟩ /- CLM_BAD_CNT -/,
  ⟨0x080, 8, [⟨16, 16, .rwa, 0⟩, ⟨7, 4, .rwa, 0⟩, ⟨3, 0, .rwa, 0⟩]⟩ /- CLM_MTDM -/,
  ⟨0x100, 128, [⟨16, 16, .rwa, 0⟩, ⟨15, 8, .rwa, 0⟩, ⟨7, 0, .rwa, 0⟩]⟩ /- CLM_MSTR -/,
  ⟨0x300, 4, [⟨31, 0, .ro, 0⟩]⟩ /- CLM_MSEL_STR -/,
  ⟨0x310, 4, [⟨31, 0, .ro, 0⟩]⟩ /- CLM_MUTE_STR -/]

/-- CLAIM, page 0x83. -/
def page83 : List RegRow := page83p0

def page88p0 : List RegRow := [
  ⟨0x040, 1, [⟨31, 16, .rw, 250⟩, ⟨0, 0, .rw, 1⟩]⟩ /- SR_SCRUB -/,
  ⟨0x044, 1, [⟨31, 0, .ro, 0⟩]⟩ /- SR_SCRUB_PASS -/,
  ⟨0x048, 1, [⟨31, 0, .ro, 0⟩]⟩ /- SR_SBE_CNT -/,
  ⟨0x04C, 1, [⟨31, 0, .ro, 0⟩]⟩ /- SR_DBE_CNT -/,
  ⟨0x050, 1, [⟨30, 28, .ro, 0⟩, ⟨21, 0, .ro, 0⟩]⟩ /- SR_DBE_LAST -/,
  ⟨0x054, 1, [⟨31, 16, .ro, 0⟩, ⟨9, 0, .ro, 0⟩]⟩ /- SR_REMAP -/,
  ⟨0x058, 1, [⟨8, 8, .w1s, 0⟩, ⟨1, 1, .ro, 0⟩, ⟨0, 0, .ro, 0⟩]⟩ /- SR_SECURE -/,
  ⟨0x05C, 1, [⟨31, 0, .ro, 0⟩]⟩ /- SR_ZERO_CNT -/,
  ⟨0x060, 1, [⟨31, 0, .ro, 0⟩]⟩ /- SR_CONFLICT -/]

/-- SRAMCTL, page 0x88. -/
def page88 : List RegRow := page88p0

def page89p0 : List RegRow := [
  ⟨0x040, 1, [⟨25, 24, .ro, 0⟩, ⟨19, 16, .ro, 0⟩, ⟨8, 8, .ro, 0⟩, ⟨1, 1, .ro, 0⟩, ⟨0, 0, .ro, 0⟩]⟩ /- DR_CFG -/,
  ⟨0x044, 1, [⟨2, 2, .ro, 0⟩, ⟨1, 1, .ro, 0⟩, ⟨0, 0, .ro, 0⟩]⟩ /- DR_STAT -/,
  ⟨0x048, 1, [⟨15, 0, .rw, 64⟩]⟩ /- DR_SCRUB -/,
  ⟨0x04C, 1, [⟨31, 0, .ro, 0⟩]⟩ /- DR_BW -/,
  ⟨0x050, 1, [⟨22, 16, .rw, 0⟩, ⟨6, 0, .ro, 0⟩]⟩ /- DR_QUEUE -/,
  ⟨0x054, 1, [⟨31, 0, .ro, 0⟩]⟩ /- DR_SBE -/,
  ⟨0x058, 1, [⟨31, 0, .ro, 0⟩]⟩ /- DR_DBE -/,
  ⟨0x05C, 1, [⟨31, 0, .ro, 0⟩]⟩ /- DR_DBE_ADDR_LO -/,
  ⟨0x060, 1, [⟨31, 0, .ro, 0⟩]⟩ /- DR_DBE_ADDR_HI -/,
  ⟨0x064, 1, [⟨31, 0, .ro, 0⟩]⟩ /- DR_TAP_LATE -/]

/-- DRAM, page 0x89. -/
def page89 : List RegRow := page89p0

def page8Bp0 : List RegRow := [
  ⟨0x040, 1, [⟨31, 31, .w1s, 0⟩, ⟨17, 16, .rw, 0⟩, ⟨12, 12, .rw, 1⟩, ⟨8, 8, .rw, 0⟩, ⟨0, 0, .w1s, 0⟩]⟩ /- MR_CTRL -/,
  ⟨0x044, 1, [⟨8, 0, .rw, 0⟩]⟩ /- MR_BANK -/,
  ⟨0x048, 1, [⟨21, 0, .rw, 0⟩]⟩ /- MR_DRAM_START -/,
  ⟨0x04C, 1, [⟨22, 0, .rw, 1⟩]⟩ /- MR_DRAM_LEN -/,
  ⟨0x050, 1, [⟨7, 4, .ro, 0⟩, ⟨3, 0, .ro, 0⟩]⟩ /- MR_STAT -/,
  ⟨0x054, 1, [⟨31, 0, .ro, 0⟩]⟩ /- MR_FAIL_ADDR -/,
  ⟨0x058, 1, [⟨22, 0, .ro, 0⟩]⟩ /- MR_SEG_DONE -/,
  ⟨0x05C, 1, [⟨31, 16, .ro, 0⟩, ⟨9, 0, .ro, 0⟩]⟩ /- MR_BOOT -/,
  ⟨0x060, 1, [⟨0, 0, .ro, 0⟩]⟩ /- MR_HOLD -/]

/-- MARCH, page 0x8B. -/
def page8B : List RegRow := page8Bp0

def page8Cp0 : List RegRow := [
  ⟨0x040, 1, [⟨11, 0, .rw, 256⟩]⟩ /- FB_AGE -/,
  ⟨0x044, 1, [⟨23, 16, .rw, 0⟩, ⟨7, 0, .ro, 0⟩]⟩ /- FB_OUTST -/,
  ⟨0x048, 1, [⟨31, 0, .ro, 0⟩]⟩ /- FB_HELD_ORD -/,
  ⟨0x04C, 1, [⟨31, 0, .ro, 0⟩]⟩ /- FB_HELD_CRED -/,
  ⟨0x050, 1, [⟨31, 0, .ro, 0⟩]⟩ /- FB_LOCK_TO -/,
  ⟨0x054, 1, [⟨31, 16, .ro, 0⟩, ⟨11, 8, .ro, 0⟩, ⟨3, 0, .ro, 0⟩]⟩ /- FB_NOPATH -/,
  ⟨0x080, 12, [⟨15, 0, .rw, 0⟩]⟩ /- FB_MAXWAIT -/]

/-- FABRIC, page 0x8C. -/
def page8C : List RegRow := page8Cp0

def page90p0 : List RegRow := [
  ⟨0x040, 1, [⟨31, 16, .ro, 0⟩, ⟨15, 8, .ro, 0⟩, ⟨7, 4, .ro, 0⟩, ⟨3, 3, .ro, 0⟩, ⟨2, 0, .ro, 0⟩]⟩ /- FLT_TOP -/,
  ⟨0x044, 1, [⟨26, 24, .ro, 0⟩, ⟨19, 0, .ro, 0⟩]⟩ /- FLT_TOP1 -/,
  ⟨0x048, 1, [⟨31, 24, .wo, 0⟩, ⟨15, 8, .wo, 0⟩, ⟨3, 0, .wo, 0⟩]⟩ /- FLT_ACK -/,
  ⟨0x04C, 1, [⟨2, 2, .rw, 1⟩, ⟨1, 1, .rw, 1⟩]⟩ /- FLT_AUTO -/,
  ⟨0x050, 1, [⟨31, 24, .ro, 0⟩, ⟨23, 16, .ro, 0⟩, ⟨15, 8, .ro, 0⟩, ⟨7, 0, .ro, 0⟩]⟩ /- FLT_OPEN -/,
  ⟨0x054, 1, [⟨31, 31, .ro, 0⟩, ⟨15, 8, .ro, 0⟩, ⟨3, 0, .ro, 0⟩]⟩ /- FLT_BROKEN -/,
  ⟨0x058, 1, [⟨16, 0, .ro, 0⟩]⟩ /- KAT_STAT -/,
  ⟨0x05C, 1, [⟨31, 0, .ro, 0⟩]⟩ /- KAT_LATE_CNT -/,
  ⟨0x060, 1, [⟨31, 0, .ro, 0⟩]⟩ /- KAT_ROUNDS -/,
  ⟨0x080, 1, [⟨30, 28, .rw, 0⟩, ⟨24, 16, .rw, 0⟩, ⟨3, 0, .rw, 0⟩]⟩ /- FLT_INJ -/,
  ⟨0x084, 1, [⟨8, 8, .ro, 0⟩, ⟨3, 0, .ro, 0⟩]⟩ /- PF_STAT -/]

/-- FAULT, page 0x90. -/
def page90 : List RegRow := page90p0

def page91p0 : List RegRow := [
  ⟨0x040, 8, [⟨31, 0, .ro, 0⟩]⟩ /- FLT_PAGE_OPEN -/,
  ⟨0x060, 1, [⟨31, 0, .ro, 0⟩]⟩ /- FLT_ESC_CNT -/,
  ⟨0x064, 1, [⟨31, 0, .ro, 0⟩]⟩ /- FLT_YIELD_CNT -/,
  ⟨0x068, 1, [⟨31, 0, .ro, 0⟩]⟩ /- FLT_F4_CNT -/]

/-- FAULT, page 0x91. -/
def page91 : List RegRow := page91p0

def page98p0 : List RegRow := [
  ⟨0x040, 1, [⟨31, 0, .ro, 0⟩]⟩ /- MB_FW_VER -/,
  ⟨0x044, 1, [⟨31, 16, .ro, 0⟩, ⟨15, 0, .ro, 0⟩]⟩ /- MB_FW_INFO -/,
  ⟨0x048, 1, [⟨11, 11, .ro, 0⟩, ⟨10, 10, .ro, 0⟩, ⟨9, 9, .ro, 0⟩, ⟨8, 8, .ro, 0⟩, ⟨2, 0, .ro, 0⟩]⟩ /- MB_BOOT -/,
  ⟨0x04C, 1, [⟨3, 0, .ro, 1⟩]⟩ /- MB_RESET_CAUSE -/,
  ⟨0x050, 1, [⟨31, 16, .wo, 0⟩, ⟨1, 0, .wo, 0⟩]⟩ /- MB_RESET -/,
  ⟨0x054, 1, [⟨31, 16, .ro, 0⟩, ⟨15, 0, .ro, 0⟩]⟩ /- MB_TIMES -/,
  ⟨0x058, 1, [⟨31, 16, .ro, 0⟩, ⟨2, 0, .ro, 0⟩]⟩ /- MB_UPD -/,
  ⟨0x060, 1, [⟨31, 0, .ro, 0⟩]⟩ /- MB_SLOT_A -/,
  ⟨0x064, 1, [⟨31, 0, .ro, 0⟩]⟩ /- MB_SLOT_B -/,
  ⟨0x06C, 1, [⟨31, 0, .ro, 0⟩]⟩ /- MB_HEARTBEAT -/]

/-- MBOX, page 0x98. -/
def page98 : List RegRow := page98p0

def page99p0 : List RegRow := [
  ⟨0x040, 8, [⟨15, 0, .ro, 0⟩]⟩ /- SN_TEMP -/,
  ⟨0x060, 1, [⟨15, 0, .rw, 0x8000⟩]⟩ /- SN_TEMP_MAX -/,
  ⟨0x064, 1, [⟨23, 16, .ro, 115⟩, ⟨15, 8, .rw, 105⟩, ⟨7, 0, .rw, 100⟩]⟩ /- SN_TLIM -/,
  ⟨0x080, 12, [⟨31, 16, .rw, 0xffff⟩, ⟨15, 0, .ro, 0⟩]⟩ /- SN_RAIL -/,
  ⟨0x0C0, 1, [⟨15, 8, .rw, 12⟩, ⟨7, 0, .rw, 6⟩]⟩ /- SN_RAIL_WIN -/,
  ⟨0x0C4, 1, [⟨27, 16, .ro, 0⟩, ⟨11, 0, .ro, 0⟩]⟩ /- SN_RAIL_STAT -/]

/-- SENSOR, page 0x99. -/
def page99 : List RegRow := page99p0

def page9Ap0 : List RegRow := [
  ⟨0x040, 1, [⟨31, 0, .ro, 0⟩]⟩ /- LOG_HEAD -/,
  ⟨0x044, 1, [⟨31, 0, .ro, 0⟩]⟩ /- LOG_OLDEST -/,
  ⟨0x048, 1, [⟨22, 16, .ro, 0⟩, ⟨1, 1, .ro, 0⟩, ⟨0, 0, .ro, 0⟩]⟩ /- LOG_STAT -/,
  ⟨0x04C, 1, [⟨31, 0, .ro, 0⟩]⟩ /- LOG_DROP -/,
  ⟨0x050, 1, [⟨31, 0, .ro, 0⟩]⟩ /- LOG_FLUSH_CNT -/,
  ⟨0x054, 1, [⟨31, 0, .ro, 0⟩]⟩ /- LOG_AREA_BASE -/,
  ⟨0x058, 1, [⟨31, 0, .ro, 0⟩]⟩ /- LOG_AREA_SIZE -/]

/-- LOG, page 0x9A. -/
def page9A : List RegRow := page9Ap0

def page9Bp0 : List RegRow := [
  ⟨0x040, 1, [⟨8, 8, .ro, 0⟩, ⟨2, 0, .ro, 0⟩]⟩ /- LC_STATE -/,
  ⟨0x044, 1, [⟨4, 4, .ro, 0⟩, ⟨3, 3, .ro, 0⟩, ⟨2, 0, .ro, 0⟩]⟩ /- LC_KEYS -/,
  ⟨0x048, 1, [⟨15, 0, .ro, 0⟩]⟩ /- LC_SVN -/,
  ⟨0x04C, 1, [⟨4, 4, .rw, 0⟩, ⟨1, 0, .rw, 0⟩]⟩ /- LC_TAMPER_CFG -/,
  ⟨0x050, 1, [⟨7, 4, .ro, 0⟩, ⟨0, 0, .ro, 0⟩]⟩ /- LC_TAMPER_STAT -/,
  ⟨0x054, 1, [⟨1, 0, .ro, 0⟩]⟩ /- LC_TAP -/,
  ⟨0x080, 12, [⟨31, 0, .ro, 0⟩]⟩ /- LC_ROOT_HASH -/]

/-- LIFECYCLE, page 0x9B. -/
def page9B : List RegRow := page9Bp0

end Sys2Proof.Machine.RegTab
end

