-- ==== Sys2Proof/Machine/RegDir.lean ====
section
/-!
DEFINITION. The page map of R511 with each page's header values (R26, R27, R541, the NSRC and reset classes of the
fault-source tables), and what every register reads as after a cold reset (R516).
-/
namespace Sys2Proof.Machine.RegDir

def pagesA : List PageRow := [
  ⟨0x00, 1, 0x0001, 0, 0, false, false, false, false, 0, true, [], RegTab.page00⟩ /- DEVICE -/,
  ⟨0x01, 1, 0x0002, 0, 0, false, false, false, false, 0, true, [], RegTab.page01⟩ /- TICK -/,
  ⟨0x02, 1, 0x0003, 0, 0, false, false, false, false, 0, false, [2, 2, 1, 0, 0, 0], RegTab.page02⟩ /- ADMIT -/,
  ⟨0x03, 1, 0x0004, 0, 1, true, false, true, false, 0, false, [1, 1, 1, 1, 0], RegTab.page03⟩ /- ENERGY -/,
  ⟨0x04, 1, 0x0004, 1, 1, true, false, true, false, 0, false, [], RegTab.page04⟩ /- ENERGY -/,
  ⟨0x08, 1, 0x0005, 0, 3, false, false, false, false, 4, true, [0, 1, 0, 0, 1], RegTab.page08⟩ /- HOST -/,
  ⟨0x09, 1, 0x0005, 1, 3, false, false, false, false, 4, true, [], RegTab.page09⟩ /- HOST -/,
  ⟨0x0A, 1, 0x0005, 2, 3, false, false, false, false, 4, true, [], RegTab.page0A⟩ /- HOST rings 0-31 -/,
  ⟨0x0B, 1, 0x0005, 3, 3, false, false, false, false, 4, true, [], RegTab.page0A⟩ /- HOST rings 32-63 -/,
  ⟨0x10, 16, 0x0010, 0, 0, false, true, false, false, 8, false, [2, 2, 2, 2, 0, 0], RegTab.page10⟩ /- CLUSTER -/,
  ⟨0x20, 1, 0x0011, 0, 3, true, false, true, true, 8, false, [0, 0, 0], RegTab.page20⟩ /- XPT -/,
  ⟨0x21, 1, 0x0011, 1, 3, true, false, true, true, 8, false, [], RegTab.page21⟩ /- XPT -/,
  ⟨0x22, 1, 0x0011, 2, 3, true, false, true, true, 8, false, [], RegTab.page22⟩ /- XPT -/,
  ⟨0x23, 1, 0x0011, 3, 3, true, false, true, true, 8, false, [], RegTab.page23⟩ /- XPT -/,
  ⟨0x24, 1, 0x0012, 0, 0, true, false, false, false, 0, false, [0, 1, 1, 1, 2], RegTab.page24⟩ /- SCENE -/,
  ⟨0x28, 1, 0x0013, 0, 3, true, false, true, true, 4, false, [2, 2, 2, 1, 1, 1, 0, 0, 1, 1], RegTab.page28⟩ /- SAFELIGHT -/,
  ⟨0x29, 1, 0x0013, 1, 3, true, false, true, true, 4, false, [], RegTab.page29⟩ /- SAFELIGHT -/,
  ⟨0x2A, 1, 0x0013, 2, 3, true, false, true, true, 4, false, [], RegTab.page2A⟩ /- SAFELIGHT -/,
  ⟨0x2B, 1, 0x0013, 3, 3, true, false, true, true, 4, false, [], RegTab.page2A⟩ /- SAFELIGHT -/,
  ⟨0x30, 16, 0x0020, 0, 0, true, false, true, false, 8, false, [2, 0, 1], RegTab.page30⟩ /- TDM -/,
  ⟨0x40, 8, 0x0021, 0, 0, true, false, true, false, 8, false, [2, 0, 0], RegTab.page40⟩ /- AESIN -/,
  ⟨0x48, 8, 0x0022, 0, 0, true, false, true, false, 8, false, [], RegTab.page48⟩ /- AESOUT -/,
  ⟨0x50, 1, 0x0023, 0, 0, true, false, true, false, 8, false, [2, 1], RegTab.page50⟩ /- PDM -/,
  ⟨0x51, 1, 0x0024, 0, 0, true, false, true, false, 8, false, [1], RegTab.page51⟩ /- ASRC -/,
  ⟨0x58, 1, 0x0025, 0, 0, true, false, true, false, 0, false, [2, 2, 2, 2, 2, 2, 2, 2, 0], RegTab.page58⟩ /- TRIG -/]

def pagesB : List PageRow := [
  ⟨0x60, 3, 0x0030, 0, 0, false, false, true, false, 0, false, [1, 0, 0, 0], RegTab.page60⟩ /- MAC -/,
  ⟨0x64, 1, 0x0031, 0, 3, true, false, true, false, 8, false, [1, 1, 1, 0, 1], RegTab.page64⟩ /- STREAM -/,
  ⟨0x65, 1, 0x0031, 1, 3, true, false, true, false, 8, false, [], RegTab.page65⟩ /- STREAM receive window -/,
  ⟨0x66, 1, 0x0031, 2, 3, true, false, true, false, 8, false, [], RegTab.page66⟩ /- STREAM transmit window -/,
  ⟨0x67, 1, 0x0031, 3, 3, true, false, true, false, 8, false, [], RegTab.page67⟩ /- STREAM -/,
  ⟨0x68, 4, 0x0032, 0, 0, true, false, false, false, 0, false, [1, 0, 1, 1], RegTab.page68⟩ /- TD -/,
  ⟨0x6C, 1, 0x0033, 0, 0, false, false, false, false, 0, false, [], RegTab.page6C⟩ /- TDCOMPAT -/,
  ⟨0x70, 1, 0x0038, 0, 1, false, false, false, false, 0, false, [1, 1, 1, 2, 0], RegTab.page70⟩ /- REFSEL -/,
  ⟨0x71, 1, 0x0038, 1, 1, false, false, false, false, 0, false, [], RegTab.page71⟩ /- REFSEL -/,
  ⟨0x72, 1, 0x0039, 0, 0, false, false, false, false, 0, true, [4, 4, 4, 3, 2, 0, 1], RegTab.page72⟩ /- CLKGEN -/,
  ⟨0x78, 8, 0x003A, 0, 0, false, false, false, false, 0, false, [0, 1, 1, 0], RegTab.page78⟩ /- LANE -/,
  ⟨0x80, 1, 0x0040, 0, 0, false, false, true, false, 0, false, [2, 2, 2, 1, 1, 2, 0, 0, 1, 2], RegTab.page80⟩ /- PAIR -/,
  ⟨0x81, 1, 0x0041, 0, 1, false, false, true, false, 8, false, [1, 2, 0, 1], RegTab.page81⟩ /- PORBUOD -/,
  ⟨0x82, 1, 0x0041, 1, 1, false, false, true, false, 8, false, [], RegTab.page82⟩ /- PORBUOD -/,
  ⟨0x83, 1, 0x0042, 0, 0, false, false, true, false, 0, false, [1, 0, 2, 0], RegTab.page83⟩ /- CLAIM -/,
  ⟨0x88, 1, 0x0048, 0, 0, false, false, false, false, 0, true, [0, 2, 3, 3, 2, 2, 0], RegTab.page88⟩ /- SRAMCTL -/,
  ⟨0x89, 2, 0x0049, 0, 0, false, false, false, false, 0, false, [0, 2, 3, 1, 1], RegTab.page89⟩ /- DRAM -/,
  ⟨0x8B, 1, 0x004A, 0, 0, false, false, false, false, 4, false, [2, 4, 0, 1], RegTab.page8B⟩ /- MARCH -/,
  ⟨0x8C, 1, 0x004B, 0, 0, false, false, false, false, 0, true, [1, 1, 2, 1], RegTab.page8C⟩ /- FABRIC -/,
  ⟨0x90, 1, 0x0050, 0, 1, false, false, false, false, 0, true, [2, 3, 1, 3, 4, 2, 0], RegTab.page90⟩ /- FAULT -/,
  ⟨0x91, 1, 0x0050, 1, 1, false, false, false, false, 0, true, [], RegTab.page91⟩ /- FAULT -/,
  ⟨0x98, 1, 0x0058, 0, 0, false, false, false, false, 4, true, [2, 1, 2, 0], RegTab.page98⟩ /- MBOX -/,
  ⟨0x99, 1, 0x0059, 0, 0, false, false, false, false, 0, true, [1, 2, 3, 1, 3], RegTab.page99⟩ /- SENSOR -/,
  ⟨0x9A, 1, 0x005A, 0, 0, false, false, false, false, 0, true, [1, 2], RegTab.page9A⟩ /- LOG -/,
  ⟨0x9B, 1, 0x005B, 0, 0, false, false, false, false, 0, true, [2, 2, 0], RegTab.page9B⟩ /- LIFECYCLE -/]

/-- Every allocated page (R511); any page not listed is unallocated (R10). -/
def pages : List PageRow := pagesA ++ pagesB

/-- The row of page `p`. -/
def page? (p : Nat) : Option PageRow := pages.find? fun r => decide (r.page ≤ p) && decide (p < r.page + r.insts)

/-- The cycles of object type `t` (R64), per group-sample, per tap for the FIR. -/
def costCycles : Nat → Nat
  | 0x01 => 2 | 0x02 => 6 | 0x03 => 12 | 0x04 => 14 | 0x05 => 22 | 0x06 => 10 | 0x07 => 3 | 0x08 => 4
  | 0x09 => 4 | 0x0A => 3 | 0x0B => 8 | 0x0C => 1 | 0x0D => 5 | 0x0E => 4 | 0x0F => 2 | _ => 0

/-- The energy of object type `t` in pJ (R64), per group-sample, per tap for the FIR. -/
def costPj : Nat → Nat
  | 0x01 => 600 | 0x02 => 1800 | 0x03 => 3600 | 0x04 => 4200 | 0x05 => 6600 | 0x06 => 3000 | 0x07 => 900
  | 0x08 => 1680 | 0x09 => 1200 | 0x0A => 900 | 0x0B => 2400 | 0x0C => 300 | 0x0D => 1500 | 0x0E => 1440
  | 0x0F => 840 | _ => 0

/-- The DRAM bytes per group-sample of object type `t` (R64). -/
def costDram : Nat → Nat
  | 0x08 => 32 | 0x0E => 16 | 0x0F => 16 | _ => 0

/-- The register rows behind an address: those of its page, or those of a stream window for a stream's own home. -/
def rowsAt (a : Nat) : List RegRow :=
  if a < 0x100000 then
    match page? (a / 4096) with
    | some r => r.regs
    | none => []
  else if a < 0x200000 then RegTab.page65
  else RegTab.page66

/-- The offset of an address within the register rows of its page (for a ring, within the ring's set). -/
def rowOffset (a : Nat) : Nat :=
  if 0x100000 ≤ a then a % 0x100
  else if 0x0A100 ≤ a ∧ a < 0x0A500 ∨ 0x0B100 ≤ a ∧ a < 0x0B500 then a % 0x20
  else a % 4096

/-- Whether an offset belongs to a register row. -/
def rowHas (r : RegRow) (o : Nat) : Bool := decide (r.off ≤ o) && decide (o < r.off + 4 * r.count)

/-- The register row at an address of a block's own registers. On pages 0x0A and 0x0B only offsets 0x100 to 0x4FF
hold rings. -/
def row? (a : Nat) : Option RegRow :=
  if (a / 4096 = 0x0A ∨ a / 4096 = 0x0B) ∧ ¬ (0x100 ≤ a % 4096 ∧ a % 4096 < 0x500) then none
  else (rowsAt a).find? fun r => rowHas r (rowOffset a)

/-- The reset word of a register row: its fields' reset values at their places. -/
def rowReset (r : RegRow) : Word :=
  r.fields.foldl (fun w f => w ||| (BitVec.ofNat 32 f.rst <<< f.lo)) 0

/-- Three bits of the reset class of source `n` at their place in FLT_CLASS0 or FLT_CLASS1 (R31). -/
def packClasses : Nat → List Nat → Nat
  | _, [] => 0
  | n, c :: t => c * 2 ^ (3 * n) + packClasses (n + 1) t

/-- The reset word of a header offset (R26 to R33) of a page row, at page number `p`. -/
def headerReset (r : PageRow) (p o : Nat) : Word :=
  match o with
  | 0x000 => BitVec.ofNat 32 (r.typ * 65536 + (if r.pages = 0 then p - r.page else r.index) * 256 + 1)
  | 0x004 => BitVec.ofNat 32 (r.pages * 4096 + r.mirror.toNat * 2048 + r.pwr.toNat * 1024 + r.admits.toNat * 512 +
      r.shadow.toNat * 256 + r.classes.length)
  | 0x008 => BitVec.ofNat 32 (r.qos * 16 + r.en.toNat)
  | 0x01C => BitVec.ofNat 32 (packClasses 0 (r.classes.take 8))
  | 0x020 => BitVec.ofNat 32 (packClasses 0 (r.classes.drop 8))
  | _ => 0

/-- Reset values that depend on the element or instance: ring vectors (spec/02), COST_TABLE (R64), PAUSE_EN of MACM,
slot 7 of REF_CAND, the channel status of an AES3 transmitter, and the mask bit of an MSI-X vector (PCIe). -/
def special (a : Nat) : Option Word :=
  if (a / 4096 = 0x0A ∨ a / 4096 = 0x0B) ∧ 0x100 ≤ a % 4096 ∧ a % 4096 < 0x500 ∧ a % 0x20 = 0x14 then
    some (BitVec.ofNat 32 (0x100 + (a / 4096 - 0x0A) * 32 + (a % 4096 - 0x100) / 0x20))
  else if 0x02100 ≤ a ∧ a < 0x02200 then
    some (BitVec.ofNat 32 (costPj ((a - 0x02100) / 4) * 65536 + costCycles ((a - 0x02100) / 4)))
  else if a = 0x62040 then some 0x00000012
  else if a = 0x60040 ∨ a = 0x61040 then some 0x00010002
  else if a = 0x7006C then some (BitVec.ofNat 32 (9 * 2 ^ 20 + 50 * 1024 + 10))
  else if 0x48000 ≤ a ∧ a < 0x50000 ∧ (a % 4096 = 0x050 ∨ a % 4096 = 0x068) then some 1
  else if 0x09400 ≤ a ∧ a < 0x09800 ∧ a % 16 = 12 then some 1
  else none

/-- What the register at address `a` reads as after a cold reset. -/
def reset (a : Nat) : Word :=
  match special a with
  | some w => w
  | none =>
    if a < 0x100000 ∧ a % 4096 < 0x40 then
      match page? (a / 4096) with
      | some r => headerReset r (a / 4096) (a % 4096)
      | none => 0
    else
      match row? a with
      | some r => rowReset r
      | none => 0

end Sys2Proof.Machine.RegDir
end

