-- ==== Sys2Proof/Machine/Cost.lean ====
section
/-!
DEFINITION. The cost model of admission: the usable budget, cluster and crosspoint costs, critical paths, the Dissolve
reserve, placement, memory and energy (R59 to R65, R68, R74, R75, R90, R92, R236, R467).
-/
namespace Sys2Proof.Machine

/-- usable (R59), in engine cycles; the division is exact: 0.97 fE F / (1.00025 fs). -/
def usableCycles (f fs : Nat) : Nat := 97 * 1200000000 * f * 1000 / (fs * 100025)

/-- cost_i: cycles per group-sample of an instance at frame length `f` (R61, R64, R236). -/
def instCycles (p : Plan) (i : InstRec) : Nat :=
  if i.typ = 0x80 then
    match p.kerns[i.kern]? with
    | some k => k.cyc + ceilDiv k.ovh p.F
    | none => 0
  else if i.typ = 0x0C then i.size
  else RegDir.costCycles i.typ

/-- Cycles per tick of an instance: F × cost_i + 30 (R61, R77). -/
def instTick (p : Plan) (i : InstRec) : Nat := p.F * instCycles p i + 30

/-- Extra cycles per tick of a dissolving instance (R65, R74). -/
def instExtra (p : Plan) (i : InstRec) : Nat := p.F * (instCycles p i + 2) + 30

/-- Cycles per tick of a dissolving instance (R65). -/
def instDissolving (p : Plan) (i : InstRec) : Nat := p.F * (2 * instCycles p i + 2) + 60

/-- Energy of an instance per tick in pJ (R64, R236, R467). -/
def instPj (p : Plan) (i : InstRec) : Nat :=
  let e := if i.typ = 0x80 then 300 * instCycles p i else if i.typ = 0x0C then 300 * i.size else RegDir.costPj i.typ
  p.F * e + 9000

/-- The declared latency of an instance in samples (R64, R236). -/
def instLatency (p : Plan) (i : InstRec) : Nat :=
  if i.typ = 0x80 then (match p.kerns[i.kern]? with | some k => k.latency | none => 0)
  else if i.typ = 0x04 ∨ i.typ = 0x05 then i.lookahead
  else if i.typ = 0x0C ∧ i.linphase then (i.size - 1) / 2
  else 0

/-- Coefficient array of an instance in bytes (R92, R231). -/
def instCoefBytes (p : Plan) (i : InstRec) : Nat :=
  match i.typ with
  | 0x02 => 80
  | 0x03 => 160
  | 0x0C => 4 * i.size
  | 0x80 => (match p.kerns[i.kern]? with | some k => k.coefBytes | none => 0)
  | _ => 0

/-- Cluster data memory of an instance in bytes, its two record copies included (R92, R236). -/
def instDataBytes (p : Plan) (i : InstRec) : Nat :=
  match i.typ with
  | 0x01 => 128 + 32
  | 0x02 => 128 + 224
  | 0x03 => 128 + 448
  | 0x04 => 128 + 64 + 16 * i.lookahead
  | 0x05 => 128 + 96 + 16 * i.lookahead
  | 0x06 => 128 + 32
  | 0x07 => 128 + 16 * i.size + 16
  | 0x08 => 128 + 512
  | 0x09 => 128 + 96
  | 0x0A => 128 + 32
  | 0x0B => 128 + 128
  | 0x0C => 128 + 24 * i.size
  | 0x0D => 128 + 32
  | 0x0E => 128 + 512
  | 0x0F => 128 + 512
  | 0x80 => (match p.kerns[i.kern]? with | some k => k.dataBytes + 2 * (64 + k.coefBytes) | none => 0)
  | _ => 0

/-- DRAM of an instance in bytes (R92, R118). -/
def instDramBytes (i : InstRec) : Nat :=
  match i.typ with
  | 0x08 => 256 * i.size
  | 0x0F => 134217728
  | _ => 0

/-- The mirrored record of an instance in bytes per tick (R92, R123, R237). -/
def instMirrorBytes (p : Plan) (i : InstRec) : Nat :=
  if ¬ i.mirror then 0
  else match i.typ with
  | 0x01 => 16
  | 0x02 => 64
  | 0x03 => 128
  | 0x04 => 64 + 16 * i.lookahead
  | 0x05 => 96 + 16 * i.lookahead
  | 0x06 => 32
  | 0x07 => 16 * p.F
  | 0x08 => 16 * p.F
  | 0x09 => 96
  | 0x0A => 32
  | 0x0B => 128
  | 0x0C => 16 * p.F
  | 0x0D => 32
  | 0x0E => 32
  | 0x80 => (match p.kerns[i.kern]? with | some k => k.mirrorBytes | none => 0)
  | _ => 0

/-- T_B of R62. -/
def Plan.tB (p : Plan) : Nat := ceilDiv (p.sDim * p.buDim * p.F) 128 + 2 * p.buDim
/-- T_D of R62. -/
def Plan.tD (p : Plan) : Nat := ceilDiv (p.buDim * p.oDim * p.F) 128 + 2 * p.oDim
/-- x_B of R63. -/
def Plan.xB (p : Plan) : Nat := ceilDiv (p.sDim * (if p.F = 1 then 8 else 4 * p.F)) 128 + 8
/-- x_D of R63. -/
def Plan.xD (p : Plan) : Nat := ceilDiv (p.buDim * (if p.F = 1 then 8 else 4 * p.F)) 128 + 8

/-- r_B and r_D of R75: columns that may ramp at once at F = 1. -/
def rampCols (allowance dim : Nat) : Nat := max 1 (ceilDiv (allowance * dim) 100)

/-- The reserve cycles that R75 adds to T_B and T_D. -/
def Plan.resB (p : Plan) (a : Nat) : Nat := if p.F = 1 then ceilDiv (rampCols a p.buDim * p.sDim) 128 else 0
def Plan.resD (p : Plan) (a : Nat) : Nat := if p.F = 1 then ceilDiv (rampCols a p.oDim * p.buDim) 128 else 0

/-- One group of a cluster's load: its phase, its group number and its instances' cycles and extra cycles. -/
structure GroupLoad where
  phase : Nat
  group : Nat
  insts : List (Nat × Nat)
deriving DecidableEq, Repr

/-- The cycles per tick of a group. -/
def GroupLoad.cost (g : GroupLoad) : Nat := (g.insts.map (·.1)).sum

/-- T_p,c over a cluster's groups (R61). -/
def phaseCost (l : List GroupLoad) (ph : Nat) : Nat := ((l.filter (·.phase == ph)).map GroupLoad.cost).sum

/-- h_p,c: the costliest group of a phase (R63). -/
def costliest (l : List GroupLoad) (ph : Nat) : Nat := ((l.filter (·.phase == ph)).map GroupLoad.cost).foldl max 0

/-- path(c) of R63 from a cluster's groups, with the given T_B, T_D and Safelight share (R264). -/
def pathOf (p : Plan) (l : List GroupLoad) (tB tD share : Nat) : Nat :=
  let joinC := if l.any (·.phase == 1) then max (costliest l 1) p.xB else 0
  let joinE := if l.any (·.phase == 2) then max (costliest l 2) p.xD else 0
  400 + phaseCost l 0 + 96 + (max tB (phaseCost l 1) + joinC) + 96 + (max tD (phaseCost l 2) + joinE) + share

/-- A list with `x` put in at its place in falling order. -/
def insertDesc (x : Nat) : List Nat → List Nat
  | [] => [x]
  | a :: t => if a ≤ x then x :: a :: t else a :: insertDesc x t

/-- A list in falling order. -/
def sortDesc : List Nat → List Nat
  | [] => []
  | a :: t => insertDesc a (sortDesc t)

/-- The sum of the `k` largest. -/
def topSum (k : Nat) (l : List Nat) : Nat := ((sortDesc l).take k).sum

/-- What each instance of a cluster's groups adds to path(c) when it dissolves, once it is fixed which term of each
maximum of R63 counts: `tc`, `te` the cluster terms, `gc`, `ge` the group whose cost is the join. -/
def addWeights (l : List GroupLoad) (tc te : Bool) (gc ge : Option Nat) : List Nat :=
  l.flatMap fun g => g.insts.map fun x =>
    x.2 * ((if g.phase = 0 then 1 else 0) + (if g.phase = 1 ∧ tc then 1 else 0) + (if g.phase = 2 ∧ te then 1 else 0) +
      (if g.phase = 1 ∧ gc = some g.group then 1 else 0) + (if g.phase = 2 ∧ ge = some g.group then 1 else 0))

/-- The cost of a chosen join group; none stands for x_B or x_D. -/
def joinCost (l : List GroupLoad) (ph x : Nat) : Option Nat → Nat
  | none => if l.any (·.phase == ph) then x else 0
  | some g => ((l.filter fun y => y.phase == ph && y.group == g).map GroupLoad.cost).sum

/-- The join choices of a phase: its groups, and x_B or x_D. -/
def joinChoices (l : List GroupLoad) (ph : Nat) : List (Option Nat) :=
  none :: (l.filter (·.phase == ph)).map fun g => some g.group

/-- path(c) with the reserve (R74): the largest over every choice of the term that counts in each maximum, each with the
`k` instances that add most under it.  A maximum is the largest of its terms, so this is the largest path(c) that
any `k` dissolving instances give. -/
def pathReserve (p : Plan) (l : List GroupLoad) (tB tD share k : Nat) : Nat :=
  let opts := (joinChoices l 1).flatMap fun gc => (joinChoices l 2).map fun ge => (gc, ge)
  let all := [(true, true), (true, false), (false, true), (false, false)].flatMap fun t => opts.map fun g => (t, g)
  (all.map fun x =>
    400 + phaseCost l 0 + 192 + (if x.1.1 then phaseCost l 1 else tB) + joinCost l 1 p.xB x.2.1 +
      (if x.1.2 then phaseCost l 2 else tD) + joinCost l 2 p.xD x.2.2 + share +
      topSum k (addWeights l x.1.1 x.1.2 x.2.1 x.2.2)).foldl max 0

/-- Every (phase, group) that holds an instance, in strip order (R68). -/
def stripsOf (p : Plan) : List (Nat × Nat) :=
  [0, 1, 2].flatMap fun ph => ((List.range (p.groups ph)).filter fun g => p.insts.any fun i => i.phase == ph && i.group == g).map
    fun g => (ph, g)

/-- The load of one strip. -/
def stripLoad (p : Plan) (s : Nat × Nat) : GroupLoad :=
  { phase := s.1, group := s.2,
    insts := (stripOf p.insts s.1 s.2).map fun x => (instTick p x.2, instExtra p x.2) }

/-- How many earlier instances of the strip have the same TYPE and SIZE (R68). -/
def ordinalOf (l : List InstRec) (h : Nat) (i : InstRec) : Nat :=
  ((indexed l).filter fun x => decide (x.1 < h) && sameStrip x.2 i && x.2.typ == i.typ && x.2.kern == i.kern && x.2.size == i.size).length

/-- The handle in the running plan that an instance of the new plan keeps, cluster aside (R68). -/
def matchOld (new old : List InstRec) (h : Nat) (i : InstRec) : Option Nat :=
  (((indexed old).filter fun x => sameStrip x.2 i && x.2.typ == i.typ && x.2.kern == i.kern && x.2.size == i.size)[ordinalOf new h i]?).map
    fun x => x.1

/-- The old handle an instance keeps (R68): none where its strip names another cluster than the match has. -/
def keptOf (p : Plan) (old : Option Admitted) (h : Nat) (i : InstRec) : Option Nat :=
  match old with
  | none => none
  | some a =>
    match matchOld p.insts a.plan.insts h i with
    | none => none
    | some o =>
      match stripCluster p.insts i.phase i.group with
      | some c => if a.place[o]? = some c then some o else none
      | none => some o

/-- The cluster a strip stands on before automatic placement: the one it names, or that of a kept instance. -/
def stripFixed (p : Plan) (old : Option Admitted) (s : Nat × Nat) : Option Nat :=
  match stripCluster p.insts s.1 s.2 with
  | some c => some c
  | none =>
    match old with
    | none => none
    | some a => (stripOf p.insts s.1 s.2).findSome? fun x => (keptOf p old x.1 x.2).bind fun o => a.place[o]?

/-- The loads placed on cluster `c`. -/
def loadsOn (p : Plan) (pl : List ((Nat × Nat) × Nat)) (c : Nat) : List GroupLoad :=
  (pl.filter fun x => x.2 == c).map fun x => stripLoad p x.1

/-- The cluster with the least critical path, the lower number on a tie (R68). -/
def leastCluster (p : Plan) (share : Nat → Nat) (pl : List ((Nat × Nat) × Nat)) : Nat :=
  ((List.range 16).foldl (fun (best : Nat × Nat) c =>
    let v := pathOf p (loadsOn p pl c) p.tB p.tD (share c)
    if v < best.2 then (c, v) else best) (0, pathOf p (loadsOn p pl 0) p.tB p.tD (share 0))).1

/-- Strips put in falling order of cost, the lower strip number first on a tie (R68). -/
def insertStrip (p : Plan) (x : Nat × Nat) : List (Nat × Nat) → List (Nat × Nat)
  | [] => [x]
  | a :: t => if (stripLoad p a).cost ≤ (stripLoad p x).cost then x :: a :: t else a :: insertStrip p x t

def sortStrips (p : Plan) : List (Nat × Nat) → List (Nat × Nat)
  | [] => []
  | a :: t => insertStrip p a (sortStrips p t)

/-- Placement of every strip (R68): named and kept strips first, then the others in falling order of cost. -/
def placeStrips (p : Plan) (old : Option Admitted) (share : Nat → Nat) : List ((Nat × Nat) × Nat) :=
  let fixed := (stripsOf p).filterMap fun s => (stripFixed p old s).map fun c => (s, c)
  let rest := sortStrips p ((stripsOf p).filter fun s => (stripFixed p old s).isNone)
  rest.foldl (fun pl s => pl ++ [(s, leastCluster p share pl)]) fixed

/-- The cluster of every instance, from the strips' placement. -/
def placeInsts (p : Plan) (pl : List ((Nat × Nat) × Nat)) : List Nat :=
  p.insts.map fun i => match pl.find? fun x => x.1 == (i.phase, i.group) with
    | some x => x.2
    | none => 0

/-- Coefficient arrays from 0xA1_0000 upward in handle order, each aligned to 64 bytes; a kept instance keeps its offset
(R90).  An added one takes the lowest aligned place that no array laid out before it and no kept array meets. -/
def freePlace (used : List (Nat × Nat)) (len : Nat) : Nat → Nat → Nat
  | 0, at_ => at_
  | n + 1, at_ =>
    match used.find? fun u => decide (at_ < u.1 + (u.2 + 63) / 64 * 64) && decide (u.1 < at_ + (len + 63) / 64 * 64) with
    | none => at_
    | some u => freePlace used len n (u.1 + (u.2 + 63) / 64 * 64)

def layCoef (p : Plan) (old : Option Admitted) (kept : List (Option Nat)) : List (Nat × Nat) :=
  let keptAt (h : Nat) : Option (Nat × Nat) :=
    match old, kept[h]? with
    | some a, some (some o) => a.coef[o]?
    | _, _ => none
  let held := (List.range p.insts.length).filterMap fun h => (keptAt h).bind fun c => if c.2 = 0 then none else some c
  (indexed p.insts).foldl (fun (acc : List (Nat × Nat)) x =>
    match keptAt x.1 with
    | some c => acc ++ [c]
    | none =>
      let len := instCoefBytes p x.2
      if len = 0 then acc ++ [(0, 0)]
      else acc ++ [(freePlace (held ++ acc.filter (·.2 != 0)) len (held.length + acc.length + 1) 0xA10000, len)]) []

/-- The instances on cluster `c`. -/
def onCluster (p : Plan) (place : List Nat) (c : Nat) : List InstRec :=
  ((p.insts.zip place).filter fun x => x.2 == c).map (·.1)

/-- The Dissolve places of a cluster (R74, R76). -/
def placesOf (p : Plan) (place : List Nat) (allowance c : Nat) : Nat := ceilDiv (allowance * (onCluster p place c).length) 100

/-- Worst dynamic power of the instances and the crosspoint in pJ per tick, by class 0 to 3 (R467); `share` is the number
of share clusters times SHARE_CYC, `slBytes` the Safelight DRAM bytes per sample (R266). -/
def dynamicPj (p : Plan) (place : List Nat) (allowance share slBytes cls : Nat) : Nat :=
  let ofInst (l : List InstRec) := ((l.filter (·.cls == cls)).map (instPj p)).sum
  let reserve := ((List.range 16).map fun c =>
    let on := onCluster p place c
    let k := placesOf p place allowance c
    -- the k instances of highest energy, whatever their class; a lower class stands first on a tie
    let ranked := sortDesc (on.map fun i => instPj p i * 4 + (3 - i.cls))
    ((ranked.take k).filter fun v => 3 - v % 4 == cls).map (· / 4) |>.sum).sum
  ofInst p.insts + reserve + (if cls = 3 then 40 * (p.sDim * p.buDim + p.buDim * p.oDim) * p.F else 0) +
    (if cls = 0 then share * 300 + slBytes * p.F * 15 else 0)

/-- pJ per tick as mW, rounded up (R70). -/
def mwOf (p : Plan) (pj : Nat) : Nat := ceilDiv (pj * p.fs) (p.F * 1000000000)

/-- Static power in mW at a rate: worst and expected (R466). -/
def staticMw (rate : Nat) : Nat × Nat := (17400 + 100 * rateClass rate, 8400 + 100 * rateClass rate)

/-- Worst power of the plan in mW (R468). -/
def worstMw (p : Plan) (place : List Nat) (a share sl : Nat) : Nat :=
  (staticMw p.rate).1 + mwOf p (((List.range 4).map (dynamicPj p place a share sl)).sum)

/-- Part (a) of planned mode (R468). -/
def partAMw (p : Plan) (place : List Nat) (a share sl : Nat) : Nat :=
  (staticMw p.rate).1 + mwOf p (dynamicPj p place a share sl 2 + dynamicPj p place a share sl 3)

/-- Part (b) of planned mode (R468), with the expectation percentages of EN_EXPECT. -/
def partBMw (p : Plan) (place : List Nat) (a share sl prog bkg : Nat) : Nat :=
  (staticMw p.rate).2 + ceilDiv ((100 * (dynamicPj p place a share sl 2 + dynamicPj p place a share sl 3) +
    prog * dynamicPj p place a share sl 1 + bkg * dynamicPj p place a share sl 0) * p.fs) (p.F * 100000000000)

end Sys2Proof.Machine
end

