-- ==== Sys2Proof/Machine/EngineTypes.lean ====
section
/-!
DEFINITION. What the engine and the scene machinery hold while a plan runs: frames, clips, the recorder, triggers, Develops and Fix
(spec/03 to spec/06).
-/
namespace Sys2Proof.Machine

/-- A clip of the library (R113). -/
structure Clip where
  num : Nat
  rate : Nat
  channels : Nat
  length : Nat
  loopStart : Nat
  /-- Samples, interleaved by channel. -/
  data : List Word
deriving DecidableEq, Repr

/-- A clip start or stop fixed for a tick (R115, R151): player, clip (none = STOP), loop flag, preset to apply first. -/
structure ClipStart where
  tick : Nat
  player : Nat
  clip : Option Nat
  loop : Bool
  preset : Nat
  /-- On a standby: whether its confirm has come (R304). -/
  confirmed : Bool
  /-- Its tick has come: the player takes it up with that tick's frame. -/
  taken : Bool
deriving DecidableEq, Repr

/-- One tick of a recorder tap: tick, tap handle, its F group-samples in order (R118, R121). -/
structure TapTick where
  tick : Nat
  handle : Nat
  words : List Word
deriving DecidableEq, Repr

/-- The incident recorder (R118 to R122). -/
structure Recorder where
  frozen : Bool
  draining : Bool
  autoPending : Bool
  /-- Milliseconds left of POST_MS while AUTO_PENDING, as a deadline on the device's millisecond count. -/
  autoAt : Nat
  /-- A FREEZE written in this tick, which takes effect at its end (R120). -/
  freezing : Bool
  resumeNext : Bool
  /-- REC_CTRL as written (R119), and the capture ring of the drain. -/
  ctrl : Nat
  ring : Nat
  freezeTick : Nat
  fill : Nat
  /-- The first tick that the drain has not sent. -/
  from_ : Nat
  /-- What the rings hold, newest first. -/
  tape : List TapTick
deriving DecidableEq, Repr

/-- A trigger input (R149). -/
structure Trigger where
  asserted : Bool
  fault : Bool
  /-- Consecutive readings of the other state, of equal levels, and of complementary levels in a fault. -/
  other : Nat
  equal : Nat
  good : Nat
  /-- The last reading: 0 = Released, 1 = Asserted, 2 = line fault. -/
  reading : Nat
  /-- Whether the present assertion has fired (R152). -/
  fired : Bool
deriving DecidableEq, Repr

/-- A firing fixed for a tick (R151): input, on Asserted or on Released, Ta, the entries of the input as read at detection
(number, 16 bytes), and, on a standby, whether its confirm has come (R152). -/
structure Firing where
  input : Nat
  asserted : Bool
  tick : Nat
  entries : List (Nat × List Byte)
  confirmed : Bool
deriving DecidableEq, Repr

/-- A command whose completion comes later (R54): its ring, opcode, TAG, SEQ, FLAGS. -/
structure Ticket where
  ring : Nat
  op : Nat
  tag : Nat
  seq : Nat
  irq : Bool
deriving DecidableEq, Repr

/-- A Develop between dispatch and its commit tick (R159 to R164). -/
structure Develop where
  seq : Nat
  tick : Nat
  lr : Nat
  ld : Nat
  classes : Nat
  /-- Commit set: bank lines (by number) with their 64 bytes, and RWS registers with their values. -/
  lines : List (Nat × List Byte)
  regs : List (Nat × Word)
  withPlan : Bool
  ls : Bool
  armed : Bool
  ticket : Option Ticket
  /-- Pages of its journal record (R161). -/
  pages : Nat
  /-- On the standby: whether the active's confirm has come (R163, R304). -/
  confirmed : Bool
deriving DecidableEq, Repr

/-- What a journal record holds, by its kind 1 to 7 (R180). -/
inductive JrnlBody where
  | develop (d : Develop) (plan : Option Admitted)
  | mark
  | void
  | preset (p : Nat)
  | store (lines : List (Nat × List Byte))
  | seal
  | cap (mw : Nat)
deriving DecidableEq, Repr

/-- A journal record (R180): tick, Develop sequence, length in bytes with its header, body. -/
structure JrnlRec where
  tick : Nat
  seq : Nat
  len : Nat
  body : JrnlBody
deriving DecidableEq, Repr

/-- The configuration of R174 as a FIX copies it. -/
structure ConfigImage where
  plan : Option Admitted
  bank : Mem
  regs : Sparse Word
  store : Mem
  cap : Nat
  clips : List Clip
  tick : Nat
deriving DecidableEq, Repr

/-- A configuration slot of the flash (R175, R176): its image (none = invalid) and its journal. -/
structure Slot where
  image : Option ConfigImage
  journal : List JrnlRec
deriving DecidableEq, Repr

/-- A Contact sheet (R55): ring, K, selectors, the tick it counts from, whether a sheet was dropped, and per selector what
has been gathered: largest magnitude, sum of squares, ORed state word. -/
structure Sheet where
  ring : Nat
  k : Nat
  sels : List Word
  done : Nat
  dropped : Bool
  acc : List (Nat × Nat × Nat)
  /-- A replacement that waits for the next sheet boundary: K, selectors. -/
  next : Option (Nat × List Word)
deriving DecidableEq, Repr

/-- A disruptive plan change under way (R73): commit tick, R, and samples of the ramp down or up done. -/
structure Restart where
  tick : Nat
  first : Nat
  admitted : Admitted
  /-- The Develop whose commit set takes effect at R. -/
  dev : Develop
deriving DecidableEq, Repr

/-- A plan whose instances take over with the next tick start: the plan they replace, the Develop that brought them, its
first frame, whether every instance starts from rest. -/
structure Incoming where
  admitted : Admitted
  old : Option Admitted
  dev : Develop
  tick : Nat
  fresh : Bool
deriving DecidableEq, Repr

/-- The level of every output (R73, R447, R543): full, zero, a ramp at sample `j` of `n`, or zero until a ramp of `n` samples
starts with a tick. -/
inductive OutLevel where
  | full
  | falling (j n : Nat)
  | zero
  | rising (j n : Nat)
  | rises (tick n : Nat)
deriving DecidableEq, Repr

/-- The engine (spec/03 to spec/05). -/
structure EngSt where
  loaded : Option Plan
  /-- Admitted and waiting for its DEVELOP; running (R73). -/
  pend : Option Admitted
  run : Option Admitted
  /-- The instances of the frame in process, and the plan they belong to; the plan that takes over from the next frame on. -/
  proc : Option Admitted
  incoming : Option Incoming
  insts : List Inst
  /-- Input samples captured in this tick, and which are valid (R16); mirrored inputs one tick behind (R292). -/
  cap : Frame
  capOk : NatSet
  late : Frame
  lateOk : NatSet
  /-- The frame in process: input, validity, after concealment, concealed samples. -/
  inp : Frame
  inpOk : NatSet
  aIn : Frame
  bad : NatSet
  /-- Input strips, bus sums, bus strips, output sums, output strips (R17, R18). -/
  aOut : Frame
  bSum : Frame
  cOut : Frame
  dSum : Frame
  eOut : Frame
  /-- What has been marked complete in this tick: phase A, B, D; groups of C and E. -/
  aDone : Bool
  bDone : Bool
  cDone : List Nat
  dDone : Bool
  eDone : List Nat
  /-- Hold and ramp of output groups that came late (R79): the samples held, lane by lane, and samples done. -/
  lateOut : Sparse (List Word × Nat)
  /-- The frame leaving in this tick, and the level of the outputs. -/
  emit : Frame
  level : OutLevel
  /-- Stopped by an F4 action or a decommissioning once the ramp has ended (R447, R448, R497). -/
  halting : Bool
  conc : Sparse Conceal
  ramps : List NodeRamp
  deferred : List DeferredCol
  /-- What the frame in process sees of registers, banks and node ramps: as they stood before this tick's commit (R129). -/
  viewRegs : Sparse Word
  viewWin : Mem
  viewRamps : List NodeRamp
  /-- Zone activity words set at the end of phase D, and those the duckers of this frame read (R139). -/
  zoneNew : Sparse Nat
  zoneOld : Sparse Nat
  clips : List Clip
  players : List Player
  starts : List ClipStart
  recorder : Recorder
  trigs : List Trigger
  firings : List Firing
  /-- Trigger entries that hold a bus at a level, or hold it active (R137, R138, R151): entry, bus, level. -/
  raises : List (Nat × Nat × Nat)
  forces : List (Nat × Nat)
  /-- Whether a bus sum of the frame in process saturated (R128). -/
  satB : Bool
  restart : Option Restart
  /-- Look-ahead of strips (R473) and their level while shed (R471), keyed by 65536 × phase + group: the last group-samples,
  newest first. -/
  look : Sparse (List (Vector Word 4))
  shed : Sparse OutLevel
  /-- Ambient estimates by index (R107): level, tick. -/
  amb : Sparse (Int × Nat)
  /-- TICK_MATCH armed for a tick that has not started (R518). -/
  matchAt : Option Nat
  /-- The reason of the last kernel refused (R235). -/
  admReason : Nat
deriving DecidableEq, Repr

/-- Develops, Fix and the dirty marks (spec/06). -/
structure SceneSt where
  /-- Dirty bank lines by number, dirty RWS registers by address (R156). -/
  lines : NatSet
  regs : NatSet
  /-- Between dispatch and arming; armed (R161). -/
  arming : Option Develop
  armed : Option Develop
  seq : Nat
  /-- Writes held while a Develop is armed (R158), oldest first: BAR2 offset or register address with 2^32 added, word. -/
  held : List (Nat × Word)
  /-- The configuration slots (R175) and the pointer's SEQ. -/
  slots : List Slot
  slot : Nat
  ptrSeq : Nat
  /-- The two pointer blocks of the flash (R175, R177); an erased or torn one holds nothing. -/
  ptrs : List (List Byte)
  /-- FIX: its snapshot and ticket, and whether the partner's half and its own are done and well (R178, R179). -/
  fix : Option ConfigImage
  /-- The tick boundary S of the FIX under way (R178, R179). -/
  fixAt : Nat
  fixTicket : Option Ticket
  peerFix : Option Bool
  ownFix : Option Bool
deriving DecidableEq, Repr

/-- A trigger input at rest. -/
def Trigger.rest : Trigger :=
  { asserted := false, fault := false, other := 0, equal := 0, good := 0, reading := 0, fired := false }

/-- The recorder at rest. -/
def Recorder.rest : Recorder :=
  { frozen := false, draining := false, autoPending := false, autoAt := 0, freezing := false, resumeNext := false, ctrl := 0, ring := 0,
    freezeTick := 0, fill := 0, from_ := 0, tape := [] }

/-- The engine with no plan. -/
def EngSt.rest : EngSt :=
  { loaded := none, pend := none, run := none, proc := none, incoming := none, insts := [], cap := [], capOk := [], late := [], lateOk := [], inp := [],
    inpOk := [], aIn := [], bad := [], aOut := [], bSum := [], cOut := [], dSum := [], eOut := [], aDone := false,
    bDone := false, cDone := [], dDone := false, eDone := [], lateOut := [], emit := [], level := .full, halting := false,
    conc := [], ramps := [], deferred := [], viewRegs := [], viewWin := [], viewRamps := [], zoneNew := [], zoneOld := [],
    clips := [], players := List.replicate 32 .rest, starts := [], recorder := .rest, trigs := List.replicate 8 .rest,
    firings := [], raises := [], forces := [], satB := false, restart := none, look := [], shed := [], amb := [], matchAt := none,
    admReason := 0 }

/-- No Develop, no Fix, empty configuration slots. -/
def SceneSt.rest : SceneSt :=
  { lines := [], regs := [], arming := none, armed := none, seq := 0, held := [],
    slots := [⟨none, []⟩, ⟨none, []⟩], slot := 0, ptrSeq := 0, ptrs := [[], []], fix := none, fixAt := 0, fixTicket := none,
    peerFix := none, ownFix := none }

end Sys2Proof.Machine
end

