-- ==== Sys2Proof/Machine/ConfigFlash.lean ====
section
/-!
DEFINITION. The configuration area of the flash (R175, R177, R180): where its slots and journals lie, its pointer records, and the header of a
journal record.
-/
namespace Sys2Proof.Machine

/-! The area (R175). -/

/-- The size of a slot, and of the journal at its end, in an area of so many bytes. -/
def slotBytes (area : Nat) : Nat := (area - 131072) / 2 / 65536 * 65536
def journalBytes (area : Nat) : Nat := slotBytes area / 8 / 65536 * 65536

/-- Where a pointer block, a slot's image and its journal begin, from the area's base on. -/
def pointerAt (n : Nat) : Nat := 65536 * n
def slotAt (area n : Nat) : Nat := 131072 + slotBytes area * n
def journalAt (area n : Nat) : Nat := slotAt area n + slotBytes area - journalBytes area

/-! Pointer records (R177). -/

/-- A pointer record of a sequence number and a slot. -/
def pointerBytes (seq slot : Nat) : List Byte :=
  let b := leBytes 4 0x52545050 ++ leBytes 4 seq ++ [BitVec.ofNat 8 slot] ++ List.replicate 19 0
  b ++ leBytes 4 (crc32 b)

/-- SEQ and SLOT of a pointer block's record; none where it does not exist. -/
def pointerOf (b : List Byte) : Option (Nat × Nat) :=
  if b.length = 32 ∧ leNat (b.take 4) = 0x52545050 ∧ leNat (b.drop 28) = crc32 (b.take 28) ∧ leNat ((b.drop 8).take 1) ≤ 1 then
    some (leNat ((b.drop 4).take 4), leNat ((b.drop 8).take 1))
  else none

/-- The record in force: the valid one with the higher SEQ. -/
def pointerInForce (blocks : List (List Byte)) : Option (Nat × Nat) :=
  (blocks.filterMap pointerOf).foldl (fun b x => match b with
    | some y => if y.1 < x.1 then some x else b
    | none => some x) none

/-! Journal records (R180). -/

/-- The KIND of a record. -/
def JrnlBody.kind : JrnlBody → Nat
  | .develop .. => 1
  | .mark => 2
  | .void => 3
  | .preset _ => 4
  | .store _ => 5
  | .seal => 6
  | .cap _ => 7

/-- A record in the flash: its header, and the body's bytes after it. -/
def JrnlRec.image (r : JrnlRec) (body : List Byte) : List Byte :=
  let h := leBytes 2 r.body.kind ++ [0, 0] ++ leBytes 4 r.len ++ leBytes 8 r.tick ++ leBytes 4 r.seq ++ List.replicate 8 0
  h ++ leBytes 4 (crc32 (h ++ [0, 0, 0, 0] ++ body)) ++ body

end Sys2Proof.Machine
end

