-- ==== Sys2Proof/Machine/Fields.lean ====
section
/-!
DEFINITION. Every register field the spec names, as a place in the register space: the BAR0 address of its
register (for a register of several instances or elements, of the first) and its bits.  A register of one field
carries the register's name alone.  The tables are those of the register sections of spec/02 to spec/19.
-/
namespace Sys2Proof.Machine.F

/-! The common page header (R26): add `0x1000 * page` with `Fld.pg`. -/

def PAGE_ID_BLOCK_TYPE : Fld := ⟨0x00, 31, 16⟩
def PAGE_ID_INSTANCE : Fld := ⟨0x00, 15, 8⟩
def PAGE_ID_LAYOUT : Fld := ⟨0x00, 7, 0⟩
def PAGE_CTRL_QOS : Fld := ⟨0x08, 7, 4⟩
def PAGE_CTRL_FREEZE : Fld := ⟨0x08, 2, 2⟩
def PAGE_CTRL_SRST : Fld := ⟨0x08, 1, 1⟩
def PAGE_CTRL_EN : Fld := ⟨0x08, 0, 0⟩
def PAGE_STAT_BUSY : Fld := ⟨0x0C, 3, 3⟩
def PAGE_STAT_STALE : Fld := ⟨0x0C, 2, 2⟩
def PAGE_STAT_ADMITTED : Fld := ⟨0x0C, 1, 1⟩
def PAGE_STAT_READY : Fld := ⟨0x0C, 0, 0⟩
def FLT_RAW : Fld := ⟨0x10, 15, 0⟩
def FLT_MASK : Fld := ⟨0x14, 15, 0⟩
def FLT_LATCH : Fld := ⟨0x18, 15, 0⟩
def FLT_CLASS0 : Fld := ⟨0x1C, 23, 0⟩
def FLT_CLASS1 : Fld := ⟨0x20, 23, 0⟩
def PWR_STATE_WAKING : Fld := ⟨0x24, 16, 16⟩
def PWR_STATE_LIMIT : Fld := ⟨0x24, 9, 8⟩
def PWR_STATE_CUR : Fld := ⟨0x24, 1, 0⟩
def PWR_WAKE_TOL : Fld := ⟨0x28, 23, 0⟩
def EVT_COUNT : Fld := ⟨0x2C, 31, 0⟩
def BANK_STAT_DEV_SEQ : Fld := ⟨0x30, 31, 16⟩
def BANK_STAT_DISSOLVING : Fld := ⟨0x30, 2, 2⟩
def BANK_STAT_ARMED : Fld := ⟨0x30, 1, 1⟩
def BANK_STAT_DIRTY : Fld := ⟨0x30, 0, 0⟩

/-! The blocks' own registers. -/

def RING_BASE_LO : Fld := ⟨0x0A100, 31, 6⟩
def RING_BASE_HI : Fld := ⟨0x0A104, 31, 0⟩
def RING_CTRL_PRIO : Fld := ⟨0x0A108, 17, 16⟩
def RING_CTRL_LOG2_SIZE : Fld := ⟨0x0A108, 11, 8⟩
def RING_CTRL_EN : Fld := ⟨0x0A108, 0, 0⟩
def RING_TAIL : Fld := ⟨0x0A10C, 11, 0⟩
def RING_HEAD : Fld := ⟨0x0A110, 11, 0⟩
def RING_IRQ_TIME_US : Fld := ⟨0x0A114, 31, 16⟩
def RING_IRQ_COUNT : Fld := ⟨0x0A114, 15, 8⟩
def RING_IRQ_VEC : Fld := ⟨0x0A114, 5, 0⟩
def RING_STAT_BLOCKED : Fld := ⟨0x0A118, 17, 17⟩
def RING_STAT_STOPPED : Fld := ⟨0x0A118, 16, 16⟩
def RING_STAT_DROP : Fld := ⟨0x0A118, 15, 0⟩
def HOST_CTRL_AUTH_REQ : Fld := ⟨0x08040, 8, 8⟩
def HOST_CTRL_RING_OWNER : Fld := ⟨0x08040, 0, 0⟩
def HOST_STAT_CMD_IDLE : Fld := ⟨0x08044, 8, 8⟩
def HOST_STAT_WIDTH : Fld := ⟨0x08044, 6, 4⟩
def HOST_STAT_SPEED : Fld := ⟨0x08044, 3, 1⟩
def HOST_STAT_LINK_UP : Fld := ⟨0x08044, 0, 0⟩
def HOST_PCI_ID : Fld := ⟨0x08048, 31, 0⟩
def EVT_ROUTE : Fld := ⟨0x08050, 15, 0⟩
def IRQ_FAULT_VEC : Fld := ⟨0x08054, 5, 0⟩
def AUTH_NONCE : Fld := ⟨0x08058, 31, 0⟩
def AUTH_SEQ_OP : Fld := ⟨0x0805C, 31, 0⟩
def AUTH_SEQ_MT : Fld := ⟨0x08060, 31, 0⟩
def AUTH_SEQ_LS : Fld := ⟨0x08064, 31, 0⟩
def AUTH_FAIL_CNT : Fld := ⟨0x08068, 31, 0⟩
def SPI_CTRL : Fld := ⟨0x09040, 0, 0⟩
def SPI_STAT_CRC_ERR : Fld := ⟨0x09044, 1, 1⟩
def SPI_STAT_SPACE_ERR : Fld := ⟨0x09044, 0, 0⟩
def ADM_STAT_ADMIT_SEQ : Fld := ⟨0x02040, 31, 16⟩
def ADM_STAT_DISRUPTIVE : Fld := ⟨0x02040, 10, 10⟩
def ADM_STAT_PENDING : Fld := ⟨0x02040, 9, 9⟩
def ADM_STAT_RUNNING : Fld := ⟨0x02040, 8, 8⟩
def ADM_STAT_LAST_CODE : Fld := ⟨0x02040, 7, 0⟩
def ADM_DETAIL : Fld := ⟨0x02044, 23, 0⟩
def ADM_EXCESS : Fld := ⟨0x02048, 31, 0⟩
def ADM_USABLE : Fld := ⟨0x0204C, 31, 0⟩
def ADM_CRIT_CLUSTER : Fld := ⟨0x02050, 27, 24⟩
def ADM_CRIT_CYCLES : Fld := ⟨0x02050, 23, 0⟩
def ADM_ALLOW : Fld := ⟨0x02054, 6, 0⟩
def ADM_MEDIA : Fld := ⟨0x02058, 15, 0⟩
def OVR_COUNT : Fld := ⟨0x02060, 31, 0⟩
def OVR_LAST_CLUSTER : Fld := ⟨0x02064, 19, 16⟩
def OVR_LAST_HANDLE : Fld := ⟨0x02064, 15, 0⟩
def OVR_TICK_LO : Fld := ⟨0x02068, 31, 0⟩
def OVR_TICK_HI : Fld := ⟨0x0206C, 31, 0⟩
def TICKOVR_COUNT : Fld := ⟨0x02070, 31, 0⟩
def DISS_WAIT : Fld := ⟨0x02074, 31, 0⟩
def COST_TABLE_ENERGY_PJ : Fld := ⟨0x02100, 31, 16⟩
def COST_TABLE_CYCLES : Fld := ⟨0x02100, 15, 0⟩
def XPT_DIM0_BU : Fld := ⟨0x20040, 27, 16⟩
def XPT_DIM0_S : Fld := ⟨0x20040, 11, 0⟩
def XPT_DIM1 : Fld := ⟨0x20044, 10, 0⟩
def XPT_STAT_RAMP_COLS : Fld := ⟨0x20048, 31, 16⟩
def XPT_STAT_DEFERRED : Fld := ⟨0x20048, 1, 1⟩
def XPT_STAT_RAMPING : Fld := ⟨0x20048, 0, 0⟩
def XPT_CYC_B : Fld := ⟨0x2004C, 31, 0⟩
def XPT_CYC_D : Fld := ⟨0x20050, 31, 0⟩
def XPT_LS_STAT_LS_LOCK : Fld := ⟨0x20054, 1, 1⟩
def XPT_LS_STAT_LS_DIRTY : Fld := ⟨0x20054, 0, 0⟩
def XPT_SAT_CNT : Fld := ⟨0x20058, 31, 0⟩
def XPT_DEFER_CNT : Fld := ⟨0x2005C, 31, 0⟩
def XPT_ACT_THRESH : Fld := ⟨0x20080, 7, 0⟩
def XPT_LS_BUS : Fld := ⟨0x20100, 31, 0⟩
def XPT_BUS_PRIO : Fld := ⟨0x20200, 31, 0⟩
def XPT_BUS_EFF : Fld := ⟨0x20300, 31, 0⟩
def XPT_BUS_FORCE : Fld := ⟨0x20400, 31, 0⟩
def XPT_BUS_ACT : Fld := ⟨0x20440, 31, 0⟩
def XPT_SAT_BUS : Fld := ⟨0x20480, 31, 0⟩
def XPT_SAT_OUT : Fld := ⟨0x20500, 31, 0⟩
def XPT_ZONE_MAP_NONE_HI : Fld := ⟨0x21040, 31, 31⟩
def XPT_ZONE_MAP_ZONE_HI : Fld := ⟨0x21040, 25, 16⟩
def XPT_ZONE_MAP_NONE_LO : Fld := ⟨0x21040, 15, 15⟩
def XPT_ZONE_MAP_ZONE_LO : Fld := ⟨0x21040, 9, 0⟩
def XPT_ZONE_ACT_ACT_HI : Fld := ⟨0x22040, 31, 16⟩
def XPT_ZONE_ACT_ACT_LO : Fld := ⟨0x22040, 15, 0⟩
def XPT_ZONE_TOP : Fld := ⟨0x23040, 31, 0⟩
def TRIG_STAT_LVL_N : Fld := ⟨0x58040, 31, 24⟩
def TRIG_STAT_LVL_P : Fld := ⟨0x58040, 23, 16⟩
def TRIG_STAT_LINE_FAULT : Fld := ⟨0x58040, 15, 8⟩
def TRIG_STAT_ASSERTED : Fld := ⟨0x58040, 7, 0⟩
def TRIG_CFG_EN : Fld := ⟨0x58080, 11, 11⟩
def TRIG_CFG_INVERT : Fld := ⟨0x58080, 10, 10⟩
def TRIG_CFG_FAULT_POLICY : Fld := ⟨0x58080, 9, 8⟩
def TRIG_CFG_DEBOUNCE_MS : Fld := ⟨0x58080, 7, 0⟩
def TRIG_CNT : Fld := ⟨0x580A0, 31, 0⟩
def TRIG_LAST : Fld := ⟨0x580C0, 2, 0⟩
def TRIG_TICK_LO : Fld := ⟨0x580C4, 31, 0⟩
def TRIG_TICK_HI : Fld := ⟨0x580C8, 31, 0⟩
def TRIG_SKIP : Fld := ⟨0x580CC, 31, 0⟩
def SCN_CTRL : Fld := ⟨0x24040, 0, 0⟩
def SCN_STAT_DEV_SEQ : Fld := ⟨0x24044, 31, 16⟩
def SCN_STAT_JRNL_FULL : Fld := ⟨0x24044, 5, 5⟩
def SCN_STAT_JRNL_BUSY : Fld := ⟨0x24044, 4, 4⟩
def SCN_STAT_FIX_BUSY : Fld := ⟨0x24044, 3, 3⟩
def SCN_STAT_DISSOLVING : Fld := ⟨0x24044, 2, 2⟩
def SCN_STAT_ARMED : Fld := ⟨0x24044, 1, 1⟩
def SCN_STAT_DIRTY : Fld := ⟨0x24044, 0, 0⟩
def SCN_ARM_LO : Fld := ⟨0x24048, 31, 0⟩
def SCN_ARM_HI : Fld := ⟨0x2404C, 31, 0⟩
def SCN_LAST_LO : Fld := ⟨0x24050, 31, 0⟩
def SCN_LAST_HI : Fld := ⟨0x24054, 31, 0⟩
def SCN_DIRTY_LINES : Fld := ⟨0x24058, 18, 0⟩
def SCN_DISS_CNT_WAITING : Fld := ⟨0x2405C, 31, 16⟩
def SCN_DISS_CNT_ACTIVE : Fld := ⟨0x2405C, 15, 0⟩
def SCN_CHAIN_CNT : Fld := ⟨0x24060, 31, 0⟩
def SCN_HOLD_DROP : Fld := ⟨0x24064, 31, 0⟩
def SCN_CANCEL_CNT : Fld := ⟨0x24068, 31, 0⟩
def FIX_STAT_PHASE : Fld := ⟨0x24080, 26, 24⟩
def FIX_STAT_PCT : Fld := ⟨0x24080, 7, 0⟩
def FIX_SLOT_VALID_ALT : Fld := ⟨0x24084, 8, 8⟩
def FIX_SLOT_SLOT : Fld := ⟨0x24084, 0, 0⟩
def FIX_SEQ : Fld := ⟨0x24088, 31, 0⟩
def FIX_TICK_LO : Fld := ⟨0x2408C, 31, 0⟩
def FIX_TICK_HI : Fld := ⟨0x24090, 31, 0⟩
def FIX_AREA_BASE : Fld := ⟨0x24094, 31, 0⟩
def FIX_AREA_SIZE : Fld := ⟨0x24098, 31, 0⟩
def JRNL_USED : Fld := ⟨0x2409C, 31, 0⟩
def JRNL_SIZE : Fld := ⟨0x240A0, 31, 0⟩
def BOOT_SRC_REPLAYED : Fld := ⟨0x240A4, 31, 16⟩
def BOOT_SRC_SEALED : Fld := ⟨0x240A4, 8, 8⟩
def BOOT_SRC_SRC : Fld := ⟨0x240A4, 1, 0⟩
def CL_STAT_HANDLE : Fld := ⟨0x10040, 31, 16⟩
def CL_STAT_PHASE : Fld := ⟨0x10040, 10, 8⟩
def CL_STAT_WAIT : Fld := ⟨0x10040, 1, 1⟩
def CL_STAT_IN_KERNEL : Fld := ⟨0x10040, 0, 0⟩
def CL_TICK_CYC : Fld := ⟨0x10044, 23, 0⟩
def CL_STALL_CYC : Fld := ⟨0x10048, 23, 0⟩
def CL_PEAK_CYC : Fld := ⟨0x1004C, 23, 0⟩
def CL_ENTRY_CYC : Fld := ⟨0x10050, 15, 0⟩
def CL_BUDGET : Fld := ⟨0x10054, 23, 0⟩
def CL_BUDGET_LEFT : Fld := ⟨0x10058, 23, 0⟩
def CL_STOP_CNT : Fld := ⟨0x1005C, 31, 0⟩
def CL_CSTAT_TICK : Fld := ⟨0x10060, 13, 0⟩
def CL_CIRC_CNT : Fld := ⟨0x10064, 31, 0⟩
def CL_WIN_LAST_HANDLE : Fld := ⟨0x10068, 31, 16⟩
def CL_WIN_LAST_WORD : Fld := ⟨0x10068, 14, 0⟩
def CL_DM_ECC_DBE : Fld := ⟨0x1006C, 31, 16⟩
def CL_DM_ECC_SBE : Fld := ⟨0x1006C, 15, 0⟩
def CL_DM_ECC_ADDR : Fld := ⟨0x10070, 18, 2⟩
def CL_PM_ECC_DBE : Fld := ⟨0x10074, 31, 16⟩
def CL_PM_ECC_SBE : Fld := ⟨0x10074, 15, 0⟩
def CL_SLOT_PROMO : Fld := ⟨0x10078, 31, 0⟩
def CL_MEM_USE : Fld := ⟨0x1007C, 18, 0⟩
def CL_PM_USE : Fld := ⟨0x10080, 16, 0⟩
def CL_INST : Fld := ⟨0x10084, 10, 0⟩
def SL_CTRL_AMB_EN : Fld := ⟨0x28040, 1, 1⟩
def SL_CTRL_JUDGE_EN : Fld := ⟨0x28040, 0, 0⟩
def SL_SHARE : Fld := ⟨0x28044, 15, 0⟩
def SL_SHARE_CYC : Fld := ⟨0x28048, 19, 0⟩
def SL_JUDGE0_DRIFT_DEG : Fld := ⟨0x28050, 31, 24⟩
def SL_JUDGE0_DRIFT_PCT : Fld := ⟨0x28050, 23, 16⟩
def SL_JUDGE0_SHORT_X : Fld := ⟨0x28050, 15, 8⟩
def SL_JUDGE0_OPEN_X : Fld := ⟨0x28050, 7, 0⟩
def SL_JUDGE1_LEARN_N : Fld := ⟨0x28054, 31, 24⟩
def SL_JUDGE1_NOPILOT_DB : Fld := ⟨0x28054, 23, 16⟩
def SL_JUDGE1_LEAK_DELTA : Fld := ⟨0x28054, 15, 0⟩
def SL_VERIFY0_SNR_MIN : Fld := ⟨0x28058, 31, 24⟩
def SL_VERIFY0_MARG_BAND : Fld := ⟨0x28058, 23, 16⟩
def SL_VERIFY0_PASS_BAND : Fld := ⟨0x28058, 15, 8⟩
def SL_VERIFY0_MARGIN_DB : Fld := ⟨0x28058, 7, 0⟩
def SL_VERIFY1_TOA_MARG : Fld := ⟨0x2805C, 31, 16⟩
def SL_VERIFY1_TOA_PASS : Fld := ⟨0x2805C, 15, 0⟩
def SL_VERIFY2_COH_MARG : Fld := ⟨0x28060, 31, 16⟩
def SL_VERIFY2_COH_PASS : Fld := ⟨0x28060, 15, 0⟩
def SL_VERIFY3_MIN_BANDS : Fld := ⟨0x28064, 15, 8⟩
def SL_VERIFY3_YIELD_PRIO : Fld := ⟨0x28064, 3, 0⟩
def SL_AMB : Fld := ⟨0x28068, 15, 0⟩
def SL_STAT_LINES_FAULTED : Fld := ⟨0x28070, 31, 16⟩
def SL_STAT_ZONES_RUNNING : Fld := ⟨0x28070, 12, 8⟩
def SL_STAT_SHED : Fld := ⟨0x28070, 3, 3⟩
def SL_STAT_STORE_BUSY : Fld := ⟨0x28070, 2, 2⟩
def SL_STAT_RUN_ACTIVE : Fld := ⟨0x28070, 1, 1⟩
def SL_LINES_OK : Fld := ⟨0x28074, 26, 16⟩
def SL_LINES_VALID : Fld := ⟨0x28074, 10, 0⟩
def SL_ERR_REASON : Fld := ⟨0x28078, 19, 16⟩
def SL_ERR_LINE : Fld := ⟨0x28078, 9, 0⟩
def SL_SHARE_USE : Fld := ⟨0x2807C, 19, 0⟩
def SL_RUN_ID : Fld := ⟨0x29040, 31, 0⟩
def SL_RUN_STAT_LEFT : Fld := ⟨0x29044, 31, 16⟩
def SL_RUN_STAT_STATE : Fld := ⟨0x29044, 2, 0⟩
def SL_RES_CNT0_MARGINAL : Fld := ⟨0x29048, 31, 16⟩
def SL_RES_CNT0_PASS : Fld := ⟨0x29048, 15, 0⟩
def SL_RES_CNT1_INCOMPLETE : Fld := ⟨0x2904C, 31, 16⟩
def SL_RES_CNT1_FAIL : Fld := ⟨0x2904C, 15, 0⟩
def SL_RESHAPE_CNT : Fld := ⟨0x29050, 31, 0⟩
def SL_PAUSE_CNT : Fld := ⟨0x29054, 31, 0⟩
def SL_AMB_EST_LEVEL : Fld := ⟨0x2A040, 31, 16⟩
def SL_AMB_EST_VALID : Fld := ⟨0x2A040, 15, 15⟩
def SL_AMB_EST_HELD : Fld := ⟨0x2A040, 14, 14⟩
def SL_AMB_EST_AGE : Fld := ⟨0x2A040, 13, 0⟩
def PAIR_CFG_PAIR_ID : Fld := ⟨0x80040, 31, 16⟩
def PAIR_CFG_AUTO : Fld := ⟨0x80040, 8, 8⟩
def PAIR_CFG_WAIT : Fld := ⟨0x80040, 7, 0⟩
def NODE_ID : Fld := ⟨0x80044, 17, 0⟩
def PAIR_EXCUSE : Fld := ⟨0x80048, 7, 0⟩
def PAIR_STAT_STATE : Fld := ⟨0x8004C, 18, 16⟩
def PAIR_STAT_SIDE : Fld := ⟨0x8004C, 9, 9⟩
def PAIR_STAT_AGREE : Fld := ⟨0x8004C, 2, 2⟩
def PAIR_STAT_PEER_PINS : Fld := ⟨0x8004C, 1, 1⟩
def PAIR_STAT_PEER_LINK : Fld := ⟨0x8004C, 0, 0⟩
def PAIR_CLAIM_PEER : Fld := ⟨0x80050, 31, 16⟩
def PAIR_CLAIM_OWN : Fld := ⟨0x80050, 15, 0⟩
def PAIR_PEER_NODE : Fld := ⟨0x80054, 17, 0⟩
def PAIR_XFER_LEFT : Fld := ⟨0x80058, 31, 8⟩
def PAIR_XFER_PCT : Fld := ⟨0x80058, 7, 0⟩
def PAIR_XFER_MS : Fld := ⟨0x8005C, 23, 0⟩
def PAIR_LAST : Fld := ⟨0x80060, 3, 0⟩
def PAIR_LAST_TICK_LO : Fld := ⟨0x80064, 31, 0⟩
def PAIR_LAST_TICK_HI : Fld := ⟨0x80068, 31, 0⟩
def PAIR_PROMO_CNT : Fld := ⟨0x8006C, 31, 0⟩
def PAIR_MISMATCH_CNT : Fld := ⟨0x80070, 31, 0⟩
def PAIR_EXCUSE_CNT : Fld := ⟨0x80074, 31, 0⟩
def PAIR_RESYNC_CNT : Fld := ⟨0x80078, 31, 0⟩
def PAIR_DIGEST_LO : Fld := ⟨0x80080, 31, 0⟩
def PAIR_DIGEST_HI : Fld := ⟨0x80084, 31, 0⟩
def PAIR_MIRROR : Fld := ⟨0x80088, 19, 0⟩
def PAIR_MIRROR_LIM : Fld := ⟨0x8008C, 19, 0⟩
def PAIR_MIRIN : Fld := ⟨0x80100, 31, 0⟩
def PAIR_SIGDIFF : Fld := ⟨0x80200, 31, 0⟩
def PB_CTRL_LANE_EN : Fld := ⟨0x81040, 5, 4⟩
def PB_CTRL_MAX_RATE : Fld := ⟨0x81040, 1, 0⟩
def PB_STAT_STATE : Fld := ⟨0x81044, 10, 8⟩
def PB_STAT_LANES_UP : Fld := ⟨0x81044, 5, 4⟩
def PB_STAT_RATE : Fld := ⟨0x81044, 1, 0⟩
def PB_LAT : Fld := ⟨0x81048, 15, 0⟩
def PB_TX_TICK : Fld := ⟨0x8104C, 19, 0⟩
def PB_RX_TICK : Fld := ⟨0x81050, 19, 0⟩
def PB_CRC_ERR : Fld := ⟨0x81054, 31, 0⟩
def PB_RETX : Fld := ⟨0x81058, 31, 0⟩
def PB_LANE_LOSS : Fld := ⟨0x8105C, 31, 0⟩
def PB_PEER_CAP_FW : Fld := ⟨0x81060, 31, 16⟩
def PB_PEER_CAP_DRAM_GIB : Fld := ⟨0x81060, 15, 8⟩
def PB_PEER_CAP_MAX_RATE : Fld := ⟨0x81060, 1, 0⟩
def PB_LANE0_STAT_BLOCK_ERR : Fld := ⟨0x82040, 31, 16⟩
def PB_LANE0_STAT_SKEW : Fld := ⟨0x82040, 15, 8⟩
def PB_LANE0_STAT_DESKEW_OK : Fld := ⟨0x82040, 2, 2⟩
def PB_LANE0_STAT_ALIGNED : Fld := ⟨0x82040, 1, 1⟩
def PB_LANE0_STAT_UP : Fld := ⟨0x82040, 0, 0⟩
def PB_LANE1_STAT_BLOCK_ERR : Fld := ⟨0x82044, 31, 16⟩
def PB_LANE1_STAT_SKEW : Fld := ⟨0x82044, 15, 8⟩
def PB_LANE1_STAT_DESKEW_OK : Fld := ⟨0x82044, 2, 2⟩
def PB_LANE1_STAT_ALIGNED : Fld := ⟨0x82044, 1, 1⟩
def PB_LANE1_STAT_UP : Fld := ⟨0x82044, 0, 0⟩
def CLM_CTRL_PINS_EN : Fld := ⟨0x83040, 16, 16⟩
def CLM_CTRL_TDM_SLOT : Fld := ⟨0x83040, 15, 0⟩
def CLM_MERGE : Fld := ⟨0x83044, 3, 0⟩
def CLM_PINS_LAST : Fld := ⟨0x83048, 31, 16⟩
def CLM_PINS_VALID : Fld := ⟨0x83048, 0, 0⟩
def CLM_MSEL_TDM_MUTED : Fld := ⟨0x83060, 15, 8⟩
def CLM_MSEL_TDM_SEL : Fld := ⟨0x83060, 7, 0⟩
def CLM_SWITCH_CNT : Fld := ⟨0x83064, 31, 0⟩
def CLM_GAP_CNT : Fld := ⟨0x83068, 31, 0⟩
def CLM_MUTE_CNT : Fld := ⟨0x8306C, 31, 0⟩
def CLM_BAD_CNT : Fld := ⟨0x83070, 31, 0⟩
def CLM_MTDM_EN : Fld := ⟨0x83080, 16, 16⟩
def CLM_MTDM_SECONDARY : Fld := ⟨0x83080, 7, 4⟩
def CLM_MTDM_PRIMARY : Fld := ⟨0x83080, 3, 0⟩
def CLM_MSTR_EN : Fld := ⟨0x83100, 16, 16⟩
def CLM_MSTR_SECONDARY : Fld := ⟨0x83100, 15, 8⟩
def CLM_MSTR_PRIMARY : Fld := ⟨0x83100, 7, 0⟩
def CLM_MSEL_STR : Fld := ⟨0x83300, 31, 0⟩
def CLM_MUTE_STR : Fld := ⟨0x83310, 31, 0⟩
def TDM_CTRL_HIZ : Fld := ⟨0x30040, 26, 26⟩
def TDM_CTRL_DIR : Fld := ⟨0x30040, 25, 24⟩
def TDM_CTRL_RATE : Fld := ⟨0x30040, 22, 20⟩
def TDM_CTRL_WORD_BITS : Fld := ⟨0x30040, 17, 16⟩
def TDM_CTRL_SLOT_BITS : Fld := ⟨0x30040, 15, 14⟩
def TDM_CTRL_SLOTS : Fld := ⟨0x30040, 12, 8⟩
def TDM_CTRL_DELAY : Fld := ⟨0x30040, 7, 7⟩
def TDM_CTRL_FS_WIDTH : Fld := ⟨0x30040, 6, 6⟩
def TDM_CTRL_FS_POL : Fld := ⟨0x30040, 5, 5⟩
def TDM_CTRL_BCLK_POL : Fld := ⟨0x30040, 4, 4⟩
def TDM_CTRL_ASRC : Fld := ⟨0x30040, 3, 3⟩
def TDM_CTRL_MASTER : Fld := ⟨0x30040, 2, 2⟩
def TDM_CTRL_MODE : Fld := ⟨0x30040, 1, 0⟩
def TDM_SLOTMASK : Fld := ⟨0x30044, 31, 0⟩
def TDM_CHMAP_OUT_BASE : Fld := ⟨0x30048, 26, 16⟩
def TDM_CHMAP_IN_BASE : Fld := ⟨0x30048, 10, 0⟩
def TDM_ROLL_POST_ROLL : Fld := ⟨0x3004C, 25, 16⟩
def TDM_ROLL_PRE_ROLL : Fld := ⟨0x3004C, 9, 0⟩
def TDM_STAT_STABLE : Fld := ⟨0x30050, 25, 16⟩
def TDM_STAT_CAUSE : Fld := ⟨0x30050, 6, 4⟩
def TDM_STAT_STATE : Fld := ⟨0x30050, 2, 0⟩
def TDM_RATE : Fld := ⟨0x30054, 15, 0⟩
def TDM_PHASE : Fld := ⟨0x30058, 15, 0⟩
def TDM_LOSS_CNT : Fld := ⟨0x3005C, 31, 0⟩
def TDM_GLITCH_CNT : Fld := ⟨0x30060, 31, 0⟩
def TDM_SLIP_CNT_OUT : Fld := ⟨0x30064, 31, 16⟩
def TDM_SLIP_CNT_IN : Fld := ⟨0x30064, 15, 0⟩
def AIN_CTRL_RATE : Fld := ⟨0x40040, 6, 4⟩
def AIN_CTRL_WL20 : Fld := ⟨0x40040, 1, 1⟩
def AIN_CTRL_ASRC : Fld := ⟨0x40040, 0, 0⟩
def AIN_CHMAP : Fld := ⟨0x40044, 10, 0⟩
def AIN_STAT_PRO : Fld := ⟨0x40048, 8, 8⟩
def AIN_STAT_RATE_MEAS : Fld := ⟨0x40048, 6, 4⟩
def AIN_STAT_LOCK : Fld := ⟨0x40048, 0, 0⟩
def AIN_CS_A : Fld := ⟨0x40050, 31, 0⟩
def AIN_CS_B : Fld := ⟨0x40068, 31, 0⟩
def AIN_CS_SEQ : Fld := ⟨0x40080, 31, 0⟩
def AIN_UB_A : Fld := ⟨0x40090, 31, 0⟩
def AIN_UB_B : Fld := ⟨0x400A8, 31, 0⟩
def AIN_ERR_PARITY : Fld := ⟨0x400C0, 31, 16⟩
def AIN_ERR_CRCC : Fld := ⟨0x400C0, 15, 0⟩
def AIN_INVALID_CNT : Fld := ⟨0x400C4, 31, 0⟩
def AOUT_CTRL_CS_LINK : Fld := ⟨0x48040, 8, 8⟩
def AOUT_CTRL_RATE : Fld := ⟨0x48040, 6, 4⟩
def AOUT_CTRL_WL20 : Fld := ⟨0x48040, 1, 1⟩
def AOUT_CTRL_ASRC : Fld := ⟨0x48040, 0, 0⟩
def AOUT_CHMAP : Fld := ⟨0x48044, 9, 0⟩
def AOUT_STAT : Fld := ⟨0x48048, 2, 0⟩
def AOUT_CS_A : Fld := ⟨0x48050, 31, 0⟩
def AOUT_CS_B : Fld := ⟨0x48068, 31, 0⟩
def AOUT_CS_COMMIT : Fld := ⟨0x48080, 0, 0⟩
def AOUT_VAL : Fld := ⟨0x48084, 1, 0⟩
def AOUT_UB_A : Fld := ⟨0x48090, 31, 0⟩
def AOUT_UB_B : Fld := ⟨0x480A8, 31, 0⟩
def PDM_CTRL_PINS : Fld := ⟨0x50040, 31, 16⟩
def PDM_CTRL_DC_BLOCK : Fld := ⟨0x50040, 2, 2⟩
def PDM_CTRL_RATIO : Fld := ⟨0x50040, 1, 1⟩
def PDM_CTRL_MASTER : Fld := ⟨0x50040, 0, 0⟩
def PDM_CHMAP : Fld := ⟨0x50044, 10, 0⟩
def PDM_STAT : Fld := ⟨0x50048, 0, 0⟩
def PDM_STUCK : Fld := ⟨0x5004C, 31, 0⟩
def PDM_LOSS_CNT : Fld := ⟨0x50050, 31, 0⟩
def ASRC_MAP_EN : Fld := ⟨0x51040, 31, 31⟩
def ASRC_MAP_DIR : Fld := ⟨0x51040, 30, 30⟩
def ASRC_MAP_KIND : Fld := ⟨0x51040, 29, 28⟩
def ASRC_MAP_PORT : Fld := ⟨0x51040, 27, 24⟩
def ASRC_MAP_INDEX : Fld := ⟨0x51040, 20, 16⟩
def ASRC_LOCK : Fld := ⟨0x51140, 31, 0⟩
def ASRC_UNLOCK_CNT : Fld := ⟨0x51148, 31, 0⟩
def MAC_CTRL_AN_EN : Fld := ⟨0x60040, 16, 16⟩
def MAC_CTRL_FEC : Fld := ⟨0x60040, 9, 8⟩
def MAC_CTRL_JUMBO : Fld := ⟨0x60040, 5, 5⟩
def MAC_CTRL_PAUSE_EN : Fld := ⟨0x60040, 4, 4⟩
def MAC_CTRL_HALF : Fld := ⟨0x60040, 3, 3⟩
def MAC_CTRL_SPEED : Fld := ⟨0x60040, 1, 0⟩
def MAC_ADDR_LO : Fld := ⟨0x60044, 31, 0⟩
def MAC_ADDR_HI : Fld := ⟨0x60048, 15, 0⟩
def MAC_VLAN : Fld := ⟨0x6004C, 11, 0⟩
def MAC_TXTHR_SAF : Fld := ⟨0x60050, 15, 15⟩
def MAC_TXTHR_THRESH : Fld := ⟨0x60050, 13, 0⟩
def MAC_STAT_FEC_LOCK : Fld := ⟨0x60054, 6, 6⟩
def MAC_STAT_PAUSED : Fld := ⟨0x60054, 5, 5⟩
def MAC_STAT_FULL : Fld := ⟨0x60054, 4, 4⟩
def MAC_STAT_SPEED_ACT : Fld := ⟨0x60054, 2, 1⟩
def MAC_STAT_LINK : Fld := ⟨0x60054, 0, 0⟩
def MAC_TX_FRAMES : Fld := ⟨0x60060, 31, 0⟩
def MAC_RX_FRAMES : Fld := ⟨0x60064, 31, 0⟩
def MAC_RX_FCS : Fld := ⟨0x60068, 31, 0⟩
def MAC_TX_UNDERRUN : Fld := ⟨0x6006C, 31, 0⟩
def MAC_PAUSE_RX : Fld := ⟨0x60070, 31, 0⟩
def MAC_COLL_LATE : Fld := ⟨0x60074, 31, 16⟩
def MAC_COLL_COLL : Fld := ⟨0x60074, 15, 0⟩
def MAC_EXCESS_COLL : Fld := ⟨0x60078, 31, 0⟩
def MAC_RX_DROP : Fld := ⟨0x6007C, 31, 0⟩
def TS_CTRL_TD : Fld := ⟨0x60080, 5, 4⟩
def TS_CTRL_ONE_STEP : Fld := ⟨0x60080, 0, 0⟩
def TS_LAT_TX : Fld := ⟨0x60084, 15, 0⟩
def TS_LAT_RX : Fld := ⟨0x60088, 15, 0⟩
def NET_CTRL_SUPERV : Fld := ⟨0x64040, 1, 1⟩
def NET_CTRL_PRP_EN : Fld := ⟨0x64040, 0, 0⟩
def NET_IP : Fld := ⟨0x64044, 31, 0⟩
def PRP_NODES : Fld := ⟨0x64048, 10, 0⟩
def PRP_DUP : Fld := ⟨0x64050, 31, 0⟩
def PRP_WRONG_LAN_A : Fld := ⟨0x64054, 31, 0⟩
def PRP_WRONG_LAN_B : Fld := ⟨0x64058, 31, 0⟩
def PRP_MISS_A : Fld := ⟨0x6405C, 31, 0⟩
def PRP_MISS_B : Fld := ⟨0x64060, 31, 0⟩
def STR_SEL_RX : Fld := ⟨0x64080, 7, 0⟩
def STR_SEL_TX : Fld := ⟨0x64084, 7, 0⟩
def STR_RX_ACT : Fld := ⟨0x64100, 31, 0⟩
def STR_TX_ACT : Fld := ⟨0x64120, 31, 0⟩
def RX_CFG0_EN : Fld := ⟨0x65040, 31, 31⟩
def RX_CFG0_TD : Fld := ⟨0x65040, 29, 28⟩
def RX_CFG0_FORMAT : Fld := ⟨0x65040, 27, 26⟩
def RX_CFG0_PTIME : Fld := ⟨0x65040, 25, 24⟩
def RX_CFG0_CH : Fld := ⟨0x65040, 21, 16⟩
def RX_CFG0_IN_BASE : Fld := ⟨0x65040, 10, 0⟩
def RX_CFG1 : Fld := ⟨0x65044, 31, 0⟩
def RX_CFG2_PORT : Fld := ⟨0x65048, 31, 16⟩
def RX_CFG2_BIHIRON : Fld := ⟨0x65048, 8, 8⟩
def RX_CFG2_SSRC_FILT : Fld := ⟨0x65048, 7, 7⟩
def RX_CFG2_PT : Fld := ⟨0x65048, 6, 0⟩
def RX_CFG3 : Fld := ⟨0x6504C, 31, 0⟩
def RX_CFG4 : Fld := ⟨0x65050, 31, 0⟩
def RX_CFG5 : Fld := ⟨0x65054, 13, 0⟩
def RX_STAT_MARGIN_US : Fld := ⟨0x65060, 31, 16⟩
def RX_STAT_STATE : Fld := ⟨0x65060, 2, 0⟩
def RX_LATE : Fld := ⟨0x65064, 31, 0⟩
def RX_EARLY : Fld := ⟨0x65068, 31, 0⟩
def RX_LOST : Fld := ⟨0x6506C, 31, 0⟩
def RX_SEQGAP : Fld := ⟨0x65070, 31, 0⟩
def RX_BAD : Fld := ⟨0x65074, 31, 0⟩
def RX_SSRC_CHG : Fld := ⟨0x65078, 31, 0⟩
def RX_BIH_NODE_ID : Fld := ⟨0x6507C, 31, 14⟩
def RX_BIH_TICK_LO : Fld := ⟨0x6507C, 7, 0⟩
def TX_CFG0_EN : Fld := ⟨0x66040, 31, 31⟩
def TX_CFG0_TD : Fld := ⟨0x66040, 29, 28⟩
def TX_CFG0_FORMAT : Fld := ⟨0x66040, 27, 26⟩
def TX_CFG0_PTIME : Fld := ⟨0x66040, 25, 24⟩
def TX_CFG0_CH : Fld := ⟨0x66040, 21, 16⟩
def TX_CFG0_OUT_BASE : Fld := ⟨0x66040, 9, 0⟩
def TX_CFG1 : Fld := ⟨0x66044, 31, 0⟩
def TX_CFG2_DST_PORT : Fld := ⟨0x66048, 31, 16⟩
def TX_CFG2_SRC_PORT : Fld := ⟨0x66048, 15, 0⟩
def TX_CFG3 : Fld := ⟨0x6604C, 31, 0⟩
def TX_CFG4 : Fld := ⟨0x66050, 31, 0⟩
def TX_CFG5_VID : Fld := ⟨0x66054, 31, 20⟩
def TX_CFG5_VLAN_EN : Fld := ⟨0x66054, 19, 19⟩
def TX_CFG5_PCP : Fld := ⟨0x66054, 18, 16⟩
def TX_CFG5_DSCP : Fld := ⟨0x66054, 13, 8⟩
def TX_CFG5_BIHIRON : Fld := ⟨0x66054, 7, 7⟩
def TX_CFG5_PT : Fld := ⟨0x66054, 6, 0⟩
def TX_CFG6 : Fld := ⟨0x66058, 7, 0⟩
def TX_STAT_ARP_WAIT : Fld := ⟨0x66060, 1, 1⟩
def TX_STAT_RUNNING : Fld := ⟨0x66060, 0, 0⟩
def TX_PKTS : Fld := ⟨0x66064, 31, 0⟩
def TX_DROP : Fld := ⟨0x66068, 31, 0⟩
def TX_NOARP : Fld := ⟨0x6606C, 31, 0⟩
def TD_CTRL_HOST_LOCKED : Fld := ⟨0x68040, 2, 2⟩
def TD_CTRL_REACQUIRE : Fld := ⟨0x68040, 1, 1⟩
def TD_CTRL_SERVO : Fld := ⟨0x68040, 0, 0⟩
def TD_STAT_STEP_REFUSED : Fld := ⟨0x68044, 8, 8⟩
def TD_STAT_LOCKED : Fld := ⟨0x68044, 4, 4⟩
def TD_STAT_ANCHORED : Fld := ⟨0x68044, 3, 3⟩
def TD_STAT_STATE : Fld := ⟨0x68044, 1, 0⟩
def TD_SEC_HI : Fld := ⟨0x68048, 15, 0⟩
def TD_SEC_LO : Fld := ⟨0x6804C, 31, 0⟩
def TD_NS : Fld := ⟨0x68050, 29, 0⟩
def TD_FRAC : Fld := ⟨0x68054, 31, 0⟩
def TD_RATE : Fld := ⟨0x68058, 31, 0⟩
def TD_OFFSET : Fld := ⟨0x6805C, 31, 0⟩
def TD_ANCHOR_LO : Fld := ⟨0x68060, 31, 0⟩
def TD_ANCHOR_HI : Fld := ⟨0x68064, 31, 0⟩
def TD_ANCHOR_SLIP : Fld := ⟨0x68068, 31, 0⟩
def TD_STEP_CNT : Fld := ⟨0x6806C, 31, 0⟩
def PTP_CFG_LOG_ANN : Fld := ⟨0x68080, 31, 28⟩
def PTP_CFG_LOG_SYNC : Fld := ⟨0x68080, 27, 24⟩
def PTP_CFG_PROFILE : Fld := ⟨0x68080, 17, 16⟩
def PTP_CFG_SLAVE_ONLY : Fld := ⟨0x68080, 14, 14⟩
def PTP_CFG_L2 : Fld := ⟨0x68080, 13, 13⟩
def PTP_CFG_P2P : Fld := ⟨0x68080, 12, 12⟩
def PTP_CFG_PORTS : Fld := ⟨0x68080, 10, 8⟩
def PTP_CFG_DOMAIN : Fld := ⟨0x68080, 7, 0⟩
def PTP_STAT_PORT : Fld := ⟨0x68084, 5, 4⟩
def PTP_STAT_PORT_STATE : Fld := ⟨0x68084, 3, 0⟩
def PTP_GM_LO : Fld := ⟨0x68088, 31, 0⟩
def PTP_GM_HI : Fld := ⟨0x6808C, 31, 0⟩
def TDC_INC : Fld := ⟨0x6C040, 31, 0⟩
def TDC_CNT_LO : Fld := ⟨0x6C044, 31, 0⟩
def TDC_CNT_HI : Fld := ⟨0x6C048, 31, 0⟩
def TDC_SET_LO : Fld := ⟨0x6C04C, 31, 0⟩
def TDC_SET_HI : Fld := ⟨0x6C050, 31, 0⟩
def TDC_CTRL : Fld := ⟨0x6C054, 0, 0⟩
def TDC_TICK_LO : Fld := ⟨0x6C058, 31, 0⟩
def TDC_TICK_HI : Fld := ⟨0x6C05C, 31, 0⟩
def REF_CTRL_BW : Fld := ⟨0x70040, 15, 8⟩
def REF_CTRL_OPEN : Fld := ⟨0x70040, 0, 0⟩
def REF_CTRL1_SLEW : Fld := ⟨0x70044, 25, 16⟩
def REF_CTRL1_HOLD_AVG : Fld := ⟨0x70044, 15, 8⟩
def REF_CTRL1_AGREE : Fld := ⟨0x70044, 7, 0⟩
def REF_CTRL2_REVERT_S : Fld := ⟨0x70048, 31, 16⟩
def REF_CTRL2_QUAL_S : Fld := ⟨0x70048, 15, 0⟩
def REF_EXT_WCLK1_RATE : Fld := ⟨0x7004C, 10, 8⟩
def REF_EXT_WCLK0_RATE : Fld := ⟨0x7004C, 6, 4⟩
def REF_EXT_EXT_MODE : Fld := ⟨0x7004C, 0, 0⟩
def REF_CAND_EN : Fld := ⟨0x70050, 31, 31⟩
def REF_CAND_RANK : Fld := ⟨0x70050, 27, 24⟩
def REF_CAND_SRC : Fld := ⟨0x70050, 23, 20⟩
def REF_CAND_WIN : Fld := ⟨0x70050, 19, 10⟩
def REF_CAND_HYST : Fld := ⟨0x70050, 7, 0⟩
def REF_STAT_HOLD_VALID : Fld := ⟨0x70070, 13, 13⟩
def REF_STAT_SLEWING : Fld := ⟨0x70070, 12, 12⟩
def REF_STAT_STEP : Fld := ⟨0x70070, 10, 8⟩
def REF_STAT_SEL : Fld := ⟨0x70070, 7, 4⟩
def REF_STAT_STATE : Fld := ⟨0x70070, 2, 0⟩
def REF_QUAL_DISAGREE : Fld := ⟨0x70074, 23, 16⟩
def REF_QUAL_USABLE : Fld := ⟨0x70074, 15, 8⟩
def REF_QUAL_QUALIFIED : Fld := ⟨0x70074, 7, 0⟩
def REF_PD : Fld := ⟨0x70078, 31, 0⟩
def REF_PD_SEQ : Fld := ⟨0x7007C, 31, 0⟩
def REF_NCO : Fld := ⟨0x70080, 31, 0⟩
def REF_FREERUN : Fld := ⟨0x70084, 31, 0⟩
def REF_HOLD : Fld := ⟨0x70088, 31, 0⟩
def REF_SWITCH_CNT : Fld := ⟨0x7008C, 31, 0⟩
def REF_LAST_CAUSE : Fld := ⟨0x70090, 19, 16⟩
def REF_LAST_FROM : Fld := ⟨0x70090, 11, 8⟩
def REF_LAST_TO : Fld := ⟨0x70090, 3, 0⟩
def WOUT_CTRL_EN : Fld := ⟨0x700A0, 8, 8⟩
def WOUT_CTRL_RATE : Fld := ⟨0x700A0, 6, 4⟩
def WOUT_CTRL_ALIGN_TO : Fld := ⟨0x700A0, 0, 0⟩
def PPS_CTRL_EN : Fld := ⟨0x700A8, 16, 16⟩
def PPS_CTRL_PPS_TD : Fld := ⟨0x700A8, 13, 12⟩
def PPS_CTRL_WIDTH : Fld := ⟨0x700A8, 9, 0⟩
def ALIGN : Fld := ⟨0x700AC, 2, 0⟩
def ALIGN_STAT : Fld := ⟨0x700B0, 10, 8⟩
def WOUT_OFS : Fld := ⟨0x700B4, 31, 0⟩
def PPS_OFS : Fld := ⟨0x700BC, 31, 0⟩
def REF_MEAS_OFS_X16 : Fld := ⟨0x71040, 31, 16⟩
def REF_MEAS_QUALIFIED : Fld := ⟨0x71040, 2, 2⟩
def REF_MEAS_USABLE : Fld := ⟨0x71040, 1, 1⟩
def REF_MEAS_VALID : Fld := ⟨0x71040, 0, 0⟩
def REF_DISQ_CNT : Fld := ⟨0x71080, 31, 0⟩
def CG_STAT_GLIDING : Fld := ⟨0x72040, 8, 8⟩
def CG_STAT_FAMILY : Fld := ⟨0x72040, 4, 4⟩
def CG_STAT_LOCK : Fld := ⟨0x72040, 2, 0⟩
def CG_MON : Fld := ⟨0x72044, 5, 0⟩
def CG_LOSS_CNT : Fld := ⟨0x72048, 31, 0⟩
def CDC_STAT_CLUSTER : Fld := ⟨0x72050, 15, 0⟩
def CDC_STAT_OTHER : Fld := ⟨0x72050, 20, 16⟩
def CDC_PARK_CNT : Fld := ⟨0x72054, 31, 0⟩
def CDC_DISCARD : Fld := ⟨0x72058, 31, 0⟩
def CDC_LAST_PAGE : Fld := ⟨0x7205C, 19, 12⟩
def CDC_LAST_OFFSET : Fld := ⟨0x7205C, 11, 0⟩
def LANE_CTRL_RX_INV : Fld := ⟨0x78040, 9, 9⟩
def LANE_CTRL_TX_INV : Fld := ⟨0x78040, 8, 8⟩
def LANE_CTRL_ADAPT_FREEZE : Fld := ⟨0x78040, 4, 4⟩
def LANE_STAT_FOM : Fld := ⟨0x78044, 31, 24⟩
def LANE_STAT_STATE : Fld := ⟨0x78044, 18, 16⟩
def LANE_STAT_RATE : Fld := ⟨0x78044, 10, 8⟩
def LANE_STAT_RX_INV_AUTO : Fld := ⟨0x78044, 4, 4⟩
def LANE_STAT_LOS : Fld := ⟨0x78044, 3, 3⟩
def LANE_STAT_CDR_LOCK : Fld := ⟨0x78044, 2, 2⟩
def LANE_STAT_ALIGNED : Fld := ⟨0x78044, 1, 1⟩
def LANE_STAT_UP : Fld := ⟨0x78044, 0, 0⟩
def LANE_TX_POST : Fld := ⟨0x78048, 20, 16⟩
def LANE_TX_PRE : Fld := ⟨0x78048, 11, 8⟩
def LANE_TX_AMP : Fld := ⟨0x78048, 5, 0⟩
def LANE_RX_CTLE : Fld := ⟨0x7804C, 27, 24⟩
def LANE_RX_DFE : Fld := ⟨0x7804C, 23, 0⟩
def LANE_FOM_CFG_FOM_WARN : Fld := ⟨0x78050, 15, 8⟩
def LANE_FOM_CFG_FOM_MIN : Fld := ⟨0x78050, 7, 0⟩
def LANE_EYE_EW : Fld := ⟨0x78054, 21, 16⟩
def LANE_EYE_EH : Fld := ⟨0x78054, 7, 0⟩
def LANE_TRAIN_CNT : Fld := ⟨0x78058, 31, 0⟩
def LANE_LOSS_CNT : Fld := ⟨0x7805C, 31, 0⟩
def LANE_CODE_ERR : Fld := ⟨0x78060, 31, 0⟩
def LANE_TEST_TEST_RATE : Fld := ⟨0x78080, 22, 20⟩
def LANE_TEST_LOOP : Fld := ⟨0x78080, 18, 16⟩
def LANE_TEST_TX_PAT : Fld := ⟨0x78080, 11, 8⟩
def LANE_TEST_RX_PAT : Fld := ⟨0x78080, 3, 0⟩
def LANE_USER_PAT : Fld := ⟨0x78084, 31, 0⟩
def LANE_INJ_ONE : Fld := ⟨0x78088, 4, 4⟩
def LANE_INJ_RATE : Fld := ⟨0x78088, 3, 0⟩
def LANE_PRBS_STAT_RESYNC : Fld := ⟨0x7808C, 31, 16⟩
def LANE_PRBS_STAT_SYNC : Fld := ⟨0x7808C, 0, 0⟩
def LANE_PRBS_ERR : Fld := ⟨0x78090, 31, 0⟩
def LANE_PRBS_BITS_LO : Fld := ⟨0x78094, 31, 0⟩
def LANE_PRBS_BITS_HI : Fld := ⟨0x78098, 15, 0⟩
def LANE_INJ_CNT : Fld := ⟨0x7809C, 31, 0⟩
def SR_SCRUB_PERIOD_MS : Fld := ⟨0x88040, 31, 16⟩
def SR_SCRUB_EN : Fld := ⟨0x88040, 0, 0⟩
def SR_SCRUB_PASS : Fld := ⟨0x88044, 31, 0⟩
def SR_SBE_CNT : Fld := ⟨0x88048, 31, 0⟩
def SR_DBE_CNT : Fld := ⟨0x8804C, 31, 0⟩
def SR_DBE_LAST_MEM : Fld := ⟨0x88050, 30, 28⟩
def SR_DBE_LAST_WORD : Fld := ⟨0x88050, 21, 0⟩
def SR_REMAP_BANKS : Fld := ⟨0x88054, 31, 16⟩
def SR_REMAP_ROWS : Fld := ⟨0x88054, 9, 0⟩
def SR_SECURE_ZEROISE : Fld := ⟨0x88058, 8, 8⟩
def SR_SECURE_ZEROISING : Fld := ⟨0x88058, 1, 1⟩
def SR_SECURE_ZERO : Fld := ⟨0x88058, 0, 0⟩
def SR_ZERO_CNT : Fld := ⟨0x8805C, 31, 0⟩
def SR_CONFLICT : Fld := ⟨0x88060, 31, 0⟩
def DR_CFG_RATE : Fld := ⟨0x89040, 25, 24⟩
def DR_CFG_GIB : Fld := ⟨0x89040, 19, 16⟩
def DR_CFG_RANKS : Fld := ⟨0x89040, 8, 8⟩
def DR_CFG_ECC_EN : Fld := ⟨0x89040, 1, 1⟩
def DR_CFG_TRAINED : Fld := ⟨0x89040, 0, 0⟩
def DR_STAT_HOT : Fld := ⟨0x89044, 2, 2⟩
def DR_STAT_SELF_REFRESH : Fld := ⟨0x89044, 1, 1⟩
def DR_STAT_UP : Fld := ⟨0x89044, 0, 0⟩
def DR_SCRUB : Fld := ⟨0x89048, 15, 0⟩
def DR_BW : Fld := ⟨0x8904C, 31, 0⟩
def DR_QUEUE_PEAK : Fld := ⟨0x89050, 22, 16⟩
def DR_QUEUE_NOW : Fld := ⟨0x89050, 6, 0⟩
def DR_SBE : Fld := ⟨0x89054, 31, 0⟩
def DR_DBE : Fld := ⟨0x89058, 31, 0⟩
def DR_DBE_ADDR_LO : Fld := ⟨0x8905C, 31, 0⟩
def DR_DBE_ADDR_HI : Fld := ⟨0x89060, 31, 0⟩
def DR_TAP_LATE : Fld := ⟨0x89064, 31, 0⟩
def MR_CTRL_GO : Fld := ⟨0x8B040, 31, 31⟩
def MR_CTRL_ALG : Fld := ⟨0x8B040, 17, 16⟩
def MR_CTRL_PRESERVE : Fld := ⟨0x8B040, 12, 12⟩
def MR_CTRL_TARGET : Fld := ⟨0x8B040, 8, 8⟩
def MR_CTRL_ABORT : Fld := ⟨0x8B040, 0, 0⟩
def MR_BANK : Fld := ⟨0x8B044, 8, 0⟩
def MR_DRAM_START : Fld := ⟨0x8B048, 21, 0⟩
def MR_DRAM_LEN : Fld := ⟨0x8B04C, 22, 0⟩
def MR_STAT_REASON : Fld := ⟨0x8B050, 7, 4⟩
def MR_STAT_RESULT : Fld := ⟨0x8B050, 3, 0⟩
def MR_FAIL_ADDR : Fld := ⟨0x8B054, 31, 0⟩
def MR_SEG_DONE : Fld := ⟨0x8B058, 22, 0⟩
def MR_BOOT_TIME_US : Fld := ⟨0x8B05C, 31, 16⟩
def MR_BOOT_ROWS : Fld := ⟨0x8B05C, 9, 0⟩
def MR_HOLD : Fld := ⟨0x8B060, 0, 0⟩
def FB_AGE : Fld := ⟨0x8C040, 11, 0⟩
def FB_OUTST_PEAK : Fld := ⟨0x8C044, 23, 16⟩
def FB_OUTST_NOW : Fld := ⟨0x8C044, 7, 0⟩
def FB_HELD_ORD : Fld := ⟨0x8C048, 31, 0⟩
def FB_HELD_CRED : Fld := ⟨0x8C04C, 31, 0⟩
def FB_LOCK_TO : Fld := ⟨0x8C050, 31, 0⟩
def FB_NOPATH_COUNT : Fld := ⟨0x8C054, 31, 16⟩
def FB_NOPATH_TARGET : Fld := ⟨0x8C054, 11, 8⟩
def FB_NOPATH_MASTER : Fld := ⟨0x8C054, 3, 0⟩
def FB_MAXWAIT : Fld := ⟨0x8C080, 15, 0⟩
def EN_CTRL : Fld := ⟨0x03040, 0, 0⟩
def EN_CAP : Fld := ⟨0x03044, 23, 0⟩
def EN_STAT_SHED_LEVEL : Fld := ⟨0x03048, 9, 8⟩
def EN_STAT_MODE : Fld := ⟨0x03048, 4, 4⟩
def EN_STAT_CAL_VALID : Fld := ⟨0x03048, 1, 1⟩
def EN_STAT_OVER : Fld := ⟨0x03048, 0, 0⟩
def EN_TICK : Fld := ⟨0x0304C, 31, 0⟩
def EN_AVG_MW : Fld := ⟨0x03050, 23, 0⟩
def EN_PEAK_MW : Fld := ⟨0x03054, 23, 0⟩
def EN_CAL : Fld := ⟨0x03058, 15, 0⟩
def EN_STATIC_WORST_MW : Fld := ⟨0x0305C, 31, 16⟩
def EN_STATIC_EXP_MW : Fld := ⟨0x0305C, 15, 0⟩
def EN_ADMIT_MW_WORST_MW : Fld := ⟨0x03060, 31, 16⟩
def EN_ADMIT_MW_EXP_MW : Fld := ⟨0x03060, 15, 0⟩
def EN_SHED_RESTORE_S : Fld := ⟨0x03064, 31, 16⟩
def EN_SHED_HYST_PCT : Fld := ⟨0x03064, 15, 8⟩
def EN_SHED_WIN : Fld := ⟨0x03064, 7, 0⟩
def EN_EXPECT_PROG_PCT : Fld := ⟨0x03068, 15, 8⟩
def EN_EXPECT_BKG_PCT : Fld := ⟨0x03068, 7, 0⟩
def EN_SIL_HOLD : Fld := ⟨0x0306C, 23, 8⟩
def EN_SIL_THRESH : Fld := ⟨0x0306C, 7, 0⟩
def EN_SHED_CNT : Fld := ⟨0x03070, 31, 0⟩
def EN_CLUSTER_UJ : Fld := ⟨0x03080, 31, 0⟩
def EN_XPT_UJ : Fld := ⟨0x030C0, 31, 0⟩
def EN_DRAM_UJ : Fld := ⟨0x030C4, 31, 0⟩
def EN_OTHER_UJ : Fld := ⟨0x030C8, 31, 0⟩
def EN_PMB_EN : Fld := ⟨0x03100, 31, 31⟩
def EN_PMB_ADDR : Fld := ⟨0x03100, 22, 16⟩
def EN_PMB_PAGE : Fld := ⟨0x03100, 7, 0⟩
def EN_PMB_MW : Fld := ⟨0x03120, 23, 0⟩
def EN_PMB_CTRL : Fld := ⟨0x03140, 0, 0⟩
def MB_FW_VER : Fld := ⟨0x98040, 31, 0⟩
def MB_FW_INFO_PAIR_COMPAT : Fld := ⟨0x98044, 31, 16⟩
def MB_FW_INFO_SVN : Fld := ⟨0x98044, 15, 0⟩
def MB_BOOT_OTHER_VALID : Fld := ⟨0x98048, 11, 11⟩
def MB_BOOT_FALLBACK : Fld := ⟨0x98048, 10, 10⟩
def MB_BOOT_TRIAL : Fld := ⟨0x98048, 9, 9⟩
def MB_BOOT_SLOT : Fld := ⟨0x98048, 8, 8⟩
def MB_BOOT_STAGE : Fld := ⟨0x98048, 2, 0⟩
def MB_RESET_CAUSE : Fld := ⟨0x9804C, 3, 0⟩
def MB_RESET_KEY : Fld := ⟨0x98050, 31, 16⟩
def MB_RESET_KIND : Fld := ⟨0x98050, 1, 0⟩
def MB_TIMES_ENGINE_MS : Fld := ⟨0x98054, 31, 16⟩
def MB_TIMES_MGMT_MS : Fld := ⟨0x98054, 15, 0⟩
def MB_UPD_CHUNKS : Fld := ⟨0x98058, 31, 16⟩
def MB_UPD_STATE : Fld := ⟨0x98058, 2, 0⟩
def MB_SLOT_A : Fld := ⟨0x98060, 31, 0⟩
def MB_SLOT_B : Fld := ⟨0x98064, 31, 0⟩
def MB_HEARTBEAT : Fld := ⟨0x9806C, 31, 0⟩
def SN_TEMP : Fld := ⟨0x99040, 15, 0⟩
def SN_TEMP_MAX : Fld := ⟨0x99060, 15, 0⟩
def SN_TLIM_TRIP : Fld := ⟨0x99064, 23, 16⟩
def SN_TLIM_CRIT : Fld := ⟨0x99064, 15, 8⟩
def SN_TLIM_WARN : Fld := ⟨0x99064, 7, 0⟩
def SN_RAIL_MIN_MV : Fld := ⟨0x99080, 31, 16⟩
def SN_RAIL_MV : Fld := ⟨0x99080, 15, 0⟩
def SN_RAIL_WIN_FAULT : Fld := ⟨0x990C0, 15, 8⟩
def SN_RAIL_WIN_WARN : Fld := ⟨0x990C0, 7, 0⟩
def SN_RAIL_STAT_FAULT : Fld := ⟨0x990C4, 27, 16⟩
def SN_RAIL_STAT_WARN : Fld := ⟨0x990C4, 11, 0⟩
def LOG_HEAD : Fld := ⟨0x9A040, 31, 0⟩
def LOG_OLDEST : Fld := ⟨0x9A044, 31, 0⟩
def LOG_STAT_STAGED : Fld := ⟨0x9A048, 22, 16⟩
def LOG_STAT_FLUSHING : Fld := ⟨0x9A048, 1, 1⟩
def LOG_STAT_SEALED : Fld := ⟨0x9A048, 0, 0⟩
def LOG_DROP : Fld := ⟨0x9A04C, 31, 0⟩
def LOG_FLUSH_CNT : Fld := ⟨0x9A050, 31, 0⟩
def LOG_AREA_BASE : Fld := ⟨0x9A054, 31, 0⟩
def LOG_AREA_SIZE : Fld := ⟨0x9A058, 31, 0⟩
def LC_STATE_BUSY : Fld := ⟨0x9B040, 8, 8⟩
def LC_STATE_STATE : Fld := ⟨0x9B040, 2, 0⟩
def LC_KEYS_KILLED : Fld := ⟨0x9B044, 4, 4⟩
def LC_KEYS_DUK : Fld := ⟨0x9B044, 3, 3⟩
def LC_KEYS_ROLES : Fld := ⟨0x9B044, 2, 0⟩
def LC_SVN : Fld := ⟨0x9B048, 15, 0⟩
def LC_TAMPER_CFG_KILL : Fld := ⟨0x9B04C, 4, 4⟩
def LC_TAMPER_CFG_PIN_EN : Fld := ⟨0x9B04C, 1, 0⟩
def LC_TAMPER_STAT_LAST : Fld := ⟨0x9B050, 7, 4⟩
def LC_TAMPER_STAT_TAMPERED : Fld := ⟨0x9B050, 0, 0⟩
def LC_TAP : Fld := ⟨0x9B054, 1, 0⟩
def LC_ROOT_HASH : Fld := ⟨0x9B080, 31, 0⟩
def DEV_ID_PART : Fld := ⟨0x00040, 31, 16⟩
def DEV_ID_FAMILY : Fld := ⟨0x00040, 15, 8⟩
def DEV_ID_STEPPING : Fld := ⟨0x00040, 7, 0⟩
def DEV_CAPS_RATES : Fld := ⟨0x00044, 21, 16⟩
def DEV_CAPS_CLUSTERS : Fld := ⟨0x00044, 12, 8⟩
def DEV_CAPS_FRAMES : Fld := ⟨0x00044, 4, 0⟩
def DEV_SERIAL_LO : Fld := ⟨0x00048, 31, 0⟩
def DEV_SERIAL_HI : Fld := ⟨0x0004C, 31, 0⟩
def DEV_STAT_LC : Fld := ⟨0x00050, 18, 16⟩
def DEV_STAT_ROLE : Fld := ⟨0x00050, 9, 8⟩
def DEV_STAT_ENGINE : Fld := ⟨0x00050, 2, 2⟩
def DEV_STAT_MGMT_READY : Fld := ⟨0x00050, 1, 1⟩
def DEV_STAT_F4_STOP : Fld := ⟨0x00050, 0, 0⟩
def DEV_DRAM_USABLE_MIB : Fld := ⟨0x00054, 31, 16⟩
def DEV_DRAM_RAW_GIB : Fld := ⟨0x00054, 7, 0⟩
def DEV_UNALLOC_COUNT : Fld := ⟨0x00058, 31, 16⟩
def DEV_UNALLOC_PAGE : Fld := ⟨0x00058, 7, 0⟩
def DEV_RWA_REJ : Fld := ⟨0x0005C, 31, 0⟩
def DEV_RWA_LAST_PAGE : Fld := ⟨0x00060, 19, 12⟩
def DEV_RWA_LAST_OFFSET : Fld := ⟨0x00060, 11, 0⟩
def DEV_SCRATCH : Fld := ⟨0x00070, 31, 0⟩
def TICK_NUM_LO : Fld := ⟨0x01040, 31, 0⟩
def TICK_NUM_HI : Fld := ⟨0x01044, 31, 0⟩
def TICK_CFG_RATE : Fld := ⟨0x01048, 10, 8⟩
def TICK_CFG_LOG2_F : Fld := ⟨0x01048, 2, 0⟩
def TICK_STAT_MATCH_LATE : Fld := ⟨0x0104C, 9, 9⟩
def TICK_STAT_FAMILY : Fld := ⟨0x0104C, 8, 8⟩
def TICK_STAT_PAIR_LOCKED : Fld := ⟨0x0104C, 1, 1⟩
def TICK_STAT_RUNNING : Fld := ⟨0x0104C, 0, 0⟩
def TICK_PERIOD : Fld := ⟨0x01050, 31, 0⟩
def TICK_MATCH_LO : Fld := ⟨0x01058, 31, 0⟩
def TICK_MATCH_HI : Fld := ⟨0x0105C, 31, 0⟩
def TICK_MATCH_CTRL_EN : Fld := ⟨0x01060, 8, 8⟩
def TICK_MATCH_CTRL_VEC : Fld := ⟨0x01060, 5, 0⟩
def TICK_TS_CTRL : Fld := ⟨0x01064, 1, 0⟩
def TICK_TS_SEC_HI : Fld := ⟨0x01068, 15, 0⟩
def TICK_TS_SEC_LO : Fld := ⟨0x0106C, 31, 0⟩
def TICK_TS_NS : Fld := ⟨0x01070, 29, 0⟩
def FLT_TOP_SEQ : Fld := ⟨0x90040, 31, 16⟩
def FLT_TOP_PAGE : Fld := ⟨0x90040, 15, 8⟩
def FLT_TOP_SOURCE : Fld := ⟨0x90040, 7, 4⟩
def FLT_TOP_VALID : Fld := ⟨0x90040, 3, 3⟩
def FLT_TOP_EFF : Fld := ⟨0x90040, 2, 0⟩
def FLT_TOP1_ORIG : Fld := ⟨0x90044, 26, 24⟩
def FLT_TOP1_LEFT_US : Fld := ⟨0x90044, 19, 0⟩
def FLT_ACK_SEQ : Fld := ⟨0x90048, 31, 24⟩
def FLT_ACK_PAGE : Fld := ⟨0x90048, 15, 8⟩
def FLT_ACK_SOURCE : Fld := ⟨0x90048, 3, 0⟩
def FLT_AUTO_F2 : Fld := ⟨0x9004C, 2, 2⟩
def FLT_AUTO_F1 : Fld := ⟨0x9004C, 1, 1⟩
def FLT_OPEN_F4 : Fld := ⟨0x90050, 31, 24⟩
def FLT_OPEN_F3 : Fld := ⟨0x90050, 23, 16⟩
def FLT_OPEN_F2 : Fld := ⟨0x90050, 15, 8⟩
def FLT_OPEN_F1 : Fld := ⟨0x90050, 7, 0⟩
def FLT_BROKEN_VALID : Fld := ⟨0x90054, 31, 31⟩
def FLT_BROKEN_PAGE : Fld := ⟨0x90054, 15, 8⟩
def FLT_BROKEN_SOURCE : Fld := ⟨0x90054, 3, 0⟩
def KAT_STAT : Fld := ⟨0x90058, 16, 0⟩
def KAT_LATE_CNT : Fld := ⟨0x9005C, 31, 0⟩
def KAT_ROUNDS : Fld := ⟨0x90060, 31, 0⟩
def FLT_INJ_MODE : Fld := ⟨0x90080, 30, 28⟩
def FLT_INJ_TARGET : Fld := ⟨0x90080, 24, 16⟩
def FLT_INJ_SOURCE : Fld := ⟨0x90080, 3, 0⟩
def PF_STAT_PFAIL : Fld := ⟨0x90084, 8, 8⟩
def PF_STAT_STEP : Fld := ⟨0x90084, 3, 0⟩
def FLT_PAGE_OPEN : Fld := ⟨0x91040, 31, 0⟩
def FLT_ESC_CNT : Fld := ⟨0x91060, 31, 0⟩
def FLT_YIELD_CNT : Fld := ⟨0x91064, 31, 0⟩
def FLT_F4_CNT : Fld := ⟨0x91068, 31, 0⟩
def STR_CONC : Fld := ⟨0x67040, 31, 0⟩
def EN_WAKE_TOL : Fld := ⟨0x04040, 23, 0⟩
def EN_GROUP_IDLE : Fld := ⟨0x04440, 31, 0⟩
def EN_GATE_CNT : Fld := ⟨0x04460, 31, 0⟩
def MSIX_TABLE : Fld := ⟨0x09400, 31, 0⟩
def MSIX_PBA : Fld := ⟨0x09800, 31, 0⟩

end Sys2Proof.Machine.F
end

