-- ==== Sys2Proof/Config.lean ====
section
/-!
DEFINITION. What the spec leaves to the implementation or does not compute bit for bit: uninterpreted constants,
with no body, so that no claim can rest on a value of theirs.  Each has a row in notes/assumptions.
-/
namespace Sys2Proof.Config

/-- A value the spec leaves open, the `n`-th such value of a run (log entry 3). -/
opaque freeValue : Nat → Nat

/-! Cryptography named by the spec: R47, R48, R234, R485, R498 to R502 (log entry 4). -/

/-- HMAC-SHA-256: key, then message; 32 bytes. -/
opaque hmacSha256 : List Byte → List Byte → List Byte
/-- SHA-384; 48 bytes. -/
opaque sha384 : List Byte → List Byte
/-- ECDSA P-384 verification: public-key hash, message hash, signature. -/
opaque ecdsaOk : List Byte → List Byte → List Byte → Bool
/-- AES-256-GCM decryption: key, nonce, tag, ciphertext; none if the tag does not match. -/
opaque gcmOpen : List Byte → List Byte → List Byte → List Byte → Option (List Byte)
/-- AES-256-GCM encryption: key, nonce, plaintext; ciphertext and tag. -/
opaque gcmSeal : List Byte → List Byte → List Byte → List Byte × List Byte
/-- HKDF-SHA-256: key, context; 32 bytes. -/
opaque hkdf : List Byte → List Byte → List Byte

/-! Formulas given without a rounding (R95 to R108, R243 to R262; log entry 5): Machine/Levels.lean computes them and leaves open only
what the spec leaves open. -/

/-- Whether a result that its format does not hold exactly is the integer above or the one below: formula, operands. -/
opaque lastBit : Nat → Int → Int → Bool
/-- The error of the sine table and its interpolation at a phase (R100), before its bound. -/
opaque sineError : Nat → Nat
/-- How far the meter's level rises in a tick (R106), before its bound: old level, level of the tick's peak, INTEG_MS, tick, fs. -/
opaque meterRise : Int → Int → Nat → Nat → Nat → Nat
/-- The phase of a bin of a probe, of the device's pseudo-random generator: run ID, output, restart count, bin (R256). -/
opaque probePhase : Nat → Nat → Nat → Nat → Nat

/-! Figures of one implementation (log entry 6). -/

/-- The flash page-program time in µs (R161). -/
opaque flashPageUs : Nat
/-- The bytes after the header of a journal record of kinds 2, 3, 4, 6 and 7, which R180 does not lay out. -/
opaque journalBody : Nat → Nat

/-- Cycles of its budget that a built-in kernel leaves (R211): type, budget; its code is the firmware's (log entry 42). -/
opaque builtinSpare : Nat → Nat → Nat

/-- Which of two loads of one bundle into one register stands (R218 orders only loads against slots, R214 lets it hang on nothing but the
bundle; log entry 41): opcode and immediate of the A slot. -/
opaque loadTie : Nat → Nat → Bool

/-- Whether the access size of a bit-reversed AUPD, which makes no access, is that of a vector (R200, R223; log entry 41). -/
opaque aupdVector : Bool

end Sys2Proof.Config
end

