-- ==== Sys2Proof/Machine/ClusterTypes.lean ====
section
/-!
DEFINITION. What a DSP cluster holds (R187 to R190, R196, R201, R211): two register sets, buffer registers, loops, loads
on their way, data and program memory; and the fields of a bundle's three slots (R217, R220, R222, R224).
-/
namespace Sys2Proof.Machine

/-- A vector register: four lanes, lane 0 first (R187). -/
abbrev Quad := Vector Word 4

/-- An accumulator: four lanes of 72 bits (R187). -/
abbrev AccQuad := Vector (BitVec 72) 4

/-- The shadowed registers (R187, R188). -/
structure RegSet where
  v : Vector Quad 16
  acc : Vector AccQuad 8
  p : Vector (BitVec 19) 8
  m : Vector (BitVec 20) 8
  s : Vector Word 8
deriving DecidableEq, Repr

/-- A register write waiting for the end of a bundle (R218). -/
inductive RegWrite where
  | v (r : Fin 16) (q : Quad)
  | acc (r : Fin 8) (q : AccQuad)
  /-- Part L, H or G of each lane of an accumulator (LDAP, R223). -/
  | accPart (r : Fin 8) (part : Nat) (q : Quad)
  | p (r : Fin 8) (x : BitVec 19)
  | m (r : Fin 8) (x : BitVec 20)
  | l (r : Fin 8) (x : BitVec 19)
  | b (r : Fin 8) (x : BitVec 19)
  | s (r : Fin 8) (x : Word)
deriving DecidableEq, Repr

/-- A running zero-overhead loop (R225): its counter and the first and last bundle of its body. -/
structure LoopFrame where
  k : Fin 2
  first : Nat
  last : Nat
deriving DecidableEq, Repr

/-- The kernel a cluster runs (R201, R211, R232, R238): handle, its code, its windows, and the budget counter. -/
structure KernelRun where
  handle : Nat
  base : Nat
  codeLen : Nat
  /-- Data window, and how many of its bytes from the start may be written. -/
  winLo : Nat
  winLen : Nat
  wrLen : Nat
  strip : Nat
  left : Nat
deriving DecidableEq, Repr

/-- A cluster. -/
structure Cluster where
  fg : RegSet
  sh : RegSet
  l : Vector (BitVec 19) 8
  b : Vector (BitVec 19) 8
  lc : Vector (BitVec 16) 2
  cstat : Word
  pc : Nat
  /-- Running loops, innermost first. -/
  loops : List LoopFrame
  /-- Loads issued by the last bundle, which return at the end of the next (R218). -/
  loads : List RegWrite
  run : Option KernelRun
  mem : Mem
  pmem : Sparse (BitVec 64)
  /-- Lane words of data memory and bundles of program memory that hold a one- or two-bit error (R195, R196). -/
  memBad : Sparse Nat
  pmemBad : Sparse Nat
  /-- Bits that an injection flips in the next write to a bank (R458): banks 0 to 7 are those of the data memory, 8 and 9 of the program memory. -/
  flips : Sparse Nat
  /-- Sticky CSTAT bits, and bundles issued, gathered in this tick (R189). -/
  sticky : Nat
  issued : Nat
deriving DecidableEq, Repr

/-- What happens in a bundle beside register and memory writes. -/
inductive ClEvent where
  | circ
  | window (word : Nat)
  | illegal
  | sbe (addr : Nat)
  | dbe (addr : Nat)
  | pmSbe
  | pmDbe
deriving DecidableEq, Repr

/-- The M slot's fields (R220). -/
structure MSlot where
  op : Nat
  d : Fin 16
  a : Fin 16
  b : Fin 16
  sh : Fin 8
  imm : BitVec 7
deriving DecidableEq, Repr

/-- The A slot's fields (R222), in the single format; the dual format reads the same 22 bits through `dual`. -/
structure ASlot where
  op : Nat
  pn : Fin 8
  reg : Fin 16
  am : Fin 4
  imm : BitVec 8
deriving DecidableEq, Repr

/-- PB of the dual format: IMM8 [7:5] (R222). -/
def ASlot.pb (a : ASlot) : Fin 8 := ⟨(a.imm.toNat / 32) % 8, Nat.mod_lt _ (by decide)⟩
/-- REGB of the dual format: IMM8 [4:1]. -/
def ASlot.regb (a : ASlot) : Fin 16 := ⟨(a.imm.toNat / 2) % 16, Nat.mod_lt _ (by decide)⟩
/-- UB of the dual format: IMM8 [0]. -/
def ASlot.ub (a : ASlot) : Bool := a.imm.toNat % 2 == 1

/-- The C slot's fields (R224). -/
structure CSlot where
  op : Nat
  imm : BitVec 10
deriving DecidableEq, Repr

/-- A bundle (R217). -/
structure Bundle where
  m : MSlot
  a : ASlot
  c : CSlot
deriving DecidableEq, Repr

/-- The no-op of each slot. -/
def MSlot.nop : MSlot := ⟨0, 0, 0, 0, 0, 0⟩
def ASlot.nop : ASlot := ⟨0, 0, 0, 0, 0⟩
def CSlot.nop : CSlot := ⟨0, 0⟩

/-- A register set of zeros. -/
def RegSet.zero : RegSet :=
  { v := .replicate 16 (.replicate 4 0), acc := .replicate 8 (.replicate 4 0), p := .replicate 8 0,
    m := .replicate 8 0, s := .replicate 8 0 }

/-- A cluster with nothing in it. -/
def Cluster.zero : Cluster :=
  { fg := .zero, sh := .zero, l := .replicate 8 0, b := .replicate 8 0, lc := .replicate 2 0, cstat := 0, pc := 0,
    loops := [], loads := [], run := none, mem := [], pmem := [], memBad := [], pmemBad := [], flips := [], sticky := 0, issued := 0 }

end Sys2Proof.Machine
end

