-- ==== Sys2Proof/Machine/Flags.lean ====
section
/-!
DEFINITION. A cluster's status bits (R189, R203, R205, R224): the lanes that saturate, CSTAT's sticky bits and compare result, and the
conditions a branch reads.
-/
namespace Sys2Proof.Machine

/-- The lanes that hold of a predicate, lane `l` as bit `l`. -/
def laneMask (f : Fin 4 → Bool) : Nat :=
  (f 0).toNat + 2 * (f 1).toNat + 4 * (f 2).toNat + 8 * (f 3).toNat

/-- Whether a value lies outside the signed 32-bit range. -/
def over32 (v : Int) : Bool := decide (v < -2147483648) || decide (2147483647 < v)

/-- Whether a value lies outside the signed 72-bit range (AOVF, R203). -/
def over72 (v : Int) : Bool := decide (v < -(2 ^ 71)) || decide (2 ^ 71 - 1 < v)

/-- The sticky CSTAT bits (R189). -/
def stickyMask : Nat := 0x3CFF

/-- CSTAT with sticky bits set. -/
def orCstat (c : Word) (bits : Nat) : Word := c ||| BitVec.ofNat 32 bits

/-- CSTAT after a compare: CMP [31:28], ANY [27], ALL [26] (R189). -/
def cmpCstat (c : Word) (m : Nat) : Word :=
  (c &&& 0x03FFFFFF#32) ||| BitVec.ofNat 32 (m * 2 ^ 28 + (if m = 0 then 0 else 2 ^ 27) + (if m = 15 then 2 ^ 26 else 0))

/-- The condition of BRC (R224). -/
def condHolds (cstat : Word) (cond : Nat) : Bool :=
  let any := bitOf cstat.toNat 27
  let all := bitOf cstat.toNat 26
  if cond = 0 then any else if cond = 1 then all else if cond = 2 then !any else !all

end Sys2Proof.Machine
end

