-- ==== Sys2Proof/Machine/Operands.lean ====
section
/-!
DEFINITION. The operand forms: register numbers in a slot's fields (R220, R222), the count of a normalisation (R221), which fields of
an M slot an operation may use (R221, R226), and the descriptor of a command row (R46, R52).
-/
namespace Sys2Proof.Machine

/-- A three-bit register number in a four-bit field (R220, R222). -/
def w8 (x : Fin 8) : Fin 16 := ⟨x.val, Nat.lt_of_lt_of_le x.isLt (by decide)⟩

/-- A scalar, accumulator or vector operand's low three bits as an index (R220). -/
def low3 (r : Fin 16) : Fin 8 := ⟨r.val % 8, Nat.mod_lt _ (by decide)⟩

/-- The count of NORM and ANORM (R221): IMM7 from −31 to +31, or the scalar named by MB for −64; none is illegal (R226). -/
def normCount (k : RegSet) (f : MSlot) : Option Int :=
  let i := f.imm.toInt
  if -31 ≤ i ∧ i ≤ 31 then some i
  else if i = -64 then
    if h : f.b.val < 8 then
      let c := (k.s[f.b.val]'h).toInt
      if -31 ≤ c ∧ c ≤ 31 then some c else none
    else none
  else none

/-- Whether an M slot's opcode is one of the table's, its accumulator and scalar operand fields have bit 3 clear, and MD
of a compare is 0 (R220, R221, R226). A field that an operation does not use, and that the spec does not call reserved,
may hold anything (log entry 40). -/
def mFieldsOk (f : MSlot) : Bool :=
  let d0 := f.d == 0
  let d3 := decide (f.d.val < 8); let a3 := decide (f.a.val < 8); let b3 := decide (f.b.val < 8)
  match f.op with
  | 0x00 | 0x10 | 0x11 | 0x12 | 0x13 | 0x14 | 0x15 | 0x16 | 0x17 | 0x18 | 0x19 | 0x1B | 0x1D | 0x23 => true
  | 0x01 | 0x02 | 0x03 | 0x06 | 0x09 | 0x1E => d3
  | 0x04 | 0x05 => d3 && b3
  | 0x07 | 0x08 | 0x0D | 0x32 | 0x35 | 0x36 => d3 && a3
  | 0x0A | 0x0C | 0x1A => a3
  | 0x0B => d3 && (b3 || f.imm != BitVec.ofInt 7 (-64))
  | 0x1C => b3 || f.imm != BitVec.ofInt 7 (-64)
  | 0x20 | 0x21 | 0x22 => d0
  | 0x30 | 0x31 | 0x33 | 0x34 | 0x37 => d3 && a3 && b3
  | 0x38 => d0 && a3 && b3
  | _ => false

/-- A descriptor with an opcode, and with a byte of its body. -/
def withOp (d : Desc) (op : Nat) : Desc := { d with op := BitVec.ofNat 16 op }
def withByte (d : Desc) (i : Nat) (f : Nat → Nat) : Desc := { d with buf := d.buf.set i (BitVec.ofNat 8 (f (d.buf.getD i 0).toNat)) }

end Sys2Proof.Machine
end

