-- ==== Sys2Proof/Machine/ClusterOps.lean ====
section
/-!
DEFINITION. The cluster's arithmetic (R202 to R207), address updates (R197 to R200), data memory (R190, R195, R201,
R227) and what each slot of a bundle does (R221, R223 to R226).
-/
namespace Sys2Proof.Machine

/-- Four lanes from a function of the lane. -/
def lanes {α : Type} (f : Fin 4 → α) : Vector α 4 := Vector.ofFn f

/-- A value saturated to 72 bits (R203). -/
def sat72 (v : Int) : BitVec 72 := BitVec.ofInt 72 (max (-(2 ^ 71)) (min (2 ^ 71 - 1) v))

/-- A product as it enters an accumulator: exact, shifted left by one (R202). -/
def prod (a b : Word) : Int := a.toInt * b.toInt * 2

/-- The conversion of an accumulator value to 32 bits with shift `sh`, before saturation (R204). -/
def convert (acc : Int) (sh : Nat) : Int := (acc * 2 ^ sh + 2 ^ 31) / 2 ^ 32

/-- The redundant sign bits of a `w`-bit two's-complement number: bits below the sign bit equal to it, before the first
that differs (R206). -/
def signBits (w : Nat) (v : Int) : Nat :=
  let m := if v < 0 then (-v - 1).toNat else v.toNat
  w - 1 - (if m = 0 then 0 else m.log2 + 1)

/-- A lane shifted by a signed count, before saturation (R207). -/
def normShift (v c : Int) : Int := if 0 ≤ c then v * 2 ^ c.toNat else roundShift v (-c).toNat

/-- What one slot asks for: register writes at the end of the bundle, SAT and AOVF lanes, a compare result, or a stop. -/
structure SlotRes where
  writes : List RegWrite
  sat : Nat
  aovf : Nat
  cmp : Option Nat
  illegal : Bool
deriving DecidableEq, Repr

/-- A slot that does nothing, and one that is illegal. -/
def SlotRes.none : SlotRes := ⟨[], 0, 0, .none, false⟩
def SlotRes.bad : SlotRes := ⟨[], 0, 0, .none, true⟩

/-- A vector result per lane, saturated where asked. -/
def vRes (d : Fin 16) (f : Fin 4 → Int) : SlotRes :=
  ⟨[.v d (lanes fun i => satWord (f i))], laneMask fun i => over32 (f i), 0, .none, false⟩

/-- An accumulator result per lane, saturated (R203). -/
def accRes (d : Fin 16) (f : Fin 4 → Int) : SlotRes :=
  ⟨[.acc (low3 d) (lanes fun i => sat72 (f i))], 0, laneMask fun i => over72 (f i), .none, false⟩

/-- A scalar result. -/
def sRes (d : Fin 16) (x : Word) : SlotRes := ⟨[.s (low3 d) x], 0, 0, .none, false⟩

/-- A compare result. -/
def cmpRes (m : Nat) : SlotRes := ⟨[], 0, 0, some m, false⟩

/-- The smallest of four lanes. -/
def lane4Min (f : Fin 4 → Nat) : Nat := min (min (f 0) (f 1)) (min (f 2) (f 3))

/-- The M slot (R221) on the register set and CSTAT at the start of the bundle. -/
def mSlot (k : RegSet) (cstat : Word) (f : MSlot) : SlotRes :=
  if ¬ mFieldsOk f then .bad
  else
    let va := k.v[f.a]; let vb := k.v[f.b]
    let aa := k.acc[low3 f.a]; let ad := k.acc[low3 f.d]
    let sa := k.s[low3 f.a]; let sb := k.s[low3 f.b]
    match f.op with
    | 0x01 => accRes f.d fun i => prod va[i] vb[i]
    | 0x02 => accRes f.d fun i => ad[i].toInt + prod va[i] vb[i]
    | 0x03 => accRes f.d fun i => ad[i].toInt - prod va[i] vb[i]
    | 0x04 => accRes f.d fun i => ad[i].toInt + prod va[i] sb
    | 0x05 => accRes f.d fun i => ad[i].toInt - prod va[i] sb
    | 0x06 => accRes f.d fun _ => 0
    | 0x07 => accRes f.d fun i => aa[i].toInt
    | 0x08 => accRes f.d fun i => ad[i].toInt + aa[i].toInt
    | 0x09 => accRes f.d fun i => va[i].toInt * 2 ^ (32 - f.sh.val)
    | 0x0A => vRes f.d fun i => convert aa[i].toInt f.sh.val
    | 0x0B =>
      match normCount k f with
      | some c => { accRes f.d (fun i => normShift ad[i].toInt c) with
                    sat := laneMask fun i => over72 (normShift ad[i].toInt c), aovf := 0 }
      | none => .bad
    | 0x0C => vRes f.d fun i => signBits 72 aa[i].toInt
    | 0x0D => sRes f.d (BitVec.ofNat 32 (lane4Min fun i => signBits 72 aa[i].toInt))
    | 0x10 => vRes f.d fun i => va[i].toInt + vb[i].toInt
    | 0x11 => vRes f.d fun i => va[i].toInt - vb[i].toInt
    | 0x12 => vRes f.d fun i => -va[i].toInt
    | 0x13 => vRes f.d fun i => if va[i].toInt < 0 then -va[i].toInt else va[i].toInt
    | 0x14 => vRes f.d fun i => min va[i].toInt vb[i].toInt
    | 0x15 => vRes f.d fun i => max va[i].toInt vb[i].toInt
    | 0x16 => vRes f.d fun i => (va[i] &&& vb[i]).toInt
    | 0x17 => vRes f.d fun i => (va[i] ||| vb[i]).toInt
    | 0x18 => vRes f.d fun i => (va[i] ^^^ vb[i]).toInt
    | 0x19 => vRes f.d fun i => va[i].toInt
    | 0x1A => vRes f.d fun _ => sa.toInt
    | 0x1B => vRes f.d fun i => convert (prod va[i] vb[i]) f.sh.val
    | 0x1C =>
      match normCount k f with
      | some c => vRes f.d fun i => normShift va[i].toInt c
      | none => .bad
    | 0x1D => vRes f.d fun i => signBits 32 va[i].toInt
    | 0x1E => sRes f.d (BitVec.ofNat 32 (lane4Min fun i => signBits 32 va[i].toInt))
    | 0x20 => cmpRes (laneMask fun i => decide (va[i].toInt < vb[i].toInt))
    | 0x21 => cmpRes (laneMask fun i => decide (va[i].toInt ≤ vb[i].toInt))
    | 0x22 => cmpRes (laneMask fun i => decide (va[i].toInt = vb[i].toInt))
    | 0x23 => vRes f.d fun i => if bitOf cstat.toNat (28 + i.val) then va[i].toInt else vb[i].toInt
    | 0x30 => sRes f.d (sa + sb)
    | 0x31 => sRes f.d (sa - sb)
    | 0x32 => sRes f.d (sa + f.imm.signExtend 32)
    | 0x33 => sRes f.d (sa &&& sb)
    | 0x34 => sRes f.d (sa ||| sb)
    | 0x35 => sRes f.d (sa <<< (f.imm.toNat % 32))
    | 0x36 => sRes f.d (sa.sshiftRight (f.imm.toNat % 32))
    | 0x37 => sRes f.d (sa * sb)
    | 0x38 => cmpRes (if sa.toInt < sb.toInt then 15 else 0)
    | _ => .none

/-! Address generation. -/

/-- An update of a pointer: its new value and whether CIRC_RANGE is set (R197, R198). -/
def updateLinCirc (p l b : BitVec 19) (m : BitVec 20) : BitVec 19 × Bool :=
  if l = 0 then (BitVec.ofInt 19 (p.toNat + m.toInt), false)
  else
    let o := (p - b).toNat
    let o1 := if l.toNat ≤ o then o - l.toNat else o
    if l.toNat ≤ o1 then (b, true)
    else
      let q : Int := o1 + m.toInt
      let q1 := if (l.toNat : Int) ≤ q then q - l.toNat else if q < 0 then q + l.toNat else q
      if q1 < 0 ∨ (l.toNat : Int) ≤ q1 then (b, true) else (b + BitVec.ofInt 19 q1, false)

/-- The `n` low bits of a number in reverse order (R200). -/
def revBits : Nat → Nat → Nat
  | 0, _ => 0
  | n + 1, v => v % 2 * 2 ^ n + revBits n (v / 2)

/-- Whether a number is a power of two. -/
def isPow2 (n : Nat) : Bool := n != 0 && n == 2 ^ n.log2

/-- A bit-reversed update with access size `e` bytes (R200). -/
def updateBitRev (p l b : BitVec 19) (m : BitVec 20) (e : Nat) : BitVec 19 × Bool :=
  let ln := l.toNat
  let mi := m.toInt
  if ¬ isPow2 ln ∨ ln / e < 256 ∨ 8192 < ln / e ∨ mi < e ∨ (ln / 2 : Int) < mi ∨ ¬ isPow2 mi.toNat then (b, true)
  else
    let o := (p - b).toNat
    let o1 := if ln ≤ o then o - ln else o
    if ln ≤ o1 then (b, true)
    else
      let w := ln.log2 - e.log2
      let f := revBits w ((revBits w (o1 / e) + revBits w (mi.toNat / e)) % 2 ^ w)
      (b + BitVec.ofNat 19 (f * e), false)

/-- One access of the A slot: the address used, the pointer's new value if it is written, CIRC_RANGE (R222). -/
structure Addressed where
  addr : Nat
  newP : Option (BitVec 19)
  circ : Bool
deriving DecidableEq, Repr

/-- The address and update of pointer `n` under addressing form `am` with access size `e` (R222). -/
def addressOf (c : Cluster) (n : Fin 8) (am : Fin 4) (e : Nat) : Addressed :=
  let p := c.fg.p[n]
  match am with
  | 0 => ⟨p.toNat, none, false⟩
  | 1 => let u := updateLinCirc p c.l[n] c.b[n] c.fg.m[n]; ⟨p.toNat, some u.1, u.2⟩
  | 2 => let u := updateBitRev p c.l[n] c.b[n] c.fg.m[n] e; ⟨p.toNat, some u.1, u.2⟩
  | 3 => let u := updateLinCirc p c.l[n] c.b[n] c.fg.m[n]; ⟨u.1.toNat, none, u.2⟩

/-! Data memory. -/

/-- A byte of data memory; memory that nothing has written reads 0. -/
def Cluster.byte (c : Cluster) (a : Nat) : Byte := Sparse.get 0 c.mem a

/-- A lane word of data memory (R190, R195): a double-bit error reads 0. -/
def Cluster.word (c : Cluster) (a : Nat) : Word :=
  if Sparse.get 0 c.memBad a = 2 then 0
  else BitVec.ofNat 32 (leNat [c.byte a, c.byte (a + 1), c.byte (a + 2), c.byte (a + 3)])

/-- A lane word written to data memory, which ends any error it held; an injection waiting for its bank flips bits of it (R195, R458). -/
def Cluster.setWord (c : Cluster) (a : Nat) (w : Word) : Cluster :=
  let m0 := Sparse.set 0 c.mem a (w.extractLsb' 0 8)
  let m1 := Sparse.set 0 m0 (a + 1) (w.extractLsb' 8 8)
  let m2 := Sparse.set 0 m1 (a + 2) (w.extractLsb' 16 8)
  { c with mem := Sparse.set 0 m2 (a + 3) (w.extractLsb' 24 8), memBad := Sparse.set 0 c.memBad a (Sparse.get 0 c.flips (a / 65536)),
           flips := Sparse.set 0 c.flips (a / 65536) 0 }

/-- What reading the lane words at `as` meets: corrected and double-bit errors (R195). -/
def readEvents (c : Cluster) (as : List Nat) : List ClEvent :=
  as.filterMap fun a => match Sparse.get 0 c.memBad a with
    | 1 => some (.sbe a)
    | 2 => some (.dbe a)
    | _ => none

/-- The lane words of an access of `e` bytes at an aligned address. -/
def wordsAt (a e : Nat) : List Nat := (List.range (e / 4)).map fun i => a + 4 * i

/-- Whether an access of `e` bytes at `a` lies within the kernel's windows (R201, R232); outside a kernel the cluster's
own routines run, which are exempt. -/
def inWindow (c : Cluster) (a e : Nat) (wr : Bool) : Bool :=
  match c.run with
  | none => true
  | some k =>
    (decide (k.winLo ≤ a) && decide (a + e ≤ k.winLo + (if wr then k.wrLen else k.winLen))) ||
    (decide (k.strip ≤ a) && decide (a + e ≤ k.strip + 256))

/-- One access as the A slot makes it: aligned address (R227), and the flags it sets. -/
structure Access where
  at_ : Nat
  mis : Bool
  /-- Inside the windows; and whether it takes place at all: loads of the ending bundle do not (R228). -/
  ok : Bool
  made : Bool
deriving DecidableEq, Repr

def accessAt (c : Cluster) (addr e : Nat) (wr made : Bool) : Access :=
  let a := addr / e * e
  ⟨a, made && a != addr, !made || inWindow c a e wr, made && inWindow c a e wr⟩

/-- What the A slot asks for. -/
structure ARes where
  writes : List RegWrite
  loads : List RegWrite
  stores : List (Nat × Word)
  sat : Nat
  mis : Bool
  /-- Word address of an access outside the windows. -/
  win : Option Nat
  events : List ClEvent
  illegal : Bool
deriving DecidableEq, Repr

def ARes.none : ARes := ⟨[], [], [], 0, false, .none, [], false⟩
def ARes.bad : ARes := ⟨[], [], [], 0, false, .none, [], true⟩

/-- The pointer write of an addressed access. -/
def ptrWrite (n : Fin 8) (x : Addressed) : List RegWrite := match x.newP with
  | some p => [.p n p]
  | none => []

/-- A single-format load of `e` bytes; `perf` is false in the ending bundle. -/
def singleLoad (c : Cluster) (f : ASlot) (e : Nat) (perf : Bool) (ld : Nat → List RegWrite) : ARes :=
  let x := addressOf c f.pn f.am e
  let a := accessAt c x.addr e false perf
  { writes := ptrWrite f.pn x, loads := if a.made then ld a.at_ else [], stores := [], sat := 0, mis := a.mis,
    win := if a.ok then none else some (a.at_ / 16),
    events := (if x.circ then [.circ] else []) ++ (if a.made then readEvents c (wordsAt a.at_ e) else []),
    illegal := false }

/-- A single-format store of `e` bytes. -/
def singleStore (c : Cluster) (f : ASlot) (e : Nat) (st : Nat → List (Nat × Word)) (sat : Nat) : ARes :=
  let x := addressOf c f.pn f.am e
  let a := accessAt c x.addr e true true
  { writes := ptrWrite f.pn x, loads := [], stores := if a.made then st a.at_ else [], sat := sat, mis := a.mis,
    win := if a.ok then none else some (a.at_ / 16), events := if x.circ then [.circ] else [], illegal := false }

/-- A vector read from data memory. -/
def Cluster.quad (c : Cluster) (a : Nat) : Quad := lanes fun i => c.word (a + 4 * i.val)

/-- The stores of a vector. -/
def quadStores (q : Quad) (a : Nat) : List (Nat × Word) :=
  [(a, q[0]), (a + 4, q[1]), (a + 8, q[2]), (a + 12, q[3])]

/-- Part `n` of each accumulator lane as a word (R223): L, H, or G sign-extended. -/
def accPart (q : AccQuad) (n : Nat) : Quad := lanes fun i =>
  if n = 0 then q[i].extractLsb' 0 32 else if n = 1 then q[i].extractLsb' 32 32 else (q[i].extractLsb' 64 8).signExtend 32

/-- An accumulator with part `n` of each lane replaced (R223). -/
def putAccPart (q : AccQuad) (n : Nat) (w : Quad) : AccQuad := lanes fun i =>
  if n = 0 then q[i].extractLsb' 32 40 ++ w[i]
  else if n = 1 then (q[i].extractLsb' 64 8 ++ w[i] ++ q[i].extractLsb' 0 32).setWidth 72
  else (w[i].extractLsb' 0 8 ++ q[i].extractLsb' 0 64).setWidth 72

/-- The A slot (R223) on the cluster at the start of the bundle. -/
def aSlot (c : Cluster) (perf : Bool) (f : ASlot) : ARes :=
  let r8 := low3 f.reg
  let regS := decide (f.reg.val < 8)
  let dual (op : Nat) : ARes :=
    if f.pn = f.pb then .bad
    else
      let xa := addressOf c f.pn f.am 16
      let xb := addressOf c f.pb (if f.ub then 1 else 0) (if op = 0x0A then 4 else 16)
      let aa := accessAt c xa.addr 16 false perf
      let ab := accessAt c xb.addr (if op = 0x0A then 4 else 16) (op == 0x0B) (perf || op == 0x0B)
      { writes := ptrWrite f.pn xa ++ ptrWrite f.pb xb,
        loads :=
          let la : List RegWrite := if aa.made then [.v f.reg (c.quad aa.at_)] else []
          let lb : List RegWrite := if ab.made then (if op = 0x09 then [.v f.regb (c.quad ab.at_)]
            else if op = 0x0A then [.v f.regb (lanes fun _ => c.word ab.at_)] else []) else []
          if f.reg = f.regb ∧ Config.loadTie op f.imm.toNat then lb ++ la else la ++ lb,
        stores := if op = 0x0B ∧ ab.made then quadStores c.fg.v[f.regb] ab.at_ else [],
        sat := 0, mis := aa.mis || ab.mis,
        win := if ¬ aa.ok then some (aa.at_ / 16) else if ¬ ab.ok then some (ab.at_ / 16) else none,
        events := (if xa.circ then [.circ] else []) ++ (if xb.circ then [.circ] else []) ++
          (if aa.made then readEvents c (wordsAt aa.at_ 16) else []) ++
          (if ¬ ab.made then [] else if op = 0x09 then readEvents c (wordsAt ab.at_ 16) else if op = 0x0A then readEvents c [ab.at_] else []),
        illegal := false }
  match f.op with
  | 0x00 => .none
  | 0x01 => singleLoad c f 16 perf (fun a => [.v f.reg (c.quad a)])
  | 0x02 => singleStore c f 16 (quadStores c.fg.v[f.reg]) 0
  | 0x03 => singleLoad c f 4 perf (fun a => [.v f.reg (lanes fun _ => c.word a)])
  | 0x04 => if regS then singleLoad c f 4 perf (fun a => [.s r8 (c.word a)]) else .bad
  | 0x05 => if regS then singleStore c f 4 (fun a => [(a, c.fg.s[r8])]) 0 else .bad
  | 0x06 =>
    let q := c.fg.acc[r8]
    let sh := f.imm.toNat % 8
    if regS then
      singleStore c f 16 (quadStores (lanes fun i => satWord (convert q[i].toInt sh)))
        (laneMask fun i => over32 (convert q[i].toInt sh))
    else .bad
  | 0x07 =>
    if regS && f.imm.toNat % 4 != 3 then
      singleLoad c f 16 perf (fun a => [.accPart r8 (f.imm.toNat % 4) (c.quad a)])
    else .bad
  | 0x08 =>
    if regS && f.imm.toNat % 4 != 3 then
      singleStore c f 16 (quadStores (accPart c.fg.acc[r8] (f.imm.toNat % 4))) 0
    else .bad
  | 0x09 => dual 0x09
  | 0x0A => dual 0x0A
  | 0x0B => dual 0x0B
  | 0x10 =>
    if f.am == 1 || f.am == 2 then
      let x := addressOf c f.pn f.am (if Config.aupdVector then 16 else 4)
      { ARes.none with writes := ptrWrite f.pn x, events := if x.circ then [.circ] else [] }
    else .bad
  | 0x11 => { ARes.none with writes := [.m f.pn (f.imm.signExtend 20 * 4)] }
  | 0x12 => if regS then { ARes.none with writes := [.p f.pn (c.fg.s[r8].extractLsb' 0 19)] } else .bad
  | 0x13 => if regS then { ARes.none with writes := [.m f.pn (c.fg.s[r8].extractLsb' 0 20)] } else .bad
  | 0x14 => if regS then { ARes.none with writes := [.l f.pn (c.fg.s[r8].extractLsb' 0 19)] } else .bad
  | 0x15 => if regS then { ARes.none with writes := [.b f.pn (c.fg.s[r8].extractLsb' 0 19)] } else .bad
  | 0x16 => if regS then { ARes.none with writes := [.s r8 (c.fg.p[f.pn].setWidth 32)] } else .bad
  | 0x17 => { ARes.none with writes := [.p f.pn (c.fg.p[f.pn] + f.imm.signExtend 19 * 16)] }
  | _ => .bad

/-! The C slot. -/

/-- What the C slot asks for: register writes, a counter write, and where control goes. -/
inductive Control where
  | seq
  | swap
  | branch (target : Int)
  | loop (k : Fin 2) (n : Nat)
deriving DecidableEq, Repr

structure CRes where
  writes : List RegWrite
  lc : Option (Fin 2 × BitVec 16)
  ctl : Control
  illegal : Bool
deriving DecidableEq, Repr

def CRes.none : CRes := ⟨[], .none, .seq, false⟩
def CRes.bad : CRes := ⟨[], .none, .seq, true⟩

/-- The first bundle after the kernel's code; outside a kernel the program memory's end (R196, R238). -/
def codeEnd (c : Cluster) : Nat := match c.run with
  | some k => k.base + k.codeLen
  | none => 16384
def codeBase (c : Cluster) : Nat := match c.run with
  | some k => k.base
  | none => 0

/-- Whether the bundle at `pc` is the last of a running loop's body (R226). -/
def atBodyEnd (c : Cluster) : Bool := c.loops.any fun l => l.last == c.pc

/-- A branch to this bundle + rel, if that is legal here (R226). -/
def branchTo (c : Cluster) (rel : Int) : CRes :=
  let t : Int := c.pc + rel
  if rel = 0 ∨ atBodyEnd c ∨ t < codeBase c ∨ (codeEnd c : Int) ≤ t then .bad else { CRes.none with ctl := .branch t }

/-- A loop counter index from bit 9. -/
def lcIndex (i : BitVec 10) : Fin 2 := if bitOf i.toNat 9 then 1 else 0

/-- The C slot (R224, R225, R226) on the cluster at the start of the bundle. -/
def cSlot (c : Cluster) (f : CSlot) : CRes :=
  let i := f.imm.toNat
  let d := (i / 128) % 8
  have hd : d < 8 := Nat.mod_lt _ (by decide)
  match f.op with
  | 0x0 => if i = 0 then .none else .bad
  | 0x1 => if i = 1 then { CRes.none with ctl := .swap } else .bad
  | 0x2 => branchTo c f.imm.toInt
  | 0x3 =>
    let rel := signed i 8
    let b := branchTo c rel
    if b.illegal then .bad else if condHolds c.cstat (i / 256) then b else .none
  | 0x4 =>
    let n := i % 512
    let endsAt := c.pc + n
    if n = 0 ∨ 2 ≤ c.loops.length ∨ atBodyEnd c ∨ codeEnd c ≤ endsAt ∨ c.loops.any (fun l => decide (l.last < endsAt)) then .bad
    else { CRes.none with ctl := .loop (lcIndex f.imm) n }
  | 0x5 =>
    if c.loops.any fun l => l.k == lcIndex f.imm then .bad
    else { CRes.none with lc := some (lcIndex f.imm, BitVec.ofNat 16 (i % 512)) }
  | 0x6 =>
    if (c.loops.any fun l => l.k == lcIndex f.imm) || decide (i % 512 / 8 ≠ 0) then .bad
    else { CRes.none with lc := some (lcIndex f.imm, (c.fg.s[i % 8]'(Nat.mod_lt _ (by decide))).extractLsb' 0 16) }
  | 0x7 =>
    if i / 64 ≠ 0 then .bad
    else { CRes.none with writes := [.s ⟨(i / 8) % 8, Nat.mod_lt _ (by decide)⟩ (c.fg.s[i % 8]'(Nat.mod_lt _ (by decide)))] }
  | 0x8 => { CRes.none with writes := [.s ⟨d, hd⟩ (BitVec.ofInt 32 (signed i 7))] }
  | 0x9 =>
    if bitOf i 2 then .bad
    else
      let q := c.fg.v[(i / 8) % 16]'(Nat.mod_lt _ (by decide))
      { CRes.none with writes := [.s ⟨d, hd⟩ (q[i % 4]'(Nat.mod_lt _ (by decide)))] }
  | 0xA =>
    if bitOf i 2 then .bad
    else
      let q := c.fg.v[(i / 8) % 16]'(Nat.mod_lt _ (by decide))
      { CRes.none with writes := [.v ⟨(i / 8) % 16, Nat.mod_lt _ (by decide)⟩
          (q.set (i % 4) (c.fg.s[d]'hd) (Nat.mod_lt _ (by decide)))] }
  | 0xB => if i % 128 ≠ 0 then .bad else { CRes.none with writes := [.s ⟨d, hd⟩ c.cstat] }
  | _ => .bad

end Sys2Proof.Machine
end

