-- ==== Sys2Proof/Machine/Cluster.lean ====
section
/-!
DEFINITION. A cluster issuing bundles: how the slots' results reach the registers (R218), loops and branches (R225), the
ending SWAP (R228), the budget counter (R211, R212), stops (R213, R229), the bundle's encoding (R217, R220, R222, R224)
and a kernel run under its budget.
-/
namespace Sys2Proof.Machine

/-- Whether two register writes name the same register. -/
def RegWrite.same : RegWrite → RegWrite → Bool
  | .v x _, .v y _ => x == y
  | .acc x _, .acc y _ | .acc x _, .accPart y _ _ | .accPart x _ _, .acc y _ | .accPart x _ _, .accPart y _ _ => x == y
  | .p x _, .p y _ => x == y
  | .m x _, .m y _ => x == y
  | .l x _, .l y _ => x == y
  | .b x _, .b y _ => x == y
  | .s x _, .s y _ => x == y
  | _, _ => false

/-- One register write. -/
def Cluster.put (c : Cluster) : RegWrite → Cluster
  | .v r q => { c with fg := { c.fg with v := c.fg.v.set r q } }
  | .acc r q => { c with fg := { c.fg with acc := c.fg.acc.set r q } }
  | .accPart r n q => { c with fg := { c.fg with acc := c.fg.acc.set r (putAccPart c.fg.acc[r] n q) } }
  | .p r x => { c with fg := { c.fg with p := c.fg.p.set r x } }
  | .m r x => { c with fg := { c.fg with m := c.fg.m.set r x } }
  | .l r x => { c with l := c.l.set r x }
  | .b r x => { c with b := c.b.set r x }
  | .s r x => { c with fg := { c.fg with s := c.fg.s.set r x } }

/-- The writes that stand, of writes listed in order of precedence (R218): the first to each register. -/
def standing : List RegWrite → List RegWrite → List RegWrite
  | _, [] => []
  | seen, w :: t => if seen.any (RegWrite.same w) then standing seen t else w :: standing (w :: seen) t

/-- Register writes in order of precedence, at the end of a bundle. -/
def Cluster.putAll (c : Cluster) (ws : List RegWrite) : Cluster := (standing [] ws).foldl Cluster.put c

/-- CSTAT.DEPTH [25:24] brought in line with the loops that run (R225). -/
def Cluster.setDepth (c : Cluster) : Cluster :=
  { c with cstat := (c.cstat &&& 0xFCFFFFFF#32) ||| BitVec.ofNat 32 (c.loops.length % 4 * 2 ^ 24) }

/-- Falling out of the end of the bundle at `c.pc`: running loops whose body ends here go round or end (R225). -/
def loopEnd (pc : Nat) : List LoopFrame → Vector (BitVec 16) 2 → Nat × List LoopFrame × Vector (BitVec 16) 2
  | [], lc => (pc + 1, [], lc)
  | f :: t, lc =>
    if f.last = pc then
      if 1 < lc[f.k].toNat then (f.first, f :: t, lc.set f.k (lc[f.k] - 1))
      else loopEnd pc t (lc.set f.k 0)
    else (pc + 1, f :: t, lc)

/-- What issuing a bundle led to. -/
inductive Ended where
  | running
  /-- The ending SWAP (R228). -/
  | ended
  /-- Budget (R212), illegal operation, window violation, program-memory double-bit error (R213). -/
  | budget
  | illegal
  | window (word : Nat)
  | pmDbe
deriving DecidableEq, Repr

structure Issued where
  c : Cluster
  events : List ClEvent
  fate : Ended
deriving DecidableEq, Repr

/-- Whether a bundle carries the ending SWAP. -/
def Bundle.isEnd (b : Bundle) : Bool := b.c.op == 1 && b.c.imm == 1

/-- Whether the counter reads 1 (or less) while a kernel runs (R212). -/
def Cluster.spent (c : Cluster) : Bool := match c.run with
  | some k => decide (k.left ≤ 1)
  | none => false

/-- One issued bundle counted (R211). -/
def Cluster.count (c : Cluster) : Cluster :=
  { c with issued := c.issued + 1, run := c.run.map fun k => { k with left := k.left - 1 } }

/-- The exchange of the register sets at a kernel's end, and what the dispatcher clears with it (R188, R189). -/
def Cluster.swap (c : Cluster) : Cluster :=
  { c with fg := c.sh, sh := c.fg, l := .replicate 8 0, b := .replicate 8 0, lc := .replicate 2 0,
           sticky := Nat.lor c.sticky (Nat.land c.cstat.toNat stickyMask), cstat := 0, loops := [], loads := [] }

/-- A stop (R213, R229): nothing of the bundle executes; the loads on their way do not return; the counter goes to 0. -/
def Cluster.stop (c : Cluster) (bits : Nat) : Cluster :=
  let run := c.run.map fun k => { k with left := 0 }
  Cluster.swap { c with cstat := orCstat c.cstat bits, run := run }

/-- Memory stores of a bundle. -/
def Cluster.storeAll (c : Cluster) (l : List (Nat × Word)) : Cluster := l.foldl (fun c x => c.setWord x.1 x.2) c

/-- Corrected single-bit errors are written back (R195). -/
def Cluster.scrubbed (c : Cluster) (ev : List ClEvent) : Cluster :=
  { c with memBad := ev.foldl (fun m e => match e with
      | .sbe a => if Sparse.get 0 m a = 1 then Sparse.set 0 m a 0 else m
      | _ => m) c.memBad }

/-- Where control goes after a bundle: new pc, loops, counters. -/
def Cluster.advance (c : Cluster) (ctl : Control) (lc : Option (Fin 2 × BitVec 16)) : Cluster :=
  let lc1 := match lc with
    | some (k, v) => c.lc.set k v
    | none => c.lc
  match ctl with
  | .branch t =>
    let t := t.toNat
    ({ c with pc := t, lc := lc1, loops := c.loops.filter fun f => decide (f.first ≤ t ∧ t ≤ f.last) }).setDepth
  | .loop k n =>
    if lc1[k] = 0 then ({ c with pc := c.pc + n + 1, lc := lc1 }).setDepth
    else ({ c with pc := c.pc + 1, lc := lc1, loops := ⟨k, c.pc + 1, c.pc + n⟩ :: c.loops }).setDepth
  | _ =>
    let r := loopEnd c.pc c.loops lc1
    ({ c with pc := r.1, loops := r.2.1, lc := r.2.2 }).setDepth

/-- Whether control is a taken branch. -/
def Control.taken : Control → Bool
  | .branch _ => true
  | _ => false

/-- A bundle issued (R218 to R229), the counter aside. -/
def Cluster.issue (c : Cluster) (b : Bundle) : Issued :=
  let m := mSlot c.fg c.cstat b.m
  let a := aSlot c (!b.isEnd) b.a
  let k := cSlot c b.c
  if m.illegal || a.illegal || k.illegal then ⟨c.count.stop 0x2000, [.illegal], .illegal⟩
  else
    match a.win with
    | some w => ⟨c.count.stop 0x1000, [.window w], .window w⟩
    | none =>
      let sticky := m.sat + 16 * m.aovf
      let st := Nat.lor sticky (Nat.lor a.sat ((if a.mis then 0x800 else 0) + (if a.events.contains .circ then 0x400 else 0)))
      let stat := orCstat (match m.cmp with
        | some x => cmpCstat c.cstat x
        | none => c.cstat) st
      let c0 := (({ c with cstat := stat }).storeAll a.stores).count
      let c1 := c0.putAll (c.loads ++ m.writes ++ a.writes ++ k.writes)
      if b.isEnd then ⟨c1.swap, a.events, .ended⟩
      else ⟨{ (c1.advance k.ctl k.lc).scrubbed a.events with loads := a.loads }, a.events, .running⟩

/-- The empty bundle after a taken branch (R224). -/
def Cluster.bubble (c : Cluster) : Cluster := { (c.putAll c.loads).count with loads := [] }

/-- A bundle issued under the counter: the forced SWAP in its place when the counter is used up (R212), and the empty
bundle after a taken branch. -/
def Cluster.exec (c : Cluster) (b : Bundle) : Issued :=
  if c.spent && !b.isEnd then ⟨c.count.stop 0, [], .budget⟩
  else
    let r := c.issue b
    if r.fate = .running ∧ (cSlot c b.c).ctl.taken then
      if r.c.spent then ⟨r.c.count.stop 0, r.events, .budget⟩ else { r with c := r.c.bubble }
    else r

/-- The loads on their way return with no bundle issued (the row LOAD_WRITEBACK of the table). -/
def Cluster.writeback (c : Cluster) : Cluster := { c.putAll c.loads with loads := [] }

/-! The encoding. -/

/-- A field of `n` bits of a bundle. -/
def cut (w : BitVec 64) (lo n : Nat) : Nat := w.toNat / 2 ^ lo % 2 ^ n

/-- A bundle's slots (R217, R220, R222, R224). -/
def decodeBundle (w : BitVec 64) : Bundle :=
  { m := { op := cut w 58 6, d := Fin.ofNat 16 (cut w 54 4), a := Fin.ofNat 16 (cut w 50 4), b := Fin.ofNat 16 (cut w 46 4),
           sh := Fin.ofNat 8 (cut w 43 3), imm := BitVec.ofNat 7 (cut w 36 7) },
    a := { op := cut w 31 5, pn := Fin.ofNat 8 (cut w 28 3), reg := Fin.ofNat 16 (cut w 24 4), am := Fin.ofNat 4 (cut w 22 2),
           imm := BitVec.ofNat 8 (cut w 14 8) },
    c := { op := cut w 10 4, imm := BitVec.ofNat 10 (cut w 0 10) } }

/-- A condition of R226 that a bundle at index `i` of a kernel of `n` bundles shows without running it (R235). `bodies`
are the loop bodies that stand around or before it, as (LOOP's index, last bundle). -/
def staticBad (i n : Nat) (bodies : List (Nat × Nat)) (b : Bundle) : Bool :=
  let dualBad := (b.a.op == 0x09 || b.a.op == 0x0A || b.a.op == 0x0B) && b.a.pn == b.a.pb
  let reg3 := decide (8 ≤ b.a.reg.val)
  let aBad := match b.a.op with
    | 0x00 | 0x01 | 0x02 | 0x03 | 0x11 | 0x17 => false
    | 0x04 | 0x05 | 0x06 | 0x12 | 0x13 | 0x14 | 0x15 | 0x16 => reg3
    | 0x07 | 0x08 => reg3 || b.a.imm.toNat % 4 == 3
    | 0x09 | 0x0A | 0x0B => dualBad
    | 0x10 => !(b.a.am == 1 || b.a.am == 2)
    | _ => true
  let x := b.c.imm.toNat
  let tgt (rel : Int) : Bool := let t : Int := i + rel; decide (rel = 0) || decide (t < 0) || decide ((n : Int) ≤ t)
  let inEnd := bodies.any fun p => p.1 < i && p.2 == i
  let cBad := match b.c.op with
    | 0x0 => x != 0
    | 0x1 => x != 1
    | 0x2 => tgt b.c.imm.toInt || inEnd
    | 0x3 => tgt (signed x 8) || inEnd
    | 0x4 => decide (x % 512 = 0) || decide (n ≤ i + x % 512) || inEnd ||
        bodies.any fun p => decide (p.1 < i ∧ i ≤ p.2 ∧ p.2 < i + x % 512)
    | 0x5 | 0x8 => false
    | 0x6 => decide (x % 512 / 8 ≠ 0)
    | 0x7 => decide (x / 64 ≠ 0)
    | 0x9 | 0xA => bitOf x 2
    | 0xB => decide (x % 128 ≠ 0)
    | _ => true
  let immBad := (b.m.op == 0x0B || b.m.op == 0x1C) &&
    !(decide (-31 ≤ b.m.imm.toInt ∧ b.m.imm.toInt ≤ 31) || decide (b.m.imm.toInt = -64))
  !mFieldsOk b.m || immBad || aBad || cBad

/-- The check of a kernel's whole code (R235, reason 5). -/
def codeBad (code : List (BitVec 64)) : Bool :=
  let bs := indexed (code.map decodeBundle)
  let bodies := bs.filterMap fun p => if p.2.c.op = 4 then some (p.1, p.1 + p.2.c.imm.toNat % 512) else none
  bs.any fun p => staticBad p.1 code.length bodies p.2

/-! A kernel run. -/

/-- A kernel that runs from its first bundle to its end or its stop (R209, R211 to R213). `fuel` is at least its budget,
and every bundle counts, so it never runs out before the counter does. -/
def Cluster.runKernel : Nat → Cluster → List ClEvent → Issued
  | 0, c, ev => ⟨c.stop 0, ev, .budget⟩
  | n + 1, c, ev =>
    if c.pc < codeBase c ∨ codeEnd c ≤ c.pc then ⟨c.count.stop 0x2000, ev ++ [.illegal], .illegal⟩
    else if Sparse.get 0 c.pmemBad c.pc = 2 then ⟨c.count.stop 0, ev ++ [.pmDbe], .pmDbe⟩
    else
      let one := Sparse.get 0 c.pmemBad c.pc == 1
      let ev1 := if one then ev ++ [.pmSbe] else ev
      let r := (if one then { c with pmemBad := Sparse.set 0 c.pmemBad c.pc 0 } else c).exec (decodeBundle (Sparse.get 0 c.pmem c.pc))
      if r.fate = .running then Cluster.runKernel n r.c (ev1 ++ r.events) else ⟨r.c, ev1 ++ r.events, r.fate⟩

/-- The context a kernel starts with (R188), put into the foreground set. -/
structure Start where
  handle : Nat
  state : Nat
  active : Nat
  newSide : Nat
  strip : Nat
  invalid : Nat
  f : Nat
  tick : Nat
  trans : Option Nat
  env : Option Nat
deriving DecidableEq, Repr

def Start.regs (k : Start) : RegSet :=
  let j : Option Nat → Word := fun o => match o with
    | some j => BitVec.ofNat 32 j
    | none => 0xFFFFFFFF#32
  { RegSet.zero with
    p := ((((RegSet.zero.p.set 0 (BitVec.ofNat 19 k.state)).set 1 (BitVec.ofNat 19 k.active)).set 2
      (BitVec.ofNat 19 k.newSide)).set 3 (BitVec.ofNat 19 k.strip)),
    s := ((((RegSet.zero.s.set 0 (BitVec.ofNat 32 (k.handle % 65536 + 65536 * (k.invalid % 16)))).set 1
      (BitVec.ofNat 32 k.f)).set 2 (BitVec.ofNat 32 k.tick)).set 3 (j k.trans)).set 4 (j k.env) }

/-- A kernel brought into the foreground: its context, its code and windows, its budget (R188, R201, R211). While it runs, the dispatcher writes
the context of the kernel after it, if there is one, into the shadow set. -/
def Cluster.begin (c : Cluster) (k : Start) (next : Option Start) (run : KernelRun) (entry : Nat) : Cluster :=
  { c with fg := k.regs, sh := (next.map Start.regs).getD c.sh, sticky := 0, l := .replicate 8 0, b := .replicate 8 0, lc := .replicate 2 0, cstat := 0, loops := [], loads := [],
           pc := entry, run := some run }

end Sys2Proof.Machine
end

