-- ==== Sys2Proof/Machine/NetTypes.lean ====
section
/-!
DEFINITION. What the MACs, streams and time domains (spec/12) and the reference selector, DPLL, clocks and crossings (spec/13)
hold beside their registers.
-/
namespace Sys2Proof.Machine

/-- The header fields that a transmit stream's configuration gives its packets (TX_CFG1 to TX_CFG6): addresses, UDP ports, IPv4 TTL and DSCP, the
802.1Q tag's VLAN ID and priority, RTP payload type and SSRC. -/
structure StreamHead where
  srcIp : Nat
  dstIp : Nat
  srcPort : Nat
  dstPort : Nat
  ttl : Nat
  dscp : Nat
  vlan : Option (Nat × Nat)
  pt : Nat
  ssrc : Nat
deriving DecidableEq, Repr

/-- What a sent frame carries (R346 to R348, R356, R361): a stream packet with its RTP timestamp, sequence number, header fields, header
extension and payload; frames of the firmware. Their layout on the wire is that of the standards the spec names. -/
inductive TxBody where
  | rtp (stream ts seq : Nat) (head : StreamHead) (ext payload : List Byte)
  | arpRequest (ip : Word)
  | arpReply (ip : Word)
  | echoReply (ip : Word) (data : List Byte)
  | igmpReport (group : Word)
  | supervision
  /-- A PTP message of a domain: type, and the time it carries in 2^−40 ns: of a one-step Sync, a Follow_Up (R356), of an
  answer the receive timestamp it answers with (R355). -/
  | ptp (td kind : Nat) (time : Option Nat)
deriving DecidableEq, Repr

/-- A frame to send: destination, redundancy trailer (LanId, sequence number), body (R348). -/
structure TxFrame where
  dst : Nat
  rct : Option (Nat × Nat)
  body : TxBody
deriving DecidableEq, Repr

/-- A MAC: frames waiting, the frame on the wire in half duplex, its collisions, whether it backs off (R343, R345). -/
structure MacSt where
  queue : List TxFrame
  cur : Option TxFrame
  attempts : Nat
  backoff : Bool
deriving DecidableEq, Repr

/-- A packet held by a receive stream: timestamp, samples interleaved by channel, claim and pair ID of its Bihiron header. -/
structure RxPkt where
  ts : Nat
  words : List Word
  claim : Option (Nat × Nat)
deriving DecidableEq, Repr

/-- A receive stream (R364 to R367). -/
structure RxStream where
  pkts : List RxPkt
  /-- Timestamp after the last delivered; sequence number and SSRC of the last packet. -/
  next : Option Nat
  seq : Option Nat
  ssrc : Option Nat
  /-- Arrival margins of the last second: millisecond, µs. -/
  margins : List (Nat × Nat)
  /-- Whether it took a packet, and whether it concealed a sample, in this tick. -/
  took : Bool
  lost : Bool
deriving DecidableEq, Repr

/-- A transmit stream (R347, R361, R363, R367): samples waiting (number, words, concealed, claim, tick), sequence number, the
resolved MAC address, refresh requests unanswered, whether 3 s unresolved, samples done of the ramp of a stop. -/
structure TxStream where
  buf : List (Nat × List Word × Bool × Nat)
  seq : Nat
  arp : Option Nat
  asks : Nat
  noArp : Bool
  ramp : Option Nat
  /-- The words TX_CFG0 to TX_CFG6 that a stream which ramps out keeps (R367); whether it starts again under the new plan, and
  not before which tick (R73). -/
  cfg : List Word
  again : Bool
  notBefore : Nat
deriving DecidableEq, Repr

/-- A PRP frame seen: node, sequence number, port, whether both copies have come (R349). -/
structure PrpSeen where
  node : Nat
  seq : Nat
  port : Nat
  both : Bool
deriving DecidableEq, Repr

/-- A time domain (R351 to R359): its time in 2^−40 ns; an anchor to be set; consecutive ticks with |d| ≥ 2 and the last d; an
anchor that applies from a later tick; whether the firmware trusts it, and its runs of intervals; PTP_CFG in effect. -/
structure TdSt where
  time : Nat
  toSet : Bool
  run : Nat
  d : Int
  move : Option (Nat × Int)
  trusted : Bool
  good : Nat
  bad : Nat
  far : Nat
  cfg : Word
deriving DecidableEq, Repr

/-- A serial lane (R402, R404): ADAPT attempts ended below FOM_MIN, consecutive measurements below and at or above FOM_WARN. -/
structure LaneSt where
  attempts : Nat
  low : Nat
  high : Nat
  /-- The count of the next deskew marker of a Porbuod lane, once one has come (R407). -/
  marker : Option Nat
deriving DecidableEq, Repr

/-- The network and the time domains. -/
structure NetSt where
  macs : Vector MacSt 3
  rx : Sparse RxStream
  tx : Sparse TxStream
  seen : List PrpSeen
  nodes : List Nat
  /-- Sequence number of the last redundancy trailer per destination (R348). -/
  rctSeq : Sparse Nat
  /-- RTP packets and PTP messages taken in and not yet handled: MAC, packet. -/
  rtpIn : List RtpPacket
  ptpIn : List (Nat × PtpMsg × Nat)
  td : Vector TdSt 4
  /-- The compatibility counter in 2^−24 ns (R358). -/
  tdc : Nat
  /-- The LAN on which frames no longer arrive while ONE_LAN is raised (R350). -/
  missing : Option (Fin 2)
  lanes : Vector LaneSt 8
deriving DecidableEq, Repr

/-- A reference candidate (R379, R381): whether it has stayed usable and within its window less its hysteresis. -/
structure CandSt where
  steady : Bool
  usable : Bool
deriving DecidableEq, Repr

/-- Clocks, reference selection and crossings. -/
structure ClkSt where
  cands : Vector CandSt 8
  /-- Pairs of candidates: consecutive measurements apart, and within AGREE; whether they disagree (R381). -/
  apart : Sparse (Nat × Nat × Bool)
  /-- The selected candidate has been disqualified and the switch is to come: its cause (R380). -/
  toSwitch : Option Nat
  /-- NCO words of LOCK, newest first, one per ms (R385); whether LOCK has been reached. -/
  hist : List Int
  wasLocked : Bool
  /-- The word written in OPEN, for the next update (R386). -/
  written : Option Int
  /-- Writes that wait for a stopped domain, and parked ones: domain, address, word (R393). -/
  waiting : List (Nat × Nat × Word)
  parked : List (Nat × Nat × Word)
  /-- Domains stopped by a lost clock (R375, R393): 16 engine, 17 fabric, 18 media, 19 and 20 DRAM. -/
  stopped : List Nat
  /-- Both locks have been 1 since reset, so that the pins REFSTAT show the state code (R387). -/
  shown : Bool
deriving DecidableEq, Repr

def MacSt.rest : MacSt := ⟨[], none, 0, false⟩
def RxStream.rest : RxStream := ⟨[], none, none, none, [], false, false⟩
def TxStream.rest : TxStream := ⟨[], 0, none, 0, false, none, [], false, 0⟩
/-- PTP_CFG as reset. -/
def TdSt.rest : TdSt := ⟨0, false, 0, 0, none, false, 0, 0, 0, 0x1D010000⟩

/-- No frame, stream or packet; the domains in ACQUIRE at 0 s (R351, R352). -/
def NetSt.rest : NetSt :=
  { macs := .replicate 3 .rest, rx := [], tx := [], seen := [], nodes := [], rctSeq := [], rtpIn := [], ptpIn := [],
    td := .replicate 4 .rest, tdc := 0, missing := none, lanes := .replicate 8 ⟨0, 0, 0, none⟩ }

/-- FREERUN with no candidate measured (R383). -/
def ClkSt.rest : ClkSt :=
  { cands := .replicate 8 ⟨false, false⟩, apart := [], toSwitch := none, hist := [], wasLocked := false, written := none,
    waiting := [], parked := [], stopped := [], shown := false }

end Sys2Proof.Machine
end

