-- ==== Sys2Proof/Machine/Levels.lean ====
section
/-!
DEFINITION. The real formulas of the processing objects and of Safelight (R4, R95 to R107, R243, R247), computed to the last bit of the
format the spec gives the result. The spec states no rounding for them, so a result that the format does not hold exactly is the integer
below it or the one above: Config.lastBit, a free value, says which (log entry 5).
-/
namespace Sys2Proof.Machine

/-- One in the fixed point of this file: 96 fraction bits. -/
def fx : Int := 2 ^ 96

/-- `a / b` in whole units, `b` positive; one unit up where the free last bit says so. -/
def quot (a b : Int) : Int := if a % b = 0 then a / b else a / b + (Config.lastBit 0 a b).toNat

/-- A real value in whole units from the fixed point, its last bit free. -/
def lastUnit (tag : Nat) (key x : Int) : Int := x / fx + (Config.lastBit tag key (x / fx)).toNat

/-! Exponential and logarithm. -/

/-- The terms of the exponential series from the `k`-th on: x in fixed point. -/
def expTerms (x : Int) : Nat → Nat → Int → Int
  | 0, _, _ => 0
  | n + 1, k, t => t + expTerms x n (k + 1) (t * x / (fx * (k + 1)))

/-- 2^t for a `t` in fixed point. -/
def exp2 (t : Int) : Int :=
  let e := expTerms (t % fx * 54916777467707473351141471128 / fx) 30 0 fx
  if 0 ≤ t / fx then e * 2 ^ (t / fx).toNat else e / 2 ^ (-(t / fx)).toNat

/-- `n` more bits of the base-2 logarithm of an `m` in [1, 2), as a number in fixed point; `w` is the weight of the next bit. -/
def logBits : Nat → Int → Int → Int
  | 0, _, _ => 0
  | n + 1, w, m =>
    let q := m * m / fx
    if 2 * fx ≤ q then w + logBits n (w / 2) (q / 2) else logBits n (w / 2) q

/-- log2 of a positive integer, in fixed point. -/
def log2Fix (n : Nat) : Int := Nat.log2 n * fx + logBits 48 (fx / 2) (n * fx / 2 ^ Nat.log2 n)

/-- 20 log10(a / 2^k) in Q8.24, in fixed point: twice as many half-decibels for a square. -/
def dbOf (a k : Nat) : Int := (log2Fix a - k * fx) * 477001068362683820305448534200 / fx * 2 ^ 24

/-- What the logarithm of 0 counts as: below every level that a sample has, as −∞ is (DEDUCED; log entry 5). -/
def silence : Int := -(2 ^ 40)

/-- 20 log10 of a magnitude in Q1.31, in Q8.24 dBFS (R4, R95). -/
def peakLevel (m : Nat) : Int := if m = 0 then silence else if m = 2 ^ 31 then 0 else lastUnit 1 m (dbOf m 31)

/-- 10 log10 of a mean square in Q2.62, plus 3.01, in Q8.24 dBFS (R95). -/
def rmsLevel (m : Nat) : Int := if m = 0 then silence else lastUnit 2 m (dbOf m 62 / 2 + 301 * 2 ^ 24 * fx / 100)

/-- 2^k times 10^(g/20), for a `g` in Q8.24 dB: the whole part. -/
def tenTo (k : Nat) (g : Int) : Int := exp2 (g * 13159512948121823355020141721 / 2 ^ 24 + k * fx) / fx

/-- The linear Q4.28 gain of a gain in Q8.24 dB. -/
def dbToLin (g : Int) : Int :=
  if g = 0 then 2 ^ 28 else if g < -(2 ^ 33) then 0 else tenTo 28 g + (Config.lastBit 3 g 0).toNat

/-! Time constants (R95, R97). -/

/-- 1 − α for α = exp(−1/(τ fs)), in fixed point: τ in µs. -/
def oneMinusAlpha (us fs : Nat) : Int := fx - exp2 (-(1000000 * 114302077158074026402637675936 / ((max 1 us * fs : Nat) : Int)))

/-- One step g + (1 − α)(G − g) of R97, at least one unit toward G: a gain reaches what it follows (R103). -/
def smooth (g G : Int) (us fs : Nat) : Int :=
  let m := lastUnit 4 (G - g) (oneMinusAlpha us fs * (G - g).natAbs)
  if g = G then g else if g < G then min G (g + max 1 m) else max G (g - max 1 m)

/-- The mean square in Q2.62 after one more sample, one-pole 10 ms (R95): old value, sample, fs. -/
def meanSquare (m : Nat) (x : Int) (fs : Nat) : Nat :=
  let d : Int := x * x - m
  let st := lastUnit 5 d (oneMinusAlpha 10000 fs * d.natAbs)
  (if 0 ≤ d then (m : Int) + min d st else (m : Int) - min (-d) st).toNat

/-- The compressor's static gain of R96: L, T, W, ρ (0 = infinite), all Q8.24; exact at W = 0. -/
def compGain (l t w r : Int) : Int :=
  let d := l - t
  let num : Int := if r = 0 then -1 else 2 ^ 24 - r
  let den : Int := if r = 0 then 1 else r
  if 2 * d < -w then 0
  else if 2 * d ≤ w then (if w = 0 then 0 else quot (num * (2 * d + w) * (2 * d + w)) (den * 8 * w))
  else quot (num * d) den

/-! Sine, cosine, angles. -/

/-- The terms of a sine or cosine series: minus the square of the angle, the index of the next factor, the present term. -/
def trigTerms (q : Int) : Nat → Nat → Int → Int
  | 0, _, _ => 0
  | n + 1, k, t => t + trigTerms q n (k + 2) (t * q / (fx * ((k + 1) * (k + 2))))

/-- Sine and cosine of an angle of `t` / 2^32 of a quarter turn, 0 ≤ t < 2^32, in fixed point. -/
def sinQuarter (t : Int) : Int :=
  let a := t * 124451306656115542615260972311 / 2 ^ 32
  trigTerms (-(a * a / fx)) 16 1 a
def cosQuarter (t : Int) : Int :=
  let a := t * 124451306656115542615260972311 / 2 ^ 32
  trigTerms (-(a * a / fx)) 16 0 fx

/-- Sine of `t` / 2^34 of a turn, in fixed point. -/
def sinTurn (t : Int) : Int :=
  let r := t % 2 ^ 32
  let q := t / 2 ^ 32 % 4
  if q = 0 then sinQuarter r else if q = 1 then cosQuarter r else if q = 2 then -(sinQuarter r) else -(cosQuarter r)
def cosTurn (t : Int) : Int := sinTurn (t + 2 ^ 32)

/-- The sine of the phase θ/2^32 of a turn in Q1.31, from a table and its interpolation, which the spec does not state: off the true sine
by no more than the 100 dB below full scale that it allows a spurious line (R100; log entry 5). -/
def sine (th : Nat) : Int := sinTurn (4 * th) / 2 ^ 65 + (Config.sineError th % 42949 : Nat) - 21474
def cosine (th : Nat) : Int := sine (th + 2 ^ 30)

/-- The angle of the vector (x, y) in Q8.24 degrees, in (−180, 180] (R243): the last of the `n` halvings of the step that keep it at or
above. -/
def angleFrom (x y : Int) : Nat → Int → Int
  | 0, a => a
  | n + 1, a =>
    let b := a + 2 ^ n
    let t := b * 2 ^ 34 / (360 * 2 ^ 24)
    if b ≤ 180 * 2 ^ 24 ∧ 0 ≤ y * cosTurn t - x * sinTurn t then angleFrom x y n b else angleFrom x y n a
def angle (x y : Int) : Int :=
  if y = 0 then (if 0 ≤ x then 0 else 180 * 2 ^ 24)
  else if 0 < y then (let a := angleFrom x y 32 0; a + (Config.lastBit 6 x y).toNat)
  else (let a := angleFrom x (-y) 32 0; -(a + (Config.lastBit 6 x y).toNat))

/-! Roots. -/

/-- The integer square root, from above. -/
def rootFrom (a : Nat) : Nat → Nat → Nat
  | 0, r => r
  | n + 1, r =>
    let b := r + 2 ^ n
    if b * b ≤ a then rootFrom a n b else rootFrom a n r
def root (a : Nat) : Nat := rootFrom a (Nat.log2 a / 2 + 1) 0

/-- The square root of `a` / `b` in whole units, its last bit free. -/
def rootOf (a b : Nat) : Nat :=
  let r := root (a / b)
  if r * r * b = a then r else r + (Config.lastBit 7 a b).toNat

/-- The square root of `a` / `b` rounded half up (R86, R106). -/
def rmsOf (a b : Nat) : Nat := (root (4 * a / max 1 b) + 1) / 2

/-- The meter's ballistic level after a tick of `f` samples (R106): old level, peak of the tick, INTEG_MS, DECAY, fs. It falls at DECAY to no
less than the present level; how INTEG_MS makes it rise is not stated, so a rise ends anywhere between the two (log entry 5). -/
def ballistic (old : Int) (peak ms : Nat) (decay : Int) (f fs : Nat) : Int :=
  let t := max (-(2 ^ 31)) (peakLevel peak)
  if t ≤ old then max t (old - quot (decay * f) fs)
  else old + (Config.meterRise old t ms f fs % ((t - old).toNat + 1) : Nat)

/-! Impedances (R243, R247). -/

/-- |Z| in Q16.16 Ω: V_FS and I_FS in Q16.16, RE and IM of v and of i. -/
def lineMag (vfs : Nat) (vr vi : Int) (ifs : Nat) (ir ii : Int) : Nat :=
  min 0xFFFFFFFF (rootOf (((vr * vr + vi * vi).toNat * (vfs * vfs)) * 2 ^ 32) ((ir * ir + ii * ii).toNat * (ifs * ifs)))

/-- The phase of Z in Q8.24 degrees. -/
def linePhase (vr vi ir ii : Int) : Int := angle (vr * ir + vi * ii) (vi * ir - vr * ii)

/-- The earth ratio in Q0.16: RE and IM of e, of v; the level of v in Q8.24 dBFS. -/
def lineRatio (er ei vr vi : Int) : Nat := min 0xFFFF (rootOf ((er * er + ei * ei).toNat * 2 ^ 32) (vr * vr + vi * vi).toNat)
def lineLevel (vr vi : Int) : Int :=
  let m := (vr * vr + vi * vi).toNat
  if m = 0 then silence else lastUnit 8 m (dbOf m 62 / 2)

/-- The real and imaginary part of an impedance given by magnitude and phase, in fixed point. -/
def impedance (z : Nat × Int) : Int × Int :=
  let t := z.2 * 2 ^ 34 / (360 * 2 ^ 24)
  (z.1 * cosTurn t, z.1 * sinTurn t)

/-- The complex sum of impedances, with 32 fraction bits; magnitude and phase of their mean (R247). -/
def impedanceSum (l : List (Nat × Int)) : Int × Int :=
  ((l.map fun z => (impedance z).1).sum / 2 ^ 64, (l.map fun z => (impedance z).2).sum / 2 ^ 64)
def meanMag (l : List (Nat × Int)) : Nat :=
  let s := impedanceSum l
  rootOf (s.1 * s.1 + s.2 * s.2).toNat (2 ^ 64 * (max 1 l.length * max 1 l.length))
def meanPhase (l : List (Nat × Int)) : Int := let s := impedanceSum l; angle s.1 s.2

end Sys2Proof.Machine
end

