-- ==== Sys2Proof/Machine/Analysis.lean ====
section
/-!
DEFINITION. The signal analysis of Safelight: one-third-octave bands (R249), the 8,192-point band analysis (R250), A-weighting (R252), the
probe (R256), the impulse response of a path with its band energies, band SNRs, onset and coherence (R261). Powers are in units of a
full-scale sine (R4) with 96 fraction bits. What the rules leave to a reader's inference here is log entry 57.
-/
namespace Sys2Proof.Machine

/-! Bands. -/

/-- The lowest measured band at an engine rate (R249). -/
def lowestBand (fs : Nat) : Nat := if fs = 192000 then 5 else if fs = 176400 then 4 else if fs = 96000 then 1 else 0

/-- The one-third-octave band, base ten, in which bin `k` of the 8,192-point analysis lies (R249): band b spans 10^((2b + 39)/20) Hz to
10^((2b + 41)/20) Hz. -/
def bandOf (fs k : Nat) : Option Nat :=
  (List.range 23).find? fun b => decide (lowestBand fs ≤ b) && decide (8192 ^ 20 * 10 ^ (2 * b + 39) ≤ (k * fs) ^ 20) &&
    decide ((k * fs) ^ 20 < 8192 ^ 20 * 10 ^ (2 * b + 41))

/-- The bins of the measured bands, with their bands. -/
def measuredBins (fs : Nat) : List (Nat × Nat) := (List.range 4096).filterMap fun k => (bandOf fs k).map fun b => (k, b)

/-- A figure per bin summed over each band; 0 for a band that is not measured. -/
def bandSums (fs : Nat) (v : Nat → Nat) : List Nat :=
  let bins := measuredBins fs
  (List.range 23).map fun b => ((bins.filter fun x => x.2 == b).map fun x => v x.1).sum

/-- The bins of a band. -/
def binsIn (fs b : Nat) : Nat := ((measuredBins fs).filter fun x => x.2 == b).length

/-- The A-weighting of IEC 61672-1 at a band's nominal centre, in tenths of a dB (R252; PRESUMED, log entry 57). -/
def aWeight : List Int := [-191, -161, -134, -109, -86, -66, -48, -32, -19, -8, 0, 6, 10, 12, 13, 12, 10, 5, -1, -11, -25, -43, -66]

/-! Powers and levels. -/

/-- 10^(g/10) for a `g` in Q8.24 dB, in fixed point. -/
def powerOf (g : Int) : Nat := (exp2 (g * 26319025896243646710040283442 / 2 ^ 24)).toNat

/-- 10 log10 of a power in Q8.24 dB. -/
def levelOf (p : Nat) : Int := if p = 0 then silence else lastUnit 9 p (dbOf p 96 / 2)

/-- 10 log10 of the ratio of two positive numbers in Q8.24 dB. -/
def ratioDb (a b : Nat) : Int := lastUnit 10 a ((log2Fix a - log2Fix b) * 238500534181341910152724267100 / fx * 2 ^ 24)

/-! Transforms of 8,192 points. -/

/-- Bin `k` of the transform of a period: real and imaginary part with 96 more fraction bits. -/
def dftAt (x : List Int) (k : Nat) : Int × Int :=
  (indexed x).foldl (fun a p => let t : Int := (k * p.1 % 8192 * 2 ^ 21 : Nat); (a.1 + p.2 * cosTurn t, a.2 - p.2 * sinTurn t)) (0, 0)

/-- The squared magnitude of a bin, with 64 more fraction bits. -/
def magSq (z : Int × Int) : Nat := let a := z.1 / 2 ^ 64; let b := z.2 / 2 ^ 64; (a * a + b * b).toNat

/-- The band powers of a block of samples under a Hann window (R250): a full-scale sine has power 1. -/
def bandPowers (fs : Nat) (data : List Word) : List Nat :=
  let x := (indexed data).map fun p => p.2.toInt * (fx - cosTurn (p.1 * 2 ^ 21 : Nat)) / 2 ^ 65
  bandSums fs fun k => magSq (dftAt x k) * 32 * 2 ^ 96 / (3 * 8192 ^ 2 * 2 ^ 62 * 2 ^ 128)

/-! The probe (R256). -/

/-- The band powers of a probe: levels in Q8.24 dBFS, none for a band without one; the whole scaled to at most −20 dBFS. -/
def probePowers (levels : List (Option Int)) : List Nat :=
  let p := levels.map fun l => match l with
    | some g => powerOf g
    | none => 0
  if p.sum * 100 ≤ 2 ^ 96 then p else p.map fun x => x * 2 ^ 96 / (p.sum * 100)

/-- The amplitude of bin `k` of a probe in units of Q1.31, with 32 fraction bits: the band's power spread evenly over its bins. -/
def binAmp (fs : Nat) (power : List Nat) (b : Nat) : Nat := root (power.getD b 0 / max 1 (binsIn fs b) * 2 ^ 30)

/-- What a probe is made of (R256): the run, its output, the restart count, its band powers. -/
structure Probe where
  run : Nat
  output : Nat
  restarts : Nat
  power : List Nat
deriving DecidableEq, Repr

/-- The phase of bin `k` in 2^-34 turns: the pseudo-random generator's, which the spec does not state. -/
def Probe.phase (p : Probe) (k : Nat) : Int := (4 * (Config.probePhase p.run p.output p.restarts k % 2 ^ 32) : Nat)

/-- Sample `n` of a probe's period (R256). -/
def Probe.sample (p : Probe) (fs n : Nat) : Word :=
  if p.power.sum = 0 then 0
  else satWord (lastUnit 11 n (((measuredBins fs).map fun x =>
    (binAmp fs p.power x.2 : Int) * cosTurn ((x.1 * n % 8192 * 2 ^ 21 : Nat) + p.phase x.1)).sum / 2 ^ 32))

/-! The response of a path (R261). -/

/-- A synchronous average as it is taken for a microphone (R258): the probe, the periods accumulated, the two accumulators, and the tick of
the last period. -/
structure Response where
  probe : Probe
  periods : Nat
  even : List Int
  odd : List Int
  last : Nat
deriving DecidableEq, Repr

/-- Two lists of 8,192 words combined. -/
def combine (f : Int → Int → Int) (a b : List Int) : List Int := (List.range 8192).map fun i => f (a.getD i 0) (b.getD i 0)

/-- The transfer function in bin `k` with 64 fraction bits: the sum's transform over the periods and the probe's spectrum. -/
def Response.transfer (r : Response) (fs k b : Nat) : Int × Int :=
  let z := dftAt (combine (· + ·) r.even r.odd) k
  let c := cosTurn (r.probe.phase k)
  let d := sinTurn (r.probe.phase k)
  let m : Int := r.periods * 4096 * binAmp fs r.probe.power b
  if m = 0 then (0, 0) else ((z.1 * c + z.2 * d) / fx / m, (z.2 * c - z.1 * d) / fx / m)

/-- The impulse response with 64 fraction bits. -/
def Response.impulse (r : Response) (fs : Nat) : List Int :=
  let hs := (measuredBins fs).map fun x => (x.1, r.transfer fs x.1 x.2)
  (List.range 8192).map fun n => (hs.map fun h => let t : Int := (h.1 * n % 8192 * 2 ^ 21 : Nat)
    h.2.1 * cosTurn t - h.2.2 * sinTurn t).sum / (4096 * fx)

/-- Per band the SNR and the energy in Q8.24 dB, the energy as the mean over the band's bins of the squared transfer function; none for a band
that is not measured. -/
def Response.bands (r : Response) (fs : Nat) : List (Option (Int × Int)) :=
  let s := bandSums fs fun k => magSq (dftAt (combine (· + ·) r.even r.odd) k)
  let d := bandSums fs fun k => magSq (dftAt (combine (· - ·) r.even r.odd) k)
  let e := bandSums fs fun k => match bandOf fs k with
    | some b => let z := r.transfer fs k b; (z.1 * z.1 + z.2 * z.2).toNat
    | none => 0
  (List.range 23).map fun b =>
    let a := s.getD b 0
    let n := d.getD b 0
    let g := e.getD b 0 / max 1 (binsIn fs b)
    if binsIn fs b = 0 ∨ g = 0 then none
    else some (if a ≤ n then silence else if n = 0 then 255 * 2 ^ 24 else ratioDb (a - n) n, lastUnit 12 g (dbOf g 128 / 2))

/-- The energies alone. -/
def energies (l : List (Option (Int × Int))) : List (Option Int) := l.map fun b => b.map (·.2)

/-- The first sample of a response whose magnitude reaches half the largest. -/
def onset (h : List Int) : Nat :=
  let m := (h.map Int.natAbs).foldl max 0
  ((indexed h).find? fun x => decide (m ≤ 2 * x.2.natAbs)).elim 0 (·.1)

/-- 4,096 samples of a response from sample `a` on, which may lie before its start: the response is periodic. -/
def waveFrom (h : List Int) (a : Int) : List Int := (List.range 4096).map fun (i : Nat) => h.getD ((a + i) % 8192).toNat 0

/-- The largest normalised correlation of a response with a reference over lags up to `m`, in Q0.16. -/
def coherence (h ref : List Int) (a : Int) (m : Nat) : Nat :=
  let e := (ref.map fun x => x * x).sum
  ((List.range (2 * m + 1)).map fun (j : Nat) =>
    let w := waveFrom h (a + j - m)
    let c := ((w.zip ref).map fun p => p.1 * p.2).sum
    let d := (w.map fun x => x * x).sum * e
    if c ≤ 0 ∨ d ≤ 0 then 0 else min 0xFFFF (rootOf ((c * c).toNat * 2 ^ 32) d.toNat)).foldl max 0

end Sys2Proof.Machine
end

