-- ==== Sys2Proof/Machine/SlTypes.lean ====
section
/-!
DEFINITION. What Safelight holds beside its registers and tables (spec/09).
-/
namespace Sys2Proof.Machine

/-- A line under supervision (R245, R247): the reading that repeats and how often, and the impedances, ratios and levels of a
learn under way. -/
structure LineSt where
  reading : Nat
  count : Nat
  learn : Option (List (Nat × Int × Nat × Int))
  /-- A write waits for the next integration boundary (R248): whether it changed OUTPUT, a handle or a lane. -/
  written : Option Bool
  /-- While a write waits: the entry's words that the host writes, as they are in force. -/
  was : List Word
deriving DecidableEq, Repr

/-- A stored reference (R263): TOA, band energies in Q8.24 dB, and 4,096 samples of the response. -/
structure PathRef where
  toa : Nat
  bands : List (Option Int)
  wave : List Int
deriving DecidableEq, Repr

/-- A zone under verification (R255 to R260). -/
structure ZoneRun where
  zone : Nat
  /-- Outputs still to come, and the one being probed. -/
  outputs : List Nat
  output : Option Nat
  /-- Whether its probe is synthesised, the number of that synthesis, its band powers, the ambient it was shaped from by microphone and band,
  and whether it is the provisional one of R257. -/
  ready : Bool
  shape : Nat
  power : List Nat
  used : List (Nat × List (Option Nat))
  provisional : Bool
  /-- Band energies that the provisional probe gave, by microphone (R257). -/
  gains : List (Nat × List (Option Int))
  /-- Sample numbers at which it starts and at which its fade-out begins. -/
  from_ : Option Nat
  stop : Option Nat
  /-- Periods elapsed since the start, the sample number at which the last one ended, per microphone the periods accumulated, and the accumulators:
  two per microphone, of even and of odd periods. -/
  periods : Nat
  last : Nat
  acc : List (Nat × Nat)
  sums : Sparse (List Int)
  /-- Restarts under R260, whether it has yielded or restarted, whether it yields now, last tick of higher activity. -/
  restarts : Nat
  yielded : Bool
  off : Bool
  busyAt : Nat
  /-- An accumulator word failed DRAM ECC (R266): microphones. -/
  void : List Nat
deriving DecidableEq, Repr

/-- A run (R255). -/
structure SlRun where
  id : Nat
  op : Nat
  start : Nat
  dwell : Nat
  /-- Paths not finished, by index; lines not finished. -/
  left : List Nat
  /-- Paths whose output has ended and whose extraction is under way: path, yielded, restarted, out of restarts. -/
  extract : List (Nat × Bool × Bool × Bool)
  /-- The averages they are extracted from, by path. -/
  heard : List (Nat × Response)
  total : Nat
  /-- Zones waiting, and zones running. -/
  waiting : List Nat
  zones : List ZoneRun
  ones : Nat
  threes : Nat
deriving DecidableEq, Repr

/-- Samples of a channel as the analysis takes them (R250): where the block in progress began, what it holds, whether every sample was valid; the
last whole block. -/
structure Heard where
  from_ : Nat
  data : List Word
  ok : Bool
  whole : Option (Nat × Bool × List Word)
deriving DecidableEq, Repr

/-- A channel not heard yet. -/
def Heard.rest : Heard := ⟨0, [], true, none⟩

/-- A microphone's ambient (R251, R252): where the last block analysed began, per band the last ambient power and its average. -/
structure MicSt where
  block : Option Nat
  ambient : List (Option Nat)
  average : List (Option Nat)
deriving DecidableEq, Repr

/-- A microphone without a block. -/
def MicSt.rest : MicSt := ⟨none, [], []⟩

/-- What the Safelight store holds (R268). -/
structure SlStore where
  tables : Mem
  refs : Sparse (Option PathRef)
deriving DecidableEq, Repr

/-- Safelight. -/
structure SlSt where
  lines : Sparse LineSt
  run : Option SlRun
  nextId : Nat
  shapes : Nat
  refs : Sparse (Option PathRef)
  /-- A STORE under way: its ticket. -/
  storing : Option Ticket
  /-- Millisecond of each zone's last estimate (SL_AMB_EST.AGE). -/
  ambAt : Sparse Nat
  shed : Bool
  /-- Channels heard: microphone m at m, output o at 256 + o (R250). -/
  heard : Sparse Heard
  /-- The microphones' ambient, and per path the band energies of its last PASS or MARGINAL (R251, R252). -/
  mics : Sparse MicSt
  gains : Sparse (List (Option Int))
  /-- Probes that fade out after their output or their run has ended, with the run (R255, R258). -/
  tails : List (Nat × ZoneRun)
deriving DecidableEq, Repr

/-- A line nothing is known of. -/
def LineSt.rest : LineSt := { reading := 0, count := 0, learn := none, written := none, was := [] }

/-- No run. -/
def SlSt.rest : SlSt :=
  { lines := [], run := none, nextId := 1, shapes := 0, refs := [], storing := none, ambAt := [], shed := false,
    heard := [], mics := [], gains := [], tails := [] }

end Sys2Proof.Machine
end

