-- ==== Sys2Proof/Machine/CoreTypes.lean ====
section
/-!
DEFINITION. What the control path (spec/02), the fault collector (spec/16), the event log and the management subsystem
(spec/18) hold beside their registers, and what the device puts out.
-/
namespace Sys2Proof

open Sys2Proof.Machine

/-- The 32 bytes of a descriptor, DONE taken as 0 (R46, R47). -/
def Desc.bytes (d : Desc) : List Byte :=
  leBytes 2 d.op.toNat ++ [d.flags &&& 0x7F#8, d.role] ++ leBytes 4 d.tag.toNat ++ leBytes 8 d.bufAddr.toNat ++
  leBytes 4 d.bufLen.toNat ++ leBytes 4 d.arg0.toNat ++ leBytes 4 d.arg1.toNat ++ leBytes 4 d.seq.toNat

/-- FLAGS.AUTH and FLAGS.IRQ. -/
def Desc.auth (d : Desc) : Bool := bitOf d.flags.toNat 0
def Desc.irq (d : Desc) : Bool := bitOf d.flags.toNat 1

/-- The body: the buffer without its trailer (R46, R47). -/
def Desc.body (d : Desc) : List Byte :=
  let b := d.buf.take d.bufLen.toNat
  if d.auth then b.take (d.bufLen.toNat - 16) else b

/-- The trailer: the last 16 bytes of the buffer (R47). -/
def Desc.trailer (d : Desc) : List Byte := (d.buf.take d.bufLen.toNat).drop (d.bufLen.toNat - 16)

/-- The body's length in bytes. -/
def Desc.bodyLen (d : Desc) : Nat := if d.auth then d.bufLen.toNat - 16 else d.bufLen.toNat

namespace Machine

/-- An event log record (R491): TYPE, CLASS, PAGE, SOURCE, SEQ, TICK, and the 48 bytes of its payload. -/
structure LogRec where
  typ : Nat
  cls : Nat
  page : Nat
  src : Nat
  seq : Nat
  tick : Nat
  payload : List Byte
deriving DecidableEq, Repr

/-- A record's 64 bytes (R491). -/
def LogRec.bytes (r : LogRec) : List Byte :=
  (([BitVec.ofNat 8 r.typ, BitVec.ofNat 8 r.cls, BitVec.ofNat 8 r.page, BitVec.ofNat 8 r.src] ++ leBytes 4 r.seq ++
    leBytes 8 r.tick ++ r.payload) ++ List.replicate 48 0).take 64

/-- The event log (R491 to R495). -/
structure LogSt where
  /-- Records in management SRAM, oldest first. -/
  staged : List LogRec
  /-- Records in flash, newest first. -/
  stored : List LogRec
  /-- SEQ of the next record. -/
  next : Nat
  /-- Records dropped since the last record staged (R493). -/
  lost : Nat
deriving DecidableEq, Repr

/-- The rings' working state (R42 to R45): descriptors announced and not yet consumed, events waiting for a buffer,
completions not yet signalled. -/
structure HostSt where
  queue : Sparse (List Desc)
  events : Sparse (List LogRec)
  unsignalled : Sparse Nat
  /-- The last ring dispatched within each priority, for round-robin (R43): by PRIO, then by PRIO of the Life-safety heads. -/
  last : List Nat
  /-- Authentication failures of the last second: the millisecond of each (R49). -/
  fails : List Nat
  evtSeq : Nat
  sheets : List Sheet
  /-- Ring memory of the SPI host (R41). -/
  spi : Mem
  /-- Contact sheets formed and not yet written: ring, bytes. -/
  due : List (Nat × List Byte)
  /-- A CLIP_LOAD that takes in its clip: its ticket, clip number, upload ring (R113). -/
  clipWait : Option (Ticket × Nat × Nat)
deriving DecidableEq, Repr

/-- An open entry of the fault collector (R443, R445). -/
structure FltEntry where
  page : Nat
  src : Nat
  eff : Nat
  orig : Nat
  seq : Nat
deriving DecidableEq, Repr

/-- An F0 source's logging (R442): the millisecond of its last record, edges since. -/
structure Notice where
  key : Nat
  at_ : Nat
  edges : Nat
deriving DecidableEq, Repr

/-- The fault collector, the known-answer tests and fault injection (spec/16). -/
structure FaultSt where
  /-- Unmasked rising edges on their way to the collector: page, source, oldest first. -/
  edges : List (Nat × Nat)
  /-- Open entries, oldest first. -/
  entries : List FltEntry
  next : Nat
  notices : List Notice
  /-- Broken lines, and rails held by injection: 16 × page + source. -/
  broken : List Nat
  /-- Banks whose next write is to have one bit, two bits flipped; units whose next rotating signature is corrupted (R458). -/
  flip1 : NatSet
  flip2 : NatSet
  corrupt : NatSet
  /-- A rotating round, a short round under way (R453, R454). -/
  katOn : Bool
  shortOn : Bool
  /-- The flash sequence of a loss of power has begun (R184). -/
  pfailSeq : Bool
deriving DecidableEq, Repr

/-- A firmware slot (R501, R503): version, security version, pair compatibility, whether its signature passes. -/
structure FwSlot where
  version : Nat
  svn : Nat
  compat : Nat
  valid : Bool
deriving DecidableEq, Repr

/-- A firmware update under way (R501, R502). -/
structure Update where
  hdr : List Byte
  role : Nat
  chunks : Nat
  data : List Byte
  programmed : Nat
  /-- What was read back differs from what was sent. -/
  bad : Bool
deriving DecidableEq, Repr

/-- A life-cycle state's fuses and the keys (R496, R498, R500). -/
structure SecSt where
  state : Nat
  serial : Nat
  duk : List Byte
  rootHash : List Byte
  imageKey : List Byte
  keyKill : Bool
  svn : Nat
  /-- Role keys loaded: Operator, Maintainer, Life-safety; empty = not loaded. -/
  keys : List (List Byte)
  /-- Role keys as the key store holds them. -/
  stored : List (List Byte)
  tampered : Bool
  /-- A LIFECYCLE_ADVANCE under way: its ticket and body (R497). -/
  adv : Option (Ticket × List Byte)
deriving DecidableEq, Repr

/-- The boot flash beside the configuration: firmware slots, pointer, directory (R485, R503). -/
structure FlashSt where
  a : FwSlot
  b : FwSlot
  /-- Slot in force, TRIAL, ATTEMPTED. -/
  slot : Nat
  trial : Bool
  attempted : Bool
  dir0 : Bool
  dir1 : Bool
  dramEcc : Bool
  dramRate : Nat
  /-- Regions of the directory (R485): a firmware slot's size, base and size of the configuration area and of the event log. -/
  slotSize : Nat
  cfgBase : Nat
  cfgSize : Nat
  logBase : Nat
  logSize : Nat
  /-- The last shutdown was sealed (R494). -/
  sealed : Bool
  /-- The segment of a preserving march that a cold reset cut short (R425). -/
  marchSeg : Option Nat
  /-- The Safelight store (R268). -/
  safelight : SlStore
deriving DecidableEq, Repr

/-- What leaves the device, newest first in State.out. -/
inductive Out where
  /-- A completion written to a response ring: ring, opcode, command ring, TAG, SEQ, STATUS, DETAIL, RESULT, LEN. -/
  | response (ring op src tag seq status detail result len : Nat)
  /-- Bytes written to host memory. -/
  | dma (addr : Nat) (data : List Byte)
  /-- An MSI-X message, or the SPI host's HOST_IRQ_N going low. -/
  | msix (vec : Nat)
  | irqN
  /-- An event written to an event ring. -/
  | event (ring seq : Nat) (r : LogRec)
  /-- A Contact sheet or a capture block in a posted buffer. -/
  | sheet (ring : Nat) (data : List Byte)
  | capture (ring : Nat) (data : List Byte)
  /-- A posted descriptor of a sheet, event or capture ring, written back in place (R42, R46): ring, its 32 bytes. -/
  | done (ring : Nat) (desc : List Byte)
  /-- Words shifted out on SPI_MISO, with a CRC where one is appended. -/
  | spi (words : List Word) (crc : Option Nat)
  /-- A claim word on CLMO (R279). -/
  | clmo (word : Nat)
  /-- A frame of a TDM port: port, slot words, and the slots in which SDOUT is left high-impedance (R316). -/
  | tdm (port : Nat) (slots : List Word) (hiz : Nat)
  /-- An AES3 block's status; a tick's AES3 frames, samples of subframes A and B, with AOUT_VAL. -/
  | aes3 (port : Nat) (status : List Byte)
  | aes3Audio (port : Nat) (frames : List (Word × Word)) (val : Word)
  /-- An Ethernet frame on a MAC; one ended with the inverse of its FCS (R343); a jam (R345). -/
  | frame (mac : Nat) (f : TxFrame)
  | badFcs (mac : Nat) (f : TxFrame)
  | jam (mac : Nat)
  /-- A message on the Porbuod link. -/
  | porbuod (m : Msg)
  /-- A deskew marker on a Porbuod lane (R406). -/
  | marker (lane : Nat) (bytes : List Byte)
  /-- Idles, a training pattern or an error on a lane. -/
  | lane (n pattern : Nat)
  | wordClock
  /-- Output samples of an emitted frame: frame number, samples keyed 16 × channel + sample. -/
  | emit (tick : Nat) (f : Frame)
deriving DecidableEq, Repr

end Machine
end Sys2Proof
end

