-- ==== Sys2Proof/Machine/EnergyTypes.lean ====
section
/-!
DEFINITION. What the energy account keeps beside its registers (spec/17).
-/
namespace Sys2Proof.Machine

/-- The energy account. -/
structure EnSt where
  /-- The window: energy of its ticks as EN_TICK gives it, their number, the tick it began with (R471). -/
  sum : Nat
  ticks : Nat
  from_ : Nat
  /-- Milliseconds for which power has stayed below the restore threshold (R471). -/
  below : Nat
  /-- A step armed: level, commit tick, and on a standby whether its confirm has come (R471, R472). -/
  pending : Option (Nat × Nat × Bool)
  /-- The commit tick of the last step; a level that the strips take with the next tick start. -/
  since : Nat
  take : Option Nat
  /-- K before its register's format, with 96 fraction bits; energy at K = 1 and ticks since the last regulator read; reads missed in a row, by
  regulator (R465). -/
  cal : Int
  calSum : Nat
  calTicks : Nat
  miss : Sparse Nat
  /-- Ticks for which each wake group has stayed below the threshold (R474). -/
  quiet : Sparse Nat
deriving DecidableEq, Repr

/-- An empty account. -/
def EnSt.rest : EnSt :=
  { sum := 0, ticks := 0, from_ := 0, below := 0, pending := none, since := 0, take := none, cal := 2 ^ 96, calSum := 0, calTicks := 0, miss := [],
    quiet := [] }

end Sys2Proof.Machine
end

