-- ==== Sys2Proof/Machine/PairTypes.lean ====
section
/-!
DEFINITION. What a unit holds as one of a pair (spec/10): its role, epoch, messages under way, mode changes armed, mirrored
inputs and records, signatures and validity masks, the excuse window.
-/
namespace Sys2Proof.Machine

/-- The roles of R271. -/
inductive Role where
  | yielded | sync | standby | active
deriving DecidableEq, Repr

/-- The code of a role (R271). -/
def Role.code : Role → Nat
  | .yielded => 0
  | .sync => 1
  | .standby => 2
  | .active => 3

/-- A mode change under R304: the SEQ of its ARM, what it is, whether the ACK has come (active) or the CONFIRM (standby). -/
structure Arm where
  seq : Nat
  change : ModeChange
  ok : Bool
deriving DecidableEq, Repr

/-- A unit as one of a pair. -/
structure PairSt where
  role : Role
  /-- Whether a partner belongs to the pair: from formation until PAIR_YIELD on the standby. -/
  formed : Bool
  epoch : Nat
  /-- The newest epoch seen on any carrier since reset (R275). -/
  newest : Option Nat
  /-- HEALTH as of the last tick start (R274), and whether the last known-answer round passed. -/
  health : Nat
  katOk : Bool
  /-- The whole claim forced to 0x0000 by an F4 reaction (R275). -/
  dark : Bool
  /-- PAIR_JOIN under way: its ticket, FOLLOW, the pair ID it gave; transfers restarted (R298). -/
  join : Option Ticket
  joining : Bool
  follow : Bool
  pairId : Nat
  restarts : Nat
  /-- The millisecond the transfer began. -/
  xferFrom : Nat
  /-- Whether the 16 ticks of verification have shown a disagreement without excuse (R298). -/
  verifyBad : Bool
  /-- A handover armed for H (R299), and its ticket. -/
  handover : Option Nat
  yieldTicket : Option Ticket
  /-- Reliable messages not yet acknowledged, and the SEQ of the next message (R287). -/
  sent : List (Nat × Msg)
  nextSeq : Nat
  /-- Mode changes armed by the active, and those a standby has taken (R304). -/
  arms : List Arm
  taken : List Arm
  /-- Consecutive heartbeats and CLMI words missed, and received (R289, R305). -/
  hbMiss : Nat
  hbRun : Nat
  clmiMiss : Nat
  clmiRun : Nat
  /-- Mirrored input samples taken from the active for the frame of the next tick, and their channels (R292). -/
  mir : Frame
  mirOk : NatSet
  /-- Mirrored records to load at the next tick boundary (R123). -/
  loads : List (Nat × MirrorRec)
  /-- Own signatures and validity masks of the last frames: frame, per group, mask words of 32 channels (R301, R302). -/
  sigs : List (Nat × List Nat)
  masks : List (Nat × List Nat)
  /-- Channels whose frame in process is divergent (R292). -/
  divergent : NatSet
  /-- The excuse window: its last frame; whether it has been reopened; groups mismatching in it (R302). -/
  window : Option Nat
  reopened : Bool
  mism : NatSet
  /-- A known-answer round called for by a mismatch, and whether the partner's passed (R303). -/
  peerKat : Option Bool
  /-- Digest as of the end of the last tick (R300). -/
  digest : Nat
  /-- What the partner has sent of itself: capability, election entry, join (R287, R295, R296). -/
  peerCap : Option CtrlMsg
  peerElection : Option (Nat × Nat)
  peerJoin : Option (Nat × Bool)
  /-- The partner's last valid claim carries ROLE 00 (R305). -/
  peerOut : Bool
  /-- A short round called for by a mismatch has not settled; the own outcome (R303). -/
  katCall : Bool
  ownKat : Option Bool
  /-- Commands that complete when the standby has acknowledged a message: its SEQ (R113). -/
  acks : List (Nat × Ticket)
  /-- Whether a heartbeat, and a valid CLMI word, came in this tick. -/
  hbGot : Bool
  clmiGot : Bool
  /-- A yield that takes effect at the next tick start: its cause (R447, R459). -/
  yieldDue : Option Nat
  /-- A TDM frame, or a tick start, has carried the claim 0x0000 of an F4 action (R447). -/
  darkSent : Bool
  /-- The millisecond after the last concealment of a stream of the plan; 0 = none (R274). -/
  concAt : Nat
  /-- The start-up wait for the partner runs (R296). -/
  waiting : Bool
deriving DecidableEq, Repr

/-- A unit that is not in a pair (R271). -/
def PairSt.rest : PairSt :=
  { role := .active, formed := false, epoch := 0, newest := none, health := 0, katOk := true, dark := false, join := none,
    joining := false, follow := false, pairId := 0, restarts := 0, xferFrom := 0, verifyBad := false, handover := none,
    yieldTicket := none, sent := [], nextSeq := 0, arms := [], taken := [], hbMiss := 0, hbRun := 0, clmiMiss := 0,
    clmiRun := 0, mir := [], mirOk := [], loads := [], sigs := [], masks := [], divergent := [], window := none,
    reopened := false, mism := [], peerKat := none, digest := 0, peerCap := none,
    peerElection := none, peerJoin := none, peerOut := false, katCall := false, ownKat := none, acks := [], hbGot := false,
    clmiGot := false, yieldDue := none, darkSent := false, concAt := 0, waiting := false }

end Sys2Proof.Machine
end

