-- ==== Sys2Proof/Machine/PortTypes.lean ====
section
/-!
DEFINITION. What the audio ports and the TDM merge groups hold beside their registers (spec/10, spec/11).
-/
namespace Sys2Proof.Machine

/-- A TDM port, or, of `left`, `ramp`, `restart`, `notBefore`, an AES3 transmitter (R319 to R325, R332). -/
structure TdmPort where
  /-- Frames left of a pre-roll or post-roll. -/
  left : Nat
  /-- Samples done of the 64-sample ramp of a stop; of the 32-sample fade-in after a loss. -/
  ramp : Option Nat
  fade : Option Nat
  /-- Samples done of the 64-sample fade-in after a disruptive plan, and whether the port takes one when it is enabled (R73). -/
  rise : Option Nat
  slow : Bool
  /-- It starts again after its post-roll (R325), and not before this tick (R73). -/
  restart : Bool
  notBefore : Nat
  /-- Consecutive frames with a missing start, a rate out of range, a glitch (R320). -/
  fsMiss : Nat
  rateBad : Nat
  glitches : Nat
  /-- Channel words of the last input frame, and slot words of the last output frame. -/
  lastIn : List Word
  lastOut : List Word
  /-- Frames taken in and sent in this tick, and, for a merge, this tick's frames: whether whole, channel words, claim. -/
  inPos : Nat
  outPos : Nat
  frames : List (Bool × List Word × Option Nat)
deriving DecidableEq, Repr

/-- A TDM merge group (R283). -/
structure TdmMerge where
  muted : Bool
  gap : Nat
  /-- The incumbent: the secondary, or the primary. -/
  incumbent : Option Bool
  /-- Claims of the frame before. -/
  prevP : Option Nat
  prevS : Option Nat
  /-- The frame held, and samples done of the 64-sample fade-in. -/
  held : List Word
  fade : Option Nat
  /-- Frames merged in this tick. -/
  pos : Nat
deriving DecidableEq, Repr

/-- An AES3 receiver (R327). -/
structure AesIn where
  /-- Consecutive frames with and without valid preambles; frames since the last Z preamble. -/
  good : Nat
  bad : Nat
  sinceZ : Option Nat
  zOk : Bool
  inPos : Nat
deriving DecidableEq, Repr

/-- An AES3 transmitter's channel status in use (R331): CS A, CS B, VAL, UB A, UB B, and whether a commit waits. -/
structure AesOut where
  csA : List Word
  csB : List Word
  val : Word
  ubA : List Word
  ubB : List Word
  commit : Bool
deriving DecidableEq, Repr

/-- The audio ports. -/
structure PortSt where
  tdm : Vector TdmPort 16
  merge : Vector TdmMerge 8
  ain : Vector AesIn 8
  aout : Vector AesOut 8
  /-- The start and stop state of the AES3 transmitters (R332). -/
  roll : Vector TdmPort 8
  /-- Samples done of the fade-in of an ASRC estimator's outputs, by page (R338). -/
  asrcFade : Sparse Nat
deriving DecidableEq, Repr

/-- A port that is stopped. -/
def TdmPort.rest : TdmPort :=
  { left := 0, ramp := none, fade := none, rise := none, slow := false, restart := false, notBefore := 0, fsMiss := 0, rateBad := 0, glitches := 0,
    lastIn := [], lastOut := [], inPos := 0, outPos := 0, frames := [] }

/-- A merge group at start (R283), with a gap that no WAIT reaches. -/
def TdmMerge.rest : TdmMerge :=
  { muted := true, gap := 80, incumbent := none, prevP := none, prevS := none, held := [], fade := none, pos := 0 }

/-- A receiver out of lock. -/
def AesIn.rest : AesIn := { good := 0, bad := 0, sinceZ := none, zOk := false, inPos := 0 }

/-- A transmitter after reset: channel status 0x0000_0001 in word 0 (R329 note, spec/11). -/
def AesOut.rest : AesOut :=
  { csA := [1, 0, 0, 0, 0, 0], csB := [1, 0, 0, 0, 0, 0], val := 0, ubA := [0, 0, 0, 0, 0, 0], ubB := [0, 0, 0, 0, 0, 0], commit := false }

/-- Every port stopped. -/
def PortSt.rest : PortSt :=
  { tdm := .replicate 16 .rest, merge := .replicate 8 .rest, ain := .replicate 8 .rest, aout := .replicate 8 .rest,
    roll := .replicate 8 .rest, asrcFade := [] }

end Sys2Proof.Machine
end

