-- ==== Sys2Proof/Machine/State.lean ====
section
/-!
DEFINITION. The state of the device, its faults and refusals, and the state right after a cold reset, before start-up.
-/
namespace Sys2Proof.Machine

/-- Why the block would stop with a fault. No meaning raises one: the spec answers every command (safe). -/
inductive Fault where
  /-- Raised by no command. -/
  | none
deriving DecidableEq, Repr

/-- Why a command has no meaning. -/
inductive Refusal where
  /-- Answered by exec's arm of a command that has no meaning yet: a gap, and safe. No meaning answers it. -/
  | notModelled (mnemonic : String)
deriving DecidableEq, Repr

/-- The device. -/
structure State where
  /-- Commands waiting, first in first out (the model's own). -/
  pending : List Instr
  /-- Registers by BAR0 address; an unlisted one reads its cold-reset value. -/
  regs : Sparse Word
  /-- Latent values of the RWS registers (R157), by the same addresses. -/
  lat : Sparse Word
  /-- What a FREEZE of a block captured (R26): first page of the block, registers. -/
  snaps : List (Nat × Sparse Word)
  /-- What a read captured of other registers (a LO word its HI word, and the like; R329, R352, R386), by address, with 1 added. -/
  caps : Sparse Nat
  /-- Object areas captured by a read of TICK_LO (R91), by handle. -/
  areas : Sparse (List Word)
  /-- Words answered to the last read, newest first (the model's own). -/
  rdata : List Word
  /-- What the device has put out, newest first (the model's own). -/
  out : List Out
  /-- Count of open values used (the model's own; log entry 3). -/
  free : Nat
  /-- Milliseconds since start-up (the model's own; log entry 9). -/
  ms : Nat
  /-- Parameter window: banks, route presets, trigger table, Safelight tables (R23), by BAR2 offset. -/
  win : Mem
  host : HostSt
  flt : FaultSt
  log : LogSt
  sec : SecSt
  flash : FlashSt
  upd : Option Update
  clusters : Vector Cluster 16
  eng : EngSt
  scn : SceneSt
  pair : PairSt
  ports : PortSt
  sl : SlSt
  net : NetSt
  clk : ClkSt
  en : EnSt
deriving DecidableEq, Repr

/-- What an unlisted byte of the parameter window reads as: input channel words reset to 0x0000_0800 in both banks (R109), a
path's LAST_OUTCOME to 7 (R254), everything else to 0. -/
def winDefault (o : Nat) : Byte :=
  let b := o % 0x1000000
  if o < 0x2000000 ∧ 0xA00000 ≤ b ∧ b < 0xA02000 ∧ b % 4 = 1 then 8
  else if 0x3060000 ≤ o ∧ o < 0x3070000 ∧ o % 16 = 8 then 7
  else 0

/-- The rings at rest: none announced, no command under way. -/
def HostSt.rest : HostSt :=
  { queue := [], events := [], unsignalled := [], last := List.replicate 8 0, fails := [], evtSeq := 0, sheets := [], spi := [],
    due := [], clipWait := none }

/-- No open fault. -/
def FaultSt.rest : FaultSt :=
  { edges := [], entries := [], next := 0, notices := [], broken := [], flip1 := [], flip2 := [], corrupt := [], katOn := false,
    shortOn := false, pfailSeq := false }

/-- A device as it leaves the factory line (log entry 11): Blank, a firmware image in slot A, no configuration. -/
def SecSt.new : SecSt :=
  { state := 0, serial := 0, duk := [], rootHash := List.replicate 48 0, imageKey := List.replicate 32 0, keyKill := false, svn := 0,
    keys := [], stored := [], tampered := false, adv := none }

def FlashSt.new : FlashSt :=
  { a := ⟨1, 0, 0, true⟩, b := ⟨0, 0, 0, false⟩, slot := 0, trial := false, attempted := false, dir0 := true, dir1 := true, dramEcc := true,
    dramRate := 3, slotSize := 0x1000000, cfgBase := 0x2020000, cfgSize := 0x8000000, logBase := 0xA020000, logSize := 0x470000,
    sealed := false, marchSeg := none, safelight := ⟨[], []⟩ }

/-- The device in cold reset, before its start-up (R482, R487, R516): every register at its reset value, no plan, memory empty. -/
def State.reset : State :=
  { pending := [], regs := [], lat := [], snaps := [], caps := [], areas := [], rdata := [], out := [], free := 0, ms := 0, win := [],
    host := .rest, flt := .rest, log := ⟨[], [], 1, 0⟩, sec := .new, flash := .new, upd := none,
    clusters := .replicate 16 .zero, eng := .rest, scn := .rest, pair := .rest, ports := .rest, sl := .rest, net := .rest, clk := .rest,
    en := .rest }

end Sys2Proof.Machine
end

