-- ==== Sys2Proof/Machine/Ops.lean ====
section
/-!
DEFINITION. The named operations over registers, the parameter window and the fault sources that every meaning shares:
fields (R22, R512), pages (R26 to R33), raising a source (R30, R33, R442), the event log and event rings (R44, R491,
R493), MSI-X (R34, R41), answers to reads.
-/
namespace Sys2Proof.Machine

/-! Registers. -/

/-- The word a register holds. -/
def State.reg (s : State) (a : Nat) : Word := Sparse.get (RegDir.reset a) s.regs a

/-- A register given a word. -/
def State.setReg (s : State) (a : Nat) (w : Word) : State := { s with regs := Sparse.set (RegDir.reset a) s.regs a w }

/-- A field's value. -/
def State.rd (s : State) (f : Fld) : Nat := bitsOf (s.reg f.addr).toNat f.hi f.lo

/-- A word with a field replaced. -/
def Fld.put (f : Fld) (w : Word) (v : Nat) : Word := (w &&& ~~~f.mask) ||| ((BitVec.ofNat 32 v <<< f.lo) &&& f.mask)

/-- A field given a value, its low bits where the value is too wide. -/
def State.wr (s : State) (f : Fld) (v : Nat) : State := s.setReg f.addr (f.put (s.reg f.addr) v)

/-- A one-bit field. -/
def State.on (s : State) (f : Fld) : Bool := s.rd f != 0
def State.wrb (s : State) (f : Fld) (b : Bool) : State := s.wr f b.toNat

/-- A counter that wraps, and one that saturates at its width. -/
def State.bump (s : State) (f : Fld) : State := s.wr f (s.rd f + 1)
def State.bumpBy (s : State) (f : Fld) (n : Nat) : State := s.wr f (s.rd f + n)
def State.bumpSat (s : State) (f : Fld) : State := if s.rd f + 1 < 2 ^ f.width then s.wr f (s.rd f + 1) else s

/-- A field as a signed number of its width. -/
def State.rdS (s : State) (f : Fld) : Int := signed (s.rd f) f.width

/-- A 64-bit quantity in a LO and a HI register. -/
def State.rd64 (s : State) (lo hi : Fld) : Nat := s.rd lo + 2 ^ 32 * s.rd hi
def State.wr64 (s : State) (lo hi : Fld) (v : Nat) : State := (s.wr lo v).wr hi (v / 2 ^ 32)

/-- Several fields at once. -/
def State.wrAll (s : State) (l : List (Fld × Nat)) : State := l.foldl (fun s p => s.wr p.1 p.2) s

/-- The tick number (R12). -/
def State.tick (s : State) : Nat := s.rd64 F.TICK_NUM_LO F.TICK_NUM_HI

/-- A value the spec leaves open, and the state after its use (log entry 3). -/
def State.open_ (s : State) : Nat × State := (Config.freeValue s.free, { s with free := s.free + 1 })

/-- Something put out. -/
def State.put (s : State) (o : Out) : State := { s with out := o :: s.out }

/-- The answer to a read. -/
def State.answer (s : State) (w : Word) : State := { s with rdata := w :: s.rdata }

/-! The parameter window (R23): four bytes at a time, little-endian. -/

def State.byte (s : State) (o : Nat) : Byte := Sparse.get (winDefault o) s.win o
def State.word (s : State) (o : Nat) : Word :=
  BitVec.ofNat 32 (leNat [s.byte o, s.byte (o + 1), s.byte (o + 2), s.byte (o + 3)])

/-- A byte of memory given a value. -/
def memSet (d : Nat → Byte) (m : Mem) (o : Nat) (b : Byte) : Mem := Sparse.set (d o) m o b

/-- Bytes written from an offset on. -/
def memBytes (d : Nat → Byte) : Mem → Nat → List Byte → Mem
  | m, _, [] => m
  | m, o, b :: t => memBytes d (memSet d m o b) (o + 1) t

def State.setWin (s : State) (o : Nat) (b : List Byte) : State := { s with win := memBytes winDefault s.win o b }
def State.setWord (s : State) (o : Nat) (w : Word) : State := s.setWin o (leBytes 4 w.toNat)

/-- `n` bytes from an offset on. -/
def State.winBytes (s : State) (o n : Nat) : List Byte := (List.range n).map fun i => s.byte (o + i)

/-! Pages. -/

/-- The first page of the block that page `p` belongs to, whose PAGE_CTRL, PWR_STATE, PWR_WAKE_TOL and BANK_STAT it
shares (R26). -/
def homePage (p : Nat) : Nat := match RegDir.page? p with
  | some r => if r.pages = 0 then p else p - r.index
  | none => p

/-- Every page of the block of page `p`. -/
def blockPages (p : Nat) : List Nat := match RegDir.page? p with
  | some r => if r.pages = 0 then [p] else (List.range (r.pages + 1)).map fun i => homePage p + i
  | none => []

/-- Whether a block is enabled (R30). -/
def State.enabled (s : State) (p : Nat) : Bool := s.on (F.PAGE_CTRL_EN.pg (homePage p))

/-- Whether a block is part of the running plan (R546). -/
def State.admitted (s : State) (p : Nat) : Bool := s.on (F.PAGE_STAT_ADMITTED.pg p)

/-- The life-cycle states (R496). -/
def State.lc (s : State) : Nat := s.sec.state
def State.deployed (s : State) : Bool := s.sec.state == 3

/-! Fault sources. -/

/-- The class of source `n` of page `p` (FLT_CLASS0, FLT_CLASS1). -/
def State.classOf (s : State) (p n : Nat) : Nat :=
  let f := if n < 8 then F.FLT_CLASS0.pg p else F.FLT_CLASS1.pg p
  s.rd f / 2 ^ (3 * (n % 8)) % 8

/-- Whether a source's line is broken (R441). -/
def State.broken (s : State) (p n : Nat) : Bool := s.flt.broken.contains (16 * p + n)

/-- A rising edge of a source (R26, R33, R442): LATCH, EVT_COUNT, and on to the collector unless it is masked. -/
def State.edge (s : State) (p n : Nat) : State :=
  let s1 := (s.wr (F.FLT_LATCH.pg p) (Nat.lor (s.rd (F.FLT_LATCH.pg p)) (2 ^ n))).bump (F.EVT_COUNT.pg p)
  if bitOf (s.rd (F.FLT_MASK.pg p)) n then s1
  else { s1 with flt := { s1.flt with edges := s1.flt.edges ++ [(p, n)] } }

/-- The RAW bit of a source. -/
def State.raw (s : State) (p n : Nat) : Bool := bitOf (s.rd (F.FLT_RAW.pg p)) n

/-- A source driven to a level: an edge where it rises; while its line is broken it stays active, and while its block
is idle it stays inactive (R30, R441). -/
def State.source (s : State) (p n : Nat) (v : Bool) : State :=
  let lv := (v && s.enabled p) || s.broken p n
  let s1 := s.wr (F.FLT_RAW.pg p) (putBit (s.rd (F.FLT_RAW.pg p)) n lv)
  if lv && !(s.raw p n) then s1.edge p n else s1

/-- A block becomes idle: EN = 0, its sources inactive but for broken lines (R30). -/
def State.idle (s : State) (p : Nat) : State :=
  let s1 := s.wr (F.PAGE_CTRL_EN.pg (homePage p)) 0
  s1.wr (F.FLT_RAW.pg p) (maskOf (fun n => s.broken p n) 16)

/-- A momentary source: active for one clock (log entry 10). -/
def State.pulse (s : State) (p n : Nat) : State :=
  if s.raw p n then s else (s.source p n true).source p n false

/-! The event log and the event rings. -/

/-- Whether a record stages at once, replaces, or is lost when the 64 places are held (R493). -/
def stage (l : List LogRec) (r : LogRec) : Option (List LogRec) :=
  if l.length < 64 then some (l ++ [r])
  else if 2 ≤ r.cls then
    match l.reverse.findIdx? fun x => decide (x.cls < 2) with
    | some i => some ((l.reverse.eraseIdx i).reverse ++ [r])
    | none => none
  else none

/-- The ring an event goes to (R44, R46, EVT_ROUTE, R491). -/
def State.routeOf (s : State) (r : LogRec) : Nat :=
  let e := s.rd F.EVT_ROUTE
  16 + (if r.typ = 2 then e / 256 % 16 else if r.typ = 3 then e / 4096 % 16 else if r.cls ≤ 1 then e % 16 else e / 16 % 16)

/-- An event queued for its ring; beyond 256 it is dropped (R44). DESIGN CHOICE (log entry 52): the 256 are counted per ring, and the newest event is
the one dropped. -/
def State.queueEvent (s : State) (r : LogRec) : State :=
  let ring := s.routeOf r
  let q := Sparse.get [] s.host.events ring
  if q.length < 256 then { s with host := { s.host with events := Sparse.set [] s.host.events ring (q ++ [r]) } }
  else (s.bumpSat (F.RING_STAT_DROP.ring ring)).pulse 0x08 0

/-- The staged count, the newest SEQ, and the oldest that LOG_READ serves (LOG_HEAD, LOG_OLDEST, LOG_STAT.STAGED). -/
def State.showLog (s : State) : State :=
  let oldest := match s.log.stored.getLast?, s.log.staged.head? with
    | some r, _ => r.seq
    | none, some r => r.seq
    | none, none => s.rd F.LOG_OLDEST
  s.wrAll [(F.LOG_HEAD, s.log.next - 1), (F.LOG_OLDEST, oldest), (F.LOG_STAT_STAGED, s.log.staged.length)]

/-- A record staged under the next SEQ, or dropped, counted and raised as LOG_LOSS (R493). -/
def State.stageRec (s : State) (r : LogRec) : State :=
  match stage s.log.staged r with
  | some l => ({ s with log := { s.log with staged := l, next := s.log.next + 1 } }).showLog
  | none =>
    let s1 := { s with log := { s.log with lost := s.log.lost + 1 } }
    (s1.bump F.LOG_DROP).pulse 0x9A 0

/-- An event: a log record, after a loss record where one is due, and its copy for the event ring (R442, R491, R493). -/
def State.record (s : State) (typ cls page src : Nat) (payload : List Byte) : State :=
  let s0 :=
    if s.log.lost ≠ 0 ∧ s.log.staged.length < 63 then
      let lost := s.log.lost
      let s1 := { s with log := { s.log with lost := 0 } }
      s1.stageRec ⟨4, 1, 0xFF, 0, s1.log.next, s.tick, [4#8, 0, 0, 0] ++ leBytes 4 lost⟩
    else s
  let r : LogRec := ⟨typ, cls, page, src, s0.log.next, s0.tick, payload⟩
  (s0.stageRec r).queueEvent r

/-! Interrupts. -/

/-- The PBA word and bit of a vector (page 0x09, offset 0x800), and its mask. -/
def pbaAddr (v : Nat) : Nat := 0x09800 + 4 * (v / 32)
def State.vecMasked (s : State) (v : Nat) : Bool := bitOf (s.reg (0x0940C + 16 * v)).toNat 0

/-- A vector sent (R34); pending while it is masked; towards an SPI host it pends and pulls HOST_IRQ_N low (R41). -/
def State.sendVec (s : State) (v : Nat) : State :=
  let v := v % 64
  let pend := s.setReg (pbaAddr v) (s.reg (pbaAddr v) ||| (1#32 <<< (v % 32)))
  if s.on F.HOST_CTRL_RING_OWNER then (if s.vecMasked v then pend else pend.put .irqN)
  else if s.vecMasked v then pend else s.put (.msix v)

/-- HOST_IRQ_N is low (R41). -/
def State.irqLow (s : State) : Bool :=
  s.on F.HOST_CTRL_RING_OWNER && (List.range 64).any fun v => bitOf (s.reg (pbaAddr v)).toNat (v % 32) && !s.vecMasked v

/-- A completion on a ring counted toward its vector (RING_IRQ). -/
def State.countIrq (s : State) (ring : Nat) (irq : Bool) : State :=
  if ¬ irq then s
  else
    let n := Sparse.get 0 s.host.unsignalled ring + 1
    let cnt := s.rd (F.RING_IRQ_COUNT.ring ring)
    let now := decide (s.rd (F.RING_IRQ_TIME_US.ring ring) = 0) || (decide (cnt ≠ 0) && decide (cnt ≤ n))
    let set (k : Nat) : State := { s with host := { s.host with unsignalled := Sparse.set 0 s.host.unsignalled ring k } }
    if now then (set 0).sendVec (s.rd (F.RING_IRQ_VEC.ring ring)) else set n

/-! Status codes (R51, R52). -/
namespace St

def ok : Nat := 0x00
def badOpcode : Nat := 0x01
def badRing : Nat := 0x02
def badLen : Nat := 0x03
def badArg : Nat := 0x04
def dmaErr : Nat := 0x05
def authRequired : Nat := 0x06
def authFail : Nat := 0x07
def replay : Nat := 0x08
def role : Nat := 0x09
def state : Nat := 0x0A
def standby : Nat := 0x0B
def busy : Nat := 0x0C
def paramRange : Nat := 0x20
def paramActive : Nat := 0x21
def paramLs : Nat := 0x22
def planFormat : Nat := 0x23
def planSig : Nat := 0x24
def noPlan : Nat := 0x25
def devTick : Nat := 0x26
def devPending : Nat := 0x27
def fixFlash : Nat := 0x28
def clipSpace : Nat := 0x29
def clipNone : Nat := 0x2A
def clipBusy : Nat := 0x2B
def pairLink : Nat := 0x2D
def pairPlan : Nat := 0x2E
def pairAlone : Nat := 0x2F
def logRange : Nat := 0x32
def sheetRate : Nat := 0x33
def sheetSize : Nat := 0x34
def updSig : Nat := 0x35
def updSeq : Nat := 0x36
def updSize : Nat := 0x37
def lcStep : Nat := 0x38

end St

/-! Rings. -/

/-- Descriptors announced on a ring and not consumed. -/
def State.queueOf (s : State) (ring : Nat) : List Desc := Sparse.get [] s.host.queue ring
def State.setQueue (s : State) (ring : Nat) (q : List Desc) : State :=
  { s with host := { s.host with queue := Sparse.set [] s.host.queue ring q } }

/-- A ring's size (RING_CTRL.LOG2_SIZE). -/
def State.ringSize (s : State) (ring : Nat) : Nat := 2 ^ s.rd (F.RING_CTRL_LOG2_SIZE.ring ring)

/-- Whether a ring exists under RING_OWNER (R41). -/
def State.ringExists (s : State) (ring : Nat) : Bool :=
  !s.on F.HOST_CTRL_RING_OWNER || ring == 0 || ring == 1 || ring == 16 || ring == 17 || ring == 32

/-- Whether a ring runs: enabled, existing, not stopped (R41, R45). -/
def State.ringRuns (s : State) (ring : Nat) : Bool :=
  s.on (F.RING_CTRL_EN.ring ring) && !s.on (F.RING_STAT_STOPPED.ring ring) && s.ringExists ring

/-- The ring's head moved past one descriptor. -/
def State.consume (s : State) (ring : Nat) : State :=
  (s.setQueue ring (s.queueOf ring).tail).wr (F.RING_HEAD.ring ring)
    ((s.rd (F.RING_HEAD.ring ring) + 1) % s.ringSize ring)

/-- The next posted descriptor of a running ring. -/
def State.posted (s : State) (ring : Nat) : Option Desc := if s.ringRuns ring then (s.queueOf ring).head? else none

/-! Buffers and descriptors of an SPI host stand in the device's own ring memory (R41). -/

/-- Bytes written to the ring memory. -/
def State.spiPut (s : State) (a : Nat) (b : List Byte) : State :=
  { s with host := { s.host with spi := memBytes (fun _ => 0) s.host.spi a b } }

/-- Bytes written to the host's memory. -/
def State.dmaOut (s : State) (a : Nat) (b : List Byte) : State :=
  if s.on F.HOST_CTRL_RING_OWNER then s.spiPut a b else s.put (.dma a b)

/-- A descriptor as the device writes it back (R46). -/
def doneBytes (d : Desc) (op role tag len arg0 arg1 seq : Nat) : List Byte :=
  leBytes 2 op ++ [d.flags ||| 0x80#8, BitVec.ofNat 8 role] ++ leBytes 4 tag ++ leBytes 8 d.bufAddr.toNat ++ leBytes 4 len ++
  leBytes 4 arg0 ++ leBytes 4 arg1 ++ leBytes 4 seq

/-- The posted descriptor at the head of a ring written back in place (R46), and what the host sees of it. -/
def State.writeBack (s : State) (ring : Nat) (b : List Byte) (seen : Out) : State :=
  if s.on F.HOST_CTRL_RING_OWNER then
    (s.spiPut (s.rd (F.RING_BASE_LO.ring ring) * 64 + 32 * s.rd (F.RING_HEAD.ring ring)) b).put seen
  else s.put seen

/-- A ring stopped by an access error (R45). -/
def State.ringStop (s : State) (ring : Nat) : State := (s.wr (F.RING_STAT_STOPPED.ring ring) 1).pulse 0x08 1

/-- Commands of a ring whose response is still to come (R54). -/
def State.outstanding (s : State) (ring : Nat) : Nat :=
  let one (t : Option Ticket) : Nat := match t with
    | some x => (x.ring == ring).toNat
    | none => 0
  one (s.scn.arming.bind fun d => d.ticket) + one s.scn.fixTicket + one s.pair.join + one s.pair.yieldTicket + one s.sl.storing +
    one (s.sec.adv.map fun x => x.1) + one (s.host.clipWait.map fun x => x.1) + (s.pair.acks.filter fun x => x.2.ring == ring).length

/-- Whether response ring 16 + n has a descriptor for one more command (R44): one stays for each response to come. -/
def State.hasRoom (s : State) (ring : Nat) : Bool :=
  s.ringRuns (16 + ring) && decide (s.outstanding ring < (s.queueOf (16 + ring)).length)

/-- RING_STAT.BLOCKED of a command ring (R44). -/
def State.showBlocked (s : State) (ring : Nat) : State :=
  if ring < 16 then s.wrb (F.RING_STAT_BLOCKED.ring ring) (s.ringRuns ring && s.queueOf ring != [] && !s.hasRoom ring) else s

/-- BLOCKED after a change of ring `ring`: of a command ring its own, of a response ring that of its command ring. -/
def State.showRing (s : State) (ring : Nat) : State := s.showBlocked (if ring < 16 then ring else ring - 16)

/-- A posted descriptor written back and consumed (R36, R46); where it cannot be written the ring stops (R45). -/
def State.finishPosted (s : State) (ring : Nat) (d : Desc) (op role tag len arg0 seq : Nat) : State :=
  if ¬ d.dest then (s.ringStop ring).showRing ring
  else
    let b := doneBytes d op role tag len arg0 0 seq
    (((s.writeBack ring b (.done ring b)).consume ring).countIrq ring d.irq).showRing ring

/-- A posted descriptor whose buffer is unreachable: it alone fails, with DMA_ERR (R41, R45). -/
def State.failPosted (s : State) (ring : Nat) (d : Desc) : State :=
  s.finishPosted ring d d.op.toNat d.role.toNat d.tag.toNat 0 St.dmaErr d.seq.toNat

/-- A buffer's bytes, where the SPI host's buffers stand in the ring memory. -/
def State.fillPosted (s : State) (d : Desc) (b : List Byte) : State :=
  if s.on F.HOST_CTRL_RING_OWNER then s.spiPut d.bufAddr.toNat b else s

/-- A response written to ring 16 + n (R36, R46): the posted descriptor is consumed and counted; where it cannot be written the ring stops
(R45). On a ring that has been reset the response is discarded (R35). DESIGN CHOICE (log entry 52): so is the response of a command whose response
ring the host has disabled since; and the IRQ flag that counts is that of the command's descriptor, not that of the posted one. -/
def State.respond (s : State) (t : Ticket) (status detail result len : Nat) : State :=
  let ring := 16 + t.ring
  match s.posted ring with
  | none => s
  | some d =>
    if ¬ d.dest then s.ringStop ring
    else
      let s1 := s.writeBack ring (doneBytes d t.op t.ring t.tag len (status % 65536 + 65536 * detail) result t.seq)
        (.response ring t.op t.ring t.tag t.seq status detail result len)
      (s1.consume ring).countIrq ring t.irq

/-- What a dispatched command does: the state after it and, where it completes at once, STATUS, DETAIL, RESULT, LEN. -/
structure CmdRes where
  st : State
  reply : Option (Nat × Nat × Nat × Nat)

/-- A command that completes at once with a status; with all four fields; and one that completes later (R54). -/
def State.fin (s : State) (status : Nat) : CmdRes := ⟨s, some (status, 0, 0, 0)⟩
def State.finWith (s : State) (status detail result len : Nat) : CmdRes := ⟨s, some (status, detail, result, len)⟩
def State.later (s : State) : CmdRes := ⟨s, none⟩

/-- A run of a list of updates. -/
def State.each {α : Type} (s : State) (l : List α) (f : State → α → State) : State := l.foldl f s

end Sys2Proof.Machine
end

