-- ==== Sys2Proof/Machine/Objects.lean ====
section
/-!
DEFINITION. The built-in processing objects, sample by sample (R86 to R108, R114 to R117, R544), their field ranges and
Dissolve classes (R93), defaults (R93) and state words (R104).
-/
namespace Sys2Proof.Machine

/-! Fields. -/

/-- The word at record offset `o` (0x10 to 0x3C), and as a signed number. -/
def Params.w (p : Params) (o : Nat) : Word := p.par.getD ((o - 0x10) / 4) 0
def Params.q (p : Params) (o : Nat) : Int := (p.w o).toInt
def Params.n (p : Params) (o : Nat) : Nat := (p.w o).toNat
def Params.setW (p : Params) (o : Nat) (w : Word) : Params := { p with par := p.par.set ((o - 0x10) / 4) w }

/-- Dissolve classes (R92, R93); `own` is the pilot generator's FREQ (R101). -/
inductive FieldClass where
  | ramp | par | tap | mode | step | own
deriving DecidableEq, Repr

/-- The class of a record field of a type (R93). -/
def fieldClass (typ o : Nat) : FieldClass :=
  match typ with
  | 0x01 => .ramp
  | 0x04 => if o ≤ 0x1C then .ramp else if o = 0x2C then .mode else .step
  | 0x05 => if o ≤ 0x1C then .ramp else if o = 0x28 then .mode else .step
  | 0x07 | 0x08 => .tap
  | 0x0A => if o = 0x10 then .own else .ramp
  | 0x0D => if o = 0x18 then .ramp else .step
  | 0x0E => if o = 0x10 then .ramp else if o = 0x14 then .mode else .step
  | _ => .step

/-- One dB, and a signed decimal of tenths, in Q8.24. -/
def dB : Int := 2 ^ 24

/-- The signed range of a record field (R93): lowest and highest value; none for a field of whole-word range. -/
def fieldRange (typ o size : Nat) : Option (Int × Int) :=
  match typ, o with
  | 0x04, 0x10 => some (-120 * dB, 0) | 0x04, 0x14 => some (0, 12 * dB) | 0x04, 0x18 => some (-120 * dB, 0)
  | 0x04, 0x1C => some (dB, 64 * dB) | 0x04, 0x20 => some (10, 100000) | 0x04, 0x24 => some (0, 10000)
  | 0x04, 0x28 => some (1, 10000)
  | 0x05, 0x10 => some (-60 * dB, 0) | 0x05, 0x18 => some (0, 24 * dB) | 0x05, 0x1C => some (0, 24 * dB)
  | 0x05, 0x20 => some (10, 100000) | 0x05, 0x24 => some (1, 10000)
  | 0x06, 0x10 => some (0, 1023) | 0x06, 0x14 => some (-120 * dB, 0) | 0x06, 0x18 => some (0, 2 * dB)
  | 0x06, 0x1C => some (0, 18 * dB) | 0x06, 0x20 => some (-24 * dB, 0) | 0x06, 0x24 => some (1677722, 20 * dB)
  | 0x06, 0x28 => some (1677722, 20 * dB) | 0x06, 0x2C => some (1, 600)
  | 0x07, 0x10 | 0x07, 0x14 | 0x07, 0x18 | 0x07, 0x1C => some (0, size)
  | 0x08, 0x10 | 0x08, 0x14 | 0x08, 0x18 | 0x08, 0x1C => some (0, 16 * size)
  | 0x09, 0x14 => some (1, 1000) | 0x09, 0x18 => some (dB, 60 * dB) | 0x09, 0x1C => some (-120 * dB, 0)
  | 0x0A, 0x14 => some (-40 * dB, -20 * dB)
  | 0x0B, 0x20 => some (10, 2000)
  | 0x0D, 0x10 => some (0, 1023) | 0x0D, 0x18 => some (-120 * dB, 0) | 0x0D, 0x1C => some (10, 100000)
  | 0x0D, 0x20 => some (1, 10000) | 0x0D, 0x24 => some (0, 10000)
  | 0x0E, 0x18 => some (1, 65535)
  | 0x0F, 0x10 => some (0, 60000)
  | _, _ => none

/-- Whether a field is an unsigned integer (a time, a count, an index), so that a large word lies above its range. -/
def fieldUnsigned (typ o : Nat) : Bool :=
  match typ with
  | 0x04 => o == 0x20 || o == 0x24 || o == 0x28
  | 0x05 => o == 0x20 || o == 0x24
  | 0x06 => o == 0x10 || o == 0x2C
  | 0x07 | 0x08 => true
  | 0x09 => o == 0x14
  | 0x0B => o == 0x20
  | 0x0D => o == 0x10 || o == 0x1C || o == 0x20 || o == 0x24
  | 0x0E => o == 0x18
  | 0x0F => o == 0x10
  | _ => false

/-- A field's value as an object uses it (R87), and whether it was clamped. RATIO of the compressor may be 0 (R93);
FALLBACK lies between MAX_CUT and MAX_BOOST. -/
def clampField (typ size : Nat) (p : Params) (o : Nat) : Word × Bool :=
  let w := p.w o
  let v : Int := if fieldUnsigned typ o then w.toNat else w.toInt
  let r : Option (Int × Int) :=
    if typ = 0x05 ∧ o = 0x14 then (if w = 0 then none else some (dB, 64 * dB))
    else if typ = 0x06 ∧ o = 0x30 then some (max (-24 * dB) (min 0 (p.q 0x20)), max 0 (min (18 * dB) (p.q 0x1C)))
    else fieldRange typ o size
  match r with
  | none => (w, false)
  | some (lo, hi) => (BitVec.ofInt 32 (max lo (min hi v)), decide (v < lo) || decide (hi < v))

/-- The offsets of a record's own fields. -/
def fieldOffsets : List Nat := (List.range 12).map fun i => 0x10 + 4 * i

/-- Whether FREQ lies in a permitted band (R93, R101): Q16.16 Hz. -/
def freqOk (w fs : Nat) : Bool :=
  (decide (12 * 65536 ≤ w) && decide (w ≤ 18 * 65536)) ||
  (decide (19500 * 65536 ≤ w) && decide (w ≤ 23000 * 65536) && decide (48000 ≤ fs))

/-- The words of a record as its object uses them, and CLAMPED (R87, R101). -/
def clampParams (i : InstRec) (fs : Nat) (p : Params) : Params × Bool :=
  if i.typ = 0x80 then (p, false)
  else
    let c := fieldOffsets.map fun o => clampField i.typ i.size p o
    let bad := i.typ == 0x0A && p.w 0x10 != 0 && !freqOk (p.n 0x10) fs
    ({ p with par := c.map (·.1) }, (c.any (·.2)) || bad)

/-- The defaults of R93: record words 0x10 to 0x3C. -/
def defaultPar (typ : Nat) : List Word :=
  let q (x : Int) : Word := BitVec.ofInt 32 (x * dB)
  let l : List Word := match typ with
    | 0x01 => [0x10000000, 0x10000000, 0x10000000, 0x10000000]
    | 0x04 => [q (-60), q 3, q (-80), q 64, 500, 50, 200, 0]
    | 0x05 => [q (-20), q 4, q 6, 0, 5000, 100, 0]
    | 0x06 => [0, q (-50), 0x00800000, q 9, q (-6), q 1, q 3, 30, 0]
    | 0x09 => [0x7FFFFFFF, 10, q 12, q (-90)]
    | 0x0A => [0, q (-30), 0]
    | 0x0B => [0xFFFF, 0, 0, 0, 500]
    | 0x0D => [0, 15, q (-20), 10000, 500, 1000]
    | 0x0E => [0x10000000, 0xE4, 64]
    | 0x0F => [2000, 1]
    | _ => []
  l ++ List.replicate (12 - l.length) 0

/-- The default coefficient array of R93, in words. -/
def defaultCoef (typ size : Nat) : List Word :=
  match typ with
  | 0x02 => (List.range 20).map fun i => if i % 5 = 0 then 0x10000000 else 0
  | 0x03 => (List.range 40).map fun i => if i % 5 = 0 then 0x10000000 else 0
  | 0x0C => (List.range size).map fun i => if i = 0 then 0x10000000 else 0
  | _ => []

/-- An object at rest. -/
def ObjState.rest : ObjState :=
  { x := [[], [], [], []], y := [[], [], [], []], g := [0, 0, 0, 0], lev := [0, 0, 0, 0], hold := [0, 0, 0, 0],
    flag := [false, false, false, false], sum := [], need := [[], [], [], []], n := 0, seq := 0 }

/-! What an object sees beside its input. -/

/-- The surroundings of an instance in one frame. -/
structure ObjEnv where
  fs : Nat
  f : Nat
  /-- Frame number, whose first sample has number frame × F (R100). -/
  frame : Nat
  /-- The ducker's key (R141), and whether its strip is that of a life-safety bus. -/
  keyed : Bool
  lifeSafe : Bool
  /-- The ambient estimate it reads (R107): level and tick. -/
  amb : Option (Int × Nat)
  /-- The phase step of the correlator's generator, if there is one (R102). -/
  genStep : Option Nat
  /-- Whether that generator's LEVEL, EN or FREQ ramps (R243). -/
  genRamp : Bool
  /-- The probe a pilot generator adds, per sample and lane, Q1.31 (R256). -/
  probe : List (List Int)
  /-- Lanes concealed, per sample (R102). -/
  conceal : List Nat
  /-- Delay taps that failed ECC or came late: 4 × sample + lane (R99). -/
  bad : List Nat
  /-- Clip samples per sample and lane: new clip and fading old clip with its weight in 32nds (R116), weight of a STOP. -/
  clip : List (Quad × Quad × Nat × Nat × Nat)
deriving DecidableEq, Repr

/-- Fields as they stand at one sample: record words, and per-lane gains of mute or pilot enable in Q4.28. -/
structure Eff where
  p : Params
  aux : List Int
deriving DecidableEq, Repr

/-- Magnitude, −1.0 taken as 0x7FFF_FFFF (R106). -/
def mag (w : Word) : Nat := min w.toInt.natAbs 0x7FFFFFFF

/-- A sample times a Q4.28 gain, rounded half up and saturated (R86). -/
def gain28 (g : Int) (x : Word) : Word := satWord (roundShift (g * x.toInt) 28)

/-- Lane `l` of a list. -/
def lane {α : Type} (d : α) (l : List α) (i : Fin 4) : α := l.getD i.val d

/-- Four lanes as a list. -/
def lanesL {α : Type} (f : Fin 4 → α) : List α := [f 0, f 1, f 2, f 3]

/-- A 72-bit accumulation of Q1.31 × Q4.28 products in order (R94, R202, R203). -/
def macs : Int → List (Int × Int) → Int
  | a, [] => a
  | a, (x, h) :: t => macs (sat72 (a + 2 * x * h)).toInt t

/-- The accumulator stored with SH = 3 (R204). -/
def store3 (a : Int) : Word := satWord (convert a 3)

/-- One direct-form-I section (R94): coefficients b0 b1 b2 a1 a2, input and its history, output history. -/
def section_ (c : List Word) (x x1 x2 y1 y2 : Word) : Word :=
  let k (i : Nat) : Int := (c.getD i 0).toInt
  store3 (macs 0 [(x.toInt, k 0), (x1.toInt, k 1), (x2.toInt, k 2), (y1.toInt, -(k 3)), (y2.toInt, -(k 4))])

/-- The level of a lane in dBFS (R4, R95). -/
def detect (rms : Bool) (x : Word) (ms : Nat) : Int := if rms then rmsLevel ms else peakLevel x.toInt.natAbs

/-- The largest of four levels. -/
def maxLevel (l : List Int) : Int := l.foldl max silence

/-- Samples of a time in ms or µs. -/
def samplesMs (ms fs : Nat) : Nat := ms * fs / 1000

/-- A history with a new sample in front, at most `n` long. -/
def pushHist (n : Nat) (x : Word) (l : List Word) : List Word := (x :: l).take n

/-- The gate's gain law (R96) for one lane: level, whether it was open, hold left; gives static gain, open, hold left. -/
def gateStatic (p : Params) (fs : Nat) (lv : Int) (open_ : Bool) (hold : Nat) : Int × Bool × Nat :=
  let t := p.q 0x10
  let h := samplesMs (p.n 0x24) fs
  let shut : Int := max (p.q 0x18) (roundShift ((p.q 0x1C - dB) * (lv - t)) 24)
  if t ≤ lv then (0, true, h)
  else if open_ ∧ t - p.q 0x14 ≤ lv then (0, true, h)
  else if open_ ∧ 0 < hold then (0, true, hold - 1)
  else (shut, false, 0)

/-- A limiter's gain with look-ahead `n` (R98): the present gain, the release value, needed gains newest first. -/
def limiterGain (n : Nat) (g rel : Int) (need : List Int) : Int :=
  (indexed (need.take (n + 1))).foldl (fun a p =>
    min a (if n ≤ p.1 then p.2 else if p.2 < g then g + quot (p.2 - g) (n - p.1) else a)) rel

/-- A limiter's output sample (R98): no further from zero than THRESH + MAKEUP, give or take one unit. -/
def limitTo (g : Int) (w : Word) : Word :=
  let b := tenTo 31 g + 1
  satWord (max (-b) (min b w.toInt))

/-- The output of a lane delayed by `n` samples: the present sample for 0. -/
def delayed (x : Word) (h : List Word) (n : Nat) : Word := if n = 0 then x else h.getD (n - 1) 0

/-- One sample of an object (R94 to R108): input, sample index; its output and its state after it. -/
def objSample (i : InstRec) (v : ObjEnv) (e : Eff) (k : Nat) (x : Quad) (s : ObjState) : Quad × ObjState :=
  let p := e.p
  match i.typ with
  | 0x01 => (lanes fun l => gain28 (roundShift (p.q (0x10 + 4 * l.val) * lane 0x10000000 e.aux l) 28) x[l], s)
  | 0x02 =>
    let y : Quad := lanes fun l =>
      let h := lane [] s.x l; let o := lane [] s.y l
      section_ ((p.coef.drop (5 * l.val)).take 5) x[l] (h.getD 0 0) (h.getD 1 0) (o.getD 0 0) (o.getD 1 0)
    (y, { s with x := lanesL fun l => pushHist 2 x[l] (lane [] s.x l), y := lanesL fun l => pushHist 2 y[l] (lane [] s.y l) })
  | 0x03 =>
    let a : Quad := lanes fun l =>
      let h := lane [] s.x l; let o := lane [] s.y l
      section_ ((p.coef.drop (10 * l.val)).take 5) x[l] (h.getD 0 0) (h.getD 1 0) (o.getD 0 0) (o.getD 1 0)
    let b : Quad := lanes fun l =>
      let o := lane [] s.y l
      section_ ((p.coef.drop (10 * l.val + 5)).take 5) a[l] (o.getD 0 0) (o.getD 1 0) (o.getD 2 0) (o.getD 3 0)
    (b, { s with x := lanesL fun l => pushHist 2 x[l] (lane [] s.x l),
                 y := lanesL fun l => let o := lane [] s.y l; [a[l], o.getD 0 0, b[l], o.getD 2 0] })
  | 0x04 =>
    let lv := lanesL fun l => detect false x[l] 0
    let lv := if bitOf (p.n 0x2C) 0 then List.replicate 4 (maxLevel lv) else lv
    let st := lanesL fun l => gateStatic p v.fs (lane 0 lv l) (lane false s.flag l) (lane 0 s.hold l)
    let g := lanesL fun l =>
      let gs := (lane (0, false, 0) st l).1; let g0 := lane 0 s.g l
      smooth g0 gs (if gs < g0 then p.n 0x20 else 1000 * p.n 0x28) v.fs
    (lanes fun l => gain28 (dbToLin (lane 0 g l)) (delayed x[l] (lane [] s.x l) i.lookahead),
     { s with x := lanesL fun l => pushHist i.lookahead x[l] (lane [] s.x l), g := g,
              flag := st.map fun t => t.2.1, hold := st.map fun t => t.2.2 })
  | 0x05 =>
    let rms := bitOf (p.n 0x28) 0
    let ms := lanesL fun l => meanSquare (lane 0 s.lev l) x[l].toInt v.fs
    let lv := lanesL fun l => detect rms x[l] (lane 0 ms l)
    let lv := if bitOf (p.n 0x28) 1 then List.replicate 4 (maxLevel lv) else lv
    let gs := lanesL fun l => compGain (lane 0 lv l) (p.q 0x10) (p.q 0x18) (p.q 0x14) + p.q 0x1C
    let need := lanesL fun l => (lane 0 gs l :: lane [] s.need l).take (i.lookahead + 1)
    let g := lanesL fun l =>
      let t := lane 0 gs l; let g0 := lane 0 s.g l
      if p.w 0x14 = 0 ∧ ¬ rms then
        limiterGain i.lookahead g0 (if t < g0 then g0 else smooth g0 t (1000 * p.n 0x24) v.fs) (lane [] need l)
      else smooth g0 t (if t < g0 then p.n 0x20 else 1000 * p.n 0x24) v.fs
    (lanes fun l =>
       let y := gain28 (dbToLin (lane 0 g l)) (delayed x[l] (lane [] s.x l) i.lookahead)
       if p.w 0x14 = 0 ∧ ¬ rms then limitTo (p.q 0x10 + p.q 0x1C) y else y,
     { s with x := lanesL fun l => pushHist i.lookahead x[l] (lane [] s.x l), g := g, lev := ms, need := need })
  | 0x06 =>
    let stale := match v.amb with
      | some (_, t) => decide (p.n 0x2C * v.fs < (v.frame - t) * v.f)
      | none => true
    let a := match v.amb with
      | some (a, _) => a
      | none => 0
    let t := if stale then p.q 0x30
      else max (p.q 0x20) (min (p.q 0x1C) (roundShift (p.q 0x18 * (a - p.q 0x14)) 24))
    -- the gain in units of 1/fs of a unit of Q8.24: the remainder carries on, so that RISE and FALL hold over any time
    let c0 : Int := s.g.getD 0 0 * v.fs + s.hold.getD 0 0
    let c := if c0 < t * v.fs then min (t * v.fs) (c0 + p.q 0x24) else max (t * v.fs) (c0 - p.q 0x28)
    let g := c / v.fs
    (lanes fun l => gain28 (dbToLin g) x[l],
     { s with g := List.replicate 4 g, hold := [(c % v.fs).toNat, 0, 0, 0], flag := [stale, decide (p.q 0x1C ≤ t) && !stale, decide (t ≤ p.q 0x20) && !stale, false],
              sum := match v.amb with
                | some (a, t) => [a, t]
                | none => [] })
  | 0x07 | 0x08 =>
    let cap := if i.typ = 0x07 then i.size else 16 * i.size
    let y : Quad := lanes fun l =>
      if v.bad.contains (4 * k + l.val) then lane 0 (s.sum.map (BitVec.ofInt 32)) l
      else delayed x[l] (lane [] s.x l) (p.n (0x10 + 4 * l.val))
    (y, { s with x := lanesL fun l => pushHist cap x[l] (lane [] s.x l),
                 sum := lanesL fun l => if v.bad.contains (4 * k + l.val) then lane 0 s.sum l else (y[l]).toInt })
  | 0x09 =>
    let first := k == 0
    (x, { s with lev := lanesL fun l => max (mag x[l]) (if first then 0 else lane 0 s.lev l),
                 sum := lanesL fun l => x[l].toInt * x[l].toInt + (if first then 0 else lane 0 s.sum l) })
  | 0x0A =>
    let w : Nat := (roundDiv ((p.n 0x10 : Int) * 65536) v.fs).toNat
    let th := (v.frame * v.f + k) * w % 2 ^ 32
    let a := dbToLin (p.q 0x14)
    let on := p.w 0x10 != 0 && freqOk (p.n 0x10) v.fs
    let pil (l : Fin 4) : Int := roundShift (roundShift (a * sine th) 28 * lane 0 e.aux l) 28
    let pr (l : Fin 4) : Int := lane 0 (v.probe.getD k []) l
    (lanes fun l => satWord (x[l].toInt + (if on then pil l else 0) + pr l), s)
  | 0x0B =>
    match v.genStep with
    | none => (x, s)
    | some w =>
      let th := (v.frame * v.f + k) * w % 2 ^ 32
      let use (l : Fin 4) : Bool := p.n 0x14 / 4 ^ l.val % 4 != 0 && !bitOf (v.conceal.getD k 0) l.val
      let acc (n : Nat) (t : Int) (l : Fin 4) : Int :=
        let o := s.sum.getD (n + l.val) 0
        if use l then (sat72 (o + 2 * x[l].toInt * t)).toInt else o
      let sums := lanesL (acc 0 (cosine th)) ++ lanesL (acc 4 (sine th))
      let cnt := lanesL fun l => lane 0 s.hold l + (use l).toNat
      let ni := max 1 (roundDiv ((p.n 0x20 * v.fs : Nat) : Int) 1000).toNat
      let ramped := s.flag.getD 4 false || v.genRamp
      if (v.frame * v.f + k + 1) % ni = 0 then
        let res (n : Nat) (l : Fin 4) : Int :=
          if lane 0 cnt l = 0 then 0 else quot (sums.getD (n + l.val) 0) ((lane 0 cnt l : Nat) * 2 ^ 32)
        (x, { s with sum := List.replicate 8 0, hold := [0, 0, 0, 0], n := 0, seq := (s.seq + 1) % 2 ^ 32,
                     g := lanesL (res 0) ++ lanesL (res 4), lev := cnt,
                     flag := (lanesL fun l => decide (lane 0 cnt l ≠ 0)) ++ [false, ramped] })
      else (x, { s with sum := sums, hold := cnt, n := s.n + 1,
                        flag := s.flag.take 4 ++ [ramped, s.flag.getD 5 false] })
  | 0x0C =>
    let y : Quad := lanes fun l =>
      store3 (macs 0 (((x[l] :: lane [] s.x l).zip p.coef).map fun t => (t.1.toInt, t.2.toInt)))
    (y, { s with x := lanesL fun l => pushHist (i.size - 1) x[l] (lane [] s.x l) })
  | 0x0D =>
    let h0 := s.hold.getD 0 0
    let hold := if v.keyed then samplesMs (p.n 0x24) v.fs else h0 - 1
    let duck := v.keyed || decide (0 < h0)
    let gs := if duck then p.q 0x18 else 0
    let g0 := s.g.getD 0 0
    let g := smooth g0 gs (if gs < g0 then p.n 0x1C else 1000 * p.n 0x20) v.fs
    let zero := p.q 0x18 = -120 * dB ∧ g ≤ p.q 0x18
    (lanes fun l => if zero then 0 else gain28 (dbToLin g) x[l],
     { s with g := List.replicate 4 g, hold := [hold, 0, 0, 0], flag := [duck, decide zero, false, false] })
  | 0x0E =>
    match v.clip[k]? with
    | none => (lanes fun _ => 0, s)
    | some (a, b, wb, ws, ns) =>
      let sel (q : Quad) (l : Fin 4) : Word := q[p.n 0x14 / 4 ^ l.val % 4]'(Nat.mod_lt _ (by decide))
      -- a ramp acts on the output sample (R543): the old clip's own, and a STOP's on the sum
      let old (l : Fin 4) : Int := roundDiv ((gain28 (p.q 0x10) (sel b l)).toInt * wb) 32
      let y (l : Fin 4) : Word := satWord ((gain28 (p.q 0x10) (sel a l)).toInt + old l)
      (lanes fun l => if ns = 0 then y l else satWord (roundDiv ((y l).toInt * ws) ns), s)
  | _ => (x, s)

/-- What an object does at the end of a frame: the meter's ballistic level and holds (R106). -/
def objFrameEnd (i : InstRec) (v : ObjEnv) (p : Params) (s : ObjState) : ObjState :=
  if i.typ = 0x09 then
    { s with hold := lanesL fun l => max (lane 0 s.hold l) (lane 0 s.lev l),
             g := lanesL fun l => ballistic (lane 0 s.g l) (lane 0 s.lev l) (p.n 0x14) (p.q 0x18) v.f v.fs }
  else s

/-- Bits [23:0] of the state word (R104); the clip player's and the recorder's come from elsewhere. -/
def objWord (i : InstRec) (e : Eff) (v : ObjEnv) (s : ObjState) : Nat :=
  let m (f : Fin 4 → Bool) : Nat := laneMask f
  match i.typ with
  | 0x01 => m fun l => lane 0x10000000 e.aux l == 0
  | 0x04 => m fun l => lane false s.flag l
  | 0x05 => m fun l => decide (lane 0 s.g l ≤ -1677722)
  | 0x06 => (s.flag.getD 0 false).toNat + 2 * (s.flag.getD 1 false).toNat + 4 * (s.flag.getD 2 false).toNat
  | 0x09 => (m fun l => decide (e.p.n 0x10 ≤ lane 0 s.lev l)) + 16 * m fun l => decide (lane 0 s.g l < e.p.q 0x1C)
  | 0x0A => m fun l => decide (lane 0 e.aux l ≠ 0) && e.p.w 0x10 != 0 && freqOk (e.p.n 0x10) v.fs
  | 0x0B => m fun l => lane false s.flag l
  | 0x0D => (s.flag.getD 0 false).toNat + 2 * (s.flag.getD 1 false).toNat
  | _ => 0

/-- Gain reduction of a lane (R105), Q8.24. -/
def objReduction (i : InstRec) (s : ObjState) (l : Fin 4) : Int :=
  match i.typ with
  | 0x04 | 0x05 | 0x0D => max 0 (-(lane 0 s.g l))
  | 0x06 => -(lane 0 s.g l)
  | _ => 0

end Sys2Proof.Machine
end

