-- ==== Sys2Proof/Machine/Ramps.lean ====
section
/-!
DEFINITION. Ramps (R130, R168, R543), the start of a change of an instance by the Dissolve class of each field (R101,
R166 to R172, R233), one frame of a built-in instance (R83, R169 to R171), concealment (R110), hold-and-ramp (R78).
-/
namespace Sys2Proof.Machine

/-- E_k of R130: the end-of-tick value after `k` of `n` ticks. -/
def rampEnd (g0 g1 : Int) (k n : Nat) : Int := g0 + (2 * (g1 - g0) * k + n) / (2 * n)

/-- The value at sample `i` of tick `k` (1 to n) of a ramp (R130). -/
def rampAt (g0 g1 : Int) (k n f i : Nat) : Int :=
  let a := rampEnd g0 g1 (k - 1) n
  a + (2 * (rampEnd g0 g1 k n - a) * (i + 1) + f) / (2 * f)

/-- The ticks of a ramp of `l` samples (R130, R167). -/
def rampTicks (l f : Nat) : Nat := max 1 (ceilDiv l f)

/-- A sample at step `j` of an `n`-sample ramp to zero, or of a fade-in (R543). -/
def fallAt (x : Word) (j n : Nat) : Word := satWord (roundDiv (x.toInt * ((n : Int) - 1 - j)) n)
def riseAt (x : Word) (j n : Nat) : Word := satWord (roundDiv (x.toInt * (j + 1)) n)

/-- The gain in force at sample `i` of frame `m` for a node that ramps (R130, R131); its target once the ramp is over. -/
def NodeRamp.at_ (r : NodeRamp) (m f i : Nat) : Int :=
  if m < r.first then r.g0 else if r.first + r.n ≤ m then r.g1 else rampAt r.g0 r.g1 (m - r.first + 1) r.n f i

/-- The gain actually reached before frame `m` (R131). -/
def NodeRamp.reached (r : NodeRamp) (m : Nat) : Int :=
  if m ≤ r.first then r.g0 else if r.first + r.n ≤ m then r.g1 else rampEnd r.g0 r.g1 (m - r.first) r.n

/-! Keys of field ramps: record offsets; 0x100 + lane for mute or pilot enable; RATIO ramps in its inverse. -/

/-- RATIO's inverse in Q8.24, and back; 0 stands for an infinite ratio (R93, R167). -/
def invRatio (r : Int) : Int := if r = 0 then 0 else quot (2 ^ 48) r

/-- The integer a field ramps in (R168). -/
def rampKeyValue (typ o : Nat) (p : Params) : Int := if typ = 0x05 ∧ o = 0x14 then invRatio (p.q o) else p.q o

/-- Lane gains of MUTE (trim) or EN (pilot generator) in Q4.28 (R101, R544). -/
def auxOf (typ : Nat) (p : Params) : List Int :=
  (List.range 4).map fun l =>
    if typ = 0x01 then (if bitOf (p.n 0x20) l then 0 else 2 ^ 28)
    else if typ = 0x0A then (if bitOf (p.n 0x18) l then 2 ^ 28 else 0)
    else 2 ^ 28

/-- An instance's value of a ramp key before its next frame: that of a running ramp, else that of its words. -/
def Inst.reached (i : Inst) (key : Nat) : Int :=
  match i.ramps.find? (·.key == key) with
  | some r => rampEnd r.e0 r.target r.k r.n
  | none => if 0x100 ≤ key then (auxOf i.info.typ i.now).getD (key - 0x100) 0 else rampKeyValue i.info.typ key i.now

/-- The fields in force at sample `k` of an instance's frame (R130, R168, R101). -/
def Inst.effAt (i : Inst) (f k : Nat) : Eff :=
  let step (e : Eff) (r : FieldRamp) : Eff :=
    let v := rampAt r.e0 r.target (r.k + 1) r.n f k
    if 0x100 ≤ r.key then { e with aux := e.aux.set (r.key - 0x100) v }
    else if i.info.typ = 0x05 ∧ r.key = 0x14 then { e with p := e.p.setW r.key (BitVec.ofInt 32 (invRatio v)) }
    else { e with p := e.p.setW r.key (BitVec.ofInt 32 v) }
  let e := i.ramps.foldl step ⟨i.now, auxOf i.info.typ i.now⟩
  match i.glide with
  | none => e
  | some g =>
    let j : Int := g.j + k
    let num : Int := if g.falling then max 0 (4095 - j) else min 4096 (j + 1)
    { e with aux := e.aux.map fun a => roundDiv (a * num) 4096 }

/-! Starting a change. -/

/-- The record offsets whose words differ. -/
def diffs (a b : Params) : List Nat := fieldOffsets.filter fun o => a.w o != b.w o

/-- Whether a custom kernel's or an array's words differ. -/
def arrayDiff (a b : Params) : Bool := a.coef != b.coef

/-- Whether a change needs a reserve place (R76): a field of class Ramp, Parallel or Tap changes. `diss` is a custom
kernel's DISS class. -/
def needsPlace (i : InstRec) (diss : Nat) (a b : Params) : Bool :=
  if i.typ = 0x80 then diss == 0 && (arrayDiff a b || diffs a b != [])
  else arrayDiff a b || (diffs a b).any fun o => fieldClass i.typ o == .ramp || fieldClass i.typ o == .tap

/-- Whether anything changes at all (R167). -/
def anyDiff (a b : Params) : Bool := arrayDiff a b || diffs a b != [] || bitOf a.ctrl.toNat 0 != bitOf b.ctrl.toNat 0

/-- A Mode envelope begun or turned round (R171, R172). -/
def startEnv (e : Option Envelope) (next : Params) (whole : Bool) : Envelope :=
  match e with
  | none => ⟨32, true, next, whole⟩
  | some e => { e with falling := true, next := next, whole := e.whole || whole }

/-- The ramps of one Ramp field, from the value reached (R131, R168). -/
def fieldRamps (i : Inst) (n : Nat) (o : Nat) (next : Params) : List FieldRamp :=
  let virt := (i.info.typ == 0x01 && o == 0x20) || (i.info.typ == 0x0A && o == 0x18)
  if virt then
    (List.range 4).filterMap fun l =>
      let a := i.reached (0x100 + l); let b := (auxOf i.info.typ next).getD l 0
      if a = b then none else some ⟨0x100 + l, a, b, 0, n⟩
  else [⟨o, i.reached o, rampKeyValue i.info.typ o next, 0, n⟩]

/-- The Mode words taken over at e = 0 (R171): BYPASS and Mode fields, or every word. -/
def switchMode (i : InstRec) (now : Params) (e : Envelope) : Params :=
  if e.whole then e.next
  else
    let ctrl := e.next.ctrl
    (fieldOffsets.filter fun o => fieldClass i.typ o == .mode).foldl (fun p o => p.setW o (e.next.w o)) { now with ctrl := ctrl }

/-- Words with the tap fields and the array of others. -/
def withTaps (typ : Nat) (p q : Params) : Params :=
  { ((fieldOffsets.filter fun o => fieldClass typ o == .tap).foldl (fun p o => p.setW o (q.w o)) p) with coef := q.coef }

/-- The words that everything under way in an instance leads to (R172, R183): those of the waiting crossfade, of a Mode switch to come, of the
pilot's FREQ to come; a custom kernel's running crossfade leads to the words of its other copy. -/
def Inst.target (i : Inst) : Params :=
  let side := match i.chained, i.fade with
    | some (p, _), _ => p
    | none, some fd => if i.info.typ = 0x80 then fd.old else i.now
    | none, none => i.now
  let base := if i.info.typ = 0x80 then { side with ctrl := i.now.ctrl } else withTaps i.info.typ i.now side
  let mode := match i.env with
    | some e => if e.falling then switchMode i.info base e else base
    | none => base
  match i.glide with
  | some g => if g.falling then mode.setW 0x10 g.freq else mode
  | none => mode

/-- The pilot's way to a new FREQ (R101): down to zero, the switch, up again. DESIGN CHOICE (log entry 52): a change that comes on the way down
replaces the FREQ to come, and one that comes on the way up turns round at the level reached, as R172 has it for a Mode change. -/
def glideFor (g : Option PilotGlide) (freq : Word) : PilotGlide := match g with
  | none => ⟨true, 0, freq⟩
  | some g => if g.falling then { g with freq := freq } else ⟨true, 4096 - min 4096 g.j, freq⟩

/-- A committed change of an instance starts (R76, R101, R166 to R172, R233): the instance, and whether a change had to wait
for a running crossfade (SCN_CHAIN_CNT). `zero` is a plan admitted at 0 % (R76). -/
def Inst.startChange (i : Inst) (w : Waiting) (f fs diss : Nat) (zero : Bool) : Inst × Bool :=
  let c := clampParams i.info fs w.next
  let next := c.1
  let i0 := { i with waiting := none, clamped := c.2 }
  let n := rampTicks w.ld f
  let cur := i.target
  let bypass := bitOf cur.ctrl.toNat 0 != bitOf next.ctrl.toNat 0
  if ¬ anyDiff cur next then (i0, false)
  else if i.info.typ = 0x80 then
    let body := arrayDiff cur next || diffs cur next != []
    let env := if bypass then some (startEnv i.env next false) else i.env
    if (body ∧ (zero ∨ diss = 1)) ∨ (bypass ∧ ¬ body) then
      ({ i0 with env := some (startEnv i.env next body) }, false)
    else if diss = 2 then
      ({ i0 with now := { next with ctrl := i.now.ctrl }, side := 1 - i.side, env := env }, false)
    else if i.fade.isSome then ({ i0 with chained := some (next, n * f), dissolving := true, env := env }, true)
    else ({ i0 with fade := some ⟨next, i.st, 0, n * f⟩, dissolving := true, env := env }, false)
  else if zero then ({ i0 with env := some (startEnv i.env next true) }, false)
  else
    let ds := diffs cur next
    let cls (k : FieldClass) := ds.filter fun o => fieldClass i.info.typ o == k
    let modes := cls .mode
    let env := if modes != [] || bypass then some (startEnv i.env next false) else i.env
    let n1 := if i.info.typ = 0x0A then max 1 (ceilDiv 4096 f) else n
    let rs := (cls .ramp).flatMap fun o => fieldRamps i n1 o next
    let keys := rs.map (·.key)
    let ramps := (i.ramps.filter fun r => !keys.contains r.key) ++ rs
    let glide := if cls .own != [] then some (glideFor i.glide (next.w 0x10)) else i.glide
    let keepO := modes ++ cls .own ++ cls .tap
    let now0 := (ds.filter fun o => !keepO.contains o).foldl (fun p o => p.setW o (next.w o)) i.now
    let side := cls .tap != [] || arrayDiff cur next
    let now1 := withTaps i.info.typ now0 next
    let diss1 := i.dissolving || rs != [] || side
    let i1 := { i0 with ramps := ramps, env := env, glide := glide, dissolving := diss1 }
    if ¬ side then ({ i1 with now := now0 }, false)
    else if i.fade.isSome then ({ i1 with now := now0, chained := some (now1, n * f) }, true)
    else ({ i1 with now := now1, fade := some ⟨i.now, i.st, 0, n * f⟩ }, false)

/-- The chained crossfade starts with the previous target as its old side (R172). -/
def Inst.startChained (i : Inst) : Inst :=
  match i.chained with
  | none => i
  | some (p, n) =>
    if i.info.typ = 0x80 then { i with chained := none, fade := some ⟨p, i.st, 0, n⟩ }
    else { i with chained := none, now := withTaps i.info.typ i.now p, fade := some ⟨i.now, i.st, 0, n⟩ }

/-- An envelope stepped by one sample (R171): 32 e for this sample, the envelope after it, whether it switches first. -/
def Envelope.step (e : Envelope) : Nat × Option Envelope × Bool :=
  if e.falling then
    if e.e = 0 then (1, some { e with e := 1, falling := false }, true) else (e.e - 1, some { e with e := e.e - 1 }, false)
  else if 31 ≤ e.e then (32, none, false) else (e.e + 1, some { e with e := e.e + 1 }, false)

/-- The crossfade of R169 at sample `j` of `n`. -/
def crossfade (yo yn : Word) (j n : Nat) : Word :=
  let w : Int := (2 ^ 31 * (j + 1) / n : Nat)
  satWord (yo.toInt + roundShift (w * (yn.toInt - yo.toInt)) 31)

/-- One sample of a built-in instance with its transitions (R83, R169 to R171). -/
def Inst.sample (i : Inst) (v : ObjEnv) (k : Nat) (x : Quad) : Quad × Inst :=
  let sw := match i.env with
    | some e => (e.step).2.2
    | none => false
  let now := if sw then (match i.env with
    | some e => switchMode i.info i.now e
    | none => i.now) else i.now
  let i := { i with now := now }
  let e := i.effAt v.f k
  let r := objSample i.info v e k x i.st
  let fo := i.fade.map fun fd => (objSample i.info v ⟨fd.old, e.aux⟩ k x fd.oldSt, fd)
  let y := match fo with
    | some ((yo, _), fd) => lanes fun l => crossfade yo[l] r.1[l] fd.j fd.n
    | none => r.1
  let fade := fo.bind fun q => if q.2.n ≤ q.2.j + 1 then none else some { q.2 with oldSt := q.1.2, j := q.2.j + 1 }
  let y := if bitOf i.now.ctrl.toNat 0 then x else y
  let es := i.env.map Envelope.step
  let y := match es with
    | some (g, _, _) => lanes fun l => satWord (roundDiv (y[l].toInt * g) 32)
    | none => y
  (y, { i with st := r.2, fade := fade, env := es.bind fun t => t.2.1 })

/-- The samples of a frame through an instance, from sample `k` on. -/
def Inst.samples (v : ObjEnv) : Nat → Inst → List Quad → List Quad × Inst
  | _, i, [] => ([], i)
  | k, i, x :: t =>
    let r := i.sample v k x
    let q := Inst.samples v (k + 1) r.2 t
    (r.1 :: q.1, q.2)

/-- A pilot generator's own transition after a frame (R101). -/
def PilotGlide.next (g : PilotGlide) (f : Nat) : Option PilotGlide × Bool :=
  if g.j + f < 4096 then (some { g with j := g.j + f }, false)
  else if g.falling then (some { g with falling := false, j := 0 }, true)
  else (none, false)

/-- One frame of a built-in instance: its output group-samples and the instance after it. -/
def Inst.frame (i : Inst) (v : ObjEnv) (xs : List Quad) : List Quad × Inst :=
  let r := Inst.samples v 0 i xs
  let i1 := r.2
  let e := i1.effAt v.f (v.f - 1)
  let st := objFrameEnd i.info v i1.now i1.st
  let gl := i1.glide.map fun g => (g.next v.f, g.freq)
  let now := match gl with
    | some ((_, true), w) => i1.now.setW 0x10 w
    | _ => i1.now
  (r.1, { i1 with now := now, glide := gl.bind fun t => t.1.1, st := st, word := objWord i.info e v st,
                  ramps := (i1.ramps.map fun q => { q with k := q.k + 1 }).filter fun q => decide (q.k < q.n) })

/-- An instance at rest with given words: an ambient gain at FALLBACK (R108), a meter at the lowest level its format holds (log entry 5). -/
def Inst.fresh (info : InstRec) (cluster : Nat) (p : Params) (fs : Nat) : Inst :=
  let c := clampParams info fs p
  let g : Int := if info.typ = 0x06 then c.1.q 0x30 else if info.typ = 0x09 then -(2 ^ 31) else 0
  { info := info, cluster := cluster, now := c.1, st := { ObjState.rest with g := List.replicate 4 g }, clamped := c.2, ramps := [],
    fade := none, chained := none, env := none, waiting := none,
    glide := if info.typ = 0x0A then some ⟨false, 0, c.1.w 0x10⟩ else none, word := 0, placed := false, dissolving := false,
    side := 0, last := List.replicate 4 0, ovr := 0, stopped := false, fadeIn := 0, invalid := 0 }

/-! Concealment and substitutes. -/

/-- Concealment of one input sample (R109, R110): policy word, the channel's state, validity, sample. -/
def conceal (pol : Nat) (s : Conceal) (ok : Bool) (x : Word) : Word × Conceal :=
  let kind := pol % 4
  let fade (v : Word) (k : Nat) : Word := satWord (roundDiv (v.toInt * k) 32)
  if ok then
    let k := if kind = 0 ∨ kind = 2 then min (s.k + 1) 32 else s.k
    (if kind = 3 ∨ kind = 1 ∨ k = 32 then x else fade x k, ⟨x, k, 0⟩)
  else if kind = 3 then (x, { s with run := s.run + 1 })
  else if kind = 1 then (0, { s with run := s.run + 1 })
  else if kind = 2 ∧ s.run < pol / 256 % 256 then (s.v, { s with run := s.run + 1 })
  else (fade s.v (s.k - 1), { s with k := s.k - 1, run := s.run + 1 })

/-- A channel that has heard nothing (R110). -/
def Conceal.rest : Conceal := ⟨0, 32, 0⟩

/-- The substitute of R78: the last group-sample of the tick before, falling by 1/32 of it per sample, `done` samples of the
ramp already gone. -/
def holdRamp (last : List Word) (done f : Nat) : List Quad :=
  (List.range f).map fun i => lanes fun l => satWord (roundDiv ((lane 0 last l).toInt * ((32 - (done + i + 1) : Nat) : Int)) 32)

/-- The fade-in of R78 over a frame, `left` of its 32 samples to go. -/
def fadeInFrame (ys : List Quad) (left : Nat) : List Quad :=
  (indexed ys).map fun p => if p.1 < left then lanes fun l => riseAt (p.2)[l] (32 - left + p.1) 32 else p.2

end Sys2Proof.Machine
end

