-- ==== Sys2Proof/Machine/Strips.lean ====
section
/-!
DEFINITION. Instances and strips in a frame (R83, R84, R209, R210): views of the parameters in force, clusters' events,
custom kernels and their stops (R78, R188, R201, R211 to R213, R232, R233), clip playing (R116, R117), recording (R118).
-/
namespace Sys2Proof.Machine

/-! What the frame in process sees (R129). -/

def State.vreg (s : State) (a : Nat) : Word := Sparse.get (RegDir.reset a) s.eng.viewRegs a
def State.vrd (s : State) (f : Fld) : Nat := bitsOf (s.vreg f.addr).toNat f.hi f.lo
def State.vbyte (s : State) (o : Nat) : Byte := Sparse.get (winDefault o) s.eng.viewWin o
def State.vword (s : State) (o : Nat) : Word :=
  BitVec.ofNat 32 (leNat [s.vbyte o, s.vbyte (o + 1), s.vbyte (o + 2), s.vbyte (o + 3)])

/-- The running plan's F, fs, and the number of the frame in process. -/
def State.F (s : State) : Nat := 2 ^ s.rd F.TICK_CFG_LOG2_F
def State.fs (s : State) : Nat := rateHz (s.rd F.TICK_CFG_RATE)
def State.frame (s : State) : Nat := s.tick - 1

/-- A bit of an array of 32-bit registers. -/
def State.bitArr (s : State) (f : Fld) (n : Nat) : Bool := bitOf (s.reg (f.addr + 4 * (n / 32))).toNat (n % 32)
def State.vbitArr (s : State) (f : Fld) (n : Nat) : Bool := bitOf (s.vreg (f.addr + 4 * (n / 32))).toNat (n % 32)
def State.setBitArr (s : State) (f : Fld) (n : Nat) (b : Bool) : State :=
  let a := f.addr + 4 * (n / 32)
  s.setReg a (BitVec.ofNat 32 (putBit (s.reg a).toNat (n % 32) b))

/-- Updates to the engine. -/
def State.setEng (s : State) (e : EngSt) : State := { s with eng := e }
def State.setInst (s : State) (h : Nat) (i : Inst) : State := { s with eng := { s.eng with insts := s.eng.insts.set h i } }
def State.setCluster (s : State) (c : Fin 16) (k : Cluster) : State := { s with clusters := s.clusters.set c k }

/-- A cluster number as an index. -/
def fin16 (c : Nat) : Fin 16 := Fin.ofNat 16 c

/-! Clusters. -/

/-- What a cluster's event sets, counts and raises (R195, R196, R198, R201, R213, R216). -/
def State.clEvent (s : State) (c : Nat) (handle : Nat) : ClEvent → State
  | .circ => s.bump (F.CL_CIRC_CNT.pg c)
  | .window w => (s.wrAll [(F.CL_WIN_LAST_HANDLE.pg c, handle), (F.CL_WIN_LAST_WORD.pg c, w)]).pulse (0x10 + c) 0
  | .illegal => s.pulse (0x10 + c) 1
  | .sbe _ => (s.bumpSat (F.CL_DM_ECC_SBE.pg c)).pulse (0x10 + c) 4
  | .dbe a => ((s.bumpSat (F.CL_DM_ECC_DBE.pg c)).wr (F.CL_DM_ECC_ADDR.pg c) (a / 4)).pulse (0x10 + c) 2
  | .pmSbe => (s.bumpSat (F.CL_PM_ECC_SBE.pg c)).pulse (0x10 + c) 4
  | .pmDbe => (s.bumpSat (F.CL_PM_ECC_DBE.pg c)).pulse (0x10 + c) 3

/-- The handle of the kernel on a cluster, 0 where none runs. -/
def Cluster.handle (c : Cluster) : Nat := match c.run with
  | some k => k.handle
  | none => 0

/-- A kernel's end as the cluster page shows it (R189, R212, R213): counter, stops, ACC_SAT. `aovf` is whether the kernel
ended with an AOVF bit set. -/
def State.kernelEnded (s : State) (c : Nat) (left : Nat) (stopped aovf : Bool) : State :=
  let s1 := (s.wr (F.CL_BUDGET_LEFT.pg c) (if stopped then 0 else left)).wr (F.CL_STAT_IN_KERNEL.pg c) 0
  let s2 := if stopped then s1.bump (F.CL_STOP_CNT.pg c) else s1
  if aovf then s2.pulse (0x10 + c) 5 else s2

/-- The result of bundles issued on a cluster taken into the state (R189, R212, R213, R216): cluster, events, and, where a
kernel ended, its counter. `old` is the cluster before, `own` the sticky CSTAT bits of this kernel alone. -/
def State.afterIssue (s : State) (c : Fin 16) (old : Cluster) (r : Issued) (own : Nat) : State :=
  let h := old.handle
  let aovf := bitsOf own 7 4 != 0
  let left := match r.c.run with
    | some k => k.left
    | none => 0
  let s1 := s.setCluster c (if r.fate = .running then r.c else { r.c with run := none })
  let s2 := s1.each r.events fun s e => s.clEvent c.val h e
  if r.fate = .running ∨ old.run = none then s2 else s2.kernelEnded c.val left (r.fate != .ended) aovf

/-- What every stop of a kernel does to its instance (R78, R212, R213): it is stopped, and its state is reset at the next
tick entry. -/
def State.stopInst (s : State) (h : Nat) : State :=
  match s.eng.insts[h]? with
  | some i => s.setInst h { i with stopped := true, word := Nat.lor i.word (2 ^ 28) }
  | none => s

/-- A kernel overrun counted and raised (R78, R82). -/
def State.kernelOvr (s : State) (c h : Nat) : State :=
  (((s.bump F.OVR_COUNT).wrAll [(F.OVR_LAST_CLUSTER, c), (F.OVR_LAST_HANDLE, h)]).wr64 F.OVR_TICK_LO F.OVR_TICK_HI
    s.tick).pulse 0x02 0

/-- Bytes written to a cluster's data memory; they end the errors of the words they fill, and an injection waiting for the bank flips bits of the
first (R415, R458). -/
def Cluster.putBytes (c : Cluster) (at_ : Nat) (b : List Byte) : Cluster :=
  let clean := c.memBad.filter fun x => decide (x.1 + 4 ≤ at_) || decide (at_ + b.length ≤ x.1)
  let f := if b = [] then 0 else Sparse.get 0 c.flips (at_ / 65536)
  { c with mem := memBytes (fun _ => 0) c.mem at_ b, memBad := if f = 0 then clean else Sparse.set 0 clean (at_ / 4 * 4) f,
           flips := if f = 0 then c.flips else Sparse.set 0 c.flips (at_ / 65536) 0 }

/-- Group-samples as a strip buffer holds them (R190, R210). -/
def quadBytes (xs : List Quad) : List Byte := xs.flatMap fun q => (lanesL fun l => q[l]).flatMap fun w => leBytes 4 w.toNat

/-- The strip buffer of a group (R193, R210). -/
def stripAt (g : Nat) : Nat := 0x6F000 + 256 * (g % 16)

/-- What a stop leaves beside the cluster (R78, R212, R213): the substitute in the strip buffer, the instance's state to be reset, and, where the
budget ran out, the overrun. -/
def State.kernelStop (s : State) (c : Fin 16) (k : KernelRun) (budget : Bool) : State :=
  let s1 := match s.eng.insts[k.handle]? with
    | none => s
    | some i =>
      let t := s.setCluster c (s.clusters[c].putBytes k.strip (quadBytes (holdRamp i.last i.ovr s.F)))
      (t.setInst k.handle { i with ovr := min 32 (i.ovr + s.F) }).stopInst k.handle
  if budget then s1.kernelOvr c.val k.handle else s1

/-! Custom kernels. -/

/-- The kernel record of an instance. -/
def State.kernOf (s : State) (i : Inst) : Option KernRec := s.eng.proc.bind fun a => a.plan.kerns[i.info.kern]?

/-- DISS of a custom kernel (R231), 2 for a built-in type. -/
def State.dissOf (s : State) (i : Inst) : Nat := match s.kernOf i with
  | some k => k.diss
  | none => 2

/-- Where an instance lies in its cluster's instance region: custom kernels from address 0 upward in handle order, the built-in types after them
(log entry 42). -/
def instBase (a : Admitted) (h : Nat) : Nat :=
  let c := a.place.getD h 0
  let own := (a.plan.insts[h]?).any fun i => i.typ == 0x80
  (((indexed a.plan.insts).filter fun x => a.place.getD x.1 0 == c &&
    (if x.2.typ = 0x80 then !own || decide (x.1 < h) else !own && decide (x.1 < h))).map fun x => instDataBytes a.plan x.2).sum

/-- Whether a cluster carries an instance of kernel `k`. -/
def carries (a : Admitted) (c k : Nat) : Bool :=
  (a.plan.insts.zip a.place).any fun x => x.1.typ == 0x80 && x.1.kern == k && x.2 == c

/-- The first bundle of kernel `k`'s code on cluster `c` (R238). -/
def codeAt (a : Admitted) (c k : Nat) : Nat :=
  2048 + (((indexed a.plan.kerns).filter fun x => decide (x.1 < k) && carries a c x.1).map fun x => x.2.codeLen).sum

/-- The bytes of a cluster's memory. -/
def Cluster.bytesAt (c : Cluster) (o n : Nat) : List Byte := (List.range n).map fun i => Sparse.get 0 c.mem (o + i)

/-- Where an instance's state and its two copies lie (R188, R193, R232): the state area, then copy 0 and copy 1, each a record and an array; of a
built-in type, too (log entry 42). -/
def copyAt (a : Admitted) (h side : Nat) (i : InstRec) : Nat :=
  let size := 64 + instCoefBytes a.plan i
  instBase a h + (instDataBytes a.plan i - 2 * size) + side * size

/-- A coefficient array as the instance region holds it (R194): a set per lane rearranged so that coefficient k of the four lanes is one vector; an
FIR's as it is, and a custom kernel's (R232). -/
def laneVectors (typ : Nat) (coef : List Word) : List Word :=
  let each (n : Nat) : List Word := (List.range n).flatMap fun k => (List.range 4).map fun l => coef.getD (n * l + k) 0
  match typ with
  | 0x02 => each 5
  | 0x03 => each 10
  | _ => coef

/-- A parameter copy as a custom kernel sees it (R89, R232): record and array. -/
def copyBytes (hdr coefOff coefLen : Word) (p : Params) : List Byte :=
  ([hdr, p.ctrl, coefOff, coefLen] ++ p.par ++ p.coef).flatMap fun w => leBytes 4 w.toNat

/-- The admitted cost of an instance for a tick (R65, R77). -/
def budgetOf (p : Plan) (i : Inst) : Nat :=
  if i.dissolving || i.fade.isSome then instDissolving p i.info else instTick p i.info

/-- A custom kernel's instance starting from rest in its cluster's memory (R232): initial data, then zeros. -/
def State.kernelRest (s : State) (h : Nat) : State :=
  match s.eng.proc, s.eng.insts[h]? with
  | some a, some i =>
    match s.kernOf i with
    | some k =>
      let c := s.clusters[fin16 i.cluster]
      s.setCluster (fin16 i.cluster) (c.putBytes (instBase a h) ((k.init ++ List.replicate k.dataBytes 0).take k.dataBytes))
    | none => s
  | _, _ => s

/-- An instance's copies put into its cluster's memory (R89, R194, R208, R232): the active one, and, while a crossfade runs, the other. -/
def State.copiesIn (s : State) (a : Admitted) (h : Nat) (i : Inst) (k : Cluster) : Cluster :=
  let co := a.coef.getD h (0, 0)
  let hdr := s.vword (0x600000 + 0x40 * h)
  let bytes (p : Params) : List Byte := copyBytes hdr (BitVec.ofNat 32 co.1) (BitVec.ofNat 32 co.2) { p with coef := laneVectors i.info.typ p.coef }
  let custom := i.info.typ == 0x80
  match i.fade with
  | none => k.putBytes (copyAt a h i.side i.info) (bytes i.now)
  | some fd => (k.putBytes (copyAt a h i.side i.info) (bytes (if custom then i.now else fd.old))).putBytes (copyAt a h (1 - i.side) i.info)
      (bytes (if custom then fd.old else i.now))
def State.putCopies (s : State) (h : Nat) : State :=
  match s.eng.proc, s.eng.insts[h]? with
  | some a, some i => if i.info.typ = 0x80 then s else s.setCluster (fin16 i.cluster) (s.copiesIn a h i s.clusters[fin16 i.cluster])
  | _, _ => s

/-- The context that an instance's kernel starts with in this tick (R188). -/
def State.startOf (s : State) (a : Admitted) (h : Nat) (i : Inst) (invalid : Nat) : Start :=
  let base := instBase a h
  let act := copyAt a h i.side i.info
  let trans : Option Nat := match i.fade, i.ramps with
    | some fd, _ => some fd.j
    | none, r :: _ => some (r.k * s.F)
    | none, [] => none
  ⟨h, base, act, if trans.isSome then copyAt a h (1 - i.side) i.info else act, stripAt i.info.group, invalid, s.F, s.tick, trans,
    i.env.map fun e => if e.falling then 32 - e.e else 32 + e.e⟩

/-- The kernel that the dispatcher runs after an instance's on its cluster (R83, R209): phases A, C, E, groups ascending, handles ascending. -/
def State.nextInst (s : State) (h : Nat) : Option (Nat × Inst) :=
  let key (x : Nat × Inst) : Nat := (x.2.info.phase * 65536 + x.2.info.group) * 65536 + x.1
  match s.eng.insts[h]? with
  | none => none
  | some i => ((indexed s.eng.insts).filter fun x => x.2.cluster == i.cluster && decide (key (h, i) < key x)).foldl (fun b x => match b with
      | some y => if key x < key y then some x else b
      | none => some x) none

/-- Lanes of a group concealed at a sample (R104). -/
def concealedAt (bad : NatSet) (g i : Nat) : Nat := laneMask fun l => Sparse.get false bad (16 * (4 * g + l.val) + i)

/-- The lanes of an instance's group that are concealed in this frame (R104, R188). -/
def State.invalidLanes (s : State) (i : InstRec) : Nat :=
  if i.phase = 0 then (List.range s.F).foldl (fun a k => Nat.lor a (concealedAt s.eng.bad i.group k)) 0 else 0

/-- The Mode switch of a custom kernel (R171, R233): with the frame that begins at j = 32, the new copy, or BYPASS alone. -/
def Inst.switched (i : Inst) : Inst := match i.env with
  | some e => if e.falling && e.e == 0 then
      (if e.whole then { i with now := e.next, side := 1 - i.side } else { i with now := { i.now with ctrl := e.next.ctrl } })
    else i
  | none => i

/-- One frame of a custom kernel (R188, R201, R209 to R213, R232, R233). -/
def State.runKernelInst (s : State) (h : Nat) (i0 : Inst) (invalid : Nat) (xs : List Quad) : List Quad × State :=
  match s.eng.proc, s.kernOf i0 with
  | some a, some k =>
    let i := i0.switched
    let c := fin16 i.cluster
    let strip := stripAt i.info.group
    let budget := budgetOf a.plan i
    let code := codeAt a i.cluster i.info.kern
    let base := instBase a h
    let cl2 := (s.copiesIn a h i s.clusters[c]).putBytes strip (quadBytes xs)
    let next := (s.nextInst h).map fun x => s.startOf a x.1 x.2 (s.invalidLanes x.2.info)
    let cl3 := cl2.begin (s.startOf a h i invalid) next
      ⟨h, code, k.codeLen, base, instDataBytes a.plan i.info, k.dataBytes, strip, budget⟩ (code + k.entry)
    let s1 := s.wrAll [(F.CL_STAT_HANDLE.pg i.cluster, h), (F.CL_BUDGET.pg i.cluster, budget)]
    let r := cl3.runKernel (budget + 1) []
    let s2 := s1.afterIssue c cl3 { r with c := { r.c with sticky := Nat.lor cl2.sticky r.c.sticky } } r.c.sticky
    let cl := s2.clusters[c]
    let f := s.F
    let stopped := r.fate != .ended
    let ys0 := if stopped then holdRamp i.last i.ovr f
      else (List.range f).map fun n => lanes fun l => cl.word (strip + 16 * n + 4 * l.val)
    let left := if stopped then 0 else if i.ovr ≠ 0 then 32 else i.fadeIn
    let ys1 := if stopped then ys0 else fadeInFrame ys0 left
    let ys2 := if bitOf i.now.ctrl.toNat 0 ∧ ¬ stopped then xs else ys1
    let es := (List.range f).foldl (fun (p : List Nat × Option Envelope) _ => match p.2 with
      | some e => (p.1 ++ [e.step.1], e.step.2.1)
      | none => (p.1 ++ [32], none)) ([], i.env)
    let ys3 := (ys2.zip es.1).map fun p => if p.2 = 32 then p.1 else
      lanes fun l => satWord (roundDiv ((p.1)[l].toInt * p.2) 32)
    let fd := i.fade.bind fun fd => if fd.n ≤ fd.j + f then none else some { fd with j := fd.j + f }
    let fin := i.fade.isSome && fd.isNone
    let now := if fin then (match i.fade with
      | some x => { x.old with ctrl := i.now.ctrl }
      | none => i.now) else i.now
    let i1 := { i with fade := fd, env := es.2, now := now, side := if fin then 1 - i.side else i.side,
                       ovr := if stopped then i.ovr + f else 0, fadeIn := left - f, stopped := stopped,
                       last := if stopped then i.last else match ys3.getLast? with
                         | some q => lanesL fun l => q[l]
                         | none => i.last }
    let s3 := (s2.setInst h i1).setCluster c (cl.putBytes strip (quadBytes ys3))
    let s4 := if stopped then s3.stopInst h else s3
    (ys3, if r.fate = .budget then s4.kernelOvr i.cluster h else s4)
  | _, _ => (xs, s)

/-- A built-in kernel has run (R77, R78, R210, R211): its budget is loaded and never runs out, and its strip buffer holds its output. -/
def State.builtinRun (s : State) (h : Nat) (i : Inst) (ys : List Quad) : State :=
  match s.eng.proc with
  | none => s
  | some a =>
    let c := fin16 i.cluster
    let b := budgetOf a.plan i
    (s.wrAll [(F.CL_STAT_HANDLE.pg i.cluster, h), (F.CL_BUDGET.pg i.cluster, b),
      (F.CL_BUDGET_LEFT.pg i.cluster, min (b - 1) (Config.builtinSpare i.info.typ b))]).setCluster c
        (s.clusters[c].putBytes (stripAt i.info.group) (quadBytes ys))

/-! Clip players (R114 to R117). -/

/-- The player number of a handle: the clip players in handle order (R114). -/
def playerOf (l : List InstRec) (h : Nat) : Nat := ((l.take h).filter fun i => i.typ == 0x0E).length

/-- The group-sample of a clip at a frame. -/
def clipQuad (c : Clip) (pos : Nat) : Quad :=
  lanes fun l => if l.val < c.channels ∧ pos < c.length then c.data.getD (pos * c.channels + l.val) 0 else 0

/-- One sample of a player: new and old group-sample, weight of the old in 32nds, weight of a STOP, and the player after. -/
def Player.sample (p : Player) (lib : List Clip) : (Quad × Quad × Nat × Nat × Nat) × Player :=
  let find (n : Nat) := lib.find? (·.num == n)
  let z : Quad := lanes fun _ => 0
  let a := match p.clip.bind find with
    | some c => clipQuad c p.pos
    | none => z
  let b := match p.old with
    | some (n, pos, _, _) => (match find n with
      | some c => clipQuad c pos
      | none => z)
    | none => z
  let wb := match p.old with
    | some (_, _, left, _) => left - 1
    | none => 0
  let adv (n pos : Nat) (loop : Bool) : Nat := match find n with
    | some c => if pos + 1 < c.length then pos + 1 else if loop then c.loopStart else c.length
    | none => pos
  let pos := match p.clip with
    | some n => adv n p.pos p.looping
    | none => p.pos
  let old := p.old.bind fun o => if o.2.2.1 ≤ 1 then none else some (o.1, adv o.1 o.2.1 o.2.2.2, o.2.2.1 - 1, o.2.2.2)
  ((a, b, wb, if p.stopLen = 0 then 1 else p.stopLeft - 1, p.stopLen),
   { p with pos := pos, old := old, stopLeft := p.stopLeft - 1 })

/-- A frame of a player. -/
def Player.frame (p : Player) (lib : List Clip) : Nat → List (Quad × Quad × Nat × Nat × Nat) × Player
  | 0 => ([], p)
  | n + 1 =>
    let r := p.sample lib
    let q := Player.frame r.2 lib n
    (r.1 :: q.1, q.2)

/-! Strips. -/

/-- A level of the outputs at sample `i` of a tick's frame, and what it is with the next tick (R73, R447, R471, R543). -/
def OutLevel.at_ (l : OutLevel) (i : Nat) (w : Word) : Word := match l with
  | .full => w
  | .falling j n => if j + i < n then fallAt w (j + i) n else 0
  | .zero => 0
  | .rising j n => if j + i < n then riseAt w (j + i) n else w
  | .rises _ _ => 0
def OutLevel.next (l : OutLevel) (f : Nat) : OutLevel := match l with
  | .falling j n => if n ≤ j + f then .zero else .falling (j + f) n
  | .rising j n => if n ≤ j + f then .full else .rising (j + f) n
  | x => x

/-- A frame at a level. -/
def levelFrame (l : OutLevel) (x : Frame) : Frame :=
  (x.map fun p => (p.1, l.at_ (p.1 % 16) p.2)).filter fun p => p.2 != 0

/-- Channels c of a frame: sample `i`. -/
def sampleAt (x : Frame) (c i : Nat) : Word := Sparse.get 0 x (16 * c + i)
def putSample (x : Frame) (c i : Nat) (w : Word) : Frame := Sparse.set 0 x (16 * c + i) w

/-- A group's group-samples in a frame, and their writing (R8, R18). -/
def groupAt (x : Frame) (g f : Nat) : List Quad := (List.range f).map fun i => lanes fun l => sampleAt x (4 * g + l.val) i
def putGroup (x : Frame) (g : Nat) (ys : List Quad) : Frame :=
  (indexed ys).foldl (fun x p => (List.finRange 4).foldl (fun x l => putSample x (4 * g + l.val) p.1 (p.2)[l]) x) x

/-- The phase step of the generator a correlator names (R100, R102). -/
def genStepOf (insts : List Inst) (fs h : Nat) : Option Nat :=
  match insts[h]? with
  | some i => if i.info.typ = 0x0A then some (roundDiv ((i.now.n 0x10 : Int) * 65536) fs).toNat else none
  | none => none

/-- Whether a bus group holds a life-safety bus (R141, R142). -/
def State.groupLs (s : State) (g : Nat) : Bool := (List.range 4).any fun l => s.vbitArr F.XPT_LS_BUS (4 * g + l)

/-- The probe of a zone at a sample number (R256, R258, R259): faded in over 4,096 samples, faded out when it ends or
yields. -/
def ZoneRun.probe (z : ZoneRun) (fs run n : Nat) : Int :=
  match z.output, z.from_ with
  | some o, some a =>
    if n < a then 0
    else
      let w := (Probe.mk run o z.restarts z.power).sample fs (n % 8192)
      let w1 := if n < a + 4096 then riseAt w (n - a) 4096 else w
      match z.stop with
      | some b => if n < b then w1.toInt else if n < b + 4096 then (fallAt w1 (n - b) 4096).toInt else 0
      | none => w1.toInt
  | _, _ => 0

/-- The probes of the lanes of output group `g` at a sample number. -/
def State.probeAt (s : State) (g n : Nat) : List Int :=
  let zs := s.sl.tails ++ (match s.sl.run with
    | some r => r.zones.map fun z => (r.id, z)
    | none => [])
  (List.range 4).map fun l => ((zs.filter fun z => z.2.output == some (4 * g + l)).map fun z => z.2.probe s.fs z.1 n).sum

/-- What an instance sees in this frame. -/
def State.envOf (s : State) (i : Inst) (bad : List Nat) (clip : List (Quad × Quad × Nat × Nat × Nat)) : ObjEnv :=
  let f := s.F
  let ls := i.info.phase == 1 && s.groupLs i.info.group
  let q := if ls then 0 else i.now.n 0x14 % 16
  { fs := s.fs, f := f, frame := s.frame,
    keyed := decide (Sparse.get 0 s.eng.zoneOld (i.now.n 0x10) % 2 ^ q ≠ 0),
    lifeSafe := ls, amb := (s.eng.amb.find? fun x => x.1 == i.now.n 0x10).map fun x => x.2,
    genStep := genStepOf s.eng.insts s.fs (i.now.n 0x10 % 65536),
    genRamp := match s.eng.insts[i.now.n 0x10 % 65536]? with
      | some j => j.glide.isSome || j.ramps != []
      | none => false,
    probe := if i.info.typ = 0x0A then (List.range f).map fun k => s.probeAt i.info.group (s.frame * f + k) else [],
    conceal := if i.info.phase = 0 then (List.range f).map fun k => concealedAt s.eng.bad i.info.group k else [],
    bad := bad, clip := clip }

/-- The concealment key of a clip player's lane (R112, R117). -/
def clipKey (player l : Nat) : Nat := 0x10000 + 4 * player + l

/-- A clip player's output with late group-samples concealed by FADE and counted (R117). -/
def State.clipConceal (s : State) (player : Nat) (late : List Nat) (ys : List Quad) : List Quad × State :=
  (indexed ys).foldl (fun (p : List Quad × State) y =>
    let ok := !late.contains y.1
    let r := fun l : Fin 4 => conceal 0 (Sparse.get Conceal.rest p.2.eng.conc (clipKey player l.val)) ok (y.2)[l]
    let q : Quad := lanes fun l => (r l).1
    let c := (List.finRange 4).foldl (fun c l => Sparse.set Conceal.rest c (clipKey player l.val) (r l).2) p.2.eng.conc
    (p.1 ++ [q], { p.2 with eng := { p.2.eng with conc := c } })) ([], s)

/-- A clip player sets its strip's validity itself (R112): the samples of its group that are invalid are those of an underrun. -/
def underrunSet (bad : NatSet) (g f : Nat) (used : List Nat) : NatSet :=
  (List.range f).foldl (fun m i => (List.range 4).foldl (fun m l => Sparse.set false m (16 * (4 * g + l) + i) (used.contains i)) m) bad

/-- Delay taps replaced by the last good sample, counted and raised on a DRAM page (R99, R437): the spec does not place the rings on the
channels, so it is the first channel in service (DESIGN CHOICE, log entry 53). -/
def State.tapsReplaced (s : State) (n : Nat) : State :=
  let c := if s.on F.DR_CFG_TRAINED then 0 else 1
  if n = 0 then s else (s.bumpBy (F.DR_TAP_LATE.pg c) n).pulse (0x89 + c) 4

/-- Double-bit errors of DRAM words at the device byte addresses listed: counted and raised, the last one shown (R428, R437; for the page, log
entry 53). -/
def State.dramDouble (s : State) (addrs : List Nat) : State :=
  let c := if s.on F.DR_CFG_TRAINED then 0 else 1
  if addrs = [] then s
  else ((s.bumpBy (F.DR_DBE.pg c) addrs.length).wr64 (F.DR_DBE_ADDR_LO.pg c) (F.DR_DBE_ADDR_HI.pg c) (addrs.getLastD 0)).pulse (0x89 + c) 1

/-- One frame of one instance. `bad` are delay taps (4 × sample + lane), `late` clip group-samples, that came late or, with the device byte address
of the word, failed DRAM ECC (R99, R117, R428). -/
def State.runInst (s : State) (h : Nat) (bad late : List (Nat × Option Nat)) (xs : List Quad) : List Quad × State :=
  match s.eng.insts[h]? with
  | none => (xs, s)
  | some i0 =>
    let inv := s.invalidLanes i0.info
    let i := { i0 with invalid := inv }
    if i.info.typ = 0x80 then s.runKernelInst h i inv xs
    else if i.info.typ = 0x0E then
      let n := playerOf (s.eng.insts.map (·.info)) h
      let pl := s.eng.players.getD n .rest
      let pr := pl.frame s.eng.clips s.F
      let r := i.frame (s.envOf i [] pr.1) xs
      let hits := late.filter fun k => decide (k.1 < s.F) && pl.clip.isSome
      let used := hits.map (·.1)
      let cr := s.clipConceal n used r.1
      let passes (k : Nat) : Bool := bitOf (match i.env with
        | some e => if e.falling ∧ e.e ≤ k then r.2.now.ctrl else i.now.ctrl
        | none => i.now.ctrl).toNat 0
      let ys := (indexed (r.1.zip cr.1)).map fun y => if passes y.1 then y.2.1 else y.2.2
      let pl1 := { pr.2 with underrun := used != [], underruns := (pl.underruns + used.length) % 2 ^ 32 }
      let s1 := ((cr.2.dramDouble (hits.filterMap (·.2))).setInst h { r.2 with invalid := if used = [] then 0 else 0xF }).builtinRun h i ys
      (ys, { s1 with eng := { s1.eng with players := s1.eng.players.set n pl1, bad := underrunSet s1.eng.bad i.info.group s.F used } })
    else
      let taps := if i.info.typ = 0x08 then bad.filter fun k => decide (k.1 < 4 * s.F) else []
      let v := s.envOf i (taps.map (·.1)).eraseDups []
      let r := i.frame v xs
      let s1 := (s.setInst h { r.2 with clamped := r.2.clamped || (i.info.typ == 0x0D && v.lifeSafe) }).tapsReplaced v.bad.length |>.dramDouble (taps.filterMap (·.2)) |>.builtinRun h i r.1
      if i.info.typ = 0x0F ∧ ¬ s.eng.recorder.frozen then
        let words := xs.flatMap fun q => lanesL fun l => q[l]
        (r.1, { s1 with eng := { s1.eng with recorder := { s1.eng.recorder with
                  tape := ⟨s.tick, h, words⟩ :: s1.eng.recorder.tape } } })
      else (r.1, s1)

/-- What a tap of a strip that is gated or shed records: the strip's zeros (R118). -/
def State.tapeZeros (s : State) (phase g : Nat) : State :=
  if s.eng.recorder.frozen then s
  else
    let hs := ((stripOf (s.eng.insts.map (·.info)) phase g).filter fun x => x.2.typ == 0x0F).map (·.1)
    let new := hs.map fun h => (⟨s.tick, h, List.replicate (4 * s.F) 0⟩ : TapTick)
    { s with eng := { s.eng with recorder := { s.eng.recorder with tape := new ++ s.eng.recorder.tape } } }

/-- A strip's instances in handle order (R83, R84). `bad` and `late` name (handle, 4 × sample + lane, address) and (handle, sample, address). -/
def State.runStrip (s : State) (phase g : Nat) (bad late : List (Nat × Nat × Option Nat)) (xs : List Quad) : List Quad × State :=
  ((stripOf (s.eng.insts.map (·.info)) phase g).map (·.1)).foldl (fun (p : List Quad × State) h =>
    p.2.runInst h ((bad.filter (·.1 == h)).map (·.2)) ((late.filter (·.1 == h)).map (·.2)) p.1) (xs, s)

end Sys2Proof.Machine
end

