-- ==== Sys2Proof/Machine/Crosspoint.lean ====
section
/-!
DEFINITION. The crosspoint (spec/05): node memory (R125, R126), the two matrices (R127, R128), node ramps and their
deferral at F = 1 (R130, R131, R134, R76), effective priority, bus activity and zones (R136 to R139).
-/
namespace Sys2Proof.Machine

/-! Nodes (R125). -/

/-- Bank offset of an input node, and of an output node. -/
def inNode (src bus : Nat) : Nat := 4 * (bus * 2048 + src)
def outNode (bus out : Nat) : Nat := 0x400000 + 4 * (out * 512 + bus)

/-- Whether a bank offset lies in a matrix; in the output matrix. -/
def isNode (o : Nat) : Bool := decide (o < 0x600000)
def isOutNode (o : Nat) : Bool := decide (0x400000 ≤ o)

/-- The column, the bus, and the row of a node's bank offset. -/
def nodeCol (o : Nat) : Nat := if o < 0x400000 then o / 8192 else (o - 0x400000) / 2048
def nodeBus (o : Nat) : Nat := if o < 0x400000 then o / 8192 else (o - 0x400000) / 4 % 512
def nodeRow (o : Nat) : Nat := if o < 0x400000 then o / 4 % 2048 else (o - 0x400000) / 4 % 512

/-- Whether a node lies inside the running plan's dimensions (R126). -/
def State.nodeIn (s : State) (o : Nat) : Bool :=
  if o < 0x400000 then decide (nodeCol o < s.rd F.XPT_DIM0_BU) && decide (nodeRow o < s.rd F.XPT_DIM0_S)
  else decide (nodeCol o < s.rd F.XPT_DIM1) && decide (nodeRow o < s.rd F.XPT_DIM0_BU)

/-- Whether a bus is a life-safety bus, and whether a node is a priority-0 route (R142). -/
def State.lsBus (s : State) (b : Nat) : Bool := s.bitArr F.XPT_LS_BUS b
def State.lsNode (s : State) (o : Nat) : Bool := isNode o && s.lsBus (nodeBus o)

/-- Whether a priority-0 route of the Latent bank differs from the active bank (XPT_LS_STAT.LS_DIRTY, R145). -/
def State.lsDirty (s : State) : Bool :=
  s.win.any fun x => let o := x.1 % 0x1000000
    decide (x.1 < 0x2000000) && s.lsNode o && s.byte o != s.byte (0x1000000 + o)

/-! Effective priority (R137). -/

/-- The effective priority of a bus. -/
def State.prioOf (s : State) (b : Nat) : Nat :=
  if s.lsBus b then 0
  else (s.eng.raises.filter fun r => r.2.1 == b).foldl (fun a r => min a r.2.2)
    (s.rd (F.XPT_BUS_PRIO.ix (b / 8)) / 2 ^ (4 * (b % 8)) % 16)

/-- XPT_BUS_EFF of eight buses, and of all. -/
def State.showEff (s : State) : State :=
  s.each (List.range 64) fun t i =>
    t.wr (F.XPT_BUS_EFF.ix i) ((List.range 8).foldl (fun w j => w + 2 ^ (4 * j) * s.prioOf (8 * i + j)) 0)

/-- XPT_BUS_FORCE from the trigger entries that hold a bus active (R151). -/
def State.showForce (s : State) : State :=
  s.each (List.range 16) fun t i =>
    t.wr (F.XPT_BUS_FORCE.ix i) (maskOf (fun j => s.eng.forces.any fun f => f.2 == 32 * i + j) 32)

/-- The priority of a bus as the frame in process sees it. -/
def State.vprio (s : State) (b : Nat) : Nat := s.vrd (F.XPT_BUS_EFF.ix (b / 8)) / 2 ^ (4 * (b % 8)) % 16

/-! Node changes (R129 to R131, R134, R76). -/

/-- A start that no tick has reached: a deferred column's. -/
def noStart : Nat := 2 ^ 64

/-- Whether a ramp runs in tick `m`. -/
def NodeRamp.runs (r : NodeRamp) (m : Nat) : Bool := decide (r.first ≤ m) && decide (m < r.first + r.n)

/-- The column of a ramp as (output matrix, column). -/
def NodeRamp.column (r : NodeRamp) : Bool × Nat := (isOutNode r.off, nodeCol r.off)

/-- The columns of a matrix that ramp in tick `m`. -/
def rampingCols (l : List NodeRamp) (outMat : Bool) (m : Nat) : List Nat :=
  ((l.filter fun r => r.runs m && isOutNode r.off == outMat).map fun r => nodeCol r.off).eraseDups

/-- A node given a new gain at tick `m` by a ramp of `n` ticks (R130, R131): the word of the active bank, and the ramp. One given the
gain it has, or ramps to, makes no transition (R167). -/
def State.nodeTo (s : State) (m n : Nat) (first : Nat) (o : Nat) (w : Word) : State :=
  if s.word o = w then s
  else
    let old := s.eng.ramps.find? fun r => r.off == o
    let g0 := match old with
      | some r => r.reached m
      | none => (s.word o).toInt
    let s1 := s.setWord o w
    { s1 with eng := { s1.eng with ramps := ⟨o, g0, w.toInt, first, n⟩ :: s1.eng.ramps.filter fun r => r.off != o } }

/-- Columns in the order in which they start (R134): those with a priority-0 change first, then by column. -/
def startOrder (cols : List DeferredCol) : List DeferredCol := cols.filter (·.ls) ++ cols.filter fun c => !c.ls

/-- Columns put in rising order. -/
def insertCol (x : DeferredCol) : List DeferredCol → List DeferredCol
  | [] => [x]
  | y :: t => if x.col < y.col then x :: y :: t
    else if x.col = y.col then { y with ls := y.ls || x.ls } :: t
    else y :: insertCol x t

/-- Columns of one matrix that a set of node changes touches, in rising order. -/
def State.changedCols (s : State) (outMat : Bool) (l : List (Nat × Word)) : List DeferredCol :=
  (l.filter fun x => isOutNode x.1 == outMat).foldl (fun a x => insertCol ⟨outMat, nodeCol x.1, s.lsNode x.1⟩ a) []

/-- Node changes that take effect at tick `m`, over `n` ticks each. At F = 1 no more than r_B and r_D columns ramp at once
(R75, R76); the others keep their gains until a later tick. A column that was put off and finds room now counts as a deferred start
(R134). -/
def State.nodesTo (s : State) (m n : Nat) (l : List (Nat × Word)) : State :=
  let l := l.filter fun x => s.nodeIn x.1
  let late (outMat : Bool) : List DeferredCol := match s.eng.run with
    | some a =>
      if a.plan.F ≠ 1 then []
      else
        let busy := rampingCols s.eng.ramps outMat m
        let waiting := s.eng.deferred.filter fun c => c.outMat == outMat
        let cols := (s.changedCols outMat (l.filter fun x => s.word x.1 != x.2)).filter fun c => !busy.contains c.col
        let all := waiting.foldl (fun a c => insertCol c a) cols
        (startOrder all).drop ((if outMat then a.rD else a.rB) - busy.length)
    | none => []
  let held := late false ++ late true
  let isHeld (o : Nat) : Bool := held.any fun c => c.outMat == isOutNode o && c.col == nodeCol o
  let s1 := s.each l fun t x => t.nodeTo m n (if isHeld x.1 then noStart else m) x.1 x.2
  let begun := (s.eng.deferred.filter fun c => !held.any fun h => h.outMat == c.outMat && h.col == c.col).length
  ({ s1 with eng := { s1.eng with
      deferred := held,
      ramps := s1.eng.ramps.map fun r => if r.first = noStart ∧ ¬ isHeld r.off then { r with first := m } else r } } : State).bumpBy
    F.XPT_DEFER_CNT begun

/-- A deferred column may start: it is the first in order of its matrix, and fewer than r columns ramp (R76, R134). -/
def State.mayStart (s : State) (outMat : Bool) (col : Nat) : Bool :=
  match s.eng.run with
  | none => false
  | some a =>
    let r := if outMat then a.rD else a.rB
    (match (startOrder (s.eng.deferred.filter fun c => c.outMat == outMat)).head? with
     | some c => c.col == col
     | none => false) && decide ((rampingCols s.eng.ramps outMat s.tick).length < r)

/-- A deferred column starts and runs its full length (R134). -/
def State.startColumn (s : State) (outMat : Bool) (col : Nat) : State :=
  let mine (o : Nat) : Bool := isOutNode o == outMat && nodeCol o == col
  (({ s with eng := { s.eng with
      deferred := s.eng.deferred.filter fun c => c.outMat != outMat || c.col != col,
      ramps := s.eng.ramps.map fun r => if r.first = noStart ∧ mine r.off then { r with first := s.tick } else r } } : State)
    ).bump F.XPT_DEFER_CNT

/-- Every node ramp ends at its target (R73). -/
def State.endRamps (s : State) : State := { s with eng := { s.eng with ramps := [], deferred := [] } }

/-! The matrices. -/

/-- The gain in effect for a node at a sample of the frame in process (R126, R130). -/
def State.gainAt (s : State) (o i : Nat) : Int :=
  match s.eng.viewRamps.find? fun r => r.off == o with
  | some r => r.at_ s.frame s.F i
  | none => (s.vword o).toInt

/-- A column's sum at a sample (R127): products exact, scaled by 2^−28, rounded half up, saturated. A node whose word failed its
ECC is off for that read (R415). -/
def State.colSum (s : State) (dead : List Nat) (node : Nat → Nat) (rows : Nat) (x : Frame) (i : Nat) : Int :=
  roundShift (((List.range rows).map fun r => if dead.contains (node r) then 0 else s.gainAt (node r) i * (sampleAt x r i).toInt).sum) 28

/-- A matrix: the sums of its columns over the frame, and per column the number of samples that saturated. -/
def State.matrix (s : State) (dead : List Nat) (node : Nat → Nat → Nat) (cols rows : Nat) (x : Frame) : Frame × List (Nat × Nat) :=
  (List.range cols).foldl (fun (p : Frame × List (Nat × Nat)) c =>
    let v := (List.range s.F).map fun i => s.colSum dead (node c) rows x i
    let n := (v.filter fun y => sat32 y != y).length
    ((indexed v).foldl (fun f y => putSample f c y.1 (satWord y.2)) p.1, if n = 0 then p.2 else p.2 ++ [(c, n)])) ([], [])

/-- Saturated columns recorded (R128). -/
def State.noteSat (s : State) (f : Fld) (l : List (Nat × Nat)) : State :=
  s.each l fun t x => (t.setBitArr f x.1 true).bumpBy F.XPT_SAT_CNT x.2

/-- Phase B (R17, R127): every bus sum; a saturated one is recorded. -/
def State.phaseB (s : State) (dead : List Nat) (cycles : Nat) : State :=
  let r := s.matrix dead (fun b x => inNode x b) (s.vrd F.XPT_DIM0_BU) (s.vrd F.XPT_DIM0_S) s.eng.aOut
  let s1 := (s.noteSat F.XPT_SAT_BUS r.2).wr F.XPT_CYC_B cycles
  { s1 with eng := { s1.eng with bSum := r.1, bDone := true, satB := r.2 != [] } }

/-! Zones (R136 to R139). -/

/-- The zone of an output in the frame in process (R136). -/
def State.vzone (s : State) (o : Nat) : Option Nat :=
  let w := s.vrd ⟨F.XPT_ZONE_MAP_NONE_LO.addr + 4 * (o / 2), 16 * (o % 2) + 15, 16 * (o % 2)⟩
  if bitOf w 15 then none else some (w % 1024)

/-- Whether a sample reaches a level in whole dB of full scale (R138); only at 0 dB is the bound a whole number. -/
def reachesDb (th : Int) (w : Word) : Bool :=
  if th = 0 then decide (2 ^ 31 ≤ w.toInt.natAbs) else decide (tenTo 31 (th * dB) < w.toInt.natAbs)

/-- Whether a bus is active in the frame in process (R138): forced, or its strip's output reaches the threshold of its
priority. -/
def State.busActive (s : State) (b : Nat) : Bool :=
  let th := signed (s.vrd (F.XPT_ACT_THRESH.ix (s.vprio b))) 8
  s.vbitArr F.XPT_BUS_FORCE b ||
    (List.range s.F).any fun i => reachesDb th (sampleAt s.eng.cOut b i)

/-- Whether a bus reaches an output in the frame in process (R139): the node ramps, or is non-zero at some sample. -/
def State.reaches (s : State) (b o : Nat) : Bool :=
  (s.eng.viewRamps.any fun r => r.off == outNode b o && r.runs s.frame) || (List.range s.F).any fun i => s.gainAt (outNode b o) i != 0

/-- The zone activity words of the frame in process (R139): zone, word. -/
def State.zoneWords (s : State) : Sparse Nat :=
  let bu := s.vrd F.XPT_DIM0_BU
  let act := (List.range bu).filter fun b => s.busActive b
  (List.range (s.vrd F.XPT_DIM1)).foldl (fun z o => match s.vzone o with
    | none => z
    | some k => (act.filter fun b => s.reaches b o).foldl (fun z b =>
        Sparse.set 0 z k (Nat.lor (Sparse.get 0 z k) (2 ^ s.vprio b))) z) []

/-- The lowest active priority from 0 to 14 of a zone word, 0xF if there is none (XPT_ZONE_TOP). -/
def topOf (w : Nat) : Nat := ((List.range 15).find? fun p => bitOf w p).getD 15

/-- The zone activity shown (XPT_ZONE_ACT, XPT_ZONE_TOP, XPT_BUS_ACT). -/
def State.showZones (s : State) (z : Sparse Nat) : State :=
  let w (n : Nat) := Sparse.get 0 z n
  let s1 := s.each (List.range 512) fun t i => (t.wr (F.XPT_ZONE_ACT_ACT_LO.ix i) (w (2 * i))).wr (F.XPT_ZONE_ACT_ACT_HI.ix i) (w (2 * i + 1))
  let s2 := s1.each (List.range 128) fun t i =>
    t.wr (F.XPT_ZONE_TOP.ix i) ((List.range 8).foldl (fun a j => a + 2 ^ (4 * j) * topOf (w (8 * i + j))) 0)
  s2.each (List.range 16) fun t i =>
    t.wr (F.XPT_BUS_ACT.ix i) (maskOf (fun j => decide (32 * i + j < s.vrd F.XPT_DIM0_BU) && s.busActive (32 * i + j)) 32)

/-- XPT_STAT as the frame in process leaves it (R132, R134). -/
def State.showRamps (s : State) : State :=
  let n := (rampingCols s.eng.viewRamps false s.frame).length + (rampingCols s.eng.viewRamps true s.frame).length
  s.wrAll [(F.XPT_STAT_RAMP_COLS, n), (F.XPT_STAT_RAMPING, (decide (n ≠ 0)).toNat),
    (F.XPT_STAT_DEFERRED, (s.eng.deferred != []).toNat)]

/-- Phase D (R17, R127, R128, R139): every output sum, the saturation source, the zone activity words. -/
def State.phaseD (s : State) (dead : List Nat) (cycles : Nat) : State :=
  let r := s.matrix dead (fun o b => outNode b o) (s.vrd F.XPT_DIM1) (s.vrd F.XPT_DIM0_BU) s.eng.cOut
  let z := s.zoneWords
  let s1 := ((((s.noteSat F.XPT_SAT_OUT r.2).wr F.XPT_CYC_D cycles).showZones z).showRamps).source 0x20 0
    (s.eng.satB || r.2 != [])
  { s1 with eng := { s1.eng with dSum := r.1, dDone := true, zoneNew := z } }

end Sys2Proof.Machine
end

