-- ==== Sys2Proof/Machine/PairOps.lean ====
section
/-!
DEFINITION. What the other blocks need of the pair: role changes (R272), the claim (R273, R275 to R277), sending on the
Porbuod link (R287, R290), mode changes (R304).
-/
namespace Sys2Proof.Machine

/-- The bits of class CFG of the register at `a`: what a warm reset keeps. -/
def cfgMask (a : Nat) : Word :=
  if a < 0x100000 ∧ a % 4096 < 0x40 then
    match a % 4096 with
    | 0x008 => 0xFFFFFFFF
    | 0x014 => 0xFFFFFFFF
    | 0x01C => 0xFFFFFFFF
    | 0x020 => 0xFFFFFFFF
    | 0x024 => 0x00000300
    | 0x028 => 0xFFFFFFFF
    | _ => 0
  else match RegDir.row? a with
    | some r => r.fields.foldl (fun m f =>
        if f.acc = .rw ∨ f.acc = .rws ∨ f.acc = .rwa then m ||| Fld.mask ⟨a, f.hi, f.lo⟩ else m) 0
    | none => 0

/-- The unit-owned registers on mirrored pages (R369). -/
def unitOwned (a : Nat) : Bool := a == F.NET_IP.addr || a == F.STR_SEL_RX.addr || a == F.STR_SEL_TX.addr

/-- Updates to the pair's state. -/
def State.setPair (s : State) (p : PairSt) : State := { s with pair := p }

/-- The standby of a pair: synchronising or standby-ready beside a partner (R54, R271). -/
def State.isStandby (s : State) : Bool := s.pair.formed && (s.pair.role == .standby || s.pair.role == .sync)

/-- The active unit of a formed pair. -/
def State.leads (s : State) : Bool := s.pair.formed && s.pair.role == .active

/-- Whether the Porbuod link is up (PB_STAT.STATE). -/
def State.linkUp (s : State) : Bool := s.rd F.PB_STAT_STATE == 4

/-! Claims. -/

/-- The fields of a claim (R273). -/
def claimRole (c : Nat) : Nat := c / 16384 % 4
def claimEpoch (c : Nat) : Nat := c / 128 % 128
def claimHealth (c : Nat) : Nat := c / 2 % 64
def claimSide (c : Nat) : Nat := c % 2

/-- compare of R276: 1 where `a` wins, −1 where `b` wins, 0 where they are equal. -/
def claimCompare (a b : Nat) : Int :=
  let d := (claimEpoch a + 128 - claimEpoch b) % 128
  let by_ (x y : Nat) (r : Int) : Int := if x > y then 1 else if x < y then -1 else r
  by_ (claimRole a) (claimRole b)
    (if 1 ≤ d ∧ d ≤ 63 then 1 else if 65 ≤ d then -1
     else by_ (claimHealth a) (claimHealth b) (by_ (claimSide a) (claimSide b) 0))

/-- The unit's own claim (R273, R275). -/
def State.claim (s : State) : Nat :=
  if s.pair.dark then 0
  else s.pair.role.code * 16384 + s.pair.epoch % 128 * 128 + s.pair.health % 64 * 2 + s.rd F.PAIR_STAT_SIDE

/-- CRC-8 of R277. -/
def crc8 (b : List Byte) : Nat := crcMsb 8 0x07 0 b

/-- The 32-bit claim word of a claim (R277). -/
def claimWord (c : Nat) : Word :=
  let b : List Byte := [0xC5, BitVec.ofNat 8 (c / 256), BitVec.ofNat 8 c]
  BitVec.ofNat 32 (0xC5 * 2 ^ 24 + c % 65536 * 256 + crc8 b)

/-- The claim in a claim word, if its marker and CRC are correct (R277, R282). -/
def claimOf (w : Word) : Option Nat := if claimWord (w.toNat / 256 % 65536) = w then some (w.toNat / 256 % 65536) else none

/-- The own claim shown (PAIR_CLAIM.OWN). -/
def State.showClaim (s : State) : State := s.wr F.PAIR_CLAIM_OWN s.claim

/-- A role change (R272): cause and tick recorded, a pair event written. -/
def State.toRole (s : State) (r : Role) (cause : Nat) : State :=
  if s.pair.role = r then s
  else
    let old := s.pair.role
    let s1 := ((s.setPair { s.pair with role := r }).wr F.PAIR_LAST cause).wr64 F.PAIR_LAST_TICK_LO F.PAIR_LAST_TICK_HI s.tick
    let s2 := s1.showClaim
    s2.record 3 0 0x80 0 ([BitVec.ofNat 8 old.code, BitVec.ofNat 8 r.code, BitVec.ofNat 8 cause, BitVec.ofNat 8 s2.pair.epoch] ++
      leBytes 2 s2.claim ++ leBytes 2 (s2.rd F.PAIR_CLAIM_PEER))

/-- An epoch seen on a carrier (R275, R276). -/
def State.seeEpoch (s : State) (e : Nat) : State :=
  let newer := match s.pair.newest with
    | none => true
    | some o => let d := (e + 128 - o) % 128; decide (1 ≤ d ∧ d ≤ 63)
  if newer then s.setPair { s.pair with newest := some e } else s

/-! Messages. -/

/-- A message sent once (R287). -/
def State.send (s : State) (m : Msg) : State := if s.linkUp then s.put (.porbuod m) else s

/-- A reliable message: sent, and kept until it is acknowledged (R287). -/
def State.sendReliable (s : State) (m : Nat → Msg) : State :=
  let n := s.pair.nextSeq
  (s.setPair { s.pair with nextSeq := (n + 1) % 2 ^ 32, sent := s.pair.sent ++ [(n, m n)] }).send (m n)

/-- A write of the active sent to the standby (R290). -/
def State.mirrorWrite (s : State) (w : MirrorWrite) : State :=
  if s.leads && s.linkUp then s.sendReliable fun _ => .param [w] else s

/-- A mode change armed towards the standby (R304). -/
def State.armChange (s : State) (m : ModeChange) : State :=
  if s.leads && s.linkUp then
    let n := s.pair.nextSeq
    let s1 := s.sendReliable fun n => .arm n m
    s1.setPair { s1.pair with arms := s1.pair.arms ++ [⟨n, m, false⟩] }
  else s

/-- The commit tick of a mode change; none where it has no tick of its own. -/
def changeTick : ModeChange → Option Nat
  | .planLoad _ => none
  | .admission _ => none
  | .develop _ t _ _ _ _ _ _ => some t
  | .cancel _ t => some t
  | .fire _ _ t _ => some t
  | .clip t _ _ _ _ => some t
  | .fix t => some t
  | .safelight _ b => if fieldAt b 0 1 = 5 ∨ fieldAt b 8 8 = 0 then none else some (fieldAt b 8 8)
  | .shed _ t => some t
  | .handover t => some t

/-- A unit demotes to synchronising (R300, R304): its claim falls at once. -/
def State.demote (s : State) : State :=
  if s.isStandby then
    ((((s.toRole .sync 8).showClaim).pulse 0x80 4).bump F.PAIR_RESYNC_CNT).wr F.PAIR_STAT_AGREE 0
  else s

end Sys2Proof.Machine
end

