-- ==== Sys2Proof/Machine/Ports.lean ====
section
/-!
DEFINITION. The audio ports (spec/11) and the TDM merge (R281 to R283): frames in and out, slips, losses, glitches, start
and stop, AES3 receivers and transmitters, PDM, ASRC.
-/
namespace Sys2Proof.Machine

/-! The register image of a plan (R30, R67, R73). -/

/-- Pages a register image holds a record for. -/
def imagePages (l : List (Nat × Word)) : List Nat := (l.map fun x => x.1 / 4096).eraseDups

/-- Port pages that a plan enables by a record (R30): TDM, AESIN, AESOUT, PDM, ASRC, TRIG. -/
def isPortPage (p : Nat) : Bool := decide (0x30 ≤ p ∧ p ≤ 0x51) || p == 0x58
def portPages (l : List (Nat × Word)) : List Nat := (imagePages l).filter isPortPage

/-- The records of a page, in order. -/
def recordsOf (l : List (Nat × Word)) (p : Nat) : List (Nat × Word) := l.filter fun x => x.1 / 4096 == p

/-- Whether a page's records differ between two images. -/
def pageChanged (old new : List (Nat × Word)) (p : Nat) : Bool := recordsOf old p != recordsOf new p

/-- The running plan's image. -/
def State.runImage (s : State) : List (Nat × Word) := match s.eng.run with
  | some a => a.plan.regs
  | none => []

/-- Whether a port's page stops at T of a disruptive change under way: its records change, come or go (R73). -/
def State.changing (s : State) (p : Nat) : Bool := match s.eng.restart with
  | some x => pageChanged s.runImage x.admitted.plan.regs p
  | none => false

/-! Capturing input samples (R16). -/

/-- A sample of an input channel captured in this tick. -/
def State.capture (s : State) (ch i : Nat) (ok : Bool) (w : Word) : State :=
  { s with eng := { s.eng with cap := putSample s.eng.cap ch i w, capOk := Sparse.set false s.eng.capOk (16 * ch + i) ok } }

/-- A frame of channels from a base on, at sample `i`. -/
def State.captureAll (s : State) (base i : Nat) (ok : Bool) (ws : List Word) : State :=
  s.each (indexed ws) fun t p => t.capture (base + p.1) i ok p.2

/-- The oldest captured frame of channels discarded, the others one place earlier (R319). -/
def State.shiftCapture (s : State) (base n : Nat) : State :=
  s.each (List.range n) fun t c => t.each (List.range (t.F - 1)) fun t i =>
    t.capture (base + c) i (Sparse.get false t.eng.capOk (16 * (base + c) + i + 1)) (sampleAt t.eng.cap (base + c) (i + 1))

/-- A frame of a port delivered to the engine at its place in the tick (R319): position before it; an extra frame pushes out
the oldest. -/
def State.deliver (s : State) (base pos : Nat) (ok : Bool) (ws : List Word) : State :=
  if pos < s.F then s.captureAll base pos ok ws else (s.shiftCapture base ws.length).captureAll base (s.F - 1) ok ws

/-! TDM ports. -/

/-- A field of TDM port `p`. -/
def State.tdmRd (s : State) (f : Fld) (p : Nat) : Nat := s.rd (f.pg p)
def State.setTdm (s : State) (p : Fin 16) (x : TdmPort) : State := { s with ports := { s.ports with tdm := s.ports.tdm.set p x } }
def State.setMerge (s : State) (g : Fin 8) (x : TdmMerge) : State := { s with ports := { s.ports with merge := s.ports.merge.set g x } }

/-- Bits of WORD_BITS and SLOT_BITS codes (R314). -/
def bitsCode (c : Nat) : Nat := if c = 0 then 16 else if c = 1 then 24 else 32

/-- The enabled slots of a port, in order (R311, R316). -/
def State.slotsOf (s : State) (p : Nat) : List Nat :=
  (List.range (s.tdmRd F.TDM_CTRL_SLOTS p + 1)).filter fun k => bitOf (s.tdmRd F.TDM_SLOTMASK p) k

/-- How many slots the claim takes (R277). -/
def State.claimSlots (s : State) (p : Nat) : Nat := if s.tdmRd F.TDM_CTRL_SLOT_BITS p = 2 then 1 else 2

/-- The merge group of a port, if one is enabled, and whether the port is its secondary (R281). -/
def State.mergeOf (s : State) (p : Nat) : Option (Fin 8 × Bool) :=
  (List.finRange 8).findSome? fun g =>
    if ¬ s.on (F.CLM_MTDM_EN.ix g.val) then none
    else if s.rd (F.CLM_MTDM_PRIMARY.ix g.val) = p then some (g, false)
    else if s.rd (F.CLM_MTDM_SECONDARY.ix g.val) = p then some (g, true)
    else none

/-- Whether the port's output carries the claim (R277). -/
def State.claimsOut (s : State) (p : Nat) : Bool := bitOf (s.rd F.CLM_CTRL_TDM_SLOT) p

/-- The channel slots of a port, claim slots left out (R316). -/
def State.inSlots (s : State) (p : Nat) : List Nat :=
  let l := s.slotsOf p
  if (s.mergeOf p).isSome then l.take (l.length - s.claimSlots p) else l
def State.outSlots (s : State) (p : Nat) : List Nat :=
  let l := s.slotsOf p
  if s.claimsOut p then l.take (l.length - s.claimSlots p) else l

/-- An input word of a slot (R315): the top W bits. -/
def inWord (wbits : Nat) (w : Word) : Word := (w >>> (32 - wbits)) <<< (32 - wbits)

/-- An output word rounded to W bits, floored and saturated (R315). -/
def outWord (wbits : Nat) (w : Word) : Word :=
  if wbits = 32 then w
  else satWord ((min (2 ^ (wbits - 1) - 1) ((w.toInt + 2 ^ (31 - wbits)) / 2 ^ (32 - wbits))) * 2 ^ (32 - wbits))

/-- The claim word of a frame's slots (R277): the last slot, or the top 16 bits of the last two. -/
def State.slotClaim (s : State) (p : Nat) (slots : List Word) : Word :=
  let l := slots.take (s.tdmRd F.TDM_CTRL_SLOTS p + 1)
  if s.claimSlots p = 1 then l.getLast?.getD 0
  else ((l.dropLast.getLast?.getD 0) &&& 0xFFFF0000#32) ||| ((l.getLast?.getD 0) >>> 16)

/-! The TDM merge (R283). -/

/-- One frame of a merge group: the frames of primary and secondary, whole or not, with their claims. -/
def State.mergeFrame (s : State) (g : Fin 8) (fp fs : Bool × List Word × Option Nat) : State :=
  let m := s.ports.merge[g]
  let wait := if s.rd F.CLM_MERGE = 0 then 8 else s.rd F.CLM_MERGE
  let sel : Option Bool := match m.prevP, m.prevS with
    | some a, some b =>
      let c := claimCompare a b
      if c = 1 then some false else if c = -1 then some true else some (m.incumbent.getD false)
    | some _, none => some false
    | none, some _ => some true
    | none, none => none
  let src := match sel with
    | some true => fs
    | _ => fp
  let good := sel.isSome && src.1 && src.2.2.isSome
  let base := s.tdmRd F.TDM_CHMAP_IN_BASE (s.rd (F.CLM_MTDM_PRIMARY.ix g.val))
  let n := (s.inSlots (s.rd (F.CLM_MTDM_PRIMARY.ix g.val))).length
  let switched := match m.incumbent, sel with
    | some a, some b => a != b
    | _, _ => false
  let s1 := if switched then (s.bump F.CLM_SWITCH_CNT).pulse 0x83 1 else s
  let inc := if sel.isSome then sel else m.incumbent
  let fin (t : State) (m' : TdmMerge) : State :=
    let t1 := t.setMerge g { m' with incumbent := inc, prevP := if fp.1 then fp.2.2 else none,
                                     prevS := if fs.1 then fs.2.2 else none, pos := m.pos + 1 }
    (t1.wr F.CLM_MSEL_TDM_SEL (putBit (t1.rd F.CLM_MSEL_TDM_SEL) g.val (inc == some true))).wr F.CLM_MSEL_TDM_MUTED
      (putBit (t1.rd F.CLM_MSEL_TDM_MUTED) g.val m'.muted)
  if good then
    let fade := if m.muted then some 0 else m.fade
    let ws := match fade with
      | some j => src.2.1.map fun w => riseAt w j 64
      | none => src.2.1
    let s2 := if 1 ≤ m.gap ∧ m.gap ≤ wait then s1.bump F.CLM_GAP_CNT else s1
    fin (s2.captureAll base m.pos true ws)
      { m with muted := false, gap := 0, held := ws, fade := fade.bind fun j => if 63 ≤ j then none else some (j + 1) }
  else
    let gap := min (m.gap + 1) 80
    if gap ≤ wait then fin (s1.captureAll base m.pos true m.held) { m with gap := gap }
    else if gap ≤ wait + 64 then
      let s2 := if gap = wait + 1 then (s1.bump F.CLM_MUTE_CNT).pulse 0x83 2 else s1
      fin (s2.captureAll base m.pos true (m.held.map fun w => satWord (roundDiv (w.toInt * ((wait + 64 - gap : Nat) : Int)) 64)))
        { m with gap := gap }
    else fin (s1.captureAll base m.pos false (List.replicate n 0)) { m with gap := gap, muted := true, fade := none }

/-- The merge of every frame that both ports of a group have taken in, up to `n` frames; a frame that did not come counts as
not whole. -/
def State.mergeUpTo (s : State) (g : Fin 8) : Nat → Nat → State
  | 0, _ => s
  | k + 1, n =>
    let m := s.ports.merge[g]
    if n ≤ m.pos then s
    else
      let get (f : Fld) : Bool × List Word × Option Nat :=
        (s.ports.tdm[fin16 (s.rd (f.ix g.val))]).frames.getD m.pos (false, [], none)
      (s.mergeFrame g (get F.CLM_MTDM_PRIMARY) (get F.CLM_MTDM_SECONDARY)).mergeUpTo g k n

/-! Input frames (R316, R319 to R323). -/

/-- Entry into LOSS, or a new cause in it (R322, R323). -/
def State.tdmLoss (s : State) (p : Fin 16) (cause : Nat) : State :=
  let s1 := (s.wr (F.TDM_STAT_CAUSE.pg p.val) cause).wr (F.TDM_STAT_STABLE.pg p.val) 0
  if s.tdmRd F.TDM_STAT_STATE p.val = 3 then s1
  else
    let s2 := ((s1.wr (F.TDM_STAT_STATE.pg p.val) 3).bump (F.TDM_LOSS_CNT.pg p.val)).source (0x30 + p.val) 0 true
    s2.each (List.range 64) fun t a =>
      if t.on (F.ASRC_MAP_EN.ix a) ∧ t.rd (F.ASRC_MAP_KIND.ix a) = 0 ∧ t.rd (F.ASRC_MAP_PORT.ix a) = p.val then
        t.setBitArr F.ASRC_LOCK a false else t

/-- Whether a port lives: its block enabled and its state not stopped. -/
def State.tdmLive (s : State) (p : Nat) : Bool := s.enabled (0x30 + p) && s.tdmRd F.TDM_STAT_STATE p != 0

/-- The pins' ppm reading in 1/16 ppm; outside ±0.5 % of nominal. -/
def rateOut (x : Int) : Bool := decide (80000 < x.natAbs)

/-- TDM_RATE shows the measured rate; a rate its 16 bits cannot hold has no stated reading. -/
def State.showRate (s : State) (p : Nat) (x : Int) : State :=
  if -32768 ≤ x ∧ x < 32768 then s.wr (F.TDM_RATE.pg p) (unsigned x 16)
  else let o := s.open_; o.2.wr (F.TDM_RATE.pg p) o.1

/-- A whole TDM input frame (R283, R311, R315, R316, R319 to R323): the slots' bits (bit 31 first on the wire), whether the
frame start was missing, whether the frame had one BCLK edge too many or too few, the measured rate, the start's lag. -/
def State.tdmIn (s : State) (p : Fin 16) (slots : List Word) (noStart glitch : Bool) (rate : Int) (phase : Nat) : State :=
  if ¬ s.tdmLive p.val then s
  else
    let x := s.ports.tdm[p]
    let st := s.tdmRd F.TDM_STAT_STATE p.val
    let x1 := { x with fsMiss := if noStart then x.fsMiss + 1 else 0, rateBad := if rateOut rate then x.rateBad + 1 else 0,
                       glitches := if glitch then x.glitches + 1 else 0 }
    let cause := if 2 ≤ x1.fsMiss then 2 else if 2 ≤ x1.rateBad then 3 else if 3 ≤ x1.glitches then 4 else 0
    let wb := bitsCode (s.tdmRd F.TDM_CTRL_WORD_BITS p.val)
    let ws := (s.inSlots p.val).map fun k => inWord wb (slots.getD k 0)
    let s0 := (s.showRate p.val rate).wr (F.TDM_PHASE.pg p.val) (if s.tdmRd F.TDM_CTRL_MASTER p.val = 0 then phase else 0)
    let s1 := if cause ≠ 0 then s0.tdmLoss p cause
      else if glitch then ((s0.bump (F.TDM_GLITCH_CNT.pg p.val)).pulse (0x30 + p.val) 1).wr (F.TDM_STAT_STABLE.pg p.val) 0
      else s0.wr (F.TDM_STAT_STABLE.pg p.val) (min 1023 (s.tdmRd F.TDM_STAT_STABLE p.val + 1))
    let live := st == 2 && cause == 0
    let out := if glitch then x.lastIn else ws
    let merge := s.mergeOf p.val
    let word := s.slotClaim p.val slots
    let whole := live && !glitch
    let claim := if whole then claimOf word else none
    let s2 := if merge.isSome ∧ whole ∧ claim = none then (s1.bump F.CLM_BAD_CNT).pulse 0x83 3 else s1
    let on := bitOf (s.tdmRd F.TDM_CTRL_DIR p.val) 0
    let asrc := s.tdmRd F.TDM_CTRL_ASRC p.val == 1
    let primary := merge.isSome && (merge.map (·.2)) == some false
    let s3 := if on ∧ ¬ asrc ∧ ¬ primary ∧ live then s2.deliver (s.tdmRd F.TDM_CHMAP_IN_BASE p.val) x.inPos true out else s2
    let slip := !asrc && s.tdmRd F.TDM_CTRL_MASTER p.val == 0 && st == 2 && decide (s.F ≤ x.inPos)
    let s4 := if slip then (s3.bumpSat (F.TDM_SLIP_CNT_IN.pg p.val)).pulse (0x30 + p.val) 2 else s3
    let follower := s.tdmRd F.TDM_CTRL_MASTER p.val == 0
    let counts := (st == 1 && !follower && !bitOf (s.tdmRd F.TDM_CTRL_DIR p.val) 1) || (st == 4 && !bitOf (s.tdmRd F.TDM_CTRL_DIR p.val) 1)
    let left := if st = 1 ∧ follower then s.tdmRd F.TDM_ROLL_PRE_ROLL p.val - s4.tdmRd F.TDM_STAT_STABLE p.val
      else if counts then x.left - 1 else x.left
    let s5 := s4.setTdm p { x1 with lastIn := if live then out else x.lastIn, inPos := if slip then x.inPos else x.inPos + 1,
                                    left := left, frames := (if slip then x.frames.drop 1 else x.frames) ++ [(whole, ws, claim)] }
    match (if s5.enabled 0x83 then merge else none) with
    | some (g, _) =>
      let a := s5.ports.tdm[fin16 (s5.rd (F.CLM_MTDM_PRIMARY.ix g.val))]
      let b := s5.ports.tdm[fin16 (s5.rd (F.CLM_MTDM_SECONDARY.ix g.val))]
      s5.mergeUpTo g 16 (min s5.F (min a.frames.length b.frames.length))
    | none => s5

/-- No BCLK edge within 4 expected periods (R320, R322). -/
def State.tdmBclkLoss (s : State) (p : Fin 16) : State := if s.tdmLive p.val then s.tdmLoss p 1 else s

/-- Leaving LOSS after 64 clean frames (R323). -/
def State.tdmLossExit (s : State) (p : Fin 16) : State :=
  if s.tdmRd F.TDM_STAT_STATE p.val = 3 ∧ 64 ≤ s.tdmRd F.TDM_STAT_STABLE p.val then
    ((s.wr (F.TDM_STAT_STATE.pg p.val) 2).source (0x30 + p.val) 0 false).setTdm p
      { s.ports.tdm[p] with fade := if s.tdmRd F.TDM_CTRL_MASTER p.val = 0 then some 0 else none }
  else s

/-! Output frames (R16, R277, R315, R316, R319, R324, R325). -/

/-- A word in the slots of an output frame that carry the claim (R277): slot, word. -/
def claimCells (k n : Nat) (slots : List Nat) (w : Word) : List (Nat × Word) :=
  let l := slots.drop (n - k)
  if k = 1 then l.map fun x => (x, w)
  else match l with
    | [a, b] => [(a, w &&& 0xFFFF0000#32), (b, w <<< 16)]
    | _ => []

/-- A whole TDM output frame (R316): what it carries and the port after it. Ramps and fades of a port step once per port frame, with
ASRC = 1 too, whose frames R5 counts apart from engine samples: R543 does not say which they follow (DESIGN CHOICE, log entry 52). Under
a disruptive change the frames of the engine carry the ramp (R73, step 1), so the port adds none. -/
def State.tdmOut (s : State) (p : Fin 16) : State :=
  if ¬ s.tdmLive p.val ∨ ¬ bitOf (s.tdmRd F.TDM_CTRL_DIR p.val) 1 then s
  else
    let x := s.ports.tdm[p]
    let st := s.tdmRd F.TDM_STAT_STATE p.val
    let follower := s.tdmRd F.TDM_CTRL_MASTER p.val == 0
    let asrc := s.tdmRd F.TDM_CTRL_ASRC p.val == 1
    let wb := bitsCode (s.tdmRd F.TDM_CTRL_WORD_BITS p.val)
    let chans := s.outSlots p.val
    let base := s.tdmRd F.TDM_CHMAP_OUT_BASE p.val
    let dry := !asrc && follower && decide (s.F ≤ x.outPos)
    let sample (j : Nat) : Word := sampleAt s.eng.emit (base + j) x.outPos
    let locked (j : Nat) : Bool := (List.range 64).any fun a =>
      s.on (F.ASRC_MAP_EN.ix a) && s.on (F.ASRC_MAP_DIR.ix a) && s.rd (F.ASRC_MAP_KIND.ix a) == 0 &&
      s.rd (F.ASRC_MAP_PORT.ix a) == p.val && s.rd (F.ASRC_MAP_INDEX.ix a) == j && s.bitArr F.ASRC_LOCK a
    let fadeA := Sparse.get 32 s.ports.asrcFade (0x30 + p.val)
    let raw (j : Nat) : Word :=
      if asrc then (if locked j then riseAt (BitVec.ofNat 32 (Config.freeValue (s.free + j))) (min 31 fadeA) 32 else 0) else sample j
    let audio := (st == 2 || (st == 3 && !follower) || (st == 4 && x.ramp.isSome))
    let shaped (w : Word) : Word :=
      let w1 := match x.ramp with
        | some j => if s.eng.restart.isSome then w else fallAt w j 64
        | none => w
      let w2 := match x.fade with
        | some j => riseAt w1 j 32
        | none => w1
      match x.rise with
      | some j => riseAt w2 j 64
      | none => w2
    let words := (indexed chans).map fun q => (q.2, if audio then outWord wb (shaped (raw q.1)) else 0)
    let claim := if s.claimsOut p.val ∧ s.enabled 0x83 then
      claimCells (s.claimSlots p.val) (s.slotsOf p.val).length (s.slotsOf p.val) (claimWord s.claim) else []
    let low := st == 3 && follower
    let fresh := (List.range (s.tdmRd F.TDM_CTRL_SLOTS p.val + 1)).map fun k =>
      if low then 0 else (((claim ++ words).find? fun q => q.1 == k).map fun q => q.2).getD 0
    let frame := if dry ∧ st = 2 then
        (List.range fresh.length).map fun k => ((claim.find? fun q => q.1 == k).map fun q => q.2).getD (x.lastOut.getD k 0)
      else fresh
    let open_ := maskOf (fun k => !bitOf (s.tdmRd F.TDM_SLOTMASK p.val) k) (s.tdmRd F.TDM_CTRL_SLOTS p.val + 1)
    let s1 := s.put (.tdm p.val frame (if s.on (F.TDM_CTRL_HIZ.pg p.val) ∧ ¬ low then open_ else 0))
    let s2 := if dry ∧ st = 2 then (s1.bumpSat (F.TDM_SLIP_CNT_OUT.pg p.val)).pulse (0x30 + p.val) 2 else s1
    let fades := Sparse.set 32 s2.ports.asrcFade (0x30 + p.val) (min 32 (fadeA + 1))
    let s3 : State :=
      if asrc ∧ audio then { s2 with free := s2.free + chans.length, ports := { s2.ports with asrcFade := fades } } else s2
    let ramp := x.ramp.bind fun j => if 63 ≤ j then none else some (j + 1)
    let fade := x.fade.bind fun j => if 31 ≤ j then none else some (j + 1)
    let counts := (st == 1 && !follower) || (st == 4 && x.ramp.isNone)
    let s4 := if s.pair.dark then s3.setPair { s3.pair with darkSent := true } else s3
    let rise := if audio then x.rise.bind fun j => if 63 ≤ j then none else some (j + 1) else x.rise
    s4.setTdm p { s4.ports.tdm[p] with ramp := ramp, fade := fade, rise := rise, lastOut := frame, outPos := x.outPos + 1,
                                       left := if counts then x.left - 1 else x.left }

/-! Start and stop (R324, R325, R332). -/

/-- Pages whose start and stop the two events of the table name: TDM ports and AES3 transmitters. -/
def isTdmPage (pg : Nat) : Bool := decide (0x30 ≤ pg ∧ pg < 0x40)
def isAoutPage (pg : Nat) : Bool := decide (0x48 ≤ pg ∧ pg < 0x50)

/-- The state field of a port page, and the port's start and stop state. -/
def rollField (pg : Nat) : Fld := if isTdmPage pg then F.TDM_STAT_STATE.pg (pg - 0x30) else F.AOUT_STAT.pg (pg - 0x48)
def State.rollOf (s : State) (pg : Nat) : TdmPort :=
  if isTdmPage pg then s.ports.tdm[fin16 (pg - 0x30)] else s.ports.roll[Fin.ofNat 8 (pg - 0x48)]
def State.setRoll (s : State) (pg : Nat) (x : TdmPort) : State :=
  if isTdmPage pg then s.setTdm (fin16 (pg - 0x30)) x
  else { s with ports := { s.ports with roll := s.ports.roll.set (Fin.ofNat 8 (pg - 0x48)) x } }

/-- PRE_ROLL and POST_ROLL of a port page (R332: 64 for a transmitter). -/
def State.preRoll (s : State) (pg : Nat) : Nat := if isTdmPage pg then s.rd (F.TDM_ROLL_PRE_ROLL.pg (pg - 0x30)) else 64
def State.postRoll (s : State) (pg : Nat) : Nat := if isTdmPage pg then s.rd (F.TDM_ROLL_POST_ROLL.pg (pg - 0x30)) else 64

/-- The media PLL is not gliding, and the tick R of a disruptive plan has come (R73). -/
def State.mayEnable (s : State) (x : TdmPort) : Bool := !s.on F.CG_STAT_GLIDING && decide (x.notBefore ≤ s.tick)

/-- Whether the outputs still carry the zeros of a disruptive plan (R73, step 3). -/
def OutLevel.waits : OutLevel → Bool
  | .rises _ _ => true
  | _ => false

/-- A port starts (R324): its pre-roll begins, or, with PRE_ROLL = 0, its data, where no glide holds it (R73). A port that a disruptive
plan starts fades in once it carries data. -/
def State.portStart (s : State) (pg : Nat) : State :=
  if isTdmPage pg ∨ isAoutPage pg then
    let n := s.preRoll pg
    let y := s.rollOf pg
    let x := { y with left := n, ramp := none, fade := none, rise := none, restart := false, slow := y.restart || s.eng.level.waits,
                      fsMiss := 0, rateBad := 0, glitches := 0 }
    let s1 := (s.setRoll pg x).wr (rollField pg) (if n = 0 ∧ s.mayEnable x then 2 else 1)
    if isTdmPage pg then s1.wr (F.TDM_STAT_STABLE.pg (pg - 0x30)) 0 else s1
  else s

/-- The end of a pre-roll (R324, R332): data is enabled. A port of a disruptive plan that is enabled once the engine's own fade-in is over
fades in over 64 samples of its own (R73, step 3). -/
def State.preRollEnd (s : State) (pg : Nat) : State :=
  if (isTdmPage pg ∨ isAoutPage pg) ∧ s.rd (rollField pg) = 1 ∧ s.mayEnable (s.rollOf pg) ∧ (isAoutPage pg ∨ (s.rollOf pg).left = 0) then
    let x := s.rollOf pg
    (s.setRoll pg { x with slow := false, rise := if x.slow ∧ s.eng.level = .full then some 0 else none }).wr (rollField pg) 2
  else s

/-- A port begins to stop (R325): its output ramps over 64 samples, then its post-roll; a port in LOSS goes straight to its
post-roll. `again` is whether the new image starts it again, `r` the first tick at which it may. -/
def State.portStop (s : State) (pg : Nat) (again : Bool) (r : Nat) : State :=
  if isTdmPage pg ∨ isAoutPage pg then
    let st := s.rd (rollField pg)
    let x := { s.rollOf pg with left := s.postRoll pg, ramp := if st = 2 then some 0 else none, restart := again, rise := none, slow := false, notBefore := r }
    let s1 := s.setRoll pg x
    let s2 := if isTdmPage pg then s1.source pg 0 false else s1
    s2.wr (rollField pg) (if st = 0 then 0 else 4)
  else s

/-- The end of a post-roll (R325): the port starts again, or idles; a port the plan omits has EN cleared (R30). -/
def State.postRollEnd (s : State) (pg : Nat) : State :=
  if (isTdmPage pg ∨ isAoutPage pg) ∧ s.rd (rollField pg) = 4 ∧
      (isAoutPage pg ∨ ((s.rollOf pg).left = 0 ∧ (s.rollOf pg).ramp = none)) ∧
      ((s.rollOf pg).restart = true → (s.rollOf pg).notBefore ≤ s.tick) then
    if (s.rollOf pg).restart then s.portStart pg
    else
      let s1 := (s.wr (rollField pg) 0).setRoll pg { s.rollOf pg with ramp := none, fade := none }
      if s1.admitted pg then s1 else s1.idle pg
  else s

/-! AES3 (R327 to R332). -/

def State.setAin (s : State) (r : Fin 8) (x : AesIn) : State := { s with ports := { s.ports with ain := s.ports.ain.set r x } }
def State.setAout (s : State) (t : Fin 8) (x : AesOut) : State := { s with ports := { s.ports with aout := s.ports.aout.set t x } }

/-- Loss of lock (R327). -/
def State.aesUnlock (s : State) (r : Fin 8) : State :=
  if s.on (F.AIN_STAT_LOCK.pg r.val) then
    let s1 := ((s.wr (F.AIN_STAT_LOCK.pg r.val) 0).wr (F.AIN_STAT_RATE_MEAS.pg r.val) 7).source (0x40 + r.val) 0 true
    s1.each (List.range 64) fun t a =>
      if t.on (F.ASRC_MAP_EN.ix a) ∧ t.rd (F.ASRC_MAP_KIND.ix a) = 1 ∧ ¬ t.on (F.ASRC_MAP_DIR.ix a) ∧
          t.rd (F.ASRC_MAP_PORT.ix a) = r.val then t.setBitArr F.ASRC_LOCK a false else t
  else s

/-- An AES3 frame (R327): preamble (0 none valid, 1 valid, 2 a valid Z), biphase violation outside a preamble, measured rate
code, and of each subframe its 24-bit word at the top, V, and whether its parity is right. -/
def State.aesIn (s : State) (r : Fin 8) (pre : Nat) (viol : Bool) (rate : Nat) (a b : Word) (va vb pa pb : Bool) : State :=
  if ¬ s.enabled (0x40 + r.val) then s
  else
    let x := s.ports.ain[r]
    let ok := pre != 0
    let zAt := x.sinceZ == some 191
    let x1 := { x with good := if ok then x.good + 1 else 0, bad := if ok then 0 else x.bad + 1,
                       zOk := if pre = 2 then zAt else x.zOk && ok,
                       sinceZ := if pre = 2 then some 0 else x.sinceZ.map (· + 1) }
    let lost := viol || decide (2 ≤ x1.bad)
    let s1 := if lost then s.aesUnlock r
      else if ¬ s.on (F.AIN_STAT_LOCK.pg r.val) ∧ 4 ≤ x1.good ∧ x1.zOk then
        ((s.wr (F.AIN_STAT_LOCK.pg r.val) 1).source (0x40 + r.val) 0 false)
      else s
    let s1 := if s1.on (F.AIN_STAT_LOCK.pg r.val) then s1.wr (F.AIN_STAT_RATE_MEAS.pg r.val) rate else s1
    let locked := s.on (F.AIN_STAT_LOCK.pg r.val) && !lost
    let s2 := if ¬ locked then s1
      else
        let nv := va.toNat + vb.toNat
        let np := (!pa).toNat + (!pb).toNat
        let t1 := s1.bumpBy (F.AIN_INVALID_CNT.pg r.val) nv
        let t2 := t1.wr (F.AIN_ERR_PARITY.pg r.val) (min 0xFFFF (t1.rd (F.AIN_ERR_PARITY.pg r.val) + np))
        if np = 0 then t2 else t2.pulse (0x40 + r.val) 1
    let asrc := s.on (F.AIN_CTRL_ASRC.pg r.val)
    let cutW (w : Word) : Word := if s.on (F.AIN_CTRL_WL20.pg r.val) then w &&& 0xFFFFF000#32 else w &&& 0xFFFFFF00#32
    let base := s.rd (F.AIN_CHMAP.pg r.val)
    let s3 := if asrc ∨ ¬ locked then s2
      else
        let i := min x.inPos (s.F - 1)
        let t := if s.F ≤ x.inPos then s2.shiftCapture base 2 else s2
        let on := !s.changing (0x40 + r.val)
        (t.capture base i (on && !va && pa) (cutW a)).capture (base + 1) i (on && !vb && pb) (cutW b)
    s3.setAin r { x1 with inPos := x.inPos + 1, zOk := x1.zOk && !lost, good := if lost then 0 else x1.good }

/-- The CRCC of a channel-status block (R329): its 23 bytes, least significant bit first. -/
def aesCrcc (b : List Byte) : Nat := crcLsb 0xB8 0xFF (b.take 23)

/-- The words of 24 bytes, written from an address on. -/
def State.putWords (s : State) (a : Nat) (ws : List Word) : State := s.each (indexed ws) fun t p => t.setReg (a + 4 * p.1) p.2

/-- A channel-status and user block complete at a Z preamble (R329): the four blocks of 24 bytes. -/
def State.aesBlock (s : State) (r : Fin 8) (csA csB ubA ubB : List Byte) : State :=
  if ¬ s.on (F.AIN_STAT_LOCK.pg r.val) then s
  else
    let pad (b : List Byte) := (b ++ List.replicate 24 0).take 24
    let bad (b : List Byte) : Bool := aesCrcc (pad b) != ((pad b).getD 23 0).toNat
    let n := (bad csA).toNat + (bad csB).toNat
    let at_ (f : Fld) := (f.pg r.val).addr
    let s1 := (((s.putWords (at_ F.AIN_CS_A) (wordsOf (pad csA))).putWords (at_ F.AIN_CS_B) (wordsOf (pad csB))).putWords
      (at_ F.AIN_UB_A) (wordsOf (pad ubA))).putWords (at_ F.AIN_UB_B) (wordsOf (pad ubB))
    let s2 := (s1.bump (F.AIN_CS_SEQ.pg r.val)).wrb (F.AIN_STAT_PRO.pg r.val) (bitOf ((pad csA).getD 0 0).toNat 0)
    if n = 0 then s2
    else (s2.wr (F.AIN_ERR_CRCC.pg r.val) (min 0xFFFF (s2.rd (F.AIN_ERR_CRCC.pg r.val) + n))).pulse (0x40 + r.val) 2

/-- The words a register array holds. -/
def State.wordsAt (s : State) (a n : Nat) : List Word := (List.range n).map fun i => s.reg (a + 4 * i)

/-- The registers of a transmitter as a set (R331). -/
def State.aoutSet (s : State) (t : Fin 8) : AesOut :=
  let at_ (f : Fld) := (f.pg t.val).addr
  { csA := s.wordsAt (at_ F.AOUT_CS_A) 6, csB := s.wordsAt (at_ F.AOUT_CS_B) 6, val := s.reg (at_ F.AOUT_VAL),
    ubA := s.wordsAt (at_ F.AOUT_UB_A) 6, ubB := s.wordsAt (at_ F.AOUT_UB_B) 6, commit := false }

/-- The Z preamble of a transmitter (R330, R331): a commit written at least one frame ago is taken; the block sent carries
its CRCC in byte 23, and A's status in B with CS_LINK. -/
def State.aoutBlock (s : State) (t : Fin 8) (aged : Bool) : State :=
  if ¬ s.enabled (0x48 + t.val) then s
  else
    let o := s.ports.aout[t]
    let o1 := if o.commit ∧ aged then s.aoutSet t else o
    let blk (w : List Word) : List Byte :=
      let b := (w.flatMap fun x => leBytes 4 x.toNat).take 23
      b ++ [BitVec.ofNat 8 (aesCrcc b)]
    let csB := if s.on (F.AOUT_CTRL_CS_LINK.pg t.val) then o1.csA else o1.csB
    (s.setAout t o1).put (.aes3 t.val (blk o1.csA ++ blk csB))

/-- A write of AOUT_CS_COMMIT (R331). -/
def State.aoutCommit (s : State) (t : Fin 8) (v : Bool) : State :=
  if v then s.setAout t { s.ports.aout[t] with commit := true } else s

/-! PDM (R334, R335) and ASRC (R336 to R338). -/

/-- A frame of microphone samples as decimated (R334): 24 bits at the top; a microphone in loss, stuck or not enabled gives
0, invalid. -/
def State.pdmIn (s : State) (mics : List (Nat × List Word)) : State :=
  if ¬ s.enabled 0x50 ∨ s.changing 0x50 then s
  else s.each mics fun t m =>
    if bitOf (t.rd F.PDM_CTRL_PINS) (m.1 / 2) ∧ ¬ t.on F.PDM_STAT ∧ ¬ bitOf (t.rd F.PDM_STUCK) m.1 then
      t.each (indexed (m.2.take t.F)) fun t w => t.capture (t.rd F.PDM_CHMAP + m.1) w.1 true (w.2 &&& 0xFFFFFF00#32)
    else t

/-- The follower clock is lost (R335), and is clean again. -/
def State.pdmLoss (s : State) : State :=
  if s.enabled 0x50 ∧ ¬ s.on F.PDM_CTRL_MASTER ∧ ¬ s.on F.PDM_STAT then
    ((s.wr F.PDM_STAT 1).bump F.PDM_LOSS_CNT).source 0x50 0 true
  else s
def State.pdmLossExit (s : State) : State := if s.on F.PDM_STAT then (s.wr F.PDM_STAT 0).source 0x50 0 false else s

/-- A microphone stuck (R335), and toggling again. -/
def State.micStuck (s : State) (m : Fin 32) : State :=
  if s.enabled 0x50 then (s.wr F.PDM_STUCK (putBit (s.rd F.PDM_STUCK) m.val true)).source 0x50 1 true else s
def State.micStuckEnd (s : State) (m : Fin 32) : State :=
  let v := putBit (s.rd F.PDM_STUCK) m.val false
  (s.wr F.PDM_STUCK v).source 0x50 1 (v != 0)

/-- The ASRC channels of a port (R336): kind, port. -/
def State.asrcOf (s : State) (kind port : Nat) : List Nat :=
  (List.range 64).filter fun a => s.on (F.ASRC_MAP_EN.ix a) && s.rd (F.ASRC_MAP_KIND.ix a) == kind && s.rd (F.ASRC_MAP_PORT.ix a) == port

/-- An estimator locks (R338): its channels are valid, its outputs fade in. -/
def State.asrcLock (s : State) (kind port : Nat) : State :=
  let s1 := s.each (s.asrcOf kind port) fun t a => t.setBitArr F.ASRC_LOCK a true
  { s1 with ports := { s1.ports with asrcFade := Sparse.set 32 s1.ports.asrcFade ((if kind = 0 then 0x30 else 0x48) + port) 0 } }

/-- An estimator unlocks (R338). -/
def State.asrcUnlock (s : State) (kind port : Nat) : State :=
  let l := s.asrcOf kind port
  if l.any fun a => s.bitArr F.ASRC_LOCK a then
    ((s.each l fun t a => t.setBitArr F.ASRC_LOCK a false).bump F.ASRC_UNLOCK_CNT).pulse 0x51 0
  else s

/-- The port channel behind an ASRC channel into the engine: its input channel (R311). -/
def State.asrcInput (s : State) (a : Nat) : Nat :=
  let p := s.rd (F.ASRC_MAP_PORT.ix a)
  s.rd (F.ASRC_MAP_INDEX.ix a) + (if s.rd (F.ASRC_MAP_KIND.ix a) = 0 then s.tdmRd F.TDM_CHMAP_IN_BASE p else s.rd (F.AIN_CHMAP.pg (p % 8)))

/-- The converted samples of a tick: their values are not stated bit for bit (R337), so each is a free value. -/
def State.asrcIn (s : State) : State :=
  s.each (List.range 64) fun t a =>
    if t.on (F.ASRC_MAP_EN.ix a) ∧ ¬ t.on (F.ASRC_MAP_DIR.ix a) ∧ t.bitArr F.ASRC_LOCK a ∧ ¬ t.changing 0x51 ∧
        ¬ t.changing ((if t.rd (F.ASRC_MAP_KIND.ix a) = 0 then 0x30 else 0x40) + t.rd (F.ASRC_MAP_PORT.ix a)) then
      t.each (List.range t.F) fun t i => let o := t.open_; o.2.capture (t.asrcInput a) i true (BitVec.ofNat 32 o.1)
    else t

/-- The frames of a transmitter in a tick (R330, R332, R338): zero audio in pre-roll and post-roll, and the ramps of its stop, its start and its
ASRC. A sample that the ASRC converts is a free value; with ASRC = 1 the ramps step with the engine's samples (DESIGN CHOICE, log entry 52). -/
def State.aoutTick (s : State) (t : Fin 8) : State :=
  let st := s.rd (F.AOUT_STAT.pg t.val)
  if st = 0 ∨ ¬ s.enabled (0x48 + t.val) then s
  else
    let x := s.ports.roll[t]
    let f := s.F
    let asrc := s.on (F.AOUT_CTRL_ASRC.pg t.val)
    let base := s.rd (F.AOUT_CHMAP.pg t.val)
    let fadeA := Sparse.get 32 s.ports.asrcFade (0x48 + t.val)
    let locked := (s.asrcOf 1 t.val).any fun a => s.on (F.ASRC_MAP_DIR.ix a) && s.bitArr F.ASRC_LOCK a
    let audio := st == 2 || (st == 4 && x.ramp.isSome)
    let shaped (i : Nat) (w : Word) : Word :=
      let w1 := match x.ramp with
        | some j => if s.eng.restart.isSome then w else if j + i < 64 then fallAt w (j + i) 64 else 0
        | none => w
      match x.rise with
      | some j => if j + i < 64 then riseAt w1 (j + i) 64 else w1
      | none => w1
    let raw (l i : Nat) : Word :=
      if ¬ asrc then sampleAt s.eng.emit (base + l) i
      else if ¬ locked then 0
      else
        let w : Word := BitVec.ofNat 32 (Config.freeValue (s.free + 2 * i + l))
        if fadeA + i < 32 then riseAt w (fadeA + i) 32 else w
    let out (l i : Nat) : Word := if audio then outWord (if s.on (F.AOUT_CTRL_WL20.pg t.val) then 20 else 24) (shaped i (raw l i)) else 0
    let s1 := s.put (.aes3Audio t.val ((List.range f).map fun i => (out 0 i, out 1 i)) s.ports.aout[t].val)
    let step (o : Option Nat) : Option Nat := o.bind fun j => if 64 ≤ j + f then none else some (j + f)
    let y := { x with ramp := step x.ramp, rise := if audio then step x.rise else x.rise }
    let p1 := { s1.ports with roll := s1.ports.roll.set t y }
    if asrc ∧ audio then
      { s1 with free := s1.free + 2 * f, ports := { p1 with asrcFade := Sparse.set 32 p1.asrcFade (0x48 + t.val) (min 32 (fadeA + f)) } }
    else { s1 with ports := p1 }

/-- What the ports do at a tick start (R319): merges of frames that did not all come, frames missing of a running follower,
the ASRC's samples, and a fresh count of frames. -/
def State.portsTick (s : State) : State :=
  let s0 := s.each (List.finRange 8) fun t g =>
    let t1 := if t.on (F.CLM_MTDM_EN.ix g.val) ∧ t.enabled 0x83 then t.mergeUpTo g 16 t.F else t
    t1.setMerge g { t1.ports.merge[g] with pos := 0 }
  let s1 := s0.each (List.finRange 16) fun t p =>
    let x := t.ports.tdm[p]
    let sync := t.tdmRd F.TDM_STAT_STATE p.val == 2 && t.tdmRd F.TDM_CTRL_MASTER p.val == 0 && t.tdmRd F.TDM_CTRL_ASRC p.val == 0
    let dir := t.tdmRd F.TDM_CTRL_DIR p.val
    let t1 := if sync ∧ bitOf dir 0 ∧ x.inPos < t.F then (t.bumpSat (F.TDM_SLIP_CNT_IN.pg p.val)).pulse (0x30 + p.val) 2 else t
    let t2 := if sync ∧ bitOf dir 1 ∧ x.outPos < t.F then (t1.bumpSat (F.TDM_SLIP_CNT_OUT.pg p.val)).pulse (0x30 + p.val) 2 else t1
    t2.setTdm p { x with inPos := 0, outPos := 0, frames := [] }
  let s2 := s1.each (List.finRange 8) fun t r => t.setAin r { t.ports.ain[r] with inPos := 0 }
  (s2.each (List.finRange 8) State.aoutTick).asrcIn

end Sys2Proof.Machine
end

