-- ==== Sys2Proof/Machine/Safelight.lean ====
section
/-!
DEFINITION. Safelight (spec/09): the tables (R240, R241, R250, R254), line judgement (R242 to R248), ambient estimates
(R249 to R253), acoustic verification (R254 to R263), its share (R264 to R266), its store and records (R268 to R270).
-/
namespace Sys2Proof.Machine

/-! Tables (R240). -/

def State.lineSt (s : State) (n : Nat) : LineSt := Sparse.get LineSt.rest s.sl.lines n
def State.setLineSt (s : State) (n : Nat) (l : LineSt) : State := { s with sl := { s.sl with lines := Sparse.set LineSt.rest s.sl.lines n l } }

/-- A word of line entry `n` as it is in force: what the host has written waits for the line's integration boundary (R248). -/
def State.lineWord (s : State) (n o : Nat) : Word :=
  if (s.lineSt n).written.isSome ∧ o < 20 then (s.lineSt n).was.getD (o / 4) 0 else s.word (0x3050000 + 32 * n + o)

/-- A field of line entry `n`: byte offset, bits. -/
def State.lineField (s : State) (n o hi lo : Nat) : Nat := bitsOf (s.lineWord n o).toNat hi lo
def State.lineOutput (s : State) (n : Nat) : Nat := s.lineField n 0 9 0
def State.lineEn (s : State) (n : Nat) : Bool := s.lineField n 0 15 15 == 1
/-- Correlator handle and lane of the voltage, current and earth senses: 0, 1, 2. -/
def State.lineHandle (s : State) (n k : Nat) : Nat := if k = 0 then s.lineField n 0 31 16 else if k = 1 then s.lineField n 4 15 0 else s.lineField n 4 31 16
def State.lineLane (s : State) (n k : Nat) : Nat := s.lineField n 8 (2 * k + 1) (2 * k)
def State.lineConfirm (s : State) (n : Nat) : Nat := let c := s.lineField n 8 11 8; if c = 0 then 2 else c
def State.lineState (s : State) (n : Nat) : Nat := s.lineField n 28 26 24
def State.lineBased (s : State) (n : Nat) : Bool := s.lineField n 28 31 31 == 1
/-- The senses a line names: voltage, current, and earth unless 0xFFFF. -/
def State.lineSenses (s : State) (n : Nat) : List Nat := [0, 1] ++ (if s.lineHandle n 2 = 0xFFFF then [] else [2])

/-- Bits of a line entry's word written by the device. -/
def State.setLineBits (s : State) (n o hi lo v : Nat) : State :=
  let a := 0x3050000 + 32 * n + o
  s.setWord a ((⟨0, hi, lo⟩ : Fld).put (s.word a) v)

/-- Microphone `m` (R250): input channel, enabled, zone, CAL. -/
def State.micInput (s : State) (m : Nat) : Nat := (s.word (0x3058000 + 16 * m)).toNat % 2048
def State.micEn (s : State) (m : Nat) : Bool := bitOf (s.word (0x3058000 + 16 * m)).toNat 15
def State.micZone (s : State) (m : Nat) : Nat := bitsOf (s.word (0x3058000 + 16 * m)).toNat 25 16
/-- The enabled microphones of a zone. -/
def State.micsOf (s : State) (z : Nat) : List Nat := (List.range 256).filter fun m => s.micEn m && s.micZone m == z

/-- Path `p` (R254): output, microphone, enabled, dwell, REF_VALID. -/
def State.pathOut (s : State) (p : Nat) : Nat := bitsOf (s.word (0x3060000 + 16 * p)).toNat 9 0
def State.pathMic (s : State) (p : Nat) : Nat := bitsOf (s.word (0x3060000 + 16 * p)).toNat 23 16
def State.pathEn (s : State) (p : Nat) : Bool := bitOf (s.word (0x3060000 + 16 * p)).toNat 31
def State.pathDwell (s : State) (p : Nat) : Nat := bitsOf (s.word (0x3060000 + 16 * p + 4)).toNat 15 0
def State.refValid (s : State) (p : Nat) : Bool := bitOf (s.word (0x3060000 + 16 * p + 8)).toNat 3

/-- The zone of an output (R136). -/
def State.zoneOf (s : State) (o : Nat) : Option Nat :=
  let w := s.rd ⟨F.XPT_ZONE_MAP_NONE_LO.addr + 4 * (o / 2), 16 * (o % 2) + 15, 16 * (o % 2)⟩
  if bitOf w 15 then none else some (w % 1024)

/-! Records (R269). -/

/-- A record of 48 payload bytes. -/
def State.slRecord (s : State) (cls src : Nat) (b : List Byte) : State :=
  s.record 2 cls 0x28 src ((b ++ List.replicate 48 0).take 48)

/-- A RUN_STATE record: state (1 started, 2 done, 3 aborted, 4 learn done). -/
def State.runRecord (s : State) (r : SlRun) (st : Nat) : State :=
  s.slRecord 0 0 ([3, BitVec.ofNat 8 st] ++ leBytes 2 r.id ++ leBytes 2 r.total ++ [BitVec.ofNat 8 r.zones.length, 0] ++
    leBytes 8 s.tick ++ leBytes 4 (if st = 1 then 0 else r.ones) ++ leBytes 4 (if st = 1 then 0 else r.threes))

/-! Lines (R242 to R248, R270). -/

/-- The correlator of a line's sense: an instance of the running plan. -/
def State.senseInst (s : State) (n k : Nat) : Option Inst :=
  match s.eng.insts[s.lineHandle n k]? with
  | some i => if i.info.typ = 0x0B then some i else none
  | none => none

/-- LINE of a correlator's lane (R93). -/
def corrLine (p : Params) (l : Nat) : Nat := p.n (0x18 + 4 * (l / 2)) / 2 ^ (16 * (l % 2)) % 1024

/-- Why a line entry is invalid (R242, SL_ERR.REASON); 0 if it is valid. -/
def State.lineBad (s : State) (n : Nat) : Nat :=
  let ks := s.lineSenses n
  let is := ks.map fun k => (k, s.senseInst n k)
  if is.any fun x => x.2.isNone then 1
  else if is.any fun x => match x.2 with
    | some i => i.now.n 0x14 / 4 ^ s.lineLane n x.1 % 4 != (if x.1 = 1 then 2 else 1)
    | none => true then 2
  else if is.any fun x => match x.2 with
    | some i => corrLine i.now (s.lineLane n x.1) != s.lineOutput n
    | none => true then 3
  else
    let g := is.filterMap fun x => x.2.map fun i => (i.now.n 0x10 % 65536, i.now.n 0x20)
    if g.any fun a => g.any fun b => a != b then 4 else 0

/-- How many lines are in a state, and the figures and sources that follow (SL_STAT, SL_LINES, R270). -/
def State.showLines (s : State) : State :=
  let l := (List.range 1024).filter fun n => s.lineEn n
  let cnt (k : Nat) : Nat := (l.filter fun n => s.lineState n == k).length
  let s1 := s.wrAll [(F.SL_STAT_LINES_FAULTED, cnt 3 + cnt 4 + cnt 5 + cnt 6 + cnt 7), (F.SL_LINES_OK, cnt 2),
    (F.SL_LINES_VALID, (l.filter fun n => s.lineBad n == 0).length)]
  s1.each [(0, 3), (1, 4), (2, 5), (3, 6), (4, 7)] fun t p => t.source 0x28 p.1 (decide (0 < cnt p.2))

/-- A line enters a state: its entry, a LINE_STATE record, the sources (R245). -/
def State.lineTo (s : State) (n st zmag : Nat) (zph : Int) (ratio : Nat) : State :=
  let old := s.lineState n
  if old = st then s
  else
    let s1 := s.setLineBits n 28 26 24 st
    let b : List Byte := [1, BitVec.ofNat 8 st] ++ leBytes 2 n ++ leBytes 2 (s.lineOutput n) ++ [BitVec.ofNat 8 old, 0] ++
      leBytes 8 s.tick ++ leBytes 4 zmag ++ leBytes 4 (unsigned zph 32) ++ leBytes 2 ratio
    (s1.slRecord 0 0 b).showLines

/-- A line enters a state with no integration behind it (R247, R248): the record's impedance, phase and ratio are open (log entry 58). -/
def State.lineMove (s : State) (n st : Nat) : State :=
  let z := s.open_
  let p := z.2.open_
  let r := p.2.open_
  r.2.lineTo n st z.1 p.1 r.1

/-- A phase difference in Q8.24 degrees brought into (−180, 180]. -/
def wrapPhase (d : Int) : Int := 180 * 2 ^ 24 - (180 * 2 ^ 24 - d) % (360 * 2 ^ 24)

/-- The reading of an integration (R244): order of the table; the level is in Q8.24 dBFS, without current the impedance is infinite. -/
def State.reading (s : State) (n zmag : Nat) (zph : Int) (ratio : Nat) (lvl : Int) (noCurrent earth : Bool) : Nat :=
  let z0 := s.lineField n 20 31 0
  let p0 := signed (s.lineField n 24 31 0) 32
  let r0 := s.lineField n 28 15 0
  let v0 := signed (s.lineField n 28 23 16) 8
  if lvl < (v0 - s.rd F.SL_JUDGE1_NOPILOT_DB) * 2 ^ 24 then 7
  else if ¬ noCurrent ∧ zmag * 256 < s.rd F.SL_JUDGE0_SHORT_X * z0 then 4
  else if noCurrent ∨ s.rd F.SL_JUDGE0_OPEN_X * z0 < zmag * 16 then 3
  else if earth ∧ s.rd F.SL_JUDGE1_LEAK_DELTA < ((ratio : Int) - r0).natAbs then 5
  else if s.rd F.SL_JUDGE0_DRIFT_PCT * z0 < ((zmag : Int) - z0).natAbs * 100 ∨
      (s.rd F.SL_JUDGE0_DRIFT_DEG : Int) * 2 ^ 24 < ((wrapPhase (zph - p0)).natAbs : Int) then 6
  else 2

/-- A line of a learn is finished (R247): LEFT, the results, and the end of the run. -/
def State.learnLeft (s : State) (n : Nat) (ok : Bool) : State :=
  match s.sl.run with
  | none => s
  | some r =>
    if ¬ r.left.contains n then s
    else
      let r1 := { r with left := r.left.filter (· != n), ones := r.ones + ok.toNat }
      let s1 := (if ok then s.bump F.SL_RES_CNT0_PASS else s.bump F.SL_RES_CNT1_INCOMPLETE).wr F.SL_RUN_STAT_LEFT r1.left.length
      if r1.left = [] then
        (({ s1 with sl := { s1.sl with run := none } }.wr F.SL_RUN_STAT_STATE 3).wr F.SL_STAT_RUN_ACTIVE 0).runRecord r1 4
      else { s1 with sl := { s1.sl with run := some r1 } }

/-- The end of a line's learn (R247): the baseline stored, or kept where an integration lies too far from the mean. -/
def State.learnDone (s : State) (n : Nat) (l : List (Nat × Int × Nat × Int)) : State :=
  let zs := l.map fun x => (x.1, x.2.1)
  let m := meanMag zs
  let bad := l.any fun x => decide (s.rd F.SL_JUDGE0_DRIFT_PCT * m < ((x.1 : Int) - m).natAbs * 200)
  let s1 := s.setLineSt n { s.lineSt n with learn := none, count := 0, reading := 0 }
  let r := (quot ((l.map fun x => (x.2.2.1 : Int)).sum) l.length).toNat
  if bad then (s1.lineTo n 0 m (meanPhase zs) r).learnLeft n false
  else
    let v := max (-128) (quot ((l.map fun x => x.2.2.2).sum) (l.length * 2 ^ 24))
    let s2 := ((((s1.setLineBits n 20 31 0 m).setLineBits n 24 31 0 (unsigned (meanPhase zs) 32)).setLineBits n 28 15 0 r
      ).setLineBits n 28 23 16 (unsigned v 8)).setLineBits n 28 31 31 1
    (s2.lineTo n 0 m (meanPhase zs) r).learnLeft n true

/-- RE and IM of a line's sense, samples counted, whether the generator ramped, integrations completed (R102, R243). -/
def State.sense (s : State) (n k : Nat) : Int × Int × Nat × Bool :=
  match s.senseInst n k with
  | some i => let l := s.lineLane n k
    (i.st.g.getD l 0, i.st.g.getD (4 + l) 0, i.st.lev.getD l 0, i.st.flag.getD 5 false)
  | none => (0, 0, 0, false)

/-- Samples of a line's integration (R242). -/
def State.integLen (s : State) (n : Nat) : Nat :=
  match s.senseInst n 0 with
  | some i => (roundDiv ((i.now.n 0x20 * s.fs : Nat) : Int) 1000).toNat
  | none => 0

/-- A write of a line entry takes effect at an integration boundary (R248); a learn of the line fails with it (DESIGN CHOICE, log entry 58). -/
def State.lineApply (s : State) (n : Nat) (moved : Bool) : State :=
  let s1 := s.setLineSt n LineSt.rest
  let s2 := if moved then s1.setLineBits n 28 31 31 0 else s1
  let s3 := (s2.lineMove n 0).showLines
  if (s.lineSt n).learn.isSome then s3.learnLeft n false else s3

/-- An integration of a line judged (R242 to R245, R247, R248). -/
def State.judge (s : State) (n : Nat) : State :=
  let l := s.lineSt n
  match l.written with
  | some moved => s.lineApply n moved
  | none =>
    if ¬ s.on F.SL_CTRL_JUDGE_EN ∨ ¬ s.enabled 0x28 ∨ ¬ s.lineEn n then s
    else
      let why := s.lineBad n
      if why ≠ 0 then (s.wrAll [(F.SL_ERR_LINE, n), (F.SL_ERR_REASON, why)]).pulse 0x28 7
      else
        let v := s.sense n 0; let i := s.sense n 1; let e := s.sense n 2
        let earth := s.lineHandle n 2 != 0xFFFF
        let few := (s.lineSenses n).any fun k => decide (2 * (s.sense n k).2.2.1 < s.integLen n)
        if few ∨ v.2.2.2 then s
        else
          let zm := lineMag (s.lineField n 12 31 0) v.1 v.2.1 (s.lineField n 16 31 0) i.1 i.2.1
          let zp := linePhase v.1 v.2.1 i.1 i.2.1
          let rt := if earth then lineRatio e.1 e.2.1 v.1 v.2.1 else 0
          let lv := lineLevel v.1 v.2.1
          match l.learn with
          | some got =>
            let got1 := got ++ [(zm, zp, rt, lv)]
            if s.rd F.SL_JUDGE1_LEARN_N ≤ got1.length then s.learnDone n got1 else s.setLineSt n { l with learn := some got1 }
          | none =>
            if ¬ s.lineBased n then s
            else
              let rd := s.reading n zm zp rt lv (i.1 == 0 && i.2.1 == 0) earth
              let c := if l.reading = rd then l.count + 1 else 1
              let s1 := s.setLineSt n { l with reading := rd, count := min c 15 }
              if s.lineConfirm n ≤ c then s1.lineTo n rd zm zp rt else s1

/-- A change of a generator's FREQ clears the baseline of every line whose correlators name it (R248); without one a line stays UNKNOWN (R247). -/
def State.freqChanged (s : State) (h : Nat) : State :=
  s.each (List.range 1024) fun t n =>
    match t.senseInst n 0 with
    | some i => if i.now.n 0x10 % 65536 = h ∧ t.lineBased n then
        (let u := t.setLineBits n 28 31 31 0; if t.lineState n = 1 then u else u.lineMove n 0)
      else t
    | none => t

/-- Writes of the host to a table (R241, R248, R250, R254): read-only fields keep their value; a line entry's write waits
for its integration boundary. -/
def State.tableWrite (s : State) (o : Nat) (w : Word) : State :=
  if 0x3050000 ≤ o ∧ o < 0x3058000 then
    let k := o % 32
    let n := (o - 0x3050000) / 32
    if 20 ≤ k then s
    else
      let m : Word := if k = 0 then 0xFFFF83FF else if k = 8 then 0x00000F3F else 0xFFFFFFFF
      let v := (w &&& m) ||| (s.word o &&& ~~~m)
      let key (x : Word) : Word := if k = 0 then x &&& 0xFFFF03FF else if k = 4 then x else if k = 8 then x &&& 0x3F else 0
      let moved := key v != key (s.word o)
      let l := s.lineSt n
      let was := if l.written.isSome then l.was else (List.range 5).map fun i => s.word (o - k + 4 * i)
      (s.setWord o v).setLineSt n { l with written := some (moved || l.written == some true), was := was }
  else if 0x3058000 ≤ o ∧ o < 0x3059000 then
    if o % 16 = 0 then s.setWord o (w &&& 0x03FF87FF) else if o % 16 = 4 then s.setWord o w else s
  else if 0x3060000 ≤ o ∧ o < 0x3070000 then
    if o % 16 = 0 then s.setWord o (w &&& 0x80FF03FF) else if o % 16 = 4 then s.setWord o (w &&& 0xFFFF) else s
  else s

/-! Ambient sensing (R250 to R253). -/

/-- An estimate published (R252, R253): level in Q8.24 dBFS. -/
def State.publish (s : State) (z : Nat) (lvl : Int) (tick : Nat) (held : Bool) : State :=
  let f (x : Fld) : Fld := ⟨0x2A040 + 4096 * (z / 512) + 4 * (z % 512), x.hi, x.lo⟩
  let s1 := s.wrAll [(f F.SL_AMB_EST_LEVEL, unsigned (roundShift lvl 16) 16), (f F.SL_AMB_EST_VALID, 1), (f F.SL_AMB_EST_HELD, held.toNat),
    (f F.SL_AMB_EST_AGE, 0)]
  let amb := (s1.eng.amb.filter fun x => x.1 != z) ++ [(z, lvl, tick)]
  { s1 with eng := { s1.eng with amb := amb }, sl := { s1.sl with ambAt := Sparse.set 0 s1.sl.ambAt z (s1.ms + 1) } }

/-- The zones that a run has on the go, changed. -/
def State.setZone (s : State) (z : ZoneRun) : State :=
  match s.sl.run with
  | some r => { s with sl := { s.sl with run := some { r with zones := r.zones.map fun x => if x.zone = z.zone then z else x } } }
  | none => s
def State.zoneRun (s : State) (z : Nat) : Option ZoneRun := s.sl.run.bind fun r => r.zones.find? fun x => x.zone == z

/-- Periods a run's output takes (R258): the largest DWELL_S of its paths, else the run's. -/
def State.dwellPeriods (s : State) (r : SlRun) (o : Nat) : Nat :=
  let ps := r.left.filter fun p => s.pathOut p == o
  let d := (ps.map fun p => let x := s.pathDwell p; if x = 0 then r.dwell else x).foldl max 0
  d * s.fs / 8192

/-- Whether Safelight listens: ambient analysis or a run, with the share in place (R250, R258, R266). -/
def State.listens (s : State) : Bool := (s.on F.SL_CTRL_AMB_EN || s.sl.run.isSome) && s.enabled 0x28 && !s.sl.shed

/-- A frame's samples of a channel heard (R250): blocks are aligned to sample numbers that are multiples of 8,192. -/
def Heard.take (h : Heard) (at_ : Nat) (xs : List Word) (ok : Bool) : Heard :=
  let c : Heard := if at_ % 8192 ≠ 0 ∧ h.from_ + h.data.length = at_ then h else { h with from_ := at_, data := [], ok := true }
  let d := c.data ++ xs
  if d.length = 8192 then { c with from_ := at_ + xs.length, data := [], ok := true, whole := some (c.from_, c.ok && ok, d) }
  else { c with data := d, ok := c.ok && ok }
def State.hear (s : State) (key : Nat) (xs : List Word) (ok : Bool) : State :=
  { s with sl := { s.sl with heard := Sparse.set Heard.rest s.sl.heard key ((Sparse.get Heard.rest s.sl.heard key).take (s.frame * s.F) xs ok) } }

/-- The microphones heard in the frame in process: their input channels after concealment (R250). -/
def State.hearMics (s : State) : State :=
  if ¬ s.listens then s
  else s.each ((List.range 256).filter fun m => s.micEn m) fun t m =>
    let c := s.micInput m
    t.hear m ((List.range s.F).map fun i => sampleAt s.eng.aIn c i) ((List.range s.F).all fun i => !Sparse.get false s.eng.bad (16 * c + i))

/-- The outputs that lie in a zone with a microphone heard (R250). -/
def State.hearOutputs (s : State) : State :=
  if ¬ s.listens ∨ ¬ s.on F.SL_CTRL_AMB_EN then s
  else s.each ((List.range (s.vrd F.XPT_DIM1)).filter fun o => match s.zoneOf o with
      | some z => s.micsOf z != []
      | none => false) fun t o =>
    t.hear (256 + o) ((List.range s.F).map fun i => sampleAt s.eng.eOut o i) true

/-- The block of a channel that began at a sample number, where it is whole and valid. -/
def State.blockAt (s : State) (key at_ : Nat) : Option (List Word) := match (Sparse.get Heard.rest s.sl.heard key).whole with
  | some (a, ok, d) => if a = at_ ∧ ok then some d else none
  | none => none

/-- A microphone's state (R251, R252). -/
def State.micSt (s : State) (m : Nat) : MicSt := Sparse.get MicSt.rest s.sl.mics m
def State.setMic (s : State) (m : Nat) (x : MicSt) : State := { s with sl := { s.sl with mics := Sparse.set MicSt.rest s.sl.mics m x } }

/-- G of a path (R251): the band energies of its reference, else of its last PASS or MARGINAL. -/
def State.pathGain (s : State) (o m : Nat) : Option (List (Option Int)) :=
  ((List.range 4096).filter fun p => s.pathEn p && s.pathOut p == o && s.pathMic p == m).findSome? fun p =>
    match Sparse.get none s.sl.refs p with
    | some r => some r.bands
    | none => let g := Sparse.get [] s.sl.gains p; if g = [] then none else some g

/-- The outputs of a zone (R136). -/
def State.outputsOf (s : State) (z : Nat) : List Nat := (List.range (s.rd F.XPT_DIM1)).filter fun o => s.zoneOf o == some z

/-- A block of one microphone of a zone (R251, R252): what it leaves the microphone with, whether it updated it, whether programme dominated it. -/
def State.micBlock (s : State) (z m a : Nat) (data : List Word) : MicSt × Bool × Bool :=
  let fs := s.fs
  let old := s.micSt m
  let cal := signed (s.word (0x3058000 + 16 * m + 4)).toNat 32
  let mic := (bandPowers fs data).map fun p => p * powerOf cal / 2 ^ 96
  let outs := (s.outputsOf z).map fun o => (s.pathGain o m, bandPowers fs ((s.blockAt (256 + o) a).getD []))
  let pred (b : Nat) : Nat := (outs.map fun x => match x.1.bind fun g => g.getD b none with
    | some g => x.2.getD b 0 * powerOf g / 2 ^ 96
    | none => 0).sum
  let bands := (List.range 23).filter fun b => decide (0 < binsIn fs b)
  let free (b : Nat) : Bool := decide (2 * pred b ≤ mic.getD b 0)
  let held := (bands.filter fun b => !free b).length
  let silent := outs.all fun x => decide (x.2.sum * 10 ^ 9 < 2 ^ 96)
  let dominated := decide (bands.length < 2 * held)
  if dominated ∨ (outs.any fun x => x.1.isNone) ∧ ¬ silent then ({ old with block := some a }, false, dominated)
  else
    let now := (List.range 23).map fun b => if bands.contains b ∧ free b then some (mic.getD b 0 - pred b) else old.ambient.getD b none
    let w := fx - exp2 (-(8192 * 114302077158074026402637675936 / ((max 1 (s.rd F.SL_AMB) * fs : Nat) : Int)))
    let avg := (List.range 23).map fun b => match now.getD b none, old.average.getD b none with
      | some p, some q => some ((q : Int) + w * ((p : Int) - q) / fx).toNat
      | some p, none => some p
      | none, q => q
    (⟨some a, now, avg⟩, true, false)

/-- An analysis block of a zone (R250 to R252, R260): the microphones' new state, whether any was updated, whether programme dominated, the
estimate in Q8.24 dBFS and its tick, and whether the ambient fell toward the probe. -/
structure Analysis where
  mics : List (Nat × MicSt)
  updated : Bool
  held : Bool
  level : Word
  tick : Nat
  fell : Bool
deriving DecidableEq, Repr

/-- Σ of a microphone's averages, A-weighted (R252). -/
def MicSt.weighted (x : MicSt) : Nat := ((indexed x.average).map fun p => match p.2 with
  | some q => q * powerOf (aWeight.getD p.1 0 * 2 ^ 24 / 10) / 2 ^ 96
  | none => 0).sum

/-- Whether a microphone's average lies more than MARGIN_DB / 2 below what a probe was shaped from (R260). -/
def State.fellFrom (s : State) (used : List (Nat × List (Option Nat))) (m : Nat) (x : MicSt) : Bool :=
  match used.find? fun u => u.1 == m with
  | none => false
  | some u => (indexed u.2).any fun p => match p.2, x.average.getD p.1 none with
    | some a, some b => decide (b * powerOf (s.rd F.SL_VERIFY0_MARGIN_DB * 2 ^ 23) < a * 2 ^ 96)
    | _, _ => false

/-- The newest block of a zone, once it is whole for the zone's outputs too, and not analysed before. -/
def State.analysis (s : State) (z : Nat) : Option Analysis :=
  let mics := s.micsOf z
  match (mics.filterMap fun m => (Sparse.get Heard.rest s.sl.heard m).whole).head? with
  | none => none
  | some (a, _, _) =>
    if (s.outputsOf z).any (fun o => (s.blockAt (256 + o) a).isNone) ∨ mics.all (fun m => (s.micSt m).block == some a) then none
    else
      let xs := mics.filterMap fun m => (s.blockAt m a).map fun d => (m, s.micBlock z m a d)
      let up := xs.filter fun x => x.2.2.1
      let mean := (up.map fun x => x.2.1.weighted).sum / max 1 up.length
      let lvl := max (-(2 ^ 31)) (min (2 ^ 31 - 1) (levelOf mean))
      some ⟨xs.map fun x => (x.1, x.2.1), up != [], up == [] && xs.any fun x => x.2.2.2, BitVec.ofInt 32 lvl, (a + 8191) / s.F,
        (s.zoneRun z).any fun r => xs.any fun x => s.fellFrom r.used x.1 x.2.1⟩

/-- A path's result (R254, R262, R269): outcome, table, counters, record, sources, and LEFT. -/
def State.pathEnd (s : State) (p outcome flags : Nat) (toa dtoa rho snr qual : Nat) (bands : List Byte) : State :=
  match s.sl.run with
  | none => s
  | some r =>
    if ¬ r.left.contains p then s
    else
      let a := 0x3060000 + 16 * p
      let s1 := s.setWord (a + 8) ((⟨0, 2, 0⟩ : Fld).put (s.word (a + 8)) outcome)
      let s2 := match outcome with
        | 0 => s1.bump F.SL_RES_CNT1_INCOMPLETE
        | 1 => s1.bump F.SL_RES_CNT0_PASS
        | 2 => (s1.bump F.SL_RES_CNT0_MARGINAL).pulse 0x28 6
        | 3 => (s1.bump F.SL_RES_CNT1_FAIL).pulse 0x28 5
        | _ => s1
      let b : List Byte := [2, BitVec.ofNat 8 outcome] ++ leBytes 2 p ++ leBytes 2 (s.pathOut p) ++
        [BitVec.ofNat 8 (s.pathMic p), BitVec.ofNat 8 flags] ++ leBytes 8 (((r.heard.find? fun x => x.1 == p).map fun x => x.2.last).getD s.tick) ++ leBytes 2 toa ++ leBytes 2 dtoa ++
        leBytes 2 rho ++ [BitVec.ofNat 8 snr, BitVec.ofNat 8 qual] ++ (bands ++ List.replicate 23 0x80#8).take 23
      let s3 := s2.slRecord 0 0 b
      let r1 := { r with left := r.left.filter (· != p), extract := r.extract.filter fun x => x.1 != p,
                         heard := r.heard.filter fun x => x.1 != p,
                         ones := r.ones + (decide (outcome = 1)).toNat, threes := r.threes + (decide (outcome = 3)).toNat }
      let s4 := s3.wr F.SL_RUN_STAT_LEFT r1.left.length
      if r1.left = [] then
        ({ s4 with sl := { s4.sl with run := none } }.wrAll [(F.SL_RUN_STAT_STATE, 3), (F.SL_STAT_RUN_ACTIVE, 0),
          (F.SL_STAT_ZONES_RUNNING, 0)]).runRecord r1 2
      else { s4 with sl := { s4.sl with run := some r1 } }

/-- The next output of a zone, or the end of the zone's part and the next zone (R255). -/
def State.nextOutput (s : State) (z : ZoneRun) : State :=
  match s.sl.run with
  | none => s
  | some r =>
    match z.outputs with
    | o :: t =>
      let mics := (r.left.filter fun p => s.pathOut p == o).map fun p => s.pathMic p
      s.setZone { z with outputs := t, output := some o, ready := false, power := [], used := [], gains := [], from_ := none, stop := none, periods := 0,
                         sums := [], restarts := 0, yielded := false, off := false, void := [], acc := mics.map fun m => (m, 0),
                         provisional := (r.left.any fun p => s.pathOut p == o && !s.refValid p) }
    | [] =>
      let zs := r.zones.filter fun x => x.zone != z.zone
      let s1 := { s with sl := { s.sl with run := some { r with zones := zs } } }
      s1.wr F.SL_STAT_ZONES_RUNNING zs.length

/-- Waiting zones started while concurrency is free (R255, R265). -/
def State.startZones (s : State) (cap : Nat) : Nat → State
  | 0 => s
  | k + 1 =>
    match s.sl.run with
    | none => s
    | some r =>
      match r.waiting with
      | [] => s
      | z :: t =>
        if cap ≤ r.zones.length then s
        else
          let outs := ((r.left.filter fun p => s.zoneOf (s.pathOut p) == some z).map fun p => s.pathOut p)
          let outs := (List.range 1024).filter fun o => outs.contains o
          let zr : ZoneRun := { zone := z, outputs := outs, output := none, ready := false, shape := 0, power := [], used := [],
                                provisional := false, gains := [], from_ := none, stop := none, periods := 0, last := 0, acc := [], sums := [], restarts := 0, yielded := false,
                                off := false, busyAt := s.tick, void := [] }
          let s1 := { s with sl := { s.sl with run := some { r with waiting := t, zones := r.zones ++ [zr] } } }
          ((s1.nextOutput zr).wr F.SL_STAT_ZONES_RUNNING (r.zones.length + 1)).startZones cap k

/-! The share (R264 to R266). -/

/-- The clusters that carry the share. -/
def State.shareClusters (s : State) : List Nat := (List.range 16).filter fun c => bitOf (s.rd F.SL_SHARE) c

/-- One group placed on the least-loaded share cluster (R265); none where it does not fit. -/
def placeGroup (cyc : Nat) (loads : List Nat) (cost : Nat) : Option (List Nat) :=
  match loads with
  | [] => none
  | _ =>
    let m := loads.foldl min (loads.headD 0)
    if cyc < m + cost then none
    else match (indexed loads).find? fun x => x.2 == m with
      | some (i, _) => some (loads.set i (m + cost))
      | none => none

/-- `n` groups of a cost placed, as many as fit: how many, and the loads. -/
def placeGroups (cyc cost : Nat) : Nat → List Nat → Nat × List Nat
  | 0, l => (0, l)
  | n + 1, l => match placeGroup cyc l cost with
    | some l1 => let r := placeGroups cyc cost n l1; (r.1 + 1, r.2)
    | none => (0, l)

/-- The groups that ambient analysis of a zone takes: those of its microphones' inputs and of its outputs (R250). -/
def State.ambGroups (s : State) (z : Nat) : Nat :=
  (((s.micsOf z).map fun m => s.micInput m / 4).eraseDups).length +
  ((((List.range (s.rd F.XPT_DIM1)).filter fun o => s.zoneOf o == some z).map fun o => o / 4).eraseDups).length

/-- Zones with a microphone, in rising order. -/
def State.micZones (s : State) : List Nat :=
  let zs := ((List.range 256).filter fun m => s.micEn m).map fun m => s.micZone m
  (List.range 1024).filter fun z => zs.contains z

/-- Ambient analysis placed zone by zone (R265): the zones that fit, the loads, whether any was left out. -/
def State.placeAmb (s : State) : List Nat × List Nat × Bool :=
  let cyc := s.rd F.SL_SHARE_CYC
  let l0 := s.shareClusters.map fun _ => 0
  if ¬ s.on F.SL_CTRL_AMB_EN then ([], l0, false)
  else s.micZones.foldl (fun (a : List Nat × List Nat × Bool) z =>
    if a.2.2 then a
    else
      let n := s.ambGroups z
      let r := placeGroups cyc (30 * s.F) n a.2.1
      if r.1 = n then (a.1 ++ [z], r.2, false) else (a.1, a.2.1, true)) ([], l0, false)

/-- How many zones may accumulate at once beside ambient analysis (R255, R265, R266): at most 16. -/
def State.zoneCap (s : State) (zs : List Nat) : Nat :=
  let r := zs.foldl (fun (a : Nat × List Nat × Bool) z =>
    if a.2.2 then a
    else
      let n := (((s.micsOf z).map fun m => s.micInput m / 4).eraseDups).length
      let p := placeGroups (s.rd F.SL_SHARE_CYC) (4 * s.F) n a.2.1
      if p.1 = n then (a.1 + 1, p.2, false) else (a.1, a.2.1, true)) (0, s.placeAmb.2.1, false)
  min 16 r.1

/-- The share at the end of a tick (R264, R265): the continuous load, and whether ambient analysis fits. -/
def State.shareTick (s : State) : State :=
  let a := s.placeAmb
  let acc := match s.sl.run with
    | some r => r.zones.foldl (fun (l : List Nat) (z : ZoneRun) => (placeGroups (s.rd F.SL_SHARE_CYC) (4 * s.F)
        (((s.micsOf z.zone).map fun m => s.micInput m / 4).eraseDups).length l).2) a.2.1
    | none => a.2.1
  let load := if s.sl.shed then 0 else acc.foldl max 0
  (s.wr F.SL_SHARE_USE load).source 0x28 8 (s.on F.SL_CTRL_AMB_EN && a.2.2)

/-! Commands (R254, R255, R247, R268). -/

/-- The reserved fields and the range of a SAFELIGHT_RUN body are in order (R254). -/
def runBodyOk (b : List Byte) (table : Nat) : Bool :=
  let all := bitOf (fieldAt b 1 1) 0
  decide (fieldAt b 1 1 < 2) && decide (fieldAt b 16 16 = 0) &&
  (all || (decide (fieldAt b 4 2 ≠ 0) && decide (fieldAt b 2 2 + fieldAt b 4 2 ≤ table)))

/-- The entries a body names. -/
def runRange (b : List Byte) (table : Nat) : List Nat :=
  if bitOf (fieldAt b 1 1) 0 then List.range table else (List.range (fieldAt b 4 2)).map fun i => fieldAt b 2 2 + i

/-- The start tick of a run; none where it lies too near (R254). -/
def State.runStart (s : State) (b : List Byte) : Option Nat :=
  let t := fieldAt b 8 8
  if t = 0 then some (s.tick + 3) else if t < s.tick + 3 ∧ ¬ s.isStandby then none else some t

/-- A body with its start tick resolved, as the standby takes it (R267). -/
def withStart (b : List Byte) (t : Nat) : List Byte := b.take 8 ++ leBytes 8 t ++ b.drop 16

/-- A run comes into being (R255): its registers and its RUN_STATE record. -/
def State.beginRun (s : State) (r : SlRun) : State :=
  let s1 := { s with sl := { s.sl with run := some r, nextId := s.sl.nextId + 1 } }
  (s1.wrAll [(F.SL_RUN_ID, r.id), (F.SL_RUN_STAT_LEFT, r.left.length), (F.SL_RUN_STAT_STATE, 1), (F.SL_RES_CNT0_MARGINAL, 0),
    (F.SL_RES_CNT0_PASS, 0), (F.SL_RES_CNT1_INCOMPLETE, 0), (F.SL_RES_CNT1_FAIL, 0), (F.SL_STAT_RUN_ACTIVE, 1)]).runRecord r 1

/-- Whether a path is skipped (R255). -/
def State.pathSkipped (s : State) (op p : Nat) : Bool :=
  let o := s.pathOut p
  (match s.zoneOf o with
   | none => true
   | some z => z != s.micZone (s.pathMic p)) ||
  !(s.eng.insts.any fun i => i.info.typ == 0x0A && i.info.phase == 2 && i.info.group == o / 4) || (op == 1 && !s.refValid p)

/-- VERIFY and CAPTURE. -/
def State.slVerify (s : State) (b : List Byte) (op : Nat) : CmdRes :=
  let dwell := fieldAt b 6 2
  match s.runStart b with
  | none => s.fin 4
  | some t =>
    if ¬ runBodyOk b 4096 ∨ dwell < 10 ∨ 600 < dwell then s.fin 4
    else if s.sl.run.isSome then s.fin 0x0C
    else
      let ps := (runRange b 4096).filter fun p => s.pathEn p
      let run := ps.filter fun p => !s.pathSkipped op p
      let zs := (List.range 1024).filter fun z => run.any fun p => s.zoneOf (s.pathOut p) == some z
      let cap := s.zoneCap zs
      if zs ≠ [] ∧ cap = 0 then s.fin 0x2C
      else
        let r : SlRun := { id := s.sl.nextId, op := op, start := t, dwell := dwell, left := ps, extract := [], heard := [], total := ps.length,
                           waiting := zs, zones := [], ones := 0, threes := 0 }
        let s1 := s.beginRun r
        let s2 := if ps = [] then
            (({ s1 with sl := { s1.sl with run := none } }).wrAll [(F.SL_RUN_STAT_STATE, 3), (F.SL_STAT_RUN_ACTIVE, 0)]).runRecord r 2
          else s1.startZones cap 16
        let s3 := s2.each (ps.filter fun p => s.pathSkipped op p) fun t p => t.pathEnd p 4 0 0 0 0 0 0 []
        (s3.armChange (.safelight r.id (withStart b t))).finWith 0 0 r.id 0

/-- LEARN_LINES (R247). -/
def State.slLearn (s : State) (b : List Byte) : CmdRes :=
  match s.runStart b with
  | none => s.fin 4
  | some t =>
    if ¬ runBodyOk b 1024 then s.fin 4
    else if s.sl.run.isSome then s.fin 0x0C
    else
      let ns := (runRange b 1024).filter fun n => s.lineEn n && s.lineBad n == 0
      let r : SlRun := { id := s.sl.nextId, op := 3, start := t, dwell := 0, left := ns, extract := [], heard := [], total := ns.length,
                         waiting := [], zones := [], ones := 0, threes := 0 }
      let s1 := s.beginRun r
      let s2 := if ns = [] then
          (({ s1 with sl := { s1.sl with run := none } }).wrAll [(F.SL_RUN_STAT_STATE, 3), (F.SL_STAT_RUN_ACTIVE, 0)]).runRecord r 4
        else s1
      (s2.armChange (.safelight r.id (withStart b t))).finWith 0 0 r.id 0

/-- The lines of a learn begin with its start tick (R247, R254). -/
def State.startLearn (s : State) : State := match s.sl.run with
  | some r => if r.op = 3 ∧ r.start = s.tick then
      s.each r.left fun t n => (t.setLineSt n { t.lineSt n with reading := 0, count := 0, learn := some [] }).lineMove n 1
    else s
  | none => s

/-- A probe that plays goes on as a fade-out from the present sample number on (R255, R256, R258, R543). -/
def State.probeFade (s : State) (run : Nat) (z : ZoneRun) : State :=
  let n := s.tick * s.F
  let live := s.sl.tails.filter fun x => decide (n < x.2.stop.getD 0 + 4096)
  let x := if z.from_.isSome then [(run, { z with stop := some (z.stop.getD n) })] else []
  { s with sl := { s.sl with tails := live ++ x } }

/-- STORE (R255, R268): the write of the alternate half begins. -/
def State.slStore (s : State) (t : Ticket) (b : List Byte) : CmdRes :=
  if fieldAt b 1 1 ≥ 2 ∨ fieldAt b 16 16 ≠ 0 then s.fin 4
  else if s.sl.run.isSome ∨ s.sl.storing.isSome then s.fin 0x0C
  else (({ s with sl := { s.sl with storing := some t } }).wr F.SL_STAT_STORE_BUSY 1).later

/-- ABORT (R255): the probes ramp out, unfinished paths leave no record, the run ends. -/
def State.slAbort (s : State) (b : List Byte) : CmdRes :=
  match s.sl.run with
  | none => s.fin 4
  | some r =>
    if fieldAt b 1 1 ≥ 2 ∨ fieldAt b 16 16 ≠ 0 then s.fin 4
    else
      let s0 := s.each r.zones fun t z => t.probeFade r.id z
      let s1 := if r.op = 3 then s0.each r.left fun t n =>
          if (t.lineSt n).learn.isNone then t else (t.setLineSt n { t.lineSt n with reading := 0, count := 0, learn := none }).lineMove n 0
        else s0
      let s2 := ({ s1 with sl := { s1.sl with run := none } }).wrAll [(F.SL_RUN_STAT_STATE, 4), (F.SL_STAT_RUN_ACTIVE, 0),
        (F.SL_STAT_ZONES_RUNNING, 0), (F.SL_RUN_STAT_LEFT, 0)]
      ((s2.runRecord r 3).armChange (.safelight r.id b)).finWith 0 0 r.id 0

/-- A STORE ends (R268). -/
def State.storeDone (s : State) (ok : Bool) : State :=
  match s.sl.storing with
  | none => s
  | some t =>
    let s1 := ({ s with sl := { s.sl with storing := none } }).wr F.SL_STAT_STORE_BUSY 0
    if ok then
      let tables := s1.win.filter fun x => decide (0x3050000 ≤ x.1)
      ({ s1 with flash := { s1.flash with safelight := ⟨tables, s1.sl.refs⟩ } }).respond t 0 0 0 0
    else (s1.pulse 0x28 9).respond t 0x28 0 0 0

/-! Probes (R256 to R260) and results (R261 to R263). -/

/-- Whether the first sample of the present tick lies on a period boundary (R256). -/
def State.onPeriod (s : State) : Bool := s.tick * s.F % 8192 == 0

/-- The ambient that a zone's probe is shaped from (R256). -/
def State.ambientNow (s : State) (r : ZoneRun) : List (Nat × List (Option Nat)) := r.acc.map fun x => (x.1, (s.micSt x.1).average)

/-- The band powers of a zone's probe (R256, R257): per band the smallest ambient of its microphones less the path's gain, less MARGIN_DB; a
band that a microphone has no ambient of gets none. -/
def State.shapeFor (s : State) (r : ZoneRun) (o : Nat) : List Nat :=
  probePowers ((List.range 23).map fun b =>
    let l := r.acc.map fun x => ((s.micSt x.1).average.getD b none).map fun a =>
      levelOf a - (((s.pathGain o x.1).getD (((r.gains.find? fun g => g.1 == x.1).map (·.2)).getD [])).getD b none).getD 0
    if binsIn s.fs b = 0 ∨ l.contains none then none
    else (l.filterMap id).min?.map fun m => m - s.rd F.SL_VERIFY0_MARGIN_DB * 2 ^ 24)

/-- Synthesis of a zone's probe is complete (R256); a standby plays the active's (R267). -/
def State.probeReady (s : State) (z : Nat) : State :=
  match s.zoneRun z with
  | some r =>
    if ¬ r.ready ∧ ¬ s.isStandby then (match r.output with
      | some o =>
        let w := s.shapeFor r o
        (({ s with sl := { s.sl with shapes := s.sl.shapes + 1 } }).setZone { r with ready := true, shape := s.sl.shapes, power := w, used := s.ambientNow r }
          ).mirrorWrite (.shape z s.sl.shapes w s.tick)
      | none => s)
    else s
  | none => s

/-- A probe starts at a period boundary (R258). -/
def State.probeStart (s : State) (z : Nat) : State :=
  match s.zoneRun z, s.sl.run with
  | some r, some q =>
    if r.ready ∧ r.from_ = none ∧ s.onPeriod ∧ q.start ≤ s.tick ∧ ¬ s.sl.shed then
      s.setZone { r with from_ := some (s.tick * s.F), periods := 0, last := s.tick * s.F, acc := r.acc.map fun x => (x.1, 0), sums := [] }
    else s
  | _, _ => s

/-- A restart of a zone's output from a fresh synthesis (R257, R260). -/
def ZoneRun.again (r : ZoneRun) : ZoneRun :=
  { r with ready := false, from_ := none, stop := none, periods := 0, off := false, acc := r.acc.map fun x => (x.1, 0), sums := [] }

/-- What a zone's microphone has accumulated (R258, R261). -/
def ZoneRun.response (r : ZoneRun) (run o m F : Nat) : Response :=
  { probe := ⟨run, o, r.restarts, r.power⟩, periods := ((r.acc.find? fun x => x.1 == m).map (·.2)).getD 0, even := Sparse.get [] r.sums (2 * m),
    odd := Sparse.get [] r.sums (2 * m + 1), last := r.last / F }

/-- The microphones of a zone for which the period that ends at sample number `n` counts (R258): every sample valid, no ramp and no yield over
it. -/
def State.periodMics (s : State) (r : ZoneRun) (a n : Nat) (bad : List Nat) : List Nat :=
  if n ≤ a + 8192 ∨ r.off ∨ r.stop.isSome then []
  else (r.acc.map (·.1)).filter fun m => !bad.contains m && (s.blockAt m (n - 8192)).isSome

/-- A period has passed (R257, R258), once the tick's entry has brought its last samples: it is accumulated for the microphones for which it
counts. -/
def State.probePeriod (s : State) (z : Nat) (bad eccBad : List Nat) : State :=
  match s.zoneRun z, s.sl.run with
  | some r, some q =>
    match r.from_ with
    | none => s
    | some a =>
      let n := s.tick * s.F
      if n ≤ r.last ∨ ¬ s.onPeriod ∨ s.sl.shed ∨ ¬ s.eng.aDone then s
      else
        let ms := s.periodMics r a n bad
        let acc := r.acc.map fun x => if ms.contains x.1 then (x.1, x.2 + 1) else x
        let sums := ms.foldl (fun t m => let k := 2 * m + r.periods % 2
          Sparse.set [] t k (combine (· + ·) (Sparse.get [] t k) (((s.blockAt m (n - 8192)).getD []).map BitVec.toInt))) r.sums
        let r1 : ZoneRun := { r with periods := r.periods + 1, last := n, acc := acc, sums := sums, void := r.void ++ eccBad }
        if r1.provisional ∧ acc.all (fun x => decide (32 ≤ x.2)) then
          let gains := r1.acc.map fun x => (x.1, energies ((r1.response q.id (r1.output.getD 0) x.1 s.F).bands s.fs))
          ((s.probeFade q.id r1).setZone { r1.again with provisional := false, gains := gains }).mirrorWrite (.restart z r1.restarts s.tick)
        else s.setZone r1
  | _, _ => s

/-- The zone shows activity of a priority at or below YIELD_PRIO (R259). -/
def State.zoneBusy (s : State) (z : Nat) : Bool := Sparse.get 0 s.eng.zoneNew z % 2 ^ (s.rd F.SL_VERIFY3_YIELD_PRIO + 1) != 0

/-- A probe yields, or returns at a period boundary after one clear period (R259). -/
def State.probeYield (s : State) (z : Nat) : State :=
  match s.zoneRun z with
  | some r =>
    if r.from_.isNone then s
    else if s.zoneBusy z ∧ ¬ r.off then
      (s.setZone { r with off := true, yielded := true, stop := some (s.tick * s.F), busyAt := s.tick }).bump F.SL_PAUSE_CNT
    else if r.off ∧ ¬ s.zoneBusy z ∧ s.onPeriod ∧ 8192 ≤ (s.tick - r.busyAt) * s.F then
      s.setZone { r with off := false, stop := none, from_ := some (s.tick * s.F) }
    else s
  | none => s

/-- The zones whose word shows such activity in this frame (R259). -/
def State.noteBusy (s : State) : State :=
  match s.sl.run with
  | some r =>
    let zs := r.zones.map fun z => if s.zoneBusy z.zone then { z with busyAt := s.tick } else z
    { s with sl := { s.sl with run := some { r with zones := zs } } }
  | none => s

/-- The end of an output (R258): every microphone has its periods, or twice as many have passed. Its probe fades out,
extraction of its paths begins, and the zone goes on to its next output. -/
def State.probeEnd (s : State) (z : Nat) : State :=
  match s.zoneRun z, s.sl.run with
  | some r, some q =>
    match r.output with
    | none => s
    | some o =>
      let np := s.dwellPeriods q o
      let full := r.acc.all fun x => decide (np ≤ x.2)
      if r.from_.isSome && !r.provisional && s.onPeriod && (full || decide (2 * np ≤ r.periods)) then
        let ps := (q.left.filter fun p => s.pathOut p == o).map fun p =>
          (p, r.yielded, decide (0 < r.restarts), r.void.contains (s.pathMic p))
        let hs := ps.map fun p => (p.1, r.response q.id o (s.pathMic p.1) s.F)
        let s1 := { s with sl := { s.sl with run := some { q with extract := q.extract ++ ps, heard := q.heard ++ hs } } }
        let s2 := (s1.probeFade q.id r).nextOutput r
        match s2.sl.run with
        | some q2 => s2.startZones (max q2.zones.length (s2.zoneCap (q2.zones.map (·.zone) ++ q2.waiting))) 16
        | none => s2
      else s
  | _, _ => s

/-- The ambient falls toward a probe (R260): the output restarts, and after three restarts its paths end INCOMPLETE. -/
def State.reshape (s : State) (z : Nat) : State :=
  match s.zoneRun z, s.sl.run with
  | some r, some q =>
    match r.output with
    | none => s
    | some o =>
      if r.from_.isNone then s
      else
        let s1 := s.bump F.SL_RESHAPE_CNT
        if r.restarts + 1 ≤ 3 then
          ((s1.probeFade q.id r).setZone { r.again with restarts := r.restarts + 1 }).mirrorWrite (.restart z (r.restarts + 1) s.tick)
        else
          let ps := q.left.filter fun p => s.pathOut p == o
          (s1.each ps fun t p => t.pathEnd p 0 (64 * r.yielded.toNat + 128) 0 0 0 0 0 []).probeFade q.id r |>.nextOutput r
  | _, _ => s

/-- A verdict of R262: 1 PASS, 2 MARGINAL, 3 FAIL. -/
def verdict (pass marg : Bool) : Nat := if pass then 1 else if marg then 2 else 3

/-- A band energy in Q8.24 dB as a record byte (R269): half dB, saturating, 0x80 where it is not measured. -/
def bandByte : Option Int → Byte
  | none => 0x80
  | some e => BitVec.ofInt 8 (max (-127) (min 127 (roundShift e 23)))

/-- The verdict on a path (R262, R263): TOA, coherence, per band its SNR and energy in Q8.24 dB, and the response from TOA − 256 on. -/
def State.pathResult (s : State) (p toa rho : Nat) (bands : List (Option (Int × Int))) (wave : List Int) : State :=
  match s.sl.run with
  | none => s
  | some r =>
    match r.extract.find? fun x => x.1 == p with
    | none => s
    | some (_, yielded, restarted, void) =>
      let qual := bands.map fun b => b.bind fun x => if (s.rd F.SL_VERIFY0_SNR_MIN : Int) * 2 ^ 24 ≤ x.1 then some x else none
      let n := (qual.filterMap id).length
      let snr := ((qual.filterMap id).map fun x => x.1 / 2 ^ 24).foldl min 255
      let base := 64 * yielded.toNat + 128 * restarted.toNat
      if void ∨ n < s.rd F.SL_VERIFY3_MIN_BANDS then
        s.pathEnd p 0 base toa 0 rho (if n = 0 then 0 else snr.toNat) n ((energies bands).map bandByte)
      else if r.op = 2 then
        let a := 0x3060000 + 16 * p
        let s1 := (s.setWord (a + 8) (s.word (a + 8) ||| 8)).setWord (a + 12) (BitVec.ofNat 32 (toa % 65536))
        let s2 := { s1 with sl := { s1.sl with refs := Sparse.set none s1.sl.refs p (some ⟨toa, energies bands, wave⟩) } }
        s2.pathEnd p 5 base toa 0 rho snr.toNat n ((energies bands).map bandByte)
      else
        let ref := (Sparse.get none s.sl.refs p).getD ⟨bitsOf (s.word (0x3060000 + 16 * p + 12)).toNat 15 0, [], []⟩
        let dt : Int := signed toa 16 - signed ref.toa 16
        let ds := (indexed bands).map fun b => b.2.bind fun x => (ref.bands.getD b.1 none).map fun e => x.2 - e
        let worst := ((indexed qual).filterMap fun q => if q.2.isSome then (ds.getD q.1 none).map fun d => d.natAbs else none).foldl max 0
        let vt := verdict (decide (dt.natAbs ≤ s.rd F.SL_VERIFY1_TOA_PASS)) (decide (dt.natAbs ≤ s.rd F.SL_VERIFY1_TOA_MARG))
        let vb := verdict (decide (worst ≤ s.rd F.SL_VERIFY0_PASS_BAND * 2 ^ 23)) (decide (worst ≤ s.rd F.SL_VERIFY0_MARG_BAND * 2 ^ 23))
        let vc := verdict (decide (s.rd F.SL_VERIFY2_COH_PASS ≤ rho)) (decide (s.rd F.SL_VERIFY2_COH_MARG ≤ rho))
        let s1 : State := if max vt (max vb vc) = 3 then s
          else { s with sl := { s.sl with gains := Sparse.set [] s.sl.gains p (energies bands) } }
        s1.pathEnd p (max vt (max vb vc)) (base + vt + 4 * vb + 16 * vc) toa (unsigned dt 16) rho snr.toNat n (ds.map bandByte)

/-- What the active has sent of a zone's probe: a synthesis, a restart (R267). -/
def State.peerShape (s : State) (z number : Nat) (power : List Nat) : State := match s.zoneRun z with
  | some r => s.setZone { r with ready := true, shape := number, power := power }
  | none => s
def State.peerRestart (s : State) (z restarts : Nat) : State := match s.zoneRun z with
  | some r => (s.probeFade ((s.sl.run.map (·.id)).getD 0) r).setZone { r.again with provisional := false, restarts := restarts }
  | none => s

/-- What follows an analysis block of a zone (R252, R253, R260): whether the estimate is updated, whether the block was dominated by programme, the
level in Q8.24 dBFS and its tick, whether the smoothed ambient fell toward the probe. A standby takes the active's estimates instead (R267). -/
def State.ambientBlock (s : State) (z : Nat) (updated held : Bool) (lvl : Word) (tick : Nat) (fell : Bool) : State :=
  if s.isStandby then s
  else
    let f : Fld := ⟨0x2A040 + 4096 * (z / 512) + 4 * (z % 512), 14, 14⟩
    let s1 := if updated then (s.publish z lvl.toInt tick held).mirrorWrite (.ambient z lvl tick held) else s.wrb f held
    if fell then s1.reshape z else s1

/-- Whether ambient analysis of a zone runs (R250, R265, R266). -/
def State.analyses (s : State) (z : Nat) : Bool := s.on F.SL_CTRL_AMB_EN && s.enabled 0x28 && !s.sl.shed && s.placeAmb.1.contains z

/-- An analysis block of a zone (R250 to R253, R260). -/
def State.ambientRun (s : State) (z : Nat) : State :=
  if ¬ s.analyses z then s
  else match s.analysis z with
    | some a => (s.each a.mics fun t x => t.setMic x.1 x.2).ambientBlock z a.updated a.held a.level a.tick a.fell
    | none => s

end Sys2Proof.Machine
end

