-- ==== Sys2Proof/Machine/Journal.lean ====
section
/-!
DEFINITION. The Latent bank and what a change to it marks (R89, R126, R155 to R158), the develop journal (R180, R182), and
route presets (R146, R147).
-/
namespace Sys2Proof.Machine

def State.setScn (s : State) (c : SceneSt) : State := { s with scn := c }

/-! Lines and registers (R155, R156). -/

/-- The CLASSES bit of a bank line: matrix, objects, input channel table. -/
def lineClass (l : Nat) : Nat := if l < 0x18000 then 0 else if 0x28000 ≤ l ∧ l < 0x28080 then 2 else 1

/-- The Latent value of an RWS register (R157). -/
def State.latReg (s : State) (a : Nat) : Word := Sparse.get (RegDir.reset a) s.lat a
def State.setLat (s : State) (a : Nat) (w : Word) : State := { s with lat := Sparse.set (RegDir.reset a) s.lat a w }

/-- The dirty marks as the registers show them (R156). -/
def State.showDirty (s : State) : State :=
  let regsOf (p : Nat) : Bool := s.scn.regs.any fun x => homePage (x.1 / 4096) == p
  s.wrAll [(F.SCN_DIRTY_LINES, s.scn.lines.length), (F.SCN_STAT_DIRTY, (s.scn.lines != [] || s.scn.regs != []).toNat),
    (F.BANK_STAT_DIRTY.pg 0x20, (regsOf 0x20 || s.scn.lines.any fun x => lineClass x.1 == 0).toNat),
    (F.BANK_STAT_DIRTY.pg 0x28, (regsOf 0x28).toNat)]

/-- A line, or an RWS register, marked dirty. -/
def State.markLine (s : State) (l : Nat) : State := (s.setScn { s.scn with lines := Sparse.set false s.scn.lines l true }).showDirty
def State.markReg (s : State) (a : Nat) : State := (s.setScn { s.scn with regs := Sparse.set false s.scn.regs a true }).showDirty

/-! The Latent bank. -/

/-- The bits of a record's own field that its type uses (R93); the others are reserved (R9). A record of no instance and one
of a custom kernel hold whole words. -/
def fieldBits (typ o : Nat) : Word :=
  let full : Word := 0xFFFFFFFF
  let upTo (last : Nat) : Word := if o ≤ last then full else 0
  match typ with
  | 0x01 => if o = 0x20 then 0xF else upTo 0x1C
  | 0x02 | 0x03 | 0x0C => 0
  | 0x04 => if o = 0x2C then 1 else upTo 0x28
  | 0x05 => if o = 0x28 then 3 else upTo 0x24
  | 0x06 => if o = 0x10 then 0x3FF else upTo 0x30
  | 0x07 | 0x08 => upTo 0x1C
  | 0x09 => upTo 0x1C
  | 0x0A => if o = 0x18 then 0xF else upTo 0x14
  | 0x0B => if o = 0x10 then 0xFFFF else if o = 0x14 then 0xFF else if o = 0x18 ∨ o = 0x1C then 0x03FF03FF else upTo 0x20
  | 0x0D => if o = 0x10 then 0x3FF else if o = 0x14 then 0xF else upTo 0x24
  | 0x0E => if o = 0x14 then 0xFF else upTo 0x18
  | 0x0F => if o = 0x14 then 1 else upTo 0x10
  | _ => full

/-- The bits that the host may write of a word of the Latent bank, by bank offset (R23, R88, R89, R109, R126). -/
def State.latentMask (s : State) (o : Nat) : Word :=
  if o < 0x600000 then (if s.nodeIn o then 0xFFFFFFFF else 0)
  else if o < 0xA00000 then
    if o % 64 < 16 then (if o % 64 = 4 then 1 else 0)
    else fieldBits ((s.word (0x1000000 + o / 64 * 64)).toNat % 256) (o % 64)
  else if o < 0xA02000 then 0x0000FF03
  else if o < 0xA10000 then 0
  else 0xFFFFFFFF

/-- A word taken into the Latent bank, its line marked (R156). -/
def State.latentStore (s : State) (o : Nat) (w : Word) : State :=
  let m := s.latentMask o
  if m = 0 then s else (s.setWord (0x1000000 + o) (w &&& m)).markLine (o / 64)

/-- An RWS register's bits taken into its Latent value (R157). -/
def State.latStore (s : State) (a : Nat) (m w : Word) : State := (s.setLat a ((s.latReg a &&& ~~~m) ||| (w &&& m))).markReg a

/-- The bits of access RWS of the register at `a`. -/
def rwsMask (a : Nat) : Word := match RegDir.row? a with
  | some r => r.fields.foldl (fun m f => if f.acc = .rws then m ||| (Fld.mask ⟨a, f.hi, f.lo⟩) else m) 0
  | none => 0

/-- XPT_BUS_PRIO takes no 0 (R143): the word with each field that would be 0 left as it is, and whether one was. -/
def prioWord (old w : Word) : Word × Bool :=
  (List.range 8).foldl (fun (p : Word × Bool) j =>
    let f : Fld := ⟨0, 4 * j + 3, 4 * j⟩
    if bitsOf w.toNat f.hi f.lo = 0 then (f.put p.1 (bitsOf old.toNat f.hi f.lo), true) else p) (w, false)

/-- A write to an RWS register (R143, R157). -/
def State.rwsStore (s : State) (a : Nat) (w : Word) : State :=
  if 0x20200 ≤ a ∧ a < 0x20300 then
    let p := prioWord (s.latReg a) w
    let s1 := s.latStore a (rwsMask a) p.1
    if p.2 then s1.pulse 0x20 2 else s1
  else s.latStore a (rwsMask a) w

/-! The develop journal. -/

/-- What is in the slot in force. -/
def State.curSlot (s : State) : Slot := s.scn.slots.getD s.scn.slot ⟨none, []⟩
def State.setSlot (s : State) (n : Nat) (x : Slot) : State := s.setScn { s.scn with slots := s.scn.slots.set n x }

/-- The bytes a journal record takes (R161, R180). -/
def JrnlBody.bytes : JrnlBody → Nat
  | .develop d p => 32 + 16 + 68 * d.lines.length + 8 * d.regs.length + (match p with
    | some a => a.plan.image.length
    | none => 0)
  | .mark => 32 + Config.journalBody 2
  | .void => 32 + Config.journalBody 3
  | .preset _ => 32 + Config.journalBody 4
  | .store l => 32 + 68 * l.length
  | .seal => 32 + Config.journalBody 6
  | .cap _ => 32 + Config.journalBody 7

/-- JRNL_HIGH follows the fill of the journal in force (R182). -/
def State.showJournal (s : State) (used : Nat) : State :=
  (s.wr F.JRNL_USED used).source 0x24 3 (decide (3 * s.rd F.JRNL_SIZE ≤ 4 * used) && decide (used ≠ 0))

/-- Whether the journal takes a record (R182). -/
def State.journalFits (s : State) (b : JrnlBody) : Bool :=
  !s.on F.SCN_STAT_JRNL_FULL && decide (s.rd F.JRNL_USED + b.bytes ≤ s.rd F.JRNL_SIZE)

/-- A record appended to the journal in force; a full journal takes none (R180, R182), and nothing follows the shutdown seal
(R184). -/
def State.journal (s : State) (seq : Nat) (b : JrnlBody) : State :=
  if s.flt.pfailSeq then s
  else if s.journalFits b then
    let x := s.curSlot
    (s.setSlot s.scn.slot { x with journal := x.journal ++ [⟨s.tick, seq, b.bytes, b⟩] }).showJournal (s.rd F.JRNL_USED + b.bytes)
  else s.wr F.SCN_STAT_JRNL_FULL 1

/-! Route presets (R146, R147). -/

/-- An action that cannot act (R147, R151). -/
def State.actionSkip (s : State) : State := (s.bump F.TRIG_SKIP).pulse 0x58 8

/-- The directory words of a preset, and the bank offset of an entry's node. -/
def State.presetDir (s : State) (p : Nat) : Word × Word := (s.word (0x3000000 + 8 * p), s.word (0x3000004 + 8 * p))
def State.presetNode (s : State) (e : Nat) : Nat :=
  let w := (s.word (0x3000800 + 8 * e)).toNat
  if bitOf w 31 then 0x400000 + 4 * (w % 2 ^ 20) else 4 * (w % 2 ^ 20)

/-- FIRST and COUNT. -/
def State.presetRange (s : State) (p : Nat) : Nat × Nat :=
  let w := (s.presetDir p).1.toNat
  (w % 65536, w / 65536)

/-- A preset's entries: nodes with their gains. -/
def State.presetNodes (s : State) (p : Nat) : List (Nat × Word) :=
  let r := s.presetRange p
  (List.range (min r.2 32512)).map fun i => (s.presetNode (r.1 + i), s.word (0x3000804 + 8 * (r.1 + i)))

/-- Whether the preset's LS bit is set: an entry touches a priority-0 route (R145, R146). -/
def State.presetLs (s : State) (p : Nat) : Bool :=
  let r := s.presetRange p
  (List.range (min r.2 (32512 - r.1))).any fun i => s.lsNode (s.presetNode (r.1 + i))

/-- Whether a preset can be applied (R147). -/
def State.presetOk (s : State) (p : Nat) : Bool :=
  let r := s.presetRange p
  bitOf (s.presetDir p).2.toNat 31 && decide (r.1 + r.2 ≤ 32512) && decide (p < 255) &&
    (s.presetNodes p).all fun x => isNode x.1 && s.nodeIn x.1

/-- A preset applied at tick `m` (R147, R180): its nodes ramp, the Latent bank takes the same gains, and the journal a
record. Preset 255 is none. -/
def State.applyPreset (s : State) (p m : Nat) : State :=
  if p = 255 then s
  else if ¬ s.presetOk p then s.actionSkip
  else
    let l := s.presetNodes p
    let s1 := s.nodesTo m (rampTicks ((s.presetDir p).2.toNat % 65536) s.F) l
    (s1.each l fun t x => t.setWord (0x1000000 + x.1) x.2).journal 0 (.preset p)

end Sys2Proof.Machine
end

