-- ==== Sys2Proof/Machine/Clocks.lean ====
section
/-!
DEFINITION. Reference selection, the DPLL, the frame outputs and the clock monitors (spec/13).
-/
namespace Sys2Proof.Machine

def State.setClk (s : State) (c : ClkSt) : State := { s with clk := c }
def State.setCand (s : State) (i : Fin 8) (c : CandSt) : State := s.setClk { s.clk with cands := s.clk.cands.set i c }

/-! Candidates (R376 to R379). -/

/-- The family of a rate code: 0 = 44.1 kHz, 1 = 48 kHz (R67). -/
def rateFamily (r : Nat) : Nat := r % 2

/-- Whether a slot is enabled. Slot 7 stands by itself while the unit is standby-ready or synchronising, and at no other time
(R378; log entry 20). -/
def State.candOn (s : State) (i : Nat) : Bool :=
  s.enabled 0x70 && (if i = 7 then s.isStandby else s.on (F.REF_CAND_EN.ix i) && s.rd (F.REF_CAND_RANK.ix i) != 0)

/-- What a slot names, and whether that is usable apart from its edges or pulses, which a measurement shows (R376). -/
def State.candSrc (s : State) (i : Nat) : Nat := if i = 7 then 9 else s.rd (F.REF_CAND_SRC.ix i)
def State.srcUsable (s : State) (src : Nat) : Bool :=
  let fam (r : Nat) : Bool := rateFamily r == rateFamily (s.rd F.TICK_CFG_RATE)
  match src with
  | 0 => fam (s.rd F.REF_EXT_WCLK0_RATE)
  | 1 => fam (s.rd F.REF_EXT_WCLK1_RATE)
  | 2 => s.on F.AIN_STAT_LOCK && fam (s.rd F.AIN_STAT_RATE_MEAS)
  | 3 => s.on (F.AIN_STAT_LOCK.pg 1) && fam (s.rd (F.AIN_STAT_RATE_MEAS.pg 1))
  | 4 => true
  | 9 => s.linkUp && s.isStandby
  | n => decide (5 ≤ n ∧ n ≤ 8) && s.rd (F.TD_STAT_STATE.pg (n - 5)) == 1 && s.on (F.TD_STAT_LOCKED.pg (n - 5)) &&
      s.on (F.TD_STAT_ANCHORED.pg (n - 5))

/-- Whether a slot is qualified. -/
def State.qual (s : State) (i : Nat) : Bool := bitOf (s.rd F.REF_QUAL_QUALIFIED) i

/-- A slot's usable and qualified bits, where they show. -/
def State.showCand (s : State) (i : Nat) (usable qual : Bool) : State :=
  s.wrAll [(F.REF_QUAL_USABLE, putBit (s.rd F.REF_QUAL_USABLE) i usable),
    (F.REF_QUAL_QUALIFIED, putBit (s.rd F.REF_QUAL_QUALIFIED) i qual),
    (F.REF_MEAS_USABLE.ix i, usable.toNat), (F.REF_MEAS_QUALIFIED.ix i, qual.toNat)]

/-- The candidate the selector uses (R377, R378). -/
def State.bestCand (s : State) : Option Nat :=
  if s.isStandby ∧ s.qual 7 then some 7
  else
    let qs := (List.range 7).filter fun i => s.qual i && s.candOn i
    let rank (i : Nat) := s.rd (F.REF_CAND_RANK.ix i)
    let r := qs.foldl (fun a i => min a (rank i)) 16
    let top := qs.filter fun i => rank i == r
    let sel := s.rd F.REF_STAT_SEL
    if top.contains sel then some sel else top.head?

/-! The DPLL (R382 to R386). -/

/-- A state of the DPLL entered (R383): state, step; a switch in LOCK slews (R382). -/
def State.dpllTo (s : State) (st step : Nat) (slewing : Bool) : State :=
  let s1 := s.wrAll [(F.REF_STAT_STATE, st), (F.REF_STAT_STEP, step), (F.REF_STAT_SLEWING, slewing.toNat)]
  let s2 := if st = 2 then s1.setClk { s1.clk with wasLocked := true } else s1
  (s2.source 0x70 2 (st == 3)).source 0x70 3 (st == 0 && s2.clk.wasLocked)

/-- The phase error built out (R382). -/
def State.buildOut (s : State) : State := s.wr F.REF_PD 0

/-- NCO's limits (R374). -/
def clampNco (v : Int) : Int := max (-659706977) (min 659706977 v)
def State.setNco (s : State) (v : Int) : State := s.setReg F.REF_NCO.addr (BitVec.ofInt 32 v)

/-- HOLDOVER on the history of LOCK, or FREERUN with less than 1 s of it (R385). -/
def State.toHoldover (s : State) : State :=
  let h := s.clk.hist.drop 1000
  if h.length < 1000 then s.dpllTo 0 0 false
  else
    let l := h.take (1000 * s.rd F.REF_CTRL1_HOLD_AVG)
    (s.setReg F.REF_HOLD.addr (BitVec.ofInt 32 (roundDiv l.sum l.length))).dpllTo 3 0 false

/-- The selector's choice changes (R380, R382, R386): to a slot, or to none. -/
def State.switchTo (s : State) (dest : Option Nat) (cause : Nat) : State :=
  let st := s.rd F.REF_STAT_STATE
  let s1 := s.wrAll [(F.REF_LAST_CAUSE, cause), (F.REF_LAST_FROM, s.rd F.REF_STAT_SEL), (F.REF_LAST_TO, dest.getD 8),
    (F.REF_STAT_SEL, dest.getD 8)]
  let s2 := s1.setClk { s1.clk with toSwitch := none }
  match dest with
  | none => if st = 4 ∨ st = 0 then s2 else s2.toHoldover
  | some _ =>
    let s3 := ((s2.bump F.REF_SWITCH_CNT).pulse 0x70 4).buildOut
    if st = 4 then s3
    else if st = 2 then s3.dpllTo 2 (s.rd F.REF_STAT_STEP) true
    else s3.dpllTo 1 0 false

/-- A slot is disqualified (R379, R380): of the selected one the NCO holds until the switch. -/
def State.disqualify (s : State) (i : Fin 8) (cause : Nat) (usable : Bool) : State :=
  let s1 := s.setCand i { steady := false, usable := usable }
  if ¬ s.qual i.val then s1.showCand i.val usable false
  else
    let s2 := (s1.showCand i.val usable false).bump (F.REF_DISQ_CNT.ix i.val)
    if s.rd F.REF_STAT_SEL = i.val then (s2.setClk { s2.clk with toSwitch := some cause }).pulse 0x70 0 else s2

/-- REFERENCE_SWITCH: the selected candidate was disqualified (R380). -/
def State.refSwitch (s : State) : State := match s.clk.toSwitch with
  | some c => s.switchTo s.bestCand c
  | none => s

/-- The offset of a slot in 1/16 ppm, its window and its window less its hysteresis (R379). -/
def State.ofsOf (s : State) (i : Nat) : Int := s.rdS (F.REF_MEAS_OFS_X16.ix i)

/-- Equal ranks compared as slot `i` is measured (R381): with each lower slot. -/
def State.compareCands (s : State) (i : Nat) : State :=
  let s1 := s.each (List.range i) fun t j =>
    if t.qual i ∧ t.qual j ∧ t.rd (F.REF_CAND_RANK.ix i) = t.rd (F.REF_CAND_RANK.ix j) then
      let p := Sparse.get (0, 0, false) t.clk.apart (8 * i + j)
      let far := decide (16 * (t.rd F.REF_CTRL1_AGREE : Int) < 10 * ((t.ofsOf i - t.ofsOf j).natAbs : Int))
      let a := if far then p.1 + 1 else 0
      let b := if far then 0 else p.2.1 + 1
      let on := if 3 ≤ a then true else if 3 ≤ b then false else p.2.2
      t.setClk { t.clk with apart := Sparse.set (0, 0, false) t.clk.apart (8 * i + j) (min a 3, min b 3, on) }
    else t.setClk { t.clk with apart := Sparse.set (0, 0, false) t.clk.apart (8 * i + j) (0, 0, false) }
  let bit (k : Nat) : Bool := s1.clk.apart.any fun x => x.2.2.2 && (x.1 / 8 == k || x.1 % 8 == k)
  (s1.wr F.REF_QUAL_DISAGREE (maskOf bit 8)).source 0x70 1 (s1.clk.apart.any fun x => x.2.2.2)

/-- CANDIDATE_MEASUREMENT (R379): a slot's offset in 1/16 ppm. -/
def State.candMeasure (s : State) (i : Fin 8) (ofs : BitVec 16) : State :=
  if ¬ (s.candOn i.val ∧ s.srcUsable (s.candSrc i.val)) then s
  else
    let w := 16 * s.rd (F.REF_CAND_WIN.ix i.val)
    let h := 16 * s.rd (F.REF_CAND_HYST.ix i.val)
    let m := ofs.toInt.natAbs
    let s1 := s.wrAll [(F.REF_MEAS_OFS_X16.ix i.val, ofs.toNat), (F.REF_MEAS_VALID.ix i.val, 1)]
    if w < m then s1.disqualify i 2 true
    else
      ((s1.setCand i { usable := true, steady := decide (m + h ≤ w) }).showCand i.val true (s.qual i.val)).compareCands i.val

/-- CANDIDATE_QUALIFIED (R379, R383): QUAL_S has passed. From FREERUN and HOLDOVER the DPLL acquires it. -/
def State.candQualified (s : State) (i : Fin 8) : State :=
  let c := s.clk.cands[i]
  if ¬ (s.candOn i.val ∧ c.usable ∧ c.steady ∧ ¬ s.qual i.val) then s
  else
    let s1 := s.showCand i.val true true
    let st := s.rd F.REF_STAT_STATE
    if s1.rd F.REF_STAT_SEL = 8 ∧ s1.clk.toSwitch = none ∨ i.val = 7 then s1.switchTo s1.bestCand (if i.val = 7 then 6 else 0)
    else if st = 0 ∨ st = 3 then s1.switchTo s1.bestCand 0
    else s1

/-- CANDIDATE_UNUSABLE (R379). -/
def State.candUnusable (s : State) (i : Fin 8) : State :=
  let src := s.candSrc i.val
  if s.clk.cands[i].usable then s.disqualify i (if 5 ≤ src ∧ src ≤ 8 then 3 else 1) false else s

/-- Slots of a domain that is not in TRACK any more are disqualified at once (R352). -/
def State.tdLost (s : State) (td : Nat) : State :=
  s.each (List.finRange 8) fun t i =>
    if t.candSrc i.val = 5 + td ∧ t.clk.cands[i].usable then t.disqualify i 3 false else t

/-- A slot's EN or RANK written 0 (R377, R379). -/
def State.candOff (s : State) (i : Fin 8) : State := s.disqualify i 4 false

/-- REFERENCE_REVERT (R377): a better rank has stayed qualified for REVERT_S. -/
def State.refRevert (s : State) (i : Fin 8) : State :=
  let sel := s.rd F.REF_STAT_SEL
  if s.rd F.REF_CTRL2_REVERT_S ≠ 0 ∧ s.qual i.val ∧ s.candOn i.val ∧ sel < 7 ∧ s.clk.toSwitch = none ∧
      s.rd (F.REF_CAND_RANK.ix i.val) < s.rd (F.REF_CAND_RANK.ix sel) then s.switchTo (some i.val) 5
  else s

/-- The selector after a change of role (R378). -/
def State.refRole (s : State) : State :=
  if s.isStandby then s
  else
    let s1 := s.showCand 7 false false
    let s2 := s1.setCand 7 { steady := false, usable := false }
    if s.rd F.REF_STAT_SEL = 7 then s2.switchTo s2.bestCand 6 else s2

/-- DPLL_SLEW_END (R382). -/
def State.slewEnd (s : State) : State :=
  if s.on F.REF_STAT_SLEWING ∧ s.rd F.REF_STAT_STATE = 2 then (s.buildOut).dpllTo 2 1 false else s

/-- DPLL_LOCK and DPLL_PHASE_ALARM (R383). -/
def State.dpllLock (s : State) : State := if s.rd F.REF_STAT_STATE = 1 then s.dpllTo 2 1 false else s
def State.phaseAlarm (s : State) : State :=
  if s.rd F.REF_STAT_STATE = 2 ∧ ¬ s.on F.REF_STAT_SLEWING then (s.buildOut).dpllTo 1 0 false else s

/-- Whether the selected candidate is the 1PPS input, on which LOCK runs without steps (R376, R383). -/
def State.onPps (s : State) : Bool :=
  decide (s.rd F.REF_STAT_SEL < 7) && s.candSrc (s.rd F.REF_STAT_SEL) == 4 && !s.on F.REF_EXT_EXT_MODE

/-- DPLL_LOCK_STEP (R383, R384): the step's time is over; `ok` = the phase error stayed below 1 µs. On 1PPS there are no steps. -/
def State.lockStep (s : State) (ok : Bool) : State :=
  if s.rd F.REF_STAT_STATE = 2 ∧ ¬ s.on F.REF_STAT_SLEWING ∧ ok ∧ ¬ s.onPps then s.wr F.REF_STAT_STEP (min 4 (s.rd F.REF_STAT_STEP + 1)) else s

/-- A write of REF_CTRL.OPEN (R386): on entry no word is written yet. -/
def State.refOpen (s : State) (v : Bool) : State :=
  let st := s.rd F.REF_STAT_STATE
  let s1 := s.wrb F.REF_CTRL_OPEN v
  if ¬ s.enabled 0x70 then s1
  else if v then (if st = 4 then s1 else (s1.setClk { s1.clk with written := none }).dpllTo 4 0 false)
  else if st ≠ 4 then s1
  else match s1.bestCand with
    | some i => ((s1.wr F.REF_STAT_SEL i).buildOut).dpllTo 1 0 false
    | none =>
      let held := s1.clk.written.getD (s1.rdS F.REF_NCO)
      (s1.setReg F.REF_HOLD.addr (BitVec.ofInt 32 held)).dpllTo 3 0 false

/-- A write of REF_NCO (R386): in OPEN it waits for the next update. -/
def State.refNco (s : State) (w : Word) : State :=
  if s.rd F.REF_STAT_STATE = 4 then s.setClk { s.clk with written := some (clampNco w.toInt) } else s

/-- NCO_UPDATE (R374, R382, R383): every millisecond. `loop` is the word the loop asks for; `pd` a phase error measured. -/
def State.ncoUpdate (s : State) (loop : Word) (pd : Option Word) : State :=
  let st := s.rd F.REF_STAT_STATE
  let cur := s.rdS F.REF_NCO
  let most : Int := s.rd F.REF_CTRL1_SLEW * 2 ^ 40 / 10 ^ 10
  let slew (v : Int) : Int := clampNco (max (cur - most) (min (cur + most) (clampNco v)))
  let next : Int :=
    if s.clk.toSwitch.isSome ∧ st ≠ 4 then cur
    else if st = 0 then slew (s.rdS F.REF_FREERUN)
    else if st = 3 then slew (s.rdS F.REF_HOLD)
    else if st = 4 then s.clk.written.getD cur
    else slew loop.toInt
  let s1 := s.setNco next
  let s2 := if st = 2 then s1.setClk { s1.clk with hist := (next :: s1.clk.hist).take 65000, wasLocked := true } else s1
  let s3 := s2.wrb F.REF_STAT_HOLD_VALID (decide (2000 ≤ s2.clk.hist.length))
  match pd with
  | some w => if s3.rd F.REF_STAT_SEL < 8 ∧ ¬ s3.on F.REF_STAT_SLEWING then (s3.setReg F.REF_PD.addr w).bump F.REF_PD_SEQ else s3
  | none => s3

/-- The reference selector switched off by PAGE_CTRL.EN = 0 (R383). -/
def State.refOff (s : State) : State :=
  let s1 := ((s.dpllTo 0 0 false).wrAll [(F.REF_STAT_SEL, 8), (F.REF_QUAL_DISAGREE, 0)]).each (List.range 8) fun t i => t.showCand i false false
  s1.setClk { s1.clk with cands := .replicate 8 ⟨false, false⟩, apart := [], toSwitch := none }

/-! Frame outputs (R388, R389). -/

/-- A write of ALIGN. -/
def State.alignWrite (s : State) (v : Nat) : State := s.wr F.ALIGN (Nat.lor (s.rd F.ALIGN) (v % 8))

/-- OUTPUT_REALIGN: at the output's next edge. PPS needs an anchored domain. -/
def State.outputRealign (s : State) (o : Fin 3) (ofs : Word) : State :=
  if ¬ bitOf (s.rd F.ALIGN) o.val then s
  else
    let fail := o.val == 2 && !s.on (F.TD_STAT_ANCHORED.pg (s.rd F.PPS_CTRL_PPS_TD))
    let s1 := s.wrAll [(F.ALIGN, putBit (s.rd F.ALIGN) o.val false), (F.ALIGN_STAT, putBit (s.rd F.ALIGN_STAT) o.val fail)]
    if fail then s1 else (s1.setReg (F.WOUT_OFS.ix o.val).addr ofs).put .wordClock

/-! Clock monitors (R375). -/

/-- The crossings a clock serves (R393). -/
def clockDomains : Nat → List Nat
  | 1 => [16] | 2 => [17] | 4 => [18] | 5 => [19, 20] | _ => []

/-- CLOCK_LOSS: REFCLK, engine, fabric, management, media, DRAM; by loss, or by the unlock of its PLL. -/
def State.clockLoss (s : State) (k : Fin 6) (unlock : Bool) : State :=
  let src := if k.val = 0 then 0 else if k.val ≤ 3 then 1 else if k.val = 4 then 2 else 3
  let pll := if k.val = 4 then 1 else if k.val = 5 then 2 else 0
  let s1 := if unlock ∧ k.val ≠ 0 then s.wr F.CG_STAT_LOCK (putBit (s.rd F.CG_STAT_LOCK) pll false)
    else s.wr F.CG_MON (putBit (s.rd F.CG_MON) k.val false)
  let s2 := (s1.bump F.CG_LOSS_CNT).source 0x72 src true
  s2.setClk { s2.clk with stopped := (s2.clk.stopped ++ clockDomains k.val).eraseDups }

/-- CLK_FREQ: a clock outside its range over 64 µs. -/
def State.clockFreq (s : State) (k : Fin 6) : State := s.pulse 0x72 (if k.val = 0 then 0 else 4)

/-- The pins REFSTAT[2:0] (R383, R387): the state code, 0b111 from reset until both locks are 1. -/
def State.refStatPins (s : State) : Nat := if s.clk.shown then s.rd F.REF_STAT_STATE else 7

/-! Crossings (R393). -/

/-- The crossing in front of a page's own registers, if it has one (log entry 21). -/
def cdcOf (page : Nat) : Option Nat :=
  if 0x10 ≤ page ∧ page ≤ 0x1F then some (page - 0x10)
  else if 0x20 ≤ page ∧ page ≤ 0x23 then some 16
  else if page = 0x88 ∨ page = 0x8C then some 17
  else if page = 0x01 ∨ 0x30 ≤ page ∧ page ≤ 0x51 then some 18
  else if page = 0x89 then some 19
  else if page = 0x8A then some 20
  else none

/-- Whether a domain is stopped: its clock is lost or it is gated. -/
def State.domainStopped (s : State) (d : Nat) : Bool :=
  s.clk.stopped.contains d || (decide (d < 16) && (s.clk.stopped.contains 16 || s.rd (F.PWR_STATE_CUR.pg (0x10 + d)) != 0))

/-- Whether a register lies behind a stopped crossing. -/
def State.behindStopped (s : State) (a : Nat) : Bool :=
  decide (0x40 ≤ a % 4096 ∧ a < 0x100000) && match cdcOf (a / 4096) with
    | some d => s.domainStopped d
    | none => false

/-- CDC_TIMEOUT: 10 µs have passed; waiting writes of a stopped domain are parked, or discarded when 16 are. -/
def State.cdcTimeout (s : State) (d : Fin 21) : State :=
  if ¬ s.domainStopped d.val then s
  else
    let mine := s.clk.waiting.filter fun x => x.1 == d.val
    let s0 := s.setClk { s.clk with waiting := s.clk.waiting.filter fun x => x.1 != d.val }
    s0.each mine fun t x =>
      let t1 := t.wrAll [(F.CDC_LAST_PAGE, x.2.1 / 4096), (F.CDC_LAST_OFFSET, x.2.1)]
      if (t.clk.parked.filter fun y => y.1 == d.val).length < 16 then
        let t2 := t1.setClk { t1.clk with parked := t1.clk.parked ++ [x] }
        let f := if d.val < 16 then F.CDC_STAT_CLUSTER else F.CDC_STAT_OTHER
        (((t2.wr f (putBit (t2.rd f) (d.val % 16) true)).bump F.CDC_PARK_CNT).pulse 0x72 5)
      else (t1.bump F.CDC_DISCARD).pulse 0x72 6

end Sys2Proof.Machine
end

