-- ==== Sys2Proof/Machine/Net.lean ====
section
/-!
DEFINITION. The media network and the time domains (spec/12): MACs, PRP, ARP, domains and their firmware servo, anchors,
receive and transmit streams.
-/
namespace Sys2Proof.Machine

def State.setNet (s : State) (n : NetSt) : State := { s with net := n }
def State.setMac (s : State) (m : Fin 3) (x : MacSt) : State := s.setNet { s.net with macs := s.net.macs.set m x }
def State.setTd (s : State) (d : Fin 4) (x : TdSt) : State := s.setNet { s.net with td := s.net.td.set d x }
def State.rxOf (s : State) (n : Nat) : RxStream := Sparse.get .rest s.net.rx n
def State.setRx (s : State) (n : Nat) (x : RxStream) : State := s.setNet { s.net with rx := Sparse.set .rest s.net.rx n x }
def State.txOf (s : State) (n : Nat) : TxStream := Sparse.get .rest s.net.tx n
def State.setTx (s : State) (n : Nat) (x : TxStream) : State := s.setNet { s.net with tx := Sparse.set .rest s.net.tx n x }

/-! Time domains (R351 to R354, R358). -/

/-- Where a 48-bit count of seconds wraps, in 2^−40 ns. -/
def timeWrap : Nat := 2 ^ 48 * 10 ^ 9 * 2 ^ 40

/-- A domain's time shown; the fraction is its top 32 bits (log entry 23). -/
def State.showTime (s : State) (d : Fin 4) : State :=
  let t := s.net.td[d].time
  let ns := t / 2 ^ 40
  let sec := ns / 10 ^ 9
  s.wrAll [(F.TD_SEC_HI.pg d.val, sec / 2 ^ 32), (F.TD_SEC_LO.pg d.val, sec), (F.TD_NS.pg d.val, ns % 10 ^ 9),
    (F.TD_FRAC.pg d.val, t % 2 ^ 40 / 2 ^ 8)]

/-- REFCLK periods pass: every domain adds 10 ns × (1 + RATE × 2^−40), the compatibility counter TDC_INC (R351, R358). -/
def State.refPeriods (s : State) (n : Nat) : State :=
  let s1 := s.each (List.finRange 4) fun t d =>
    let x := t.net.td[d]
    let inc := (10 * (2 ^ 40 + t.rdS (F.TD_RATE.pg d.val))).toNat * n
    (t.setTd d { x with time := (x.time + inc) % timeWrap }).showTime d
  let c := (s1.net.tdc + n * s1.rd F.TDC_INC) % 2 ^ 88
  (s1.setNet { s1.net with tdc := c }).wr64 F.TDC_CNT_LO F.TDC_CNT_HI (c / 2 ^ 24)

/-- TDC_LOAD (R358). -/
def State.tdcLoad (s : State) : State :=
  let v := s.rd64 F.TDC_SET_LO F.TDC_SET_HI
  ((s.setNet { s.net with tdc := v * 2 ^ 24 }).wr64 F.TDC_CNT_LO F.TDC_CNT_HI v).wr F.TDC_CTRL 0

/-- LOCKED as it reads (R354). -/
def State.showLocked (s : State) (d : Fin 4) : State :=
  let on := if s.on (F.TD_CTRL_SERVO.pg d.val) then s.on (F.TD_CTRL_HOST_LOCKED.pg d.val) else s.net.td[d].trusted
  s.wrb (F.TD_STAT_LOCKED.pg d.val) (on && s.rd (F.TD_STAT_STATE.pg d.val) == 1)

/-- A domain enters REACQUIRE (R352): it is disqualified at entry. -/
def State.enterReacquire (s : State) (d : Fin 4) : State :=
  let x := s.net.td[d]
  ((((s.setTd d { x with trusted := false, good := 0, bad := 0, far := 0 }).wr (F.TD_STAT_STATE.pg d.val) 2).showLocked d).source
    (0x68 + d.val) 0 true).tdLost d.val

/-- REACQUIRE: a write of TD_CTRL.REACQUIRE (R352). -/
def State.reacquire (s : State) (d : Fin 4) : State := if s.rd (F.TD_STAT_STATE.pg d.val) = 1 then s.enterReacquire d else s

/-- A step applied (R352): the domain enters TRACK, and its anchor is set at the next tick start (R359). -/
def State.stepTd (s : State) (d : Fin 4) (ns : Int) (frac : Nat) : State :=
  let x := s.net.td[d]
  let t := ((x.time : Int) + ns * 2 ^ 40 + frac * 2 ^ 8) % timeWrap
  ((((s.setTd d { x with time := t.toNat, toSet := true, run := 0, move := none }).showTime d).wr (F.TD_STAT_STATE.pg d.val) 1).bump
    (F.TD_STEP_CNT.pg d.val)).source (0x68 + d.val) 0 false |>.showLocked d

/-- TIME_STEP and TIME_RATE (R353): domain, body or rate. -/
def State.timeStep (s : State) (arg0 : Nat) (b : List Byte) : CmdRes :=
  if h : arg0 < 4 then
    let d : Fin 4 := ⟨arg0, h⟩
    if ¬ s.on (F.TD_CTRL_SERVO.pg arg0) then s.fin 0x0A
    else if s.rd (F.TD_STAT_STATE.pg arg0) = 1 then ((s.wr (F.TD_STAT_STEP_REFUSED.pg arg0) 1).pulse (0x68 + arg0) 1).fin 0x30
    else (s.stepTd d (signed (fieldAt b 0 8) 64) (fieldAt b 8 4)).fin 0
  else s.fin 4

def State.timeRate (s : State) (arg0 : Nat) (w : Word) : CmdRes :=
  if 4 ≤ arg0 then s.fin 4
  else if ¬ s.on (F.TD_CTRL_SERVO.pg arg0) then s.fin 0x0A
  else if 549755814 < w.toInt.natAbs then s.fin 0x31
  else (s.setReg (F.TD_RATE.pg arg0).addr w).fin 0

/-! MACs: sending (R343, R345 to R348). -/

/-- A frame put in a MAC's queue. -/
def State.enqueue (s : State) (m : Fin 3) (f : TxFrame) : State := s.setMac m { s.net.macs[m] with queue := s.net.macs[m].queue ++ [f] }

/-- The group address of an IPv4 multicast address (RFC 1112), and whether an address is one. -/
def groupMac (ip : Nat) : Nat := 0x01005E000000 + ip % 2 ^ 23
def isGroup (ip : Nat) : Bool := ip / 2 ^ 28 == 14

/-- A stream packet or a firmware frame other than PTP sent on the media ports (R348): on both with one trailer number per
destination, or without PRP on port A (log entry 22). -/
def State.sendMedia (s : State) (dst : Nat) (b : TxBody) : State :=
  if s.on F.NET_CTRL_PRP_EN then
    let n := Sparse.get 0 s.net.rctSeq dst
    let s1 := s.setNet { s.net with rctSeq := Sparse.set 0 s.net.rctSeq dst ((n + 1) % 65536) }
    (s1.enqueue 0 ⟨dst, some (0xA, n), b⟩).enqueue 1 ⟨dst, some (0xB, n), b⟩
  else s.enqueue 0 ⟨dst, none, b⟩

/-- The maximum frame length of a MAC (R342). -/
def State.maxFrame (s : State) (m : Nat) : Nat := if m = 2 then 1522 else if s.on (F.MAC_CTRL_JUMBO.pg m) then 9028 else 1528

/-- The MACs a PTP instance uses (PTP_CFG.PORTS). -/
def ptpPorts (cfg : Word) : List (Fin 3) := (List.finRange 3).filter fun m => bitOf cfg.toNat (8 + m.val)

/-- A PTP message queued on a port (R357): sent without a trailer. -/
def State.sendPtp (s : State) (m : Fin 3) (d : Fin 4) (kind : Nat) (time : Option Nat) : State :=
  s.enqueue m ⟨0x011B19000000, none, .ptp d.val kind time⟩

/-- Whether a MAC works in half duplex: MACM at 10 and 100 Mb/s, where it is set (R342). -/
def State.halfDuplex (s : State) (m : Nat) : Bool := m == 2 && s.on (F.MAC_CTRL_HALF.pg 2) && decide (s.rd (F.MAC_CTRL_SPEED.pg 2) < 2)

/-- The receive timestamp of an event message (R355): the time of the MAC's domain less the board's ingress latency. -/
def State.rxStamp (s : State) (m : Fin 3) : Nat :=
  ((s.net.td[(Fin.ofNat 4 (s.rd (F.TS_CTRL_TD.pg m.val)) : Fin 4)].time : Int) - s.rdS (F.TS_LAT_RX.pg m.val) * 2 ^ 40).toNat

/-- A queue without the Follow_Up of a two-step Sync whose transmission was cut short (R356). -/
def State.retracted (s : State) (f : TxFrame) (q : List TxFrame) : List TxFrame := match f.body with
  | .ptp d 0 _ =>
    if s.on (F.TS_CTRL_ONE_STEP.pg 2) then q
    else (q.reverse.eraseP fun g => match g.body with
      | .ptp e 8 _ => e == d
      | _ => false).reverse
  | _ => q

/-- MAC_FRAME_TX (R343, R356): the head of the queue starts. PTP event messages are store-and-forward. -/
def State.macTx (s : State) (m : Fin 3) (underrun : Bool) : State :=
  let x := s.net.macs[m]
  match x.queue with
  | [] => s
  | f :: rest =>
    if ¬ (s.enabled (0x60 + m.val) ∧ s.on (F.MAC_STAT_LINK.pg m.val)) ∨ s.on (F.MAC_STAT_PAUSED.pg m.val) ∨ x.backoff then s
    else
      let td : Fin 4 := Fin.ofNat 4 (s.rd (F.TS_CTRL_TD.pg m.val))
      let one := s.on (F.TS_CTRL_ONE_STEP.pg m.val)
      let now := ((s.net.td[td].time : Int) + s.rdS (F.TS_LAT_TX.pg m.val) * 2 ^ 40).toNat
      let ptp : Bool := match f.body with
        | .ptp _ _ _ => true
        | _ => false
      let f1 : TxFrame := match f.body with
        | .ptp d 0 _ => if one then { f with body := .ptp d 0 (some now) } else f
        | _ => f
      let x1 := { x with queue := rest, cur := if s.halfDuplex m.val then some f else none }
      let s1 := (s.setMac m x1).bump (F.MAC_TX_FRAMES.pg m.val)
      if underrun ∧ ¬ ptp ∧ ¬ s.on (F.MAC_TXTHR_SAF.pg m.val) then
        let th := min (s.maxFrame m.val) (s.rd (F.MAC_TXTHR_THRESH.pg m.val) + 64)
        (((s1.put (.badFcs m.val f1)).bump (F.MAC_TX_UNDERRUN.pg m.val)).wrAll [(F.MAC_TXTHR_THRESH.pg m.val, th),
          (F.MAC_TXTHR_SAF.pg m.val, (decide (s.maxFrame m.val ≤ th)).toNat)]).pulse (0x60 + m.val) 1
      else
        let s2 := s1.put (.frame m.val f1)
        match f.body with
        | .ptp d 0 _ => if one then s2 else s2.enqueue m ⟨f.dst, none, .ptp d 8 (some now)⟩
        | _ => s2

/-- COLLISION (R345, R356): late or not. A frame that is retried goes back to the head of the queue; a Sync cut short has no Follow_Up. -/
def State.collision (s : State) (late : Bool) : State :=
  let x := s.net.macs[(2 : Fin 3)]
  match x.cur with
  | none => s
  | some f =>
    let q := s.retracted f x.queue
    let s0 := (s.put (.jam 2)).wr (F.MAC_TX_FRAMES.pg 2) (s.rd (F.MAC_TX_FRAMES.pg 2) + 2 ^ 32 - 1)
    if late then
      ((s0.setMac 2 { x with cur := none, queue := q, attempts := 0 }).bumpSat (F.MAC_COLL_LATE.pg 2)).pulse 0x62 2
    else
      let s1 := s0.bumpSat (F.MAC_COLL_COLL.pg 2)
      if 16 ≤ x.attempts + 1 then (s1.setMac 2 { x with cur := none, queue := q, attempts := 0 }).bump (F.MAC_EXCESS_COLL.pg 2)
      else s1.setMac 2 { x with cur := none, queue := f :: q, attempts := x.attempts + 1, backoff := true }

/-- BACKOFF_EXPIRY (R345). -/
def State.backoffEnd (s : State) : State := s.setMac 2 { s.net.macs[(2 : Fin 3)] with backoff := false }

/-- PAUSE_EXPIRY (R344). -/
def State.pauseEnd (s : State) (m : Fin 3) : State := s.wr (F.MAC_STAT_PAUSED.pg m.val) 0

/-- MACM_LINK_CHANGE, and the link of a media MAC with its lane (R342, R370): a link that comes up shows the speed, the duplex and the FEC in
effect. -/
def State.macLink (s : State) (m : Nat) (up : Bool) : State :=
  let speed := s.rd (F.MAC_CTRL_SPEED.pg m)
  let s1 := s.wrAll [(F.MAC_STAT_LINK.pg m, up.toNat), (F.MAC_STAT_FEC_LOCK.pg m, (up && m != 2 && speed == 2 && s.rd (F.MAC_CTRL_FEC.pg m) != 0).toNat)]
  (if up then s1.wrAll [(F.MAC_STAT_SPEED_ACT.pg m, speed), (F.MAC_STAT_FULL.pg m, (!s.halfDuplex m).toNat)]
   else s1).source (0x60 + m) 0 (!up)

/-! MACs: receiving (R344, R346 to R349). -/

/-- A PRP frame (R349): whether it is delivered, with nodes, duplicates and wrong LANs noted. -/
def State.prpIn (s : State) (m : Fin 3) (src : Nat) (rct : Nat × Nat) : Bool × State :=
  let n0 := if s.net.nodes.contains src ∨ 1024 ≤ s.net.nodes.length then s.net.nodes else s.net.nodes ++ [src]
  let s0 := (s.setNet { s.net with nodes := n0 }).wr F.PRP_NODES n0.length
  let s1 := if rct.1 = 10 + m.val then s0 else s0.bump (if m.val = 0 then F.PRP_WRONG_LAN_A else F.PRP_WRONG_LAN_B)
  match s1.net.seen.find? fun p => p.node == src && p.seq == rct.2 && p.port != m.val with
  | some p =>
    let seen := s1.net.seen.map fun q => if q = p then { q with both := true } else q
    (false, (s1.setNet { s1.net with seen := seen }).bump F.PRP_DUP)
  | none => (true, s1.setNet { s1.net with seen := s1.net.seen ++ [⟨src, rct.2, m.val, false⟩] })

/-- Receive streams that are enabled and not stopped, and transmit streams that run. -/
def State.rxStreams (s : State) : List Nat := if s.enabled 0x64 ∧ s.admitted 0x64 then (List.range 256).filter fun n =>
    s.on (F.RX_CFG0_EN.rx n) && s.rd (F.RX_STAT_STATE.rx n) != 0 else []
def State.txStreams (s : State) : List Nat := (List.range 256).filter fun n => s.on (F.TX_STAT_RUNNING.tx n)

/-- Whether a packet is for a receive stream (R364, check 1). -/
def State.forStream (s : State) (n : Nat) (p : RtpPacket) : Bool :=
  p.ok && s.rd (F.RX_CFG1.rx n) == p.dstIp.toNat && s.rd (F.RX_CFG2_PORT.rx n) == p.port.toNat

/-- A resolved address noted by every transmit stream it serves (R347). -/
def State.resolved (s : State) (ip mac : Nat) : State :=
  let s1 := s.each s.txStreams fun t n =>
    if t.rd (F.TX_CFG1.tx n) = ip ∧ ¬ isGroup ip then
      (t.setTx n { t.txOf n with arp := some mac, asks := 0, noArp := false }).wr (F.TX_STAT_ARP_WAIT.tx n) 0
    else t
  if s1.net.tx.any fun x => x.2.noArp then s1 else s1.source 0x64 4 false

/-- A firmware frame sent in answer to one that came on MAC `m`: on that MAC, or on the media ports. -/
def State.answerOn (s : State) (m : Fin 3) (dst : Nat) (b : TxBody) : State :=
  if m = 2 then s.enqueue 2 ⟨dst, none, b⟩ else s.sendMedia dst b

/-- What a good frame does (R344, R346, R347, R355, R357). A gratuitous ARP names its sender as its target. -/
def State.netBody (s : State) (m : Fin 3) (src : Nat) : NetBody → State
  | .rtp p =>
    if m.val < 2 ∧ (s.rxStreams.any fun n => s.forStream n p) then s.setNet { s.net with rtpIn := s.net.rtpIn ++ [p] }
    else s.bump (F.MAC_RX_DROP.pg m.val)
  | .arpRequest target sender mac =>
    if target = sender then s.resolved sender.toNat mac.toNat
    else if target.toNat = s.rd F.NET_IP then s.answerOn m mac.toNat (.arpReply sender) else s
  | .arpReply ip mac => s.resolved ip.toNat mac.toNat
  | .echo sender d => s.answerOn m src (.echoReply sender d)
  | .igmpQuery => s.each ((s.rxStreams.map fun n => s.rd (F.RX_CFG1.rx n)).eraseDups.filter isGroup) fun t ip =>
      t.sendMedia (groupMac ip) (.igmpReport (BitVec.ofNat 32 ip))
  | .ptp p => s.setNet { s.net with ptpIn := s.net.ptpIn ++ [(m.val, p, s.rxStamp m)] }
  | .supervision => s
  | .pause q =>
    let s1 := s.bump (F.MAC_PAUSE_RX.pg m.val)
    if s.on (F.MAC_CTRL_PAUSE_EN.pg m.val) ∧ ¬ s.halfDuplex m.val then s1.wrb (F.MAC_STAT_PAUSED.pg m.val) (q != 0) else s1
  | .other => s.bump (F.MAC_RX_DROP.pg m.val)

/-- MAC_FRAME_RX (R344, R346, R348, R349). -/
def State.macRx (s : State) (m : Fin 3) (f : NetFrame) : State :=
  if ¬ s.enabled (0x60 + m.val) then s
  else if ¬ f.fcsOk then (s.bump (F.MAC_RX_FCS.pg m.val)).pulse (0x60 + m.val) 3
  else
    let s1 := s.bump (F.MAC_RX_FRAMES.pg m.val)
    let tagged : Bool := match f.vid with
      | none => true
      | some v => v.toNat == 0 || v.toNat == s.rd (F.MAC_VLAN.pg m.val)
    if ¬ tagged then s1.bump (F.MAC_RX_DROP.pg m.val)
    else match f.rct with
      | some r =>
        if m.val < 2 ∧ s.on F.NET_CTRL_PRP_EN then
          let p := s1.prpIn m f.src.toNat (r.1.val, r.2.toNat)
          if p.1 then p.2.netBody m f.src.toNat f.body else p.2
        else s1.netBody m f.src.toNat f.body
      | none => s1.netBody m f.src.toNat f.body

/-- PRP_PARTNER_TIMEOUT (R349): 400 ms after a copy came. -/
def State.prpTimeout (s : State) (node : Nat) (seq : Nat) : State :=
  match s.net.seen.find? fun p => p.node == node && p.seq == seq with
  | none => s
  | some p =>
    let s1 := s.setNet { s.net with seen := s.net.seen.erase p }
    if p.both then s1 else s1.bump (if p.port = 0 then F.PRP_MISS_B else F.PRP_MISS_A)

/-- PRP_NODE_AGEOUT (R348). -/
def State.prpAgeout (s : State) (node : Nat) : State :=
  let l := s.net.nodes.erase node
  (s.setNet { s.net with nodes := l }).wr F.PRP_NODES l.length

/-- PRP_SUPERVISION_TIMER (R348). -/
def State.prpSupervise (s : State) : State :=
  if s.on F.NET_CTRL_PRP_EN ∧ s.on F.NET_CTRL_SUPERV ∧ s.enabled 0x64 then s.sendMedia 0x01154E000100 .supervision else s

/-- ONE_LAN (R350): raised, or cleared. -/
def State.oneLan (s : State) (lan : Fin 2) (v : Bool) : State :=
  (s.setNet { s.net with missing := if v then some lan else none }).source 0x64 0 v

/-! ARP of transmit streams (R347). -/

/-- An ARP request for a stream's destination. -/
def State.askArp (s : State) (n : Nat) : State := s.sendMedia 0xFFFFFFFFFFFF (.arpRequest (s.reg (F.TX_CFG1.tx n).addr))

/-- A field of a transmit stream's configuration: of the words it keeps while it ramps out, else of its registers (R367). -/
def State.txRd (s : State) (n : Nat) (f : Fld) : Nat :=
  match (s.txOf n).cfg[(f.addr - 0x66040) / 4]? with
  | some w => bitsOf w.toNat f.hi f.lo
  | none => s.rd (f.tx n)

/-- Whether a stream sends to a unicast address. -/
def State.unicast (s : State) (n : Nat) : Bool := !isGroup (s.txRd n F.TX_CFG1)

/-- ARP_RETRY_TIMER: every second while a destination is unresolved, or a refresh is unanswered; after three unanswered
refreshes the stream is unresolved again. -/
def State.arpRetry (s : State) (n : Nat) : State :=
  let x := s.txOf n
  if ¬ (s.on (F.TX_STAT_RUNNING.tx n) ∧ s.unicast n) then s
  else match x.arp with
    | none => s.askArp n
    | some _ =>
      if x.asks = 0 then s
      else if 3 ≤ x.asks then (((s.setTx n { x with arp := none, asks := 0 }).wr (F.TX_STAT_ARP_WAIT.tx n) 1)).askArp n
      else (s.setTx n { x with asks := x.asks + 1 }).askArp n

/-- ARP_REFRESH_TIMER: every 60 s of a resolved entry. -/
def State.arpRefresh (s : State) (n : Nat) : State :=
  let x := s.txOf n
  if s.on (F.TX_STAT_RUNNING.tx n) ∧ s.unicast n ∧ x.arp.isSome then (s.setTx n { x with asks := 1 }).askArp n else s

/-- NO_ARP: 3 s unresolved. -/
def State.noArp (s : State) (n : Nat) : State :=
  let x := s.txOf n
  if s.on (F.TX_STAT_RUNNING.tx n) ∧ s.unicast n ∧ x.arp = none then (s.setTx n { x with noArp := true }).source 0x64 4 true else s

/-! The PTP instances (R354, R357). -/

/-- PTP_MESSAGE_RX: the oldest message handled by each instance it is for; `st` is the port state that the best master clock
algorithm gives. -/
def State.ptpMessage (s : State) (st : Fin 10) : State :=
  match s.net.ptpIn with
  | [] => s
  | (m, p, stamp) :: rest =>
    (s.setNet { s.net with ptpIn := rest }).each (List.finRange 4) fun t d =>
      let cfg := t.net.td[d].cfg
      if ¬ (bitOf cfg.toNat (8 + m) ∧ bitsOf cfg.toNat 7 0 = p.domain.toNat ∧ bitOf cfg.toNat 13 = p.l2) then t
      else
        let t1 := t.wrAll [(F.PTP_STAT_PORT_STATE.pg d.val, st.val), (F.PTP_STAT_PORT.pg d.val, m)]
        let port : Fin 3 := Fin.ofNat 3 m
        match p.kind.val with
        | 0xB => (t1.wr64 (F.PTP_GM_LO.pg d.val) (F.PTP_GM_HI.pg d.val) p.gm.toNat).source (0x68 + d.val) 2 false
        | 1 => if st.val = 6 ∧ ¬ bitOf cfg.toNat 12 then t1.sendPtp port d 9 (some stamp) else t1
        | 2 => if bitOf cfg.toNat 12 then t1.sendPtp port d 3 (some stamp) else t1
        | _ => t1

/-- PTP_SYNC_INTERVAL: the firmware's evaluation of an interval with the offset it measured, and what its servo steps or
rates. A master sends a Sync on each of its ports. -/
def State.ptpSync (s : State) (d : Fin 4) (ofs : Word) (step : Option (Int × Word)) (rate : Option Word) : State :=
  let x := s.net.td[d]
  if s.on (F.TD_CTRL_SERVO.pg d.val) ∨ ptpPorts x.cfg = [] then s
  else
    let o := ofs.toInt.natAbs
    let good := if o < 100 then min 16 (x.good + 1) else 0
    let bad := if 1000 < o then min 4 (x.bad + 1) else 0
    let far := if 10000 < o then min 8 (x.far + 1) else 0
    let trusted := if good = 16 then true else if bad = 4 then false else x.trusted
    let s1 := ((s.setTd d { x with good := good, bad := bad, far := far, trusted := trusted }).setReg (F.TD_OFFSET.pg d.val).addr ofs).showLocked d
    let s2 := if far = 8 ∧ s1.rd (F.TD_STAT_STATE.pg d.val) = 1 then s1.enterReacquire d else s1
    let s3 : State := match rate with
      | some w => s2.setReg (F.TD_RATE.pg d.val).addr w
      | none => s2
    let s4 : State := match step with
      | some p => if s3.rd (F.TD_STAT_STATE.pg d.val) = 1 then s3 else s3.stepTd d p.1 p.2.toNat
      | none => s3
    if s4.rd (F.PTP_STAT_PORT_STATE.pg d.val) = 6 then s4.each (ptpPorts x.cfg) fun t m => t.sendPtp m d 0 none else s4

/-- PTP_ANNOUNCE_TIMEOUT: no announce for 3 intervals. -/
def State.ptpTimeout (s : State) (d : Fin 4) : State :=
  if ptpPorts s.net.td[d].cfg = [] then s
  else
    let s1 := s.source (0x68 + d.val) 2 true
    if ¬ s.on (F.TD_CTRL_SERVO.pg d.val) ∧ s.rd (F.TD_STAT_STATE.pg d.val) = 1 then s1.enterReacquire d else s1

/-- PTP_CFG_APPLY: at the next announce interval. -/
def State.ptpApply (s : State) (d : Fin 4) : State := s.setTd d { s.net.td[d] with cfg := s.reg (F.PTP_CFG_DOMAIN.pg d.val).addr }

/-! Anchors (R359, R360). -/

/-- A domain's anchor, if it has one. -/
def State.anchorOf (s : State) (d : Nat) : Option Int :=
  if s.on (F.TD_STAT_ANCHORED.pg d) then some (signed (s.rd64 (F.TD_ANCHOR_LO.pg d) (F.TD_ANCHOR_HI.pg d)) 64) else none

/-- An anchor in force. -/
def State.setAnchor (s : State) (d : Nat) (a : Int) : State :=
  (s.wr64 (F.TD_ANCHOR_LO.pg d) (F.TD_ANCHOR_HI.pg d) (unsigned a 64)).wr (F.TD_STAT_ANCHORED.pg d) 1

/-- floor(t_x × fs) at the time a domain holds. -/
def State.mediaTime (s : State) (d : Fin 4) : Int := (s.net.td[d].time * s.fs / (10 ^ 9 * 2 ^ 40) : Nat)

/-- Anchors at a tick start (ANCHOR_SET, R359): a move that falls due, a first anchor, the difference d. A standby uses the
active's anchors (R360). -/
def State.anchorTick (s : State) : State :=
  s.each (List.finRange 4) fun t d =>
    let x := t.net.td[d]
    let n : Int := (t.tick * t.F : Nat)
    let t0 := match x.move with
      | some (k, a) => if k ≤ t.tick then (t.setAnchor d.val a).setTd d { x with move := none, run := 0 } else t
      | none => t
    let x := t0.net.td[d]
    if t0.isStandby ∨ t0.rd (F.TD_STAT_STATE.pg d.val) = 0 then t0
    else if x.toSet ∧ t0.rd (F.TD_STAT_STATE.pg d.val) = 1 then
      let a := t0.mediaTime d - n
      ((t0.setAnchor d.val a).setTd d { x with toSet := false, run := 0, d := 0, move := none }).mirrorWrite (.anchor d.val a t0.tick)
    else match t0.anchorOf d.val with
      | none => t0
      | some a =>
        if x.move.isSome then t0
        else
          let dd := t0.mediaTime d - (n + a)
          t0.setTd d { x with d := dd, run := if 2 ≤ dd.natAbs then min 16 (x.run + 1) else 0 }

/-- ANCHOR_SLIP (R359): after 16 ticks the anchor moves from four ticks on. -/
def State.anchorSlip (s : State) (d : Fin 4) : State :=
  let x := s.net.td[d]
  match s.anchorOf d.val with
  | none => s
  | some a =>
    if x.run < 16 ∨ s.isStandby then s
    else
      (((s.setTd d { x with run := 0, move := some (s.tick + 4, a + x.d) }).bump (F.TD_ANCHOR_SLIP.pg d.val)).pulse (0x68 + d.val) 3).mirrorWrite
        (.anchor d.val (a + x.d) (s.tick + 4))

/-! Streams (R361 to R367). -/

/-- N_P of a packet-time code at a rate (R362), and bytes per word of a format. -/
def packetSamples (code rate : Nat) : Nat := [6, 12, 16, 48].getD code 48 * 2 ^ rateClass rate
def formatBytes (f : Nat) : Nat := if f = 0 then 2 else if f = 1 then 3 else 4

/-- D of a receive stream (R361). -/
def State.linkOffset (s : State) (n : Nat) : Nat := ceilDiv (s.rd (F.RX_CFG5.rx n) * s.fs) (10 ^ 6)

/-- A stream's channels. -/
def State.rxCh (s : State) (n : Nat) : Nat := s.rd (F.RX_CFG0_CH.rx n) + 1
def State.rxNp (s : State) (n : Nat) : Nat := packetSamples (s.rd (F.RX_CFG0_PTIME.rx n)) (s.rd F.TICK_CFG_RATE)

/-- Words of a payload as Q1.31 samples (R315, R362): big-endian, at the top. -/
def payloadWords (w : Nat) : Nat → List Byte → List Word
  | 0, _ => []
  | n + 1, b => BitVec.ofNat 32 (leNat (b.take w).reverse * 2 ^ (32 - 8 * w)) :: payloadWords w n (b.drop w)

/-- The sample number nearest `now` at which a timestamp is due in a receive stream (R361). -/
def dueAt (ts off dly : Nat) (anchor now : Int) : Int :=
  let base : Int := ts - off + dly - anchor
  now + ((base - now + 2 ^ 31) % 2 ^ 32 - 2 ^ 31)

/-- The Bihiron header of an extension (R278, R364): claim, NODE_ID, low tick, pair ID. -/
def bihironOf (e : List Byte) : Option (Nat × Nat × Nat × Nat) :=
  let be (o n : Nat) : Nat := leNat ((e.drop o).take n).reverse
  if e.length = 12 ∧ be 0 2 = 0xB1C5 ∧ be 2 2 = 2 then some (be 4 2, be 6 4 / 16384, be 6 4 % 256, be 10 2) else none

/-- A packet that has come to receive stream `n` at sample number `now` (R364, R365); with no anchor it is taken nowhere (R367). -/
def State.rxPacket (s : State) (n : Nat) (p : RtpPacket) (now : Int) : State :=
  let w := formatBytes (s.rd (F.RX_CFG0_FORMAT.rx n))
  let np := s.rxNp n
  let ssrcOk := !s.on (F.RX_CFG2_SSRC_FILT.rx n) || s.rd (F.RX_CFG3.rx n) == p.ssrc.toNat
  if ¬ (p.version.val = 2 ∧ p.pt.toNat = s.rd (F.RX_CFG2_PT.rx n) ∧ ssrcOk ∧ p.payload.length = s.rxCh n * w * np) then
    (s.bump (F.RX_BAD.rx n)).pulse 0x64 3
  else
    let x := s.rxOf n
    let s1 := if x.ssrc.isSome ∧ x.ssrc ≠ some p.ssrc.toNat then s.bump (F.RX_SSRC_CHG.rx n) else s
    let s2 := match x.seq with
      | some q => if (q + 1) % 65536 = p.seq.toNat then s1 else s1.bump (F.RX_SEQGAP.rx n)
      | none => s1
    let bih := if s.on (F.RX_CFG2_BIHIRON.rx n) then p.ext.bind bihironOf else none
    let s3 := match bih with
      | some h => s2.wrAll [(F.RX_BIH_NODE_ID.rx n, h.2.1), (F.RX_BIH_TICK_LO.rx n, h.2.2.1)]
      | none => s2
    let x1 := { x with ssrc := some p.ssrc.toNat, seq := some p.seq.toNat }
    match s.anchorOf (s.rd (F.RX_CFG0_TD.rx n)) with
    | none => s3.setRx n x1
    | some a =>
      let first := dueAt p.ts.toNat (s.rd (F.RX_CFG4.rx n)) (s.linkOffset n) a now
      if now + (s.linkOffset n + 2 * np : Nat) < first + np - 1 then (s3.setRx n x1).bump (F.RX_EARLY.rx n)
      else if first ≤ now then (s3.setRx n x1).bump (F.RX_LATE.rx n)
      else
        let us := ((first - now) * 10 ^ 6 / s.fs).toNat
        let ms := (s.ms, us) :: x1.margins.filter fun q => decide (s.ms < q.1 + 1000)
        let pk : RxPkt := ⟨p.ts.toNat, payloadWords w (s.rxCh n * np) p.payload, bih.map fun h => (h.1, h.2.2.2)⟩
        let x2 := { x1 with pkts := (x1.pkts.filter fun q => q.ts != pk.ts) ++ [pk], took := true, margins := ms }
        (s3.setRx n x2).wr (F.RX_STAT_MARGIN_US.rx n) (min 65535 (ms.foldl (fun a q => min a q.2) us))

/-- STREAM_PACKET_RX: the oldest packet taken in, at sample `i` of the tick. -/
def State.streamPacket (s : State) (i : Nat) : State :=
  match s.net.rtpIn with
  | [] => s
  | p :: rest =>
    let now : Int := (s.tick * s.F + i : Nat)
    (s.setNet { s.net with rtpIn := rest }).each (s.rxStreams.filter fun n => s.forStream n p) fun t n => t.rxPacket n p now

/-- The stream merge group whose primary is stream `n`: its number and its secondary (R281). -/
def State.streamGroup (s : State) (n : Nat) : Option (Nat × Nat) :=
  if ¬ s.enabled 0x83 then none
  else ((List.range 128).find? fun g => s.on (F.CLM_MSTR_EN.ix g) && s.rd (F.CLM_MSTR_PRIMARY.ix g) == n).map fun g =>
    (g, s.rd (F.CLM_MSTR_SECONDARY.ix g))

/-- The packet of a stream that holds a timestamp. -/
def RxStream.at_ (x : RxStream) (np ts : Nat) : Option RxPkt := x.pkts.find? fun p => decide ((ts + 2 ^ 32 - p.ts) % 2 ^ 32 < np)

/-- Which of two packets of one timestamp a merge group takes: the primary's (false) or the secondary's (R284). -/
def mergePick (p q : Option RxPkt) : Option (Bool × RxPkt) :=
  match p, q with
  | none, none => none
  | some a, none => some (false, a)
  | none, some b => some (true, b)
  | some a, some b =>
    match a.claim, b.claim with
    | some ca, some cb => if ca.2 = cb.2 ∧ claimCompare cb.1 ca.1 = 1 then some (true, b) else some (false, a)
    | none, some _ => some (true, b)
    | _, none => some (false, a)

/-- One due sample of a receive stream for sample `i` of the frame in process (R361, R366, R367). -/
def State.rxSample (s : State) (n : Nat) (a : Int) (i : Nat) : State :=
  let x := s.rxOf n
  let np := s.rxNp n
  let ch := s.rxCh n
  let m : Int := (s.frame * s.F + i : Nat)
  let ts := unsigned (m + a + s.rd (F.RX_CFG4.rx n) - s.linkOffset n) 32
  let base := s.rd (F.RX_CFG0_IN_BASE.rx n)
  let fresh : Bool := match x.next with
    | none => true
    | some t => decide ((ts + 2 ^ 32 - t) % 2 ^ 32 < 2 ^ 31)
  let grp := s.streamGroup n
  let pick := if ¬ fresh then none else match grp with
    | some (_, k) => mergePick (x.at_ np ts) ((s.rxOf k).at_ np ts)
    | none => (x.at_ np ts).map fun p => (false, p)
  let s0 := match grp, pick with
    | some (g, _), some (sec, _) =>
      let s1 := (s.setBitArr F.CLM_MSEL_STR g sec).setBitArr F.CLM_MUTE_STR g false
      if s.bitArr F.CLM_MSEL_STR g ≠ sec ∧ x.next.isSome then (s1.bump F.CLM_SWITCH_CNT).pulse 0x83 1 else s1
    | some (g, _), none => s.setBitArr F.CLM_MUTE_STR g true
    | none, _ => s
  let put (t : State) (k : Nat) (ok : Bool) (w : Word) : State :=
    { t with eng := { t.eng with inp := putSample t.eng.inp (base + k) i w, inpOk := Sparse.set false t.eng.inpOk (16 * (base + k) + i) ok } }
  match pick with
  | some (_, p) =>
    let o := (ts + 2 ^ 32 - p.ts) % 2 ^ 32 * ch
    let s1 := s0.each (List.range ch) fun t k => put t k true (p.words.getD (o + k) 0)
    s1.setRx n { s1.rxOf n with next := some ((ts + 1) % 2 ^ 32) }
  | none =>
    let s1 := s0.each (List.range ch) fun t k => put t k false 0
    if x.next.isSome then ((s1.setRx n { x with lost := true }).bumpBy (F.RX_LOST.rx n) ch).pulse 0x64 1 else s1

/-- The receive streams' samples of the frame in process, at tick entry (R361, R366), and what they show. -/
def State.streamsIn (s : State) : State :=
  s.each s.rxStreams fun t n =>
    let t0 := t.setRx n { t.rxOf n with lost := false }
    let t1 := match t0.anchorOf (t0.rd (F.RX_CFG0_TD.rx n)) with
      | some a => t0.each (List.range t0.F) fun t i => t.rxSample n a i
      | none => t0
    let x := t1.rxOf n
    let keep := x.pkts.filter fun p => match x.next with
      | some q => decide ((p.ts + t1.rxNp n + 2 ^ 32 - q - 1) % 2 ^ 32 < 2 ^ 31)
      | none => true
    let st := if x.next = none then 1 else if x.lost then 3 else 2
    ((t1.setRx n { x with pkts := keep }).wr (F.RX_STAT_STATE.rx n) st).setBitArr F.STR_CONC n x.lost

/-- What the stream pages show at a tick start: streams that took a packet in the tick before. -/
def State.streamsTick (s : State) : State :=
  s.each s.rxStreams fun t n =>
    let x := t.rxOf n
    (t.setRx n { x with took := false }).setBitArr F.STR_RX_ACT n x.took

/-- Output samples of the frame leaving in this tick handed to the transmit streams (R361, R363, R367). -/
def State.streamsOut (s : State) (concealed : Nat → Bool) : State :=
  s.each s.txStreams fun t n =>
    let x := t.txOf n
    let ch := t.txRd n F.TX_CFG0_CH + 1
    let base := t.txRd n F.TX_CFG0_OUT_BASE
    let con := (List.range ch).any fun k => concealed ((base + k) / 4)
    let new := (List.range t.F).map fun i =>
      let w (k : Nat) : Word := match x.ramp with
        | some j => if j + i < 64 then (if t.eng.restart.isSome then sampleAt t.eng.emit (base + k) i
            else fallAt (sampleAt t.eng.emit (base + k) i) (j + i) 64) else 0
        | none => sampleAt t.eng.emit (base + k) i
      (t.tick * t.F + i, (List.range ch).map w, con, t.claim)
    t.setTx n { x with buf := x.buf ++ new, ramp := x.ramp.map (· + t.F) }

/-- A sample as bytes of a stream (R315, R362): rounded to the format, big-endian. -/
def sampleBytes (f : Nat) (w : Word) : List Byte :=
  let n := formatBytes f
  (leBytes 4 (outWord (8 * n) w).toNat).reverse.take n

/-- A stream starts with the plan (R347, R367): its sequence number comes from the TRNG. -/
def State.txStart (s : State) (n : Nat) : State :=
  let r := s.open_
  let s1 := ((r.2.setTx n { TxStream.rest with seq := r.1 % 65536 }).wr (F.TX_STAT_RUNNING.tx n) 1).setBitArr F.STR_TX_ACT n true
  if s1.unicast n then (s1.wr (F.TX_STAT_ARP_WAIT.tx n) 1).askArp n else s1

/-- A transmit stream that ramps out has sent the packets of its ramp: it stops, and starts again where the new plan has it
(R367). -/
def State.txDone (s : State) (n : Nat) : State :=
  let again := (s.txOf n).again
  let s1 := ((s.setTx n .rest).wr (F.TX_STAT_RUNNING.tx n) 0).setBitArr F.STR_TX_ACT n false
  if again then s1.txStart n else s1

/-- The header fields of a transmit stream's packets. -/
def State.txHead (s : State) (n : Nat) : StreamHead :=
  { srcIp := s.rd F.NET_IP, dstIp := s.txRd n F.TX_CFG1, srcPort := s.txRd n F.TX_CFG2_SRC_PORT, dstPort := s.txRd n F.TX_CFG2_DST_PORT
    ttl := s.txRd n F.TX_CFG6, dscp := s.txRd n F.TX_CFG5_DSCP
    vlan := if s.txRd n F.TX_CFG5_VLAN_EN = 1 then some (s.txRd n F.TX_CFG5_VID, s.txRd n F.TX_CFG5_PCP) else none
    pt := s.txRd n F.TX_CFG5_PT, ssrc := s.txRd n F.TX_CFG3 }

/-- STREAM_PACKET_TX (R361, R363): a packet once N_P samples wait; `full` = the MAC queue is full. -/
def State.streamSend (s : State) (n : Nat) (full : Bool) : State :=
  let x := s.txOf n
  let np := packetSamples (s.txRd n F.TX_CFG0_PTIME) (s.rd F.TICK_CFG_RATE)
  match s.anchorOf (s.txRd n F.TX_CFG0_TD), x.buf.head? with
  | some a, some h =>
    if ¬ s.on (F.TX_STAT_RUNNING.tx n) ∨ x.buf.length < np then s
    else
      let part := x.buf.take np
      let x1 := { x with buf := x.buf.drop np }
      let short : Bool := match x.ramp with
        | some j => decide (64 ≤ j) && decide (x1.buf.length < j - 63)
        | none => false
      let s0 := s.setTx n x1
      let s1 :=
        if s.unicast n ∧ x.arp = none then s0.bump (F.TX_NOARP.tx n)
        else if full then (s0.bump (F.TX_DROP.tx n)).pulse 0x64 2
        else
          let ts := unsigned (h.1 + a + s.txRd n F.TX_CFG4) 32
          let con := part.any fun p => p.2.2.1
          let node := s.rd F.NODE_ID * 16384 + con.toNat * 512 + s.pair.formed.toNat * 256 + h.1 / s.F % 256
          let ext := if s.txRd n F.TX_CFG5_BIHIRON = 1 then
              beBytes 2 0xB1C5 ++ beBytes 2 2 ++ beBytes 2 h.2.2.2 ++ beBytes 4 node ++ beBytes 2 (s.rd F.PAIR_CFG_PAIR_ID)
            else []
          let pay := part.flatMap fun p => p.2.1.flatMap fun w => sampleBytes (s.txRd n F.TX_CFG0_FORMAT) w
          let ip := s.txRd n F.TX_CFG1
          let dst := if isGroup ip then groupMac ip else x.arp.getD 0
          ((s0.sendMedia dst (.rtp n ts x.seq (s.txHead n) ext pay)).setTx n { x1 with seq := (x.seq + 1) % 65536 }).bump (F.TX_PKTS.tx n)
      if short ∧ x.notBefore ≤ s.tick then s1.txDone n else s1
  | _, _ => s

/-- A transmit stream that the new plan removes or changes ramps out and stops (R367). -/
def State.txStop (s : State) (n : Nat) (again : Bool) (r : Nat) : State :=
  let x := s.txOf n
  s.setTx n { x with ramp := some (x.ramp.getD 0), cfg := if x.cfg = [] then s.wordsAt (F.TX_CFG0_EN.tx n).addr 7 else x.cfg,
                     again := again, notBefore := r }

/-- Receive streams start waiting, or stop (R367). -/
def State.rxStart (s : State) (n : Nat) : State := (s.setRx n .rest).wr (F.RX_STAT_STATE.rx n) 1
def State.rxStop (s : State) (n : Nat) : State := ((s.setRx n .rest).wr (F.RX_STAT_STATE.rx n) 0).setBitArr F.STR_CONC n false

end Sys2Proof.Machine
end

