-- ==== Sys2Proof/Machine/Scenes.lean ====
section
/-!
DEFINITION. Develops from dispatch to commit (R158 to R166), the reserve and the start and end of changes of instances
(R76, R166, R172, R173), and how a plan takes effect (R30, R67, R73, R126, R546).
-/
namespace Sys2Proof.Machine

/-! Instances and the Dissolve reserve. -/

/-- The words a bank holds for an instance: `bank` is 0 or 0x1000000. -/
def State.paramsAt (s : State) (bank h : Nat) (coef : Nat × Nat) : Params :=
  { ctrl := s.word (bank + 0x600000 + 64 * h + 4),
    par := (List.range 12).map fun i => s.word (bank + 0x600010 + 64 * h + 4 * i),
    coef := (List.range ((coef.2 + 3) / 4)).map fun i => s.word (bank + coef.1 + 4 * i) }

/-- Whether a set of lines holds an instance's record or part of its array. -/
def touchesInst (a : Admitted) (lines : List Nat) (h : Nat) : Bool :=
  let c := a.coef.getD h (0, 0)
  lines.contains (0x18000 + h) || (c.2 != 0 && lines.any fun l => decide (64 * l < c.1 + c.2) && decide (c.1 < 64 * l + 64))

/-- The Dissolves of a cluster that wait for a place, as (Develop, handle) (R76). -/
def State.waiters (s : State) (c : Nat) : List (Nat × Nat) :=
  (indexed s.eng.insts).filterMap fun x => match x.2.waiting with
    | some w => if x.2.cluster = c ∧ ¬ w.ready then some (w.seq, x.1) else none
    | none => none

/-- Places of a cluster that are free (R76). -/
def State.freePlaces (s : State) (c : Nat) : Nat := match s.eng.proc with
  | some a => a.places.getD c 0 - (s.eng.insts.filter fun i => i.placed && i.cluster == c).length
  | none => 0

/-- Instances dissolving and waiting, as the registers show them (R173). -/
def State.showDiss (s : State) : State :=
  let on := (s.eng.insts.filter (·.dissolving)).length
  let wait := ((List.range 16).map fun c => (s.waiters c).length).sum
  s.wrAll [(F.SCN_DISS_CNT_ACTIVE, on), (F.SCN_DISS_CNT_WAITING, wait), (F.SCN_STAT_DISSOLVING, (on + wait != 0).toNat),
    (F.BANK_STAT_DISSOLVING.pg 0x20, (on != 0).toNat), (F.BANK_STAT_DISSOLVING.pg 0x28, (on != 0).toNat)]

/-- A committed change of a kept instance, for frame `m` on: it is ready at once, or waits for a place (R76, R166). -/
def State.changeInst (s : State) (seq ld m h : Nat) (next : Params) : State :=
  match s.eng.proc, s.eng.insts[h]? with
  | some a, some i =>
    let dest := (clampParams i.info s.fs next).1
    let idle := !anyDiff i.target dest
    let w : Waiting := match i.waiting with
      | some w => { w with ld := ld, next := next, due := m }
      | none => ⟨seq, ld, next, m, false⟩
    if idle then (s.setInst h { i with waiting := none, placed := i.dissolving, clamped := (clampParams i.info s.fs next).2 }).showDiss
    else
      let need := decide (a.allowance ≠ 0) && needsPlace i.info (s.dissOf i) i.target dest
      if ¬ need ∨ i.placed then (s.setInst h { i with waiting := some { w with ready := true } }).showDiss
      else if (s.waiters i.cluster).length < s.freePlaces i.cluster then
        (s.setInst h { i with waiting := some { w with ready := true }, placed := true }).showDiss
      else
        let s1 := s.setInst h { i with waiting := some { w with ready := false } }
        if i.waiting.isSome then s1.showDiss else ((s1.bump F.DISS_WAIT).pulse 0x02 5).showDiss
  | _, _ => s

/-- A ready change starts with the frame in process (R166 to R172, R101). -/
def State.startInst (s : State) (h : Nat) : State :=
  match s.eng.proc, s.eng.insts[h]? with
  | some a, some i =>
    match i.waiting with
    | some w =>
      if w.ready ∧ w.due ≤ s.frame then
        let r := i.startChange w s.F s.fs (s.dissOf i) (a.allowance == 0)
        let s1 := s.setInst h { r.1 with placed := r.1.dissolving || r.1.chained.isSome }
        let s2 := if r.2 then s1.bump F.SCN_CHAIN_CNT else s1
        (if i.info.typ = 0x0A ∧ i.target.w 0x10 ≠ w.next.w 0x10 then s2.freqChanged h else s2).showDiss
      else s
    | none => s
  | _, _ => s

/-- Every change that may start with the frame in process starts. -/
def State.startInsts (s : State) : State := s.each (List.range s.eng.insts.length) State.startInst

/-- The waiting Dissolve that takes the next place of a cluster: the earliest Develop's, the lowest handle (R76). -/
def firstWaiter : List (Nat × Nat) → Option (Nat × Nat)
  | [] => none
  | x :: t => match firstWaiter t with
    | some y => if y.1 < x.1 ∨ (y.1 = x.1 ∧ y.2 < x.2) then some y else some x
    | none => some x

/-- DISSOLVE_WAIT_START: at tick entry a waiting Dissolve takes a place that came free (R76). -/
def State.waitStart (s : State) (h : Nat) : State :=
  match s.eng.insts[h]? with
  | some i =>
    if (firstWaiter (s.waiters i.cluster)).map (·.2) = some h ∧ 0 < s.freePlaces i.cluster then
      (s.setInst h { i with placed := true, waiting := i.waiting.map fun w => { w with ready := true } }).startInst h |>.showDiss
    else s
  | none => s

/-- DISSOLVE_END: the tick that processed an instance's last transition sample ends (R173). -/
def State.dissolveEnd (s : State) (h : Nat) : State :=
  match s.eng.insts[h]? with
  | some i =>
    if i.dissolving ∧ i.ramps = [] ∧ i.fade = none ∧ i.chained = none then
      (s.setInst h { i with dissolving := false, placed := (i.waiting.map (·.ready)).getD false }).showDiss
    else s
  | none => s

/-- CHAINED_CHANGE_START: the change that waited for the running crossfade (R172). -/
def State.chainStart (s : State) (h : Nat) : State :=
  match s.eng.insts[h]? with
  | some i => if i.chained.isSome ∧ i.fade = none then (s.setInst h i.startChained).showDiss else s
  | none => s

/-! A plan takes effect. -/

/-- The register an address names: a stream window's are those of the stream it shows (spec/12). -/
def State.home (s : State) (a : Nat) : Nat :=
  if 0x65040 ≤ a ∧ a < 0x65100 then 0x100000 + 0x100 * s.rd F.STR_SEL_RX + a % 4096
  else if 0x66040 ≤ a ∧ a < 0x66100 then 0x200000 + 0x100 * s.rd F.STR_SEL_TX + a % 4096
  else a

/-- The bits of access RWA of the register at `a`. -/
def rwaMask (a : Nat) : Word := match RegDir.row? a with
  | some r => r.fields.foldl (fun m f => if f.acc = .rwa then m ||| (Fld.mask ⟨a, f.hi, f.lo⟩) else m) 0
  | none => 0

/-- One register-image record (R67, R369). -/
def State.imageWrite (s : State) (x : Nat × Word) : State :=
  if 0x100000 ≤ x.1 ∨ x.1 % 4 ≠ 0 then s
  else if x.1 = F.STR_SEL_RX.addr ∨ x.1 = F.STR_SEL_TX.addr then s.setReg x.1 (x.2 &&& 0xFF)
  else
    let h := s.home x.1
    s.setReg h ((s.reg h &&& ~~~(rwaMask x.1)) ||| (x.2 &&& rwaMask x.1))

/-- The registers as a register image leaves them: no stream that it does not load, then its records in order. -/
def State.imaged (s : State) (l : List (Nat × Word)) : State :=
  let s1 := s.each (List.range 256) fun t n => (t.wr (F.RX_CFG0_EN.rx n) 0).wr (F.TX_CFG0_EN.tx n) 0
  s1.each l State.imageWrite

/-- The pages that are part of a plan (R546). -/
def State.planPages (s : State) (a : Admitted) : List Nat :=
  [0x01, 0x02, 0x03, 0x04, 0x24, 0x20, 0x21, 0x22, 0x23, 0x28, 0x29, 0x2A, 0x2B, 0x60, 0x61, 0x62, 0x64, 0x65, 0x66, 0x67, 0x80,
   0x81, 0x82, 0x83] ++
  ((List.range 16).filter fun c => a.place.contains c || bitOf (s.rd F.SL_SHARE) c).map (0x10 + ·) ++ portPages a.plan.regs

/-- Every allocated page (R511). -/
def allPages : List Nat := (List.range 256).filter fun p => (RegDir.page? p).isSome

/-- PAGE_STAT.ADMITTED on every page (R546). -/
def State.showAdmitted (s : State) (l : List Nat) : State := s.each allPages fun t p => t.wrb (F.PAGE_STAT_ADMITTED.pg p) (l.contains p)

/-- EN of the blocks that a plan uses (R30). A port page that needs no roll is set going or idle at once; the others start and stop under R324, R325 and R332. -/
def State.enableUsed (s : State) (l : List Nat) : State :=
  s.each (l.filter fun p => !s.enabled p) fun t p => t.wr (F.PAGE_CTRL_EN.pg (homePage p)) 1
def State.pageOn (s : State) (p : Nat) : State := (s.enableUsed [p]).portStart p
def State.pageOff (s : State) (p : Nat) (again : Bool) (r : Nat) : State :=
  if isTdmPage p || isAoutPage p then s.portStop p again r
  else if again then s
  else s.idle p

/-- Ports and streams that a new plan omits or changes stop (R73, R325, R367). -/
def State.stopPorts (s : State) (new : List (Nat × Word)) (r : Nat) : State :=
  let old := s.runImage
  let s1 := s.each ((portPages old).filter fun p => !(portPages new).contains p || pageChanged old new p) fun t p =>
    t.pageOff p ((portPages new).contains p) r
  let u := s1.imaged new
  let rx (x : State) (n : Nat) := x.wordsAt (F.RX_CFG0_EN.rx n).addr 6
  let s2 := s1.each (s1.rxStreams.filter fun n => !u.on (F.RX_CFG0_EN.rx n) || rx u n != rx s1 n) State.rxStop
  s2.each s2.txStreams fun t n =>
    let cfg (x : State) := x.wordsAt (F.TX_CFG0_EN.tx n).addr 7
    if u.on (F.TX_CFG0_EN.tx n) ∧ cfg u = cfg t then t else t.txStop n (u.on (F.TX_CFG0_EN.tx n)) r

/-- Ports that a new plan adds start (R73, R324). -/
def State.startPorts (s : State) (old new : List (Nat × Word)) : State :=
  s.each ((portPages new).filter fun p => !(portPages old).contains p) State.pageOn

/-- The streams of a new image start, change and stop (R367); `s` holds the registers of the old image. -/
def State.switchStreams (s : State) (new : List (Nat × Word)) : State :=
  let t := s.imaged new
  let cfg (x : State) (n : Nat) := x.wordsAt (F.RX_CFG0_EN.rx n).addr 6
  let t1 := t.each (List.range 256) fun t n =>
    let was := s.on (F.RX_CFG0_EN.rx n)
    let is := t.on (F.RX_CFG0_EN.rx n)
    if is ∧ (¬ was ∨ cfg s n ≠ cfg t n) then t.rxStart n else if was ∧ ¬ is then t.rxStop n else t
  t1.each (List.range 256) fun t n =>
    if t.on (F.TX_CFG0_EN.tx n) ∧ ¬ t.on (F.TX_STAT_RUNNING.tx n) then t.txStart n else t

/-- What an instance takes of its cluster's memory (R232). -/
def instRegion (a : Admitted) (h : Nat) : Nat × Nat :=
  (instBase a h, match a.plan.insts[h]? with
    | some i => if i.typ = 0x80 then instDataBytes a.plan i else 0
    | none => 0)

/-- Bundles written to program memory end their errors, and an injection waiting for the bank flips bits of the first (R196, R415, R458). -/
def Cluster.codeWritten (k : Cluster) (at_ n : Nat) : Cluster :=
  let clean := k.pmemBad.filter fun x => decide (x.1 < at_) || decide (at_ + n ≤ x.1)
  let b := 8 + at_ / 8192
  let f := if n = 0 then 0 else Sparse.get 0 k.flips b
  { k with pmemBad := if f = 0 then clean else Sparse.set 0 clean at_ f, flips := if f = 0 then k.flips else Sparse.set 0 k.flips b 0 }

/-- Code and instance data of a plan on cluster `c` (R232, R238): kept instances bring their data, added ones start from rest. -/
def State.loadCluster (s : State) (old : Option Admitted) (a : Admitted) (fresh : Bool) (c : Fin 16) : State :=
  let k0 := s.clusters[c]
  let code := (indexed a.plan.kerns).filter fun x => carries a c.val x.1
  let pm := code.foldl (fun m x => (indexed x.2.code).foldl (fun m b => Sparse.set 0 m (codeAt a c.val x.1 + b.1) b.2) m) k0.pmem
  let k1 := code.foldl (fun k x => k.codeWritten (codeAt a c.val x.1) x.2.code.length) { k0 with pmem := pm }
  let mine := (indexed a.plan.insts).filter fun x => x.2.typ == 0x80 && a.place.getD x.1 0 == c.val
  let k2 := mine.foldl (fun (k : Cluster) x =>
    let r := instRegion a x.1
    let data := match old, a.kept.getD x.1 none with
      | some o, some h => if fresh then none else some (k0.bytesAt (instBase o h) r.2)
      | _, _ => none
    match data, a.plan.kerns[x.2.kern]? with
    | some d, _ => k.putBytes r.1 d
    | none, some q => k.putBytes r.1 ((q.init ++ List.replicate r.2 0).take r.2)
    | none, none => k) k1
  s.setCluster c k2

/-- The instances of a plan as they start: kept ones go on, added ones start from rest (R68, R73, R166). -/
def State.newInsts (s : State) (old : List Inst) (a : Admitted) (fresh : Bool) : List Inst :=
  (indexed a.plan.insts).map fun x =>
    let h := x.1
    let c := a.place.getD h 0
    match (if fresh then none else (a.kept.getD h none).bind fun o => old[o]?) with
    | some i => { i with info := x.2, cluster := c }
    | none => Inst.fresh x.2 c (s.paramsAt 0 h (a.coef.getD h (0, 0))) (rateHz a.plan.rate)

/-- The clip players of a plan: kept ones carry on (R114). -/
def newPlayers (old : Option Admitted) (players : List Player) (a : Admitted) (fresh : Bool) : List Player :=
  let hs := ((indexed a.plan.insts).filter fun x => x.2.typ == 0x0E).map (·.1)
  (List.range 32).map fun p =>
    match hs[p]?, old with
    | some h, some o =>
      (match (if fresh then none else a.kept.getD h none) with
       | some k => players.getD (playerOf o.plan.insts k) .rest
       | none => .rest)
    | _, _ => .rest

/-- What a plan places on a cluster, shown on the cluster's page (R193, R196); a stopped domain shows the last value crossed (R215, R393). -/
def State.showUse (s : State) (a : Admitted) (c : Nat) : State :=
  let p := a.plan
  let on := (indexed p.insts).filter fun x => a.place.getD x.1 0 == c
  if s.domainStopped c then s
  else s.wrAll [(F.CL_INST.pg c, on.length), (F.CL_MEM_USE.pg c, (on.map fun x => instDataBytes p x.2).sum),
    (F.CL_PM_USE.pg c, 8 * (((indexed p.kerns).filter fun x => carries a c x.1).map fun x => x.2.codeLen).sum)]

/-- The registers that report the running plan (spec/03, 05, 07, 10, 17), and the nodes outside its dimensions (R126). -/
def State.planShown (s : State) (a : Admitted) : State :=
  let p := a.plan
  let worst := (indexed a.pathRes).foldl (fun (b : Nat × Nat) x => if b.2 < x.2 then x else b) (0, a.pathRes.getD 0 0)
  let s1 := s.wrAll [(F.TICK_CFG_RATE, p.rate), (F.TICK_CFG_LOG2_F, p.frame), (F.XPT_DIM0_S, p.sDim), (F.XPT_DIM0_BU, p.buDim),
    (F.XPT_DIM1, p.oDim), (F.ADM_USABLE, usableCycles p.F p.fs), (F.ADM_CRIT_CLUSTER, worst.1), (F.ADM_CRIT_CYCLES, worst.2),
    (F.ADM_ALLOW, a.allowance), (F.ADM_STAT_PENDING, 0), (F.ADM_STAT_DISRUPTIVE, 0),
    (F.EN_ADMIT_MW_WORST_MW, min 65535 a.worstMw), (F.EN_ADMIT_MW_EXP_MW, min 65535 a.expMw), (F.EN_STAT_MODE, p.planned.toNat),
    (F.EN_STATIC_WORST_MW, (staticMw p.rate).1), (F.EN_STATIC_EXP_MW, (staticMw p.rate).2),
    (F.PAIR_MIRROR_LIM, 25 * 10 ^ 9 * p.F / (16 * p.fs))]
  let s2 := s1.each (List.range 16) fun t c => t.showUse a c
  { s2 with win := s2.win.filter fun x => !(decide (x.1 < 0x2000000) && isNode (x.1 % 0x1000000) && !s2.nodeIn (x.1 % 0x1000000)) }

/-- The media PLL starts to glide where the plan's rate is of the other family (R374). -/
def State.glideTo (s : State) (rate : Nat) : State :=
  if 1 - rateFamily rate = s.rd F.CG_STAT_FAMILY then s else s.wr F.CG_STAT_GLIDING 1

/-- A plan takes effect but for its instances (R73): ports, streams, registers, pages. -/
def State.planIn (s : State) (a : Admitted) : State :=
  let old := s.runImage
  let s1 := (s.switchStreams a.plan.regs).planShown a
  let s2 := { s1 with eng := { s1.eng with run := some a, pend := none } }
  let s3 := ((s2.showAdmitted (s2.planPages a)).enableUsed (s2.planPages a)).glideTo a.plan.rate
  ((s3.startPorts old a.plan.regs).showEff).showForce

/-! Develops. -/

/-- The commit set of the dirty state of some classes (R161). -/
def State.commitLines (s : State) (classes : Nat) : List (Nat × List Byte) :=
  (s.scn.lines.filter fun x => bitOf classes (lineClass x.1)).map fun x => (x.1, s.winBytes (0x1000000 + 64 * x.1) 64)
def State.commitRegs (s : State) (classes : Nat) : List (Nat × Word) :=
  if bitOf classes 3 then s.scn.regs.map fun x => (x.1, s.latReg x.1) else []

/-- The nodes of a set of lines. -/
def nodesOf (l : List (Nat × List Byte)) : List (Nat × Word) :=
  (l.filter fun x => lineClass x.1 == 0).flatMap fun x => (indexed (wordsOf x.2)).map fun w => (64 * x.1 + 4 * w.1, w.2)

/-- Whether a commit set covers a priority-0 route (R162). -/
def State.coversLs (s : State) (l : List (Nat × List Byte)) : Bool := (nodesOf l).any fun x => s.lsNode x.1

/-- The plan that goes with a Develop. -/
def State.planOf (s : State) (d : Develop) : Option Admitted := if d.withPlan then s.eng.pend else none

/-- DEVELOP with CANCEL = 0 (R159 to R161, R182). -/
def State.cmdDevelop (s : State) (t : Ticket) (role tick : Nat) (b : List Byte) : CmdRes :=
  let classes := fieldAt b 4 1
  let bad := fieldAt b 5 1 != 0 || decide (16 ≤ classes) || (b.drop 6).any (· != 0)
  let d : Develop :=
    { seq := s.scn.seq + 1, tick := tick, lr := fieldAt b 0 2, ld := fieldAt b 2 2, classes := classes, lines := s.commitLines classes,
      regs := s.commitRegs classes, withPlan := s.eng.pend.isSome, ls := s.coversLs (s.commitLines classes), armed := false,
      ticket := some t, pages := 0, confirmed := false }
  let len := (JrnlBody.develop d (s.planOf d)).bytes
  if s.on F.SCN_STAT_JRNL_FULL then s.fin St.state
  else if s.lsDirty ∧ role < 3 then s.fin St.paramLs
  else if classes = 0 ∨ (s.eng.pend.isSome ∧ classes ≠ 15) ∨ bad then s.fin St.badArg
  else if s.scn.arming.isSome ∨ s.scn.armed.isSome then s.fin St.devPending
  else if tick < s.tick + 4 ∨ s.tick + 2 ^ 24 < tick then s.fin St.devTick
  else if ¬ s.journalFits (.develop d (s.planOf d)) then s.fin St.state
  else ((s.setScn { s.scn with seq := d.seq, arming := some { d with pages := ceilDiv len 256 } }).wr F.SCN_STAT_JRNL_BUSY 1).later

/-- Pages with Latent registers that a Develop covers (BANK_STAT). -/
def Develop.covers (d : Develop) (p : Nat) : Bool :=
  (d.regs.any fun x => homePage (x.1 / 4096) == p) || (p == 0x20 && d.lines.any fun x => lineClass x.1 == 0)

/-- A Develop armed, or no longer armed, as the registers show it. -/
def State.showArmed (s : State) : State :=
  match s.scn.armed with
  | some d => (s.wrAll [(F.SCN_STAT_ARMED, 1), (F.BANK_STAT_ARMED.pg 0x20, (d.covers 0x20).toNat),
      (F.BANK_STAT_ARMED.pg 0x28, (d.covers 0x28).toNat)]).wr64 F.SCN_ARM_LO F.SCN_ARM_HI d.tick
  | none => (s.wrAll [(F.SCN_STAT_ARMED, 0), (F.BANK_STAT_ARMED.pg 0x20, 0), (F.BANK_STAT_ARMED.pg 0x28, 0)]).wr64 F.SCN_ARM_LO
      F.SCN_ARM_HI 0

/-- What an ARM carries of a Develop (R163). -/
def Develop.change (d : Develop) : ModeChange := .develop d.seq d.tick d.lr d.ld d.classes d.lines d.regs d.withPlan

/-- DEVELOP_ARMED: the record is in flash; the Develop is armed, or voided because T is too near (R161, R163). A journal that filled since
dispatch takes no record: nothing is armed, and DEVELOP completes with STATE (R182). -/
def State.developArmed (s : State) : State :=
  match s.scn.arming with
  | none => s
  | some d =>
    let s1 := ((s.setScn { s.scn with arming := none }).wr F.SCN_STAT_JRNL_BUSY 0).journal d.seq (.develop d (s.planOf d))
    let kept := !s.flt.pfailSeq && s.journalFits (.develop d (s.planOf d))
    match d.ticket with
    | some t =>
      if ¬ kept then (s1.bump F.SCN_CANCEL_CNT).respond t St.state 0 0 0
      else if d.tick < s.tick + 4 then ((s1.journal d.seq .void).bump F.SCN_CANCEL_CNT).respond t St.devTick 0 0 0
      else
        let s2 := (s1.setScn { s1.scn with armed := some { d with armed := true, ticket := none } }).showArmed
        (s2.respond t St.ok 0 d.seq 0).armChange d.change
    | none => if ¬ kept then s1.bump F.SCN_CANCEL_CNT else
      let s2 := (s1.setScn { s1.scn with armed := some { d with armed := true } }).showArmed
      match s2.pair.taken.find? fun x => x.change == d.change with
      | some x => s2.send (.ack x.seq)
      | none => s2

/-- Writes held while a Develop was armed are applied to the Latent bank, in arrival order (R158). -/
def State.releaseHeld (s : State) : State :=
  (s.setScn { s.scn with held := [] }).each s.scn.held fun t x =>
    if x.1 < 2 ^ 32 then t.latentStore (x.1 - 0x1000000) x.2 else t.rwsStore (x.1 - 2 ^ 32) x.2

/-- The armed Develop cancelled (R162). -/
def State.cancelArmed (s : State) (d : Develop) : State :=
  (((s.setScn { s.scn with armed := none }).showArmed.journal d.seq .void).bump F.SCN_CANCEL_CNT).releaseHeld

/-- The arm of a cancelled Develop is confirmed no longer (R163, R304). -/
def State.dropArm (s : State) (seq : Nat) : State :=
  s.setPair { s.pair with arms := s.pair.arms.filter fun a => match a.change with
    | .develop q _ _ _ _ _ _ _ => q != seq
    | _ => true }

/-- DEVELOP with CANCEL = 1 (R162, R163). -/
def State.cmdCancel (s : State) (role tick : Nat) (b : List Byte) : CmdRes :=
  match s.scn.armed with
  | none => s.fin St.badArg
  | some d =>
    if d.tick ≠ tick ∨ fieldAt b 5 1 ≠ 1 ∨ (b.drop 6).any (· != 0) then s.fin St.badArg
    else if d.ls ∧ role < 3 then s.fin St.paramLs
    else if tick < s.tick + 4 then s.fin St.devTick
    else (((s.cancelArmed d).dropArm d.seq).armChange (.cancel d.seq tick)).fin St.ok

/-- The commit set put into both banks and the registers (R157): a node or field becomes the committed one; a node outside the
dimensions stays 0 (R126). -/
def State.lineIn (s : State) (x : Nat × List Byte) : List Byte :=
  if lineClass x.1 ≠ 0 then x.2
  else (indexed (wordsOf x.2)).flatMap fun w => if s.nodeIn (64 * x.1 + 4 * w.1) then leBytes 4 w.2.toNat else [0, 0, 0, 0]
def State.putLines (s : State) (l : List (Nat × List Byte)) : State :=
  s.each l fun t x => (t.setWin (64 * x.1) (t.lineIn x)).setWin (0x1000000 + 64 * x.1) (t.lineIn x)
def State.putRegs (s : State) (l : List (Nat × Word)) : State :=
  s.each l fun t x => (t.setReg x.1 ((t.reg x.1 &&& ~~~(rwsMask x.1)) ||| (x.2 &&& rwsMask x.1))).setLat x.1 x.2

/-- Lines and registers of a Develop are dirty no longer (R157). -/
def State.cleanMarks (s : State) (d : Develop) : State :=
  let s1 := s.setScn { s.scn with lines := s.scn.lines.filter fun x => !(d.lines.any fun y => y.1 == x.1),
                                  regs := s.scn.regs.filter fun x => !(d.regs.any fun y => y.1 == x.1) }
  s1.showDirty

/-- The commit set in the banks and registers, which read the same from tick T on (R157, R165). -/
def State.commitSet (s : State) (d : Develop) : State := ((s.putLines d.lines).putRegs d.regs).showEff

/-- The commit set takes effect from frame `m` (R164 to R166): nodes ramp, fields wait to start, registers step. -/
def State.applySet (s : State) (d : Develop) (m : Nat) : State := (s.nodesTo m (rampTicks d.lr s.F) (nodesOf d.lines)).commitSet d

/-- Nodes that a disruptive plan's commit set changed ramp from the gains the old plan ended with (R73, R130, R165). -/
def State.rampFromView (s : State) (d : Develop) (m : Nat) : State :=
  let l := (nodesOf d.lines).map fun x => (x.1, s.word x.1)
  (s.each (l.filter fun x => s.nodeIn x.1) fun t x => t.setWord x.1 (t.vword x.1)).nodesTo m (rampTicks d.lr s.F) l

/-- Changed instances take their changes, with frame `m` (R76, R166). -/
def State.applyInsts (s : State) (a : Admitted) (hs : List Nat) (d : Develop) (m : Nat) : State :=
  s.each (hs.filter (touchesInst a (d.lines.map (·.1)))) fun t h => t.changeInst d.seq d.ld m h (t.paramsAt 0 h (a.coef.getD h (0, 0)))

/-- The instances of a plan that took effect in the last tick take over (R73, R164): kept ones go on and take the changes of the
commit set, the others start from rest. -/
def State.takeOver (s : State) : State :=
  match s.eng.incoming with
  | none => s
  | some x =>
    let s1 := s.each (List.finRange 16) fun t c => t.loadCluster x.old x.admitted x.fresh c
    let s2 := { s1 with eng := { s1.eng with insts := s1.newInsts s.eng.insts x.admitted x.fresh, proc := some x.admitted,
                                             players := newPlayers x.old s.eng.players x.admitted x.fresh, incoming := none } }
    let kept := (indexed x.admitted.kept).filterMap fun k => k.2.map fun _ => k.1
    if x.fresh then s2.showDiss else (s2.applyInsts x.admitted kept x.dev x.tick).showDiss

/-- DEV_SEQ on the pages a Develop covered, and SCENE's record of it (R165). -/
def State.developed (s : State) (d : Develop) : State :=
  let s1 := ((s.setScn { s.scn with armed := none, seq := max s.scn.seq d.seq }).showArmed).wr64 F.SCN_LAST_LO F.SCN_LAST_HI d.tick
  let s2 := (s1.wr F.SCN_STAT_DEV_SEQ d.seq).journal d.seq .mark
  s2.each ([0x20, 0x28].filter d.covers) fun t p => t.wr (F.BANK_STAT_DEV_SEQ.pg p) d.seq

/-- DEVELOP_COMMIT at tick T (R73, R158, R164, R165): on the standby only where the confirm has come (R163). -/
def State.developCommit (s : State) : State :=
  match s.scn.armed with
  | none => s
  | some d =>
    if d.tick ≠ s.tick then s
    else if s.isStandby ∧ ¬ d.confirmed then (s.setScn { s.scn with armed := none }).showArmed.releaseHeld
    else
      match s.planOf d with
      | none =>
        let s1 := s.applySet d s.tick
        let s2 := match s1.eng.proc with
          | some a => s1.applyInsts a (List.range s1.eng.insts.length) d s.tick
          | none => s1
        ((s2.cleanMarks d).developed d).releaseHeld
      | some a =>
        if a.disruptive then
          let r := s.tick + ceilDiv 64 s.F
          let s1 := s.stopPorts a.plan.regs r
          let s2 := { s1 with eng := { s1.eng with restart := some ⟨s.tick, r, a, d⟩, pend := none,
                                                   emit := levelFrame (.falling 0 64) s1.eng.emit,
                                                   level := (OutLevel.falling 0 64).next s.F } }
          let s3 := ((s2.wrAll [(F.ADM_STAT_PENDING, 0), (F.ADM_STAT_DISRUPTIVE, 0)]).enableUsed (portPages a.plan.regs)).commitSet d
          ((s3.cleanMarks d).developed d).releaseHeld
        else
          let s1 := ((s.stopPorts a.plan.regs s.tick).planIn a).applySet d s.tick
          let s2 := { s1 with eng := { s1.eng with incoming := some ⟨a, s.eng.proc, d, s.tick, false⟩ } }
          ((s2.cleanMarks d).developed d).releaseHeld

/-- Tick R of a disruptive change (R73): the new plan, every instance from rest, node ramps at their targets, the nodes of the commit set
ramp; the outputs carry zeros and fade in over 64 samples from tick R + 2. -/
def State.startPlan (s : State) (x : Restart) : State :=
  let s0 : State := { s with eng := { s.eng with restart := none, level := .rises (s.tick + 2) 64 } }
  let s1 := ((s0.endRamps).planIn x.admitted).rampFromView x.dev s.tick
  { s1 with eng := { s1.eng with
      insts := [], proc := none, incoming := some ⟨x.admitted, none, x.dev, s.tick, true⟩, cap := [], capOk := [], late := [], lateOk := [], inp := [], inpOk := [], aIn := [], bad := [],
      aOut := [], bSum := [], cOut := [], dSum := [], eOut := [], emit := [], lateOut := [], conc := [], zoneNew := [], zoneOld := [],
      look := [], shed := [], viewRamps := [], starts := s1.eng.starts.filter fun c => !c.taken } }

/-- DISRUPTIVE_PLAN_START: tick R. -/
def State.disruptiveStart (s : State) : State :=
  match s.eng.restart with
  | none => s
  | some x => if s.tick < x.first then s else s.startPlan x

/-- MEDIA_GLIDE_END (R73, R374): the ports' pre-roll counts from here. -/
def State.glideEnd (s : State) : State :=
  if s.on F.CG_STAT_GLIDING then
    let fam := 1 - rateFamily (s.rd F.TICK_CFG_RATE)
    let s1 := s.wrAll [(F.CG_STAT_GLIDING, 0), (F.CG_STAT_FAMILY, fam), (F.TICK_STAT_FAMILY, fam)]
    s1.each ((portPages s1.runImage).filter fun p => (isTdmPage p || isAoutPage p) && s1.rd (rollField p) == 1) fun t p =>
      let u := t.setRoll p { t.rollOf p with left := t.preRoll p }
      if u.preRoll p = 0 then u.preRollEnd p else u
  else s

end Sys2Proof.Machine
end

