-- ==== Sys2Proof/Machine/Clips.lean ====
section
/-!
DEFINITION. Clip plays and stops (R114 to R117, R148), trigger inputs and their actions (R149 to R152), the incident recorder
(R118 to R122), FIX (R178, R179).
-/
namespace Sys2Proof.Machine

/-! Clips. -/

/-- The instance of player `p` in the running plan (R114). -/
def State.playerInst (s : State) (p : Nat) : Option Nat := match s.eng.run with
  | some a => (((indexed a.plan.insts).filter fun x => x.2.typ == 0x0E).map (·.1))[p]?
  | none => none

/-- Whether a player runs: it plays, or its start has come. -/
def State.playing (s : State) (p : Nat) : Bool :=
  (s.eng.players.getD p .rest).clip.isSome || s.eng.starts.any fun x => x.taken && x.player == p && x.clip.isSome

/-- Whether a clip can play at the engine rate (R115). -/
def State.clipOk (s : State) (c : Nat) : Bool := s.eng.clips.any fun x => x.num == c && x.rate == s.rd F.TICK_CFG_RATE

/-- Whether a player feeds a life-safety bus through a node that is not 0 (R148). -/
def State.playerLs (s : State) (p : Nat) : Bool := match s.playerInst p, s.eng.run with
  | some h, some a => (match a.plan.insts[h]? with
    | some i => (List.range 4).any fun l => (List.range a.plan.buDim).any fun b => s.lsBus b && s.word (inNode (4 * i.group + l) b) != 0
    | none => false)
  | _, _ => false

/-- A clip put into the library in its number's place; one of LENGTH 0 deletes (R113). -/
def State.putClip (s : State) (c : Clip) : State :=
  { s with eng := { s.eng with clips := (s.eng.clips.filter fun y => y.num != c.num) ++ (if c.length = 0 then [] else [c]) } }

/-- A clip start or stop fixed for a tick (R115). -/
def State.fixStart (s : State) (x : ClipStart) : State := { s with eng := { s.eng with starts := s.eng.starts ++ [x] } }

/-- CLIP_PLAY (R114, R115, R148). -/
def State.cmdClipPlay (s : State) (role arg : Nat) : CmdRes :=
  let p := bitsOf arg 16 12
  let stop := bitOf arg 19
  let z := bitsOf arg 31 24
  if role < 3 ∧ ((z ≠ 255 ∧ s.presetLs z) ∨ s.playerLs p) then s.fin St.role
  else if bitsOf arg 23 20 ≠ 0 then s.fin St.badArg
  else if (s.playerInst p).isNone ∨ (¬ stop ∧ ¬ s.clipOk (bitsOf arg 11 0)) then s.fin St.clipNone
  else if ¬ stop ∧ s.playing p ∧ ¬ bitOf arg 17 then s.fin St.clipBusy
  else
    let c := if stop then none else some (bitsOf arg 11 0)
    let x : ClipStart := ⟨s.tick + 3, p, c, bitOf arg 18, z, true, false⟩
    ((s.fixStart x).armChange (.clip (s.tick + 3) p c (bitOf arg 18) z)).fin St.ok

/-- A player's start tick has come (R115, R164): its preset is applied, and the player takes the clip up with sample 0 of this tick's
frame. On the standby a start without its confirm is dropped (R304). -/
def State.startClip (s : State) (p : Nat) : State :=
  match s.eng.starts.find? fun x => !x.taken && x.player == p && x.tick == s.tick with
  | none => s
  | some x =>
    let rest := s.eng.starts.erase x
    if s.isStandby ∧ ¬ x.confirmed then { s with eng := { s.eng with starts := rest } }
    else
      let s1 := s.applyPreset x.preset s.tick
      { s1 with eng := { s1.eng with starts := rest ++ [{ x with taken := true }] } }

/-- A player takes up a start or a stop (R116). -/
def Player.take (p : Player) (x : ClipStart) (fadeOut : Nat) : Player :=
  match x.clip with
  | none => if p.clip.isSome ∧ p.stopLen = 0 then { p with stopLeft := fadeOut, stopLen := fadeOut } else p
  | some c => { p with clip := some c, pos := 0, looping := x.loop, stopLeft := 0, stopLen := 0,
                       old := p.clip.map fun o => (o, p.pos, 32, p.looping), underrun := false }

/-- FADE_OUT of a player (R93). -/
def State.fadeOut (s : State) (p : Nat) : Nat :=
  let hs := (indexed s.eng.insts).filter fun x => x.2.info.typ == 0x0E
  match hs[p]? with
  | some x => max 1 (x.2.now.n 0x18)
  | none => 1

/-- The players take up what has started by the frame in process. -/
def State.takeStarts (s : State) : State :=
  let now := s.eng.starts.filter fun x => x.taken && decide (x.tick ≤ s.frame)
  let s1 := { s with eng := { s.eng with starts := s.eng.starts.filter fun x => !(x.taken && decide (x.tick ≤ s.frame)) } }
  s1.each now fun t x =>
    let q := (t.eng.players.getD x.player .rest).take x (t.fadeOut x.player)
    { t with eng := { t.eng with players := t.eng.players.set x.player q } }

/-- CLIP_END: the clip has reached LENGTH without LOOP, or its STOP ramp has ended (R116). -/
def State.clipEnd (s : State) (p : Nat) : State :=
  let q := s.eng.players.getD p .rest
  match q.clip with
  | none => s
  | some c =>
    let len := match s.eng.clips.find? fun x => x.num == c with
      | some x => x.length
      | none => 0
    if (¬ q.looping ∧ len ≤ q.pos) ∨ (q.stopLen ≠ 0 ∧ q.stopLeft = 0) then
      { s with eng := { s.eng with players := s.eng.players.set p { q with clip := none, stopLeft := 0, stopLen := 0 } } }
    else s

/-! Trigger inputs. -/

/-- A field of an input's TRIG_CFG. -/
def State.trigRd (s : State) (f : Fld) (n : Nat) : Nat := s.rd (f.ix n)

/-- m of R149. -/
def State.debounce (s : State) (n : Nat) : Nat := max 1 (ceilDiv (s.trigRd F.TRIG_CFG_DEBOUNCE_MS n * s.fs) (1000 * s.F))

def State.trig (s : State) (n : Nat) : Trigger := s.eng.trigs.getD n .rest
def State.setTrig (s : State) (n : Nat) (x : Trigger) : State := { s with eng := { s.eng with trigs := s.eng.trigs.set n x } }

/-- A bit of a field of eight inputs. -/
def State.setInputBit (s : State) (f : Fld) (n : Nat) (v : Bool) : State := s.wr f (putBit (s.rd f) n v)

/-- One pair sampled at tick start (R149). -/
def State.sampleInput (s : State) (n : Nat) (p q : Bool) : State :=
  if s.trigRd F.TRIG_CFG_EN n = 0 ∨ ¬ s.enabled 0x58 then s
  else
    let inv := s.trigRd F.TRIG_CFG_INVERT n == 1
    let r := if p == q then 2 else if p != inv then 1 else 0
    let x := s.trig n
    let s1 := (s.setInputBit F.TRIG_STAT_LVL_P n p).setInputBit F.TRIG_STAT_LVL_N n q
    s1.setTrig n { x with reading := r, equal := if r = 2 then x.equal + 1 else 0, good := if r = 2 then 0 else x.good + 1,
                          other := if r = 2 ∨ (r == 1) = x.asserted then 0 else x.other + 1 }

/-- Every pair sampled (R149). -/
def State.sampleTriggers (s : State) (ps ns : Nat) : State := s.each (List.range 8) fun t n => t.sampleInput n (bitOf ps n) (bitOf ns n)

/-- The entries of an input as the trigger action table holds them (R150). -/
def State.entriesOf (s : State) (n : Nat) : List (Nat × List Byte) :=
  ((List.range 32).map fun i => (i, s.winBytes (0x3040000 + 16 * i) 16)).filter fun x =>
    decide (fieldAt x.2 0 1 % 8 = n) && bitOf (fieldAt x.2 0 1) 7

/-- An input changes state at detection tick D (R149, R151, R152): counted, and, on the active unit, its entries fire at
D + 3. -/
def State.inputTo (s : State) (n : Nat) (asserted : Bool) : State :=
  let x := s.trig n
  if x.asserted = asserted then s
  else
    let lead := s.pair.role == .active
    let s1 := (s.setTrig n { x with asserted := asserted, other := 0, fired := asserted && (lead || x.fired) }).setInputBit F.TRIG_STAT_ASSERTED n asserted
    let s2 := if asserted then s1.bump (F.TRIG_CNT.ix n) else s1
    if lead then
      let e := s2.entriesOf n
      ({ s2 with eng := { s2.eng with firings := s2.eng.firings ++ [⟨n, asserted, s.tick + 3, e, true⟩] } } : State).armChange
        (.fire n asserted (s.tick + 3) e)
    else s2

/-- TRIGGER_DETECTION: the m-th reading of the other state (R149). -/
def State.trigDetect (s : State) (n : Nat) : State :=
  let x := s.trig n
  if ¬ x.fault ∧ s.debounce n ≤ x.other then s.inputTo n (!x.asserted) else s

/-- LINE_FAULT: three equal readings (R149). -/
def State.lineFault (s : State) (n : Nat) : State :=
  let x := s.trig n
  if ¬ x.fault ∧ 3 ≤ x.equal then
    let s1 := ((s.setTrig n { x with fault := true }).setInputBit F.TRIG_STAT_LINE_FAULT n true).source 0x58 n true
    let pol := s.trigRd F.TRIG_CFG_FAULT_POLICY n
    if pol = 1 then s1.inputTo n true else if pol = 2 then s1.inputTo n false else s1
  else s

/-- LINE_FAULT_CLEAR: three complementary readings; the input reads its new state without debounce (R149). -/
def State.lineClear (s : State) (n : Nat) : State :=
  let x := s.trig n
  if x.fault ∧ 3 ≤ x.good then
    (((s.setTrig n { x with fault := false }).setInputBit F.TRIG_STAT_LINE_FAULT n false).source 0x58 n false).inputTo n (x.reading == 1)
  else s

/-- One entry on Asserted (R151). -/
def State.entryOn (s : State) (i : Nat) (b : List Byte) : State :=
  let a := fieldAt b 4 2
  let q := fieldAt b 6 1
  match fieldAt b 1 1 with
  | 0 => s
  | 1 =>
    if (s.playerInst q).isNone ∨ ¬ s.clipOk a ∨ (s.playing q ∧ ¬ bitOf (fieldAt b 2 1) 2) then s.actionSkip
    else (s.applyPreset (fieldAt b 7 1) s.tick).fixStart ⟨s.tick, q, some a, bitOf (fieldAt b 2 1) 1, 255, true, true⟩
  | 2 => s.applyPreset a s.tick
  | 3 =>
    if s.rd F.XPT_DIM0_BU ≤ a ∨ q = 0 ∨ 15 < q then s.actionSkip
    else ({ s with eng := { s.eng with raises := (i, a, q) :: s.eng.raises.filter fun x => x.1 != i } }).showEff
  | 4 =>
    if s.rd F.XPT_DIM0_BU ≤ a then s.actionSkip
    else ({ s with eng := { s.eng with forces := (i, a) :: s.eng.forces.filter fun x => x.1 != i } }).showForce
  | _ => s.actionSkip

/-- Whether an entry's input is Asserted (R151). -/
def State.entryAsserted (s : State) (i : Nat) : Bool := (s.trig (fieldAt (s.winBytes (0x3040000 + 16 * i) 16) 0 1 % 8)).asserted

/-- One entry on Released, where UNDO = 1 (R151); a bus that it no longer forces stays forced only by an entry whose input is Asserted. -/
def State.entryOff (s : State) (i : Nat) (b : List Byte) : State :=
  if ¬ bitOf (fieldAt b 2 1) 0 then s
  else match fieldAt b 1 1 with
    | 1 =>
      if (s.playerInst (fieldAt b 6 1)).isNone then s.actionSkip
      else s.fixStart ⟨s.tick, fieldAt b 6 1, none, false, 255, true, true⟩
    | 2 => s.applyPreset (fieldAt b 7 1) s.tick
    | 3 => ({ s with eng := { s.eng with raises := s.eng.raises.filter fun x => x.1 != i } }).showEff
    | 4 => ({ s with eng := { s.eng with forces := s.eng.forces.filter fun x => x.1 != i && (x.2 != fieldAt b 4 2 || s.entryAsserted x.1) } }).showForce
    | _ => s

/-- An input's firing at Ta (R151, R152). -/
def State.fireInput (s : State) (n : Nat) : State :=
  match s.eng.firings.find? fun x => x.input == n && x.tick == s.tick with
  | none => s
  | some x =>
    let s0 := { s with eng := { s.eng with firings := s.eng.firings.erase x } }
    if s.isStandby ∧ ¬ x.confirmed then s0
    else
      let s1 := ((s0.wr F.TRIG_LAST n).wr64 F.TRIG_TICK_LO F.TRIG_TICK_HI x.tick).setTrig n { s0.trig n with fired := x.asserted }
      s1.each x.entries fun t e => if x.asserted then t.entryOn e.1 e.2 else t.entryOff e.1 e.2

/-- TRIGGER_FIRE at Ta: after a Develop that commits at this tick, and after the inputs below (R147, R151, R164). -/
def State.trigFire (s : State) (n : Nat) : State := (s.developCommit).each (List.range (n + 1)) State.fireInput

/-- What commits with a tick before its clips start: a Develop, then every firing (R164). -/
def State.tickFirings (s : State) : State := (s.developCommit).each (List.range 8) State.fireInput

/-- CLIP_START: after a Develop that commits at this tick, and after every firing of this tick (R151, R164). -/
def State.clipStart (s : State) (p : Nat) : State := (s.tickFirings).startClip p

/-- A newly promoted unit fires the entries of every input that is Asserted and has not fired (R152). -/
def State.fireOnPromotion (s : State) : State :=
  s.each (List.range 8) fun t n =>
    let x := t.trig n
    if x.asserted ∧ ¬ x.fired then
      let e := t.entriesOf n
      let t1 := t.setTrig n { x with fired := true }
      ({ t1 with eng := { t1.eng with firings := t1.eng.firings ++ [⟨n, true, t.tick + 3, e, true⟩] } } : State).armChange
        (.fire n true (t.tick + 3) e)
    else t

/-! The incident recorder. -/

/-- The taps of the plan, by handle. -/
def State.taps (s : State) : List Nat := ((indexed s.eng.insts).filter fun x => x.2.info.typ == 0x0F).map (·.1)

def State.setRec (s : State) (r : Recorder) : State := { s with eng := { s.eng with recorder := r } }

/-- A write of REC_CTRL in any tap's object area (R119 to R121). -/
def State.recCtrl (s : State) (w : Word) : State :=
  let r := s.eng.recorder
  let v := w.toNat
  if ¬ bitOf v 0 then
    s.setRec { r with ctrl := v &&& 0x700, autoPending := false, fill := 0, draining := false, freezing := false, resumeNext := r.frozen,
                      tape := [] }
  else
    let r1 := { r with ctrl := Nat.lor 1 (Nat.lor (v &&& 0x700) (r.ctrl &&& 2)), freezing := !r.frozen, resumeNext := false }
    if bitOf v 1 ∧ r.frozen ∧ ¬ r.draining then
      s.setRec { r1 with ctrl := Nat.lor r1.ctrl 2, draining := true, ring := 56 + bitsOf v 10 8, from_ := 0 }
    else s.setRec r1

/-- A fault of F2 or above arms the automatic freeze (R120): POST_MS and AUTO of the lowest tap. -/
def State.recorderFault (s : State) : State :=
  match s.taps.head?.bind fun h => s.eng.insts[h]? with
  | some i =>
    let r := s.eng.recorder
    if bitOf (i.now.n 0x14) 0 ∧ ¬ r.frozen ∧ ¬ r.freezing ∧ ¬ r.autoPending then
      s.setRec { r with autoPending := true, autoAt := s.ms + i.now.n 0x10 }
    else s
  | none => s

/-- RECORDER_AUTO_FREEZE: once POST_MS has elapsed, the recorder freezes at the end of this tick; one that is frozen already stays as it is
(R120). -/
def State.autoFreeze (s : State) : State :=
  let r := s.eng.recorder
  if r.autoPending ∧ r.autoAt ≤ s.ms then
    s.setRec { r with autoPending := false, freezing := r.freezing || !r.frozen, ctrl := Nat.lor r.ctrl 1 }
  else s

/-- A tap's words put at their place in handle order. -/
def insertTap (x : TapTick) : List TapTick → List TapTick
  | [] => [x]
  | y :: t => if x.handle ≤ y.handle then x :: y :: t else y :: insertTap x t

/-- What a tap records of a tick that its strip did not complete (R79, R118): every tap writes the same ticks, and the spec states no samples
for it, so each is a free value. -/
def State.tapeLate (s : State) (h : Nat) : State :=
  if s.eng.recorder.tape.any fun x => x.tick == s.tick && x.handle == h then s
  else
    let ws := (List.range (4 * s.F)).map fun k => (BitVec.ofNat 32 (Config.freeValue (s.free + k)) : Word)
    ({ s with free := s.free + 4 * s.F } : State).setRec { s.eng.recorder with tape := ⟨s.tick, h, ws⟩ :: s.eng.recorder.tape }

/-- The end of a tick for the recorder (R118, R120): what was recorded counts, a freeze or a resumption takes effect. -/
def State.recorderTick (s0 : State) : State :=
  let s := if s0.eng.recorder.frozen then s0 else s0.each s0.taps State.tapeLate
  let r := s.eng.recorder
  let fill := if r.frozen ∨ s.taps = [] then r.fill else min (2 ^ 23) (r.fill + s.F)
  if r.freezing ∧ ¬ r.frozen then s.setRec { r with fill := fill, freezing := false, frozen := true, freezeTick := s.tick }
  else if r.resumeNext then s.setRec { r with resumeNext := false, frozen := false }
  else s.setRec { r with fill := fill }

/-- Ticks of the frozen rings still to be sent, oldest first, with their words in handle order (R121). -/
def State.frozenTicks (s : State) : List (Nat × List Word) :=
  let r := s.eng.recorder
  let t := r.tape.reverse.filter fun x => decide (r.from_ ≤ x.tick) && decide (r.freezeTick < x.tick + 2 ^ 23 / s.F)
  ((t.map (·.tick)).eraseDups).map fun n => (n, ((t.filter fun x => x.tick == n).foldl (fun l x => insertTap x l) []).flatMap (·.words))

/-- The whole ticks that fit a number of bytes. -/
def wholeTicks : Nat → List (Nat × List Word) → List (Nat × List Word)
  | _, [] => []
  | n, x :: t => if 4 * x.2.length ≤ n then x :: wholeTicks (n - 4 * x.2.length) t else []

/-- RECORDER_DRAIN_BUFFER: the next posted buffer filled with whole ticks; one too small for a tick is returned empty, and the drain waits for
the next (R121). With none posted the block that is due is dropped and counted (R44): the oldest tick (DESIGN CHOICE, log entry 52). A buffer that
cannot be reached fails alone, and a descriptor that cannot be written stops the ring (R45). -/
def State.drainBuffer (s : State) : State :=
  let r := s.eng.recorder
  if ¬ r.draining then s
  else
    match s.frozenTicks, s.posted r.ring with
    | [], _ => s.setRec { r with draining := false, ctrl := r.ctrl &&& 0x701 }
    | f :: rest, none =>
      (s.setRec { r with from_ := f.1 + 1, draining := rest != [], ctrl := if rest = [] then r.ctrl &&& 0x701 else r.ctrl }).bumpSat
        (F.RING_STAT_DROP.ring r.ring)
    | f :: rest, some d =>
      let finish (t : State) (n : Nat) : State := t.finishPosted r.ring d d.op.toNat d.role.toNat d.tag.toNat n 0 d.seq.toNat
      let l := wholeTicks (d.bufLen.toNat - 16) (f :: rest)
      if ¬ d.reach then s.failPosted r.ring d
      else if l = [] ∨ ¬ d.dest then finish (s.put (.capture r.ring [])) 0
      else
        let b := leBytes 8 f.1 ++ leBytes 4 l.length ++ leBytes 2 s.taps.length ++ [0, 0] ++
          l.flatMap fun x => x.2.flatMap fun w => leBytes 4 w.toNat
        let done := l.length == (f :: rest).length
        let from_ := match l.getLast? with
          | some x => x.1 + 1
          | none => r.from_
        let s1 := s.setRec { r with from_ := from_, draining := !done, ctrl := if done then r.ctrl &&& 0x701 else r.ctrl }
        finish ((s1.fillPosted d b).put (.capture r.ring b)) b.length

/-- A write of a meter's HOLD word (R106): any write sets it to 0. -/
def State.meterHold (s : State) (h l : Nat) : State :=
  match s.eng.insts[h]? with
  | some i => if i.info.typ = 0x09 then s.setInst h { i with st := { i.st with hold := i.st.hold.set l 0 } } else s
  | none => s

/-! FIX. -/

/-- The configuration as it stands, with targets rather than ramp values (R174, R178). -/
def State.config (s : State) : ConfigImage :=
  { plan := s.eng.run, bank := s.win.filter fun x => decide (x.1 < 0x1000000), regs := s.regs.filter fun x => rwsMask x.1 != 0,
    store := s.win.filter fun x => decide (0x3000000 ≤ x.1 ∧ x.1 < 0x3040200), cap := s.rd F.EN_CAP, clips := s.eng.clips, tick := s.tick }

/-- FIX (R178, R179): its snapshot comes with the tick boundary S: the next one; in a linked pair, so that both units take it at the same
S, the fourth (log entry 55). -/
def State.beginFix (s : State) (t : Option Ticket) (at_ : Nat) : State :=
  (s.setScn { s.scn with fix := none, fixAt := at_, fixTicket := t, peerFix := none, ownFix := none }).wrAll [(F.FIX_STAT_PHASE, 1), (F.FIX_STAT_PCT, 0),
    (F.SCN_STAT_FIX_BUSY, 1)]
def State.cmdFix (s : State) (t : Ticket) : CmdRes :=
  if s.on F.SCN_STAT_FIX_BUSY ∨ s.scn.fixTicket.isSome then s.fin St.busy
  else
    let at_ := if s.leads && s.linkUp then s.tick + 4 else s.tick + 1
    ((s.beginFix (some t) at_).armChange (.fix at_)).later

/-- FIX_SNAPSHOT at the tick boundary S (R178), after what commits with that tick (R164). -/
def State.fixSnapshot (s : State) : State :=
  if s.rd F.FIX_STAT_PHASE = 1 ∧ s.scn.fix.isNone ∧ s.scn.fixAt = s.tick then
    let t := (s.tickFirings).each (List.range 32) State.startClip
    (t.setScn { t.scn with fix := some t.config }).wr F.FIX_STAT_PHASE 2
  else s

/-- A FIX completes once both units of a pair have finished (R179). -/
def State.fixCheck (s : State) : State :=
  match s.scn.fixTicket, s.scn.ownFix with
  | some t, some own =>
    let wait := s.leads && s.linkUp && decide (s.pair.hbMiss < 2) && s.scn.peerFix.isNone
    if wait then s
    else
      let s1 := s.setScn { s.scn with fixTicket := none, ownFix := none, peerFix := none }
      let peer := s.scn.peerFix.getD true
      if own ∧ peer then s1.respond t St.ok 0 0 0
      else (s1.pulse 0x24 2).respond t St.fixFlash (if own then 1 else 0) 0 0
  | _, _ => s

/-- The unit's own half of a FIX ends. -/
def State.fixDone (s : State) (ok : Bool) : State :=
  let s1 := (s.setScn { s.scn with fix := none, ownFix := some ok }).wrAll [(F.FIX_STAT_PHASE, 0), (F.SCN_STAT_FIX_BUSY, 0)]
  match s.scn.fixTicket with
  | some _ => s1.fixCheck
  | none =>
    let s2 := if ok then s1 else s1.pulse 0x24 2
    if s2.isStandby then s2.sendReliable fun _ => .ctrl (.fixDone ok) else s2

/-- The slot in force, its pointer and its journal as the registers show them (R177, R180). -/
def State.showSlot (s : State) : State :=
  let x := s.curSlot
  let tick := match x.image with
    | some c => c.tick
    | none => 0
  ((s.wrAll [(F.FIX_SLOT_SLOT, s.scn.slot), (F.FIX_SLOT_VALID_ALT, ((s.scn.slots.getD (1 - s.scn.slot) ⟨none, []⟩).image.isSome).toNat),
    (F.FIX_SEQ, s.scn.ptrSeq)]).wr64 F.FIX_TICK_LO F.FIX_TICK_HI tick).showJournal ((x.journal.map (·.len)).sum)

/-- The records that a FIX with snapshot tick `at_` copies into the new journal (R178): those after S, and the record of a Develop that was armed
at S and has committed since, or still waits for its tick (log entry 55). -/
def State.newerRecords (s : State) (at_ : Nat) : List JrnlRec :=
  let l := s.curSlot.journal
  let live (q : Nat) : Bool := (l.any fun r => r.body == .mark && r.seq == q && decide (at_ < r.tick)) ||
    (s.scn.armed.any fun d => d.seq == q) || s.scn.arming.any fun d => d.seq == q
  l.filter fun r => decide (at_ < r.tick) || (match r.body with
    | .develop _ _ => live r.seq
    | _ => false)

/-- FIX_PHASE_DONE: a flash phase of a FIX ends (R178); a failure in any phase ends the FIX. -/
def State.fixPhase (s : State) (ok : Bool) : State :=
  let alt := 1 - s.scn.slot
  let failed := ((s.setSlot alt ⟨none, []⟩).wr F.FIX_SLOT_VALID_ALT 0).fixDone false
  match s.scn.fix with
  | none => if s.rd F.FIX_STAT_PHASE = 1 ∧ ¬ ok then failed else s
  | some img =>
    if ¬ ok then failed
    else
      let next := s.wrAll [(F.FIX_STAT_PHASE, s.rd F.FIX_STAT_PHASE + 1), (F.FIX_STAT_PCT, 0)]
      let newer := s.newerRecords img.tick
      match s.rd F.FIX_STAT_PHASE with
      | 2 => (next.setSlot alt ⟨none, []⟩).setScn { (next.setSlot alt ⟨none, []⟩).scn with ptrs := s.scn.ptrs.set alt [] } |>.wr F.FIX_SLOT_VALID_ALT 0
      | 3 => next.setSlot alt ⟨some img, []⟩
      | 4 => next.wr F.FIX_SLOT_VALID_ALT 1
      | 5 => next.setSlot alt ⟨some img, newer⟩
      | 6 =>
        let s1 := s.setSlot alt ⟨some img, newer⟩
        ((((s1.setScn { s1.scn with slot := alt, ptrSeq := s.scn.ptrSeq + 1, ptrs := s.scn.ptrs.set alt (pointerBytes (s.scn.ptrSeq + 1) alt) }).wr F.SCN_STAT_JRNL_FULL 0).showSlot)).fixDone true
      | _ => s

end Sys2Proof.Machine
end

