-- ==== Sys2Proof/Machine/PairRole.lean ====
section
/-!
DEFINITION. A unit's role in the pair: HEALTH (R274), promotion and yield (R271, R272, R275, R299, R305), claims received
(R273, R275, R305, R306), the digest (R300), the pair as its registers show it.
-/
namespace Sys2Proof.Machine

/-- The pages whose faults lower HW_OK (R274). -/
def healthPages : List Nat :=
  [0x01, 0x02] ++ (List.range 16).map (0x10 + ·) ++ [0x20, 0x24, 0x88, 0x89, 0x8A, 0x8B, 0x8C, 0x72, 0x90]

/-- Whether an active source of class F2 or above that counts stands on a page (R274, R441). -/
def State.pageFault (s : State) (p : Nat) : Bool :=
  decide (s.rd (F.FLT_RAW.pg p) ≠ 0) && (List.range 16).any fun n =>
    s.raw p n && (!bitOf (s.rd (F.FLT_MASK.pg p)) n || s.broken p n) && decide (2 ≤ s.classOf p n)

/-- HW_OK. -/
def State.hwOk (s : State) : Bool :=
  !(healthPages.any s.pageFault) && !(s.flt.entries.any fun e => healthPages.contains e.page && decide (2 ≤ e.eff))

/-- REF_OK: the DPLL is in LOCK, on a standby to the Porbuod recovered tick. -/
def State.refOk (s : State) : Bool :=
  s.rd F.REF_STAT_STATE == 2 && (!s.isStandby || s.rd F.REF_STAT_SEL == 7)

/-- IN_OK: no admitted input port in loss, no concealment of a stream in the last second. -/
def State.inOk (s : State) : Bool :=
  !(((List.range 16).map (0x30 + ·) ++ (List.range 8).map (0x40 + ·) ++ [0x50]).any fun p => s.admitted p && s.raw p 0) &&
    (s.pair.concAt == 0 || decide (s.pair.concAt + 1000 ≤ s.ms + 1))

/-- MEDIA_A and MEDIA_B: link, and the PRP partner frames of that LAN. -/
def State.mediaOk (s : State) (m : Fin 2) : Bool :=
  s.on (F.MAC_STAT_LINK.pg m.val) && s.on F.NET_CTRL_PRP_EN && s.net.missing != some m

/-- HEALTH (R274), bits [6:1] of the claim. -/
def State.healthNow (s : State) : Nat :=
  32 * s.hwOk.toNat + 16 * s.pair.katOk.toNat + 8 * s.refOk.toNat + 4 * s.inOk.toNat + 2 * (s.mediaOk 0).toNat + (s.mediaOk 1).toNat

/-- CLAIM_UPDATE at a tick start (R274). -/
def State.claimUpdate (s : State) : State :=
  let conc := (List.range 8).any fun i => s.reg (F.STR_CONC.ix i).addr != 0
  let s1 := if conc then s.setPair { s.pair with concAt := s.ms + 1 } else s
  ((s1.setPair { s1.pair with health := s1.healthNow }).showClaim).wr F.DEV_STAT_ROLE (claimRole (s1.setPair { s1.pair with health := s1.healthNow }).claim)

/-- The epoch after promotion (R275). -/
def State.nextEpoch (s : State) : Nat := match s.pair.newest with
  | some e => (e + 1) % 128
  | none => 1

/-- A unit promotes (R275, R304, R305): its epoch, its reference (R378), the actions it owes (R152); PROMOTED unless
planned. -/
def State.promote (s : State) (cause : Nat) (planned : Bool) : State :=
  let e := s.nextEpoch
  let s1 := s.setPair { s.pair with epoch := e, newest := some e, peerOut := false }
  let s2 := (s1.toRole .active cause).bump F.PAIR_PROMO_CNT
  let s3 := if planned then s2 else s2.pulse 0x80 3
  (s3.refRole).fireOnPromotion.showClaim

/-- A unit yields (R272): ROLE 00, the other fields kept. -/
def State.yieldUnit (s : State) (cause : Nat) : State := ((s.toRole .yielded cause).refRole).showClaim

/-- PAIR_STAT.STATE. -/
def State.pairTo (s : State) (st : Nat) : State := s.wr F.PAIR_STAT_STATE st

/-- An active unit that sees a winning active claim of its own pair yields (R306). -/
def State.splitCheck (s : State) (c pairId : Nat) : State :=
  let d := (claimEpoch c + 128 - s.pair.epoch) % 128
  if s.pair.role = .active ∧ pairId = s.rd F.PAIR_CFG_PAIR_ID ∧ claimSide c ≠ s.rd F.PAIR_STAT_SIDE ∧ claimRole c = 3 ∧ 1 ≤ d ∧ d ≤ 63 then
    (s.yieldUnit 6).pulse 0x80 5
  else s

/-- A valid claim of the partner, from the link, CLMI or a Bihiron header (R275, R305, R306). -/
def State.peerClaim (s : State) (c : Nat) : State :=
  let s1 := s.wr F.PAIR_CLAIM_PEER c
  let s2 := if c % 65536 = 0 then s1 else s1.seeEpoch (claimEpoch c)
  let s3 := s2.setPair { s2.pair with peerOut := claimRole c == 0,
                                      epoch := if claimRole c = 3 ∧ (s.pair.role = .sync ∨ s.pair.role = .standby) then claimEpoch c
                                               else s2.pair.epoch }
  (s3.splitCheck c (s.rd F.PAIR_CFG_PAIR_ID)).showClaim

/-- STREAM_PACKET_RX: beside what the stream takes (R364, R365), the claim of a Bihiron header that carries the unit's own pair
ID and the other side is one of its partner's (R278, R305, R306). -/
def State.streamPacketIn (s : State) (i : Nat) : State :=
  let s1 := s.streamPacket i
  match s.net.rtpIn.head?.bind fun p => if p.ok ∧ p.version = 2 then p.ext.bind bihironOf else none with
  | some (claim, _, _, pairId) =>
    if s.pair.formed ∧ pairId = s.rd F.PAIR_CFG_PAIR_ID ∧ claimSide claim ≠ s.rd F.PAIR_STAT_SIDE then
      (if claim % 65536 = 0 then s1 else s1.seeEpoch (claimEpoch claim)).splitCheck claim pairId
    else s1
  | none => s1

/-! The digest (R300). -/

/-- One CRC step of CRC-64/ECMA-182, initial value 0, over bytes. -/
def crc64 (b : List Byte) : Nat := crcMsb 64 0x42F0E1EBA9EA3693 0 b

/-- The 64 bytes of a line with its 4-byte address before them. -/
def lineCrc (line : Nat) (bytes : List Byte) : Nat := crc64 (leBytes 4 line ++ bytes)

/-- The lines of the parameter window that the digest covers and that are not all zero: both banks, the preset store, the
trigger table. -/
def State.digestLines (s : State) : List Nat :=
  let touched := (s.win.filter fun x => decide (x.1 < 0x3040200)).map fun x => x.1 / 64
  let tables := (List.range 128).map fun i => 0x28000 + i
  (touched ++ tables ++ tables.map (0x40000 + ·)).eraseDups

/-- The RWS registers, by the 64-byte lines of the register space that hold any. -/
def rwsLines : List Nat :=
  ((List.range 0x10000).filter fun i => decide (0x20000 ≤ 4 * i ∧ 4 * i < 0x2C000) && rwsMask (4 * i) != 0).map (· / 16) |>.eraseDups

/-- A line of RWS active values: other registers count as 0. -/
def State.rwsLine (s : State) (l : Nat) : List Byte :=
  (List.range 16).flatMap fun i => leBytes 4 (s.reg (64 * l + 4 * i) &&& rwsMask (64 * l + 4 * i)).toNat

/-- The digest as it stands: an all-zero line adds nothing, since the CRCs of the addresses of the aligned ranges cancel (log
entry 43). -/
def State.digestNow (s : State) : Nat :=
  let zero := List.replicate 64 (0#8)
  let one (line : Nat) (b : List Byte) : Nat := Nat.xor (lineCrc line b) (lineCrc line zero)
  let d1 := (s.digestLines.map fun l => one l (s.winBytes (64 * l) 64)).foldl Nat.xor 0
  let d2 := (rwsLines.map fun l => lineCrc (0x10000000 + l) (s.rwsLine l)).foldl Nat.xor 0
  let plan := match s.eng.run with
    | some a => leNat (((Config.sha384 a.plan.image).take 8).reverse)
    | none => 0
  Nat.xor (Nat.xor d1 d2) (Nat.xor plan (s.rd F.SCN_STAT_DEV_SEQ))

/-! Transfer (R297). -/

/-- The samples of exchange memory at one of the points of R542. -/
def exchangeOf (e : EngSt) : List Frame := [e.aIn, e.aOut, e.bSum, e.cOut, e.dSum, e.eOut]

/-- The register bits that a transfer carries: settings on mirrored pages that are not a unit's own (R290, R369). -/
def State.mirroredRegs (s : State) : List Nat :=
  ((s.regs.map (·.1)) ++ s.lat.map (·.1)).eraseDups.filter fun a => (match RegDir.page? (a / 4096) with
    | some r => r.mirror && decide (0x40 ≤ a % 4096)
    | none => false) && !(unitOwned a) && cfgMask a != 0

/-- The configuration and state a transfer or a resync sends, in the order it is loaded. -/
def State.bulkItems (s : State) : List BulkItem :=
  let opt {α : Type} (o : Option α) (f : α → BulkItem) : List BulkItem := (o.map f).toList
  [.start] ++ (s.eng.clips.map fun c => .clip c.num c.rate c.channels c.length c.loopStart c.data) ++
    (s.win.map fun x => .window x.1 [x.2]) ++ (s.mirroredRegs.map fun a => .register a (s.reg a) (s.latReg a)) ++
    opt s.eng.loaded .loaded ++ opt s.eng.run .plan ++ [.develop s.scn.seq] ++ opt s.eng.pend .pending ++
    (s.scn.lines.map fun x => .dirtyLine x.1) ++ (s.scn.regs.map fun x => .dirtyReg x.1) ++
    ((indexed s.eng.insts).map fun x => .inst x.1 x.2) ++ [.ramps s.eng.ramps s.eng.deferred, .holds s.eng.raises s.eng.forces,
      .fired (BitVec.ofNat 8 (maskOf (fun n => (s.trig n).fired) 8))] ++
    ((List.finRange 16).flatMap fun c => s.clusters[c].mem.map fun x => .cluster c x.1 [x.2]) ++
    ((List.finRange 6).flatMap fun k => ((exchangeOf s.eng).getD k.val []).map fun x => .exchange k x.1 x.2) ++
    (s.eng.conc.map fun x => .conceal x.1 x.2) ++
    ((indexed s.eng.players).map fun x => .player (Fin.ofNat 32 x.1) x.2) ++
    opt (s.scn.armed.map Develop.change) .armed ++ (s.scn.held.map fun x => .held x.1 x.2) ++
    (s.eng.firings.map fun f => .armed (.fire f.input f.asserted f.tick f.entries)) ++
    ((s.eng.starts.filter fun x => !x.taken).map fun x => .armed (.clip x.tick x.player x.clip x.loop x.preset)) ++
    opt (s.en.pending.map fun x => ModeChange.shed x.1 x.2.1) .armed ++
    ((List.finRange 4).filterMap fun d => (s.anchorOf d.val).map fun a => .anchor d (BitVec.ofInt 64 a))

/-- The active begins a state transfer (R297): every item, reliably. -/
def State.sendBulk (s : State) : State :=
  if s.leads ∧ s.linkUp then s.sendReliable fun _ => .bulk s.bulkItems else s

/-- A transfer begins on either side (R297, R298). -/
def State.transferFrom (s : State) : State :=
  let f := s.open_
  (((f.2.pairTo 3).wrAll [(F.PAIR_XFER_LEFT, f.1), (F.PAIR_XFER_PCT, 0)]).setPair
    { f.2.pair with xferFrom := s.ms, verifyBad := false }).sendBulk

/-- A demoted standby resyncs (R297, R300, R303): demotion, then a transfer, at once where the link is up. -/
def State.resync (s : State) : State :=
  if s.isStandby then (let t := s.demote; if t.linkUp then t.transferFrom else t.pairTo 1) else s

/-- An answer to PAIR_JOIN (R295). -/
def State.joinDone (s : State) (status detail : Nat) : State :=
  let s1 := s.setPair { s.pair with join := none, joining := false, waiting := false }
  match s.pair.join with
  | some t => s1.respond t status detail 0 0
  | none => s1

end Sys2Proof.Machine
end

