-- ==== Sys2Proof/Machine/Lanes.lean ====
section
/-!
DEFINITION. The serial lanes (spec/14): bring-up, loss, figure of merit, test modes, and what their owners do with them: the
MACs, the PCIe endpoint and the Porbuod link (R285, R288, R397 to R411).
-/
namespace Sys2Proof.Machine

def State.laneRd (s : State) (n : Nat) (f : Fld) : Nat := s.rd (f.pg n)
def State.laneWr (s : State) (n : Nat) (f : Fld) (v : Nat) : State := s.wr (f.pg n) v
def State.setLane (s : State) (n : Fin 8) (x : LaneSt) : State := s.setNet { s.net with lanes := s.net.lanes.set n x }

/-- Whether a lane is in use (R399). -/
def State.laneInUse (s : State) (n : Nat) : Bool :=
  if n < 4 then s.laneRd n F.LANE_STAT_STATE == 6
  else if n < 6 then s.admitted (0x60 + (n - 4))
  else s.admitted 0x81 && bitOf (s.rd F.PB_CTRL_LANE_EN) (n - 6)

/-- Whether a test mode is active on a lane (R408). -/
def State.laneTests (s : State) (n : Nat) : Bool :=
  s.laneRd n F.LANE_TEST_LOOP != 0 || s.laneRd n F.LANE_TEST_TX_PAT != 0 || s.laneRd n F.LANE_TEST_RX_PAT != 0

/-- The rate code a lane of L4 to L7 runs at (R397). -/
def State.laneRate (s : State) (n : Nat) : Nat :=
  let k := if n < 6 then s.rd (F.MAC_CTRL_SPEED.pg (n - 4)) else s.rd F.PB_STAT_RATE
  if n < 6 then [0, 5, 7].getD k 0 else [2, 5, 7].getD k 2

/-- The owner of a lane taken out of use while it carried traffic: a MAC loses its link (R370); the Porbuod link goes on over the other lane, or is
down (R288). -/
def State.ownerDown (s : State) (n : Nat) : State :=
  if n < 6 then (if s.on (F.MAC_STAT_LINK.pg (n - 4)) then s.macLink (n - 4) false else s)
  else
    let left := putBit (s.rd F.PB_STAT_LANES_UP) (n - 6) false
    let s1 := s.wrAll [(F.PB_STAT_LANES_UP, left), (F.PB_LANE0_STAT_UP.ix (n - 6), 0), (F.PB_LANE0_STAT_ALIGNED.ix (n - 6), 0),
      (F.PB_LANE0_STAT_DESKEW_OK.ix (n - 6), 0)]
    if left = 0 then s1.wrAll [(F.PB_STAT_STATE, 0), (F.PB_STAT_RATE, 0)] else s1

/-- A lane of L4 to L7 put into a state before DETECT, with its owner told. -/
def State.laneRest (s : State) (n st : Nat) : State :=
  let s1 := s.wrAll [(F.LANE_STAT_STATE.pg n, st), (F.LANE_STAT_UP.pg n, 0), (F.LANE_STAT_ALIGNED.pg n, 0), (F.LANE_STAT_CDR_LOCK.pg n, 0)]
  if s.laneRd n F.LANE_STAT_STATE = 6 then s1.ownerDown n else s1

/-- A lane of L4 to L7 leaves OFF once it is enabled and its owner requests it, and returns to OFF when it is not; a media lane whose MAC
changes its speed starts again at the new rate (R397); a lane under test shows TEST, and a loopback's rate (R399, R402, R408, R409). -/
def State.laneRequest (s : State) (n : Nat) : State :=
  let st := s.laneRd n F.LANE_STAT_STATE
  if s.laneTests n then
    let s1 := s.laneWr n F.LANE_STAT_STATE 7
    if s.laneRd n F.LANE_TEST_LOOP = 0 then s1 else s1.laneWr n F.LANE_STAT_RATE (s.laneRd n F.LANE_TEST_TEST_RATE)
  else if n < 4 then (if st = 7 then s.laneWr n F.LANE_STAT_STATE 0 else s)
  else if ¬ s.enabled (0x78 + n) ∨ ¬ s.laneInUse n then
    (if st = 0 then s else s.laneRest n 0)
  else if st = 0 ∨ st = 7 then s.wrAll [(F.LANE_STAT_STATE.pg n, 1), (F.LANE_STAT_RATE.pg n, s.laneRate n)]
  else if n < 6 ∧ s.laneRd n F.LANE_STAT_RATE ≠ s.laneRate n then (s.laneRest n 1).laneWr n F.LANE_STAT_RATE (s.laneRate n)
  else s

/-- Every lane's request, as a tick starts. -/
def State.lanesTick (s : State) : State := s.each (List.range 8) State.laneRequest

/-- LANE_PLL_LOCK: IDLE to DETECT (R398, R402); a Porbuod lane sends its training burst, a media lane idles (R401). -/
def State.lanePll (s : State) (n : Fin 8) : State :=
  if s.laneRd n.val F.LANE_STAT_STATE = 1 then (s.laneWr n.val F.LANE_STAT_STATE 2).put (.lane n.val (if 6 ≤ n.val then 7 else 0)) else s

/-- LANE_SIGNAL_DETECT: DETECT to CDR (R400 to R402). -/
def State.laneSignal (s : State) (n : Fin 8) : State :=
  if s.laneRd n.val F.LANE_STAT_STATE = 2 then s.wrAll [(F.LANE_STAT_STATE.pg n.val, 3), (F.LANE_STAT_LOS.pg n.val, 0)] else s

/-- LANE_CDR_LOCK: CDR to ADAPT (R402); under test the lock is only shown (R409). -/
def State.laneCdr (s : State) (n : Fin 8) : State :=
  let st := s.laneRd n.val F.LANE_STAT_STATE
  if st = 3 then
    (s.wrAll [(F.LANE_STAT_STATE.pg n.val, 4), (F.LANE_STAT_CDR_LOCK.pg n.val, 1)]).setLane n { s.net.lanes[n] with attempts := 0 }
  else if st = 7 then s.laneWr n.val F.LANE_STAT_CDR_LOCK 1
  else s

/-- FOM of R404. -/
def fomOf (eh ew : Nat) : Nat := min 255 (2 * eh * ew / 64)

/-- An eye and its figure of merit shown. -/
def State.showEye (s : State) (n eh ew : Nat) : State :=
  s.wrAll [(F.LANE_EYE_EH.pg n, eh), (F.LANE_EYE_EW.pg n, ew), (F.LANE_STAT_FOM.pg n, fomOf eh ew)]

/-- A lane falls back to DETECT. -/
def State.laneDetect (s : State) (n : Nat) : State :=
  s.wrAll [(F.LANE_STAT_STATE.pg n, 2), (F.LANE_STAT_UP.pg n, 0), (F.LANE_STAT_ALIGNED.pg n, 0), (F.LANE_STAT_CDR_LOCK.pg n, 0)]

/-- LANE_ADAPT_END: an attempt judged (R402, R404, R405): on to ALIGN, another attempt, or after the third TRAIN_FAIL and from
DETECT again. -/
def State.laneAdapt (s : State) (n : Fin 8) (eh ew ctle dfe : Nat) : State :=
  let st := s.laneRd n.val F.LANE_STAT_STATE
  if st ≠ 4 ∧ st ≠ 7 then s
  else
    let s1 := (s.showEye n.val eh ew).wrAll [(F.LANE_RX_CTLE.pg n.val, ctle), (F.LANE_RX_DFE.pg n.val, dfe)]
    if st = 7 then s1
    else if s.laneRd n.val F.LANE_FOM_CFG_FOM_MIN ≤ fomOf eh ew then s1.laneWr n.val F.LANE_STAT_STATE 5
    else if s.net.lanes[n].attempts < 2 then s1.setLane n { s.net.lanes[n] with attempts := s.net.lanes[n].attempts + 1 }
    else
      (((s1.setLane n { s.net.lanes[n] with attempts := 0 }).laneDetect n.val).bump (F.LANE_TRAIN_CNT.pg n.val)).pulse (0x78 + n.val) 2

/-- LANE_STATE_TIMEOUT: a bound of R402 has passed. -/
def State.laneTimeout (s : State) (n : Fin 8) : State :=
  let st := s.laneRd n.val F.LANE_STAT_STATE
  if st = 1 ∨ st = 3 ∨ st = 4 ∨ st = 5 then (s.laneDetect n.val).bump (F.LANE_TRAIN_CNT.pg n.val) else s

/-- The capability message (R285, R287, R295). -/
def State.capability (s : State) : CtrlMsg :=
  .capability (BitVec.ofNat 16 (s.rd F.MB_FW_VER)) (BitVec.ofNat 8 (s.rd F.MB_FW_INFO_PAIR_COMPAT)) (BitVec.ofNat 16 (s.rd F.PAIR_CFG_PAIR_ID))
    (s.on F.PAIR_STAT_SIDE) (BitVec.ofNat 8 (s.rd F.DEV_DRAM_RAW_GIB)) (Fin.ofNat 4 (s.rd F.PB_CTRL_MAX_RATE)) (Fin.ofNat 8 s.lc)

/-- A control message sent reliably while the lanes are up, before the link counts as up. -/
def State.sendCtrl (s : State) (m : CtrlMsg) : State :=
  let n := s.pair.nextSeq
  (s.setPair { s.pair with nextSeq := (n + 1) % 2 ^ 32, sent := s.pair.sent ++ [(n, .ctrl m)] }).put (.porbuod (.ctrl m))

/-- A deskew marker (R406): its lane, its count, the low 16 bits of its transmit time. -/
def markerBytes (k count time : Nat) : List Byte :=
  [0xD, BitVec.ofNat 8 k] ++ (leBytes 3 count).reverse ++ (leBytes 2 time).reverse

/-- A lane's block 0 is a marker (R406); when it leaves is open (log entry 59). -/
def State.sendMarker (s : State) (k : Nat) : State := let o := s.open_; o.2.put (.marker k (markerBytes k 0 (o.1 % 65536)))

/-- A Porbuod lane comes up (R285, R288, R406): it sends its marker, and the first one starts the capability exchange. -/
def State.pbLaneUp (s : State) (k : Nat) : State :=
  let s1 := ((s.sendMarker k).wr F.PB_STAT_LANES_UP (putBit (s.rd F.PB_STAT_LANES_UP) k true)).wrAll
    [((F.PB_LANE0_STAT_UP.ix k), 1), ((F.PB_LANE0_STAT_ALIGNED.ix k), 1)]
  let s2 := if s1.rd F.PB_STAT_LANES_UP = s1.rd F.PB_CTRL_LANE_EN then s1.source 0x81 0 false else s1
  if s.rd F.PB_STAT_STATE ≤ 1 then (s2.wr F.PB_STAT_STATE 2).sendCtrl s2.capability else s2

/-- A Porbuod lane is lost (R288): with the other one left the link carries on. -/
def State.pbLaneDown (s : State) (k : Nat) : State :=
  let s1 := (s.wr F.PB_STAT_LANES_UP (putBit (s.rd F.PB_STAT_LANES_UP) k false)).wrAll
    [((F.PB_LANE0_STAT_UP.ix k), 0), ((F.PB_LANE0_STAT_ALIGNED.ix k), 0), ((F.PB_LANE0_STAT_DESKEW_OK.ix k), 0)]
  let s2 := s1.bump F.PB_LANE_LOSS
  if s2.rd F.PB_STAT_LANES_UP = 0 then (s2.wrAll [(F.PB_STAT_STATE, 1), (F.PB_STAT_RATE, 0)]).source 0x81 0 false
  else s2.source 0x81 0 true

/-- LANE_ALIGNED: block or comma lock brings the lane UP (R402, R403). -/
def State.laneAligned (s : State) (n : Fin 8) (inverted : Bool) : State :=
  if s.laneRd n.val F.LANE_STAT_STATE ≠ 5 then s
  else
    let s1 := (s.wrAll [(F.LANE_STAT_STATE.pg n.val, 6), (F.LANE_STAT_UP.pg n.val, 1), (F.LANE_STAT_ALIGNED.pg n.val, 1),
      (F.LANE_STAT_RX_INV_AUTO.pg n.val, (inverted && decide (6 ≤ n.val)).toNat)]).setLane n ⟨0, 0, 0, none⟩
    if n.val = 4 ∨ n.val = 5 then s1.macLink (n.val - 4) true
    else if 6 ≤ n.val then s1.pbLaneUp (n.val - 6)
    else s1

/-- LANE_DOWN: a lane in UP is lost (R405): LOS, loss of CDR lock, 16 invalid headers, 4 code violations. A PCIe lane shows OFF for the LTSSM's
Detect; what its link does is a row of its own (R35). -/
def State.laneDown (s : State) (n : Fin 8) (cause : Fin 4) : State :=
  if s.laneRd n.val F.LANE_STAT_STATE ≠ 6 then s
  else
    let cdr := s.laneRd n.val F.LANE_STAT_CDR_LOCK
    let s1 := ((s.laneDetect n.val).wrAll [(F.LANE_STAT_LOS.pg n.val, if cause = 0 then 1 else s.laneRd n.val F.LANE_STAT_LOS),
      (F.LANE_STAT_CDR_LOCK.pg n.val, if cause = 0 ∨ cause = 1 then 0 else cdr)]).bump (F.LANE_LOSS_CNT.pg n.val)
    let codes := if cause = 2 then 16 else if cause = 3 then 4 else 0
    let s2 := s1.laneWr n.val F.LANE_CODE_ERR (min (2 ^ 32 - 1) (s.laneRd n.val F.LANE_CODE_ERR + codes))
    let s3 := s2.pulse (0x78 + n.val) 0
    if n.val < 4 then s3.laneWr n.val F.LANE_STAT_STATE 0 else if n.val < 6 then s3.macLink (n.val - 4) false else s3.pbLaneDown (n.val - 6)

/-- LOW_FOM: a measurement in UP (R404). -/
def State.laneFom (s : State) (n : Fin 8) (eh ew : Nat) : State :=
  if s.laneRd n.val F.LANE_STAT_STATE ≠ 6 then s
  else
    let s1 := s.showEye n.val eh ew
    let x := s.net.lanes[n]
    if fomOf eh ew < s.laneRd n.val F.LANE_FOM_CFG_FOM_WARN then
      let s2 := s1.setLane n { x with low := x.low + 1, high := 0 }
      if 10 ≤ x.low + 1 then s2.source (0x78 + n.val) 1 true else s2
    else
      let s2 := s1.setLane n { x with low := 0, high := x.high + 1 }
      if 10 ≤ x.high + 1 then s2.source (0x78 + n.val) 1 false else s2

/-! Tests (R408 to R411). -/

/-- The rates of a lane's row of R397, as codes of LANE_STAT.RATE. -/
def laneRates (n : Nat) : List Nat := if n < 4 then [1, 3, 4, 6] else if n < 6 then [0, 5, 7] else [2, 5, 7]

/-- A write of LANE_TEST (R408, R410): refused where it starts a test on a lane in use; a write of RX_PAT clears the counts.
Values that the tables do not give leave their field. -/
def State.laneTestWrite (s : State) (n : Nat) (w : Word) : State :=
  let v := w.toNat
  let keep (f : Fld) (x : Nat) (ok : Bool) : Nat := if ok then x else s.laneRd n f
  let loop := keep F.LANE_TEST_LOOP (bitsOf v 18 16) (decide (bitsOf v 18 16 ≤ 3))
  let tx := keep F.LANE_TEST_TX_PAT (bitsOf v 11 8) (decide (bitsOf v 11 8 ≤ 8))
  let rx := keep F.LANE_TEST_RX_PAT (bitsOf v 3 0) (decide (bitsOf v 3 0 ≤ 6))
  let rate := keep F.LANE_TEST_TEST_RATE (bitsOf v 22 20) ((laneRates n).contains (bitsOf v 22 20))
  if (loop ≠ 0 ∨ tx ≠ 0 ∨ rx ≠ 0) ∧ s.laneInUse n then s.pulse (0x78 + n) 3
  else
    let s1 := s.wrAll [(F.LANE_TEST_TEST_RATE.pg n, rate), (F.LANE_TEST_LOOP.pg n, loop), (F.LANE_TEST_TX_PAT.pg n, tx),
      (F.LANE_TEST_RX_PAT.pg n, rx)]
    let s2 := s1.wrAll [(F.LANE_PRBS_ERR.pg n, 0), (F.LANE_PRBS_BITS_LO.pg n, 0), (F.LANE_PRBS_BITS_HI.pg n, 0),
      (F.LANE_PRBS_STAT_RESYNC.pg n, 0), (F.LANE_PRBS_STAT_SYNC.pg n, 0)]
    (s2.laneRequest n).put (.lane n tx)

/-- One generated bit inverted (R411): counted, and counted as an error by the lane's own checker in a near-end loopback. -/
def State.injectBit (s : State) (n : Nat) : State :=
  if s.laneRd n F.LANE_TEST_TX_PAT = 0 then s
  else
    let s1 := s.bump (F.LANE_INJ_CNT.pg n)
    let l := s.laneRd n F.LANE_TEST_LOOP
    if (l = 1 ∨ l = 2) ∧ s.laneRd n F.LANE_PRBS_STAT_SYNC = 1 ∧ s.laneRd n F.LANE_TEST_RX_PAT = s.laneRd n F.LANE_TEST_TX_PAT then
      s1.bumpSat (F.LANE_PRBS_ERR.pg n)
    else s1

/-- LANE_INJ_PERIODIC. -/
def State.injectPeriodic (s : State) (n : Nat) : State := if s.laneRd n F.LANE_INJ_RATE = 0 then s else s.injectBit n

/-- PRBS_CHECKER_SYNC (R410): sync declared, or lost and counted; with the bits and errors counted in sync since the last one. -/
def State.checkerSync (s : State) (n : Nat) (sync : Bool) (bits errs : Nat) : State :=
  if s.laneRd n F.LANE_TEST_RX_PAT = 0 then s
  else
    let lo := s.laneRd n F.LANE_PRBS_BITS_LO + 2 ^ 32 * s.laneRd n F.LANE_PRBS_BITS_HI
    let s1 := if s.laneRd n F.LANE_PRBS_STAT_SYNC = 1 then
        (s.wr64 (F.LANE_PRBS_BITS_LO.pg n) (F.LANE_PRBS_BITS_HI.pg n) (lo + bits)).laneWr n F.LANE_PRBS_ERR
          (min (2 ^ 32 - 1) (s.laneRd n F.LANE_PRBS_ERR + errs))
      else s
    if sync then s1.laneWr n F.LANE_PRBS_STAT_SYNC 1
    else (s1.laneWr n F.LANE_PRBS_STAT_SYNC 0).bumpSat (F.LANE_PRBS_STAT_RESYNC.pg n)

/-- PCIE_LINK_UP (R34, R399): link fields, and lanes L0 to L3 in use. A test under way keeps the link waiting (R408). -/
def State.pcieUp (s : State) (speed width : Nat) : State :=
  if (List.range 4).any s.laneTests ∨ speed = 0 ∨ 4 < speed ∨ ¬ (width = 1 ∨ width = 2 ∨ width = 4) then s
  else
    let s1 := s.wrAll [(F.HOST_STAT_LINK_UP, 1), (F.HOST_STAT_SPEED, speed), (F.HOST_STAT_WIDTH, width)]
    s1.each (List.range 4) fun t n =>
      let up := decide (n < width)
      t.wrAll [(F.LANE_STAT_STATE.pg n, 6), (F.LANE_STAT_RATE.pg n, [1, 1, 3, 4, 6].getD speed 1), (F.LANE_STAT_UP.pg n, up.toNat),
        (F.LANE_STAT_ALIGNED.pg n, up.toNat), (F.LANE_STAT_CDR_LOCK.pg n, up.toNat), (F.LANE_STAT_LOS.pg n, (!up).toNat)]

/-- The PCIe link down again: its lanes are out of use. -/
def State.pcieDown (s : State) : State :=
  s.each (List.range 4) fun t n => t.wrAll [(F.LANE_STAT_STATE.pg n, 0), (F.LANE_STAT_UP.pg n, 0), (F.LANE_STAT_ALIGNED.pg n, 0),
    (F.LANE_STAT_CDR_LOCK.pg n, 0), (F.LANE_STAT_LOS.pg n, 1)]

/-- The count of a marker in the layout of R406 for a lane, none where the block is not one. -/
def markerCount (k : Nat) (b : List Byte) : Option Nat :=
  if b.length = 7 ∧ b.take 2 = [0xD, BitVec.ofNat 8 k] then some (leNat ((b.drop 2).take 3).reverse) else none

/-- Whether what came in a marker's place has the expected count (R407); the first marker of a lane sets it. -/
def State.markerGood (s : State) (k : Fin 2) (m : Option (List Byte)) : Bool :=
  match m.bind (markerCount k.val), s.net.lanes[6 + k.val].marker with
  | some c, some e => c == e
  | some _, none => true
  | none, _ => false

/-- DESKEW_MARKER_RX (R286, R406, R407): a marker, or none where one is missing; one with the expected count aligns the lane, up to 64 blocks, and
after another one the lane realigns at the next. -/
def State.deskew (s0 : State) (k : Fin 2) (m : Option (List Byte)) (skew : Nat) : State :=
  let n : Fin 8 := Fin.ofNat 8 (6 + k.val)
  let s := s0.setLane n { s0.net.lanes[n] with marker := (m.bind (markerCount k.val)).map fun c => (c + 1) % 2 ^ 24 }
  if ¬ bitOf (s0.rd F.PB_STAT_LANES_UP) k.val then s0
  else if s0.markerGood k m ∧ skew ≤ 64 then s.wrAll [(F.PB_LANE0_STAT_SKEW.ix k.val, skew), (F.PB_LANE0_STAT_DESKEW_OK.ix k.val, 1)]
  else
    let s1 := s.wrAll [(F.PB_LANE0_STAT_SKEW.ix k.val, min 255 skew), (F.PB_LANE0_STAT_DESKEW_OK.ix k.val, 0)]
    if 64 < skew then s1.pulse 0x81 3 else s1

end Sys2Proof.Machine
end

