-- ==== Sys2Proof/Machine/Faults.lean ====
section
/-!
DEFINITION. The fault collector (R440 to R451), known-answer rounds (R452 to R455), fault injection (R458, R519), the loss-of-power
sequence (R184, R459).
-/
namespace Sys2Proof.Machine

/-- Updates to the collector. -/
def State.setFlt (s : State) (f : FaultSt) : State := { s with flt := f }

/-! Entries as the registers show them (R449, R520). -/

/-- The open entry of highest effective class, the oldest on a tie. -/
def topEntry (l : List FltEntry) : Option FltEntry :=
  l.foldl (fun (b : Option FltEntry) e => match b with
    | some t => if t.eff < e.eff then some e else b
    | none => some e) none

/-- The number of open entries of an effective class, as FLT_OPEN shows it. -/
def openOf (l : List FltEntry) (c : Nat) : Nat := min 255 (l.filter (·.eff == c)).length

/-- FLT_TOP, FLT_OPEN and FLT_PAGE_OPEN. -/
def State.showFaults (s : State) : State :=
  let l := s.flt.entries
  let s1 := s.wrAll [(F.FLT_OPEN_F1, openOf l 1), (F.FLT_OPEN_F2, openOf l 2), (F.FLT_OPEN_F3, openOf l 3), (F.FLT_OPEN_F4, openOf l 4)]
  let s2 := s1.each (List.range 8) fun t i =>
    t.wr (F.FLT_PAGE_OPEN.ix i) (maskOf (fun j => l.any fun e => e.page == 32 * i + j) 32)
  match topEntry l with
  | some e => s2.wrAll [(F.FLT_TOP_SEQ, e.seq), (F.FLT_TOP_PAGE, e.page), (F.FLT_TOP_SOURCE, e.src), (F.FLT_TOP_VALID, 1), (F.FLT_TOP_EFF, e.eff)]
  | none => s2.setReg F.FLT_TOP_SEQ.addr 0

/-- The length of a class's timer in µs (R443). -/
def timerUs (eff : Nat) : Nat := if eff = 1 then 1000000 else if eff = 2 then 50000 else if eff = 3 then 2000 else 0

/-- A read of FLT_TOP captures FLT_TOP1, the time left on the top entry's timer when `elapsedUs` of it have passed (FAULT registers). -/
def State.topCapture (s : State) (elapsedUs : Nat) : State := match topEntry s.flt.entries with
  | some e => s.wrAll [(F.FLT_TOP1_ORIG, e.orig), (F.FLT_TOP1_LEFT_US, timerUs e.eff - elapsedUs)]
  | none => s.setReg F.FLT_TOP1_ORIG.addr 0

/-! Records and reactions. -/

/-- A fault record (R492): collector SEQ, classes, the time of TD0, the edges it stands for, what happened. -/
def State.faultRecord (s : State) (page src seq orig eff edges event : Nat) : State :=
  let t := s.net.td[(0 : Fin 4)].time / 2 ^ 40
  s.record 1 eff page src (leBytes 2 seq ++ [BitVec.ofNat 8 orig, BitVec.ofNat 8 eff] ++ leBytes 6 (t / 10 ^ 9) ++ leBytes 4 (t % 10 ^ 9) ++
    [0, 0] ++ leBytes 4 edges ++ [BitVec.ofNat 8 event] ++ (if page = 0x02 ∧ src = 4 then [BitVec.ofNat 8 s.eng.admReason] else []))

/-- The F4 action (R275, R447, R448): the claim is 0x0000 at once, the unit is yielded, its engine stops. -/
def State.f4Action (s : State) : State :=
  if s.on F.DEV_STAT_F4_STOP then s
  else
    let s1 := (s.setPair { s.pair with dark := true, darkSent := false }).yieldUnit 7
    let s2 := ({ s1 with eng := { s1.eng with halting := true } } : State).bump F.FLT_F4_CNT
    (s2.wr F.DEV_STAT_F4_STOP 1).showClaim

/-- An entry put in place of the open one of its source, or behind the others. -/
def putEntry (l : List FltEntry) (e : FltEntry) : List FltEntry :=
  if l.any fun x => x.page == e.page && x.src == e.src then l.map fun x => if x.page == e.page && x.src == e.src then e else x
  else l ++ [e]

/-- What the class an entry has reached does (R443, R447). -/
def State.reached (s : State) (e : FltEntry) : State :=
  if e.eff = 4 then (s.f4Action).faultRecord e.page e.src e.seq e.orig 4 1 3 else s

/-- An entry opened or escalated, with its record. -/
def State.openEntry (s : State) (e : FltEntry) (event : Nat) (esc : Bool) : State :=
  let s1 := (s.setFlt { s.flt with entries := putEntry s.flt.entries e }).showFaults
  let s2 := if esc then s1.bump F.FLT_ESC_CNT else s1
  (s2.faultRecord e.page e.src e.seq e.orig e.eff 1 event).reached e

/-- A Notice (R442): logged at most once per source per second, each record with the edges it stands for. -/
def State.notice (s : State) (page src seq : Nat) : State :=
  let key := 16 * page + src
  let rest := s.flt.notices.filter fun x => x.key != key
  match s.flt.notices.find? fun x => x.key == key with
  | some x =>
    if s.ms < x.at_ + 1000 then s.setFlt { s.flt with notices := ⟨key, x.at_, x.edges + 1⟩ :: rest }
    else (s.setFlt { s.flt with notices := ⟨key, s.ms, 0⟩ :: rest }).faultRecord page src seq 0 0 (x.edges + 1) 0
  | none => (s.setFlt { s.flt with notices := ⟨key, s.ms, 0⟩ :: rest }).faultRecord page src seq 0 0 1 0

/-- The effective class a new edge enters with (R443, R445, R446): one higher where its entry is open, or where another entry
of its class is. -/
def entryClass (l : List FltEntry) (page src cls : Nat) : Nat :=
  match l.find? fun x => x.page == page && x.src == src with
  | some x => min 4 (x.eff + 1)
  | none => if cls < 4 ∧ (l.any fun x => x.eff == cls) then cls + 1 else cls

/-- FAULT_EDGE_COLLECT: the oldest unmasked edge taken in (R442, R445, R446). An edge of a source whose entry is open raises it, whatever class the
source has been given since. -/
def State.collect (s : State) : State :=
  match s.flt.edges with
  | [] => s
  | (page, src) :: rest =>
    let seq := s.flt.next % 65536
    let s1 := s.setFlt { s.flt with edges := rest, next := s.flt.next + 1 }
    let cls := min 4 (s.classOf page src)
    let eff := entryClass s.flt.entries page src cls
    let old := s.flt.entries.find? fun x => x.page == page && x.src == src
    let s2 := if 2 ≤ eff then (s1.recorderFault).sendVec (s.rd F.IRQ_FAULT_VEC) else s1
    if cls = 0 ∧ old = none then s2.notice page src seq
    else
      let from_ := match old with
        | some x => x.eff
        | none => cls
      let orig := match old with
        | some x => x.orig
        | none => cls
      s2.openEntry ⟨page, src, eff, orig, seq⟩ (if old.isSome ∧ from_ < eff then 1 else 0) (decide (from_ < eff))

/-- FAULT_TIMER_EXPIRY: the timer of an open entry runs out (R443, R447). -/
def State.timerExpiry (s : State) (page src : Nat) : State :=
  match s.flt.entries.find? fun x => x.page == page && x.src == src with
  | none => s
  | some e =>
    if e.eff = 1 ∨ e.eff = 2 then s.openEntry { e with eff := e.eff + 1 } 1 true
    else if e.eff = 3 then
      let s1 := ((s.yieldUnit 7).bump F.FLT_YIELD_CNT).faultRecord page src e.seq e.orig 3 1 2
      s1.openEntry { e with eff := 4 } 1 true
    else s

/-- An entry acknowledged and closed (R449, R450). -/
def State.closeEntry (s : State) (e : FltEntry) (event : Nat) : State :=
  ((s.setFlt { s.flt with entries := s.flt.entries.filter fun x => !(x.page == e.page && x.src == e.src) }).showFaults).faultRecord
    e.page e.src e.seq e.orig e.eff 1 event

/-- A write of FLT_ACK (R449). -/
def State.ack (s : State) (page src seq : Nat) : State :=
  match s.flt.entries.find? fun x => x.page == page && x.src == src with
  | some e => if e.seq % 256 = seq then s.closeEntry e 4 else s.pulse 0x90 6
  | none => s.pulse 0x90 6

/-- FIRMWARE_AUTO_ACK: an entry of F1 or F2 that FLT_AUTO covers, once its record is logged (R450). -/
def State.autoAck (s : State) (page src : Nat) : State :=
  match s.flt.entries.find? fun x => x.page == page && x.src == src with
  | some e => if (e.eff = 1 ∧ s.on F.FLT_AUTO_F1) ∨ (e.eff = 2 ∧ s.on F.FLT_AUTO_F2) then s.closeEntry e 5 else s
  | none => s

/-- COLLECTOR: the copies disagree; the F4 action follows at once (R451). -/
def State.collectorFault (s : State) : State := (s.pulse 0x90 4).f4Action

/-- RAIL_BROKEN (R441): recorded and raised; the source counts as active whatever its mask, until the next reset. -/
def State.railBroken (s : State) (page src : Nat) : State :=
  match RegDir.page? page with
  | some r =>
    if r.classes.length ≤ src ∨ s.broken page src then s
    else
      let was := s.raw page src && !bitOf (s.rd (F.FLT_MASK.pg page)) src
      let s1 := s.setFlt { s.flt with broken := s.flt.broken ++ [16 * page + src] }
      let s2 := (s1.wrAll [(F.FLT_BROKEN_VALID, 1), (F.FLT_BROKEN_PAGE, page), (F.FLT_BROKEN_SOURCE, src)]).pulse 0x90 0
      let s3 := if s2.raw page src then s2
        else ((s2.wr (F.FLT_RAW.pg page) (putBit (s2.rd (F.FLT_RAW.pg page)) src true)).wr (F.FLT_LATCH.pg page)
          (Nat.lor (s2.rd (F.FLT_LATCH.pg page)) (2 ^ src))).bump (F.EVT_COUNT.pg page)
      if was then s3 else s3.setFlt { s3.flt with edges := s3.flt.edges ++ [(page, src)] }
  | none => s

/-! Known-answer rounds (R452 to R455). -/

/-- The units that take part: clusters that are not gated, and the crosspoint as bit 16 (R476). -/
def State.katUnits (s : State) : Nat := maskOf (fun u => u == 16 || s.rd (F.PWR_STATE_CUR.pg (0x10 + u)) == 0) 17

/-- KAT_ROUND_START, every 500 ms (R453). -/
def State.katStart (s : State) : State := if s.flt.katOn then s else s.setFlt { s.flt with katOn := true }

/-- The claims and the roles after a short round (R303, R455): a failed unit yields at once; where both pass, the standby demotes
and resyncs. -/
def State.katSettle (s : State) : State :=
  if ¬ s.pair.katCall then s
  else match s.pair.ownKat, s.pair.peerKat with
    | some false, _ => (s.setPair { s.pair with katCall := false }).yieldUnit 5
    | some true, some true => (s.setPair { s.pair with katCall := false }).resync
    | some true, some false => s.setPair { s.pair with katCall := false }
    | _, _ => s

/-- A short round called for (R303, R454). -/
def State.katCall (s : State) : State :=
  if s.pair.katCall then s
  else (s.setFlt { s.flt with shortOn := true }).setPair { s.pair with katCall := true, ownKat := none, peerKat := none }

/-- KAT_ROUND_DONE: a round's signatures compared (R453, R455, R458). -/
def State.katDone (s : State) (failed : Nat) : State :=
  if ¬ s.flt.katOn ∧ ¬ s.flt.shortOn then s
  else
    let units := s.katUnits
    let short := s.flt.shortOn
    let bad := maskOf (fun u => bitOf units u && (bitOf failed u || (!short && Sparse.get false s.flt.corrupt u))) 17
    let s1 := if short then s.setFlt { s.flt with shortOn := false }
      else (s.setFlt { s.flt with katOn := false, corrupt := [] }).bump F.KAT_ROUNDS
    let s2 := s1.wr F.KAT_STAT (maskOf (fun u => if bitOf units u then bitOf bad u else bitOf (s.rd F.KAT_STAT) u) 17)
    let s3 := s2.setPair { s2.pair with katOk := bad == 0 }
    let s4 := if bad = 0 then s3 else s3.pulse 0x90 1
    if short then
      ((s4.setPair { s4.pair with ownKat := some (bad == 0) }).sendReliable fun _ => .ctrl (.kat (bad == 0))).katSettle
    else s4

/-- KAT_LATE (R453). -/
def State.katLate (s : State) : State := if s.flt.katOn then (s.bump F.KAT_LATE_CNT).pulse 0x90 2 else s

/-! Fault injection (R458, R519): in Factory test only. -/

/-- Whether a target and a source are in range for a mode. -/
def injectable (mode target src : Nat) : Bool :=
  if mode ≤ 3 then (match RegDir.page? target with
    | some r => decide (src < r.classes.length)
    | none => false)
  else if mode ≤ 5 then decide (target < 500)
  else if mode = 6 then decide (target ≤ 16)
  else decide (target ≤ 1)

/-- A flip that waits for the next write to a bank of a cluster's memories (R413, R458). -/
def State.flipCluster (s : State) (bank bits : Nat) : State :=
  let put (c : Fin 16) (k : Nat) : State := { s with clusters := s.clusters.set c { s.clusters[c] with flips := Sparse.set 0 s.clusters[c].flips k bits } }
  if 192 ≤ bank ∧ bank < 320 then put (Fin.ofNat 16 ((bank - 192) / 8)) ((bank - 192) % 8)
  else if 320 ≤ bank ∧ bank < 352 then put (Fin.ofNat 16 ((bank - 320) / 2)) (8 + (bank - 320) % 2)
  else s

/-- A write of FLT_INJ. -/
def State.inject (s : State) (mode target src : Nat) : State :=
  if s.lc ≠ 1 then s
  else if mode = 0 then s.wrAll [(F.FLT_INJ_MODE, 0), (F.FLT_INJ_TARGET, target), (F.FLT_INJ_SOURCE, src)]
  else if ¬ injectable mode target src then s
  else
    let s1 := s.wrAll [(F.FLT_INJ_MODE, if mode = 2 ∨ mode = 3 then mode else 0), (F.FLT_INJ_TARGET, target), (F.FLT_INJ_SOURCE, src)]
    match mode with
    | 1 => if s1.raw target src then s1
      else ((s1.wr (F.FLT_RAW.pg target) (putBit (s1.rd (F.FLT_RAW.pg target)) src true)).edge target src).wr (F.FLT_RAW.pg target)
        (s1.rd (F.FLT_RAW.pg target))
    | 2 => s1.railBroken target src
    | 3 => s1.railBroken target src
    | 4 => (s1.setFlt { s1.flt with flip1 := Sparse.set false s1.flt.flip1 target true }).flipCluster target 1
    | 5 => (s1.setFlt { s1.flt with flip2 := Sparse.set false s1.flt.flip2 target true }).flipCluster target 2
    | 6 => s1.setFlt { s1.flt with corrupt := Sparse.set false s1.flt.corrupt target true }
    | _ => s1.collectorFault

/-- A life-cycle transition ends every injection (R458). -/
def State.injectEnd (s : State) : State :=
  ({ s with clusters := s.clusters.map fun k => { k with flips := [] }, flt := { s.flt with flip1 := [], flip2 := [], corrupt := [] } } : State).setReg
    F.FLT_INJ_MODE.addr 0

end Sys2Proof.Machine
end

