-- ==== Sys2Proof/Machine/Memory.lean ====
section
/-!
DEFINITION. Sensors and rails (R480, R481), SRAM ECC, scrubbing and the march engine (R413 to R416, R422 to R425), DRAM
temperature (R429), the fabric's events (R431 to R435), and the flush of the event log (R493, R494).
-/
namespace Sys2Proof.Machine

/-! Sensors and rails. -/

/-- A temperature source with its 2 °C of hysteresis: temperature in 1/256 °C, threshold in °C (R480). -/
def State.tempSource (s : State) (n : Nat) (t : Int) (lim : Int) : State :=
  s.source 0x99 n (decide (lim * 256 ≤ t) || (s.raw 0x99 n && decide ((lim - 2) * 256 < t)))

/-- The record of the authentication failures of the last second (R492). -/
def State.authRecord (s : State) : State :=
  let n := (s.host.fails.filter fun t => decide (s.ms ≤ t + 1000)).length
  if n = 0 then s else s.record 5 0 0x08 3 ([3#8, 0, 0, 0] ++ leBytes 4 n)

/-- SENSOR_SAMPLE (R480): every millisecond, each sensor in signed Q8.8 °C; the firmware's millisecond (MB_HEARTBEAT). -/
def State.sensorSample (s : State) (temps : Vector (BitVec 16) 8) : State :=
  let s0 := ({ s with ms := s.ms + 1 } : State).bump F.MB_HEARTBEAT
  let s1 := s0.each (List.finRange 8) fun t i => t.wr (F.SN_TEMP.ix i.val) temps[i].toNat
  let hot := (temps.toList.map BitVec.toInt).foldl max (-32768)
  let s2 := s1.wr F.SN_TEMP_MAX (unsigned (max hot (s.rdS F.SN_TEMP_MAX)) 16)
  let s3 := ((s2.tempSource 0 hot (s.rdS F.SN_TLIM_WARN)).tempSource 1 hot (s.rdS F.SN_TLIM_CRIT)).tempSource 2 hot (s.rdS F.SN_TLIM_TRIP)
  if s3.ms % 1000 = 0 then s3.authRecord else s3

/-- Nominal mV of a rail monitor (R481). -/
def railNominal (m : Nat) : Nat := [750, 750, 750, 800, 800, 800, 850, 1200, 500, 1050, 1800, 3300].getD m 0

/-- Whether a reading lies outside a half-window of `k` half per cent. -/
def railOut (m mv k : Nat) : Bool := decide (railNominal m * k < ((mv : Int) - railNominal m).natAbs * 200)

/-- RAIL_MONITOR_READING (R481): a reading in mV, and where it closes one the 1 ms average. -/
def State.railReading (s : State) (m mv : Nat) (avg : Option Nat) : State :=
  let s1 := s.wrAll [(F.SN_RAIL_MV.ix m, mv), (F.SN_RAIL_MIN_MV.ix m, min mv (s.rd (F.SN_RAIL_MIN_MV.ix m))),
    (F.SN_RAIL_STAT_FAULT, putBit (s.rd F.SN_RAIL_STAT_FAULT) m (railOut m mv (s.rd F.SN_RAIL_WIN_FAULT)))]
  let s2 := s1.source 0x99 4 (s1.rd F.SN_RAIL_STAT_FAULT != 0)
  match avg with
  | some a =>
    let s3 := s2.wr F.SN_RAIL_STAT_WARN (putBit (s2.rd F.SN_RAIL_STAT_WARN) m (railOut m a (s.rd F.SN_RAIL_WIN_WARN)))
    s3.source 0x99 3 (s3.rd F.SN_RAIL_STAT_WARN != 0)
  | none => s2

/-! SRAM. -/

/-- An SRAM error outside the clusters (R415): memory (0 node, 1 exchange, 2 port buffers, 3 management, 4 Safelight, 5 secure),
ECC word, whether it is a double-bit error. A double-bit error in Safelight memory voids the run's paths in progress. -/
def State.sramError (s : State) (mem word : Nat) (double : Bool) : State :=
  if ¬ double then (s.bump F.SR_SBE_CNT).pulse 0x88 0
  else
    let s1 := ((s.bump F.SR_DBE_CNT).wrAll [(F.SR_DBE_LAST_MEM, mem), (F.SR_DBE_LAST_WORD, word)]).pulse 0x88
      (if mem = 3 then 2 else if mem = 5 then 3 else 1)
    if mem = 4 then
      { s1 with sl := { s1.sl with run := s1.sl.run.map fun r => { r with zones := r.zones.map fun z => { z with void := s1.micsOf z.zone } } } }
    else s1

/-- SCRUB_PASS_END (R416): a pass over all banks within its period, or not; the errors it met: memory, word, double. -/
def State.scrubEnd (s : State) (complete : Bool) (errors : List (Nat × Nat × Bool)) : State :=
  if ¬ s.on F.SR_SCRUB_EN then s
  else
    let s1 := s.each errors fun t e => t.sramError e.1 e.2.1 e.2.2
    if complete then (s1.bump F.SR_SCRUB_PASS).source 0x88 4 false else s1.source 0x88 4 true

/-- DRAM_TEMP_POLL (R429): MR4 of a channel in service. -/
def State.dramPoll (s : State) (ch : Nat) (hot : Bool) : State :=
  if s.on (F.DR_STAT_UP.pg ch) then (s.wrb (F.DR_STAT_HOT.pg ch) hot).source (0x89 + ch) 3 hot else s

/-! The march engine. -/

/-- DRAM of a plan in bytes (R92, R118). -/
def planDram (p : Plan) : Nat := (p.insts.map instDramBytes).sum

/-- The DRAM that running and pending plans take, from the top of usable space downward (R427). -/
def State.dramTop (s : State) : Nat :=
  max (s.eng.run.elim 0 fun a => planDram a.plan) (s.eng.pend.elim 0 fun a => planDram a.plan)

/-- The bytes a clip takes in the library: its header, then its samples (R113). -/
def Clip.bytes (c : Clip) : Nat := 32 + 4 * c.channels * c.length

/-- Usable MiB of an amount of DRAM in GiB, with or without in-line ECC (R426). -/
def usableMib (raw : Nat) (ecc : Bool) : Nat :=
  if raw = 0 then 0 else if ecc then (1024 * raw - 256) * 8 / 9 / 64 * 64 else 1024 * raw - 256

/-- Usable DRAM in bytes, the fixed 104 MiB, and what the clip library takes (R427). -/
def State.dramUsable (s : State) : Nat := s.rd F.DEV_DRAM_USABLE_MIB * 2 ^ 20
def dramFixed : Nat := 104 * 2 ^ 20
def State.clipBytes (s : State) : Nat := (s.eng.clips.map Clip.bytes).sum

/-- Whether a range of DRAM bytes lies in no allocation (R427); what lies past usable space is the device's (log entry 46). -/
def State.dramFree (s : State) (lo hi : Nat) : Bool :=
  decide (dramFixed + s.clipBytes ≤ lo) && decide (hi + s.dramTop ≤ s.dramUsable)

/-- Whether the block that owns an SRAM bank is admitted (R413, R423). -/
def State.bankAdmitted (s : State) (b : Nat) : Bool :=
  if b < 192 ∨ (352 ≤ b ∧ b < 416) then s.admitted 0x20
  else if b < 320 then s.admitted (0x10 + (b - 192) / 8)
  else if b < 352 then s.admitted (0x10 + (b - 320) / 2)
  else if b < 448 then ((List.range 256).filter fun p => isPortPage p || decide (0x64 ≤ p ∧ p ≤ 0x67)).any s.admitted
  else false

/-- REASON of a march that may not start (R423): 0 = it may. -/
def State.marchReason (s : State) : Nat :=
  let pre := s.on F.MR_CTRL_PRESERVE
  let b := s.rd F.MR_BANK
  if ¬ s.on F.MR_CTRL_TARGET then
    if 500 ≤ b then 3
    else if 496 ≤ b then 2
    else if 480 ≤ b then (if pre ∧ s.sl.run.isNone then 0 else 1)
    else if 448 ≤ b then (if pre then 0 else 1)
    else if s.bankAdmitted b then 1
    else 0
  else
    let a := s.rd F.MR_DRAM_START
    let n := s.rd F.MR_DRAM_LEN
    if n = 0 ∨ 4194304 < n ∨ s.rd F.DEV_DRAM_RAW_GIB * 2 ^ 18 < a + n then 3
    else if pre ∨ s.dramFree (4096 * a) (4096 * (a + n)) then 0
    else 1

/-- MARCH_GO: starts a march on request, or refuses it (R423). -/
def State.marchGo (s : State) : State :=
  if s.on F.MR_CTRL_GO then s
  else
    let r := s.marchReason
    if r ≠ 0 then s.wrAll [(F.MR_STAT_RESULT, 4), (F.MR_STAT_REASON, r)]
    else s.wrAll [(F.MR_CTRL_GO, 1), (F.MR_CTRL_ABORT, 0), (F.MR_STAT_RESULT, 1), (F.MR_STAT_REASON, 0), (F.MR_SEG_DONE, 0),
      (F.MR_HOLD, s.rd F.MR_CTRL_PRESERVE), (F.PAGE_STAT_BUSY.pg 0x8B, 1)]

/-- MARCH_ABORT: the march stops after its present segment. -/
def State.marchAbort (s : State) : State := if s.on F.MR_CTRL_GO then s.wr F.MR_CTRL_ABORT 1 else s

/-- `n` bytes of open values (log entry 3). -/
def State.openBytes (s : State) (n : Nat) : List Byte × State :=
  ((List.range n).map fun i => BitVec.ofNat 8 (Config.freeValue (s.free + i)), { s with free := s.free + n })

/-- What a destructive march leaves in its target (R425): undefined contents, where the model holds the memory. The place of a
bank's bytes in its memory is not given, so the whole memory it belongs to is open (log entry 46). -/
def State.scrambled (s : State) (bank : Nat) : State :=
  if bank < 192 then
    let r := s.openBytes 0x600000
    let q := r.2.openBytes 0x600000
    (q.2.setWin 0 r.1).setWin 0x1000000 q.1
  else if bank < 320 then
    let c := fin16 ((bank - 192) / 8)
    let r := s.openBytes 0x80000
    r.2.setCluster c (r.2.clusters[c].putBytes 0 r.1)
  else if bank < 352 then
    let c := fin16 ((bank - 320) / 2)
    let k := s.clusters[c]
    let pm := (List.range 16384).foldl (fun m i => Sparse.set 0 m i (BitVec.ofNat 64 (Config.freeValue (s.free + i)))) k.pmem
    ({ s with free := s.free + 16384 } : State).setCluster c { k with pmem := pm }
  else s

/-- The march ends with a result. -/
def State.marchEnd (s : State) (result : Nat) : State :=
  let s1 := s.wrAll [(F.MR_CTRL_GO, 0), (F.MR_CTRL_ABORT, 0), (F.MR_HOLD, 0), (F.MR_STAT_RESULT, result), (F.PAGE_STAT_BUSY.pg 0x8B, 0)]
  if s.on F.MR_CTRL_PRESERVE ∨ s.on F.MR_CTRL_TARGET then s1 else s1.scrambled (s.rd F.MR_BANK)

/-- The segments of the march under way: a bank has 16 of 4 KiB, taken whole by a destructive march. -/
def State.marchLength (s : State) : Nat :=
  if s.on F.MR_CTRL_TARGET then s.rd F.MR_DRAM_LEN else if s.on F.MR_CTRL_PRESERVE then 16 else 1

/-- MARCH_SEGMENT_DONE (R424): a segment passes, or fails at an address. -/
def State.marchSegment (s : State) (ok : Bool) (fail : Nat) : State :=
  if ¬ s.on F.MR_CTRL_GO then s
  else if ¬ ok then ((s.wr F.MR_FAIL_ADDR fail).marchEnd 3).pulse 0x8B 0
  else
    let s1 := s.bump F.MR_SEG_DONE
    if s1.rd F.MR_SEG_DONE = s.marchLength then s1.marchEnd 2
    else if s.on F.MR_CTRL_ABORT then s1.marchEnd 5
    else s1

/-! The fabric. -/

/-- The targets a fabric master reaches (R431): 0, 1 DRAM, 2 REG, 3 NODE, 4 EXCH, 5 PBUF, 6 MSRAM, 7 CLB, 8 SLMEM, 9 SECURE, 10 FLASH,
11 PCIE. -/
def fabricPaths (master : Nat) : List Nat :=
  if master = 0 then [2, 3, 7, 6, 0, 1]
  else if master = 1 then List.range 12
  else if master ≤ 5 then [0, 1]
  else if master = 6 then [6]
  else if master ≤ 8 then [5, 4]
  else if master = 9 then [2, 3, 7, 4, 6, 0, 1]
  else if master = 10 then [8, 4, 6, 0, 1]
  else [0, 1]

/-- NO_PATH (R432): an access on a path that does not exist reads 0; recorded and raised. -/
def State.noPath (s : State) (master target : Nat) : State :=
  if (fabricPaths master).contains target then s
  else ((s.bumpSat F.FB_NOPATH_COUNT).wrAll [(F.FB_NOPATH_MASTER, master), (F.FB_NOPATH_TARGET, target)]).pulse 0x8C 1

/-- What the fabric counts (R434): the transactions outstanding, and requests held for ordering (false) or for credit (true). -/
def State.fabricCounts (s : State) (outstanding : Nat) (held : List Bool) : State :=
  s.wrAll [(F.FB_OUTST_NOW, outstanding), (F.FB_OUTST_PEAK, max (s.rd F.FB_OUTST_PEAK) outstanding),
    (F.FB_HELD_ORD, s.rd F.FB_HELD_ORD + held.count false), (F.FB_HELD_CRED, s.rd F.FB_HELD_CRED + held.count true)]

/-- FABRIC_AGE_PROMOTION (R433, R434): a request of a master has waited so many cycles, with what the fabric has counted since the last such
event. -/
def State.fabricAge (s0 : State) (master cycles outstanding : Nat) (held : List Bool) : State :=
  let s := s0.fabricCounts outstanding held
  let s1 := s.wr (F.FB_MAXWAIT.ix master) (max (s.rd (F.FB_MAXWAIT.ix master)) (min 0xFFFF cycles))
  if 8192 ≤ cycles then s1.pulse 0x8C 2 else s1

/-- LOCK_TIMEOUT (R435): the rest of the locked sequence ends with an error response (R439, source 3). -/
def State.lockTimeout (s : State) : State := ((s.bump F.FB_LOCK_TO).pulse 0x8C 0).pulse 0x8C 3

/-! The event log in flash. -/

/-- LOG_FLUSH (R493, R494): the staged records go to flash, where the newest 65,536 are served; a page that fails verification counts
for nothing, and its records stay staged. -/
def State.logFlush (s : State) (ok : Bool) : State :=
  if s.log.staged = [] then s
  else if ¬ ok then (s.bump F.LOG_FLUSH_CNT).pulse 0x9A 1
  else
    let all := (s.log.staged.reverse ++ s.log.stored).take 65536
    (({ s with log := { s.log with staged := [], stored := all } } : State).showLog).bump F.LOG_FLUSH_CNT

end Sys2Proof.Machine
end

