-- ==== Sys2Proof/Machine/Security.lean ====
section
/-!
DEFINITION. Secure memory (R418, R419), the life cycle (R496, R497, R515), keys and tamper (R498 to R500), firmware update (R501 to
R504).
-/
namespace Sys2Proof.Machine

def State.setSec (s : State) (x : SecSt) : State := { s with sec := x }
def State.setFlash (s : State) (x : FlashSt) : State := { s with flash := x }

/-- The keys and fuses as LC_KEYS shows them. -/
def State.showKeys (s : State) : State :=
  s.wrAll [(F.LC_KEYS_KILLED, s.sec.keyKill.toNat), (F.LC_KEYS_DUK, (s.sec.duk != []).toNat),
    (F.LC_KEYS_ROLES, maskOf (fun i => s.sec.keys.getD i [] != []) 3)]

/-- The life-cycle state as the registers show it (R496, R515): the tap, the fields that read 1 in Deployed. -/
def State.showLife (s : State) : State :=
  let st := s.sec.state
  let s1 := s.wrAll [(F.LC_STATE_STATE, st), (F.DEV_STAT_LC, st), (F.LC_TAP, if st ≤ 1 then 0 else if st = 2 then 1 else 2),
    (F.LC_SVN, s.sec.svn)]
  let s2 := if st = 3 then s1.wrAll [(F.SR_SCRUB_EN, 1), (F.HOST_CTRL_AUTH_REQ, 1)] else s1
  s2.showKeys

/-- In Deployed no source of class F3 or F4 stays masked (R32). -/
def State.unmaskFatal (s : State) (p : Nat) : State :=
  if s.deployed then
    s.wr (F.FLT_MASK.pg p) (maskOf (fun n => bitOf (s.rd (F.FLT_MASK.pg p)) n && !(s.classOf p n == 3 || s.classOf p n == 4)) 16)
  else s

/-! Secure memory. -/

/-- ZEROISE (R419): the working keys are gone at once. -/
def State.zeroise (s : State) : State :=
  ((s.setSec { s.sec with keys := [] }).wrAll [(F.SR_SECURE_ZEROISING, 1)]).showKeys

/-- The role keys loaded from the key store into secure memory (R497, R498); after key kill there are none. -/
def State.loadKeys (s : State) : State :=
  if s.sec.keyKill ∨ s.sec.stored = [] then (s.setSec { s.sec with keys := [] }).showKeys
  else ((s.setSec { s.sec with keys := s.sec.stored }).wr F.SR_SECURE_ZERO 0).showKeys

/-! The life cycle. -/

/-- LIFECYCLE_ADVANCE (R52, R497): the target must be the next state, and nothing may be running that it excludes. -/
def State.cmdLifecycle (s : State) (t : Ticket) (arg0 : Nat) (b : List Byte) : CmdRes :=
  let st := s.sec.state
  let zeros (i : Nat) : Bool := ((b.drop (32 * i)).take 32).all (· == 0)
  if b.length ≠ (if st = 1 then 96 else 0) then s.fin St.badLen
  else if arg0 ≠ st + 1 ∨ 4 < arg0 then s.fin St.lcStep
  else if st = 1 ∧ (zeros 0 ∨ zeros 1 ∨ zeros 2) then s.fin St.badArg
  else if s.sec.adv.isSome ∨ s.on F.SCN_STAT_FIX_BUSY ∨ s.sl.storing.isSome ∨ s.upd.isSome then s.fin St.busy
  else (((s.setSec { s.sec with adv := some (t, b) }).wr F.LC_STATE_BUSY 1).zeroise).later

/-- A transition's own work before the fuse (R497, step 2). -/
def State.lifeBefore (s : State) (b : List Byte) : State :=
  match s.sec.state with
  | 0 =>
    if s.sec.duk ≠ [] then s
    else
      let r := s.openBytes 32
      r.2.setSec { r.2.sec with duk := r.1 }
  | 1 => (s.setSec { s.sec with stored := records b 32 0 3 }).setFlash { s.flash with dir0 := true, dir1 := true }
  | 3 =>
    let s1 := s.setPair { s.pair with dark := true, darkSent := false }
    ({ s1 with eng := { s1.eng with halting := true } } : State).showClaim
  | _ => s

/-- The erasure that Decommissioned ends with (R497, step 5): key kill, then the key store, the configuration area, the Safelight store
and the event log. -/
def State.eraseAll (s : State) : State :=
  let s1 := s.setSec { s.sec with keyKill := true, stored := [], keys := [] }
  let s2 := s1.setFlash { s1.flash with safelight := ⟨[], []⟩ }
  let s3 := s2.setScn { s2.scn with slots := [⟨none, []⟩, ⟨none, []⟩], ptrs := [[], []] }
  ({ s3 with log := { s3.log with stored := [] } } : State).showKeys

/-- The fuse and what follows it (R497, steps 3 to 5); injections end (R458). -/
def State.lifeAfter (s : State) (t : Ticket) : State :=
  let old := s.sec.state
  let s1 := ((s.setSec { s.sec with state := old + 1, adv := none }).injectEnd)
  let s2 := if old = 3 then s1.eraseAll else s1.loadKeys
  let s3 := (s2.each allPages State.unmaskFatal).showLife
  (((s3.wr F.LC_STATE_BUSY 0).record 4 0 0x9B 2 [2#8, BitVec.ofNat 8 old, BitVec.ofNat 8 (old + 1)]).pulse 0x9B 2).respond t St.ok 0 0 0

/-- ZEROISE_DONE (R419): all four banks hold zeros; a life-cycle transition goes on (R497). -/
def State.zeroiseDone (s : State) : State :=
  if ¬ s.on F.SR_SECURE_ZEROISING then s
  else
    let s1 := ((s.wrAll [(F.SR_SECURE_ZEROISING, 0), (F.SR_SECURE_ZERO, 1)]).bump F.SR_ZERO_CNT).pulse 0x88 6
    match s1.sec.adv with
    | some (t, b) => (s1.lifeBefore b).lifeAfter t
    | none => s1

/-- TAMPER (R500): cause 1, 2 = the pins, where enabled, 3 = voltage, 4 = temperature. -/
def State.tamper (s : State) (cause : Nat) : State :=
  if cause ≤ 2 ∧ ¬ bitOf (s.rd F.LC_TAMPER_CFG_PIN_EN) (cause - 1) then s
  else
    let s1 := ((s.setSec { s.sec with tampered := true }).wrAll [(F.LC_TAMPER_STAT_TAMPERED, 1), (F.LC_TAMPER_STAT_LAST, cause)]).zeroise
    let s2 := (s1.pulse 0x9B 0).record 5 2 0x9B 0 [1#8, BitVec.ofNat 8 cause]
    if s.on F.LC_TAMPER_CFG_KILL then ((s2.setSec { s2.sec with stored := [] }).showKeys).pulse 0x9B 1 else s2

/-! Firmware update. -/

/-- A firmware slot by number, and put in place. -/
def FlashSt.fw (f : FlashSt) (n : Nat) : FwSlot := if n = 0 then f.a else f.b
def FlashSt.putFw (f : FlashSt) (n : Nat) (x : FwSlot) : FlashSt := if n = 0 then { f with a := x } else { f with b := x }

/-- The slot an update writes: the alternate one, and A in recovery (R490). -/
def State.altSlot (s : State) : Nat := if s.rd F.MB_BOOT_STAGE = 7 then 0 else 1 - s.flash.slot

/-- A header's fields (R501). -/
def hdrType (h : List Byte) : Nat := fieldAt h 6 1
def hdrEnc (h : List Byte) : Bool := bitOf (fieldAt h 7 1) 0
def hdrLength (h : List Byte) : Nat := fieldAt h 16 4

/-- A header of a form that R501 does not give. -/
def hdrBad (h : List Byte) : Bool :=
  fieldAt h 0 4 != 0x4D495747 || fieldAt h 4 2 != 1 || decide (1 < hdrType h) || decide (1 < fieldAt h 7 1) ||
    (hdrType h == 1 && !hdrEnc h) || ((h.drop 96).take 64).any (· != 0)

/-- SIG of a header (R501), with the sending role's key. -/
def State.hdrSigned (s : State) (role : Nat) (h : List Byte) : Bool :=
  let m := h.take 160
  if hdrType h = 0 then Config.ecdsaOk s.sec.rootHash (Config.sha384 m) (h.drop 160)
  else
    let k := s.sec.keys.getD (role - 1) []
    k != [] && (h.drop 160) == Config.hmacSha256 k m ++ List.replicate 64 0

/-- The version a firmware slot shows (MB_SLOT_A, MB_SLOT_B). -/
def State.showSlots (s : State) : State :=
  let v (x : FwSlot) : Nat := if x.valid then x.version else 0
  s.wrAll [(F.MB_SLOT_A, v s.flash.a), (F.MB_SLOT_B, v s.flash.b)]

/-- A firmware slot marked invalid. -/
def State.spoilSlot (s : State) (n : Nat) : State :=
  (s.setFlash (s.flash.putFw n { s.flash.fw n with valid := false })).showSlots

/-- The update under way abandoned (R502, R504). -/
def State.abandonUpdate (s : State) : State :=
  match s.upd with
  | some _ => ({ s with upd := none } : State).pulse 0x98 3
  | none => s

/-- UPDATE_BEGIN (R502). -/
def State.cmdUpdBegin (s : State) (role : Nat) (h : List Byte) : CmdRes :=
  if h.length ≠ 256 then s.fin St.badLen
  else if hdrBad h then s.fin St.badArg
  else if ¬ s.hdrSigned role h then s.finWith St.updSig 1 0 0
  else if fieldAt h 12 2 < s.sec.svn then s.finWith St.updSig 2 0 0
  else if (hdrType h = 0 ∧ s.flash.slotSize - 256 < hdrLength h) ∨ (hdrType h = 1 ∧ hdrLength h ≠ 100) then s.fin St.updSize
  else
    let s1 := s.abandonUpdate
    let s2 := { s1 with upd := some ⟨h, role, 0, [], 0, false⟩ }
    let s3 := if hdrType h = 0 then s2.spoilSlot s.altSlot else s2
    (s3.wrAll [(F.MB_UPD_STATE, 1), (F.MB_UPD_CHUNKS, 0)]).fin St.ok

/-- UPDATE_CHUNK (R502). -/
def State.cmdUpdChunk (s : State) (n : Nat) (b : List Byte) : CmdRes :=
  match s.upd with
  | none => s.fin St.updSeq
  | some u =>
    let left := hdrLength u.hdr - 4096 * n
    if n + 1 = u.chunks then s.fin St.ok
    else if n ≠ u.chunks then s.fin St.updSeq
    else if left < b.length then s.fin St.updSize
    else if b.length ≠ min 4096 left then s.fin St.badLen
    else (({ s with upd := some { u with chunks := n + 1, data := u.data ++ b } } : State).wr F.MB_UPD_CHUNKS (n + 1)).fin St.ok

/-- UPDATE_PROGRAM_DONE (R502): what was staged is programmed and read back; `ok` = without a failed verification. -/
def State.updProgram (s : State) (ok : Bool) : State :=
  match s.upd with
  | none => s
  | some u =>
    let s1 : State := { s with upd := some { u with programmed := u.chunks, bad := u.bad || !ok } }
    if ok then s1 else s1.pulse 0x98 2

/-- The payload of an image once its tag is checked (R498, R499, R501). -/
def State.openImage (s : State) (u : Update) : Option (List Byte) :=
  if hdrEnc u.hdr then
    let k := if hdrType u.hdr = 0 then s.sec.imageKey else Config.hkdf (s.sec.keys.getD (u.role - 1) []) []
    Config.gcmOpen k ((u.hdr.drop 20).take 12) ((u.hdr.drop 32).take 16) u.data
  else some u.data

/-- Role keys of a key package (R499): those its MASK names. -/
def newKeys (old : List (List Byte)) (p : List Byte) : List (List Byte) :=
  (List.range 3).map fun i => if bitOf (fieldAt p 0 4) i then (p.drop (4 + 32 * i)).take 32 else old.getD i []

/-- UPDATE_COMMIT (R499, R502, R503). -/
def State.cmdUpdCommit (s : State) : CmdRes :=
  match s.upd with
  | none => s.fin St.updSeq
  | some u =>
    if u.chunks * 4096 < hdrLength u.hdr then s.fin St.updSeq
    else if u.programmed < u.chunks then s.fin St.busy
    else if u.bad ∨ Config.sha384 u.data ≠ (u.hdr.drop 48).take 48 then s.finWith St.updSig 3 0 0
    else match s.openImage u with
      | none => s.finWith St.updSig 4 0 0
      | some p =>
        if hdrType u.hdr = 0 then
          let n := s.altSlot
          let f := s.flash.putFw n ⟨fieldAt u.hdr 8 4, fieldAt u.hdr 12 2, fieldAt u.hdr 14 2, true⟩
          let s1 := (({ s with upd := none } : State).setFlash { f with slot := n, trial := true, attempted := false }).showSlots
          ((s1.wr F.MB_UPD_STATE 2).record 4 0 0x98 0 ([3#8, 2#8, 0, 0] ++ leBytes 4 (fieldAt u.hdr 8 4))).fin St.ok
        else if bitOf (fieldAt p 0 4) 2 ∧ u.role ≠ 3 then s.fin St.role
        else
          let mask := fieldAt p 0 4 % 8
          let s1 := ({ s with upd := none } : State).setSec { s.sec with stored := newKeys s.sec.stored p }
          ((s1.loadKeys.wr F.MB_UPD_STATE 0).record 5 0 0x9B 0 [2#8, BitVec.ofNat 8 mask]).fin St.ok

/-- FIRMWARE_CONFIRM (R503): a trial slot confirms once the engine runs. -/
def State.fwConfirm (s : State) : State :=
  if s.on F.MB_BOOT_TRIAL ∧ s.on F.TICK_STAT_RUNNING then
    let s1 := s.setFlash { s.flash with trial := false, attempted := false }
    let s2 := s1.setSec { s1.sec with svn := max s1.sec.svn (s1.flash.fw s1.flash.slot).svn }
    s2.wrAll [(F.MB_BOOT_TRIAL, 0), (F.MB_UPD_STATE, 4), (F.LC_SVN, s2.sec.svn)]
  else s

end Sys2Proof.Machine
end

