-- ==== Sys2Proof/Machine/Boot.lean ====
section
/-!
DEFINITION. Resets (R35, R48, R183, R394, R425, R482, R483, R516, R517), start-up from cold and warm (R181, R422, R426 to R430, R485,
R487 to R490, R494, R503, R504), and loss of power (R184, R459, R460).
-/
namespace Sys2Proof.Machine

/-! What a reset leaves of the registers (R516). -/

/-- Whether an address belongs to the HOST pages, and whether it is of class AUTH there. -/
def isHostPage (a : Nat) : Bool := decide (0x08000 ≤ a ∧ a < 0x0C000)
def isAuthReg (a : Nat) : Bool := a == 0x08040 || decide (0x08058 ≤ a ∧ a ≤ 0x08068) || a == 0x09040 || a == 0x09044

/-- Registers kept where the predicate says so, with the bits of a mask; the others at their reset values. -/
def State.resetRegs (s : State) (keep : Nat → Word) : State :=
  s.each (s.regs.map (·.1)) fun t a => t.setReg a ((s.reg a &&& keep a) ||| (RegDir.reset a &&& ~~~(keep a)))

/-- A ticket whose response is discarded (R35). -/
def Ticket.dead (t : Ticket) : Ticket := { t with ring := 256 }

/-- The responses of the commands under way are discarded (R35). -/
def State.discardTickets (s : State) : State :=
  { s with
    scn := { s.scn with arming := s.scn.arming.map fun d => { d with ticket := d.ticket.map Ticket.dead },
                        fixTicket := s.scn.fixTicket.map Ticket.dead },
    pair := { s.pair with join := s.pair.join.map Ticket.dead, yieldTicket := s.pair.yieldTicket.map Ticket.dead,
                          acks := s.pair.acks.map fun x => (x.1, x.2.dead) },
    sl := { s.sl with storing := s.sl.storing.map Ticket.dead },
    sec := { s.sec with adv := s.sec.adv.map fun x => (x.1.dead, x.2) } }

/-- The rings and the HOST registers reset (R35, R516), with the AUTH class or without. -/
def State.hostReset (s : State) (auth : Bool) : State :=
  let s1 := (s.discardTickets).resetRegs fun a => if isHostPage a && (auth || !isAuthReg a) then 0 else 0xFFFFFFFF
  let wait := if auth then none else s.host.clipWait.map fun x => (x.1.dead, x.2)
  let s2 := { s1 with host := { HostSt.rest with fails := if auth then [] else s.host.fails, spi := s.host.spi, clipWait := wait,
                                                 sheets := if auth then [] else s.host.sheets },
                      snaps := s1.snaps.filter fun x => x.1 != 0x08 }
  s2.each [0x08, 0x09, 0x0A, 0x0B] fun t p => t.wr (F.PAGE_STAT_READY.pg p) 1

/-- PCIE_LINK_RESET (R35): kind 0 = link-down, 1 = hot reset, 2 = FLR, 3 = D3hot. -/
def State.pcieReset (s : State) (kind : Nat) : State :=
  let link (t : State) : State := t.wrAll [(F.HOST_STAT_WIDTH, 0), (F.HOST_STAT_SPEED, 0), (F.HOST_STAT_LINK_UP, 0)]
  let s1 := if s.on F.HOST_CTRL_RING_OWNER then link s else s.hostReset false
  if kind = 0 then s1.pcieDown else s1

/-- A new boot for the authentication (R48): a nonce from the TRNG. -/
def State.newNonce (s : State) : State := let r := s.open_; r.2.wr F.AUTH_NONCE r.1

/-! Resets. -/

/-- An update that a reset cuts short (R504): MB_UPD.STATE = 5. -/
def State.updCut (s : State) (was : Option Update) : State := match was with
  | some u => let t := { s with upd := none }
              (if hdrType u.hdr = 0 then t.spoilSlot t.altSlot else t).wr F.MB_UPD_STATE 5
  | none => s

/-- A FIX that a reset cuts short (R177, R183): in phases 1 to 5 the alternate slot is invalid; in phase 6 the pointer record is torn, and does
not exist. -/
def State.fixCut (s : State) (phase : Nat) : State :=
  let alt := 1 - s.scn.slot
  if 1 ≤ phase ∧ phase ≤ 5 then s.setSlot alt ⟨none, []⟩
  else if phase = 6 then s.setScn { s.scn with ptrs := s.scn.ptrs.set alt [] }
  else s

/-- A cold reset (R482, R516): everything but flash and fuses is lost. -/
def State.coldReset (s : State) (cause : Nat) : State :=
  let cut := if s.on F.MR_CTRL_GO ∧ s.on F.MR_CTRL_PRESERVE then some (s.rd F.MR_DRAM_START + s.rd F.MR_SEG_DONE) else s.flash.marchSeg
  let s1 : State := { State.reset with
    pending := s.pending, rdata := s.rdata, out := s.out, free := s.free,
    log := ⟨[], s.log.stored, s.log.next, 0⟩,
    sec := { s.sec with keys := [], tampered := false, adv := none },
    flash := { s.flash with marchSeg := cut },
    scn := { SceneSt.rest with slots := s.scn.slots, slot := s.scn.slot, ptrSeq := s.scn.ptrSeq, ptrs := s.scn.ptrs } }
  ((s1.fixCut (s.rd F.FIX_STAT_PHASE)).updCut s.upd).wr F.MB_RESET_CAUSE cause

/-- Running transitions of an instance take their targets (R183). -/
def Inst.settled (i : Inst) : Inst :=
  { i with now := match i.waiting with
             | some w => w.next
             | none => i.target, ramps := [], fade := none, chained := none, env := none, waiting := none, glide := none, placed := false,
           dissolving := false, ovr := 0, stopped := false, fadeIn := 0 }

/-- The engine as a warm reset leaves it (R122, R183): the plan and its objects' state, no frame, no transition, no recording. -/
def EngSt.settled (e : EngSt) : EngSt :=
  { EngSt.rest with run := e.run, proc := e.proc, insts := e.insts.map Inst.settled, clips := e.clips, players := e.players }

/-- A warm reset (R183, R482, R516, R517): SRAM, DRAM and the configuration registers are kept; an armed Develop is cancelled, a plan
whose tick has come is in effect. -/
def State.warmReset (s : State) (cause : Nat) : State :=
  let s0 := match s.eng.restart with
    | some x => (s.startPlan x).takeOver
    | none => s.takeOver
  let s1 := match s0.scn.armed with
    | some d => s0.cancelArmed d
    | none => s0.releaseHeld
  let s2 := (s1.setScn { s1.scn with arming := none, fix := none, fixTicket := none, peerFix := none, ownFix := none }).fixCut
    (s.rd F.FIX_STAT_PHASE)
  let s3 := s2.resetRegs fun a => if isHostPage a then 0 else cfgMask a
  let host : HostSt := { HostSt.rest with spi := s.host.spi }
  let s4 : State := { s3 with
    caps := [], areas := [], host := host, flt := .rest, sec := { s3.sec with adv := none },
    clusters := s3.clusters.map (fun c => { c with run := none, loads := [], loops := [], sticky := 0, issued := 0 }),
    eng := s3.eng.settled, pair := .rest, ports := .rest, net := .rest, clk := .rest, en := .rest,
    sl := { SlSt.rest with refs := s3.sl.refs, nextId := s3.sl.nextId, shapes := s3.sl.shapes } }
  let s5 := (s4.updCut s.upd).wr64 F.TICK_NUM_LO F.TICK_NUM_HI s.tick
  ((s5.wrAll [(F.MB_RESET_CAUSE, cause), (F.LC_TAMPER_STAT_TAMPERED, s.sec.tampered.toNat),
    (F.LC_TAMPER_STAT_LAST, s.rd F.LC_TAMPER_STAT_LAST), (F.DR_STAT_SELF_REFRESH, 1), (F.DR_STAT_SELF_REFRESH.pg 1, 1)]).showLog).showDirty

/-! Start-up. -/

/-- Values sensed at every reset (R516), and every page out of reset (R26, R394). -/
def State.sensed (s : State) (e : BootEnv) : State :=
  let f := s.flash
  let s1 := s.wrAll [(F.PAIR_STAT_SIDE, e.side.toNat), (F.DEV_SERIAL_LO, s.sec.serial), (F.DEV_SERIAL_HI, s.sec.serial / 2 ^ 32),
    (F.FIX_AREA_BASE, f.cfgBase), (F.FIX_AREA_SIZE, f.cfgSize), (F.LOG_AREA_BASE, f.logBase), (F.LOG_AREA_SIZE, f.logSize),
    (F.JRNL_SIZE, journalBytes f.cfgSize), (F.CG_STAT_LOCK, 7)]
  let s2 := s1.each (indexed (records s.sec.rootHash 4 0 12)) fun t x => t.wr (F.LC_ROOT_HASH.ix x.1) (leNat x.2)
  ((s2.each allPages fun t p => t.wr (F.PAGE_STAT_READY.pg p) 1).setClk { s2.clk with shown := true }).showLife

/-- The start-up march (R422, R425): remapped rows, a bank beyond repair, a segment that a cold reset cut short. -/
def State.bootMarch (s : State) (e : BootEnv) : State :=
  let rows := e.remap.length
  let s1 := s.wrAll [(F.MR_BOOT_TIME_US, e.marchUs), (F.MR_BOOT_ROWS, rows), (F.SR_REMAP_ROWS, rows),
    (F.SR_REMAP_BANKS, ((e.remap.map (·.1)).eraseDups).length)]
  let s2 := s1.each e.remap fun t r => (t.pulse 0x8B 2).record 4 0 0x8B 2 ([6#8, 0, 0, 0] ++ leBytes 2 r.1 ++ leBytes 2 r.2)
  let s3 := if e.bankFail then s2.source 0x8B 1 true else s2
  match s3.flash.marchSeg with
  | some g => ((s3.setFlash { s3.flash with marchSeg := none }).pulse 0x8B 3).record 4 1 0x8B 3 ([7#8, 0, 0, 0] ++ leBytes 4 g)
  | none => s3

/-- MBOX as the boot of a firmware slot shows it (R487, R503). -/
def State.showBoot (s : State) (fallback : Bool) : State :=
  let f := s.flash
  let x := f.fw f.slot
  (s.wrAll [(F.MB_FW_VER, x.version), (F.MB_FW_INFO_PAIR_COMPAT, x.compat), (F.MB_FW_INFO_SVN, x.svn), (F.MB_BOOT_SLOT, f.slot),
    (F.MB_BOOT_TRIAL, f.trial.toNat), (F.MB_BOOT_FALLBACK, fallback.toNat), (F.MB_BOOT_OTHER_VALID, (f.fw (1 - f.slot)).valid.toNat),
    (F.MB_UPD_STATE, if f.trial then 3 else if fallback then 5 else s.rd F.MB_UPD_STATE)]).showSlots

/-- The old slot back in force, the new one invalid (R503). -/
def State.fallBack (s : State) : State :=
  let n := s.flash.slot
  (s.setFlash { s.flash with slot := 1 - n, trial := false, attempted := false }).spoilSlot n

/-- The firmware slot is read and checked (R487 stage 2, R490, R503); none in recovery. A trial that has failed makes this the trial fallback's
reset. -/
def State.bootFirmware (s : State) : Option State :=
  let f := s.flash
  let failed := f.trial && f.attempted
  let s1 := if failed ∨ ¬ (f.fw f.slot).valid then s.fallBack else s
  let fell := failed || !(f.fw f.slot).valid
  if (s1.flash.fw s1.flash.slot).valid then
    let s2 := if s1.flash.trial then s1.setFlash { s1.flash with attempted := true } else s1
    let s3 := if failed then s2.wr F.MB_RESET_CAUSE 6 else s2
    some (if fell then (s3.showBoot true).pulse 0x98 0 else s3.showBoot false)
  else none

/-- EN set by the firmware on a list of pages (R30). -/
def State.enablePages (s : State) (l : List Nat) : State := s.each l fun t p => t.wr (F.PAGE_CTRL_EN.pg p) 1

/-- Management ready (R487 stage 3): keys, HOST, MACM. -/
def State.bootHost (s : State) (e : BootEnv) : State :=
  let s1 := if s.sec.state = 4 then s.eraseAll else s
  let s2 := if s1.sec.stored = [] ∨ s1.sec.keyKill then s1.loadKeys
    else if e.keysOk then s1.loadKeys
    else ((s1.setSec { s1.sec with keys := [] }).showKeys).pulse 0x9B 1
  ((s2.newNonce).enablePages [0x62]).wrAll [(F.DEV_STAT_MGMT_READY, 1), (F.MB_BOOT_STAGE, 3), (F.MB_TIMES_MGMT_MS, e.mgmtMs)]

/-- DRAM training (R426 to R430). -/
def State.bootDram (s : State) (e : BootEnv) : State :=
  let chan (t : State) (k gib : Nat) (ranks ok : Bool) : State :=
    (t.wrAll [(F.DR_CFG_RATE.pg k, s.flash.dramRate), (F.DR_CFG_GIB.pg k, gib), (F.DR_CFG_RANKS.pg k, ranks.toNat),
      (F.DR_CFG_ECC_EN.pg k, s.flash.dramEcc.toNat), (F.DR_CFG_TRAINED.pg k, ok.toNat), (F.DR_STAT_UP.pg k, ok.toNat), (F.DR_STAT_SELF_REFRESH.pg k, 0)]).source (0x89 + k) 2 !ok
  let s0 := s.enablePages [0x89, 0x8A]
  let s1 := chan (chan s0 0 e.gib.1 e.ranks.1 e.trained.1) 1 e.gib.2 e.ranks.2 e.trained.2
  let raw := (if e.trained.1 then e.gib.1 else 0) + (if e.trained.2 then e.gib.2 else 0)
  (s1.enablePages ((List.range 8).map (0x78 + ·))).wrAll [(F.DEV_DRAM_RAW_GIB, raw), (F.DEV_DRAM_USABLE_MIB, usableMib raw s.flash.dramEcc),
    (F.MB_BOOT_STAGE, 5)]

/-- A Develop that changes nothing. -/
def noDevelop : Develop :=
  { seq := 0, tick := 0, lr := 0, ld := 0, classes := 0, lines := [], regs := [], withPlan := false, ls := false, armed := false,
    ticket := none, pages := 0, confirmed := false }

/-- A configuration image taken into the device (R174, R176): both banks, RWS values, store, cap, clips. -/
def State.loadImage (s : State) (c : ConfigImage) : State :=
  let s1 := s.each c.bank fun t x => (t.setWin x.1 [x.2]).setWin (0x1000000 + x.1) [x.2]
  let s2 := s1.each c.store fun t x => t.setWin x.1 [x.2]
  let s3 := (s2.putRegs c.regs).wr F.EN_CAP c.cap
  { s3 with eng := { s3.eng with clips := c.clips } }

/-- A journal under replay (R181): the device so far, its plan, the records replayed, and the Develop records met, newest first. -/
structure Replay where
  st : State
  plan : Option Admitted
  n : Nat
  devs : List (Nat × Develop × Option Admitted)

/-- One journal record replayed (R181): Develops at their commit marks, presets, store writes, power caps. -/
def Replay.take (p : Replay) (r : JrnlRec) : Replay :=
  let s := p.st
  match r.body with
  | .develop d plan => { p with devs := (r.seq, d, plan) :: p.devs }
  | .mark =>
    match p.devs.find? fun x => x.1 == r.seq with
    | some (_, d, plan) =>
      { p with st := ((s.putLines d.lines).putRegs d.regs).setScn { s.scn with seq := max s.scn.seq d.seq }, plan := plan.orElse fun _ => p.plan,
               n := p.n + 1 }
    | none => p
  | .preset n =>
    { p with st := s.each ((s.presetNodes n).filter fun x => isNode x.1) fun t x => (t.setWord x.1 x.2).setWord (0x1000000 + x.1) x.2, n := p.n + 1 }
  | .store l => { p with st := s.each l fun t x => t.setWin (64 * x.1) x.2, n := p.n + 1 }
  | .cap mw => { p with st := s.wr F.EN_CAP mw, n := p.n + 1 }
  | .void | .seal => p

/-- The configuration comes from the flash (R177, R181): the slot of the pointer record in force, else the other; a sealed journal is
replayed. -/
def State.bootConfig (s : State) (e : BootEnv) : State :=
  let good (n : Nat) : Bool := (if n = 0 then e.sha.1 else e.sha.2) && (s.scn.slots.getD n ⟨none, []⟩).image.isSome
  let ptr := pointerInForce s.scn.ptrs
  let cur := (ptr.map (·.2)).getD 0
  let n? : Option Nat := if ptr.isNone then none else if good cur then some cur else if good (1 - cur) then some (1 - cur) else none
  let s0 := if n? = some cur then s else s.pulse 0x24 4
  match n? with
  | none => (s0.wr F.BOOT_SRC_SRC 2).showSlot
  | some n =>
    let x := s.scn.slots.getD n ⟨none, []⟩
    match x.image with
    | none => s0
    | some c =>
      let s1 := (((s0.setScn { s0.scn with slot := n, ptrSeq := (ptr.map (·.1)).getD 0 }).loadImage c).wr F.BOOT_SRC_SRC (if n = cur then 0 else 1)).showSlot
      let sealed_ := (x.journal.getLast?.map (·.body)) == some .seal
      let r := (if sealed_ then x.journal else []).foldl Replay.take ⟨s1, c.plan, 0, []⟩
      let s2 := r.st.wrAll [(F.BOOT_SRC_SEALED, sealed_.toNat), (F.BOOT_SRC_REPLAYED, min 65535 r.n), (F.SCN_STAT_DEV_SEQ, r.st.scn.seq)]
      match r.plan with
      | none => s2.showEff
      | some a =>
        let s3 := s2.planIn a
        { s3 with eng := { s3.eng with incoming := some ⟨a, none, noDevelop, 0, true⟩ } }

/-- Pages that the firmware enables at stage 6 (R30). -/
def stage6 : List Nat :=
  [0x02, 0x03] ++ (List.range 16).map (0x10 + ·) ++ [0x20, 0x24, 0x28, 0x60, 0x61, 0x64, 0x68, 0x69, 0x6A, 0x6B, 0x6C, 0x70, 0x8B, 0x80, 0x81, 0x83]

/-- The role a unit starts with (R296): with AUTO it waits for its partner under ROLE 01 and EPOCH 0. -/
def State.bootRole (s : State) : State :=
  if s.on F.PAIR_CFG_AUTO then
    ((s.setPair { s.pair with role := .sync, epoch := 0, waiting := true, joining := true, pairId := s.rd F.PAIR_CFG_PAIR_ID }).pairTo 1).showClaim
  else s.showClaim

/-- The engine runs (R487 stage 6), and the boot is logged (R492). -/
def State.bootDone (s : State) (e : BootEnv) : State :=
  let up := !e.bankFail && (e.trained.1 || e.trained.2) && s.sec.state != 4
  let s1 := if up then s.wr F.DEV_STAT_ENGINE 1 else s
  let s2 := ((s1.wrAll [(F.MB_BOOT_STAGE, 6), (F.MB_TIMES_ENGINE_MS, e.engineMs)]).bootRole).wr F.DEV_STAT_ROLE s1.pair.role.code
  s2.record 4 0 0xFF 0 ([1#8, BitVec.ofNat 8 (s.rd F.MB_RESET_CAUSE), BitVec.ofNat 8 s.flash.slot, BitVec.ofNat 8 (s.rd F.BOOT_SRC_SRC)] ++
    leBytes 2 e.mgmtMs ++ leBytes 2 e.engineMs)

/-- The log numbers on (R494). -/
def State.bootLog (s : State) : State :=
  let next := match s.log.stored.head? with
    | some r => if s.flash.sealed then r.seq + 1 else r.seq + 65
    | none => 1
  (({ s with log := { s.log with next := next } } : State).wr F.LOG_STAT_SEALED s.flash.sealed.toNat).setFlash { s.flash with sealed := false } |>.showLog

/-- Recovery (R490): the ROM takes updates on ring 0, or, with no valid directory, nothing. -/
def State.recovery (s : State) : State := ((s.loadKeys).newNonce).wr F.MB_BOOT_STAGE 7

/-- The Safelight store read back in the background (R268, R487). -/
def State.bootSafelight (s : State) : State :=
  let s1 := s.each s.flash.safelight.tables fun t x => t.setWin x.1 [x.2]
  { s1 with sl := { s1.sl with refs := s.flash.safelight.refs } }

/-- Start-up from a cold reset (R487). -/
def State.coldStart (s : State) (e : BootEnv) : State :=
  let s1 := (s.sensed e).bootLog
  if ¬ s.flash.dir0 ∧ ¬ s.flash.dir1 then s1.recovery
  else
    let s2 := (if s.flash.dir0 then s1 else s1.pulse 0x98 1).bootMarch e
    match s2.bootFirmware with
    | none => s2.recovery
    | some s3 => (((((s3.bootHost e).bootDram e).enablePages stage6).bootConfig e).bootSafelight).bootDone e

/-- The running plan goes on after a warm reset (R183): its registers and banks as kept, ports and streams started anew, the outputs
faded in over 64 samples. -/
def State.resumePlan (s : State) : State :=
  match s.eng.run with
  | none => s
  | some a =>
    let s1 := ({ s with eng := { s.eng with run := none } } : State).imaged []
    let s2 := s1.planIn a
    { s2 with eng := { s2.eng with level := .rises (s.tick + 2) 64 } }

/-- Start-up from a warm reset (R183, R482, R483, R517): within 40 ms, tick numbers going on. -/
def State.warmStart (s : State) (e : BootEnv) : State :=
  if s.flash.trial ∧ s.flash.attempted then ((s.coldReset 6).coldStart e)
  else match (s.sensed e).bootFirmware with
    | none => (s.sensed e).recovery
    | some s1 =>
      let s2 := (s1.newNonce).wrAll [(F.DEV_STAT_MGMT_READY, 1), (F.MB_TIMES_MGMT_MS, e.mgmtMs)]
      let s3 := ((s2.bootDram e).showSlot).resumePlan
      (s3.wr64 F.TICK_NUM_LO F.TICK_NUM_HI (s.tick + 1)).bootDone e

/-- POR_N_RELEASE, after a cold reset. -/
def State.porRelease (s : State) (e : BootEnv) : State :=
  if s.on F.DEV_STAT_MGMT_READY ∨ s.rd F.MB_BOOT_STAGE ≠ 0 ∨ s.rd F.MB_RESET_CAUSE = 2 ∨ s.rd F.MB_RESET_CAUSE = 3 then s else s.coldStart e

/-- RESET_N_RELEASE, after a warm reset; one that took a VDD_SRAM monitor out of its window is a cold one (R482). -/
def State.resetRelease (s : State) (e : BootEnv) (sramLost : Bool) : State :=
  if s.on F.DEV_STAT_MGMT_READY ∨ ¬ (s.rd F.MB_RESET_CAUSE = 2 ∨ s.rd F.MB_RESET_CAUSE = 3) then s
  else if sramLost then (s.coldReset (s.rd F.MB_RESET_CAUSE)).coldStart e
  else s.warmStart e

/-- A management restart (R479, R483): HOST pages and rings, the firmware copy rechecked; the engine keeps running. Where the firmware is loaded
anew and the ROM finds a trial that was attempted, the device makes a cold reset (R503), out of which POR_N_RELEASE takes it (log entry 35). -/
def State.mgmtRestart (s : State) (copyOk : Bool) : State :=
  let upd := s.upd
  let s1 := (((s.hostReset true).newNonce).showLife).wr F.MB_RESET_CAUSE 7
  let s2 := (s1.setSec { s1.sec with adv := none }).wr F.LC_STATE_BUSY 0
  let s3 := s2.updCut upd
  let s4 := if s.on F.SCN_STAT_FIX_BUSY then (s3.fixCut (s.rd F.FIX_STAT_PHASE)).fixDone false else s3
  if copyOk ∧ s.flash.slot = s.rd F.MB_BOOT_SLOT then s4
  else if s.flash.trial ∧ s.flash.attempted then s4.coldReset 6
  else match s4.bootFirmware with
    | some t => t
    | none => s4.recovery

/-- A write of MB_RESET (R482, R483): ignored in Deployed, and without the key. The device then stays in reset until the release. -/
def State.mbReset (s : State) (key kind : Nat) : State :=
  if s.deployed ∨ key ≠ 0xA5C3 then s
  else if kind = 1 then s.warmReset 3
  else if kind = 2 then s.coldReset 4
  else if kind = 3 then s.mgmtRestart true
  else s

/-- MGMT_WDT (R479): raised, and the management processor restarts. -/
def State.mgmtWdt (s : State) (copyOk : Bool) : State :=
  if s.on F.DEV_STAT_MGMT_READY then (s.pulse 0x90 3).mgmtRestart copyOk else s

/-- TRIAL_BOOT_TIMEOUT (R503): unconfirmed for 10 s; a cold reset onto the old slot. -/
def State.trialTimeout (s : State) (e : BootEnv) : State :=
  if s.on F.MB_BOOT_TRIAL then (s.coldReset 6).coldStart e else s

/-! Loss of power. -/

/-- PFAIL_N_LOW (R184, R459): raised; a pair's active yields at the next tick start; the flash sequence runs to its end. -/
def State.pfailLow (s : State) : State :=
  if s.flt.pfailSeq then s
  else
    let s1 := (s.wr F.PF_STAT_PFAIL 1).source 0x90 5 true
    let s2 := if s1.leads then s1.setPair { s1.pair with yieldDue := some 2 } else s1
    let s3 := if s2.rd F.FIX_STAT_PHASE = 6 then s2.fixPhase true
      else if s2.on F.SCN_STAT_FIX_BUSY then (s2.fixCut (s2.rd F.FIX_STAT_PHASE)).fixDone false
      else s2
    let s4 := match s3.scn.armed with
      | some d => s3.cancelArmed d
      | none => s3
    let s5 := (((s4.setScn { s4.scn with arming := none }).wr F.SCN_STAT_JRNL_BUSY 0).journal 0 .seal).record 4 0 0x90 5 [5#8]
    let s6 := (s5.logFlush true).setFlash { s5.flash with sealed := true }
    (s6.setFlt { s6.flt with pfailSeq := true }).wr F.PF_STAT_STEP 6

/-- PFAIL_RECOVERY_RESTART (R460): a cold restart from flash. -/
def State.pfailRestart (s : State) (e : BootEnv) : State := if s.flt.pfailSeq then (s.coldReset 5).coldStart e else s

end Sys2Proof.Machine
end

