-- ==== Sys2Proof/Machine/BootRows.lean ====
section
/-!
DEFINITION. The meanings of resets, start-up, the life cycle and firmware (spec/18): each is the shared effect of Machine/Security.lean or Boot.lean.
-/
namespace Sys2Proof.Machine

/-- ZEROISE (R419). -/
def execZeroise (s : State) : Host.Outcome State Fault Refusal := .next (s.zeroise)

/-- ZEROISE_DONE (R419). -/
def execZeroiseDone (s : State) : Host.Outcome State Fault Refusal := .next (s.zeroiseDone)

/-- TAMPER (R500). -/
def execTamper (cause : Fin 4) (s : State) : Host.Outcome State Fault Refusal := .next (s.tamper (cause.val + 1))

/-- MB_RESET_WARM (R482). -/
def execMbResetWarm (key : BitVec 16) (env : BootEnv) (s : State) : Host.Outcome State Fault Refusal := .next ((s.mbReset key.toNat 1).resetRelease env false)

/-- MB_RESET_COLD (R482). -/
def execMbResetCold (key : BitVec 16) (env : BootEnv) (s : State) : Host.Outcome State Fault Refusal := .next ((s.mbReset key.toNat 2).porRelease env)

/-- MB_RESET_MGMT (R483). -/
def execMbResetMgmt (key : BitVec 16) (copyOk : Bool) (s : State) : Host.Outcome State Fault Refusal := .next (if s.deployed ∨ key ≠ 0xA5C3 then s else s.mgmtRestart copyOk)

/-- MGMT_WDT (R479). -/
def execMgmtWdt (copyOk : Bool) (s : State) : Host.Outcome State Fault Refusal := .next (s.mgmtWdt copyOk)

/-- POR_N_ASSERT (R482). -/
def execPorNAssert (s : State) : Host.Outcome State Fault Refusal := .next (s.coldReset 1)

/-- POR_N_RELEASE (R487). -/
def execPorNRelease (env : BootEnv) (s : State) : Host.Outcome State Fault Refusal := .next (s.porRelease env)

/-- RESET_N_ASSERT (R482). -/
def execResetNAssert (s : State) : Host.Outcome State Fault Refusal := .next (s.warmReset 2)

/-- RESET_N_RELEASE (R482). -/
def execResetNRelease (env : BootEnv) (sramLost : Bool) (s : State) : Host.Outcome State Fault Refusal := .next (s.resetRelease env sramLost)

/-- FIRMWARE_CONFIRM (R503). -/
def execFirmwareConfirm (s : State) : Host.Outcome State Fault Refusal := .next (s.fwConfirm)

/-- TRIAL_BOOT_TIMEOUT (R503). -/
def execTrialBootTimeout (env : BootEnv) (s : State) : Host.Outcome State Fault Refusal := .next (s.trialTimeout env)

/-- UPDATE_PROGRAM_DONE (R502). -/
def execUpdateProgramDone (ok : Bool) (s : State) : Host.Outcome State Fault Refusal := .next (s.updProgram ok)

/-- PFAIL_N_LOW (R459). -/
def execPfailNLow (s : State) : Host.Outcome State Fault Refusal := .next (s.pfailLow)

/-- PFAIL_RECOVERY_RESTART (R460). -/
def execPfailRecoveryRestart (env : BootEnv) (s : State) : Host.Outcome State Fault Refusal := .next (s.pfailRestart env)

end Sys2Proof.Machine
end

