-- ==== Sys2Proof/Machine/ClocksRows.lean ====
section
/-!
DEFINITION. The meanings of the reference selector's and the clocks' events (spec/13): each is the shared effect of Machine/Clocks.lean.
-/
namespace Sys2Proof.Machine

/-- CLOCK_LOSS (R375). -/
def execClockLoss (clock : Fin 6) (unlock : Bool) (s : State) : Host.Outcome State Fault Refusal := .next (s.clockLoss clock unlock)

/-- CLK_FREQ (R375). -/
def execClkFreq (clock : Fin 6) (s : State) : Host.Outcome State Fault Refusal := .next (s.clockFreq clock)

/-- CDC_TIMEOUT (R393). -/
def execCdcTimeout (domain : Fin 21) (s : State) : Host.Outcome State Fault Refusal := .next (s.cdcTimeout domain)

/-- NCO_UPDATE (R374). -/
def execNcoUpdate (loop : Word) (pd : Option Word) (s : State) : Host.Outcome State Fault Refusal := .next (s.ncoUpdate loop pd)

/-- CANDIDATE_MEASUREMENT (R379). -/
def execCandidateMeasurement (slot : Fin 8) (ofs : BitVec 16) (s : State) : Host.Outcome State Fault Refusal := .next (s.candMeasure slot ofs)

/-- CANDIDATE_QUALIFIED (R379). -/
def execCandidateQualified (slot : Fin 8) (s : State) : Host.Outcome State Fault Refusal := .next (s.candQualified slot)

/-- CANDIDATE_UNUSABLE (R379). -/
def execCandidateUnusable (slot : Fin 8) (s : State) : Host.Outcome State Fault Refusal := .next (s.candUnusable slot)

/-- REFERENCE_SWITCH (R380). -/
def execReferenceSwitch (s : State) : Host.Outcome State Fault Refusal := .next (s.refSwitch)

/-- REFERENCE_REVERT (R377). -/
def execReferenceRevert (slot : Fin 8) (s : State) : Host.Outcome State Fault Refusal := .next (s.refRevert slot)

/-- DPLL_SLEW_END (R382). -/
def execDpllSlewEnd (s : State) : Host.Outcome State Fault Refusal := .next (s.slewEnd)

/-- DPLL_LOCK (R383). -/
def execDpllLock (s : State) : Host.Outcome State Fault Refusal := .next (s.dpllLock)

/-- DPLL_LOCK_STEP (R384). -/
def execDpllLockStep (ok : Bool) (s : State) : Host.Outcome State Fault Refusal := .next (s.lockStep ok)

/-- DPLL_PHASE_ALARM (R383). -/
def execDpllPhaseAlarm (s : State) : Host.Outcome State Fault Refusal := .next (s.phaseAlarm)

/-- OUTPUT_REALIGN (R389). -/
def execOutputRealign (output : Fin 3) (ofs : Word) (s : State) : Host.Outcome State Fault Refusal := .next (s.outputRealign output ofs)

end Sys2Proof.Machine
end

