-- ==== Sys2Proof/Machine/Energy.lean ====
section
/-!
DEFINITION. The energy account (R464, R465), the power cap and shedding (R469 to R472), wake groups and gating (R420, R421, R473 to
R476).
-/
namespace Sys2Proof.Machine

def State.setEn (s : State) (x : EnSt) : State := { s with en := x }

/-! The account. -/

/-- Node products of a tick: the crosspoint reads every node of the plan's matrices (R127, R464). -/
def State.nodeProducts (s : State) : Nat :=
  s.rd F.XPT_DIM0_BU * (s.rd F.XPT_DIM0_S + s.rd F.XPT_DIM1) * s.F

/-- The microphones that accumulate: those of the probes that sound (R258, R266). -/
def State.accumulating (s : State) : Nat :=
  if s.sl.shed then 0
  else match s.sl.run with
    | some r => ((r.zones.filter fun z => z.from_.isSome && !z.off).map (·.acc.length)).sum
    | none => 0

/-- DRAM bytes of a tick: by R64 for the instances that run, 16 for each sample of a microphone that accumulates (R266). Shed strips and gated
clusters move none (R471, R475). -/
def State.dramBytes (s : State) : Nat :=
  ((s.eng.insts.filter fun i => s.rd (F.PWR_STATE_CUR.pg (0x10 + i.cluster)) == 0 &&
    Sparse.get OutLevel.full s.eng.shed (65536 * i.info.phase + i.info.group) != .zero).map fun i => RegDir.costDram i.info.typ * s.F).sum +
    16 * s.accumulating * s.F

/-- Energy in Q22.10 µJ (R464): bundles at 0.30 nJ, node products at 0.040 nJ and DRAM bytes at 15 pJ, static mW for F / fs, times K in Q2.14. The
format holds it to its last bit (log entry 5). -/
def energyUj (F fs k bundles products bytes mw : Nat) : Nat :=
  (quot ((((300 * bundles + 40 * products + 15 * bytes) * fs + mw * 10 ^ 9 * F) * k * 1024 : Nat) : Int) ((fs * 2 ^ 14 * 10 ^ 6 : Nat) : Int)).toNat

/-- The energy of the tick that ends (R464), with the share of each cluster, the crosspoint, DRAM and the rest. -/
def State.energyTick (s : State) : State :=
  let k := s.rd F.EN_CAL
  let bundles := (List.range 16).map fun c => s.rd (F.CL_TICK_CYC.pg c)
  let st := s.rd F.EN_STATIC_EXP_MW
  let e := energyUj s.F s.fs k
  let all := e bundles.sum s.nodeProducts s.dramBytes st
  let s1 := s.wrAll [(F.EN_TICK, all), (F.EN_XPT_UJ, e 0 s.nodeProducts 0 0), (F.EN_DRAM_UJ, e 0 0 s.dramBytes 0), (F.EN_OTHER_UJ, e 0 0 0 st)]
  let s2 := s1.each (indexed bundles) fun t x => t.wr (F.EN_CLUSTER_UJ.ix x.1) (e x.2 0 0 0)
  s2.setEn { s2.en with sum := s2.en.sum + all % 2 ^ 32, ticks := s2.en.ticks + 1
                        calSum := s2.en.calSum + energyUj s.F s.fs (2 ^ 14) bundles.sum s.nodeProducts s.dramBytes st
                        calTicks := s2.en.calTicks + 1 }

/-- K after another 100 ms with 96 fraction bits, before its clamp (R465): the measured mW over the modelled, in a one-pole average of 10 s. -/
def calNext (cal : Int) (mw energy ticks fs F : Nat) : Int :=
  cal + oneMinusAlpha 10000000 10 * (((mw * 1024000 * ticks * F : Nat) : Int) * fx / ((energy * fs : Nat) : Int) - cal) / fx

/-- PMBUS_CALIBRATION_READ (R465): what each listed regulator answers, in mW. DEDUCED (log entry 6): the modelled power is that of R464 before K. -/
def State.pmbusRead (s : State) (answers : List (Option Nat)) : State :=
  let listed := (List.range 8).filter fun i => s.on (F.EN_PMB_EN.ix i)
  if s.rd F.EN_CTRL = 0 ∨ listed = [] then
    (s.wrAll [(F.EN_CAL, 0x4000), (F.EN_STAT_CAL_VALID, 0)]).setEn { s.en with cal := fx, calSum := 0, calTicks := 0, miss := [] }
  else
    let s1 := s.each listed fun t i => match answers.getD i none with
      | some mw => (t.wr (F.EN_PMB_MW.ix i) mw).setEn { t.en with miss := Sparse.set 0 t.en.miss i 0 }
      | none => t.setEn { t.en with miss := Sparse.set 0 t.en.miss i (Sparse.get 0 t.en.miss i + 1) }
    let late := listed.any fun i => decide (3 ≤ Sparse.get 0 s1.en.miss i)
    let s2 := s1.source 0x03 2 late
    let whole := listed.all fun i => (answers.getD i none).isSome
    let s3 : State :=
      if whole ∧ s.en.calSum ≠ 0 then
        let k := calNext s.en.cal ((listed.map fun i => s2.rd (F.EN_PMB_MW.ix i)).sum) s.en.calSum s.en.calTicks s.fs s.F
        let c := max (fx / 2) (min (2 * fx) k)
        ((s2.wrAll [(F.EN_CAL, (quot (c * 2 ^ 14) fx).toNat), (F.EN_STAT_CAL_VALID, 1)]).source 0x03 3 (decide (k ≠ c))).setEn { s2.en with cal := c }
      else s2
    s3.setEn { s3.en with calSum := 0, calTicks := 0 }

/-! Shedding. -/

/-- The class of a strip: the highest of its instances (R470). -/
def State.stripClass (s : State) (ph g : Nat) : Nat :=
  ((s.eng.insts.filter fun i => i.info.phase == ph && i.info.group == g).map fun i => i.info.cls).foldl max 0

/-- Whether a level sheds a strip (R471): Background at 1, Programme as well at 2. -/
def State.shedAt (s : State) (level ph g : Nat) : Bool := decide (s.stripClass ph g < level)

/-- A step armed for D + 4, towards the standby too (R471, R472). -/
def State.shedStep (s : State) (level : Nat) : State :=
  let t := s.tick + 4
  let s1 := s.setEn { s.en with pending := some (level, t, true), below := 0 }
  (if 0 < level then s1.source 0x03 1 true else s1).armChange (.shed level t)

/-- EN_CAP of no cap (R469). -/
def noCap : Nat := 0xFFFFFF

/-- ENERGY_WINDOW_END (R471, R472). -/
def State.windowEnd (s : State) : State :=
  if s.en.ticks = 0 then s
  else
    let avg := (quot (s.en.sum * s.fs) (1024000 * s.en.ticks * s.F)).toNat
    let cap := s.rd F.EN_CAP
    let above := decide (cap ≠ noCap ∧ cap < avg)
    let full := decide (s.en.since ≤ s.en.from_)
    let s1 := (s.wrAll [(F.EN_AVG_MW, avg), (F.EN_PEAK_MW, max (s.rd F.EN_PEAK_MW) (avg % 2 ^ 24))]).wrb F.EN_STAT_OVER above
    let calm := decide (100 * avg < cap * (100 - s.rd F.EN_SHED_HYST_PCT))
    let s2 := s1.setEn { s1.en with sum := 0, ticks := 0, from_ := s.tick,
                                    below := if calm then s.en.below + 10 * s.rd F.EN_SHED_WIN else 0 }
    let level := s.rd F.EN_STAT_SHED_LEVEL
    if ¬ s.on F.EN_STAT_MODE then s2.source 0x03 0 above
    else if s.isStandby ∨ s.en.pending.isSome then s2
    else if above then
      (if level = 0 then s2.shedStep 1
       else if level = 1 then (if full then s2.shedStep 2 else s2)
       else s2.source 0x03 0 true)
    else
      let s3 := s2.source 0x03 0 false
      if level ≠ 0 ∧ 1000 * s.rd F.EN_SHED_RESTORE_S ≤ s3.en.below then s3.shedStep (level - 1) else s3

/-- SHED_COMMIT at D + 4; on the standby only where the confirm has come (R304, R471, R472). -/
def State.shedCommit (s : State) : State :=
  match s.en.pending with
  | none => s
  | some (level, t, confirmed) =>
    if t ≠ s.tick then s
    else
      let s1 := s.setEn { s.en with pending := none }
      if s.isStandby ∧ ¬ confirmed then s1
      else
        let s2 := (((s1.wr F.EN_STAT_SHED_LEVEL level).wr F.SL_STAT_SHED (decide (0 < level)).toNat).bump F.EN_SHED_CNT).source 0x03 1 (decide (0 < level))
        ({ s2 with sl := { s2.sl with shed := decide (0 < level) } } : State).setEn { s2.en with since := t, take := some level }

/-- An instance of a strip starts from rest (R471). -/
def State.restInst (s : State) (h : Nat) : State :=
  match s.eng.insts[h]?, s.eng.proc with
  | some i, some a => (s.setInst h (Inst.fresh i.info i.cluster (s.paramsAt 0 h (a.coef.getD h (0, 0))) s.fs)).kernelRest h
  | _, _ => s

/-- The strips take the level of a step with the first frame after it: shed ones ramp out, restored ones start from rest and fade
in, over 64 samples (R471). -/
def State.takeShed (s : State) : State :=
  match s.en.take, s.eng.proc with
  | some level, some a =>
    let s0 := s.setEn { s.en with take := none }
    s0.each (stripsOf a.plan) fun t x =>
      let key := 65536 * x.1 + x.2
      let now := Sparse.get OutLevel.full t.eng.shed key
      let off := t.shedAt level x.1 x.2
      let lv : OutLevel := if off then (match now with
          | .zero => .zero
          | .falling j n => .falling j n
          | _ => .falling 0 64)
        else (match now with
          | .zero => .rising 0 64
          | .falling _ _ => .rising 0 64
          | l => l)
      let t1 : State := { t with eng := { t.eng with shed := Sparse.set OutLevel.full t.eng.shed key lv } }
      if off ∨ now = .full then t1
      else t1.each ((stripOf a.plan.insts x.1 x.2).map (·.1)) State.restInst
  | _, _ => s.setEn { s.en with take := none }

/-! Wake groups and gating. -/

/-- The tolerance of a wake group in µs: 0 where it holds a Life-safety instance (R473). -/
def State.groupTol (s : State) (g : Nat) : Nat :=
  if s.eng.insts.any fun i => i.info.wake == g && i.info.cls == 3 then 0 else s.rd (F.EN_WAKE_TOL.ix g)

/-- L of a wake group in samples (R473). -/
def State.groupAhead (s : State) (g : Nat) : Nat := if 256 ≤ g then 0 else ceilDiv (s.groupTol g * s.fs) 1000000

/-- The look-ahead of a strip (R473). -/
def State.stripAhead (s : State) (ph g : Nat) : Nat :=
  ((s.eng.insts.filter fun i => i.info.phase == ph && i.info.group == g).map fun i => s.groupAhead i.info.wake).foldl max 0

/-- Whether a sample is at or above EN_SIL.THRESH (R474). -/
def State.audible (s : State) (w : Word) : Bool := decide (s.rdS F.EN_SIL_THRESH * dB ≤ peakLevel (mag w))

/-- The input of a strip as it stands complete in exchange memory (R474). -/
def State.stripIn (s : State) (ph g : Nat) : List Quad :=
  groupAt (if ph = 0 then s.eng.aIn else if ph = 1 then s.eng.bSum else s.eng.dSum) g s.F

/-- Whether a group's bit says idle. -/
def State.groupIdle (s : State) (g : Nat) : Bool := decide (g < 256) && s.bitArr F.EN_GROUP_IDLE g

/-- The silence detector at the end of a frame (R474): one audible sample ends idleness. -/
def State.silence (s : State) : State :=
  let gs := ((s.eng.insts.map fun i => i.info.wake).filter (· < 256)).eraseDups
  s.each gs fun t g =>
    let strips := ((t.eng.insts.filter fun i => i.info.wake == g).map fun i => (i.info.phase, i.info.group)).eraseDups
    let loud := strips.any fun x => (t.stripIn x.1 x.2).any fun q => (List.finRange 4).any fun l => t.audible q[l]
    let t1 := t.setEn { t.en with quiet := Sparse.set 0 t.en.quiet g (if loud then 0 else Sparse.get 0 t.en.quiet g + 1) }
    if loud then t1.setBitArr F.EN_GROUP_IDLE g false else t1

/-- Whether a cluster may be gated now (R215, R475). -/
def State.mayGate (s : State) (c : Nat) : Bool :=
  let on := s.eng.insts.filter fun i => i.cluster == c
  s.admitted (0x10 + c) && !bitOf (s.rd F.SL_SHARE) c && on.all fun i => s.groupIdle i.info.wake && i.info.cls != 3

/-- The look-ahead that decides a cluster's depth: the smallest of its strips', limited by PWR_WAKE_TOL (R475). -/
def State.gateAhead (s : State) (c : Nat) : Nat :=
  let on := s.eng.insts.filter fun i => i.cluster == c
  let tol := s.rd (F.PWR_WAKE_TOL.pg (0x10 + c))
  (on.map fun i => s.stripAhead i.info.phase i.info.group).foldl min (ceilDiv (tol * s.fs) 1000000)

/-- The deepest state a cluster may take (R475): 0 = Active. -/
def State.gateState (s : State) (c : Nat) : Nat :=
  let q := s.gateAhead c / s.F
  let slack := (q - 1) * s.F * 1000000
  let lim := s.rd (F.PWR_STATE_LIMIT.pg (0x10 + c))
  if s.rd (F.PWR_WAKE_TOL.pg (0x10 + c)) = 0 ∨ q < 2 then 0
  else if 3 ≤ lim ∧ 180 * s.fs ≤ slack then 3
  else if 2 ≤ lim ∧ 12 * s.fs ≤ slack then 2
  else if 1 ≤ lim then 1
  else 0

/-- A cluster gated as far as its groups allow (R475). -/
def State.gate (s : State) (c : Nat) : State :=
  if s.rd (F.PWR_STATE_CUR.pg (0x10 + c)) = 0 ∧ s.mayGate c ∧ s.gateState c ≠ 0 then
    (s.wr (F.PWR_STATE_CUR.pg (0x10 + c)) (s.gateState c)).bump F.EN_GATE_CNT
  else s

/-- GROUP_IDLE (R474, R475): the group has stayed quiet for EN_SIL.HOLD; its clusters are gated. -/
def State.groupIdles (s : State) (g : Nat) : State :=
  if s.groupIdle g ∨ (s.eng.insts.all fun i => i.info.wake != g) ∨
      Sparse.get 0 s.en.quiet g * s.F * 10 < s.rd F.EN_SIL_HOLD * s.fs then s
  else (s.setBitArr F.EN_GROUP_IDLE g true).each (List.range 16) State.gate

/-- A cluster runs again, and its page shows what has changed meanwhile (R215, R393). -/
def State.awake (s : State) (c : Nat) : State :=
  let s1 := s.wr (F.PWR_STATE_CUR.pg (0x10 + c)) 0
  match s1.eng.run with
  | some a => s1.showUse a c
  | none => s1

/-- CLUSTER_WAKE (R420, R476): a gated cluster that carries a group which is no longer idle; from Off the image is reloaded first. -/
def State.wake (s : State) (c : Nat) : State :=
  let cur := s.rd (F.PWR_STATE_CUR.pg (0x10 + c))
  if cur = 0 ∨ s.mayGate c ∨ s.on (F.PWR_STATE_WAKING.pg (0x10 + c)) then s
  else if cur = 3 then s.wr (F.PWR_STATE_WAKING.pg (0x10 + c)) 1
  else s.awake c

/-- CLUSTER_IMAGE_RELOAD_DONE (R421, R428): with a bad check its instances start from rest; under ECC the bad word, whose address is open, is
counted as a double-bit error. -/
def State.reloaded (s : State) (c : Nat) (ok : Bool) : State :=
  if ¬ s.on (F.PWR_STATE_WAKING.pg (0x10 + c)) then s
  else
    let s1 := (s.wr (F.PWR_STATE_WAKING.pg (0x10 + c)) 0).awake c
    if ok then s1
    else
      let f := s1.open_
      let s2 := if s.flash.dramEcc then (f.2.pulse 0x88 5).dramDouble [f.1] else s1.pulse 0x88 5
      s2.each ((indexed s2.eng.insts).filter fun x => x.2.cluster == c) fun t x => t.restInst x.1

/-! The power cap (R469). -/

/-- Worst power of the running plan against a cap (R468, check 8 of R70). -/
def capFails (p : Plan) (place : List Nat) (a share sl prog bkg cap : Nat) : Bool :=
  if cap = noCap then false
  else if p.planned then decide (cap < partAMw p place a share sl) || decide (cap < partBMw p place a share sl prog bkg)
  else decide (cap < worstMw p place a share sl)

/-- The Safelight share as the energy sums take it: share clusters times SHARE_CYC, and the DRAM bytes per sample of R266. -/
def State.shareCost (s : State) : Nat × Nat :=
  (s.shareClusters.length * s.rd F.SL_SHARE_CYC, if s.shareClusters = [] then 0 else 256 * 16)

/-- A write of EN_CAP (R469). -/
def State.capWrite (s : State) (mw : Nat) : State :=
  let bad := match s.eng.run with
    | some a => capFails a.plan a.place a.allowance s.shareCost.1 s.shareCost.2 (s.rd F.EN_EXPECT_PROG_PCT) (s.rd F.EN_EXPECT_BKG_PCT) mw
    | none => false
  if bad then s.pulse 0x03 4 else (s.wr F.EN_CAP mw).journal 0 (.cap mw)

end Sys2Proof.Machine
end

