-- ==== Sys2Proof/Machine/EnergyRows.lean ====
section
/-!
DEFINITION. The meanings of the energy events (spec/17): each is the shared effect of Machine/Energy.lean.
-/
namespace Sys2Proof.Machine

/-- CLUSTER_WAKE (R476). -/
def execClusterWake (c : Fin 16) (s : State) : Host.Outcome State Fault Refusal := .next (s.wake c.val)

/-- CLUSTER_IMAGE_RELOAD_DONE (R421). -/
def execClusterImageReloadDone (c : Fin 16) (ok : Bool) (s : State) : Host.Outcome State Fault Refusal := .next (s.reloaded c.val ok)

/-- GROUP_IDLE (R474). -/
def execGroupIdle (group : Byte) (s : State) : Host.Outcome State Fault Refusal := .next (s.groupIdles group.toNat)

/-- ENERGY_WINDOW_END (R471). -/
def execEnergyWindowEnd (s : State) : Host.Outcome State Fault Refusal := .next (s.windowEnd)

/-- SHED_COMMIT (R471). -/
def execShedCommit (s : State) : Host.Outcome State Fault Refusal := .next (s.shedCommit)

/-- PMBUS_CALIBRATION_READ (R465). -/
def execPmbusCalibrationRead (answers : Vector (Option (BitVec 20)) 8) (s : State) : Host.Outcome State Fault Refusal := .next (s.pmbusRead (answers.toList.map fun (a : Option (BitVec 20)) => a.map BitVec.toNat))

end Sys2Proof.Machine
end

