-- ==== Sys2Proof/Machine/RegWrite.lean ====
section
/-!
DEFINITION. Writes to registers (R9, R10, R22, R512 to R515): the page header (R26 to R33), registers with behaviour of their own, the
stall buffers of stopped domains (R393), the pair's mirroring (R290, R291, R369).
-/
namespace Sys2Proof.Machine

/-! Access types. -/

/-- The bits of an access type of the register at `a`. -/
def accMask (k : Acc) (a : Nat) : Word := match RegDir.row? a with
  | some r => r.fields.foldl (fun m f => if f.acc = k then m ||| Fld.mask ⟨a, f.hi, f.lo⟩ else m) 0
  | none => 0

/-- Whether authentication is mandatory (R49). -/
def State.mustAuth (s : State) : Bool := s.sec.state == 3 || (s.sec.state == 2 && s.on F.HOST_CTRL_AUTH_REQ)

/-- A write by access types (R512, R513) at the register's home. -/
def State.plainStore (s : State) (a : Nat) (w : Word) : State :=
  let h := s.home a
  let adm := s.admitted (a / 4096)
  let m := accMask .rw a ||| (if adm then 0 else rwaMask a)
  let s1 := s.setReg h (((s.reg h &&& ~~~m) ||| (w &&& m)) &&& ~~~(w &&& accMask .w1c a))
  if adm ∧ rwaMask a ≠ 0 then (s1.bump F.DEV_RWA_REJ).wrAll [(F.DEV_RWA_LAST_PAGE, a / 4096), (F.DEV_RWA_LAST_OFFSET, a)] else s1

/-- Some bits of a register replaced, whatever the others of the word written. -/
def State.storeBits (s : State) (a : Nat) (m w : Word) : State := s.setReg a ((s.reg a &&& ~~~m) ||| (w &&& m))

/-- A write held while a Develop is armed (R158): BAR2 offset, or register address with 2^32 added. -/
def State.hold (s : State) (key : Nat) (w : Word) : State :=
  if s.scn.held.length < 4096 then s.setScn { s.scn with held := s.scn.held ++ [(key, w)] }
  else (s.bump F.SCN_HOLD_DROP).pulse 0x24 1

/-- A write to an RWS register (R157, R158). -/
def State.rwsWrite (s : State) (a : Nat) (w : Word) : State := if s.scn.armed.isSome then s.hold (a + 2 ^ 32) w else s.rwsStore a w

/-! SRST (R28, R29, R516). -/

/-- Bits that SRST keeps: PAGE_CTRL.QOS, FLT_CLASS, PAGE_STAT.READY, what is sensed or fitted, the host's registers. -/
def srstKeep (a : Nat) : Word :=
  if isHostPage a then 0xFFFFFFFF
  else if a % 4096 < 0x40 then
    match a % 4096 with
    | 0x008 => 0xF0
    | 0x00C => 1
    | 0x01C => 0xFFFFFFFF
    | 0x020 => 0xFFFFFFFF
    | _ => 0
  else if a = 0x8004C then 0x200
  else if (0x00048 ≤ a ∧ a < 0x00058) ∨ a = 0x72040 ∨ a = 0x72044 ∨ a = 0x89040 ∨ a = 0x89044 ∨ a = 0x8A040 ∨ a = 0x8A044 ∨ a = 0x88054 ∨
      a = 0x8B05C ∨ (0x98040 ≤ a ∧ a < 0x98068) ∨ (0x9B040 ≤ a ∧ a < 0x9B04C) ∨ (0x9B050 ≤ a ∧ a < 0x9B0B0) ∨ a = F.FIX_AREA_BASE.addr ∨
      a = F.FIX_AREA_SIZE.addr ∨ a = F.JRNL_SIZE.addr ∨ a = F.LOG_AREA_BASE.addr ∨ a = F.LOG_AREA_SIZE.addr then 0xFFFFFFFF
  else 0

/-- The page of a register's home. -/
def homePageOf (a : Nat) : Nat := if a < 0x100000 then a / 4096 else if a < 0x200000 then 0x65 else 0x66

/-- The state of a block behind its registers, at its reset value. -/
def State.blockRest (s : State) (p : Nat) : State :=
  if 0x10 ≤ p ∧ p < 0x20 then s.setCluster (fin16 (p - 0x10)) .zero
  else if 0x30 ≤ p ∧ p < 0x40 then s.setTdm (fin16 (p - 0x30)) .rest
  else if 0x40 ≤ p ∧ p < 0x48 then s.setAin (Fin.ofNat 8 (p - 0x40)) .rest
  else if 0x48 ≤ p ∧ p < 0x50 then (s.setAout (Fin.ofNat 8 (p - 0x48)) .rest).setRoll p .rest
  else if 0x60 ≤ p ∧ p < 0x63 then s.setMac (Fin.ofNat 3 (p - 0x60)) .rest
  else if 0x68 ≤ p ∧ p < 0x6C then s.setTd (Fin.ofNat 4 (p - 0x68)) .rest
  else if 0x78 ≤ p ∧ p < 0x80 then s.setLane (Fin.ofNat 8 (p - 0x78)) ⟨0, 0, 0, none⟩
  else match p with
  | 0x01 => { s with eng := { s.eng with matchAt := none } }
  | 0x03 => s.setEn .rest
  | 0x20 => ({ s with eng := { s.eng with ramps := [], deferred := [], raises := [], forces := [] } } : State).showEff.showForce
  | 0x24 =>
    let t := s.setScn { SceneSt.rest with slots := s.scn.slots, slot := s.scn.slot, ptrSeq := s.scn.ptrSeq, ptrs := s.scn.ptrs }
    (t.showSlot).showDirty
  | 0x28 => { s with sl := { SlSt.rest with refs := s.sl.refs, nextId := s.sl.nextId, shapes := s.sl.shapes } }
  | 0x51 => { s with ports := { s.ports with asrcFade := [] } }
  | 0x58 => { s with eng := { s.eng with trigs := List.replicate 8 .rest, firings := [] } }
  | 0x64 => s.setNet { s.net with rx := [], tx := [], seen := [], nodes := [], rctSeq := [], rtpIn := [], missing := none }
  | 0x6C => s.setNet { s.net with tdc := 0 }
  | 0x70 => s.setClk { ClkSt.rest with waiting := s.clk.waiting, parked := s.clk.parked, stopped := s.clk.stopped, shown := s.clk.shown }
  | 0x80 => (s.setPair .rest).showClaim
  | 0x83 => { s with ports := { s.ports with merge := .replicate 8 .rest } }
  | 0x90 => (s.setFlt { s.flt with edges := [], entries := [], next := 0, notices := [] }).showFaults
  | 0x9A => s.showLog
  | 0x9B => s.showLife
  | _ => s

/-- A block reset (R29, R394, R516): its registers and state, and the queues of its crossings. -/
def State.srst (s : State) (p : Nat) : State :=
  let l := blockPages p
  let s1 := s.each ((s.regs.map (·.1)).filter fun a => l.contains (homePageOf a)) fun t a =>
    t.setReg a ((s.reg a &&& srstKeep a) ||| (RegDir.reset a &&& ~~~(srstKeep a)))
  let mine (x : Nat × Nat × Word) : Bool := l.contains (x.2.1 / 4096)
  let gone := (s1.clk.waiting.filter mine).length + (s1.clk.parked.filter mine).length
  let s2 := (s1.setClk { s1.clk with waiting := s1.clk.waiting.filter fun x => !mine x,
                                     parked := s1.clk.parked.filter fun x => !mine x }).bumpBy F.CDC_DISCARD gone
  let s3 := s2.each l fun t q => t.wr (F.FLT_RAW.pg q) (maskOf (fun n => t.broken q n) 16)
  let lat := s3.lat.filter fun x => !l.contains (x.1 / 4096)
  ({ s3 with lat := lat, snaps := s3.snaps.filter fun x => x.1 != homePage p } : State).blockRest (homePage p)

/-! PAGE_CTRL (R26, R28 to R30). -/

/-- Whether a page's block has EN fixed at 1; whether it issues fabric transactions (R541). -/
def enFixed (p : Nat) : Bool := match RegDir.page? p with
  | some r => r.en
  | none => false
def hasQos (p : Nat) : Bool := match RegDir.page? p with
  | some r => r.qos != 0
  | none => false

/-- CTRL_REFUSED (R28): SRST or EN = 0 on a block of the running plan. -/
def State.ctrlRefused (s : State) : State := s.pulse 0x02 3

/-- EN written 0 on a block that may be disabled (R30, R383, R399). -/
def State.disable (s : State) (p : Nat) : State :=
  let s1 := s.each (blockPages p) fun t q => t.idle q
  if homePage p = 0x70 then s1.refOff
  else if 0x78 ≤ p ∧ p < 0x80 then s1.laneRequest (p - 0x78)
  else s1

/-- A write of EN (R28, R30, R383, R399). -/
def State.enWrite (s : State) (p : Nat) (v : Bool) : State :=
  let h := homePage p
  if ¬ v ∧ s.admitted h then s.ctrlRefused
  else if enFixed h then s
  else if v then
    let s1 := s.wr (F.PAGE_CTRL_EN.pg h) 1
    if 0x78 ≤ h ∧ h < 0x80 then s1.laneRequest (h - 0x78)
    else if h = 0x70 ∧ s1.on F.REF_CTRL_OPEN then s1.refOpen true else s1
  else if 0x78 ≤ h ∧ h < 0x80 ∧ s.laneInUse (h - 0x78) then s.pulse h 3
  else if s.enabled p then s.disable p
  else s

/-- SL_AMB_EST as it reads: AGE counts from the zone's last estimate, saturating. -/
def State.ambRead (s : State) (a : Nat) (w : Word) : Word :=
  let z := (a - F.SL_AMB_EST_AGE.addr) / 4
  match Sparse.get 0 s.sl.ambAt z with
  | 0 => w
  | at_ => Fld.put F.SL_AMB_EST_AGE w (min 0x3FFF (s.ms + 1 - at_))

/-- XPT_LS_STAT as it reads (R144, R145). -/
def State.lsStat (s : State) : Word := BitVec.ofNat 32 (2 * s.mustAuth.toNat + s.lsDirty.toNat)

/-- The registers of a block that are derived from other state, with what they read now: FREEZE captures them too (R26). -/
def State.derivedRegs (s : State) (h : Nat) : List (Nat × Word) :=
  if h = 0x20 then [(F.XPT_LS_STAT_LS_LOCK.addr, s.lsStat)]
  else if h = 0x28 then s.sl.ambAt.map fun x => let a := F.SL_AMB_EST_AGE.addr + 4 * x.1; (a, s.ambRead a (s.reg a))
  else []

/-- A write of FREEZE (R26): setting it captures the registers of the block's pages. -/
def State.freezeWrite (s : State) (p : Nat) (v : Bool) : State :=
  let h := homePage p
  let l := blockPages p
  let rest := s.snaps.filter fun x => x.1 != h
  if ¬ v then ({ s with snaps := rest } : State).wr (F.PAGE_CTRL_FREEZE.pg h) 0
  else if s.on (F.PAGE_CTRL_FREEZE.pg h) then s
  else ({ s with snaps := (h, (s.derivedRegs h).foldl (fun m x => Sparse.set (RegDir.reset x.1) m x.1 x.2)
    (s.regs.filter fun x => l.contains (homePageOf x.1))) :: rest } : State).wr (F.PAGE_CTRL_FREEZE.pg h) 1

/-- A write of PAGE_CTRL. -/
def State.pageCtrlWrite (s : State) (p : Nat) (w : Word) : State :=
  let h := homePage p
  let v := w.toNat
  let s1 := if hasQos h then s.wr (F.PAGE_CTRL_QOS.pg h) (bitsOf v 7 4) else s
  if bitOf v 1 then
    if s1.admitted h then
      let s2 := s1.ctrlRefused
      (if bitOf v 0 ∨ enFixed h then s2.enWrite p true else s2).freezeWrite p (bitOf v 2)
    else s1.srst p
  else (s1.enWrite p (bitOf v 0)).freezeWrite p (bitOf v 2)

/-! The other header registers. -/

/-- The number of fault sources of a page (NSRC), and the reset class of a source. -/
def nsrc (p : Nat) : Nat := match RegDir.page? p with
  | some r => r.classes.length
  | none => 0
def resetClass (p n : Nat) : Nat := match RegDir.page? p with
  | some r => r.classes.getD n 0
  | none => 0

/-- A write of FLT_MASK (R32). -/
def State.maskWrite (s : State) (p v : Nat) : State := (s.wr (F.FLT_MASK.pg p) (v % 2 ^ nsrc p)).unmaskFatal p

/-- A write of FLT_LATCH (R33). -/
def State.latchWrite (s : State) (p v : Nat) : State :=
  s.wr (F.FLT_LATCH.pg p) (maskOf (fun n => bitOf (s.rd (F.FLT_LATCH.pg p)) n && !(bitOf v n && !s.raw p n)) 16)

/-- A write of FLT_CLASS0 or FLT_CLASS1 (R31, R32). -/
def State.classWrite (s : State) (p : Nat) (k : Nat) (v : Nat) : State :=
  let f := if k = 0 then F.FLT_CLASS0.pg p else F.FLT_CLASS1.pg p
  let new := (List.range 8).foldl (fun a j =>
    let n := 8 * k + j
    let c := bitsOf v (3 * j + 2) (3 * j)
    let x := if n < nsrc p ∧ c ≤ 4 ∧ resetClass p n ≤ c then c else s.classOf p n
    a + x * 2 ^ (3 * j)) 0
  (s.wr f new).unmaskFatal p

/-- A write of a header register (R26 to R33). -/
def State.headerWrite (s : State) (p o : Nat) (w : Word) : State :=
  let h := homePage p
  let pwr := match RegDir.page? h with
    | some r => r.pwr
    | none => false
  match o with
  | 0x008 => s.pageCtrlWrite p w
  | 0x014 => s.maskWrite p w.toNat
  | 0x018 => s.latchWrite p w.toNat
  | 0x01C => s.classWrite p 0 w.toNat
  | 0x020 => s.classWrite p 1 w.toNat
  | 0x024 => if pwr then s.wr (F.PWR_STATE_LIMIT.pg h) (bitsOf w.toNat 9 8) else s
  | 0x028 => if pwr then s.wr (F.PWR_WAKE_TOL.pg h) w.toNat else s
  | _ => s

/-! The rings (R41, R42, R45). -/

/-- A descriptor of zeros: what the host has left in a slot that the model is not told of. -/
def zeroDesc : Desc :=
  { op := 0, flags := 0, role := 0, tag := 0, bufAddr := 0, bufLen := 0, arg0 := 0, arg1 := 0, seq := 0, buf := [], reach := true, dest := true }

/-- A descriptor of the SPI host, from its ring memory; a buffer outside that memory is unreachable (R41). -/
def State.spiDesc (s : State) (a : Nat) : Desc :=
  let b := (List.range 32).map fun i => Sparse.get (0 : Byte) s.host.spi (a + i)
  let at_ := fieldAt b 8 8
  let n := fieldAt b 16 4
  let ok := decide (at_ + n ≤ 0x10000)
  { op := BitVec.ofNat 16 (fieldAt b 0 2), flags := BitVec.ofNat 8 (fieldAt b 2 1), role := BitVec.ofNat 8 (fieldAt b 3 1),
    tag := BitVec.ofNat 32 (fieldAt b 4 4), bufAddr := BitVec.ofNat 64 at_, bufLen := BitVec.ofNat 32 n, arg0 := BitVec.ofNat 32 (fieldAt b 20 4),
    arg1 := BitVec.ofNat 32 (fieldAt b 24 4), seq := BitVec.ofNat 32 (fieldAt b 28 4),
    buf := if ok then (List.range n).map fun i => Sparse.get (0 : Byte) s.host.spi (at_ + i) else [], reach := ok, dest := true }

/-- The doorbell of a ring (R42, R45): TAIL, and the descriptors it announces as the device reads them; `ok` = the array can be
read. On a ring that is not active only TAIL is written. -/
def State.doorbell (s : State) (ring tail : Nat) (get : Nat → Desc) (ok : Bool) : State :=
  let size := s.ringSize ring
  if size ≤ tail then s.pulse 0x08 2
  else
    let old := s.rd (F.RING_TAIL.ring ring)
    let s1 := s.wr (F.RING_TAIL.ring ring) tail
    if ¬ s.ringRuns ring then s1
    else if ¬ ok then s1.ringStop ring
    else
      let n := (tail + size - old) % size
      (s1.setQueue ring (s1.queueOf ring ++ (List.range n).map get)).showRing ring

/-- A doorbell whose descriptors stand in the SPI ring memory, or are not given. DESIGN CHOICE (log entry 52): towards an SPI host, any write of a
ring's RING_TAIL is its consuming of the completions, and clears the pending bit of that ring's vector (R41). -/
def State.bareDoorbell (s : State) (ring tail : Nat) : State :=
  let base := s.rd (F.RING_BASE_LO.ring ring) * 64
  let old := s.rd (F.RING_TAIL.ring ring)
  if s.on F.HOST_CTRL_RING_OWNER then
    let ok := base + 32 * s.ringSize ring ≤ 0x10000
    let pend := s.rd (F.RING_IRQ_VEC.ring ring)
    let s1 := s.setReg (pbaAddr pend) (s.reg (pbaAddr pend) &&& ~~~(1#32 <<< (pend % 32)))
    s1.doorbell ring tail (fun k => s.spiDesc (base + 32 * ((old + k) % s.ringSize ring))) ok
  else s.doorbell ring tail (fun _ => zeroDesc) true

/-- A write of RING_CTRL (R41, R45). -/
def State.ringCtrl (s : State) (ring v : Nat) : State :=
  let s1 := if 1 ≤ ring ∧ ring ≤ 15 then s.wr (F.RING_CTRL_PRIO.ring ring) (bitsOf v 17 16) else s
  let was := s.on (F.RING_CTRL_EN.ring ring)
  let g := bitsOf v 11 8
  let s2 := if ¬ was ∧ 4 ≤ g ∧ g ≤ 12 then s1.wr (F.RING_CTRL_LOG2_SIZE.ring ring) g else s1
  if ¬ s.ringExists ring then s2
  else if bitOf v 0 ∧ ¬ was then
    ((s2.wrAll [(F.RING_CTRL_EN.ring ring, 1), (F.RING_HEAD.ring ring, 0), (F.RING_TAIL.ring ring, 0), (F.RING_STAT_STOPPED.ring ring, 0),
      (F.RING_STAT_DROP.ring ring, 0)]).setQueue ring []).showRing ring
  else if ¬ bitOf v 0 then (s2.wr (F.RING_CTRL_EN.ring ring) 0).showRing ring
  else s2

/-- A write on a ring page. DESIGN CHOICE (log entry 52): a write of RING_BASE_HI in SPI mode, which is ignored there (R45), is dropped. -/
def State.ringWrite (s : State) (a : Nat) (w : Word) : State :=
  let o := a % 4096
  if ¬ (0x100 ≤ o ∧ o < 0x500) then s
  else
    let ring := (a / 4096 - 0x0A) * 32 + (o - 0x100) / 0x20
    let en := s.on (F.RING_CTRL_EN.ring ring)
    match o % 0x20 with
    | 0x00 => if en then s else s.setReg a (w &&& 0xFFFFFFC0)
    | 0x04 => if en ∨ s.on F.HOST_CTRL_RING_OWNER then s else s.setReg a w
    | 0x08 => s.ringCtrl ring w.toNat
    | 0x0C => s.bareDoorbell ring (w.toNat % 4096)
    | 0x14 => s.setReg a (w &&& 0xFFFFFF3F)
    | _ => s

/-- A write of the MSI-X table: unmasking a vector that pends sends it (PCIe). -/
def State.msixWrite (s : State) (a : Nat) (w : Word) : State :=
  let o := a % 4096 - 0x400
  let v := o / 16
  if o % 16 ≠ 12 then s.setReg a w
  else
    let s1 := s.setReg a (w &&& 1)
    let pend := bitOf (s.reg (pbaAddr v)).toNat (v % 32)
    if pend ∧ s.vecMasked v ∧ ¬ s1.vecMasked v then
      if s.on F.HOST_CTRL_RING_OWNER then s1.put .irqN
      else (s1.setReg (pbaAddr v) (s1.reg (pbaAddr v) &&& ~~~(1#32 <<< (v % 32)))).put (.msix v)
    else s1

/-- A write on page 0x08 or 0x09. -/
def State.hostPageWrite (s : State) (a : Nat) (w : Word) : State :=
  if a = F.HOST_CTRL_AUTH_REQ.addr then
    let s1 := if s.deployed then s else s.wr F.HOST_CTRL_AUTH_REQ (bitsOf w.toNat 8 8)
    if (List.range 64).any fun r => s.on (F.RING_CTRL_EN.ring r) then s1 else s1.wr F.HOST_CTRL_RING_OWNER (w.toNat % 2)
  else if 0x09400 ≤ a ∧ a < 0x09800 then s.msixWrite a w
  else s.plainStore a w

/-! Registers with behaviour of their own, by page. -/

/-- TICK_MATCH_LO arms the match, or sends it at once (R518). -/
def State.matchArm (s : State) : State :=
  let n := s.rd64 F.TICK_MATCH_LO F.TICK_MATCH_HI
  if n ≤ s.tick ∧ s.on F.TICK_STAT_RUNNING then
    let s1 := ({ s with eng := { s.eng with matchAt := none } } : State).wr F.TICK_STAT_MATCH_LATE 1
    if s.on F.TICK_MATCH_CTRL_EN then s1.sendVec (s.rd F.TICK_MATCH_CTRL_VEC) else s1
  else { s with eng := { s.eng with matchAt := some n } }

/-- A write of a LANE register: what a lane has not, and a swing out of range, is ignored. -/
def State.laneWrite (s : State) (n : Nat) (a : Nat) (w : Word) : State :=
  match a % 4096 with
  | 0x040 => s.storeBits a (if n < 4 then 0x10 else if n < 6 then 0x310 else 0x110) w
  | 0x048 => if n < 4 then s else s.storeBits a (if 20 ≤ bitsOf w.toNat 5 0 ∧ bitsOf w.toNat 5 0 ≤ 60 then 0x1F0F3F else 0x1F0F00) w
  | 0x080 => s.laneTestWrite n w
  | 0x088 =>
    let s1 := s.plainStore a w
    if bitOf w.toNat 4 then s1.injectBit n else s1
  | _ => s.plainStore a w

def State.tdWrite (s : State) (d : Fin 4) (a : Nat) (w : Word) : State :=
  let s1 := s.plainStore a w
  if a % 4096 = 0x040 then
    let s2 := if bitOf w.toNat 1 then s1.reacquire d else s1
    s2.showLocked d
  else s1

def State.refWrite (s : State) (a : Nat) (w : Word) : State :=
  if a = F.REF_CTRL_OPEN.addr then (s.wr F.REF_CTRL_BW (bitsOf w.toNat 15 8)).refOpen (bitOf w.toNat 0)
  else if a = F.REF_NCO.addr then s.refNco w
  else if a = F.ALIGN.addr then s.alignWrite w.toNat
  else if F.REF_CAND_EN.addr ≤ a ∧ a < F.REF_CAND_EN.addr + 32 then
    let i := (a - F.REF_CAND_EN.addr) / 4
    let src := s.rd (F.REF_CAND_SRC.ix i)
    let s1 := s.plainStore a w
    let s2 := if i = 7 then s1.wr (F.REF_CAND_SRC.ix i) src else s1
    if s.candOn i ∧ ¬ s2.candOn i then s2.candOff (Fin.ofNat 8 i) else s2
  else s.plainStore a w

def State.scrubWrite (s : State) (w : Word) : State :=
  let n := bitsOf w.toNat 31 16
  let s1 := if 50 ≤ n ∧ n ≤ 250 then s.wr F.SR_SCRUB_PERIOD_MS n else s
  if s.deployed then s1 else s1.wr F.SR_SCRUB_EN (w.toNat % 2)

def State.marchWrite (s : State) (w : Word) : State :=
  let s1 := s.plainStore F.MR_CTRL_GO.addr w
  let s2 := if bitOf w.toNat 31 then s1.marchGo else s1
  if bitOf w.toNat 0 then s2.marchAbort else s2

/-- A write that has reached its block (R512). -/
def State.takeReg (s : State) (a : Nat) (w : Word) : State :=
  let p := a / 4096
  let o := a % 4096
  if o < 0x40 then s.headerWrite p o w
  else if rwsMask a ≠ 0 then s.rwsWrite a w
  else if p = 0x08 ∨ p = 0x09 then s.hostPageWrite a w
  else if p = 0x0A ∨ p = 0x0B then s.ringWrite a w
  else if a = F.TICK_MATCH_LO.addr then (s.plainStore a w).matchArm
  else if a = F.EN_CAP.addr then s.capWrite (w.toNat % 2 ^ 24)
  else if a = F.EN_PEAK_MW.addr then s.wr F.EN_PEAK_MW 0
  else if 0x10 ≤ p ∧ p < 0x20 ∧ o = 0x04C then s.setReg a 0
  else if F.XPT_LS_BUS.addr ≤ a ∧ a < F.XPT_LS_BUS.addr + 64 then (s.plainStore a w).showEff
  else if 0x48 ≤ p ∧ p < 0x50 ∧ o = 0x080 then s.aoutCommit (Fin.ofNat 8 (p - 0x48)) (bitOf w.toNat 0)
  else if 0x48 ≤ p ∧ p < 0x50 ∧ (o = 0x064 ∨ o = 0x07C) then s.plainStore a (w &&& 0x00FFFFFF)
  else if a = F.MAC_CTRL_SPEED.addr + 0x2000 then s.plainStore a (w &&& 0xFFFEFCDF)
  else if 0x68 ≤ p ∧ p < 0x6C then s.tdWrite (Fin.ofNat 4 (p - 0x68)) a w
  else if a = F.TDC_CTRL.addr then (if bitOf w.toNat 0 then s.tdcLoad else s)
  else if p = 0x70 then s.refWrite a w
  else if 0x78 ≤ p ∧ p < 0x80 then s.laneWrite (p - 0x78) a w
  else if a = F.SR_SCRUB_EN.addr then s.scrubWrite w
  else if a = F.DR_QUEUE_PEAK.addr ∨ a = F.DR_QUEUE_PEAK.addr + 4096 then s.storeBits a F.DR_QUEUE_PEAK.mask 0
  else if a = F.MR_CTRL_GO.addr then s.marchWrite w
  else if a = F.FB_OUTST_PEAK.addr then s.wr F.FB_OUTST_PEAK 0
  else if p = 0x8C ∧ (F.FB_MAXWAIT.addr ≤ a ∧ a < F.FB_MAXWAIT.addr + 48) then s.setReg a 0
  else if a = F.FLT_ACK_SEQ.addr then s.ack (bitsOf w.toNat 15 8) (bitsOf w.toNat 3 0) (bitsOf w.toNat 31 24)
  else if a = F.FLT_INJ_MODE.addr then s.inject (bitsOf w.toNat 30 28) (bitsOf w.toNat 24 16) (bitsOf w.toNat 3 0)
  else if a = F.MB_RESET_KEY.addr then s.mbReset (bitsOf w.toNat 31 16) (bitsOf w.toNat 1 0)
  else if a = F.SN_TEMP_MAX.addr then s.wr F.SN_TEMP_MAX 0x8000
  else if F.SN_RAIL_MIN_MV.addr ≤ a ∧ a < F.SN_RAIL_MIN_MV.addr + 48 then s.storeBits a F.SN_RAIL_MIN_MV.mask 0xFFFFFFFF
  else if (a = F.SN_RAIL_WIN_FAULT.addr ∨ a = F.LC_TAMPER_CFG_KILL.addr) ∧ s.deployed then s
  else s.plainStore a w

/-! The way to a block. -/

/-- Whether a page is mirrored in a pair (PAGE_CAPS.MIRROR). -/
def pageMirror (p : Nat) : Bool := match RegDir.page? p with
  | some r => r.mirror
  | none => false

/-- An access to an unallocated page (R10). -/
def State.unallocated (s : State) (p : Nat) : State :=
  ((s.bumpSat F.DEV_UNALLOC_COUNT).wr F.DEV_UNALLOC_PAGE p).wr F.PAGE_STAT_STALE 1

/-- A write narrower than 32 bits (R22): ignored, but an access all the same (R10). -/
def State.narrowWrite (s : State) (a : Nat) : State := if (RegDir.page? (a / 4096)).isNone then s.unallocated (a / 4096) else s

/-- A host write that reaches the register space (R10, R22, R291, R369, R393, R394). -/
def State.hostWrite (s : State) (a : Nat) (w : Word) : State :=
  let p := a / 4096
  if (RegDir.page? p).isNone then s.unallocated p
  else if ¬ s.on (F.PAGE_STAT_READY.pg p) then
    (s.bump F.CDC_DISCARD).wrAll [(F.CDC_LAST_PAGE, p), (F.CDC_LAST_OFFSET, a)]
  else if a % 4 ≠ 0 then s
  else if s.isStandby ∧ pageMirror p ∧ ¬ unitOwned a then s.pulse 0x80 7
  else
    let s1 := if s.behindStopped a then s.setClk { s.clk with waiting := s.clk.waiting ++ [((cdcOf p).getD 0, a, w)] } else s.takeReg a w
    if pageMirror p ∧ ¬ unitOwned a then s1.mirrorWrite (.register a w) else s1

/-- Whether a register runs a ring: RING_CTRL and RING_TAIL. -/
def runsRing (a : Nat) : Bool :=
  (a / 4096 == 0x0A || a / 4096 == 0x0B) && decide (0x100 ≤ a % 4096 ∧ a % 4096 < 0x500) && (a % 0x20 == 0x08 || a % 0x20 == 0x0C)

/-- A write of one of the two hosts, SPI or PCIe (R40): only the one that RING_OWNER names runs rings. DESIGN CHOICE (log entry 52): a write of
RING_CTRL or RING_TAIL by the other one is ignored. -/
def State.writeBy (s : State) (spi : Bool) (a : Nat) (w : Word) : State :=
  if runsRing a ∧ s.on (F.PAGE_STAT_READY.pg (a / 4096)) ∧ s.on F.HOST_CTRL_RING_OWNER ≠ spi then s else s.hostWrite a w

/-- CDC_CLOCK_RETURN (R375, R393): a domain's clock returns, and its loss is over unless another clock of the same source is still lost; parked
writes take effect in order, then those still waiting. -/
def State.clockReturn (s : State) (d : Nat) : State :=
  let k := if d = 16 then some 1 else if d = 17 then some 2 else if d = 18 then some 4 else if d = 19 ∨ d = 20 then some 5 else none
  let s0 := s.setClk { s.clk with stopped := s.clk.stopped.filter (· != d) }
  let s1 := match k with
    | some k =>
      let still := s0.clk.stopped.any fun x => if k ≤ 3 then x == 16 || x == 17 else k == 5 && (x == 19 || x == 20)
      let t := (s0.wr F.CG_MON (putBit (s0.rd F.CG_MON) k true)).wr F.CG_STAT_LOCK
        (putBit (s0.rd F.CG_STAT_LOCK) (if k = 4 then 1 else if k = 5 then 2 else 0) true)
      if still then t else t.source 0x72 (if k ≤ 3 then 1 else if k = 4 then 2 else 3) false
    | none => s0
  if s1.domainStopped d then s1
  else
    let mine (x : Nat × Nat × Word) : Bool := x.1 == d
    let l := s1.clk.parked.filter mine ++ s1.clk.waiting.filter mine
    let s2 := s1.setClk { s1.clk with parked := s1.clk.parked.filter fun x => !mine x, waiting := s1.clk.waiting.filter fun x => !mine x }
    let f := if d < 16 then F.CDC_STAT_CLUSTER else F.CDC_STAT_OTHER
    (s2.wr f (putBit (s2.rd f) (d % 16) false)).each l fun t x => t.takeReg x.2.1 x.2.2

end Sys2Proof.Machine
end

