-- ==== Sys2Proof/Machine/Admit.lean ====
section
/-!
DEFINITION. PLAN_LOAD and ADMIT (R67 to R76, R80, R81, R85, R230 to R236, R542, R547, R548): the nine checks, the result buffer, the
Latent bank of an admitted plan.
-/
namespace Sys2Proof.Machine

/-! Custom kernels (R234, R235). -/

/-- Whether a kernel's signature fails while it must be right (R49, R234). -/
def State.kernSigBad (s : State) (k : KernRec) : Bool :=
  let key := s.sec.keys.getD 1 []
  s.mustAuth && (key == [] || Config.hmacSha256 key k.signed != k.sig)

/-- A header that breaks R230 or R231, CODE_LEN beyond program memory apart. -/
def kernFormatBad (k : KernRec) : Bool :=
  k.magic != 0x4E52454B || k.format != 1 || decide (2 < k.diss) || decide (7 < k.phases) || decide (31 < k.fmask) || decide (63 < k.rmask) ||
  decide (k.cyc = 0) || decide (16384 < k.cyc) || decide (65535 < k.ovh) || decide (k.codeLen = 0) || decide (k.codeLen ≤ k.entry) ||
  decide (k.dataBytes < 16) || decide (442368 < k.dataBytes) || decide (k.dataBytes % 16 ≠ 0) || decide (k.dataBytes < k.initLen) ||
  decide (k.initLen % 16 ≠ 0) || decide (65536 < k.coefBytes) || decide (k.coefBytes % 16 ≠ 0) || decide (65535 < k.latency) ||
  decide (k.mirrorOff % 16 ≠ 0) || decide (k.mirrorBytes % 16 ≠ 0) || decide (k.dataBytes < k.mirrorOff + k.mirrorBytes) ||
  !k.reservedZero || k.blobLen != 128 + 8 * k.codeLen + k.initLen

/-- Why a kernel is refused (R235): 1 = format, 2 = size, 3 = signature, 4 = F, rate or phase, 5 = code; 0 = not. -/
def State.kernReason (s : State) (p : Plan) (n : Nat) (k : KernRec) : Nat :=
  if kernFormatBad k then 1
  else if 114688 < 8 * k.codeLen then 2
  else if s.kernSigBad k then 3
  else if ¬ bitOf k.fmask p.frame ∨ ¬ bitOf k.rmask p.rate ∨
      (p.insts.any fun i => i.typ == 0x80 && i.kern == n && !bitOf k.phases i.phase) then 4
  else if codeBad k.code then 5
  else 0

/-- Check 1: the first kernel refused, its reason and the bytes it takes over program memory. -/
def State.checkKernels (s : State) (p : Plan) : Option (Nat × Nat × Nat) :=
  (indexed p.kerns).findSome? fun x =>
    let r := s.kernReason p x.1 x.2
    if r = 0 then none else some (x.1, r, 8 * x.2.codeLen - 114688)

/-! The registers as the plan's image leaves them, at the plan's rate and frame length. -/

def State.underPlan (s : State) (p : Plan) : State := ((s.imaged p.regs).wr F.TICK_CFG_RATE p.rate).wr F.TICK_CFG_LOG2_F p.frame

/-- Whether a number stands twice in a list. -/
def hasDup : List Nat → Bool
  | [] => false
  | a :: t => t.contains a || hasDup t

/-- A range of channels. -/
def chans (base n : Nat) : List Nat := (List.range n).map (base + ·)

/-- The TDM ports, AES3 receivers and AES3 transmitters that a plan uses (R30, R311). -/
def tdmUsed (p : Plan) : List Nat := (List.range 16).filter fun i => (portPages p.regs).contains (0x30 + i)
def ainUsed (p : Plan) : List Nat := (List.range 8).filter fun i => (portPages p.regs).contains (0x40 + i)
def aoutUsed (p : Plan) : List Nat := (List.range 8).filter fun i => (portPages p.regs).contains (0x48 + i)
def pdmUsed (p : Plan) : Bool := (portPages p.regs).contains 0x50
def asrcUsed (p : Plan) : Bool := (portPages p.regs).contains 0x51

/-- DIR of a TDM port. -/
def State.tdmHasIn (v : State) (i : Nat) : Bool := bitOf (v.tdmRd F.TDM_CTRL_DIR i) 0
def State.tdmHasOut (v : State) (i : Nat) : Bool := bitOf (v.tdmRd F.TDM_CTRL_DIR i) 1

/-- The input and output channels of a TDM port (R311). -/
def State.tdmIns (v : State) (i : Nat) : List Nat :=
  if v.tdmHasIn i then chans (v.tdmRd F.TDM_CHMAP_IN_BASE i) (v.inSlots i).length else []
def State.tdmOuts (v : State) (i : Nat) : List Nat :=
  if v.tdmHasOut i then chans (v.tdmRd F.TDM_CHMAP_OUT_BASE i) (v.outSlots i).length else []

/-- The channels of the PDM pins (R311). -/
def State.pdmIns (v : State) : List Nat :=
  ((List.range 16).filter fun q => bitOf (v.rd F.PDM_CTRL_PINS) q).flatMap fun q => [v.rd F.PDM_CHMAP + 2 * q, v.rd F.PDM_CHMAP + 2 * q + 1]

/-- Enabled streams, their channels, N_P. -/
def State.rxEn (v : State) : List Nat := (List.range 256).filter fun n => v.on (F.RX_CFG0_EN.rx n)
def State.txEn (v : State) : List Nat := (List.range 256).filter fun n => v.on (F.TX_CFG0_EN.tx n)
def State.rxIns (v : State) (n : Nat) : List Nat := chans (v.rd (F.RX_CFG0_IN_BASE.rx n)) (v.rxCh n)
def State.txOuts (v : State) (n : Nat) : List Nat := chans (v.rd (F.TX_CFG0_OUT_BASE.tx n)) (v.rd (F.TX_CFG0_CH.tx n) + 1)
def State.txNp (v : State) (n : Nat) : Nat := packetSamples (v.rd (F.TX_CFG0_PTIME.tx n)) (v.rd F.TICK_CFG_RATE)

/-- The payload of a stream's packet in bytes (R362). -/
def State.rxPayload (v : State) (n : Nat) : Nat := v.rxCh n * formatBytes (v.rd (F.RX_CFG0_FORMAT.rx n)) * v.rxNp n
def State.txPayload (v : State) (n : Nat) : Nat := (v.rd (F.TX_CFG0_CH.tx n) + 1) * formatBytes (v.rd (F.TX_CFG0_FORMAT.tx n)) * v.txNp n

/-- A rate code that may stand without the ASRC, or one that goes through it (R15, R326, R336). -/
def rateOk (code rate : Nat) (asrc : Bool) : Bool := if asrc then decide (code ≤ 6) else code == rate

/-- A TDM port's limits (R312 to R314, TDM_SLOTMASK). -/
def State.tdmBad (v : State) (rate i : Nat) : Bool :=
  let slots := v.tdmRd F.TDM_CTRL_SLOTS i + 1
  let sb := v.tdmRd F.TDM_CTRL_SLOT_BITS i
  let wb := v.tdmRd F.TDM_CTRL_WORD_BITS i
  let mode := v.tdmRd F.TDM_CTRL_MODE i
  let code := v.tdmRd F.TDM_CTRL_RATE i
  let hz := if code = 6 then 32000 else rateHz code
  decide (slots < 8) || decide (2 < sb) || decide (sb < wb) || decide (2 < mode) || (mode != 0 && decide (slots % 2 ≠ 0)) ||
  decide (v.tdmRd F.TDM_SLOTMASK i / 2 ^ slots ≠ 0) || !rateOk code rate (v.tdmRd F.TDM_CTRL_ASRC i == 1) ||
  decide (49152000 < slots * bitsCode sb * hz) || decide (v.tdmRd F.TDM_CHMAP_IN_BASE i % 4 ≠ 0) ||
  decide (v.tdmRd F.TDM_CHMAP_OUT_BASE i % 4 ≠ 0)

/-- The PDM block's limits (R333). -/
def State.pdmBad (v : State) (fs : Nat) : Bool :=
  let hz := fs * (if v.on F.PDM_CTRL_RATIO then 128 else 64)
  decide (hz < 1000000) || decide (6144000 < hz) || decide (v.rd F.PDM_CHMAP % 4 ≠ 0)

/-- The ASRC channels in use of a direction, kind and port; the index each converts (R336). -/
def State.asrcIdx (v : State) (p : Plan) (out : Bool) (kind port : Nat) : List Nat :=
  if asrcUsed p then ((v.asrcOf kind port).filter fun a => v.on (F.ASRC_MAP_DIR.ix a) == out).map fun a => v.rd (F.ASRC_MAP_INDEX.ix a) else []

/-- Whether every one of `n` channels has its own ASRC channel. -/
def State.asrcCovers (v : State) (p : Plan) (out : Bool) (kind port n : Nat) : Bool :=
  (List.range n).all fun i => (v.asrcIdx p out kind port).contains i

/-- Engine channels that go through the ASRC, by direction and kind (R311, R336). -/
def State.asrcChans (v : State) (p : Plan) (out : Bool) (kind : Nat) : List Nat :=
  (List.range 16).flatMap fun i => (v.asrcIdx p out kind i).map fun x =>
    x + (if kind = 0 then (if out then v.tdmRd F.TDM_CHMAP_OUT_BASE i else v.tdmRd F.TDM_CHMAP_IN_BASE i)
      else if out then v.rd (F.AOUT_CHMAP.pg (i % 8)) else v.rd (F.AIN_CHMAP.pg (i % 8)))

/-- Whether a port with ASRC = 1 lacks an ASRC channel (R336). -/
def State.asrcBad (v : State) (p : Plan) : Bool :=
  ((tdmUsed p).any fun i => v.tdmRd F.TDM_CTRL_ASRC i == 1 &&
    !(v.asrcCovers p false 0 i (v.tdmIns i).length && v.asrcCovers p true 0 i (v.tdmOuts i).length)) ||
  ((ainUsed p).any fun i => v.on (F.AIN_CTRL_ASRC.pg i) && !v.asrcCovers p false 1 i 2) ||
  ((aoutUsed p).any fun i => v.on (F.AOUT_CTRL_ASRC.pg i) && !v.asrcCovers p true 1 i 2) ||
  p.paths.any fun x => x.srcAsrc != (decide (x.srcKind ≤ 1) && (v.asrcChans p false x.srcKind).contains x.inStrip) ||
    x.dstAsrc != (decide (x.dstKind ≤ 1) && (v.asrcChans p true x.dstKind).contains x.outStrip)

/-- Whether a TDM port enables its claim slots in TDM mode, at the engine rate without ASRC (R277). -/
def State.claimReady (v : State) (p : Plan) (i : Nat) : Bool :=
  let last := v.tdmRd F.TDM_CTRL_SLOTS i
  (tdmUsed p).contains i && v.tdmRd F.TDM_CTRL_MODE i == 0 && v.tdmRd F.TDM_CTRL_ASRC i == 0 && v.tdmRd F.TDM_CTRL_RATE i == p.rate &&
  bitOf (v.tdmRd F.TDM_SLOTMASK i) last && (v.claimSlots i == 1 || bitOf (v.tdmRd F.TDM_SLOTMASK i) (last - 1))

/-- Whether a claim output or a merge group breaks R277 or R281. -/
def State.claimsBad (v : State) (p : Plan) : Bool :=
  let tg := (List.range 8).filter fun g => v.on (F.CLM_MTDM_EN.ix g)
  let sg := (List.range 128).filter fun g => v.on (F.CLM_MSTR_EN.ix g)
  let tp (g : Nat) := v.rd (F.CLM_MTDM_PRIMARY.ix g); let ts (g : Nat) := v.rd (F.CLM_MTDM_SECONDARY.ix g)
  let sp (g : Nat) := v.rd (F.CLM_MSTR_PRIMARY.ix g); let ss (g : Nat) := v.rd (F.CLM_MSTR_SECONDARY.ix g)
  let same (f : Fld) (g : Nat) : Bool := v.tdmRd f (tp g) == v.tdmRd f (ts g)
  let sameS (f : Fld) (g : Nat) : Bool := v.rd (f.rx (sp g)) == v.rd (f.rx (ss g))
  ((List.range 16).any fun i => v.claimsOut i && !(v.claimReady p i && v.tdmHasOut i)) ||
  hasDup (tg.flatMap fun g => [tp g, ts g]) ||
  (tg.any fun g => !(v.tdmHasIn (tp g) && v.tdmHasIn (ts g) && same F.TDM_SLOTMASK g && same F.TDM_CTRL_MODE g && same F.TDM_CTRL_SLOTS g &&
    same F.TDM_CTRL_SLOT_BITS g && same F.TDM_CTRL_WORD_BITS g && v.claimReady p (tp g) && v.claimReady p (ts g))) ||
  hasDup (sg.flatMap fun g => [sp g, ss g]) ||
  sg.any fun g => !(v.on (F.RX_CFG0_EN.rx (sp g)) && v.on (F.RX_CFG0_EN.rx (ss g)) && sameS F.RX_CFG0_FORMAT g && sameS F.RX_CFG0_PTIME g &&
    sameS F.RX_CFG0_CH g)

/-- The media ports that streams are sent on (R348; log entry 22). -/
def State.mediaPorts (v : State) : List Nat := if v.on F.NET_CTRL_PRP_EN then [0, 1] else [0]

/-- A media port's link rate in bit/s. -/
def State.linkBps (v : State) (m : Nat) : Nat := [1, 10, 25, 25].getD (v.rd (F.MAC_CTRL_SPEED.pg m)) 25 * 10 ^ 9

/-- Transmit traffic times 48 × 2^(rate class) sample periods, in bits (R368). -/
def State.txBits (v : State) (rate : Nat) : Nat :=
  ((v.txEn).map fun n => (v.txPayload n + 100) * 8 * (48 * 2 ^ rateClass rate / v.txNp n)).sum

/-- Whether a stream limit is broken (R368). -/
def State.streamsBad (v : State) (p : Plan) : Bool :=
  let rx := v.rxEn
  let tx := v.txEn
  let most := ((v.mediaPorts).map v.maxFrame).foldl min 9028
  (rx.any fun n => decide (most < v.rxPayload n + 80)) || (tx.any fun n => decide (most < v.txPayload n + 80)) ||
  decide (1572864 < (rx.map fun n => v.rxCh n * 4 * (v.linkOffset n + 2 * v.rxNp n)).sum) ||
  ((v.mediaPorts).any fun m => decide (9 * v.linkBps m * (48 * 2 ^ rateClass p.rate) < 10 * v.txBits p.rate * p.fs)) ||
  decide (maxNet p.rate < (rx.map fun n => v.rxCh n).sum) || decide (maxNet p.rate < (tx.map fun n => (v.txOuts n).length).sum) ||
  (rx.any fun n => decide (v.rd (F.RX_CFG0_IN_BASE.rx n) % 4 ≠ 0)) || tx.any fun n => decide (v.rd (F.TX_CFG0_OUT_BASE.tx n) % 4 ≠ 0)

/-- Whether a channel has two sources or two destinations, or TDM channels exceed R15 (R312). -/
def State.channelsBad (v : State) (p : Plan) : Bool :=
  let tin := (tdmUsed p).flatMap v.tdmIns
  let tout := (tdmUsed p).flatMap v.tdmOuts
  let ins := tin ++ ((ainUsed p).flatMap fun i => chans (v.rd (F.AIN_CHMAP.pg i)) 2) ++ (if pdmUsed p then v.pdmIns else []) ++ (v.rxEn).flatMap v.rxIns
  let outs := tout ++ ((aoutUsed p).flatMap fun i => chans (v.rd (F.AOUT_CHMAP.pg i)) 2) ++ (v.txEn).flatMap v.txOuts
  hasDup ins || hasDup outs || decide (maxTdm p.rate < tin.length) || decide (maxTdm p.rate < tout.length)

/-- Whether an input channel is a mirrored input (PAIR_MIRIN). -/
def State.mirrored (v : State) (c : Nat) : Bool := v.bitArr F.PAIR_MIRIN c

/-- Check 2, DETAIL 0x300: dimensions and configuration (R15, R312, R326, R473, R547). -/
def State.configBad (v : State) (p : Plan) : Bool :=
  let m := maxDims p.rate
  decide (m.1 < p.sDim) || decide (m.2.1 < p.buDim) || decide (m.2.2 < p.oDim) ||
  (p.insts.any fun i => decide (256 ≤ i.wake ∧ i.wake ≤ 0xFFFE)) || ((tdmUsed p).any fun i => v.tdmBad p.rate i) ||
  ((ainUsed p).any fun i => !rateOk (v.rd (F.AIN_CTRL_RATE.pg i)) p.rate (v.on (F.AIN_CTRL_ASRC.pg i)) || decide (v.rd (F.AIN_CHMAP.pg i) % 2 ≠ 0)) ||
  ((aoutUsed p).any fun i => !rateOk (v.rd (F.AOUT_CTRL_RATE.pg i)) p.rate (v.on (F.AOUT_CTRL_ASRC.pg i)) || decide (v.rd (F.AOUT_CHMAP.pg i) % 2 ≠ 0)) ||
  (pdmUsed p && v.pdmBad p.fs) || v.asrcBad p || v.claimsBad p || v.streamsBad p || v.channelsBad p ||
  p.paths.any fun x => x.mirrored != v.mirrored x.inStrip

/-! Memory (R193, R427, R542). -/

/-- The look-ahead of a strip of a plan (R473). -/
def State.planAhead (v : State) (p : Plan) (ph g : Nat) : Nat :=
  let tol (w : Nat) : Nat := if p.insts.any fun i => i.wake == w && i.cls == 3 then 0 else v.rd (F.EN_WAKE_TOL.ix w)
  ((p.insts.filter fun i => i.phase == ph && i.group == g && decide (i.wake < 256)).map fun i => ceilDiv (tol i.wake * p.fs) 1000000).foldl max 0

/-- Groups that hold a mirrored input. -/
def State.mirroredGroups (v : State) (p : Plan) : Nat :=
  ((List.range (p.sDim / 4)).filter fun g => (List.range 4).any fun l => v.mirrored (4 * g + l)).length

/-- Exchange memory of a plan in bytes (R542). -/
def State.exchangeBytes (v : State) (p : Plan) : Nat :=
  16 * p.F * (p.sDim + p.buDim + p.oDim) + 16 * p.F * v.mirroredGroups p + ((stripsOf p).map fun x => 16 * v.planAhead p x.1 x.2).sum

/-- Program memory of a cluster in bytes (R238). -/
def pmBytes (p : Plan) (place : List Nat) (c : Nat) : Nat :=
  (((indexed p.kerns).filter fun x => (onCluster p place c).any fun i => i.typ == 0x80 && i.kern == x.1).map fun x => 8 * x.2.codeLen).sum

/-- Bytes over a cluster's memories: instance region, program memory, instance descriptors (R193, R196). -/
def clusterOver (p : Plan) (place : List Nat) (c : Nat) : Nat :=
  let on := onCluster p place c
  let region := (on.map (instDataBytes p)).sum
  if 442368 < region then region - 442368
  else if 114688 < pmBytes p place c then pmBytes p place c - 114688
  else 64 * (on.length - 1024)

/-- DRAM that a plan may take (R427). -/
def State.dramRoom (s : State) : Nat := s.dramUsable - dramFixed - s.clipBytes

/-- Check 2: DETAIL and bytes. -/
def State.checkMem (s v : State) (p : Plan) (place : List Nat) : Option (Nat × Nat) :=
  if v.configBad p then some (0x300, 0)
  else match (List.range 16).find? fun c => clusterOver p place c != 0 with
  | some c => some (c, clusterOver p place c)
  | none =>
    if 4194304 < v.exchangeBytes p then some (0x100, v.exchangeBytes p - 4194304)
    else if s.dramRoom < planDram p then some (0x200, planDram p - s.dramRoom)
    else none

/-! Time, traffic, latency. -/

/-- The cluster with the largest of a list of figures, the lower number on a tie. -/
def largest (l : List Nat) : Nat × Nat := (indexed l).foldl (fun (b : Nat × Nat) x => if b.2 < x.2 then x else b) (0, l.headD 0)

/-- DRAM traffic in MB/s, rounded up (R64, R70, R236, R266). -/
def State.dramTraffic (s : State) (p : Plan) : Nat :=
  let bytes := (p.insts.map fun i => RegDir.costDram i.typ).sum * p.fs + (if s.shareClusters = [] then 0 else 256 * 16 * p.fs)
  if s.on F.DR_CFG_ECC_EN then ceilDiv (9 * bytes) 8000000 else ceilDiv bytes 1000000

/-- The traffic limit: 30.72 GB/s over both channels (R70, R429). -/
def State.dramLimit (s : State) : Nat := 15360 * ((List.range 2).filter fun c => s.on (F.DR_CFG_TRAINED.pg c)).length

/-- The declared latency of a strip. -/
def stripLatency (p : Plan) (ph g : Nat) : Nat := ((p.insts.filter fun i => i.phase == ph && i.group == g).map (instLatency p)).sum

/-- What R80 counts for a path's source and for its destination, in samples, ASRC included. -/
def State.srcSamples (v : State) (x : PathRec) : Nat :=
  64 * x.srcAsrc.toNat + match x.srcKind with
    | 0 => 1
    | 1 => 2
    | 2 => 20
    | 3 => v.linkOffset (x.rxStream % 256)
    | _ => 0
def State.dstSamples (v : State) (x : PathRec) : Nat :=
  64 * x.dstAsrc.toNat + match x.dstKind with
    | 0 => 1
    | 1 => 2
    | _ => v.txNp (x.txStream % 256) + 1

/-- Latency of a path in samples (R80, R81, R547). -/
def State.pathLatency (v : State) (p : Plan) (x : PathRec) : Nat :=
  let gi := x.inStrip / 4
  let go := x.outStrip / 4
  let buses := List.range (p.buDim / 4)
  2 * p.F + v.srcSamples x + v.dstSamples x + (if v.mirrored x.inStrip then p.F else 0) +
    (v.planAhead p 0 gi + (buses.map (v.planAhead p 1)).foldl max 0 + v.planAhead p 2 go) +
    (stripLatency p 0 gi + (buses.map (stripLatency p 1)).foldl max 0 + stripLatency p 2 go)

/-! The pair (R294). -/

/-- Mirrored inputs of a plan. -/
def State.mirroredInputs (v : State) : Nat := ((List.range 2048).filter v.mirrored).length

/-- M of R294 in bytes. -/
def State.mirrorBytes (v : State) (p : Plan) : Nat :=
  256 + p.oDim + p.sDim / 8 + 4 * p.F * v.mirroredInputs + (p.insts.map (instMirrorBytes p)).sum

/-- MIRROR_LIMIT. -/
def mirrorLimit (p : Plan) : Nat := 25 * 10 ^ 9 * p.F / (16 * p.fs)

/-- The line rate of a Porbuod rate code in units of 10 kbit/s (R285). -/
def porbuodRate (k : Nat) : Nat := [312500, 1031250, 2578125].getD k 2578125

/-- The Porbuod lanes that are up. -/
def State.lanesUp (s : State) : List Nat := [6, 7].filter fun n => s.on (F.LANE_STAT_UP.pg n)

/-- The rate code the transmission time is taken at (R294). -/
def State.mirrorRate (s : State) : Nat :=
  let code (n : Nat) : Nat := let r := s.rd (F.LANE_STAT_RATE.pg n); if r = 2 then 0 else if r = 5 then 1 else 2
  if s.lanesUp = [] then min (s.rd F.PB_CTRL_MAX_RATE) (s.rd F.PB_PEER_CAP_MAX_RATE) else ((s.lanesUp).map code).foldl min 2

/-- Whether PB_LAT and the transmission time of M, with 64b/66b coding, exceed half a tick. -/
def State.mirrorLate (s v : State) (p : Plan) : Bool :=
  let r := porbuodRate s.mirrorRate
  decide (p.F * 64 * r * 10 ^ 13 < s.rd F.PB_LAT * 2 * p.fs * 64 * r * 10 ^ 4 + v.mirrorBytes p * 8 * 66 * 2 * p.fs * 10 ^ 9)

/-- Check 9: DETAIL (R70, R71, R294). `peer`: whether the standby computes the same result. -/
def State.checkPair (s v : State) (p : Plan) (peer : Bool) : Option Nat :=
  if ¬ s.pair.formed then none
  else if s.linkUp ∧ ¬ peer then some 1
  else if maxMirrored p.rate < v.mirroredInputs then some 2
  else if mirrorLimit p < v.mirrorBytes p ∨ s.mirrorLate v p then some 3
  else none

/-! The judgement. -/

/-- What an ADMIT finds: code of R53, DETAIL, excess, the reason of a refused kernel, and the plan as it would be admitted. -/
structure Judged where
  code : Nat
  detail : Nat
  excess : Nat
  reason : Nat
  plan : Admitted
deriving DecidableEq, Repr

/-- The plan that counts as running for a new admission: one that is taking effect, or the running one. -/
def State.oldPlan (s : State) : Option Admitted := match s.eng.restart with
  | some x => some x.admitted
  | none => s.eng.run

/-- SHARE_CYC on a share cluster (R264). -/
def State.shareOn (s : State) (c : Nat) : Nat := if bitOf (s.rd F.SL_SHARE) c then s.rd F.SL_SHARE_CYC else 0

/-- Whether a plan is disruptive (R73): another F or fs, or a running port whose records change. -/
def disruptivePlan (old : Option Admitted) (p : Plan) : Bool := match old with
  | none => false
  | some o => o.plan.frame != p.frame || o.plan.rate != p.rate ||
      (portPages o.plan.regs).any fun x => (portPages p.regs).contains x && pageChanged o.plan.regs p.regs x

/-- A plan with everything admission decides (R68, R70 to R76, R80, R90). -/
def State.planned (s v : State) (p : Plan) (a : Nat) : Admitted :=
  let old := s.oldPlan
  let pl := placeStrips p old s.shareOn
  let place := placeInsts p pl
  let kept := (indexed p.insts).map fun x => keptOf p old x.1 x.2
  let places := (List.range 16).map fun c => placesOf p place a c
  let sh := s.shareCost
  { plan := p, allowance := a, place := place, kept := kept, coef := layCoef p old kept, disruptive := disruptivePlan old p, places := places,
    rB := rampCols a p.buDim, rD := rampCols a p.oDim,
    path := (List.range 16).map fun c => pathOf p (loadsOn p pl c) p.tB p.tD (s.shareOn c),
    pathRes := (List.range 16).map fun c => pathReserve p (loadsOn p pl c) (p.tB + p.resB a) (p.tD + p.resD a) (s.shareOn c) (places.getD c 0),
    tB := p.tB + p.resB a, tD := p.tD + p.resD a, worstMw := worstMw p place a sh.1 sh.2,
    expMw := partBMw p place a sh.1 sh.2 (v.rd F.EN_EXPECT_PROG_PCT) (v.rd F.EN_EXPECT_BKG_PCT), dramMbps := s.dramTraffic p,
    latency := p.paths.map (v.pathLatency p) }

/-- Check 8: how far the power exceeds the cap in mW, if it does (R468). -/
def State.energyOver (s v : State) (x : Admitted) : Nat :=
  let cap := s.rd F.EN_CAP
  let sh := s.shareCost
  if ¬ capFails x.plan x.place x.allowance sh.1 sh.2 (v.rd F.EN_EXPECT_PROG_PCT) (v.rd F.EN_EXPECT_BKG_PCT) cap then 0
  else if x.plan.planned then max (partAMw x.plan x.place x.allowance sh.1 sh.2 - cap) (x.expMw - cap)
  else x.worstMw - cap

/-- The nine checks in order (R70). -/
def State.judgePlan (s : State) (p : Plan) (a : Nat) (peer : Bool) : Judged :=
  let v := s.underPlan p
  let x := s.planned v p a
  let usable := usableCycles p.F p.fs
  let xpt := 592 + p.tB + p.tD
  let worst := largest (x.path.map (· - usable))
  let res := largest (x.pathRes.map (· - usable))
  match s.checkKernels p with
  | some (k, r, excess) => ⟨9, k, excess, r, x⟩
  | none =>
    match s.checkMem v p x.place with
    | some (d, e) => ⟨3, d, e, 0, x⟩
    | none =>
      if usable < xpt then ⟨2, 0, xpt - usable, 0, x⟩
      else if worst.2 ≠ 0 then ⟨1, worst.1, worst.2, 0, x⟩
      else if s.dramLimit < x.dramMbps then ⟨4, 0, x.dramMbps - s.dramLimit, 0, x⟩
      else match (indexed (p.paths.zip x.latency)).find? fun y => y.2.1.ceiling != 0 && decide (y.2.1.ceiling < y.2.2) with
      | some y => ⟨6, y.1, y.2.2 - y.2.1.ceiling, 0, x⟩
      | none =>
        if usable < 592 + x.tB + x.tD then ⟨7, 0x100, 592 + x.tB + x.tD - usable, 0, x⟩
        else if res.2 ≠ 0 then ⟨7, res.1, res.2, 0, x⟩
        else if s.energyOver v x ≠ 0 then ⟨5, 0, s.energyOver v x, 0, x⟩
        else match s.checkPair v p peer with
        | some d => ⟨8, d, 0, 0, x⟩
        | none => ⟨0, 0, 0, 0, x⟩

/-! The result buffer (R72). -/

/-- The whole buffer; `pair` whether the pair was checked, `cut` whether it is truncated. -/
def resultBytes (j : Judged) (pair cut : Bool) : List Byte :=
  let x := j.plan
  let w (n : Nat) : List Byte := leBytes 4 n
  w j.code ++ w j.detail ++ w j.excess ++ w (usableCycles x.plan.F x.plan.fs) ++ w x.allowance ++
  w (x.disruptive.toNat + 2 * pair.toNat + 4 * cut.toNat) ++ w 0 ++ w 0 ++
  ((List.range 16).flatMap fun c => w (x.path.getD c 0) ++ w (x.pathRes.getD c 0)) ++ w x.tB ++ w x.tD ++ w x.worstMw ++ w x.expMw ++
  w x.dramMbps ++ w x.plan.paths.length ++ w x.plan.insts.length ++ w 0 ++ x.latency.flatMap w ++
  (indexed x.plan.insts).flatMap fun i => leBytes 2 i.1 ++ [BitVec.ofNat 8 (x.place.getD i.1 0), BitVec.ofNat 8 i.2.typ] ++ w (0x2000000 + 256 * i.1)

/-! The Latent bank of an admitted plan (R89, R90, R548). -/

/-- Whether a byte of the bank lies in record or coefficient space that a plan does not use. -/
def unusedByte (a : Admitted) (o : Nat) : Bool :=
  (decide (0x600000 + 64 * a.plan.insts.length ≤ o) && decide (o < 0xA00000)) ||
  (decide (0xA10000 ≤ o) && decide (o < 0x1000000) && !(a.coef.any fun c => decide (c.1 ≤ o) && decide (o < c.1 + c.2)))

/-- Where the record of an instance of the running plan stands before a plan is laid out (R548): in the Latent bank at its handle, or where the
plan admitted before, which still waits for its DEVELOP, moved it; one that plan did not keep is in the active bank alone (log entry 54). -/
def State.keptFrom (s : State) (o : Nat) : Option Nat := match s.eng.pend with
  | none => some o
  | some q => ((indexed q.kept).find? fun x => x.2 == some o).map (·.1)
def State.keptRecord (s : State) (o : Nat) : Nat := match s.keptFrom o with
  | some k => 0x1600000 + 64 * k
  | none => 0x600000 + 64 * o

/-- The record words of an instance: header, CTRL, array, own fields; kept ones come from their record as it stands. -/
def State.layRecord (s : State) (a : Admitted) (h : Nat) (i : InstRec) : List Word :=
  let c := a.coef.getD h (0, 0)
  let hdr : Word := BitVec.ofNat 32 (i.typ + 256 * i.kern + 65536 * i.phase + 16777216 * a.place.getD h 0)
  let own : List Word := match a.kept.getD h none with
    | some o => s.word (s.keptRecord o + 4) :: (List.range 12).map fun k => s.word (s.keptRecord o + 16 + 4 * k)
    | none => 0 :: (if i.typ = 0x80 then List.replicate 12 0 else defaultPar i.typ)
  [hdr, own.headD 0, BitVec.ofNat 32 c.1, BitVec.ofNat 32 c.2] ++ own.tail

/-- The Latent bank laid out: unused space to 0, headers, kept records moved, defaults for what is added (R548). Lines written are
dirty; of the unused space those that held anything (log entry 54). -/
def State.layLatent (s : State) (a : Admitted) : State :=
  let stale (x : Nat × Byte) : Bool := decide (0x1000000 ≤ x.1) && decide (x.1 < 0x2000000) && unusedByte a (x.1 - 0x1000000)
  let gone := (s.win.filter stale).map fun x => (x.1 - 0x1000000) / 64
  let arrays := (indexed a.plan.insts).filter fun x => (a.coef.getD x.1 (0, 0)).2 != 0
  let added := arrays.filter fun x => (a.kept.getD x.1 none).isNone
  let lost := arrays.filter fun x => (a.kept.getD x.1 none).any fun o => (s.keptFrom o).isNone
  let coefLines := (added ++ lost).flatMap fun x => let c := a.coef.getD x.1 (0, 0); (List.range ((c.2 + 63) / 64)).map fun k => c.1 / 64 + k
  let lines := gone ++ (List.range a.plan.insts.length).map (0x18000 + ·) ++ coefLines
  let s1 : State := { s with win := s.win.filter fun x => !stale x }
  let s2 := s1.each (indexed a.plan.insts) fun t x => t.setWin (0x1600000 + 64 * x.1) ((s.layRecord a x.1 x.2).flatMap fun w => leBytes 4 w.toNat)
  let s3 := s2.each added fun t x =>
    let c := a.coef.getD x.1 (0, 0)
    let l := if x.2.typ = 0x80 then List.replicate (c.2 / 4) (0#32) else defaultCoef x.2.typ x.2.size
    t.setWin (0x1000000 + c.1) (l.flatMap fun w => leBytes 4 w.toNat)
  let s4 := s3.each lost fun t x => let c := a.coef.getD x.1 (0, 0); t.setWin (0x1000000 + c.1) (s.winBytes c.1 c.2)
  let marks := lines.foldl (fun (m : NatSet) l => Sparse.set false m l true) s4.scn.lines
  (s4.setScn { s4.scn with lines := marks }).showDirty

/-! The commands. -/

/-- A plan image taken in (R67, R85); none where PLAN_LOAD refuses it. -/
def State.planTaken (s : State) (b : List Byte) : Option State := (parsePlan b).map fun p => { s with eng := { s.eng with loaded := some p } }

/-- PLAN_LOAD (R52, R67, R71, R85, R234). -/
def State.cmdPlanLoad (s : State) (b : List Byte) : CmdRes :=
  match parsePlan b with
  | none => s.fin St.planFormat
  | some p =>
    if p.kerns.any s.kernSigBad then s.fin St.planSig
    else (({ s with eng := { s.eng with loaded := some p } } : State).armChange (.planLoad b)).fin St.ok

/-- What an ADMIT leaves (R70, R73, R82): its registers; the pending plan and its Latent bank, or ADM_REFUSED. -/
def State.admitted_ (s : State) (j : Judged) : State :=
  let s1 := (s.wrAll [(F.ADM_STAT_LAST_CODE, j.code), (F.ADM_DETAIL, j.detail), (F.ADM_EXCESS, j.excess)]).bump F.ADM_STAT_ADMIT_SEQ
  if j.code ≠ 0 then ({ s1 with eng := { s1.eng with admReason := j.reason } } : State).pulse 0x02 4
  else
    let s2 := s1.layLatent j.plan
    ({ s2 with eng := { s2.eng with pend := some j.plan } } : State).wrAll [(F.ADM_STAT_PENDING, 1), (F.ADM_STAT_DISRUPTIVE, j.plan.disruptive.toNat)]

/-- Whether a Develop with a plan is under way (R73). -/
def State.planArmed (s : State) : Bool :=
  (s.scn.armed.elim false fun d => d.withPlan) || s.scn.arming.elim false fun d => d.withPlan

/-- ADMIT (R52, R53, R70 to R73): allowance, the body, whether the standby computes the same. -/
def State.cmdAdmit (s : State) (a : Nat) (b : List Byte) (peer : Bool) : CmdRes :=
  let len := fieldAt b 8 4
  if s.planArmed then s.fin St.state
  else if 100 < a ∨ len < 32 then s.fin St.badArg
  else match s.eng.loaded with
  | none => s.fin St.noPlan
  | some p =>
    let j := s.judgePlan p a peer
    let n := 192 + 4 * p.paths.length + 8 * p.insts.length
    let out := (resultBytes j (s.pair.formed && s.linkUp) (decide (len < n))).take (len / 4 * 4)
    let s1 := (s.admitted_ j).dmaOut (fieldAt b 0 8) out
    let s2 := if j.code = 0 then s1.armChange (.admission a) else s1
    s2.finWith St.ok 0 (j.code + 256 * j.detail) out.length

/-- An admission that the active has armed, on the standby (R71, R304). -/
def State.takeAdmission (s : State) (a : Nat) : State := match s.eng.loaded with
  | some p =>
    let j := s.judgePlan p a true
    if j.code = 0 then s.admitted_ j else s
  | none => s

end Sys2Proof.Machine
end

