-- ==== Sys2Proof/Machine/Areas.lean ====
section
/-!
DEFINITION. Object areas (R91): what each type of object shows (R102, R104 to R107, R117, R119), and their capture.
-/
namespace Sys2Proof.Machine

/-- The player of a clip player's handle. -/
def State.playerAt (s : State) (h : Nat) : Player := s.eng.players.getD (playerOf (s.eng.insts.map (·.info)) h) .rest

/-- REC_STAT (R119). -/
def State.recStat (s : State) : Nat :=
  s.eng.recorder.frozen.toNat + 2 * s.eng.recorder.draining.toNat + 4 * s.eng.recorder.autoPending.toNat

/-- The state word of an instance (R104). -/
def State.stateWord (s : State) (h : Nat) (i : Inst) : Nat :=
  let p := s.playerAt h
  let own := if i.info.typ = 0x0E then
      playerOf (s.eng.insts.map (·.info)) h + 256 * p.clip.isSome.toNat + 512 * (p.clip.isSome && p.looping).toNat + 1024 * p.underrun.toNat
    else if i.info.typ = 0x0F then s.recStat
    else i.word % 2 ^ 24
  own + 2 ^ 24 * i.invalid + 2 ^ 28 * (i.stopped || i.ovr != 0).toNat + 2 ^ 29 * (bitOf i.now.ctrl.toNat 0).toNat +
    2 ^ 30 * i.dissolving.toNat + 2 ^ 31 * i.clamped.toNat

/-- Whether an instance's strip has run in this tick. -/
def State.ranNow (s : State) (i : Inst) : Bool :=
  if i.info.phase = 0 then s.eng.aDone
  else if i.info.phase = 1 then s.eng.cDone.contains i.info.group
  else s.eng.eDone.contains i.info.group

/-- The tick to which an instance's values belong. -/
def State.areaTick (s : State) (i : Inst) : Nat := if s.ranNow i then s.tick else s.tick - 1

/-- A word of an object's own part of its area, from offset 0x20 on. -/
def State.ownWord (s : State) (h : Nat) (i : Inst) (o : Nat) : Word :=
  let int (l : List Int) (n : Nat) : Word := BitVec.ofInt 32 (l.getD n 0)
  let nat (n : Nat) : Word := BitVec.ofNat 32 n
  let k := (o - 0x20) / 4
  match i.info.typ with
  | 0x06 =>
    if k = 0 then int i.st.sum 0
    else if k = 1 then nat ((s.frame - (i.st.sum.getD 1 s.frame).toNat) * s.F * 1000 / s.fs)
    else if k = 2 then int i.st.g 0
    else 0
  | 0x09 => if k < 4 then nat (i.st.lev.getD k 0) else if k < 8 then int i.st.g (k - 4) else if k < 12 then nat (i.st.hold.getD (k - 8) 0) else 0
  | 0x0B => if k < 8 then int i.st.g (k / 2 + 4 * (k % 2)) else if k = 8 then nat i.st.seq else 0
  | 0x0E =>
    let p := s.playerAt h
    let len := (p.clip.bind fun c => s.eng.clips.find? fun x => x.num == c).elim 0 (·.length)
    if k = 0 then (match p.clip with
      | some c => nat c
      | none => 0xFFFFFFFF)
    else if k = 1 then nat (if p.clip.isSome then p.pos else 0)
    else if k = 2 then nat (if p.clip.isSome then len - p.pos else 0)
    else if k = 3 then nat p.underruns
    else 0
  | 0x0F =>
    let r := s.eng.recorder
    if k = 0 then nat r.ctrl else if k = 1 then nat s.recStat else if k = 2 then nat r.freezeTick else if k = 3 then nat (r.freezeTick / 2 ^ 32)
    else if k = 4 then nat r.fill else 0
  | _ => 0

/-- A word of an object area as it stands (R91); an area of no instance reads 0. -/
def State.areaLive (s : State) (h o : Nat) : Word :=
  match s.eng.insts[h]? with
  | none => 0
  | some i =>
    match o / 4 with
    | 0 => BitVec.ofNat 32 (h % 65536 + 2 ^ 16 * i.info.typ + 2 ^ 24 * i.cluster)
    | 1 => BitVec.ofNat 32 (s.stateWord h i)
    | 2 => BitVec.ofNat 32 (s.areaTick i)
    | 3 => BitVec.ofNat 32 (s.areaTick i / 2 ^ 32)
    | 4 => BitVec.ofInt 32 (objReduction i.info i.st 0)
    | 5 => BitVec.ofInt 32 (objReduction i.info i.st 1)
    | 6 => BitVec.ofInt 32 (objReduction i.info i.st 2)
    | 7 => BitVec.ofInt 32 (objReduction i.info i.st 3)
    | _ => s.ownWord h i o

/-- A read of a word of an area: TICK_LO captures the whole area, and later reads return that capture (R91). -/
def State.areaRead (s : State) (h o : Nat) : Word × State :=
  if o = 8 then
    let l := (List.range 64).map fun k => s.areaLive h (4 * k)
    (l.getD 2 0, { s with areas := Sparse.set [] s.areas h l })
  else match Sparse.get [] s.areas h with
    | [] => (s.areaLive h o, s)
    | l => (l.getD (o / 4) 0, s)

/-- A write of a word of an area (R91): HOLD of a meter, REC_CTRL of a tap; every other field ignores it. -/
def State.areaWrite (s : State) (h o : Nat) (w : Word) : State :=
  match s.eng.insts[h]? with
  | none => s
  | some i =>
    if i.info.typ = 0x09 ∧ 0x40 ≤ o ∧ o < 0x50 then s.meterHold h ((o - 0x40) / 4)
    else if i.info.typ = 0x0F ∧ o = 0x20 then s.recCtrl w
    else s

end Sys2Proof.Machine
end

