-- ==== Sys2Proof/Machine/Window.lean ====
section
/-!
DEFINITION. The parameter window as the host reads and writes it (R23, R24, R144 to R146, R150, R158, R240, R290, R291).
-/
namespace Sys2Proof.Machine

/-- Regions of the window (R23). -/
def inActive (o : Nat) : Bool := decide (o < 0x1000000)
def inLatent (o : Nat) : Bool := decide (0x1000000 ≤ o ∧ o < 0x2000000)
def inAreas (o : Nat) : Bool := decide (0x2000000 ≤ o ∧ o < 0x3000000)
def inPresets (o : Nat) : Bool := decide (0x3000000 ≤ o ∧ o < 0x3040000)
def inTriggers (o : Nat) : Bool := decide (0x3040000 ≤ o ∧ o < 0x3040200)
def inTables (o : Nat) : Bool := decide (0x3050000 ≤ o ∧ o < 0x3070000)

/-- The bits that the host may write of a word of the preset store or the trigger table (R146, R150). -/
def storeMask (o : Nat) : Word :=
  if inTriggers o then (match o % 16 with
    | 0 => 0x0007FF87
    | 4 => 0xFFFFFFFF
    | _ => 0)
  else if o < 0x30007F8 then (if o % 8 = 0 then 0xFFFFFFFF else 0x8000FFFF)
  else if o < 0x3000800 then 0
  else if o % 8 = 0 then 0x800FFFFF
  else 0xFFFFFFFF

/-- Whether the content at a word touches a priority-0 route (R145). -/
def State.touchesLs (s : State) (o : Nat) : Bool :=
  if inLatent o then s.lsNode (o - 0x1000000)
  else if inTriggers o then
    let b := s.winBytes (o / 16 * 16) 16
    let a := fieldAt b 4 2
    let z (p : Nat) : Bool := p != 255 && s.presetLs p
    match fieldAt b 1 1 with
    | 1 => s.playerLs (fieldAt b 6 1) || z (fieldAt b 7 1)
    | 2 => z a || z (fieldAt b 7 1)
    | 3 => s.lsBus a
    | 4 => s.lsBus a
    | _ => false
  else if inPresets o then
    if o < 0x30007F8 then s.presetLs ((o - 0x3000000) / 8)
    else if o < 0x3000800 then false
    else s.lsNode (s.presetNode ((o - 0x3000800) / 8))
  else false

/-- A word of the preset store or the trigger table written. -/
def State.storeWord (s : State) (o : Nat) (w : Word) : State := s.setWord o (w &&& storeMask o)

/-- Whether a write touches a priority-0 route by its old or its new content (R144, R145). -/
def State.writeLs (s : State) (o : Nat) (w : Word) : Bool :=
  s.touchesLs o || ((inPresets o || inTriggers o) && (s.storeWord o w).touchesLs o)

/-- A write taken in by the region it falls in (R23, R158, R240); the store's words are journaled by the caller. -/
def State.windowStore (s : State) (o : Nat) (w : Word) : State :=
  if inLatent o then (if s.scn.armed.isSome then s.hold o w else s.latentStore (o - 0x1000000) w)
  else if inPresets o || inTriggers o then s.storeWord o w
  else if inTables o then s.tableWrite o w
  else s

/-- The journal record of a write of the store (R180): the lines it fell in. -/
def State.storeJournal (s : State) (l : List Nat) : State :=
  let lines := ((l.filter fun o => inPresets o || inTriggers o).map (· / 64)).eraseDups
  if lines = [] then s else s.journal 0 (.store (lines.map fun x => (x, s.winBytes (64 * x) 64)))

/-- A write that the unit takes, and sends to its standby (R290). -/
def State.windowTake (s : State) (o : Nat) (w : Word) : State := ((s.windowStore o w).storeJournal [o]).mirrorWrite (.window o w)

/-- A host write through BAR2 or SPI (R24, R91, R144, R291). -/
def State.windowWrite (s : State) (o : Nat) (w : Word) : State :=
  if o % 4 ≠ 0 then s
  else if inAreas o then s.areaWrite ((o - 0x2000000) / 256) (o % 256) w
  else if s.isStandby then (if inActive o then s.pulse 0x24 0 else s).pulse 0x80 7
  else if inActive o then s.pulse 0x24 0
  else if s.mustAuth ∧ s.writeLs o w then s.pulse 0x20 1
  else s.windowTake o w

/-- A read of a word of the window; a preset's LS bit is what its entries give (R146). -/
def State.windowRead (s : State) (o : Nat) : Word × State :=
  let o := o / 4 * 4
  if inAreas o then s.areaRead ((o - 0x2000000) / 256) (o % 256)
  else if inPresets o ∧ o < 0x30007F8 ∧ o % 8 = 4 then
    (s.word o ||| (if s.presetLs ((o - 0x3000000) / 8) then 0x10000 else 0), s)
  else (s.word o, s)

/-- Words read from an offset on. -/
def State.windowWords (s : State) : Nat → Nat → List Word × State
  | _, 0 => ([], s)
  | o, n + 1 =>
    let r := s.windowRead o
    let q := r.2.windowWords (o + 4) n
    (r.1 :: q.1, q.2)

end Sys2Proof.Machine
end

