-- ==== Sys2Proof/Machine/PairMsgs.lean ====
section
/-!
DEFINITION. The pair at work (spec/10): formation (R295 to R298), the Porbuod link's bring-up (R285), messages received (R287 to R293),
mode changes in two phases (R304), agreement (R300 to R303), promotion and handover (R299, R305).
-/
namespace Sys2Proof.Machine

/-- A message acknowledged, whether or not the link counts as up (R287). -/
def State.ackMsg (s : State) (seq : Nat) : State := s.put (.porbuod (.ack seq))

/-- A message with a bad CRC (R287, R309). -/
def State.msgBad (s : State) : State := (s.bump F.PB_CRC_ERR).pulse 0x81 2

/-! The election and the transfer (R295 to R298). -/

/-- The claim a unit enters the election with (R296). -/
def State.electionClaim (s : State) : Nat :=
  if s.pair.follow ∨ s.eng.run.isNone then 0x4000 + s.claim % 16384 else s.claim

/-- The unit sends its join and its election entry over the link (R287, R296). -/
def State.enterElection (s : State) : State :=
  ((s.sendCtrl (.join (BitVec.ofNat 16 s.pair.pairId) s.pair.follow)).sendCtrl
    (.election (BitVec.ofNat 16 s.electionClaim) (BitVec.ofNat 18 (s.rd F.NODE_ID)))).pairTo 2

/-- A unit that is not told to form a pair answers its partner's join where it belongs to the pair already, or forms it by itself
(R296). -/
def State.answerJoin (s : State) : State :=
  if ¬ s.pair.joining ∧ (s.pair.formed ∨ s.on F.PAIR_CFG_AUTO) then
    (s.setPair { s.pair with joining := true, follow := false, pairId := s.rd F.PAIR_CFG_PAIR_ID }).enterElection
  else s

/-- The Porbuod link is up (R285, R286). -/
def State.linkReady (s : State) : State :=
  let f := s.open_
  let s1 := f.2.wrAll [(F.PB_STAT_STATE, 4), (F.PB_LAT, f.1)]
  if s1.pair.joining then s1.enterElection else s1

/-- MAX_RATE of the two units, the lower (R285). -/
def State.topRate (s : State) : Nat := min (s.rd F.PB_CTRL_MAX_RATE) (s.rd F.PB_PEER_CAP_MAX_RATE)

/-- PORBUOD_RATE_STEP (R285): the link steps to the next rate where both units allow it and both lanes train; otherwise it stays. -/
def State.rateStep (s : State) (ok : Bool) : State :=
  if s.rd F.PB_STAT_STATE ≠ 3 then s
  else if ¬ ok then s.linkReady
  else
    let s1 := s.wr F.PB_STAT_RATE (s.rd F.PB_STAT_RATE + 1)
    let s2 := s1.each [6, 7] fun t n => if bitOf (t.rd F.PB_STAT_LANES_UP) (n - 6) then t.wr (F.LANE_STAT_RATE.pg n) (t.laneRate n) else t
    if s1.topRate ≤ s1.rd F.PB_STAT_RATE then s2.linkReady else s2

/-- The formation fails (R295): the command completes, the unit is alone. -/
def State.joinFail (s : State) (status detail : Nat) : State := (s.joinDone status detail).pairTo 0

/-- The partner's capability (R285, R295). -/
def State.capabilityRx (s : State) (m : CtrlMsg) (fw gib maxRate : Nat) (side : Bool) : State :=
  let s1 := (s.wrAll [(F.PB_PEER_CAP_FW, fw), (F.PB_PEER_CAP_DRAM_GIB, gib), (F.PB_PEER_CAP_MAX_RATE, maxRate)]).setPair
    { s.pair with peerCap := some m }
  let s2 := if side = s.on F.PAIR_STAT_SIDE then s1.pulse 0x80 9 else s1
  if s2.rd F.PB_STAT_STATE ≠ 2 then s2
  else if s2.rd F.PB_STAT_RATE < s2.topRate then s2.wr F.PB_STAT_STATE 3
  else s2.linkReady

/-- Whether the partner's DRAM holds the running plan with the clips (R295). -/
def State.peerHolds (s : State) (gib : Nat) : Bool := match s.eng.run with
  | some a => decide (dramFixed + s.clipBytes + planDram a.plan ≤ usableMib gib s.flash.dramEcc * 2 ^ 20)
  | none => true

/-- The loser of an election, or a unit that rejoins, follows its partner (R275, R296). -/
def State.follows (s : State) (c cause : Nat) : State :=
  let s1 := s.setPair { s.pair with formed := true, waiting := false, epoch := claimEpoch c }
  (((s1.toRole .sync cause).refRole).showClaim).transferFrom

/-- The winner: it stays active, or promotes where its ROLE was below 11 (R296). -/
def State.leadsOn (s : State) : State :=
  let s1 := if s.pair.role = .active then s else s.promote 1 false
  (s1.setPair { s1.pair with formed := true, waiting := false }).transferFrom

/-- ELECTION (R295, R296), once the link is up and both units have entered it. -/
def State.election (s : State) : State :=
  match s.pair.peerCap, s.pair.peerElection, s.pair.peerJoin with
  | some (.capability _ compat _ side gib _ lc), some (c, _), some (id, _) =>
    if s.rd F.PAIR_STAT_STATE ≠ 2 ∨ ¬ s.linkUp then s
    else if side = s.on F.PAIR_STAT_SIDE then s.joinFail St.pairLink 2
    else if id ≠ s.pair.pairId then s.joinFail St.pairLink 3
    else if compat.toNat ≠ s.rd F.MB_FW_INFO_PAIR_COMPAT then s.joinFail St.pairLink 4
    else if lc.val ≠ s.lc then s.joinFail St.pairPlan 2
    else
      let s0 := s.setPair { s.pair with peerElection := none, peerJoin := none, restarts := 0 }
      if 0 < claimCompare s.electionClaim c then
        (if s0.peerHolds gib.toNat then s0.leadsOn else (s0.sendCtrl .yield).joinFail St.pairPlan 1)
      else s0.follows c 1
  | _, _, _ => s

/-- PAIR_WAIT_EXPIRY (R296): no partner; the unit promotes alone to epoch 1. -/
def State.waitExpiry (s : State) : State :=
  if ¬ s.pair.waiting then s
  else
    let s1 := (s.promote 1 false).pairTo 0
    (s1.setPair { s1.pair with epoch := 1, newest := some 1, waiting := false, joining := false }).showClaim

/-- PAIR_LINK_TIMEOUT (R295). -/
def State.linkTimeout (s : State) : State := if s.pair.join.isSome ∧ ¬ s.linkUp then s.joinFail St.pairLink 1 else s

/-- STATE_TRANSFER_DONE (R297): the 16 ticks of verification follow. -/
def State.transferDone (s : State) : State :=
  if s.rd F.PAIR_STAT_STATE ≠ 3 then s
  else (s.wrAll [(F.PAIR_STAT_STATE, 4), (F.PAIR_XFER_MS, s.ms - s.pair.xferFrom), (F.PAIR_XFER_PCT, 100), (F.PAIR_XFER_LEFT, 0)]).setPair
    { s.pair with verifyBad := false }

/-- PAIR_VERIFY_DONE (R298): the pair is formed, or the transfer restarts; after three restarts formation fails. -/
def State.verifyDone (s : State) : State :=
  if s.rd F.PAIR_STAT_STATE ≠ 4 then s
  else if ¬ s.pair.verifyBad then
    let s1 := if s.pair.role = .sync then s.toRole .standby 1 else s
    ((s1.pairTo 5).setPair { s1.pair with restarts := 0 }).joinDone St.ok 0
  else if s.pair.restarts < 3 then (s.setPair { s.pair with restarts := s.pair.restarts + 1 }).transferFrom
  else
    let s1 := (s.setPair { s.pair with formed := false, restarts := 0 }).joinFail St.pairPlan 3
    s1.pulse 0x80 8

/-! The commands. -/

/-- PAIR_JOIN (R295): pair ID and FOLLOW in ARG0. -/
def State.cmdPairJoin (s : State) (t : Ticket) (arg0 arg1 : Nat) : CmdRes :=
  let st := s.rd F.PAIR_STAT_STATE
  if 2 ^ 17 ≤ arg0 ∨ arg1 ≠ 0 then s.fin St.badArg
  else if s.pair.join.isSome ∨ (s.pair.joining ∧ ¬ s.pair.waiting) ∨ (2 ≤ st ∧ st ≤ 4) ∨ s.pair.handover.isSome then s.fin St.busy
  else if st = 5 ∧ s.pair.role ≠ .yielded then s.fin St.ok
  else
    let s1 := s.setPair { s.pair with join := some t, joining := true, follow := bitOf arg0 16, pairId := arg0 % 65536 }
    (if s1.linkUp then s1.enterElection else s1.pairTo 1).later

/-- PAIR_YIELD (R299): a handover armed on the active; a standby leaves the pair. -/
def State.cmdPairYield (s : State) (t : Ticket) : CmdRes :=
  if ¬ s.pair.formed then s.fin St.pairAlone
  else if s.pair.role = .active then
    if ¬ s.linkUp ∨ s.rd F.PAIR_STAT_STATE ≠ 5 ∨ claimRole (s.rd F.PAIR_CLAIM_PEER) ≠ 2 then s.fin St.pairAlone
    else if s.scn.armed.isSome ∨ s.scn.arming.isSome ∨ s.pair.handover.isSome then s.fin St.busy
    else ((s.setPair { s.pair with handover := some (s.tick + 4), yieldTicket := some t }).armChange (.handover (s.tick + 4))).later
  else
    let s1 := s.toRole .yielded 2
    let s2 := (s1.refRole).sendCtrl .yield
    (((s2.setPair { s2.pair with formed := false }).pairTo 0).showClaim).fin St.ok

/-- HANDOVER at H (R299): the active yields, the standby promotes. -/
def State.handover (s : State) : State :=
  if s.pair.handover ≠ some s.tick then s
  else if s.pair.role = .active then s.yieldUnit 2
  else if s.isStandby then
    let s1 := s.setPair { s.pair with handover := none }
    s1.promote 3 true
  else s

/-- HANDOVER_COMPLETE at H + 2 (R299): the old active is standby-ready. -/
def State.handoverComplete (s : State) : State :=
  match s.pair.handover with
  | none => s
  | some h =>
    if s.pair.role ≠ .yielded ∨ h + 2 ≠ s.tick then s
    else
      let s1 := s.toRole .standby 2
      let s2 := (s1.setPair { s1.pair with handover := none, yieldTicket := none, epoch := claimEpoch (s.rd F.PAIR_CLAIM_PEER) }).showClaim
      match s.pair.yieldTicket with
      | some t => s2.respond t St.ok 0 0 0
      | none => s2

/-! Mode changes on the standby (R152, R163, R267, R304, R472). -/

/-- The clip starts, firings, shed step or Develop that a mode change names, confirmed. -/
def State.confirmChange (s : State) (m : ModeChange) : State := match m with
  | .develop q _ _ _ _ _ _ _ =>
    let c (d : Develop) : Develop := if d.seq = q then { d with confirmed := true } else d
    s.setScn { s.scn with armed := s.scn.armed.map c, arming := s.scn.arming.map c }
  | .fire i a t e =>
    let l := s.eng.firings.map fun (x : Firing) => if x.input = i ∧ x.asserted = a ∧ x.tick = t ∧ x.entries = e then { x with confirmed := true } else x
    { s with eng := { s.eng with firings := l } }
  | .clip t p c l z =>
    let f (x : ClipStart) : ClipStart :=
      if x.tick = t ∧ x.player = p ∧ x.clip = c ∧ x.loop = l ∧ x.preset = z then { x with confirmed := true } else x
    { s with eng := { s.eng with starts := s.eng.starts.map f } }
  | .fix t => if s.on F.FIX_STAT_PHASE then s else s.beginFix none t
  | .safelight run b =>
    let s1 : State := { s with sl := { s.sl with nextId := if fieldAt b 0 1 = 5 then s.sl.nextId else run } }
    (match fieldAt b 0 1 with
     | 1 => s1.slVerify b 1
     | 2 => s1.slVerify b 2
     | 3 => s1.slLearn b
     | 5 => s1.slAbort b
     | _ => s1.fin 0).st
  | .shed l t => s.setEn { s.en with pending := some (l, t, true) }
  | .handover t => s.setPair { s.pair with handover := some t }
  | _ => s

/-- The active's cancel of a Develop, in time: armed or still being journaled here (R163). -/
def State.cancelPeer (s : State) (q t : Nat) : State :=
  match s.scn.armed, s.scn.arming with
  | some d, _ => if d.seq = q ∧ d.tick = t then s.cancelArmed d else s
  | none, some d =>
    if d.seq = q ∧ d.tick = t then
      (((s.setScn { s.scn with arming := none }).wr F.SCN_STAT_JRNL_BUSY 0).journal q .void).bump F.SCN_CANCEL_CNT
    else s
  | none, none => s

/-- A mode change that the active has armed, taken on the standby; a Develop is journaled first (R304). -/
def State.armedChange (s : State) (m : ModeChange) : State := match m with
  | .planLoad b => (s.planTaken b).getD s
  | .admission a => s.takeAdmission a
  | .develop q t lr ld cl lines regs plan =>
    let d : Develop := { seq := q, tick := t, lr := lr, ld := ld, classes := cl, lines := lines, regs := regs, withPlan := plan,
                         ls := s.coversLs lines, armed := false, ticket := none, pages := 0, confirmed := false }
    let n := ceilDiv ((JrnlBody.develop d (s.planOf d)).bytes) 256
    (s.setScn { s.scn with arming := some { d with pages := n } }).wr F.SCN_STAT_JRNL_BUSY 1
  | .cancel q t => if s.tick + 1 < t then s.cancelPeer q t else s
  | .fire i a t e => { s with eng := { s.eng with firings := s.eng.firings ++ [⟨i, a, t, e, false⟩] } }
  | .clip t p c l z => s.fixStart ⟨t, p, c, l, z, false, false⟩
  | .shed l t => s.setEn { s.en with pending := some (l, t, false) }
  | _ => s

/-- Whether a mode change is acknowledged only once its journal record is written. -/
def isJournaled : ModeChange → Bool
  | .develop _ _ _ _ _ _ _ _ => true
  | _ => false

/-- ARM_MESSAGE_RX (R304). -/
def State.armRx (s : State) (seq : Nat) (m : ModeChange) : State :=
  if ¬ s.isStandby then s
  else
    let s1 := (s.setPair { s.pair with taken := s.pair.taken ++ [⟨seq, m, false⟩] }).armedChange m
    if isJournaled m then s1 else s1.ackMsg seq

/-- CONFIRM_MESSAGE_RX (R304): in time, before the start of tick T − 1. -/
def State.confirmRx (s : State) (seq arm : Nat) : State :=
  let s0 := s.ackMsg seq
  match s.pair.taken.find? fun x => x.seq == arm with
  | none => s0
  | some x =>
    let s1 := s0.setPair { s0.pair with taken := s0.pair.taken.filter fun y => y.seq != arm }
    let inTime : Bool := match changeTick x.change with
      | some t => decide (s.tick + 1 < t)
      | none => true
    if ¬ s.isStandby then s1
    else if inTime then s1.confirmChange x.change
    else match x.change with
      | .fix _ => s1.sendReliable fun _ => .ctrl (.fixDone false)
      | _ => s1

/-- An arm that is not confirmed any more: a FIX then ends without the standby's half, which counts as failed (R179, R304; log entry 55). -/
def State.peerDrops (s : State) (x : Arm) : State := match x.change with
  | .fix _ => (s.setScn { s.scn with peerFix := some false }).fixCheck
  | _ => s

/-- ACK_MESSAGE_RX (R287, R304): the message is out; a mode change is confirmed while there is time. -/
def State.ackRx (s : State) (seq : Nat) : State :=
  let s1 := s.setPair { s.pair with sent := s.pair.sent.filter fun x => x.1 != seq, acks := s.pair.acks.filter fun x => x.1 != seq }
  let s2 := s1.each (s.pair.acks.filter fun x => x.1 == seq) fun t x => t.respond x.2 St.ok 0 0 0
  match s2.pair.arms.find? fun x => x.seq == seq with
  | none => s2
  | some x =>
    let s3 := s2.setPair { s2.pair with arms := s2.pair.arms.filter fun y => y.seq != seq }
    let go : Bool := match x.change, changeTick x.change with
      | .cancel _ _, _ => false
      | _, some t => decide (s.tick + 2 < t)
      | _, none => true
    if go then s3.sendReliable fun _ => .confirm seq else s3.peerDrops x

/-- CONFIRM_DEADLINE (R304): at the start of tick T − 2 an arm without its ACK gets no CONFIRM; the active commits alone. -/
def State.confirmDeadline (s : State) : State :=
  let open_ (x : Arm) : Bool := match changeTick x.change with
    | some t => decide (s.tick + 2 < t)
    | none => true
  (s.setPair { s.pair with arms := s.pair.arms.filter open_ }).each (s.pair.arms.filter fun x => !open_ x) State.peerDrops

/-- PB_RETRANSMIT (R287). -/
def State.retransmit (s : State) (seq : Nat) : State :=
  match s.pair.sent.find? fun x => x.1 == seq with
  | some x => (s.put (.porbuod x.2)).bump F.PB_RETX
  | none => s

/-! What the active sends (R123, R290, R292, R297, R302). -/

/-- A mirrored write taken in (R290). -/
def State.mirrorTake (s : State) (w : MirrorWrite) : State := match w with
  | .register a v =>
    if s.behindStopped a then s.setClk { s.clk with waiting := s.clk.waiting ++ [((cdcOf (a / 4096)).getD 0, a, v)] } else s.takeReg a v
  | .window o v => (s.windowStore o v).storeJournal [o]
  | .ambient z v t h => s.publish z v.toInt t h
  | .shape z n w _ => s.peerShape z n w
  | .restart z n _ => s.peerRestart z n
  | .anchor d v t =>
    let x := s.net.td[Fin.ofNat 4 d]
    if t ≤ s.tick then s.setAnchor (d % 4) v else s.setTd (Fin.ofNat 4 d) { x with move := some (t, v) }

/-- PARAM_MESSAGE_RX (R290): the active's writes in its order. -/
def State.paramRx (s : State) (seq : Nat) (l : List MirrorWrite) : State :=
  let s1 := s.ackMsg seq
  if s.isStandby then s1.each l State.mirrorTake else s1

/-- INPUT_MESSAGE_RX (R292): the frame that this unit starts to process with its next tick. -/
def State.inputRx (s : State) (n : Nat) (l : List (Nat × List Word)) : State :=
  if ¬ s.isStandby ∨ n + 1 ≠ s.tick then s
  else
    let ok := l.foldl (fun (m : NatSet) x => Sparse.set false m x.1 true) []
    let fr := l.foldl (fun (m : Frame) x => (indexed x.2).foldl (fun (m : Frame) y => Sparse.set 0 m (16 * x.1 + y.1) y.2) m) []
    s.setPair { s.pair with mir := fr, mirOk := ok }

/-- STATE_MESSAGE_RX (R123): records that take effect at the next tick boundary. -/
def State.stateRx (s : State) (l : List (Nat × MirrorRec)) : State :=
  if s.isStandby then s.setPair { s.pair with loads := s.pair.loads ++ l } else s

/-- A unit's own configuration goes, for the winner's to take its place (R296, R297). -/
def State.clearConfig (s : State) : State :=
  let s1 := s.each s.mirroredRegs fun t a => (t.setReg a ((t.reg a &&& ~~~(cfgMask a)) ||| (RegDir.reset a &&& cfgMask a))).setLat a (RegDir.reset a)
  let s2 : State := { s1 with win := s1.win.filter fun x => decide (0x3070000 ≤ x.1) }
  let s3 := (s2.setScn { s2.scn with lines := [], regs := [], arming := none, armed := none, held := [] }).showArmed.showDirty
  let e : EngSt := { s3.eng with loaded := none, pend := none, run := none, proc := none, incoming := none, restart := none, insts := [] }
  let e2 : EngSt := { e with ramps := [], deferred := [], raises := [], forces := [], clips := [], starts := [], firings := [] }
  { s3 with eng := { e2 with players := List.replicate 32 .rest } }

/-- A sample put at a point of exchange memory. -/
def EngSt.exchangePut (e : EngSt) (k key : Nat) (w : Word) : EngSt :=
  let p (f : Frame) : Frame := Sparse.set 0 f key w
  match k with
  | 0 => { e with aIn := p e.aIn }
  | 1 => { e with aOut := p e.aOut }
  | 2 => { e with bSum := p e.bSum }
  | 3 => { e with cOut := p e.cOut }
  | 4 => { e with dSum := p e.dSum }
  | _ => { e with eOut := p e.eOut }

/-- One item of a transfer or resync taken in (R297, R302). -/
def State.bulkTake (s : State) (x : BulkItem) : State := match x with
  | .start => s.clearConfig
  | .loaded p => { s with eng := { s.eng with loaded := some p } }
  | .pending a => ({ s with eng := { s.eng with pend := some a } } : State).wrAll [(F.ADM_STAT_PENDING, 1), (F.ADM_STAT_DISRUPTIVE, a.disruptive.toNat)]
  | .plan a =>
    let s1 := s.planIn a
    ({ s1 with eng := { s1.eng with incoming := some ⟨a, none, noDevelop, s.tick, true⟩ } } : State).takeOver
  | .develop q => (s.setScn { s.scn with seq := q }).wr F.SCN_STAT_DEV_SEQ q
  | .window o d => s.setWin o d
  | .register a v l =>
    let m := cfgMask a
    let s1 := s.setReg a ((s.reg a &&& ~~~m) ||| (v &&& m))
    if rwsMask a ≠ 0 then s1.setLat a l else s1
  | .dirtyLine l => s.markLine l
  | .dirtyReg a => s.markReg a
  | .held k w => s.setScn { s.scn with held := s.scn.held ++ [(k, w)] }
  | .clip n r c l p d => s.putClip ⟨n, r, c, l, p, d⟩
  | .inst h i => { s with eng := { s.eng with insts := s.eng.insts.set h i } }
  | .object h st => (match s.eng.insts[h]? with
    | some i => s.setInst h { i with st := st }
    | none => s)
  | .ramps l d => { s with eng := { s.eng with ramps := l, deferred := d } }
  | .holds r f => (({ s with eng := { s.eng with raises := r, forces := f } } : State).showEff).showForce
  | .fired m => s.each (List.range 8) fun t n => t.setTrig n { t.trig n with fired := bitOf m.toNat n }
  | .cluster c a d => s.setCluster c (s.clusters[c].putBytes a d)
  | .exchange k key w => { s with eng := s.eng.exchangePut k.val key w }
  | .conceal ch c => { s with eng := { s.eng with conc := (s.eng.conc.filter fun y => y.1 != ch) ++ [(ch, c)] } }
  | .player n p => { s with eng := { s.eng with players := s.eng.players.set n.val p } }
  | .armed m => (s.armedChange m).confirmChange m
  | .anchor d a => s.setAnchor d.val a.toInt

/-- BULK_MESSAGE_RX (R297, R302). -/
def State.bulkRx (s : State) (seq : Nat) (l : List BulkItem) : State :=
  let s1 := s.ackMsg seq
  if s.isStandby then s1.each l State.bulkTake else s1

/-! Control messages. -/

/-- CTRL_MESSAGE_RX (R285, R287, R295, R296, R299, R303). -/
def State.ctrlRx (s : State) (seq : Nat) (m : CtrlMsg) : State :=
  let s1 := s.ackMsg seq
  match m with
  | .capability fw _ _ side gib rate _ => s1.capabilityRx m fw.toNat gib.toNat rate.val side
  | .election c node => (s1.setPair { s1.pair with peerElection := some (c.toNat, node.toNat) }).wr F.PAIR_PEER_NODE node.toNat
  | .join id f => (s1.setPair { s1.pair with peerJoin := some (id.toNat, f) }).answerJoin
  | .yield =>
    if s1.pair.joining ∧ s1.rd F.PAIR_STAT_STATE ≤ 3 then (s1.setPair { s1.pair with formed := false }).joinFail St.pairPlan 1
    else (s1.setPair { s1.pair with formed := false }).pairTo 0
  | .kat ok => (s1.setPair { s1.pair with peerKat := some ok }).katSettle
  | .fixDone ok => (s1.setScn { s1.scn with peerFix := some ok }).fixCheck

/-! Agreement (R293, R300 to R303). -/

/-- Groups whose signatures differ between two lists. -/
def diffGroups (a b : List Nat) : List Nat := (List.range (max a.length b.length)).filter fun g => a.getD g 0 != b.getD g 0

/-- An unexcused mismatch, or one of the tick number: both units run a short known-answer round (R303). -/
def State.disagree (s : State) : State := (s.pulse 0x80 1).katCall

/-- The signatures and the mask of frame n − 2 compared (R301, R302). -/
def State.compareFrame (s : State) (fr : Nat) (sigs mask : List Nat) : State :=
  match s.pair.sigs.find? fun x => x.1 == fr, s.pair.masks.find? fun x => x.1 == fr with
  | some own, some om =>
    let open_ := if diffGroups om.2 mask ≠ [] then some (fr + s.rd F.PAIR_EXCUSE) else s.pair.window
    let s1 := s.setPair { s.pair with window := open_, reopened := if diffGroups om.2 mask ≠ [] then false else s.pair.reopened }
    let bad := diffGroups own.2 sigs
    let s2 := s1.each bad fun t g => t.wr (F.PAIR_SIGDIFF.ix (g / 32)) (putBit (t.rd (F.PAIR_SIGDIFF.ix (g / 32))) (g % 32) true)
    let s3 := s2.setPair { s2.pair with mism := bad.foldl (fun (m : NatSet) g => Sparse.set false m g true) [] }
    let s4 := s3.wr F.PAIR_STAT_AGREE (bad = [] ∧ open_ = none : Bool).toNat
    if bad = [] then s4
    else if open_.isSome then (s4.bump F.PAIR_EXCUSE_CNT).pulse 0x80 6
    else if s.rd F.PAIR_STAT_STATE = 4 then s4.setPair { s4.pair with verifyBad := true }
    else (s4.bump F.PAIR_MISMATCH_CNT).disagree
  | _, _ => s

/-- The digests compared (R298, R300). -/
def State.compareDigest (s : State) (d : Nat) : State :=
  if d = s.pair.digest then s
  else
    let s1 := s.pulse 0x80 2
    if s.rd F.PAIR_STAT_STATE = 4 then s1.setPair { s1.pair with verifyBad := true } else s1.resync

/-- The link has returned (R289, R297, R306): a unit that has yielded rejoins, and the standby resyncs. -/
def State.rejoin (s : State) : State :=
  let s1 := if s.pair.role = .yielded then (s.toRole .sync 1).refRole else s
  s1.transferFrom

/-- TICK_MESSAGE_RX (R287, R289, R293, R300 to R303, R305). -/
def State.tickRx (s : State) (n claim digest : Nat) (sigs mask : List Nat) : State :=
  let s1 := ((s.setPair { s.pair with hbGot := true, hbMiss := 0 }).source 0x81 1 false).source 0x80 0 false
  let s2 := s1.peerClaim claim
  if ¬ s2.pair.formed then s2
  else match s2.rd F.PAIR_STAT_STATE with
    | 1 => s2.rejoin
    | 3 => if s2.isStandby then s2.wr64 F.TICK_NUM_LO F.TICK_NUM_HI n else s2
    | _ =>
      if n ≠ s2.tick then s2.disagree
      else (s2.compareFrame (n - 2) sigs mask).compareDigest digest

/-- EXCUSE_WINDOW_CLOSE (R302): with groups still mismatching the active sends what is not mirrored and the window opens again;
a mismatch that outlasts the second window is unexcused. -/
def State.windowClose (s : State) : State :=
  match s.pair.window with
  | none => s
  | some w =>
    if s.tick < w + 2 then s
    else if s.pair.mism = [] then
      (s.setPair { s.pair with window := none, reopened := false }).wr F.PAIR_STAT_AGREE 1
    else if s.pair.reopened then
      (s.setPair { s.pair with window := none, reopened := false }).bump F.PAIR_MISMATCH_CNT |>.disagree
    else
      let l := ((indexed s.eng.insts).filter fun x => !x.2.info.mirror).map fun x => BulkItem.object x.1 x.2.st
      let s1 := (s.setPair { s.pair with window := some (s.tick + s.rd F.PAIR_EXCUSE), reopened := true }).bump F.PAIR_RESYNC_CNT
      if s1.leads ∧ s1.linkUp then s1.sendReliable fun _ => .bulk l else s1

/-! Heartbeats and CLMI (R277, R289, R305, R310). -/

/-- Clip images that a lost partner will not acknowledge: their commands complete alone. -/
def State.acksDone (s : State) : State :=
  (s.setPair { s.pair with acks := [] }).each s.pair.acks fun t x => t.respond x.2 St.ok 0 0 0

/-- HEARTBEAT_MISS: after two the link is lost, and a standby-ready unit whose CLMI words remain valid demotes itself. -/
def State.heartbeatMiss (s : State) : State :=
  let s1 := (s.setPair { s.pair with hbMiss := s.pair.hbMiss + 1, hbRun := 0 }).wr F.PAIR_STAT_PEER_LINK 0
  if s1.pair.hbMiss < 2 ∨ ¬ s1.pair.formed then s1
  else
    let s2 := (s1.source 0x81 1 true).pairTo 1
    let s3 := if s2.pair.role = .standby ∧ s2.pair.clmiMiss < 2 then s2.demote else s2
    ((if 2 ≤ s3.pair.clmiMiss then s3.source 0x80 0 true else s3).fixCheck).acksDone

/-- CLMI_LOST: two ticks of a formed pair without a valid word. -/
def State.clmiLost (s : State) : State :=
  if s.pair.formed ∧ 2 ≤ s.pair.clmiMiss then
    let s1 := s.source 0x83 0 true
    if 2 ≤ s.pair.hbMiss then s1.source 0x80 0 true else s1
  else s

/-- CLMI_WORD_RX (R279, R305, R306). -/
def State.clmiRx (s : State) (w : Word) : State :=
  if ¬ s.on F.CLM_CTRL_PINS_EN then s
  else match claimOf w with
    | none => (s.bump F.CLM_BAD_CNT).pulse 0x83 3
    | some c => ((s.wr F.CLM_PINS_LAST c).setPair { s.pair with clmiGot := true }).peerClaim c

/-- PROMOTION (R305): the partner's claim carries ROLE 00, or heartbeats and CLMI words are missed. -/
def State.promotion (s : State) : State :=
  let lost := decide (2 ≤ s.pair.hbMiss) && decide (2 ≤ s.pair.clmiMiss)
  if s.isStandby ∧ s.eng.run.isSome ∧ (s.pair.peerOut ∨ lost) then
    let s1 := s.promote (if s.pair.peerOut then 3 else 4) false
    (if lost then s1.source 0x80 0 true else s1).setPair { s1.pair with loads := [], mir := [], mirOk := [] }
  else s

end Sys2Proof.Machine
end

