-- ==== Sys2Proof/Machine/RegRead.lean ====
section
/-!
DEFINITION. Reads of registers: what each register shows (R9, R10, R26, R41, R49, R143, R144, R157, R394, R512), FREEZE (R26), and what
a read captures or clears (R26, R286, R329, R352, R386, R449).
-/
namespace Sys2Proof.Machine

/-- Header registers that alias those of the block's first page (R26). -/
def aliasOf (a : Nat) : Nat :=
  let o := a % 4096
  if a < 0x100000 ∧ (o = 0x008 ∨ o = 0x024 ∨ o = 0x028 ∨ o = 0x030) then homePage (a / 4096) * 4096 + o else a

/-- XPT_BUS_PRIO as it reads: 0 for a life-safety bus (R143). -/
def State.prioRead (s : State) (a : Nat) (w : Word) : Word :=
  (List.range 8).foldl (fun (w : Word) j => if s.lsBus (8 * ((a - 0x20200) / 4) + j) then Fld.put ⟨0, 4 * j + 3, 4 * j⟩ w 0 else w) w

/-- A register as it stands. -/
def State.liveWord (s : State) (a0 : Nat) : Word :=
  let a := aliasOf a0
  let m := rwsMask a
  let w := s.reg (s.home a) &&& ~~~(accMask .wo a)
  let v := if m ≠ 0 ∧ ¬ s.on F.SCN_CTRL then (w &&& ~~~m) ||| (s.latReg a &&& m) else w
  if 0x20200 ≤ a ∧ a < 0x20300 then s.prioRead a v
  else if a = F.XPT_LS_STAT_LS_LOCK.addr then s.lsStat
  else if (a / 4096 = 0x2A ∨ a / 4096 = 0x2B) ∧ 0x40 ≤ a % 4096 then s.ambRead a v
  else if (a / 4096 = 0x0A ∨ a / 4096 = 0x0B) ∧ 0x100 ≤ a % 4096 ∧ a % 4096 < 0x500 ∧ a % 0x20 = 8 ∧
      ¬ s.ringExists ((a / 4096 - 0x0A) * 32 + (a % 4096 - 0x100) / 0x20) then v &&& 0xFFFFFFFE
  else if a = F.CLM_MERGE.addr ∧ v = 0 then 8
  else if a = F.FLT_INJ_MODE.addr ∧ s.lc ≠ 1 then 0
  else v

/-- What FREEZE shows of it (R26): settings as they stand, the rest as captured. PAGE_STAT is not frozen. -/
def State.shownWord (s : State) (a : Nat) : Word :=
  let h := homePage (a / 4096)
  match s.snaps.find? fun x => x.1 == h with
  | none => s.liveWord a
  | some x =>
    if a % 4096 = 0x00C then s.liveWord a
    else
      let r := s.home (aliasOf a)
      (s.liveWord a &&& cfgMask a) ||| (Sparse.get (RegDir.reset r) x.2 r &&& ~~~(cfgMask a))

/-- The registers that a read of `a` captures: HI for LO, the rest of a time or of a page. -/
def capturesOf (a : Nat) : List Nat :=
  let p := a / 4096
  let o := a % 4096
  if a = F.DEV_SERIAL_LO.addr ∨ a = F.TICK_NUM_LO.addr ∨ a = F.OVR_TICK_LO.addr ∨ a = F.TRIG_TICK_LO.addr ∨ a = F.SCN_ARM_LO.addr ∨
      a = F.SCN_LAST_LO.addr ∨ a = F.FIX_TICK_LO.addr ∨ a = F.PAIR_LAST_TICK_LO.addr ∨ a = F.PAIR_DIGEST_LO.addr ∨
      ((p = 0x89 ∨ p = 0x8A) ∧ o = 0x05C) ∨ (0x78 ≤ p ∧ p < 0x80 ∧ o = 0x094) ∨ (0x68 ≤ p ∧ p < 0x6C ∧ (o = 0x060 ∨ o = 0x088)) ∨
      a = F.TDC_CNT_LO.addr ∨ a = F.TDC_TICK_LO.addr then [a + 4]
  else if 0x68 ≤ p ∧ p < 0x6C ∧ o = 0x048 then [a + 4, a + 8, a + 12]
  else if a = F.TICK_TS_SEC_HI.addr then [a + 4, a + 8]
  else if 0x40 ≤ p ∧ p < 0x48 ∧ o = 0x080 then
    (List.range 12).map (fun i => p * 4096 + 0x050 + 4 * i) ++ (List.range 12).map fun i => p * 4096 + 0x090 + 4 * i
  else if a = F.REF_PD_SEQ.addr then [F.REF_PD.addr]
  else []

/-- The captures of a read of `a`. -/
def State.captured (s : State) (a : Nat) : State :=
  { s with caps := (capturesOf a).foldl (fun m x => Sparse.set 0 m x ((s.shownWord x).toNat + 1)) s.caps }

/-- What a read returns: a captured value where there is one. -/
def State.readWord (s : State) (a : Nat) : Word := match Sparse.get 0 s.caps a with
  | 0 => s.shownWord a
  | n => BitVec.ofNat 32 (n - 1)

/-- What a read clears or takes with it. -/
def State.readEffect (s : State) (a : Nat) : State :=
  if a % 4096 = 0x00C ∧ a < 0x100000 then s.wr (F.PAGE_STAT_STALE.pg (a / 4096)) 0
  else if a = F.PB_LANE0_STAT_BLOCK_ERR.addr then s.wr F.PB_LANE0_STAT_BLOCK_ERR 0
  else if a = F.PB_LANE1_STAT_BLOCK_ERR.addr then s.wr F.PB_LANE1_STAT_BLOCK_ERR 0
  else if a = F.FLT_TOP_SEQ.addr then (let o := s.open_; o.2.topCapture o.1)
  else s.captured a

/-- A host read of a register (R10, R393, R394): the word, and the state after it. -/
def State.readReg (s : State) (a0 : Nat) : Word × State :=
  let a := a0 / 4 * 4
  let p := a / 4096
  if (RegDir.page? p).isNone then (0, s.unallocated p)
  else if ¬ s.on (F.PAGE_STAT_READY.pg p) then (RegDir.reset a, s)
  else
    let s1 := if s.behindStopped a then s.wr (F.PAGE_STAT_STALE.pg p) 1 else s
    (s.readWord a, s1.readEffect a)

/-- A read of FLT_TOP when `elapsedUs` of the top entry's timer have passed (R449). -/
def State.readTop (s : State) (elapsedUs : Nat) : State :=
  if s.on (F.PAGE_STAT_READY.pg 0x90) then (s.topCapture elapsedUs).answer (s.readWord F.FLT_TOP_SEQ.addr)
  else s.answer (RegDir.reset F.FLT_TOP_SEQ.addr)

/-- The word of a write to a page's PAGE_CTRL that changes one bit of it and commands no reset (R26: SRST reads 0). -/
def State.pageCtrlWith (s : State) (p n : Nat) (v : Bool) : Word :=
  BitVec.ofNat 32 (putBit (s.reg (homePage p * 4096 + 0x008) &&& 0xFFFFFFFD#32).toNat n v)

/-- A host write of one field of a register, its other bits as they stand. -/
def State.fieldWrite (s : State) (f : Fld) (v : Nat) : State := s.hostWrite f.addr (f.put (s.reg f.addr) v)

/-- The word of a write to FLT_INJ (R519). -/
def injWord (mode target src : Nat) : Word := BitVec.ofNat 32 (2 ^ 28 * mode + 65536 * (target % 512) + src % 16)

/-- A read answered. -/
def State.readAnswer (s : State) (a : Nat) : State := let r := s.readReg a; r.2.answer r.1

end Sys2Proof.Machine
end

