-- ==== Sys2Proof/Machine/HostCmd.lean ====
section
/-!
DEFINITION. The host's commands: their checks and dispatch (R36, R43, R44, R47 to R54), CLIP_LOAD (R113), LOG_READ (R495), Contact
sheets (R55 to R57, R104, R106), event delivery (R44, R46), the SPI target (R38 to R41).
-/
namespace Sys2Proof.Machine

/-! What the checks need to know of an opcode (R52). -/

namespace Op

def nop : Nat := 0x0000
def paramWrite : Nat := 0x0010
def paramRead : Nat := 0x0011
def planLoad : Nat := 0x0020
def admitPlan : Nat := 0x0021
def develop : Nat := 0x0030
def fix : Nat := 0x0031
def clipLoad : Nat := 0x0040
def clipPlay : Nat := 0x0041
def safelight : Nat := 0x0050
def pairJoin : Nat := 0x0060
def pairYield : Nat := 0x0061
def timeStep : Nat := 0x0070
def timeRate : Nat := 0x0071
def logRead : Nat := 0x0080
def sheetDefine : Nat := 0x0090
def updBegin : Nat := 0x00F0
def updChunk : Nat := 0x00F1
def updCommit : Nat := 0x00F2
def lifecycle : Nat := 0x00FF

end Op

/-- Opcodes of R52 with their minimum role. -/
def minRole : Nat → Option Nat
  | 0x00 => some 0 | 0x10 => some 1 | 0x11 => some 0 | 0x20 => some 2 | 0x21 => some 2 | 0x30 => some 1 | 0x31 => some 2
  | 0x40 => some 2 | 0x41 => some 1 | 0x50 => some 2 | 0x60 => some 2 | 0x61 => some 2 | 0x70 => some 2 | 0x71 => some 2
  | 0x80 => some 0 | 0x90 => some 1 | 0xF0 => some 2 | 0xF1 => some 2 | 0xF2 => some 2 | 0xFF => some 2
  | _ => none

/-- Opcodes of ring 0 alone. -/
def adminOnly (op : Nat) : Bool := op == 0x90 || op == 0xF0 || op == 0xF1 || op == 0xF2 || op == 0xFF

/-- Whether a body has a length that the opcode takes, in life-cycle state `lc`. DESIGN CHOICE (log entry 52): PARAM_WRITE's 'up to 4,096 bytes' bounds
the data words, without the offset word; and a PARAM_WRITE without a data word is BAD_LEN. -/
def lenOk (op lc n : Nat) : Bool := match op with
  | 0x10 => decide (8 ≤ n ∧ n ≤ 4100 ∧ n % 4 = 0)
  | 0x11 => n == 16
  | 0x20 => true
  | 0x21 => n == 12
  | 0x30 => n == 16
  | 0x50 => n == 32
  | 0x70 => n == 12
  | 0x80 => n == 16
  | 0x90 => n % 4 == 0
  | 0xF0 => n == 256
  | 0xF1 => true
  | 0xFF => n == (if lc = 1 then 96 else 0)
  | _ => n == 0

/-- Commands that a standby takes (R54), a decommissioned device (R496), and a device in recovery (R490). -/
def standbyTakes (op : Nat) : Bool := op == 0x00 || op == 0x11 || op == 0x80 || op == 0x60 || op == 0x61
def deadTakes (op : Nat) : Bool := op == 0x00 || op == 0x80 || op == 0x11
def recoveryTakes (op : Nat) : Bool := op == 0x00 || op == 0xF0 || op == 0xF1 || op == 0xF2

/-! Authentication (R47 to R49). -/

/-- Whether the device is in recovery (R490). -/
def State.inRecovery (s : State) : Bool := s.rd F.MB_BOOT_STAGE == 7

/-- The last accepted SEQ of a role. -/
def seqField (role : Nat) : Fld := if role = 1 then F.AUTH_SEQ_OP else if role = 2 then F.AUTH_SEQ_MT else F.AUTH_SEQ_LS

/-- The trailer that a command should carry (R47). -/
def State.mac (s : State) (d : Desc) : List Byte :=
  (Config.hmacSha256 (s.sec.keys.getD (d.role.toNat - 1) []) (leBytes 4 (s.rd F.AUTH_NONCE) ++ d.bytes ++ d.body)).take 16

/-- Whether a command's trailer is checked. -/
def State.checked (s : State) (d : Desc) : Bool := decide (2 ≤ s.lc) && d.auth && decide (1 ≤ d.role.toNat ∧ d.role.toNat ≤ 3)

/-- Whether a command must carry one: R49, and the advance from Provisioned (R497). -/
def State.mustCarry (s : State) (d : Desc) : Bool :=
  decide (1 ≤ d.role.toNat) && (s.mustAuth || (s.lc == 2 && d.op.toNat == Op.lifecycle))

/-- The authentication check: a status where it fails. -/
def State.authStatus (s : State) (d : Desc) : Option Nat :=
  if s.mustCarry d ∧ 3 < d.role.toNat then some St.authFail
  else if s.checked d then
    if s.sec.tampered ∨ s.sec.keys.getD (d.role.toNat - 1) [] = [] ∨ d.trailer ≠ s.mac d then some St.authFail else none
  else if s.mustCarry d then some St.authRequired
  else none

/-- An authentication failure (R49): counted, raised, and a burst of 16 in a second raised too. -/
def State.authFailed (s : State) : State :=
  let l := (s.host.fails ++ [s.ms]).filter fun t => decide (s.ms < t + 1000)
  let s1 := (({ s with host := { s.host with fails := l } } : State).bump F.AUTH_FAIL_CNT).pulse 0x08 3
  if 16 ≤ l.length then ({ s1 with host := { s1.host with fails := [] } } : State).pulse 0x08 4 else s1

/-! The checks common to every command (R50). -/

/-- The first check that fails, in the order of R50, and the state after it. -/
def State.precheck (s : State) (ring : Nat) (d : Desc) : Option Nat × State :=
  let op := d.op.toNat
  match minRole op with
  | none => (some St.badOpcode, s)
  | some low =>
    if ring ≠ 0 ∧ adminOnly op then (some St.badRing, s)
    else if (d.auth ∧ d.bufLen.toNat < 16) ∨ ¬ lenOk op s.lc d.bodyLen then (some St.badLen, s)
    else if ¬ d.reach ∧ (d.bufLen ≠ 0 ∨ s.on F.HOST_CTRL_RING_OWNER) then (some St.dmaErr, s)
    else match s.authStatus d with
      | some e => (some e, s.authFailed)
      | none =>
        if 1 ≤ d.role.toNat ∧ d.role.toNat ≤ 3 ∧ d.seq.toNat ≤ s.rd (seqField d.role.toNat) then (some St.replay, s)
        else if d.role.toNat < low ∨ 3 < d.role.toNat then (some St.role, s)
        else if s.inRecovery ∧ ¬ recoveryTakes op then (some St.state, s)
        else if s.lc = 4 ∧ (¬ deadTakes op ∨ d.role ≠ 0) then (some St.state, s)
        else if s.isStandby ∧ ¬ standbyTakes op then (some St.standby, s)
        else (none, s)

/-- The SEQ of a command that is not refused, recorded for its role (R48, R50). -/
def State.accept (s : State) (d : Desc) (status : Nat) : State :=
  if status = St.ok ∧ 1 ≤ d.role.toNat ∧ d.role.toNat ≤ 3 then s.wr (seqField d.role.toNat) d.seq.toNat else s

/-! PARAM_WRITE and PARAM_READ. -/

/-- Whether a range of the ring memory, or of the host's memory, can be written (R41, R51). -/
def State.destBad (s : State) (d : Desc) (addr len : Nat) : Bool :=
  if s.on F.HOST_CTRL_RING_OWNER then decide (0x10000 < addr + len) else !d.dest

/-- Data words with their offsets. -/
def offsetWords : Nat → List Word → List (Nat × Word)
  | _, [] => []
  | o, w :: t => (o, w) :: offsetWords (o + 4) t

/-- The store's words of a write, written. -/
def State.storeWords (s : State) (l : List (Nat × Word)) : State :=
  s.each (l.filter fun x => inPresets x.1 || inTriggers x.1) fun t x => t.storeWord x.1 x.2

/-- A write of level 0 into the ARG_B of a raise-priority entry (R150). -/
def State.raiseZero (s : State) (l : List (Nat × Word)) : Bool :=
  let t := s.storeWords l
  l.any fun x => inTriggers x.1 && decide (x.1 % 16 = 4) && (let b := t.winBytes (x.1 / 16 * 16) 16
                                                             fieldAt b 1 1 == 3 && fieldAt b 6 1 == 0)

/-- Whether a write touches a priority-0 route by its old or its new content (R145). -/
def State.writeTouches (s : State) (l : List (Nat × Word)) : Bool :=
  let t := s.storeWords l
  l.any fun x => s.touchesLs x.1 || ((inPresets x.1 || inTriggers x.1) && t.touchesLs x.1)

/-- PARAM_WRITE (R52, R145, R150, R158, R180, R290). -/
def State.cmdParamWrite (s : State) (role : Nat) (b : List Byte) : CmdRes :=
  let off := fieldAt b 0 4
  let l := offsetWords off (wordsOf (b.drop 4))
  if s.scn.armed.isSome ∧ l.any (fun x => inLatent x.1) then s.fin St.state
  else if off % 4 ≠ 0 ∨ s.raiseZero l then s.fin St.badArg
  else if 0x4000000 < off + (b.length - 4) then s.fin St.paramRange
  else if l.any fun x => inActive x.1 then (s.pulse 0x24 0).fin St.paramActive
  else if role < 3 ∧ s.writeTouches l then s.fin St.paramLs
  else
    let areas := l.filter fun x => inAreas x.1
    let rest := l.filter fun x => !inAreas x.1
    let s1 := s.each areas fun t x => t.areaWrite ((x.1 - 0x2000000) / 256) (x.1 % 256) x.2
    let s2 := (s1.each rest fun t x => t.windowStore x.1 x.2).storeJournal (rest.map (·.1))
    (s2.each rest fun t x => t.mirrorWrite (.window x.1 x.2)).fin St.ok

/-- PARAM_READ (R52). -/
def State.cmdParamRead (s : State) (d : Desc) (b : List Byte) : CmdRes :=
  let dst := fieldAt b 0 8
  let off := fieldAt b 8 4
  let len := fieldAt b 12 4
  if off % 4 ≠ 0 ∨ len % 4 ≠ 0 ∨ len = 0 ∨ 65536 < len then s.fin St.badArg
  else if 0x4000000 < off + len then s.fin St.paramRange
  else if s.destBad d dst len then s.fin St.dmaErr
  else
    let r := s.windowWords off (len / 4)
    (r.2.dmaOut dst (r.1.flatMap fun w => leBytes 4 w.toNat)).finWith St.ok 0 0 0

/-! CLIP_LOAD (R113). -/

/-- The data of an upload ring's descriptors. -/
def uploadData (q : List Desc) : List Byte := q.flatMap fun d => d.buf.take d.bufLen.toNat

/-- The fewest descriptors that hold `n` bytes. -/
def coverCount : Nat → List Desc → Nat
  | _, [] => 0
  | n, d :: t => if n ≤ (d.buf.take d.bufLen.toNat).length then 1 else 1 + coverCount (n - (d.buf.take d.bufLen.toNat).length) t

/-- Descriptors of an upload ring taken in: HEAD moves on. -/
def State.takeUpload (s : State) (ring : Nat) : Nat → State
  | 0 => s
  | n + 1 => match s.queueOf ring with
    | [] => s
    | d :: _ => ((s.consume ring).countIrq ring d.irq).takeUpload ring n

/-- A clip image's header against R113. -/
def clipHeaderBad (b : List Byte) : Bool :=
  let ch := fieldAt b 5 1
  fieldAt b 0 4 != 0x50494C43 || decide (5 < fieldAt b 4 1) || !(ch == 1 || ch == 2 || ch == 4) || fieldAt b 6 2 != 0 ||
    fieldAt b 16 16 != 0 || (fieldAt b 8 4 != 0 && decide (fieldAt b 8 4 ≤ fieldAt b 12 4))

/-- Free bytes of the clip library, the clip it replaces given up (R427). -/
def State.libraryRoom (s : State) (num : Nat) : Nat :=
  s.dramUsable - s.dramTop - dramFixed - (s.clipBytes - ((s.eng.clips.filter fun c => c.num == num).map Clip.bytes).sum)

/-- A clip taken into the library, and sent to the standby of a pair, whose acknowledgement completes the command. -/
def State.clipTaken (s : State) (t : Ticket) (c : Clip) : CmdRes :=
  let s1 := s.putClip c
  if s.leads ∧ s.linkUp then
    let n := s1.pair.nextSeq
    let s2 := s1.sendReliable fun _ => .bulk [.clip c.num c.rate c.channels c.length c.loopStart c.data]
    (s2.setPair { s2.pair with acks := s2.pair.acks ++ [(n, t)] }).later
  else s1.fin St.ok

/-- CLIP_LOAD with what its upload ring has so far: it waits for the rest. -/
def State.clipGather (s : State) (t : Ticket) (num ring : Nat) : CmdRes :=
  let q := s.queueOf ring
  let b := uploadData q
  let wait : CmdRes := ({ s with host := { s.host with clipWait := some (t, num, ring) } } : State).later
  let s0 : State := { s with host := { s.host with clipWait := none } }
  let head := coverCount 32 q
  if q.any fun d => !d.reach then (s0.takeUpload ring q.length).fin St.dmaErr
  else if b.length < 32 then wait
  else if clipHeaderBad b then (s0.takeUpload ring head).fin St.badArg
  else
    let len := fieldAt b 8 4
    let n := 32 + 4 * fieldAt b 5 1 * len
    if b.length < n then wait
    else
      let s1 := s0.takeUpload ring (coverCount n q)
      if len ≠ 0 ∧ s.libraryRoom num < n then s1.fin St.clipSpace
      else s1.clipTaken t ⟨num, fieldAt b 4 1, fieldAt b 5 1, len, fieldAt b 12 4, wordsOf ((b.take n).drop 32)⟩

/-- CLIP_LOAD (R52, R113). DESIGN CHOICE (log entry 52): one that names an upload ring that does not run completes with DMA_ERR. -/
def State.cmdClipLoad (s : State) (t : Ticket) (num ring : Nat) : CmdRes :=
  if 4095 < num ∨ ring < 48 ∨ 55 < ring then s.fin St.badArg
  else if s.host.clipWait.isSome then s.fin St.busy
  else if ¬ s.ringRuns ring then s.fin St.dmaErr
  else s.clipGather t num ring

/-- A CLIP_LOAD that waits, after new data. -/
def State.clipGoOn (s : State) : State := match s.host.clipWait with
  | none => s
  | some (t, num, ring) =>
    let r := s.clipGather t num ring
    match r.reply with
    | some (st, de, re, len) => r.st.respond t st de re len
    | none => r.st

/-! LOG_READ (R495). -/

/-- The record of a SEQ, 64 zero bytes where it falls in a gap. -/
def State.logBytes (s : State) (seq : Nat) : List Byte :=
  match (s.log.staged ++ s.log.stored).find? fun r => r.seq == seq with
  | some r => r.bytes
  | none => List.replicate 64 0

def State.cmdLogRead (s : State) (d : Desc) (b : List Byte) : CmdRes :=
  let dst := fieldAt b 0 8
  let first := fieldAt b 8 4
  let n := fieldAt b 12 4
  if n = 0 ∨ 4096 < n then s.fin St.badArg
  else if first < s.rd F.LOG_OLDEST ∨ s.rd F.LOG_HEAD < first + n - 1 then s.fin St.logRange
  else if s.destBad d dst (64 * n) then s.fin St.dmaErr
  else (s.dmaOut dst ((List.range n).flatMap fun i => s.logBytes (first + i))).finWith St.ok 0 n 0

/-! Contact sheets (R55 to R57). -/

/-- A selector's fields. -/
def selKind (w : Word) : Nat := bitsOf w.toNat 31 30
def selLane (w : Word) : Nat := bitsOf w.toNat 29 28
def selInst (w : Word) : Nat := bitsOf w.toNat 15 0

/-- The meter of a handle (R106). -/
def State.meter? (s : State) (h : Nat) : Option Inst := match s.eng.insts[h]? with
  | some i => if i.info.typ = 0x09 then some i else none
  | none => none

/-- The sum of the fractions N / K over the sheets, as numerator and denominator (R57). -/
def sheetLoad (l : List (Nat × Nat)) : Nat × Nat := l.foldl (fun (a : Nat × Nat) x => (a.1 * x.2 + x.1 * a.2, a.2 * x.2)) (0, 1)

/-- Whether sheets of N selectors every K ticks exceed 100,000,000 values per second (R57). -/
def State.sheetsOver (s : State) (l : List (Nat × Nat)) : Bool :=
  let x := sheetLoad l
  decide (100000000 * s.F * x.2 < x.1 * s.fs)

/-- N and K that a sheet takes up: its replacement's where one waits. -/
def Sheet.load (x : Sheet) : Nat × Nat := match x.next with
  | some (k, l) => (l.length, k)
  | none => (x.sels.length, x.k)

def State.setSheets (s : State) (l : List Sheet) : State := { s with host := { s.host with sheets := l } }

/-- A sheet that has gathered nothing. -/
def Sheet.fresh (ring k : Nat) (sels : List Word) (dropped : Bool) : Sheet :=
  { ring := ring, k := k, sels := sels, done := 0, dropped := dropped, acc := sels.map fun _ => (0, 0, 0), next := none }

/-- SHEET_DEFINE (R52, R55, R57, R106). DESIGN CHOICE (log entry 52): the K ticks of a ring's first sheet count from the tick in progress; and a
selector of KIND 2 or 3 may name a handle that no object has, and gives 0 then. -/
def State.cmdSheetDefine (s : State) (ring k : Nat) (b : List Byte) : CmdRes :=
  let l := wordsOf b
  if ring < 32 ∨ 47 < ring ∨ k = 0 ∨ 65535 < k ∨ l.any (fun w => bitsOf w.toNat 27 16 != 0 || (decide (selKind w < 2) && (s.meter? (selInst w)).isNone)) then
    s.fin St.badArg
  else if l = [] ∨ 8192 < l.length then s.fin St.sheetSize
  else
    let others := s.host.sheets.filter fun x => x.ring != ring
    if s.sheetsOver ((l.length, k) :: others.map Sheet.load) then s.fin St.sheetRate
    else match s.host.sheets.find? fun x => x.ring == ring with
      | some x => (s.setSheets (others ++ [{ x with next := some (k, l) }])).fin St.ok
      | none => (s.setSheets (others ++ [.fresh ring k l false])).fin St.ok

/-- Bits of a state word that a sheet ORs over its ticks (R104). -/
def sheetOr (typ : Nat) : Nat := 0x1F000000 + (if typ = 0x09 then 0xF else if typ = 0x0E then 0x400 else 0)

/-- What one tick adds to a selector: largest magnitude, sum of squares, the state bits ORed. -/
def State.gatherSel (s : State) (w : Word) (a : Nat × Nat × Nat) : Nat × Nat × Nat :=
  match s.eng.insts[selInst w]? with
  | none => (a.1, a.2.1, 0)
  | some i =>
    let l := selLane w
    let m := i.info.typ == 0x09
    (if m then max a.1 (i.st.lev.getD l 0) else a.1, if m then a.2.1 + (i.st.sum.getD l 0).toNat else a.2.1,
      Nat.lor (a.2.2 &&& sheetOr i.info.typ) (s.stateWord (selInst w) i))

/-- Whether a selector's handle has no object, or no meter where it needs one. -/
def State.selStale (s : State) (w : Word) : Bool :=
  if selKind w < 2 then (s.meter? (selInst w)).isNone else s.eng.insts[selInst w]?.isNone

/-- A selector's value after `n` samples (R56). -/
def State.selValue (s : State) (w : Word) (a : Nat × Nat × Nat) (n : Nat) : Nat :=
  if s.selStale w then 0
  else match selKind w with
    | 0 => a.1
    | 1 => rmsOf a.2.1 n
    | 2 => (match s.eng.insts[selInst w]? with
      | some i => unsigned (objReduction i.info i.st (Fin.ofNat 4 (selLane w))) 32
      | none => 0)
    | _ => a.2.2

/-- A sheet's bytes for the ticks up to `t` (R56). -/
def State.sheetBytes (s : State) (x : Sheet) (t : Nat) : List Byte :=
  let flags := s.isStandby.toNat + 2 * (x.sels.any s.selStale).toNat + 4 * x.dropped.toNat
  leBytes 2 x.ring ++ leBytes 2 x.sels.length ++ leBytes 4 x.k ++ leBytes 8 t ++ leBytes 2 flags ++ List.replicate 14 0 ++
    (x.sels.zip x.acc).flatMap fun p => leBytes 4 (s.selValue p.1 p.2 (x.k * s.F))

/-- A sheet at the end of tick `t`: gathered, and formed where its K ticks are over. -/
def State.gatherSheet (s : State) (t : Nat) (x : Sheet) : State :=
  let x1 := { x with done := x.done + 1, acc := (x.sels.zip x.acc).map fun p => s.gatherSel p.1 p.2 }
  if x1.done < x1.k then s.setSheets (s.host.sheets ++ [x1])
  else
    let s1 : State := { s with host := { s.host with due := s.host.due ++ [(x.ring, s.sheetBytes x1 t)] } }
    s1.setSheets (s1.host.sheets ++ [match x.next with
      | some (k, l) => .fresh x.ring k l false
      | none => .fresh x.ring x.k x.sels false])

/-- Every sheet at the end of a tick. -/
def State.gatherSheets (s : State) (t : Nat) : State := (s.setSheets []).each s.host.sheets fun u x => u.gatherSheet t x

/-- CONTACT_SHEET_EMIT (R41, R44, R45, R56): the next due sheet of a ring into its posted buffer; without one that is large enough it is
dropped and counted; a buffer that is unreachable fails alone, and the sheet stays due. DESIGN CHOICE (log entry 52): the completed descriptor has no
command ring, and its byte 3 stays the host's. -/
def State.sheetEmit (s : State) (ring : Nat) : State :=
  match s.host.due.find? fun x => x.1 == ring with
  | none => s
  | some x =>
    let s1 : State := { s with host := { s.host with due := s.host.due.erase x } }
    let drop := (s1.setSheets (s1.host.sheets.map fun y => if y.ring = ring then { y with dropped := true } else y)).bumpSat
      (F.RING_STAT_DROP.ring ring)
    match s.posted ring with
    | none => drop
    | some d =>
      if ¬ d.reach then s.failPosted ring d
      else if d.bufLen.toNat < x.2.length then drop
      else
        ((s1.fillPosted d x.2).put (.sheet ring x.2)).finishPosted ring d d.op.toNat d.role.toNat d.tag.toNat x.2.length 0 d.seq.toNat

/-! Event delivery (R44, R46). -/

/-- EVENT_DELIVERY: the oldest queued event of a ring into a posted buffer that no response needs. DESIGN CHOICE (log entry 52): the event sequence
number is a counter of its own over all event rings, from 0, taken at delivery; it is not the record's SEQ in the log. -/
def State.deliverEvent (s : State) (ring : Nat) : State :=
  match Sparse.get [] s.host.events ring, s.posted ring with
  | r :: rest, some d =>
    if (s.queueOf ring).length ≤ s.outstanding (ring - 16) then s
    else if ¬ d.reach then s.failPosted ring d
    else
      let n := s.host.evtSeq
      let s1 : State := { s with host := { s.host with events := Sparse.set [] s.host.events ring rest, evtSeq := (n + 1) % 2 ^ 32 } }
      let b := r.bytes.take d.bufLen.toNat
      ((s1.fillPosted d b).put (.event ring n r)).finishPosted ring d (0xE000 + r.typ) 0xFF 0 b.length 0 n
  | _, _ => s

/-- RING_IRQ_TIMEOUT: TIME_US has passed since the first completion that is not signalled. -/
def State.irqTimeout (s : State) (ring : Nat) : State :=
  if Sparse.get 0 s.host.unsignalled ring = 0 then s
  else
    ({ s with host := { s.host with unsignalled := Sparse.set 0 s.host.unsignalled ring 0 } } : State).sendVec
      (s.rd (F.RING_IRQ_VEC.ring ring))

/-! Dispatch (R43, R44). -/

/-- SAFELIGHT_RUN by its OP byte (R255). -/
def State.cmdSafelight (s : State) (t : Ticket) (b : List Byte) : CmdRes := match fieldAt b 0 1 with
  | 1 => s.slVerify b 1
  | 2 => s.slVerify b 2
  | 3 => s.slLearn b
  | 4 => s.slStore t b
  | 5 => s.slAbort b
  | _ => s.fin St.badArg

/-- DEVELOP, or the cancel of one (R159, R162). -/
def State.cmdDevelopOrCancel (s : State) (t : Ticket) (d : Desc) : CmdRes :=
  let tick := d.arg0.toNat + 2 ^ 32 * d.arg1.toNat
  if bitOf (fieldAt d.body 5 1) 0 then s.cmdCancel d.role.toNat tick d.body else s.cmdDevelop t d.role.toNat tick d.body

/-- ADMIT, whose result buffer must be reachable once the device's state allows it (R50, R72, R73); whether the standby's own admission agrees (R71) is given or open. -/
def State.cmdAdmitTo (s : State) (d : Desc) (peer : Option Bool) : CmdRes :=
  if ¬ s.planArmed ∧ s.destBad d (fieldAt d.body 0 8) (fieldAt d.body 8 4) then s.fin St.dmaErr
  else match peer with
    | some b => s.cmdAdmit d.arg0.toNat d.body b
    | none => let o := s.open_; o.2.cmdAdmit d.arg0.toNat d.body (bitOf o.1 0)

/-- A command that has passed the common checks (R52); `peer` = the standby's own admission agrees (R71). -/
def State.perform (s : State) (t : Ticket) (d : Desc) (peer : Option Bool) : CmdRes :=
  match d.op.toNat with
  | 0x00 => s.fin St.ok
  | 0x10 => s.cmdParamWrite d.role.toNat d.body
  | 0x11 => s.cmdParamRead d d.body
  | 0x20 => s.cmdPlanLoad d.body
  | 0x21 => s.cmdAdmitTo d peer
  | 0x30 => s.cmdDevelopOrCancel t d
  | 0x31 => s.cmdFix t
  | 0x40 => s.cmdClipLoad t d.arg0.toNat d.arg1.toNat
  | 0x41 => s.cmdClipPlay d.role.toNat d.arg0.toNat
  | 0x50 => s.cmdSafelight t d.body
  | 0x60 => s.cmdPairJoin t d.arg0.toNat d.arg1.toNat
  | 0x61 => s.cmdPairYield t
  | 0x70 => s.timeStep d.arg0.toNat d.body
  | 0x71 => s.timeRate d.arg0.toNat d.arg1
  | 0x80 => s.cmdLogRead d d.body
  | 0x90 => s.cmdSheetDefine d.arg0.toNat d.arg1.toNat d.body
  | 0xF0 => s.cmdUpdBegin d.role.toNat d.body
  | 0xF1 => s.cmdUpdChunk d.arg0.toNat d.body
  | 0xF2 => s.cmdUpdCommit
  | 0xFF => s.cmdLifecycle t d.arg0.toNat d.body
  | _ => s.fin St.badOpcode

/-- A command's ticket. -/
def Desc.ticket (d : Desc) (ring : Nat) : Ticket := ⟨ring, d.op.toNat, d.tag.toNat, d.seq.toNat, d.irq⟩

/-- A dispatched command: checked, performed, and answered where it completes at once (R50, R54). -/
def State.runCommand (s : State) (ring : Nat) (d : Desc) (peer : Option Bool) : State :=
  let t := Sys2Proof.Machine.Desc.ticket d ring
  let c := s.precheck ring d
  let r : CmdRes := match c.1 with
    | some e => c.2.fin e
    | none => c.2.perform t d peer
  match r.reply with
  | some (st, de, re, len) =>
    let s1 := (r.st.accept d st).respond t st de re len
    if s.inRecovery ∧ d.op.toNat = Op.updCommit ∧ st = St.ok then s1.coldReset 4 else s1
  | none => r.st.accept d St.ok

/-- Whether the device takes commands from a ring: management ready, or in recovery the admin ring (R184, R487, R490). -/
def State.takesCommands (s : State) (ring : Nat) : Bool :=
  !s.flt.pfailSeq && (s.on F.DEV_STAT_MGMT_READY || (s.inRecovery && (s.flash.dir0 || s.flash.dir1) && ring == 0))

/-- Whether a ring's next command can be dispatched (R44). -/
def State.canDispatch (s : State) (ring : Nat) : Bool :=
  s.takesCommands ring && s.ringRuns ring && s.queueOf ring != [] && s.hasRoom ring

/-- The command rings in the order of a round-robin, from the one after the last that it dispatched. -/
def State.turn (s : State) (k : Nat) : List Nat := (List.range 16).map fun i => (s.host.last.getD k 0 + 1 + i) % 16

/-- Whether a ring's next command has the Life-safety role. DESIGN CHOICE (log entry 52): only the head of a ring is looked at; a Life-safety
descriptor behind another gives its ring no precedence (R43: within a ring, commands go in ring order). -/
def State.headIsLs (s : State) (ring : Nat) : Bool := match (s.queueOf ring).head? with
  | some d => d.role == 3#8
  | none => false

/-- The ring of those that pass whose command is next: ring 0 before the others, then the higher PRIO, round-robin among equals (R43); `k` = 4 for
the Life-safety heads, which have round-robins of their own. -/
def State.bestOf (s : State) (k : Nat) (ok : Nat → Bool) : Option Nat :=
  if ok 0 then some 0
  else ([3, 2, 1, 0].findSome? fun p => (s.turn (p + k)).find? fun r => ok r && s.rd (F.RING_CTRL_PRIO.ring r) == p)

/-- The ring whose command is next (R43). -/
def State.nextRing (s : State) : Option Nat :=
  match s.bestOf 4 fun r => s.canDispatch r && s.headIsLs r with
  | some r => some r
  | none => s.bestOf 0 s.canDispatch

/-- A ring's place in its round-robin taken (R43). -/
def State.tookTurn (s : State) (ring : Nat) (d : Desc) : State :=
  if ring = 0 then s
  else
    let k := s.rd (F.RING_CTRL_PRIO.ring ring) + (if d.role = 3#8 then 4 else 0)
    { s with host := { s.host with last := setAt s.host.last k ring } }

/-- The command at the head of a ring dispatched. -/
def State.dispatch (s : State) (ring : Nat) (peer : Option Bool) : State := match s.queueOf ring with
  | [] => s
  | d :: _ => (((s.consume ring).tookTurn ring d).runCommand ring d peer).showBlocked ring

/-- The next command of the rings dispatched, if there is one. -/
def State.dispatchNext (s : State) (peer : Option Bool) : State := match s.nextRing with
  | some r => s.dispatch r peer
  | none => s

/-- A command put on its ring, and the rings' next command dispatched: the descriptor, and the doorbell that announces it (R42). -/
def State.command (s : State) (ring : Nat) (d : Desc) (peer : Option Bool) : State :=
  let tail := (s.rd (F.RING_TAIL.ring ring) + 1) % s.ringSize ring
  (s.doorbell ring tail (fun _ => d) true).dispatchNext peer

/-- RING_DOORBELL (R42, R45). -/
def State.ringDoorbell (s : State) (ring tail : Nat) (l : List Desc) (ok : Bool) : State :=
  if s.on F.HOST_CTRL_RING_OWNER then (s.bareDoorbell ring tail).clipGoOn
  else (s.doorbell ring tail (fun k => l.getD k zeroDesc) ok).clipGoOn

/-! The SPI target (R38 to R41). -/

/-- A word written through SPI. -/
def State.spiWrite (s : State) (space off : Nat) (w : Word) : State :=
  if space = 0 then s.writeBy true (off % 0x100000) w
  else if space = 1 then s.windowWrite (off % 0x4000000) w
  else s.spiPut (off % 0x10000) (leBytes 4 w.toNat)

def State.spiWrites (s : State) (space : Nat) : Nat → List Word → State
  | _, [] => s
  | off, w :: t => (s.spiWrite space off w).spiWrites space (off + 4) t

/-- A word read through SPI. -/
def State.spiRead (s : State) (space off : Nat) : Word × State :=
  if off % 4 ≠ 0 then (let o := s.open_; (BitVec.ofNat 32 o.1, o.2))
  else if space = 0 then s.readReg (off % 0x100000)
  else if space = 1 then s.windowRead (off % 0x4000000)
  else (BitVec.ofNat 32 (leNat ((List.range 4).map fun i => Sparse.get (0 : Byte) s.host.spi (off % 0x10000 + i))), s)

def State.spiReads (s : State) (space : Nat) : Nat → Nat → List Word × State
  | _, 0 => ([], s)
  | off, n + 1 =>
    let r := s.spiRead space off
    let q := r.2.spiReads space (off + 4) n
    (r.1 :: q.1, q.2)

/-- SPI_TRANSACTION (R38, R39): opcode, address, the bytes that follow of a write, the words that a read clocks out. -/
def State.spiTransaction (s : State) (op : Byte) (addr : Word) (data : List Byte) (nread : Nat) : State :=
  let head := op :: beBytes 4 addr.toNat
  let space := bitsOf addr.toNat 31 28
  let off := bitsOf addr.toNat 27 0
  let crc := s.on F.SPI_CTRL
  let body := if crc then data.take (data.length - 2) else data
  if op = 0x02#8 then
    if crc ∧ (data.length < 2 ∨ data.drop (data.length - 2) ≠ beBytes 2 (crc16 (head ++ body))) then s.wr F.SPI_STAT_CRC_ERR 1
    else if 2 < space then s.wr F.SPI_STAT_SPACE_ERR 1
    else if off % 4 ≠ 0 then s
    else s.spiWrites space off (wordsOf body)
  else if op = 0x0B#8 then
    if 2 < space then s.wr F.SPI_STAT_SPACE_ERR 1
    else
      let r := s.spiReads space off nread
      r.2.put (.spi r.1 (if crc then some (crc16 (head ++ r.1.flatMap fun w => leBytes 4 w.toNat)) else none))
  else s

end Sys2Proof.Machine
end

