-- ==== Sys2Proof/Machine/Engine.lean ====
section
/-!
DEFINITION. The tick (spec/01, 03): its start and end, tick entry and phases A to E, strips with their look-ahead, gating and shedding,
late output groups, a kernel out of budget; what both units of a pair send at a tick start (R292 to R294, R300 to R302).
-/
namespace Sys2Proof.Machine

/-- The engine processes frames: running, and not stopped by a fault. -/
def State.engineOn (s : State) : Bool := s.on F.DEV_STAT_ENGINE && s.on F.TICK_STAT_RUNNING && s.eng.proc.isSome

/-! Exchange memory. -/

/-- Samples whose exchange words failed their ECC read as 0 (R415). -/
def zeroed (x : Frame) (errs : List (Nat × Bool)) : Frame := (errs.filter (·.2)).foldl (fun x e => Sparse.set 0 x e.1 0) x

/-- ECC errors met in a memory: word, whether double (R415). -/
def State.eccErrors (s : State) (mem : Nat) (errs : List (Nat × Bool)) : State := s.each errs fun t e => t.sramError mem e.1 e.2

/-! Strips. -/

/-- A strip's input through its look-ahead of `n` group-samples, and what stays behind, newest first (R473). -/
def aheadOf (n : Nat) (held xs : List Quad) : List Quad × List Quad :=
  let old := held.reverse
  let q := List.replicate (n - old.length) (Vector.replicate 4 0) ++ old.drop (old.length - n) ++ xs
  (q.take xs.length, (q.drop xs.length).reverse)

/-- Whether a strip's cluster is gated or not yet awake (R475, R476), or idle (R30). -/
def State.stripGated (s : State) (ph g : Nat) : Bool :=
  match s.eng.insts.find? fun i => i.info.phase == ph && i.info.group == g with
  | some i => s.rd (F.PWR_STATE_CUR.pg (0x10 + i.cluster)) != 0 || !s.enabled (0x10 + i.cluster)
  | none => false

/-- A strip at its level while shed or restored (R471). -/
def State.stripLevel (s : State) (key : Nat) (ys : List Quad) : List Quad × State :=
  let l := Sparse.get OutLevel.full s.eng.shed key
  if l = .full then (ys, s)
  else ((indexed ys).map fun p => lanes fun k => l.at_ p.1 (p.2)[k],
    { s with eng := { s.eng with shed := Sparse.set OutLevel.full s.eng.shed key (l.next s.F) } })

/-- One frame of a strip (R83, R84, R209, R471, R473, R475). -/
def State.strip (s : State) (ph g : Nat) (bad late : List (Nat × Nat × Option Nat)) (xs : List Quad) : List Quad × State :=
  let key := 65536 * ph + g
  let q := aheadOf (s.stripAhead ph g) (Sparse.get [] s.eng.look key) xs
  let s1 : State := { s with eng := { s.eng with look := Sparse.set [] s.eng.look key q.2 } }
  if s1.stripGated ph g ∨ Sparse.get OutLevel.full s.eng.shed key = .zero then (xs.map fun _ => Vector.replicate 4 0, s1.tapeZeros ph g)
  else
    let r := s1.runStrip ph g bad late q.1
    r.2.stripLevel key r.1

/-! Phases (R17). -/

/-- Phase A of an input group. -/
def State.phaseA (s : State) (g : Nat) (bad late : List (Nat × Nat × Option Nat)) : State :=
  let r := s.strip 0 g bad late (groupAt s.eng.aIn g s.F)
  { r.2 with eng := { r.2.eng with aOut := putGroup r.2.eng.aOut g r.1 } }

/-- PHASE_B once phase A is complete (R17, R127, R415): errors met in node memory and in exchange memory, engine cycles. -/
def State.runB (s : State) (nodeErrs errs : List (Nat × Bool)) (cycles : Nat) : State :=
  if ¬ s.engineOn ∨ ¬ s.eng.aDone ∨ s.eng.bDone then s
  else
    let s1 := (s.eccErrors 0 nodeErrs).eccErrors 1 errs
    let s2 : State := { s1 with eng := { s1.eng with aOut := zeroed s1.eng.aOut errs } }
    s2.phaseB ((nodeErrs.filter (·.2)).map (·.1)) cycles

/-- The cluster that carries a strip. -/
def State.stripCluster (s : State) (ph g : Nat) : Option Nat :=
  (s.eng.insts.find? fun i => i.info.phase == ph && i.info.group == g).map (·.cluster)

/-- Whether it is a strip's turn on its cluster: strips run in ascending group order (R209). -/
def State.inTurn (s : State) (ph g : Nat) (done : List Nat) : Bool :=
  (List.range g).all fun k => done.contains k || (s.stripCluster ph k).isNone || s.stripCluster ph k != s.stripCluster ph g

/-- What the clusters that run are at (R208, R209; CL_STAT.PHASE): 0 idle, 1 tick entry, 6 barrier wait. -/
def State.clustersAt (s : State) (v : Nat) : State :=
  s.each ((List.range 16).filter fun c => !s.domainStopped c) fun t c => t.wr (F.CL_STAT_PHASE.pg c) v

/-- PHASE_C of a bus group once its columns are complete (R17, R135). -/
def State.runC (s : State) (g : Nat) (errs : List (Nat × Bool)) (bad late : List (Nat × Nat × Option Nat)) : State :=
  if ¬ s.engineOn ∨ ¬ s.eng.bDone ∨ s.eng.cDone.contains g ∨ s.vrd F.XPT_DIM0_BU ≤ 4 * g ∨ ¬ s.inTurn 1 g s.eng.cDone then s
  else
    let s1 := s.eccErrors 1 errs
    let r := s1.strip 1 g bad late (groupAt (zeroed s1.eng.bSum errs) g s1.F)
    { r.2 with eng := { r.2.eng with cOut := putGroup r.2.eng.cOut g r.1, cDone := g :: r.2.eng.cDone } }

/-- Whether every bus group, every output group is complete. -/
def State.cComplete (s : State) : Bool := (List.range (s.vrd F.XPT_DIM0_BU / 4)).all fun g => s.eng.cDone.contains g
def State.eComplete (s : State) : Bool := (List.range (s.vrd F.XPT_DIM1 / 4)).all fun g => s.eng.eDone.contains g

/-- PHASE_D once phase C is complete for every bus (R17, R127, R128, R139, R415). -/
def State.runD (s : State) (nodeErrs errs : List (Nat × Bool)) (cycles : Nat) : State :=
  if ¬ s.engineOn ∨ ¬ s.eng.bDone ∨ ¬ s.cComplete ∨ s.eng.dDone then s
  else
    let s1 := (s.eccErrors 0 nodeErrs).eccErrors 1 errs
    let s2 : State := { s1 with eng := { s1.eng with cOut := zeroed s1.eng.cOut errs } }
    (s2.phaseD ((nodeErrs.filter (·.2)).map (·.1)) cycles).noteBusy

/-- An instance's mirrored record (R92, R123, R237). -/
def State.mirrorOf (s : State) (h : Nat) (i : Inst) : MirrorRec :=
  match i.info.typ with
  | 0x07 | 0x08 | 0x0C => .inputs (i.st.x.map (·.take s.F))
  | 0x0E => .player (s.eng.players.getD (playerOf (s.eng.insts.map (·.info)) h) .rest)
  | 0x80 => (match s.eng.proc, s.kernOf i with
    | some a, some k => .bytes (s.clusters[fin16 i.cluster].bytesAt (instBase a h + k.mirrorOff) k.mirrorBytes)
    | _, _ => .bytes [])
  | _ => .object i.st

/-- Records that the active sends once the tick's objects have run, for the standby to load at the next tick boundary (R123, R297): the mirrored
ones, and all of them during a transfer. -/
def State.mirrorRecords (s : State) : List (Nat × MirrorRec) :=
  ((indexed s.eng.insts).filter fun x => s.rd F.PAIR_STAT_STATE == 3 || (x.2.info.mirror && x.2.info.typ != 0x0F)).map fun x =>
    (x.1, s.mirrorOf x.1 x.2)
def State.sendRecords (s : State) : State := if s.leads then s.send (.state s.mirrorRecords) else s

/-- PHASE_E of an output group (R17); after the last one the share's work of the tick is done (R264) and the silence detector has
judged the frame (R474). -/
def State.runE (s : State) (g : Nat) (errs : List (Nat × Bool)) (bad late : List (Nat × Nat × Option Nat)) : State :=
  if ¬ s.engineOn ∨ ¬ s.eng.dDone ∨ s.eng.eDone.contains g ∨ s.vrd F.XPT_DIM1 ≤ 4 * g ∨ ¬ s.inTurn 2 g s.eng.eDone then s
  else
    let s1 := s.eccErrors 1 errs
    let r := s1.strip 2 g bad late (groupAt (zeroed s1.eng.dSum errs) g s1.F)
    let e := r.2.eng
    let s2 := r.2.setEng { e with eOut := putGroup e.eOut g r.1, eDone := g :: e.eDone, lateOut := Sparse.set ([], 0) e.lateOut g ([], 0) }
    if s2.eComplete then (((s2.shareTick).silence).sendRecords).clustersAt 0 else s2

/-- TICK_OVR (R79): an output group that is not complete when its port needs it holds its last samples and ramps them out. -/
def State.tickOvr (s : State) (g : Nat) : State :=
  if ¬ s.engineOn ∨ s.eng.eDone.contains g ∨ s.vrd F.XPT_DIM1 ≤ 4 * g then s
  else
    let x := Sparse.get ([], 0) s.eng.lateOut g
    let held := if x.1 = [] then (List.range 4).map fun l => sampleAt s.eng.emit (4 * g + l) (s.F - 1) else x.1
    let ys := holdRamp held x.2 s.F
    let e := s.eng
    let s1 := s.setEng { e with eOut := putGroup e.eOut g ys, eDone := g :: e.eDone, lateOut := Sparse.set ([], 0) e.lateOut g (held, min 32 (x.2 + s.F)) }
    (s1.bump F.TICKOVR_COUNT).pulse 0x02 1

/-- KERNEL_BUDGET_EXHAUSTED (R212): the kernel in the foreground of a cluster has one cycle left and a bundle that is not its ending SWAP. -/
def State.budgetOut (s : State) (c : Fin 16) : State :=
  let k := s.clusters[c]
  match k.run with
  | none => s
  | some r =>
    if r.left ≠ 1 then s
    else
      (s.afterIssue c k ⟨k.count.stop 0, [], .budget⟩ k.cstat.toNat).kernelStop c r true

/-! Tick entry (R110, R112, R208). -/

/-- A stopped kernel's instance starts the tick with its state reset (R78, R212). -/
def State.resetStopped (s : State) : State :=
  s.each (List.range s.eng.insts.length) fun t h => match t.eng.insts[h]? with
    | some i => if i.stopped then (t.kernelRest h).setInst h { i with stopped := false } else t
    | none => t

/-- The input samples of the frame in process after concealment (R110): channels below S. -/
def State.concealInputs (s : State) : State :=
  let f := s.F
  s.each (List.range (s.vrd F.XPT_DIM0_S)) fun t c =>
    let pol := (t.vword (0xA00000 + 4 * c)).toNat
    t.each (List.range f) fun u i =>
      let ok := Sparse.get false u.eng.inpOk (16 * c + i)
      let r := conceal pol (Sparse.get Conceal.rest u.eng.conc c) ok (sampleAt u.eng.inp c i)
      { u with eng := { u.eng with conc := Sparse.set Conceal.rest u.eng.conc c r.2, aIn := putSample u.eng.aIn c i r.1,
                                   bad := Sparse.set false u.eng.bad (16 * c + i) !ok } }

/-- TICK_ENTRY (R17, R110, R117, R208, R366, R475): the frame leaving goes to the ports and streams; stream samples, concealment,
changes and clips that start with the frame, gating, and the input strips. -/
def State.tickEntry (s : State) (errs : List (Nat × Bool)) (bad late : List (Nat × Nat × Option Nat)) : State :=
  if ¬ s.engineOn ∨ s.eng.aDone then s
  else
    let s1 := (s.put (.emit s.tick s.eng.emit)).streamsOut fun g => Sparse.get ([], 0) s.eng.lateOut g != ([], 0)
    let s2 := (s1.resetStopped).each (List.finRange 16) fun t c => t.setCluster c { t.clusters[c] with issued := 0 }
    let s3 := (s2.streamsIn).eccErrors 1 errs
    let s4 : State := { s3 with eng := { s3.eng with
      inp := zeroed s3.eng.inp errs, inpOk := (errs.filter (·.2)).foldl (fun m e => Sparse.set false m e.1 false) s3.eng.inpOk } }
    let s5 := ((((s4.concealInputs).hearMics).startInsts).takeStarts).each (List.range s4.eng.insts.length) State.putCopies
    let s6 := s5.each (List.range 16) State.gate
    let s7 := s6.each (List.range (s6.vrd F.XPT_DIM0_S / 4)) fun t g => t.phaseA g bad late
    ({ s7 with eng := { s7.eng with aDone := true } } : State).clustersAt 6

/-! The end of a tick. -/

/-- The signature of an output group (R301). -/
def sigOf (x : Frame) (f g : Nat) : Nat :=
  crc32 ((groupAt x g f).flatMap fun q => (lanesL fun l => q[l]).flatMap fun w => leBytes 4 w.toNat)

/-- The validity mask of the frame in process, in words of 32 channels (R112, R302): a channel counts when every sample of it is
valid and it is not divergent. -/
def State.validMask (s : State) : List Nat :=
  let ok (c : Nat) : Bool := decide (c < s.vrd F.XPT_DIM0_S) && !Sparse.get false s.pair.divergent c &&
    (List.range s.F).all fun i => Sparse.get false s.eng.inpOk (16 * c + i)
  (List.range (ceilDiv (s.vrd F.XPT_DIM0_S) 32)).map fun w => maskOf (fun j => ok (32 * w + j)) 32

/-- Signatures and mask of the frame that the tick has processed, the last four kept (R301, R302). -/
def State.keepSigs (s : State) : State :=
  let g := (List.range (s.vrd F.XPT_DIM1 / 4)).map (sigOf s.eng.eOut s.F)
  s.setPair { s.pair with sigs := ((s.frame, g) :: s.pair.sigs).take 4, masks := ((s.frame, s.validMask) :: s.pair.masks).take 4 }

/-- A cluster's counters at the end of a tick (R189, R192): bundles issued, stalled cycles, background promotions of the tick; its sticky bits are
those of the tick now complete. -/
def State.clusterTick (s : State) (c : Fin 16) (x : Nat × Nat × Nat) : State :=
  let k := s.clusters[c]
  (s.wrAll [(F.CL_TICK_CYC.pg c.val, x.1), (F.CL_STALL_CYC.pg c.val, x.2.1), (F.CL_PEAK_CYC.pg c.val, max (s.rd (F.CL_PEAK_CYC.pg c.val)) (x.1 + x.2.1)),
    (F.CL_SLOT_PROMO.pg c.val, s.rd (F.CL_SLOT_PROMO.pg c.val) + x.2.2), (F.CL_CSTAT_TICK.pg c.val, k.sticky)]).setCluster c { k with sticky := 0 }

/-- The tick in progress ends (R79, R189, R300, R464): late groups, the clusters' cycles as (issued, stalled, promotions), the energy account, sheets, the
recorder, the ports' frames, the digest. -/
def State.tickEnd (s : State) (cycles : List (Nat × Nat × Nat)) (pdm : List (Nat × List Word)) : State :=
  let s0 := s.each (List.range (s.vrd F.XPT_DIM1 / 4)) State.tickOvr
  let s1 := (if s.engineOn ∧ ¬ s.eComplete then s0.sendRecords else s0).hearOutputs
  let s2 := (s1.each ((List.finRange 16).filter fun c => !s1.domainStopped c.val) fun t c => t.clusterTick c (cycles.getD c.val (0, 0, 0))).clustersAt 0
  let s3 := ((s2.energyTick).gatherSheets s.tick).recorderTick
  let s4 := ((s3.pdmIn pdm).portsTick).keepSigs
  let d := s4.digestNow
  (s4.setPair { s4.pair with digest := d }).wr64 F.PAIR_DIGEST_LO F.PAIR_DIGEST_HI d

/-! The start of a tick. -/

/-- The number of the tick that starts (R12, R19, R482): the first keeps the number that reset left. -/
def State.tickNumber (s : State) : State :=
  if s.on F.TICK_STAT_RUNNING then s.wr64 F.TICK_NUM_LO F.TICK_NUM_HI (s.tick + 1) else s.wr F.TICK_STAT_RUNNING 1

/-- One mirrored record loaded (R123, R237): for an FIR or a delay it replaces the newest inputs of its history. -/
def State.loadRecord (s : State) (x : Nat × MirrorRec) : State := match s.eng.insts[x.1]?, x.2 with
  | none, _ => s
  | some i, .object st => s.setInst x.1 { i with st := st }
  | some i, .inputs l => s.setInst x.1 { i with st := { i.st with x := (i.st.x.zip l).map fun p => p.2 ++ p.1.drop p.2.length } }
  | some _, .player p => { s with eng := { s.eng with players := s.eng.players.set (playerOf (s.eng.insts.map (·.info)) x.1) p } }
  | some i, .bytes b => (match s.eng.proc, s.kernOf i with
    | some a, some k => s.setCluster (fin16 i.cluster) (s.clusters[fin16 i.cluster].putBytes (instBase a x.1 + k.mirrorOff) (b.take k.mirrorBytes))
    | _, _ => s)

/-- Mirrored records loaded at the tick boundary (R123). -/
def State.loadRecords (s : State) : State := (s.each s.pair.loads State.loadRecord).setPair { s.pair with loads := [] }

/-- The level of the outputs with this tick (R73, R447): an F4 action ramps them out once its claim has been carried. -/
def State.levelTick (s : State) : State :=
  let e := s.eng
  let rise : OutLevel := match e.level with
    | .rises t n => if t ≤ s.tick then .rising 0 n else .rises t n
    | l => l
  if ¬ e.halting then s.setEng { e with level := rise }
  else if ¬ s.pair.darkSent then (s.setEng { e with level := rise }).setPair { s.pair with darkSent := true }
  else match rise with
    | .zero => (s.setEng { e with level := .zero }).wr F.DEV_STAT_ENGINE 0
    | .falling j n => s.setEng { e with level := .falling j n }
    | _ => s.setEng { e with level := .falling 0 64 }

/-- Some channels of a captured frame, and the others. -/
def chans? (p : Nat → Bool) (x : Frame) : Frame := x.filter fun e => p (e.1 / 16)
def chansOk (p : Nat → Bool) (x : NatSet) : NatSet := x.filter fun e => p (e.1 / 16)

/-- Two parts of a frame, the second one's keys apart from the first one's. -/
def joinFrames (a b : Frame) : Frame := b.foldl (fun x e => Sparse.set 0 x e.1 e.2) a
def joinOk (a b : NatSet) : NatSet := b.foldl (fun x e => Sparse.set false x e.1 e.2) a

/-- Frames move on (R16, R129, R139, R292): captured to in process, mirrored channels one tick later, on a standby by the active's samples or
as divergent; processed to leaving, at the level of the outputs. Until tick R of a disruptive change the frames see the old
configuration (R73, R165). -/
def State.rotate (s : State) : State :=
  let e := s.eng
  let mir (c : Nat) : Bool := s.pair.formed && s.bitArr F.PAIR_MIRIN c
  let have_ (c : Nat) : Bool := mir c && s.isStandby && Sparse.get false s.pair.mirOk c
  let own (c : Nat) : Bool := mir c && !have_ c
  let f := s.F
  let got : NatSet := s.pair.mirOk.foldl (fun m x => if have_ x.1 then (List.range f).foldl (fun m i => Sparse.set false m (16 * x.1 + i) true) m else m) []
  let inp := joinFrames (joinFrames (chans? (fun c => !mir c) e.cap) (chans? own e.late)) (chans? have_ s.pair.mir)
  let ok := joinOk (joinOk (chansOk (fun c => !mir c) e.capOk) (chansOk own e.lateOk)) got
  let div : NatSet := if s.isStandby then (List.range (s.rd F.XPT_DIM0_S)).foldl (fun m c => Sparse.set false m c (own c)) [] else []
  let e1 : EngSt := { e with cap := [], capOk := [], late := chans? mir e.cap, lateOk := chansOk mir e.capOk, inp := inp, inpOk := ok, aIn := [], bad := [] }
  let e2 : EngSt := { e1 with aOut := [], bSum := [], cOut := [], dSum := [], eOut := [], aDone := false, bDone := false, cDone := [], dDone := false }
  let e3 : EngSt := { e2 with eDone := [], satB := false, zoneOld := e.zoneNew, zoneNew := [], emit := levelFrame e.level e.eOut, level := e.level.next f }
  let live := e.ramps.filter fun r => decide (r.first = noStart) || decide (s.frame < r.first + r.n) || e.restart.isSome
  let e4 : EngSt := if e.restart.isSome then { e3 with viewRamps := live, ramps := live }
    else { e3 with viewRegs := s.regs, viewWin := s.win, viewRamps := live, ramps := live }
  (s.setEng e4).setPair { s.pair with mir := [], mirOk := [], divergent := div }

/-- Heartbeats and CLMI words of the tick that ended (R289, R305). -/
def State.peerTick (s : State) : State :=
  let p := s.pair
  let hb := if p.hbGot then min 2 (p.hbRun + 1) else 0
  let cl := if p.clmiGot then min 2 (p.clmiRun + 1) else 0
  (s.setPair { p with hbGot := false, hbRun := hb, clmiGot := false, clmiRun := cl, clmiMiss := if p.clmiGot then 0 else min 255 (p.clmiMiss + 1) }).wrAll
    [(F.PAIR_STAT_PEER_LINK, (decide (2 ≤ hb)).toNat), (F.PAIR_STAT_PEER_PINS, (decide (2 ≤ cl)).toNat), (F.CLM_PINS_VALID, p.clmiGot.toNat)]

/-- A yield that falls due (R272, R447, R459), then HEALTH and the claim, and CLMO (R274, R279). -/
def State.claimTick (s : State) : State :=
  let s1 := match s.pair.yieldDue with
    | some c => (s.setPair { s.pair with yieldDue := none }).yieldUnit c
    | none => s
  let s2 := s1.claimUpdate
  if s2.on F.CLM_CTRL_PINS_EN ∧ s2.enabled 0x83 then s2.put (.clmo (claimWord s2.claim).toNat) else s2

/-- Mirrored inputs of the frame captured in the tick before: channels of which every sample is valid (R292). -/
def State.mirrorInputs (s : State) : List (Nat × List Word) :=
  ((List.range (s.rd F.XPT_DIM0_S)).filter fun c => s.bitArr F.PAIR_MIRIN c && (List.range s.F).all fun i => Sparse.get false s.eng.lateOk (16 * c + i)).map
    fun c => (c, (List.range s.F).map fun i => sampleAt s.eng.late c i)

/-- What a unit sends on the Porbuod link at a tick start (R287, R292, R300 to R302), and the traffic shown (R294). -/
def State.sendTick (s : State) : State :=
  if ¬ s.linkUp then s.wrAll [(F.PAIR_MIRROR, 0), (F.PB_TX_TICK, 0), (F.PB_RX_TICK, 0)]
  else
    let find (l : List (Nat × List Nat)) : List Nat := ((l.find? fun x => x.1 + 2 == s.tick).map (·.2)).getD []
    let s1 := s.send (.tick s.tick s.claim s.pair.digest (find s.pair.sigs) (find s.pair.masks))
    let s2 := if s.leads then s1.send (.input (s.tick - 1) s1.mirrorInputs) else s1
    let m := match s.eng.run with
      | some a => if s.pair.formed then s.mirrorBytes a.plan else 0
      | none => 0
    let o := s2.open_
    let r := o.2.open_
    r.2.wrAll [(F.PAIR_MIRROR, m), (F.PB_TX_TICK, o.1), (F.PB_RX_TICK, r.1)]

/-- The match vector (R518). -/
def State.matchTick (s : State) : State :=
  if s.eng.matchAt = some s.tick then
    let s1 := s.setEng { s.eng with matchAt := none }
    if s.on F.TICK_MATCH_CTRL_EN then s1.sendVec (s.rd F.TICK_MATCH_CTRL_VEC) else s1
  else s

/-- The time captured at the tick start (TICK_TS), the media clock's offset every 4,096 ticks (R60), and the tick's lock (R293). -/
def State.clockTick (s : State) (media : BitVec 16) : State :=
  let d := s.rd F.TICK_TS_CTRL
  let s1 := s.wrAll [(F.TICK_TS_SEC_HI, s.rd (F.TD_SEC_HI.pg d)), (F.TICK_TS_SEC_LO, s.rd (F.TD_SEC_LO.pg d)), (F.TICK_TS_NS, s.rd (F.TD_NS.pg d)),
    (F.TICK_STAT_PAIR_LOCKED, (s.isStandby && s.rd F.REF_STAT_SEL == 7 && s.rd F.REF_STAT_STATE == 2).toNat)]
  if s.tick % 4096 = 0 then (s1.wr F.ADM_MEDIA media.toNat).source 0x02 2 (decide (4000 < media.toInt)) else s1

/-- TICK_START (R19): REFCLK edges since the last, the trigger pins, the media offset measured, each cluster's cycles and the
microphones' samples of the tick that ended. -/
def State.tickStart (s : State) (edges : Nat) (trigP trigN : Byte) (media : BitVec 16) (cycles : List (Nat × Nat × Nat))
    (pdm : List (Nat × List Word)) : State :=
  if ¬ s.on F.DEV_STAT_ENGINE ∧ ¬ s.on F.TICK_STAT_RUNNING then s
  else
    let s1 := ((if s.on F.TICK_STAT_RUNNING then s.tickEnd cycles pdm else s).tickNumber).loadRecords
    let s2 := match s1.eng.incoming with
      | some x => if x.tick < s1.tick then s1.takeOver else s1
      | none => s1
    let s3 := ((((s2.takeShed).startLearn).levelTick).rotate).refPeriods edges
    let s4 := ((((s3.anchorTick).streamsTick).peerTick).claimTick).sampleTriggers trigP.toNat trigN.toNat
    let s5 := (((s4.sendTick).clockTick media).lanesTick).matchTick
    if s5.engineOn then s5.clustersAt 1 else s5

end Sys2Proof.Machine
end

