-- ==== Sys2Proof/Machine/EngineRows.lean ====
section
/-!
DEFINITION. The meanings of the tick's steps (spec/01, 03, 07): each is the shared effect of Machine/Engine.lean.
-/
namespace Sys2Proof.Machine

/-- TICK_START (R19). -/
def execTickStart (edges : Nat) (trigP trigN : Byte) (media : BitVec 16) (cycles : List (Nat × Nat × Nat)) (pdm : List (Nat × List Word)) (s : State) : Host.Outcome State Fault Refusal := .next (s.tickStart edges trigP trigN media cycles pdm)

/-- TICK_ENTRY (R208). -/
def execTickEntry (errs : List (Nat × Bool)) (bad late : List (Nat × Nat × Option Nat)) (s : State) : Host.Outcome State Fault Refusal := .next (s.tickEntry errs bad late)

/-- PHASE_B (R127). -/
def execPhaseB (nodeErrs errs : List (Nat × Bool)) (cycles : Nat) (s : State) : Host.Outcome State Fault Refusal := .next (s.runB nodeErrs errs cycles)

/-- PHASE_C (R17). -/
def execPhaseC (g : Fin 128) (errs : List (Nat × Bool)) (bad late : List (Nat × Nat × Option Nat)) (s : State) : Host.Outcome State Fault Refusal := .next (s.runC g.val errs bad late)

/-- PHASE_D (R127). -/
def execPhaseD (nodeErrs errs : List (Nat × Bool)) (cycles : Nat) (s : State) : Host.Outcome State Fault Refusal := .next (s.runD nodeErrs errs cycles)

/-- PHASE_E (R17). -/
def execPhaseE (g : Fin 256) (errs : List (Nat × Bool)) (bad late : List (Nat × Nat × Option Nat)) (s : State) : Host.Outcome State Fault Refusal := .next (s.runE g.val errs bad late)

/-- KERNEL_BUDGET_EXHAUSTED (R212). -/
def execKernelBudgetExhausted (cluster : Fin 16) (s : State) : Host.Outcome State Fault Refusal := .next (s.budgetOut cluster)

/-- TICK_OVR (R79). -/
def execTickOvr (g : Fin 256) (s : State) : Host.Outcome State Fault Refusal := .next (s.tickOvr g.val)

end Sys2Proof.Machine
end

