-- ==== Sys2Proof/Machine/FaultsRows.lean ====
section
/-!
DEFINITION. The meanings of the fault collector's and the known-answer rounds' events (spec/16): each is the shared effect of Machine/Faults.lean.
-/
namespace Sys2Proof.Machine

/-- KAT_ROUND_START (R453). -/
def execKatRoundStart (s : State) : Host.Outcome State Fault Refusal := .next (s.katStart)

/-- KAT_ROUND_DONE (R455). -/
def execKatRoundDone (failed : BitVec 17) (s : State) : Host.Outcome State Fault Refusal := .next (s.katDone failed.toNat)

/-- KAT_LATE (R453). -/
def execKatLate (s : State) : Host.Outcome State Fault Refusal := .next (s.katLate)

/-- FAULT_EDGE_COLLECT (R442). -/
def execFaultEdgeCollect (s : State) : Host.Outcome State Fault Refusal := .next (s.collect)

/-- RAIL_BROKEN (R441). -/
def execRailBroken (page : Byte) (src : Fin 16) (s : State) : Host.Outcome State Fault Refusal := .next (s.railBroken page.toNat src.val)

/-- FAULT_TIMER_EXPIRY (R443). -/
def execFaultTimerExpiry (page : Byte) (src : Fin 16) (s : State) : Host.Outcome State Fault Refusal := .next (s.timerExpiry page.toNat src.val)

/-- FIRMWARE_AUTO_ACK (R450). -/
def execFirmwareAutoAck (page : Byte) (src : Fin 16) (s : State) : Host.Outcome State Fault Refusal := .next (s.autoAck page.toNat src.val)

/-- COLLECTOR (R451). -/
def execCollector (s : State) : Host.Outcome State Fault Refusal := .next (s.collectorFault)

end Sys2Proof.Machine
end

