-- ==== Sys2Proof/Machine/HostRows.lean ====
section
/-!
DEFINITION. The meanings of the host's commands, and of the rings', the SPI target's and the PCIe link's events (spec/02): a command row puts its descriptor on its ring, and the rings dispatch (Machine/HostCmd.lean).
-/
namespace Sys2Proof.Machine

/-- NOP (R52). -/
def execNop (ring : Fin 16) (d : Desc) (s : State) : Host.Outcome State Fault Refusal := .next (s.command ring.val (withOp d Op.nop) none)

/-- PARAM_WRITE (R52). -/
def execParamWrite (ring : Fin 16) (d : Desc) (s : State) : Host.Outcome State Fault Refusal := .next (s.command ring.val (withOp d Op.paramWrite) none)

/-- PARAM_READ (R52). -/
def execParamRead (ring : Fin 16) (d : Desc) (s : State) : Host.Outcome State Fault Refusal := .next (s.command ring.val (withOp d Op.paramRead) none)

/-- PLAN_LOAD (R85). -/
def execPlanLoad (ring : Fin 16) (d : Desc) (s : State) : Host.Outcome State Fault Refusal := .next (s.command ring.val (withOp d Op.planLoad) none)

/-- ADMIT (R70). -/
def execAdmitPlan (ring : Fin 16) (d : Desc) (peerSame : Bool) (s : State) : Host.Outcome State Fault Refusal := .next (s.command ring.val (withOp d Op.admitPlan) (some peerSame))

/-- DEVELOP (R160). -/
def execDevelop (ring : Fin 16) (d : Desc) (s : State) : Host.Outcome State Fault Refusal := .next (s.command ring.val (withByte (withOp d Op.develop) 5 fun b => b / 2 * 2) none)

/-- DEVELOP_CANCEL (R162). -/
def execDevelopCancel (ring : Fin 16) (d : Desc) (s : State) : Host.Outcome State Fault Refusal := .next (s.command ring.val (withByte (withOp d Op.develop) 5 fun b => b / 2 * 2 + 1) none)

/-- FIX (R178). -/
def execFix (ring : Fin 16) (d : Desc) (s : State) : Host.Outcome State Fault Refusal := .next (s.command ring.val (withOp d Op.fix) none)

/-- CLIP_LOAD (R113). -/
def execClipLoad (ring : Fin 16) (d : Desc) (s : State) : Host.Outcome State Fault Refusal := .next (s.command ring.val (withOp d Op.clipLoad) none)

/-- CLIP_PLAY (R115). -/
def execClipPlay (ring : Fin 16) (d : Desc) (s : State) : Host.Outcome State Fault Refusal := .next (s.command ring.val { withOp d Op.clipPlay with arg0 := d.arg0 &&& ~~~0x00080000#32 } none)

/-- CLIP_STOP (R116). -/
def execClipStop (ring : Fin 16) (d : Desc) (s : State) : Host.Outcome State Fault Refusal := .next (s.command ring.val { withOp d Op.clipPlay with arg0 := d.arg0 ||| 0x00080000#32 } none)

/-- VERIFY (R255). -/
def execVerify (ring : Fin 16) (d : Desc) (s : State) : Host.Outcome State Fault Refusal := .next (s.command ring.val (withByte (withOp d Op.safelight) 0 fun _ => 1) none)

/-- CAPTURE (R263). -/
def execCapture (ring : Fin 16) (d : Desc) (s : State) : Host.Outcome State Fault Refusal := .next (s.command ring.val (withByte (withOp d Op.safelight) 0 fun _ => 2) none)

/-- LEARN_LINES (R247). -/
def execLearnLines (ring : Fin 16) (d : Desc) (s : State) : Host.Outcome State Fault Refusal := .next (s.command ring.val (withByte (withOp d Op.safelight) 0 fun _ => 3) none)

/-- STORE (R268). -/
def execStore (ring : Fin 16) (d : Desc) (s : State) : Host.Outcome State Fault Refusal := .next (s.command ring.val (withByte (withOp d Op.safelight) 0 fun _ => 4) none)

/-- ABORT (R255). -/
def execAbort (ring : Fin 16) (d : Desc) (s : State) : Host.Outcome State Fault Refusal := .next (s.command ring.val (withByte (withOp d Op.safelight) 0 fun _ => 5) none)

/-- PAIR_JOIN (R295). -/
def execPairJoin (ring : Fin 16) (d : Desc) (s : State) : Host.Outcome State Fault Refusal := .next (s.command ring.val (withOp d Op.pairJoin) none)

/-- PAIR_YIELD (R299). -/
def execPairYield (ring : Fin 16) (d : Desc) (s : State) : Host.Outcome State Fault Refusal := .next (s.command ring.val (withOp d Op.pairYield) none)

/-- TIME_STEP (R353). -/
def execTimeStep (ring : Fin 16) (d : Desc) (s : State) : Host.Outcome State Fault Refusal := .next (s.command ring.val (withOp d Op.timeStep) none)

/-- TIME_RATE (R353). -/
def execTimeRate (ring : Fin 16) (d : Desc) (s : State) : Host.Outcome State Fault Refusal := .next (s.command ring.val (withOp d Op.timeRate) none)

/-- LOG_READ (R495). -/
def execLogRead (ring : Fin 16) (d : Desc) (s : State) : Host.Outcome State Fault Refusal := .next (s.command ring.val (withOp d Op.logRead) none)

/-- SHEET_DEFINE (R55). -/
def execSheetDefine (ring : Fin 16) (d : Desc) (s : State) : Host.Outcome State Fault Refusal := .next (s.command ring.val (withOp d Op.sheetDefine) none)

/-- UPDATE_BEGIN (R502). -/
def execUpdateBegin (ring : Fin 16) (d : Desc) (s : State) : Host.Outcome State Fault Refusal := .next (s.command ring.val (withOp d Op.updBegin) none)

/-- UPDATE_CHUNK (R502). -/
def execUpdateChunk (ring : Fin 16) (d : Desc) (s : State) : Host.Outcome State Fault Refusal := .next (s.command ring.val (withOp d Op.updChunk) none)

/-- UPDATE_COMMIT (R502). -/
def execUpdateCommit (ring : Fin 16) (d : Desc) (s : State) : Host.Outcome State Fault Refusal := .next (s.command ring.val (withOp d Op.updCommit) none)

/-- LIFECYCLE_ADVANCE (R497). -/
def execLifecycleAdvance (ring : Fin 16) (d : Desc) (s : State) : Host.Outcome State Fault Refusal := .next (s.command ring.val (withOp d Op.lifecycle) none)

/-- RING_DOORBELL (R42). -/
def execRingDoorbell (ring : Fin 64) (tail : BitVec 12) (descs : List Desc) (arrayOk : Bool) (s : State) : Host.Outcome State Fault Refusal := .next (s.ringDoorbell ring.val tail.toNat descs arrayOk)

/-- RING_ENABLE (R45). -/
def execRingEnable (ring : Fin 64) (en : Bool) (s : State) : Host.Outcome State Fault Refusal := .next (s.fieldWrite (F.RING_CTRL_EN.ring ring.val) en.toNat)

/-- RING_IRQ_TIMEOUT (R45). -/
def execRingIrqTimeout (ring : Fin 64) (s : State) : Host.Outcome State Fault Refusal := .next (s.irqTimeout ring.val)

/-- EVENT_DELIVERY (R44). -/
def execEventDelivery (ring : Fin 64) (s : State) : Host.Outcome State Fault Refusal := .next (s.deliverEvent ring.val)

/-- CONTACT_SHEET_EMIT (R56). -/
def execContactSheetEmit (ring : Fin 64) (s : State) : Host.Outcome State Fault Refusal := .next (s.sheetEmit ring.val)

/-- SPI_TRANSACTION (R38). -/
def execSpiTransaction (op : Byte) (addr : Word) (data : List Byte) (nread : Nat) (s : State) : Host.Outcome State Fault Refusal := .next (s.spiTransaction op addr data nread)

/-- PCIE_LINK_RESET (R35). -/
def execPcieLinkReset (kind : Fin 4) (s : State) : Host.Outcome State Fault Refusal := .next (s.pcieReset kind.val)

end Sys2Proof.Machine
end

