-- ==== Sys2Proof/Machine/LanesRows.lean ====
section
/-!
DEFINITION. The meanings of the serial lanes' events (spec/14): each is the shared effect of Machine/Lanes.lean.
-/
namespace Sys2Proof.Machine

/-- LANE_PLL_LOCK (R398). -/
def execLanePllLock (lane : Fin 8) (s : State) : Host.Outcome State Fault Refusal := .next (s.lanePll lane)

/-- LANE_SIGNAL_DETECT (R401). -/
def execLaneSignalDetect (lane : Fin 8) (s : State) : Host.Outcome State Fault Refusal := .next (s.laneSignal lane)

/-- LANE_CDR_LOCK (R402). -/
def execLaneCdrLock (lane : Fin 8) (s : State) : Host.Outcome State Fault Refusal := .next (s.laneCdr lane)

/-- LANE_ADAPT_END (R402). -/
def execLaneAdaptEnd (lane : Fin 8) (eh ew : Byte) (ctle : Fin 16) (dfe : Word) (s : State) : Host.Outcome State Fault Refusal := .next (s.laneAdapt lane eh.toNat ew.toNat ctle.val dfe.toNat)

/-- LANE_ALIGNED (R403). -/
def execLaneAlignedEv (lane : Fin 8) (inverted : Bool) (s : State) : Host.Outcome State Fault Refusal := .next (s.laneAligned lane inverted)

/-- LANE_STATE_TIMEOUT (R402). -/
def execLaneStateTimeout (lane : Fin 8) (s : State) : Host.Outcome State Fault Refusal := .next (s.laneTimeout lane)

/-- LANE_DOWN (R405). -/
def execLaneDown (lane : Fin 8) (cause : Fin 4) (s : State) : Host.Outcome State Fault Refusal := .next (s.laneDown lane cause)

/-- LOW_FOM (R404). -/
def execLowFom (lane : Fin 8) (eh ew : Byte) (s : State) : Host.Outcome State Fault Refusal := .next (s.laneFom lane eh.toNat ew.toNat)

/-- PRBS_CHECKER_SYNC (R410). -/
def execPrbsCheckerSync (lane : Fin 8) (sync : Bool) (bits errs : Nat) (s : State) : Host.Outcome State Fault Refusal := .next (s.checkerSync lane.val sync bits errs)

/-- LANE_INJ_PERIODIC (R411). -/
def execLaneInjPeriodic (lane : Fin 8) (s : State) : Host.Outcome State Fault Refusal := .next (s.injectPeriodic lane.val)

/-- PCIE_LINK_UP (R34). -/
def execPcieLinkUp (speed width : Fin 8) (s : State) : Host.Outcome State Fault Refusal := .next (s.pcieUp speed.val width.val)

end Sys2Proof.Machine
end

