-- ==== Sys2Proof/Machine/MemoryRows.lean ====
section
/-!
DEFINITION. The meanings of the memories', the fabric's, the sensors' and the log's events (spec/15, 16, 18): each is the shared effect of Machine/Memory.lean.
-/
namespace Sys2Proof.Machine

/-- SENSOR_SAMPLE (R480). -/
def execSensorSample (temps : Vector (BitVec 16) 8) (s : State) : Host.Outcome State Fault Refusal := .next (s.sensorSample temps)

/-- RAIL_MONITOR_READING (R481). -/
def execRailMonitorReading (monitor : Fin 12) (mv : BitVec 16) (average : Option (BitVec 16)) (s : State) : Host.Outcome State Fault Refusal := .next (s.railReading monitor.val mv.toNat (average.map BitVec.toNat))

/-- SCRUB_PASS_END (R416). -/
def execScrubPassEnd (complete : Bool) (errors : List (Fin 6 × BitVec 24 × Bool)) (s : State) : Host.Outcome State Fault Refusal := .next (s.scrubEnd complete (errors.map fun (e : Fin 6 × BitVec 24 × Bool) => (e.1.val, e.2.1.toNat, e.2.2)))

/-- DRAM_TEMP_POLL (R429). -/
def execDramTempPoll (channel : Fin 2) (hot : Bool) (s : State) : Host.Outcome State Fault Refusal := .next (s.dramPoll channel.val hot)

/-- MARCH_SEGMENT_DONE (R424). -/
def execMarchSegmentDone (ok : Bool) (failAddr : Word) (s : State) : Host.Outcome State Fault Refusal := .next (s.marchSegment ok failAddr.toNat)

/-- FABRIC_AGE_PROMOTION (R433). -/
def execFabricAgePromotion (master : Fin 12) (cycles : Nat) (outstanding : Fin 193) (held : List Bool) (s : State) : Host.Outcome State Fault Refusal := .next (s.fabricAge master.val cycles outstanding.val held)

/-- LOCK_TIMEOUT (R435). -/
def execLockTimeout (s : State) : Host.Outcome State Fault Refusal := .next (s.lockTimeout)

/-- NO_PATH (R432). -/
def execNoPath (master target : Fin 12) (s : State) : Host.Outcome State Fault Refusal := .next (s.noPath master.val target.val)

/-- LOG_FLUSH (R493). -/
def execLogFlush (ok : Bool) (s : State) : Host.Outcome State Fault Refusal := .next (s.logFlush ok)

end Sys2Proof.Machine
end

