-- ==== Sys2Proof/Machine/NetRows.lean ====
section
/-!
DEFINITION. The meanings of the media network's and the time domains' events (spec/12): each is the shared effect of Machine/Net.lean.
-/
namespace Sys2Proof.Machine

/-- MAC_FRAME_RX (R346). -/
def execMacFrameRx (mac : Fin 3) (f : NetFrame) (s : State) : Host.Outcome State Fault Refusal := .next (s.macRx mac f)

/-- PAUSE_EXPIRY (R344). -/
def execPauseExpiry (mac : Fin 3) (s : State) : Host.Outcome State Fault Refusal := .next (s.pauseEnd mac)

/-- MAC_FRAME_TX (R343). -/
def execMacFrameTx (mac : Fin 3) (underrun : Bool) (s : State) : Host.Outcome State Fault Refusal := .next (s.macTx mac underrun)

/-- COLLISION (R345). -/
def execCollision (late : Bool) (s : State) : Host.Outcome State Fault Refusal := .next (s.collision late)

/-- BACKOFF_EXPIRY (R345). -/
def execBackoffExpiry (s : State) : Host.Outcome State Fault Refusal := .next (s.backoffEnd)

/-- ARP_RETRY_TIMER (R347). -/
def execArpRetryTimer (stream : Byte) (s : State) : Host.Outcome State Fault Refusal := .next (s.arpRetry stream.toNat)

/-- ARP_REFRESH_TIMER (R347). -/
def execArpRefreshTimer (stream : Byte) (s : State) : Host.Outcome State Fault Refusal := .next (s.arpRefresh stream.toNat)

/-- NO_ARP (R347). -/
def execNoArp (stream : Byte) (s : State) : Host.Outcome State Fault Refusal := .next (s.noArp stream.toNat)

/-- PRP_SUPERVISION_TIMER (R348). -/
def execPrpSupervisionTimer (s : State) : Host.Outcome State Fault Refusal := .next (s.prpSupervise)

/-- PRP_NODE_AGEOUT (R348). -/
def execPrpNodeAgeout (node : BitVec 48) (s : State) : Host.Outcome State Fault Refusal := .next (s.prpAgeout node.toNat)

/-- PRP_PARTNER_TIMEOUT (R349). -/
def execPrpPartnerTimeout (node : BitVec 48) (seq : BitVec 16) (s : State) : Host.Outcome State Fault Refusal := .next (s.prpTimeout node.toNat seq.toNat)

/-- ONE_LAN (R350). -/
def execOneLan (lan : Fin 2) (raised : Bool) (s : State) : Host.Outcome State Fault Refusal := .next (s.oneLan lan raised)

/-- STREAM_PACKET_RX (R364). -/
def execStreamPacketRx (sample : Fin 16) (s : State) : Host.Outcome State Fault Refusal := .next (s.streamPacketIn sample.val)

/-- STREAM_PACKET_TX (R361). -/
def execStreamPacketTx (stream : Byte) (full : Bool) (s : State) : Host.Outcome State Fault Refusal := .next (s.streamSend stream.toNat full)

/-- PTP_MESSAGE_RX (R357). -/
def execPtpMessageRx (portState : Fin 10) (s : State) : Host.Outcome State Fault Refusal := .next (s.ptpMessage portState)

/-- PTP_SYNC_INTERVAL (R354). -/
def execPtpSyncInterval (td : Fin 4) (offset : Word) (step : Option (Int × Word)) (rate : Option Word) (s : State) : Host.Outcome State Fault Refusal := .next (s.ptpSync td offset step rate)

/-- PTP_ANNOUNCE_TIMEOUT (R354). -/
def execPtpAnnounceTimeout (td : Fin 4) (s : State) : Host.Outcome State Fault Refusal := .next (s.ptpTimeout td)

/-- PTP_CFG_APPLY (R357). -/
def execPtpCfgApply (td : Fin 4) (s : State) : Host.Outcome State Fault Refusal := .next (s.ptpApply td)

/-- ANCHOR_SLIP (R359). -/
def execAnchorSlip (td : Fin 4) (s : State) : Host.Outcome State Fault Refusal := .next (s.anchorSlip td)

/-- MACM_LINK_CHANGE (R370). -/
def execMacmLinkChange (up : Bool) (s : State) : Host.Outcome State Fault Refusal := .next (s.macLink 2 up)

end Sys2Proof.Machine
end

