-- ==== Sys2Proof/Machine/PairRows.lean ====
section
/-!
DEFINITION. The meanings of the pair's and the Porbuod link's events (spec/10): each is the shared effect of Machine/PairMsgs.lean.
-/
namespace Sys2Proof.Machine

/-- DESKEW_MARKER_RX (R407). -/
def execDeskewMarkerRx (lane : Fin 2) (marker : Option (List Byte)) (skew : Byte) (s : State) : Host.Outcome State Fault Refusal := .next (s.deskew lane marker skew.toNat)

/-- PORBUOD_RATE_STEP (R285). -/
def execPorbuodRateStep (ok : Bool) (s : State) : Host.Outcome State Fault Refusal := .next (s.rateStep ok)

/-- TICK_MESSAGE_RX (R287). -/
def execTickMessageRx (ok : Bool) (n : BitVec 64) (claim : BitVec 16) (digest : BitVec 64) (sigs mask : List Nat) (s : State) : Host.Outcome State Fault Refusal := .next (if ok then s.tickRx n.toNat claim.toNat digest.toNat sigs mask else s.msgBad)

/-- INPUT_MESSAGE_RX (R292). -/
def execInputMessageRx (ok : Bool) (n : BitVec 64) (samples : List (Nat × List Word)) (s : State) : Host.Outcome State Fault Refusal := .next (if ok then s.inputRx n.toNat samples else s.msgBad)

/-- STATE_MESSAGE_RX (R123). -/
def execStateMessageRx (ok : Bool) (records : List (Nat × Machine.MirrorRec)) (s : State) : Host.Outcome State Fault Refusal := .next (if ok then s.stateRx records else s.msgBad)

/-- PARAM_MESSAGE_RX (R290). -/
def execParamMessageRx (ok : Bool) (seq : Word) (writes : List MirrorWrite) (s : State) : Host.Outcome State Fault Refusal := .next (if ok then s.paramRx seq.toNat writes else s.msgBad)

/-- ARM_MESSAGE_RX (R304). -/
def execArmMessageRx (ok : Bool) (seq : Word) (change : ModeChange) (s : State) : Host.Outcome State Fault Refusal := .next (if ok then s.armRx seq.toNat change else s.msgBad)

/-- ACK_MESSAGE_RX (R304). -/
def execAckMessageRx (ok : Bool) (seq : Word) (s : State) : Host.Outcome State Fault Refusal := .next (if ok then s.ackRx seq.toNat else s.msgBad)

/-- CONFIRM_MESSAGE_RX (R304). -/
def execConfirmMessageRx (ok : Bool) (seq arm : Word) (s : State) : Host.Outcome State Fault Refusal := .next (if ok then s.confirmRx seq.toNat arm.toNat else s.msgBad)

/-- CONFIRM_DEADLINE (R304). -/
def execConfirmDeadline (s : State) : Host.Outcome State Fault Refusal := .next (s.confirmDeadline)

/-- BULK_MESSAGE_RX (R297). -/
def execBulkMessageRx (ok : Bool) (seq : Word) (items : List BulkItem) (s : State) : Host.Outcome State Fault Refusal := .next (if ok then s.bulkRx seq.toNat items else s.msgBad)

/-- CTRL_MESSAGE_RX (R287). -/
def execCtrlMessageRx (ok : Bool) (seq : Word) (msg : CtrlMsg) (s : State) : Host.Outcome State Fault Refusal := .next (if ok then s.ctrlRx seq.toNat msg else s.msgBad)

/-- PB_RETRANSMIT (R287). -/
def execPbRetransmit (seq : Word) (s : State) : Host.Outcome State Fault Refusal := .next (s.retransmit seq.toNat)

/-- HEARTBEAT_MISS (R289). -/
def execHeartbeatMiss (s : State) : Host.Outcome State Fault Refusal := .next (s.heartbeatMiss)

/-- CLMI_WORD_RX (R279). -/
def execClmiWordRx (w : Word) (s : State) : Host.Outcome State Fault Refusal := .next (s.clmiRx w)

/-- CLMI_LOST (R310). -/
def execClmiLost (s : State) : Host.Outcome State Fault Refusal := .next (s.clmiLost)

/-- PROMOTION (R305). -/
def execPromotion (s : State) : Host.Outcome State Fault Refusal := .next (s.promotion)

/-- ELECTION (R296). -/
def execElection (s : State) : Host.Outcome State Fault Refusal := .next (s.election)

/-- PAIR_WAIT_EXPIRY (R296). -/
def execPairWaitExpiry (s : State) : Host.Outcome State Fault Refusal := .next (s.waitExpiry)

/-- PAIR_LINK_TIMEOUT (R295). -/
def execPairLinkTimeout (s : State) : Host.Outcome State Fault Refusal := .next (s.linkTimeout)

/-- STATE_TRANSFER_DONE (R297). -/
def execStateTransferDone (s : State) : Host.Outcome State Fault Refusal := .next (s.transferDone)

/-- PAIR_VERIFY_DONE (R298). -/
def execPairVerifyDone (s : State) : Host.Outcome State Fault Refusal := .next (s.verifyDone)

/-- EXCUSE_WINDOW_CLOSE (R302). -/
def execExcuseWindowClose (s : State) : Host.Outcome State Fault Refusal := .next (s.windowClose)

/-- HANDOVER (R299). -/
def execHandover (s : State) : Host.Outcome State Fault Refusal := .next (s.handover)

/-- HANDOVER_COMPLETE (R299). -/
def execHandoverComplete (s : State) : Host.Outcome State Fault Refusal := .next (s.handoverComplete)

end Sys2Proof.Machine
end

