-- ==== Sys2Proof/Machine/PortsRows.lean ====
section
/-!
DEFINITION. The meanings of the audio ports' events and of AOUT_CS_COMMIT (spec/11): each is the shared effect of Machine/Ports.lean.
-/
namespace Sys2Proof.Machine

/-- TDM_INPUT_FRAME (R316). -/
def execTdmInputFrame (p : Fin 16) (slots : List Word) (noStart glitch : Bool) (rate : Int) (phase : BitVec 16) (s : State) : Host.Outcome State Fault Refusal := .next (s.tdmIn p slots noStart glitch rate phase.toNat)

/-- TDM_OUTPUT_FRAME (R316). -/
def execTdmOutputFrame (p : Fin 16) (s : State) : Host.Outcome State Fault Refusal := .next (s.tdmOut p)

/-- TDM_BCLK_LOSS (R320). -/
def execTdmBclkLoss (p : Fin 16) (s : State) : Host.Outcome State Fault Refusal := .next (s.tdmBclkLoss p)

/-- TDM_LOSS_EXIT (R323). -/
def execTdmLossExit (p : Fin 16) (s : State) : Host.Outcome State Fault Refusal := .next (s.tdmLossExit p)

/-- PRE_ROLL_END (R324). -/
def execPreRollEnd (page : Byte) (s : State) : Host.Outcome State Fault Refusal := .next (s.preRollEnd page.toNat)

/-- POST_ROLL_END (R325). -/
def execPostRollEnd (page : Byte) (s : State) : Host.Outcome State Fault Refusal := .next (s.postRollEnd page.toNat)

/-- AES3_RX_FRAME (R327). -/
def execAes3RxFrame (r : Fin 8) (preamble : Fin 3) (violation : Bool) (rate : Fin 8) (a b : Word) (va vb pa pb : Bool) (s : State) : Host.Outcome State Fault Refusal := .next (s.aesIn r preamble.val violation rate.val a b va vb pa pb)

/-- AES3_CS_BLOCK_RX (R329). -/
def execAes3CsBlockRx (r : Fin 8) (csA csB ubA ubB : List Byte) (s : State) : Host.Outcome State Fault Refusal := .next (s.aesBlock r csA csB ubA ubB)

/-- AES3_TX_BLOCK_START (R331). -/
def execAes3TxBlockStart (t : Fin 8) (aged : Bool) (s : State) : Host.Outcome State Fault Refusal := .next (s.aoutBlock t aged)

/-- AOUT_CS_COMMIT (R331). -/
def execAoutCsCommit (t : Fin 8) (v : Bool) (s : State) : Host.Outcome State Fault Refusal := .next (s.aoutCommit t v)

/-- PDM_CLOCK_LOSS (R335). -/
def execPdmClockLoss (s : State) : Host.Outcome State Fault Refusal := .next (s.pdmLoss)

/-- PDM_LOSS_EXIT (R335). -/
def execPdmLossExit (s : State) : Host.Outcome State Fault Refusal := .next (s.pdmLossExit)

/-- MIC_STUCK (R335). -/
def execMicStuck (m : Fin 32) (s : State) : Host.Outcome State Fault Refusal := .next (s.micStuck m)

/-- MIC_STUCK_END (R335). -/
def execMicStuckEnd (m : Fin 32) (s : State) : Host.Outcome State Fault Refusal := .next (s.micStuckEnd m)

/-- ASRC_LOCK (R338). -/
def execAsrcLock (kind : Fin 2) (port : Fin 16) (s : State) : Host.Outcome State Fault Refusal := .next (s.asrcLock kind.val port.val)

/-- UNLOCK (R338). -/
def execAsrcUnlock (kind : Fin 2) (port : Fin 16) (s : State) : Host.Outcome State Fault Refusal := .next (s.asrcUnlock kind.val port.val)

end Sys2Proof.Machine
end

