-- ==== Sys2Proof/Machine/RegsRows.lean ====
section
/-!
DEFINITION. The meanings of accesses to registers and to the parameter window (spec/01, 02, 19), and of the register writes that have rows of their own: each goes through Machine/RegWrite.lean, RegRead.lean or Window.lean.
-/
namespace Sys2Proof.Machine

/-- REGISTER_WRITE (R512). -/
def execRegisterWrite (addr : BitVec 20) (v : Word) (full : Bool) (s : State) : Host.Outcome State Fault Refusal := .next (if full then s.writeBy false addr.toNat v else s.narrowWrite addr.toNat)

/-- UNALLOCATED_PAGE_ACCESS (R10). -/
def execUnallocatedPageAccess (addr : BitVec 20) (s : State) : Host.Outcome State Fault Refusal := .next (if (RegDir.page? (addr.toNat / 4096)).isNone then s.unallocated (addr.toNat / 4096) else s)

/-- PARAM_WINDOW_WRITE (R23). -/
def execParamWindowWrite (off : BitVec 26) (v : Word) (s : State) : Host.Outcome State Fault Refusal := .next (s.windowWrite off.toNat v)

/-- PAGE_STAT_READ (R26). -/
def execPageStatRead (page : Byte) (s : State) : Host.Outcome State Fault Refusal := .next (s.readAnswer (page.toNat * 4096 + 0x00C))

/-- LO_HI_CAPTURE_READ (R21). -/
def execLoHiCaptureRead (addr : BitVec 20) (s : State) : Host.Outcome State Fault Refusal := .next (s.readAnswer addr.toNat)

/-- TD_SEC_HI_READ (R352). -/
def execTdSecHiRead (n : Fin 4) (edges : Nat) (s : State) : Host.Outcome State Fault Refusal := .next ((s.refPeriods edges).readAnswer (F.TD_SEC_HI.pg n.val).addr)

/-- OBJECT_AREA_CAPTURE (R91). -/
def execObjectAreaCapture (handle : BitVec 16) (s : State) : Host.Outcome State Fault Refusal := .next (let r := s.areaRead handle.toNat 8; r.2.answer r.1)

/-- AIN_CS_SEQ_READ (R329). -/
def execAinCsSeqRead (port : Fin 8) (s : State) : Host.Outcome State Fault Refusal := .next (s.readAnswer (F.AIN_CS_SEQ.pg port.val).addr)

/-- REF_PD_SEQ_READ (R386). -/
def execRefPdSeqRead (s : State) : Host.Outcome State Fault Refusal := .next (s.readAnswer F.REF_PD_SEQ.addr)

/-- FLT_TOP_READ (R449). -/
def execFltTopRead (elapsedUs : Nat) (s : State) : Host.Outcome State Fault Refusal := .next (s.readTop elapsedUs)

/-- PB_LANE_STAT_READ (R286). -/
def execPbLaneStatRead (lane : Fin 2) (s : State) : Host.Outcome State Fault Refusal := .next (s.readAnswer (F.PB_LANE0_STAT_BLOCK_ERR.addr + 4 * lane.val))

/-- SRST (R29). -/
def execSrst (page : Byte) (s : State) : Host.Outcome State Fault Refusal := .next (s.hostWrite (page.toNat * 4096 + 0x008) ((s.reg (homePage page.toNat * 4096 + 0x008)) ||| 2))

/-- FREEZE (R26). -/
def execFreeze (page : Byte) (on : Bool) (s : State) : Host.Outcome State Fault Refusal := .next (s.hostWrite (page.toNat * 4096 + 0x008) (s.pageCtrlWith page.toNat 2 on))

/-- PAGE_EN_WRITE (R30). -/
def execPageEnWrite (page : Byte) (en : Bool) (s : State) : Host.Outcome State Fault Refusal := .next (s.hostWrite (page.toNat * 4096 + 0x008) (s.pageCtrlWith page.toNat 0 en))

/-- FLT_LATCH_CLEAR (R33). -/
def execFltLatchClear (page : Byte) (v : BitVec 16) (s : State) : Host.Outcome State Fault Refusal := .next (s.hostWrite (page.toNat * 4096 + 0x018) (v.setWidth 32))

/-- FLT_CLASS_WRITE (R31). -/
def execFltClassWrite (page : Byte) (reg : Fin 2) (v : BitVec 24) (s : State) : Host.Outcome State Fault Refusal := .next (s.hostWrite (page.toNat * 4096 + 0x01C + 4 * reg.val) (v.setWidth 32))

/-- FLT_MASK_WRITE (R32). -/
def execFltMaskWrite (page : Byte) (v : BitVec 16) (s : State) : Host.Outcome State Fault Refusal := .next (s.hostWrite (page.toNat * 4096 + 0x014) (v.setWidth 32))

/-- FLT_ACK (R449). -/
def execFltAck (page : Byte) (src : Fin 16) (seq : Byte) (s : State) : Host.Outcome State Fault Refusal := .next (s.hostWrite F.FLT_ACK_SEQ.addr (BitVec.ofNat 32 (2 ^ 24 * seq.toNat + 256 * page.toNat + src.val)))

/-- FLT_INJ_FORCE_RAW (R458). -/
def execFltInjForceRaw (target : BitVec 9) (src : Fin 16) (s : State) : Host.Outcome State Fault Refusal := .next (s.hostWrite F.FLT_INJ_MODE.addr (injWord 1 target.toNat src.val))

/-- FLT_INJ_RAILS_HIGH (R458). -/
def execFltInjRailsHigh (target : BitVec 9) (src : Fin 16) (s : State) : Host.Outcome State Fault Refusal := .next (s.hostWrite F.FLT_INJ_MODE.addr (injWord 2 target.toNat src.val))

/-- FLT_INJ_RAILS_LOW (R458). -/
def execFltInjRailsLow (target : BitVec 9) (src : Fin 16) (s : State) : Host.Outcome State Fault Refusal := .next (s.hostWrite F.FLT_INJ_MODE.addr (injWord 3 target.toNat src.val))

/-- FLT_INJ_FLIP_ONE (R458). -/
def execFltInjFlipOne (bank : BitVec 9) (s : State) : Host.Outcome State Fault Refusal := .next (s.hostWrite F.FLT_INJ_MODE.addr (injWord 4 bank.toNat 0))

/-- FLT_INJ_FLIP_TWO (R458). -/
def execFltInjFlipTwo (bank : BitVec 9) (s : State) : Host.Outcome State Fault Refusal := .next (s.hostWrite F.FLT_INJ_MODE.addr (injWord 5 bank.toNat 0))

/-- FLT_INJ_CORRUPT_SIGNATURE (R458). -/
def execFltInjCorruptSignature (unit : BitVec 9) (s : State) : Host.Outcome State Fault Refusal := .next (s.hostWrite F.FLT_INJ_MODE.addr (injWord 6 unit.toNat 0))

/-- FLT_INJ_COLLECTOR_DISAGREE (R458). -/
def execFltInjCollectorDisagree (copy : BitVec 9) (s : State) : Host.Outcome State Fault Refusal := .next (s.hostWrite F.FLT_INJ_MODE.addr (injWord 7 copy.toNat 0))

/-- FLT_INJ_STOP (R519). -/
def execFltInjStop (s : State) : Host.Outcome State Fault Refusal := .next (s.hostWrite F.FLT_INJ_MODE.addr (injWord 0 0 0))

/-- MARCH_GO (R423). -/
def execMarchGo (s : State) : Host.Outcome State Fault Refusal := .next (s.fieldWrite F.MR_CTRL_GO 1)

/-- MARCH_ABORT (R423). -/
def execMarchAbort (s : State) : Host.Outcome State Fault Refusal := .next (s.fieldWrite F.MR_CTRL_ABORT 1)

/-- REACQUIRE (R352). -/
def execReacquire (td : Fin 4) (s : State) : Host.Outcome State Fault Refusal := .next (s.fieldWrite (F.TD_CTRL_REACQUIRE.pg td.val) 1)

/-- TDC_LOAD (R358). -/
def execTdcLoad (s : State) : Host.Outcome State Fault Refusal := .next (s.fieldWrite F.TDC_CTRL 1)

/-- REF_OPEN (R386). -/
def execRefOpen (on : Bool) (s : State) : Host.Outcome State Fault Refusal := .next (s.fieldWrite F.REF_CTRL_OPEN on.toNat)

/-- REF_NCO_WRITE (R386). -/
def execRefNcoWrite (v : Word) (s : State) : Host.Outcome State Fault Refusal := .next (s.hostWrite F.REF_NCO.addr v)

/-- ALIGN (R388). -/
def execAlign (outputs : Fin 8) (s : State) : Host.Outcome State Fault Refusal := .next (s.hostWrite F.ALIGN.addr (BitVec.ofNat 32 outputs.val))

/-- TICK_MATCH_ARM (R518). -/
def execTickMatchArm (lo : Word) (s : State) : Host.Outcome State Fault Refusal := .next (s.hostWrite F.TICK_MATCH_LO.addr lo)

/-- EN_CAP_WRITE (R469). -/
def execEnCapWrite (mw : BitVec 24) (s : State) : Host.Outcome State Fault Refusal := .next (s.hostWrite F.EN_CAP.addr (mw.setWidth 32))

/-- LANE_LOOPBACK (R409). -/
def execLaneLoopback (lane : Fin 8) (mode : Fin 8) (s : State) : Host.Outcome State Fault Refusal := .next (s.fieldWrite (F.LANE_TEST_LOOP.pg lane.val) mode.val)

/-- LANE_TX_PATTERN (R410). -/
def execLaneTxPattern (lane : Fin 8) (pattern : Fin 16) (s : State) : Host.Outcome State Fault Refusal := .next (s.fieldWrite (F.LANE_TEST_TX_PAT.pg lane.val) pattern.val)

/-- LANE_RX_CHECKER (R410). -/
def execLaneRxChecker (lane : Fin 8) (pattern : Fin 16) (s : State) : Host.Outcome State Fault Refusal := .next (s.fieldWrite (F.LANE_TEST_RX_PAT.pg lane.val) pattern.val)

/-- LANE_INJ_ONE (R411). -/
def execLaneInjOne (lane : Fin 8) (s : State) : Host.Outcome State Fault Refusal := .next (s.fieldWrite (F.LANE_INJ_ONE.pg lane.val) 1)

/-- CDC_CLOCK_RETURN (R393). -/
def execCdcClockReturn (domain : Fin 21) (s : State) : Host.Outcome State Fault Refusal := .next (s.clockReturn domain.val)

end Sys2Proof.Machine
end

