-- ==== Sys2Proof/Machine/Measure.lean ====
section
/-!
DEFINITION. The extraction of a path of a verification (R261): from the two accumulators to TOA, coherence, band SNRs and energies.
-/
namespace Sys2Proof.Machine

/-- LOOP of an output and an input (R261): the engine core and what R80 counts for their ports, as the running plan's paths describe them. -/
def State.loopSamples (s : State) (o c : Nat) : Nat :=
  let ps := (s.eng.run.map fun a => a.plan.paths).getD []
  2 * s.F + ((ps.find? fun x => x.outStrip == o).map s.dstSamples).getD 0 + ((ps.find? fun x => x.inStrip == c).map s.srcSamples).getD 0

/-- The measures of a path. -/
structure Measures where
  toa : Nat
  rho : Nat
  bands : List (Option (Int × Int))
  wave : List Int
deriving DecidableEq, Repr

/-- What is extracted for a path from its averages (R261); without a reference the coherence is 0. -/
def State.measured (s : State) (p : Nat) : Measures :=
  match s.sl.run.bind fun r => r.heard.find? fun x => x.1 == p with
  | none => ⟨0, 0, [], []⟩
  | some (_, r) =>
    let h := r.impulse s.fs
    let toa : Int := onset h - s.loopSamples (s.pathOut p) (s.micInput (s.pathMic p))
    let ref := ((Sparse.get none s.sl.refs p).map fun x => x.wave).getD []
    ⟨(toa % 65536).toNat, coherence h ref (toa - 256) (s.rd F.SL_VERIFY1_TOA_MARG), r.bands s.fs, waveFrom h (toa - 256)⟩

/-- PATH_RESULT (R261 to R263): the path measured and judged. -/
def State.pathDone (s : State) (p : Nat) : State :=
  let m := s.measured p
  s.pathResult p m.toa m.rho m.bands m.wave

end Sys2Proof.Machine
end

