-- ==== Sys2Proof/Machine/SafelightRows.lean ====
section
/-!
DEFINITION. The meanings of Safelight's events (spec/09): each is the shared effect of Machine/Safelight.lean or Machine/Measure.lean.
-/
namespace Sys2Proof.Machine

/-- LINE_INTEGRATION_JUDGE (R244). -/
def execLineJudge (n : Fin 1024) (s : State) : Host.Outcome State Fault Refusal := .next (s.judge n.val)

/-- AMBIENT_BLOCK (R250). -/
def execAmbientBlock (zone : Fin 1024) (s : State) : Host.Outcome State Fault Refusal := .next (s.ambientRun zone.val)

/-- PROBE_SYNTHESIS_DONE (R256). -/
def execProbeSynthesisDone (zone : Fin 1024) (s : State) : Host.Outcome State Fault Refusal := .next (s.probeReady zone.val)

/-- PROBE_START (R258). -/
def execProbeStart (zone : Fin 1024) (s : State) : Host.Outcome State Fault Refusal := .next (s.probeStart zone.val)

/-- PROBE_PERIOD (R258). -/
def execProbePeriod (zone : Fin 1024) (bad eccBad : List Nat) (s : State) : Host.Outcome State Fault Refusal := .next (s.probePeriod zone.val bad eccBad)

/-- PROBE_YIELD (R259). -/
def execProbeYield (zone : Fin 1024) (s : State) : Host.Outcome State Fault Refusal := .next (s.probeYield zone.val)

/-- PROBE_OUTPUT_END (R258). -/
def execProbeOutputEnd (zone : Fin 1024) (s : State) : Host.Outcome State Fault Refusal := .next (s.probeEnd zone.val)

/-- PATH_RESULT (R262). -/
def execPathResult (path : Fin 4096) (s : State) : Host.Outcome State Fault Refusal := .next (s.pathDone path.val)

/-- SAFELIGHT_STORE_DONE (R268). -/
def execSafelightStoreDone (ok : Bool) (s : State) : Host.Outcome State Fault Refusal := .next (s.storeDone ok)

end Sys2Proof.Machine
end

