-- ==== Sys2Proof/Machine/ScenesRows.lean ====
section
/-!
DEFINITION. The meanings of the scenes', clips', triggers' and recorder's events (spec/04 to spec/06): each is the shared effect of Machine/Scenes.lean, Clips.lean or Crosspoint.lean.
-/
namespace Sys2Proof.Machine

/-- METER_HOLD_WRITE (R106). -/
def execMeterHoldWrite (handle : BitVec 16) (lane : Fin 4) (s : State) : Host.Outcome State Fault Refusal := .next (s.meterHold handle.toNat lane.val)

/-- REC_FREEZE (R120). -/
def execRecFreeze (s : State) : Host.Outcome State Fault Refusal := .next (s.recCtrl (BitVec.ofNat 32 (Nat.lor 1 (s.eng.recorder.ctrl &&& 0x700))))

/-- REC_RESUME (R120). -/
def execRecResume (s : State) : Host.Outcome State Fault Refusal := .next (s.recCtrl (BitVec.ofNat 32 (s.eng.recorder.ctrl &&& 0x700)))

/-- REC_DRAIN (R121). -/
def execRecDrain (ring : Fin 8) (s : State) : Host.Outcome State Fault Refusal := .next (s.recCtrl (BitVec.ofNat 32 (3 + 256 * ring.val)))

/-- RECORDER_DRAIN_BUFFER (R121). -/
def execRecorderDrainBuffer (s : State) : Host.Outcome State Fault Refusal := .next (s.drainBuffer)

/-- RECORDER_AUTO_FREEZE (R120). -/
def execRecorderAutoFreeze (s : State) : Host.Outcome State Fault Refusal := .next (s.autoFreeze)

/-- DEFERRED_COLUMN_START (R134). -/
def execDeferredColumnStart (outMat : Bool) (col : Fin 1024) (s : State) : Host.Outcome State Fault Refusal := .next (if s.mayStart outMat col.val then s.startColumn outMat col.val else s)

/-- DEVELOP_ARMED (R161). -/
def execDevelopArmed (s : State) : Host.Outcome State Fault Refusal := .next (s.developArmed)

/-- DEVELOP_COMMIT (R164). -/
def execDevelopCommit (s : State) : Host.Outcome State Fault Refusal := .next (s.developCommit)

/-- DISRUPTIVE_PLAN_START (R73). -/
def execDisruptivePlanStart (s : State) : Host.Outcome State Fault Refusal := .next (s.disruptiveStart)

/-- MEDIA_GLIDE_END (R374). -/
def execMediaGlideEnd (s : State) : Host.Outcome State Fault Refusal := .next (s.glideEnd)

/-- DISSOLVE_WAIT_START (R76). -/
def execDissolveWaitStart (handle : BitVec 16) (s : State) : Host.Outcome State Fault Refusal := .next (s.waitStart handle.toNat)

/-- DISSOLVE_END (R173). -/
def execDissolveEnd (handle : BitVec 16) (s : State) : Host.Outcome State Fault Refusal := .next (s.dissolveEnd handle.toNat)

/-- CHAINED_CHANGE_START (R172). -/
def execChainedChangeStart (handle : BitVec 16) (s : State) : Host.Outcome State Fault Refusal := .next (s.chainStart handle.toNat)

/-- FIX_SNAPSHOT (R178). -/
def execFixSnapshot (s : State) : Host.Outcome State Fault Refusal := .next (s.fixSnapshot)

/-- FIX_PHASE_DONE (R178). -/
def execFixPhaseDone (ok : Bool) (s : State) : Host.Outcome State Fault Refusal := .next (s.fixPhase ok)

/-- CLIP_START (R115). -/
def execClipStart (player : Fin 32) (s : State) : Host.Outcome State Fault Refusal := .next (s.clipStart player.val)

/-- CLIP_END (R116). -/
def execClipEnd (player : Fin 32) (s : State) : Host.Outcome State Fault Refusal := .next (s.clipEnd player.val)

/-- TRIGGER_DETECTION (R149). -/
def execTriggerDetection (input : Fin 8) (s : State) : Host.Outcome State Fault Refusal := .next (s.trigDetect input.val)

/-- LINE_FAULT (R149). -/
def execLineFault (input : Fin 8) (s : State) : Host.Outcome State Fault Refusal := .next (s.lineFault input.val)

/-- LINE_FAULT_CLEAR (R149). -/
def execLineFaultClear (input : Fin 8) (s : State) : Host.Outcome State Fault Refusal := .next (s.lineClear input.val)

/-- TRIGGER_FIRE (R151). -/
def execTriggerFire (input : Fin 8) (s : State) : Host.Outcome State Fault Refusal := .next (s.trigFire input.val)

end Sys2Proof.Machine
end

