-- ==== Sys2Proof/Machine/Slots.lean ====
section
/-!
DEFINITION. One slot's operation issued on a cluster as a bundle whose other two slots are no-ops (R217 to R224), and the return of
the loads on their way (R218). The rows of spec/08 are written over these.
-/
namespace Sys2Proof.Machine

/-- The sticky CSTAT bits a kernel has once a bundle is issued (R189, R203): its own so far, with AOVF of this bundle's M slot. -/
def ownSticky (k : Cluster) (b : Bundle) (fate : Ended) : Nat :=
  if fate = .running ∨ fate = .ended then Nat.lor k.cstat.toNat (16 * (mSlot k.fg k.cstat b.m).aovf) else k.cstat.toNat

/-- A bundle issued on a cluster; where it stops the cluster's kernel, what every stop does (R78, R212, R213). -/
def State.issueBundle (s : State) (c : Fin 16) (b : Bundle) : State :=
  let k := s.clusters[c]
  let r := k.exec b
  let t := s.afterIssue c k r (ownSticky k b r.fate)
  match k.run with
  | some run => if r.fate = .running ∨ r.fate = .ended then t else t.kernelStop c run (r.fate == .budget)
  | none => t

/-- An M-slot operation (R220, R221). -/
def State.mOp (s : State) (c : Fin 16) (op : Nat) (d a b : Fin 16) (sh : Fin 8) (imm : BitVec 7) : State :=
  s.issueBundle c ⟨⟨op, d, a, b, sh, imm⟩, .nop, .nop⟩

/-- An A-slot operation of the single format (R222, R223). -/
def State.aOp (s : State) (c : Fin 16) (op : Nat) (pn : Fin 8) (reg : Fin 16) (am : Fin 4) (imm : BitVec 8) : State :=
  s.issueBundle c ⟨.nop, ⟨op, pn, reg, am, imm⟩, .nop⟩

/-- An A-slot operation of the dual format (R222). -/
def State.aDual (s : State) (c : Fin 16) (op : Nat) (pa : Fin 8) (ra : Fin 16) (am : Fin 4) (pb : Fin 8) (rb : Fin 16) (ub : Bool) : State :=
  s.aOp c op pa ra am (BitVec.ofNat 8 (32 * pb.val + 2 * rb.val + ub.toNat))

/-- A C-slot operation (R224). -/
def State.cOp (s : State) (c : Fin 16) (op imm : Nat) : State := s.issueBundle c ⟨.nop, .nop, ⟨op, BitVec.ofNat 10 imm⟩⟩

/-- LOAD_WRITEBACK (R218). -/
def State.loadReturn (s : State) (c : Fin 16) : State := s.setCluster c s.clusters[c].writeback

end Sys2Proof.Machine
end

