-- ==== Sys2Proof/Machine/SlotsRows.lean ====
section
/-!
DEFINITION. The meanings of a cluster's slot operations (spec/08): each issues one bundle through Machine/Slots.lean.
-/
namespace Sys2Proof.Machine

/-- MNOP (R221). -/
def execMnop (c : Fin 16) (s : State) : Host.Outcome State Fault Refusal := .next (s.mOp c 0 0 0 0 0 0)

/-- MPY (R221). -/
def execMpy (c : Fin 16) (d : Fin 8) (a b : Fin 16) (s : State) : Host.Outcome State Fault Refusal := .next (s.mOp c 1 (w8 d) a b 0 0)

/-- MAC (R221). -/
def execMac (c : Fin 16) (d : Fin 8) (a b : Fin 16) (s : State) : Host.Outcome State Fault Refusal := .next (s.mOp c 2 (w8 d) a b 0 0)

/-- MSU (R221). -/
def execMsu (c : Fin 16) (d : Fin 8) (a b : Fin 16) (s : State) : Host.Outcome State Fault Refusal := .next (s.mOp c 3 (w8 d) a b 0 0)

/-- MACS (R221). -/
def execMacs (c : Fin 16) (d : Fin 8) (a : Fin 16) (b : Fin 8) (s : State) : Host.Outcome State Fault Refusal := .next (s.mOp c 4 (w8 d) a (w8 b) 0 0)

/-- MSUS (R221). -/
def execMsus (c : Fin 16) (d : Fin 8) (a : Fin 16) (b : Fin 8) (s : State) : Host.Outcome State Fault Refusal := .next (s.mOp c 5 (w8 d) a (w8 b) 0 0)

/-- ACLR (R221). -/
def execAclr (c : Fin 16) (d : Fin 8) (s : State) : Host.Outcome State Fault Refusal := .next (s.mOp c 6 (w8 d) 0 0 0 0)

/-- AMOV (R221). -/
def execAmov (c : Fin 16) (d a : Fin 8) (s : State) : Host.Outcome State Fault Refusal := .next (s.mOp c 7 (w8 d) (w8 a) 0 0 0)

/-- AADD (R221). -/
def execAadd (c : Fin 16) (d a : Fin 8) (s : State) : Host.Outcome State Fault Refusal := .next (s.mOp c 8 (w8 d) (w8 a) 0 0 0)

/-- ALDV (R221). -/
def execAldv (c : Fin 16) (d : Fin 8) (a : Fin 16) (sh : Fin 8) (s : State) : Host.Outcome State Fault Refusal := .next (s.mOp c 9 (w8 d) a 0 sh 0)

/-- CVT (R204). -/
def execCvt (c : Fin 16) (d : Fin 16) (a sh : Fin 8) (s : State) : Host.Outcome State Fault Refusal := .next (s.mOp c 10 d (w8 a) 0 sh 0)

/-- ANORM (R207). -/
def execAnorm (c : Fin 16) (d : Fin 8) (b : Fin 8) (imm : BitVec 7) (s : State) : Host.Outcome State Fault Refusal := .next (s.mOp c 11 (w8 d) 0 (w8 b) 0 imm)

/-- AEXP (R206). -/
def execAexp (c : Fin 16) (d : Fin 16) (a : Fin 8) (s : State) : Host.Outcome State Fault Refusal := .next (s.mOp c 12 d (w8 a) 0 0 0)

/-- AEXPM (R206). -/
def execAexpm (c : Fin 16) (d a : Fin 8) (s : State) : Host.Outcome State Fault Refusal := .next (s.mOp c 13 (w8 d) (w8 a) 0 0 0)

/-- VADD (R205). -/
def execVadd (c : Fin 16) (d a b : Fin 16) (s : State) : Host.Outcome State Fault Refusal := .next (s.mOp c 16 d a b 0 0)

/-- VSUB (R205). -/
def execVsub (c : Fin 16) (d a b : Fin 16) (s : State) : Host.Outcome State Fault Refusal := .next (s.mOp c 17 d a b 0 0)

/-- VNEG (R221). -/
def execVneg (c : Fin 16) (d a : Fin 16) (s : State) : Host.Outcome State Fault Refusal := .next (s.mOp c 18 d a 0 0 0)

/-- VABS (R221). -/
def execVabs (c : Fin 16) (d a : Fin 16) (s : State) : Host.Outcome State Fault Refusal := .next (s.mOp c 19 d a 0 0 0)

/-- VMIN (R221). -/
def execVmin (c : Fin 16) (d a b : Fin 16) (s : State) : Host.Outcome State Fault Refusal := .next (s.mOp c 20 d a b 0 0)

/-- VMAX (R221). -/
def execVmax (c : Fin 16) (d a b : Fin 16) (s : State) : Host.Outcome State Fault Refusal := .next (s.mOp c 21 d a b 0 0)

/-- VAND (R221). -/
def execVand (c : Fin 16) (d a b : Fin 16) (s : State) : Host.Outcome State Fault Refusal := .next (s.mOp c 22 d a b 0 0)

/-- VOR (R221). -/
def execVor (c : Fin 16) (d a b : Fin 16) (s : State) : Host.Outcome State Fault Refusal := .next (s.mOp c 23 d a b 0 0)

/-- VXOR (R221). -/
def execVxor (c : Fin 16) (d a b : Fin 16) (s : State) : Host.Outcome State Fault Refusal := .next (s.mOp c 24 d a b 0 0)

/-- VMOV (R221). -/
def execVmov (c : Fin 16) (d a : Fin 16) (s : State) : Host.Outcome State Fault Refusal := .next (s.mOp c 25 d a 0 0 0)

/-- VSPL (R221). -/
def execVspl (c : Fin 16) (d : Fin 16) (a : Fin 8) (s : State) : Host.Outcome State Fault Refusal := .next (s.mOp c 26 d (w8 a) 0 0 0)

/-- VMUL (R221). -/
def execVmul (c : Fin 16) (d a b : Fin 16) (sh : Fin 8) (s : State) : Host.Outcome State Fault Refusal := .next (s.mOp c 27 d a b sh 0)

/-- NORM (R207). -/
def execNorm (c : Fin 16) (d a : Fin 16) (b : Fin 8) (imm : BitVec 7) (s : State) : Host.Outcome State Fault Refusal := .next (s.mOp c 28 d a (w8 b) 0 imm)

/-- EXP (R206). -/
def execExp (c : Fin 16) (d a : Fin 16) (s : State) : Host.Outcome State Fault Refusal := .next (s.mOp c 29 d a 0 0 0)

/-- EXPM (R206). -/
def execExpm (c : Fin 16) (d : Fin 8) (a : Fin 16) (s : State) : Host.Outcome State Fault Refusal := .next (s.mOp c 30 (w8 d) a 0 0 0)

/-- VCMPLT (R221). -/
def execVcmplt (c : Fin 16) (a b : Fin 16) (s : State) : Host.Outcome State Fault Refusal := .next (s.mOp c 32 0 a b 0 0)

/-- VCMPLE (R221). -/
def execVcmple (c : Fin 16) (a b : Fin 16) (s : State) : Host.Outcome State Fault Refusal := .next (s.mOp c 33 0 a b 0 0)

/-- VCMPEQ (R221). -/
def execVcmpeq (c : Fin 16) (a b : Fin 16) (s : State) : Host.Outcome State Fault Refusal := .next (s.mOp c 34 0 a b 0 0)

/-- VSEL (R221). -/
def execVsel (c : Fin 16) (d a b : Fin 16) (s : State) : Host.Outcome State Fault Refusal := .next (s.mOp c 35 d a b 0 0)

/-- SADD (R221). -/
def execSadd (c : Fin 16) (d a b : Fin 8) (s : State) : Host.Outcome State Fault Refusal := .next (s.mOp c 48 (w8 d) (w8 a) (w8 b) 0 0)

/-- SSUB (R221). -/
def execSsub (c : Fin 16) (d a b : Fin 8) (s : State) : Host.Outcome State Fault Refusal := .next (s.mOp c 49 (w8 d) (w8 a) (w8 b) 0 0)

/-- SADDI (R221). -/
def execSaddi (c : Fin 16) (d a : Fin 8) (imm : BitVec 7) (s : State) : Host.Outcome State Fault Refusal := .next (s.mOp c 50 (w8 d) (w8 a) 0 0 imm)

/-- SAND (R221). -/
def execSand (c : Fin 16) (d a b : Fin 8) (s : State) : Host.Outcome State Fault Refusal := .next (s.mOp c 51 (w8 d) (w8 a) (w8 b) 0 0)

/-- SOR (R221). -/
def execSor (c : Fin 16) (d a b : Fin 8) (s : State) : Host.Outcome State Fault Refusal := .next (s.mOp c 52 (w8 d) (w8 a) (w8 b) 0 0)

/-- SSHL (R221). -/
def execSshl (c : Fin 16) (d a : Fin 8) (n : Fin 32) (s : State) : Host.Outcome State Fault Refusal := .next (s.mOp c 53 (w8 d) (w8 a) 0 0 (BitVec.ofNat 7 n.val))

/-- SSHR (R221). -/
def execSshr (c : Fin 16) (d a : Fin 8) (n : Fin 32) (s : State) : Host.Outcome State Fault Refusal := .next (s.mOp c 54 (w8 d) (w8 a) 0 0 (BitVec.ofNat 7 n.val))

/-- SMUL (R221). -/
def execSmul (c : Fin 16) (d a b : Fin 8) (s : State) : Host.Outcome State Fault Refusal := .next (s.mOp c 55 (w8 d) (w8 a) (w8 b) 0 0)

/-- SCMPLT (R221). -/
def execScmplt (c : Fin 16) (a b : Fin 8) (s : State) : Host.Outcome State Fault Refusal := .next (s.mOp c 56 0 (w8 a) (w8 b) 0 0)

/-- ANOP (R223). -/
def execAnop (c : Fin 16) (s : State) : Host.Outcome State Fault Refusal := .next (s.aOp c 0 0 0 0 0)

/-- LDV (R223). -/
def execLdv (c : Fin 16) (r : Fin 16) (p : Fin 8) (am : Fin 4) (s : State) : Host.Outcome State Fault Refusal := .next (s.aOp c 1 p r am 0)

/-- STV (R223). -/
def execStv (c : Fin 16) (r : Fin 16) (p : Fin 8) (am : Fin 4) (s : State) : Host.Outcome State Fault Refusal := .next (s.aOp c 2 p r am 0)

/-- LDB (R223). -/
def execLdb (c : Fin 16) (r : Fin 16) (p : Fin 8) (am : Fin 4) (s : State) : Host.Outcome State Fault Refusal := .next (s.aOp c 3 p r am 0)

/-- LDS (R223). -/
def execLds (c : Fin 16) (r : Fin 8) (p : Fin 8) (am : Fin 4) (s : State) : Host.Outcome State Fault Refusal := .next (s.aOp c 4 p (w8 r) am 0)

/-- STS (R223). -/
def execSts (c : Fin 16) (r : Fin 8) (p : Fin 8) (am : Fin 4) (s : State) : Host.Outcome State Fault Refusal := .next (s.aOp c 5 p (w8 r) am 0)

/-- STC (R223). -/
def execStc (c : Fin 16) (r : Fin 8) (p : Fin 8) (am : Fin 4) (sh : Fin 8) (s : State) : Host.Outcome State Fault Refusal := .next (s.aOp c 6 p (w8 r) am (BitVec.ofNat 8 sh.val))

/-- LDAP (R223). -/
def execLdap (c : Fin 16) (r : Fin 8) (part : Fin 4) (p : Fin 8) (am : Fin 4) (s : State) : Host.Outcome State Fault Refusal := .next (s.aOp c 7 p (w8 r) am (BitVec.ofNat 8 part.val))

/-- STAP (R223). -/
def execStap (c : Fin 16) (r : Fin 8) (part : Fin 4) (p : Fin 8) (am : Fin 4) (s : State) : Host.Outcome State Fault Refusal := .next (s.aOp c 8 p (w8 r) am (BitVec.ofNat 8 part.val))

/-- LDV2 (R223). -/
def execLdv2 (c : Fin 16) (ra : Fin 16) (pa : Fin 8) (am : Fin 4) (rb : Fin 16) (pb : Fin 8) (ub : Bool) (s : State) : Host.Outcome State Fault Refusal := .next (s.aDual c 9 pa ra am pb rb ub)

/-- LDVB (R223). -/
def execLdvb (c : Fin 16) (ra : Fin 16) (pa : Fin 8) (am : Fin 4) (rb : Fin 16) (pb : Fin 8) (ub : Bool) (s : State) : Host.Outcome State Fault Refusal := .next (s.aDual c 10 pa ra am pb rb ub)

/-- LDST (R223). -/
def execLdst (c : Fin 16) (ra : Fin 16) (pa : Fin 8) (am : Fin 4) (rb : Fin 16) (pb : Fin 8) (ub : Bool) (s : State) : Host.Outcome State Fault Refusal := .next (s.aDual c 11 pa ra am pb rb ub)

/-- AUPD (R223). -/
def execAupd (c : Fin 16) (p : Fin 8) (am : Fin 4) (s : State) : Host.Outcome State Fault Refusal := .next (s.aOp c 16 p 0 am 0)

/-- SETM (R223). -/
def execSetm (c : Fin 16) (m : Fin 8) (imm : Byte) (s : State) : Host.Outcome State Fault Refusal := .next (s.aOp c 17 m 0 0 imm)

/-- MVP (R223). -/
def execMvp (c : Fin 16) (p r : Fin 8) (s : State) : Host.Outcome State Fault Refusal := .next (s.aOp c 18 p (w8 r) 0 0)

/-- MVM (R223). -/
def execMvm (c : Fin 16) (m r : Fin 8) (s : State) : Host.Outcome State Fault Refusal := .next (s.aOp c 19 m (w8 r) 0 0)

/-- MVL (R199). -/
def execMvl (c : Fin 16) (l r : Fin 8) (s : State) : Host.Outcome State Fault Refusal := .next (s.aOp c 20 l (w8 r) 0 0)

/-- MVB (R199). -/
def execMvb (c : Fin 16) (b r : Fin 8) (s : State) : Host.Outcome State Fault Refusal := .next (s.aOp c 21 b (w8 r) 0 0)

/-- RDP (R223). -/
def execRdp (c : Fin 16) (r p : Fin 8) (s : State) : Host.Outcome State Fault Refusal := .next (s.aOp c 22 p (w8 r) 0 0)

/-- PADDI (R223). -/
def execPaddi (c : Fin 16) (p : Fin 8) (imm : Byte) (s : State) : Host.Outcome State Fault Refusal := .next (s.aOp c 23 p 0 0 imm)

/-- LOAD_WRITEBACK (R218). -/
def execLoadWriteback (c : Fin 16) (s : State) : Host.Outcome State Fault Refusal := .next (s.loadReturn c)

/-- CNOP (R224). -/
def execCnop (c : Fin 16) (s : State) : Host.Outcome State Fault Refusal := .next (s.cOp c 0 0)

/-- SWAP_END (R228). -/
def execSwapEnd (c : Fin 16) (s : State) : Host.Outcome State Fault Refusal := .next (s.cOp c 1 1)

/-- BR (R224). -/
def execBr (c : Fin 16) (rel : BitVec 10) (s : State) : Host.Outcome State Fault Refusal := .next (s.cOp c 2 rel.toNat)

/-- BRC (R225). -/
def execBrc (c : Fin 16) (cond : Fin 4) (rel : Byte) (s : State) : Host.Outcome State Fault Refusal := .next (s.cOp c 3 (256 * cond.val + rel.toNat))

/-- LOOP (R225). -/
def execLoop (c : Fin 16) (k : Fin 2) (n : Fin 512) (s : State) : Host.Outcome State Fault Refusal := .next (s.cOp c 4 (512 * k.val + n.val))

/-- SETLC (R224). -/
def execSetlc (c : Fin 16) (k : Fin 2) (imm : Fin 512) (s : State) : Host.Outcome State Fault Refusal := .next (s.cOp c 5 (512 * k.val + imm.val))

/-- MVLC (R224). -/
def execMvlc (c : Fin 16) (k : Fin 2) (a : Fin 8) (s : State) : Host.Outcome State Fault Refusal := .next (s.cOp c 6 (512 * k.val + a.val))

/-- SMOV (R224). -/
def execSmov (c : Fin 16) (d a : Fin 8) (s : State) : Host.Outcome State Fault Refusal := .next (s.cOp c 7 (8 * d.val + a.val))

/-- SLDI (R224). -/
def execSldi (c : Fin 16) (d : Fin 8) (imm : BitVec 7) (s : State) : Host.Outcome State Fault Refusal := .next (s.cOp c 8 (128 * d.val + imm.toNat))

/-- VEXT (R224). -/
def execVext (c : Fin 16) (d : Fin 8) (a : Fin 16) (l : Fin 4) (s : State) : Host.Outcome State Fault Refusal := .next (s.cOp c 9 (128 * d.val + 8 * a.val + l.val))

/-- VINS (R224). -/
def execVins (c : Fin 16) (a : Fin 16) (l : Fin 4) (d : Fin 8) (s : State) : Host.Outcome State Fault Refusal := .next (s.cOp c 10 (128 * d.val + 8 * a.val + l.val))

/-- RDCS (R224). -/
def execRdcs (c : Fin 16) (d : Fin 8) (s : State) : Host.Outcome State Fault Refusal := .next (s.cOp c 11 (128 * d.val))

end Sys2Proof.Machine
end

