-- ==== Sys2Proof/Machine/Dispatch.lean ====
section
/-!
DEFINITION. The dispatch: one arm per command.
-/
namespace Sys2Proof.Machine

/-- A command's effect on everything but the queue. -/
def exec (i : Instr) (s : State) : Host.Outcome State Fault Refusal :=
  match i with
  | .nop ring d => Sys2Proof.Machine.execNop ring d s
  | .paramWrite ring d => Sys2Proof.Machine.execParamWrite ring d s
  | .paramRead ring d => Sys2Proof.Machine.execParamRead ring d s
  | .planLoad ring d => Sys2Proof.Machine.execPlanLoad ring d s
  | .admitPlan ring d peerSame => Sys2Proof.Machine.execAdmitPlan ring d peerSame s
  | .develop ring d => Sys2Proof.Machine.execDevelop ring d s
  | .developCancel ring d => Sys2Proof.Machine.execDevelopCancel ring d s
  | .fix ring d => Sys2Proof.Machine.execFix ring d s
  | .clipLoad ring d => Sys2Proof.Machine.execClipLoad ring d s
  | .clipPlay ring d => Sys2Proof.Machine.execClipPlay ring d s
  | .clipStop ring d => Sys2Proof.Machine.execClipStop ring d s
  | .verify ring d => Sys2Proof.Machine.execVerify ring d s
  | .capture ring d => Sys2Proof.Machine.execCapture ring d s
  | .learnLines ring d => Sys2Proof.Machine.execLearnLines ring d s
  | .store ring d => Sys2Proof.Machine.execStore ring d s
  | .abort ring d => Sys2Proof.Machine.execAbort ring d s
  | .pairJoin ring d => Sys2Proof.Machine.execPairJoin ring d s
  | .pairYield ring d => Sys2Proof.Machine.execPairYield ring d s
  | .timeStep ring d => Sys2Proof.Machine.execTimeStep ring d s
  | .timeRate ring d => Sys2Proof.Machine.execTimeRate ring d s
  | .logRead ring d => Sys2Proof.Machine.execLogRead ring d s
  | .sheetDefine ring d => Sys2Proof.Machine.execSheetDefine ring d s
  | .updateBegin ring d => Sys2Proof.Machine.execUpdateBegin ring d s
  | .updateChunk ring d => Sys2Proof.Machine.execUpdateChunk ring d s
  | .updateCommit ring d => Sys2Proof.Machine.execUpdateCommit ring d s
  | .lifecycleAdvance ring d => Sys2Proof.Machine.execLifecycleAdvance ring d s
  | .ringDoorbell ring tail descs arrayOk => Sys2Proof.Machine.execRingDoorbell ring tail descs arrayOk s
  | .ringEnable ring en => Sys2Proof.Machine.execRingEnable ring en s
  | .ringIrqTimeout ring => Sys2Proof.Machine.execRingIrqTimeout ring s
  | .eventDelivery ring => Sys2Proof.Machine.execEventDelivery ring s
  | .contactSheetEmit ring => Sys2Proof.Machine.execContactSheetEmit ring s
  | .spiTransaction op addr data nread => Sys2Proof.Machine.execSpiTransaction op addr data nread s
  | .pcieLinkReset kind => Sys2Proof.Machine.execPcieLinkReset kind s
  | .registerWrite addr v full => Sys2Proof.Machine.execRegisterWrite addr v full s
  | .unallocatedPageAccess addr => Sys2Proof.Machine.execUnallocatedPageAccess addr s
  | .paramWindowWrite off v => Sys2Proof.Machine.execParamWindowWrite off v s
  | .pageStatRead page => Sys2Proof.Machine.execPageStatRead page s
  | .loHiCaptureRead addr => Sys2Proof.Machine.execLoHiCaptureRead addr s
  | .tdSecHiRead n edges => Sys2Proof.Machine.execTdSecHiRead n edges s
  | .objectAreaCapture handle => Sys2Proof.Machine.execObjectAreaCapture handle s
  | .ainCsSeqRead port => Sys2Proof.Machine.execAinCsSeqRead port s
  | .refPdSeqRead => Sys2Proof.Machine.execRefPdSeqRead s
  | .fltTopRead elapsedUs => Sys2Proof.Machine.execFltTopRead elapsedUs s
  | .pbLaneStatRead lane => Sys2Proof.Machine.execPbLaneStatRead lane s
  | .srst page => Sys2Proof.Machine.execSrst page s
  | .freeze page on => Sys2Proof.Machine.execFreeze page on s
  | .pageEnWrite page en => Sys2Proof.Machine.execPageEnWrite page en s
  | .fltLatchClear page v => Sys2Proof.Machine.execFltLatchClear page v s
  | .fltClassWrite page reg v => Sys2Proof.Machine.execFltClassWrite page reg v s
  | .fltMaskWrite page v => Sys2Proof.Machine.execFltMaskWrite page v s
  | .fltAck page src seq => Sys2Proof.Machine.execFltAck page src seq s
  | .mnop c => Sys2Proof.Machine.execMnop c s
  | .mpy c d a b => Sys2Proof.Machine.execMpy c d a b s
  | .mac c d a b => Sys2Proof.Machine.execMac c d a b s
  | .msu c d a b => Sys2Proof.Machine.execMsu c d a b s
  | .macs c d a b => Sys2Proof.Machine.execMacs c d a b s
  | .msus c d a b => Sys2Proof.Machine.execMsus c d a b s
  | .aclr c d => Sys2Proof.Machine.execAclr c d s
  | .amov c d a => Sys2Proof.Machine.execAmov c d a s
  | .aadd c d a => Sys2Proof.Machine.execAadd c d a s
  | .aldv c d a sh => Sys2Proof.Machine.execAldv c d a sh s
  | .cvt c d a sh => Sys2Proof.Machine.execCvt c d a sh s
  | .anorm c d b imm => Sys2Proof.Machine.execAnorm c d b imm s
  | .aexp c d a => Sys2Proof.Machine.execAexp c d a s
  | .aexpm c d a => Sys2Proof.Machine.execAexpm c d a s
  | .vadd c d a b => Sys2Proof.Machine.execVadd c d a b s
  | .vsub c d a b => Sys2Proof.Machine.execVsub c d a b s
  | .vneg c d a => Sys2Proof.Machine.execVneg c d a s
  | .vabs c d a => Sys2Proof.Machine.execVabs c d a s
  | .vmin c d a b => Sys2Proof.Machine.execVmin c d a b s
  | .vmax c d a b => Sys2Proof.Machine.execVmax c d a b s
  | .vand c d a b => Sys2Proof.Machine.execVand c d a b s
  | .vor c d a b => Sys2Proof.Machine.execVor c d a b s
  | .vxor c d a b => Sys2Proof.Machine.execVxor c d a b s
  | .vmov c d a => Sys2Proof.Machine.execVmov c d a s
  | .vspl c d a => Sys2Proof.Machine.execVspl c d a s
  | .vmul c d a b sh => Sys2Proof.Machine.execVmul c d a b sh s
  | .norm c d a b imm => Sys2Proof.Machine.execNorm c d a b imm s
  | .exp c d a => Sys2Proof.Machine.execExp c d a s
  | .expm c d a => Sys2Proof.Machine.execExpm c d a s
  | .vcmplt c a b => Sys2Proof.Machine.execVcmplt c a b s
  | .vcmple c a b => Sys2Proof.Machine.execVcmple c a b s
  | .vcmpeq c a b => Sys2Proof.Machine.execVcmpeq c a b s
  | .vsel c d a b => Sys2Proof.Machine.execVsel c d a b s
  | .sadd c d a b => Sys2Proof.Machine.execSadd c d a b s
  | .ssub c d a b => Sys2Proof.Machine.execSsub c d a b s
  | .saddi c d a imm => Sys2Proof.Machine.execSaddi c d a imm s
  | .sand c d a b => Sys2Proof.Machine.execSand c d a b s
  | .sor c d a b => Sys2Proof.Machine.execSor c d a b s
  | .sshl c d a n => Sys2Proof.Machine.execSshl c d a n s
  | .sshr c d a n => Sys2Proof.Machine.execSshr c d a n s
  | .smul c d a b => Sys2Proof.Machine.execSmul c d a b s
  | .scmplt c a b => Sys2Proof.Machine.execScmplt c a b s
  | .anop c => Sys2Proof.Machine.execAnop c s
  | .ldv c r p am => Sys2Proof.Machine.execLdv c r p am s
  | .stv c r p am => Sys2Proof.Machine.execStv c r p am s
  | .ldb c r p am => Sys2Proof.Machine.execLdb c r p am s
  | .lds c r p am => Sys2Proof.Machine.execLds c r p am s
  | .sts c r p am => Sys2Proof.Machine.execSts c r p am s
  | .stc c r p am sh => Sys2Proof.Machine.execStc c r p am sh s
  | .ldap c r part p am => Sys2Proof.Machine.execLdap c r part p am s
  | .stap c r part p am => Sys2Proof.Machine.execStap c r part p am s
  | .ldv2 c ra pa am rb pb ub => Sys2Proof.Machine.execLdv2 c ra pa am rb pb ub s
  | .ldvb c ra pa am rb pb ub => Sys2Proof.Machine.execLdvb c ra pa am rb pb ub s
  | .ldst c ra pa am rb pb ub => Sys2Proof.Machine.execLdst c ra pa am rb pb ub s
  | .aupd c p am => Sys2Proof.Machine.execAupd c p am s
  | .setm c m imm => Sys2Proof.Machine.execSetm c m imm s
  | .mvp c p r => Sys2Proof.Machine.execMvp c p r s
  | .mvm c m r => Sys2Proof.Machine.execMvm c m r s
  | .mvl c l r => Sys2Proof.Machine.execMvl c l r s
  | .mvb c b r => Sys2Proof.Machine.execMvb c b r s
  | .rdp c r p => Sys2Proof.Machine.execRdp c r p s
  | .paddi c p imm => Sys2Proof.Machine.execPaddi c p imm s
  | .loadWriteback c => Sys2Proof.Machine.execLoadWriteback c s
  | .cnop c => Sys2Proof.Machine.execCnop c s
  | .swapEnd c => Sys2Proof.Machine.execSwapEnd c s
  | .br c rel => Sys2Proof.Machine.execBr c rel s
  | .brc c cond rel => Sys2Proof.Machine.execBrc c cond rel s
  | .loop c k n => Sys2Proof.Machine.execLoop c k n s
  | .setlc c k imm => Sys2Proof.Machine.execSetlc c k imm s
  | .mvlc c k a => Sys2Proof.Machine.execMvlc c k a s
  | .smov c d a => Sys2Proof.Machine.execSmov c d a s
  | .sldi c d imm => Sys2Proof.Machine.execSldi c d imm s
  | .vext c d a l => Sys2Proof.Machine.execVext c d a l s
  | .vins c a l d => Sys2Proof.Machine.execVins c a l d s
  | .rdcs c d => Sys2Proof.Machine.execRdcs c d s
  | .tickStart edges trigP trigN media cycles pdm => Sys2Proof.Machine.execTickStart edges trigP trigN media cycles pdm s
  | .tickEntry errs bad late => Sys2Proof.Machine.execTickEntry errs bad late s
  | .phaseB nodeErrs errs cycles => Sys2Proof.Machine.execPhaseB nodeErrs errs cycles s
  | .phaseC g errs bad late => Sys2Proof.Machine.execPhaseC g errs bad late s
  | .phaseD nodeErrs errs cycles => Sys2Proof.Machine.execPhaseD nodeErrs errs cycles s
  | .phaseE g errs bad late => Sys2Proof.Machine.execPhaseE g errs bad late s
  | .kernelBudgetExhausted cluster => Sys2Proof.Machine.execKernelBudgetExhausted cluster s
  | .tickOvr g => Sys2Proof.Machine.execTickOvr g s
  | .lineJudge n => Sys2Proof.Machine.execLineJudge n s
  | .ambientBlock zone => Sys2Proof.Machine.execAmbientBlock zone s
  | .probeSynthesisDone zone => Sys2Proof.Machine.execProbeSynthesisDone zone s
  | .probeStart zone => Sys2Proof.Machine.execProbeStart zone s
  | .probePeriod zone bad eccBad => Sys2Proof.Machine.execProbePeriod zone bad eccBad s
  | .probeYield zone => Sys2Proof.Machine.execProbeYield zone s
  | .probeOutputEnd zone => Sys2Proof.Machine.execProbeOutputEnd zone s
  | .pathResult path => Sys2Proof.Machine.execPathResult path s
  | .safelightStoreDone ok => Sys2Proof.Machine.execSafelightStoreDone ok s
  | .tdmInputFrame p slots noStart glitch rate phase => Sys2Proof.Machine.execTdmInputFrame p slots noStart glitch rate phase s
  | .tdmOutputFrame p => Sys2Proof.Machine.execTdmOutputFrame p s
  | .tdmBclkLoss p => Sys2Proof.Machine.execTdmBclkLoss p s
  | .tdmLossExit p => Sys2Proof.Machine.execTdmLossExit p s
  | .preRollEnd page => Sys2Proof.Machine.execPreRollEnd page s
  | .postRollEnd page => Sys2Proof.Machine.execPostRollEnd page s
  | .aes3RxFrame r preamble violation rate a b va vb pa pb => Sys2Proof.Machine.execAes3RxFrame r preamble violation rate a b va vb pa pb s
  | .aes3CsBlockRx r csA csB ubA ubB => Sys2Proof.Machine.execAes3CsBlockRx r csA csB ubA ubB s
  | .aes3TxBlockStart t aged => Sys2Proof.Machine.execAes3TxBlockStart t aged s
  | .aoutCsCommit t v => Sys2Proof.Machine.execAoutCsCommit t v s
  | .pdmClockLoss => Sys2Proof.Machine.execPdmClockLoss s
  | .pdmLossExit => Sys2Proof.Machine.execPdmLossExit s
  | .micStuck m => Sys2Proof.Machine.execMicStuck m s
  | .micStuckEnd m => Sys2Proof.Machine.execMicStuckEnd m s
  | .asrcLock kind port => Sys2Proof.Machine.execAsrcLock kind port s
  | .asrcUnlock kind port => Sys2Proof.Machine.execAsrcUnlock kind port s
  | .macFrameRx mac f => Sys2Proof.Machine.execMacFrameRx mac f s
  | .pauseExpiry mac => Sys2Proof.Machine.execPauseExpiry mac s
  | .macFrameTx mac underrun => Sys2Proof.Machine.execMacFrameTx mac underrun s
  | .collision late => Sys2Proof.Machine.execCollision late s
  | .backoffExpiry => Sys2Proof.Machine.execBackoffExpiry s
  | .arpRetryTimer stream => Sys2Proof.Machine.execArpRetryTimer stream s
  | .arpRefreshTimer stream => Sys2Proof.Machine.execArpRefreshTimer stream s
  | .noArp stream => Sys2Proof.Machine.execNoArp stream s
  | .prpSupervisionTimer => Sys2Proof.Machine.execPrpSupervisionTimer s
  | .prpNodeAgeout node => Sys2Proof.Machine.execPrpNodeAgeout node s
  | .prpPartnerTimeout node seq => Sys2Proof.Machine.execPrpPartnerTimeout node seq s
  | .oneLan lan raised => Sys2Proof.Machine.execOneLan lan raised s
  | .streamPacketRx sample => Sys2Proof.Machine.execStreamPacketRx sample s
  | .streamPacketTx stream full => Sys2Proof.Machine.execStreamPacketTx stream full s
  | .ptpMessageRx portState => Sys2Proof.Machine.execPtpMessageRx portState s
  | .ptpSyncInterval td offset step rate => Sys2Proof.Machine.execPtpSyncInterval td offset step rate s
  | .ptpAnnounceTimeout td => Sys2Proof.Machine.execPtpAnnounceTimeout td s
  | .ptpCfgApply td => Sys2Proof.Machine.execPtpCfgApply td s
  | .anchorSlip td => Sys2Proof.Machine.execAnchorSlip td s
  | .macmLinkChange up => Sys2Proof.Machine.execMacmLinkChange up s
  | .clockLoss clock unlock => Sys2Proof.Machine.execClockLoss clock unlock s
  | .clkFreq clock => Sys2Proof.Machine.execClkFreq clock s
  | .cdcTimeout domain => Sys2Proof.Machine.execCdcTimeout domain s
  | .ncoUpdate loop pd => Sys2Proof.Machine.execNcoUpdate loop pd s
  | .candidateMeasurement slot ofs => Sys2Proof.Machine.execCandidateMeasurement slot ofs s
  | .candidateQualified slot => Sys2Proof.Machine.execCandidateQualified slot s
  | .candidateUnusable slot => Sys2Proof.Machine.execCandidateUnusable slot s
  | .referenceSwitch => Sys2Proof.Machine.execReferenceSwitch s
  | .referenceRevert slot => Sys2Proof.Machine.execReferenceRevert slot s
  | .dpllSlewEnd => Sys2Proof.Machine.execDpllSlewEnd s
  | .dpllLock => Sys2Proof.Machine.execDpllLock s
  | .dpllLockStep ok => Sys2Proof.Machine.execDpllLockStep ok s
  | .dpllPhaseAlarm => Sys2Proof.Machine.execDpllPhaseAlarm s
  | .outputRealign output ofs => Sys2Proof.Machine.execOutputRealign output ofs s
  | .meterHoldWrite handle lane => Sys2Proof.Machine.execMeterHoldWrite handle lane s
  | .recFreeze => Sys2Proof.Machine.execRecFreeze s
  | .recResume => Sys2Proof.Machine.execRecResume s
  | .recDrain ring => Sys2Proof.Machine.execRecDrain ring s
  | .recorderDrainBuffer => Sys2Proof.Machine.execRecorderDrainBuffer s
  | .recorderAutoFreeze => Sys2Proof.Machine.execRecorderAutoFreeze s
  | .deferredColumnStart outMat col => Sys2Proof.Machine.execDeferredColumnStart outMat col s
  | .developArmed => Sys2Proof.Machine.execDevelopArmed s
  | .developCommit => Sys2Proof.Machine.execDevelopCommit s
  | .disruptivePlanStart => Sys2Proof.Machine.execDisruptivePlanStart s
  | .mediaGlideEnd => Sys2Proof.Machine.execMediaGlideEnd s
  | .dissolveWaitStart handle => Sys2Proof.Machine.execDissolveWaitStart handle s
  | .dissolveEnd handle => Sys2Proof.Machine.execDissolveEnd handle s
  | .chainedChangeStart handle => Sys2Proof.Machine.execChainedChangeStart handle s
  | .fixSnapshot => Sys2Proof.Machine.execFixSnapshot s
  | .fixPhaseDone ok => Sys2Proof.Machine.execFixPhaseDone ok s
  | .clipStart player => Sys2Proof.Machine.execClipStart player s
  | .clipEnd player => Sys2Proof.Machine.execClipEnd player s
  | .triggerDetection input => Sys2Proof.Machine.execTriggerDetection input s
  | .lineFault input => Sys2Proof.Machine.execLineFault input s
  | .lineFaultClear input => Sys2Proof.Machine.execLineFaultClear input s
  | .triggerFire input => Sys2Proof.Machine.execTriggerFire input s
  | .fltInjForceRaw target src => Sys2Proof.Machine.execFltInjForceRaw target src s
  | .fltInjRailsHigh target src => Sys2Proof.Machine.execFltInjRailsHigh target src s
  | .fltInjRailsLow target src => Sys2Proof.Machine.execFltInjRailsLow target src s
  | .fltInjFlipOne bank => Sys2Proof.Machine.execFltInjFlipOne bank s
  | .fltInjFlipTwo bank => Sys2Proof.Machine.execFltInjFlipTwo bank s
  | .fltInjCorruptSignature unit => Sys2Proof.Machine.execFltInjCorruptSignature unit s
  | .fltInjCollectorDisagree copy => Sys2Proof.Machine.execFltInjCollectorDisagree copy s
  | .fltInjStop => Sys2Proof.Machine.execFltInjStop s
  | .marchGo => Sys2Proof.Machine.execMarchGo s
  | .marchAbort => Sys2Proof.Machine.execMarchAbort s
  | .reacquire td => Sys2Proof.Machine.execReacquire td s
  | .tdcLoad => Sys2Proof.Machine.execTdcLoad s
  | .refOpen on => Sys2Proof.Machine.execRefOpen on s
  | .refNcoWrite v => Sys2Proof.Machine.execRefNcoWrite v s
  | .align outputs => Sys2Proof.Machine.execAlign outputs s
  | .tickMatchArm lo => Sys2Proof.Machine.execTickMatchArm lo s
  | .enCapWrite mw => Sys2Proof.Machine.execEnCapWrite mw s
  | .laneLoopback lane mode => Sys2Proof.Machine.execLaneLoopback lane mode s
  | .laneTxPattern lane pattern => Sys2Proof.Machine.execLaneTxPattern lane pattern s
  | .laneRxChecker lane pattern => Sys2Proof.Machine.execLaneRxChecker lane pattern s
  | .laneInjOne lane => Sys2Proof.Machine.execLaneInjOne lane s
  | .lanePllLock lane => Sys2Proof.Machine.execLanePllLock lane s
  | .laneSignalDetect lane => Sys2Proof.Machine.execLaneSignalDetect lane s
  | .laneCdrLock lane => Sys2Proof.Machine.execLaneCdrLock lane s
  | .laneAdaptEnd lane eh ew ctle dfe => Sys2Proof.Machine.execLaneAdaptEnd lane eh ew ctle dfe s
  | .laneAlignedEv lane inverted => Sys2Proof.Machine.execLaneAlignedEv lane inverted s
  | .laneStateTimeout lane => Sys2Proof.Machine.execLaneStateTimeout lane s
  | .laneDown lane cause => Sys2Proof.Machine.execLaneDown lane cause s
  | .lowFom lane eh ew => Sys2Proof.Machine.execLowFom lane eh ew s
  | .prbsCheckerSync lane sync bits errs => Sys2Proof.Machine.execPrbsCheckerSync lane sync bits errs s
  | .laneInjPeriodic lane => Sys2Proof.Machine.execLaneInjPeriodic lane s
  | .pcieLinkUp speed width => Sys2Proof.Machine.execPcieLinkUp speed width s
  | .katRoundStart => Sys2Proof.Machine.execKatRoundStart s
  | .katRoundDone failed => Sys2Proof.Machine.execKatRoundDone failed s
  | .katLate => Sys2Proof.Machine.execKatLate s
  | .faultEdgeCollect => Sys2Proof.Machine.execFaultEdgeCollect s
  | .railBroken page src => Sys2Proof.Machine.execRailBroken page src s
  | .faultTimerExpiry page src => Sys2Proof.Machine.execFaultTimerExpiry page src s
  | .firmwareAutoAck page src => Sys2Proof.Machine.execFirmwareAutoAck page src s
  | .collector => Sys2Proof.Machine.execCollector s
  | .sensorSample temps => Sys2Proof.Machine.execSensorSample temps s
  | .railMonitorReading monitor mv average => Sys2Proof.Machine.execRailMonitorReading monitor mv average s
  | .scrubPassEnd complete errors => Sys2Proof.Machine.execScrubPassEnd complete errors s
  | .dramTempPoll channel hot => Sys2Proof.Machine.execDramTempPoll channel hot s
  | .marchSegmentDone ok failAddr => Sys2Proof.Machine.execMarchSegmentDone ok failAddr s
  | .fabricAgePromotion master cycles outstanding held => Sys2Proof.Machine.execFabricAgePromotion master cycles outstanding held s
  | .lockTimeout => Sys2Proof.Machine.execLockTimeout s
  | .noPath master target => Sys2Proof.Machine.execNoPath master target s
  | .logFlush ok => Sys2Proof.Machine.execLogFlush ok s
  | .clusterWake c => Sys2Proof.Machine.execClusterWake c s
  | .clusterImageReloadDone c ok => Sys2Proof.Machine.execClusterImageReloadDone c ok s
  | .groupIdle group => Sys2Proof.Machine.execGroupIdle group s
  | .energyWindowEnd => Sys2Proof.Machine.execEnergyWindowEnd s
  | .shedCommit => Sys2Proof.Machine.execShedCommit s
  | .pmbusCalibrationRead answers => Sys2Proof.Machine.execPmbusCalibrationRead answers s
  | .zeroise => Sys2Proof.Machine.execZeroise s
  | .zeroiseDone => Sys2Proof.Machine.execZeroiseDone s
  | .tamper cause => Sys2Proof.Machine.execTamper cause s
  | .mbResetWarm key env => Sys2Proof.Machine.execMbResetWarm key env s
  | .mbResetCold key env => Sys2Proof.Machine.execMbResetCold key env s
  | .mbResetMgmt key copyOk => Sys2Proof.Machine.execMbResetMgmt key copyOk s
  | .mgmtWdt copyOk => Sys2Proof.Machine.execMgmtWdt copyOk s
  | .porNAssert => Sys2Proof.Machine.execPorNAssert s
  | .porNRelease env => Sys2Proof.Machine.execPorNRelease env s
  | .resetNAssert => Sys2Proof.Machine.execResetNAssert s
  | .resetNRelease env sramLost => Sys2Proof.Machine.execResetNRelease env sramLost s
  | .firmwareConfirm => Sys2Proof.Machine.execFirmwareConfirm s
  | .trialBootTimeout env => Sys2Proof.Machine.execTrialBootTimeout env s
  | .updateProgramDone ok => Sys2Proof.Machine.execUpdateProgramDone ok s
  | .pfailNLow => Sys2Proof.Machine.execPfailNLow s
  | .pfailRecoveryRestart env => Sys2Proof.Machine.execPfailRecoveryRestart env s
  | .cdcClockReturn domain => Sys2Proof.Machine.execCdcClockReturn domain s
  | .deskewMarkerRx lane marker skew => Sys2Proof.Machine.execDeskewMarkerRx lane marker skew s
  | .porbuodRateStep ok => Sys2Proof.Machine.execPorbuodRateStep ok s
  | .tickMessageRx ok n claim digest sigs mask => Sys2Proof.Machine.execTickMessageRx ok n claim digest sigs mask s
  | .inputMessageRx ok n samples => Sys2Proof.Machine.execInputMessageRx ok n samples s
  | .stateMessageRx ok records => Sys2Proof.Machine.execStateMessageRx ok records s
  | .paramMessageRx ok seq writes => Sys2Proof.Machine.execParamMessageRx ok seq writes s
  | .armMessageRx ok seq change => Sys2Proof.Machine.execArmMessageRx ok seq change s
  | .ackMessageRx ok seq => Sys2Proof.Machine.execAckMessageRx ok seq s
  | .confirmMessageRx ok seq arm => Sys2Proof.Machine.execConfirmMessageRx ok seq arm s
  | .confirmDeadline => Sys2Proof.Machine.execConfirmDeadline s
  | .bulkMessageRx ok seq items => Sys2Proof.Machine.execBulkMessageRx ok seq items s
  | .ctrlMessageRx ok seq msg => Sys2Proof.Machine.execCtrlMessageRx ok seq msg s
  | .pbRetransmit seq => Sys2Proof.Machine.execPbRetransmit seq s
  | .heartbeatMiss => Sys2Proof.Machine.execHeartbeatMiss s
  | .clmiWordRx w => Sys2Proof.Machine.execClmiWordRx w s
  | .clmiLost => Sys2Proof.Machine.execClmiLost s
  | .promotion => Sys2Proof.Machine.execPromotion s
  | .election => Sys2Proof.Machine.execElection s
  | .pairWaitExpiry => Sys2Proof.Machine.execPairWaitExpiry s
  | .pairLinkTimeout => Sys2Proof.Machine.execPairLinkTimeout s
  | .stateTransferDone => Sys2Proof.Machine.execStateTransferDone s
  | .pairVerifyDone => Sys2Proof.Machine.execPairVerifyDone s
  | .excuseWindowClose => Sys2Proof.Machine.execExcuseWindowClose s
  | .handover => Sys2Proof.Machine.execHandover s
  | .handoverComplete => Sys2Proof.Machine.execHandoverComplete s

end Sys2Proof.Machine
end

