-- ==== Sys2Proof/Machine/Step.lean ====
section
/-!
DEFINITION. One step of the block: the command at the front of the queue, or, while none waits, the next command descriptor that the rings
hold (R43, log entry 1).
-/
namespace Sys2Proof.Machine

/-- The block takes the command at the front of its queue. With an empty queue its dispatcher takes the next descriptor announced on a
command ring, if one can be dispatched, and otherwise the block idles. -/
def step (s : State) : Host.Outcome State Fault Refusal :=
  match s.pending with
  | [] => .next (s.dispatchNext none)
  | c :: rest => exec c { s with pending := rest }

/-- The state with the command that a word spells at the front of its queue; unchanged where the word spells none. -/
def State.withFetchWord (s : State) (nbits w : Nat) : State :=
  match Sys2Proof.decodeTableWord nbits w with
  | some c => { s with pending := c :: s.pending }
  | none => s

end Sys2Proof.Machine
end

