-- ==== Sys2Proof/Safety.lean ====
section
/-!
DEFINITION. What counts as a safe state of the block: the canonical form of its sparse maps, and the life cycle's own rules. Claims about a
register's or a byte's new value assume the first, since a list that is not in its form could hold an address twice.
-/
namespace Sys2Proof.Machine

/-- The registers, the Latent registers and the parameter window in their canonical forms: addresses strictly rising, and no entry that an
unlisted address reads as anyway (R22, R23, R157). -/
def State.canonical (s : State) : Bool :=
  Sparse.wf RegDir.reset s.regs && Sparse.wf RegDir.reset s.lat && Sparse.wf winDefault s.win

/-- A cluster's memories in their canonical forms (R190, R196): data, program, and the words of each that hold an error (R195). -/
def Cluster.canonical (k : Cluster) : Bool :=
  Sparse.wf (fun _ => 0) k.mem && Sparse.wf (fun _ => 0) k.pmem && Sparse.wf (fun _ => 0) k.memBad && Sparse.wf (fun _ => 0) k.pmemBad && Sparse.wf (fun _ => 0) k.flips

/-- Every cluster's. -/
def State.ram (s : State) : Bool := (List.finRange 16).all fun c => s.clusters[c].canonical

/-- The life cycle keeps its rules (R496, R497): five states; no transition runs from the last of them; in the last one the key-kill fuse
is blown; and with that fuse blown no role key is loaded. -/
def SecSt.legal (x : SecSt) : Bool :=
  decide (x.state ≤ 4) && (x.adv.isNone || decide (x.state ≤ 3)) && (decide (x.state ≠ 4) || x.keyKill) &&
  (!x.keyKill || decide (x.keys = []))

/-- The invariant that every step keeps. -/
def State.safe (s : State) : Bool := s.canonical && s.ram && s.sec.legal

/-- The other maps whose statements read an entry that may return to its default: the rings' descriptors, events and counted completions, the
dirty lines, the transmit streams, the lines and references of Safelight, and the frames that ports and strips fill (R42, R44, R46, R158, R243,
R261). -/
def State.maps (s : State) : Bool :=
  Sparse.wf (fun _ => []) s.host.queue && Sparse.wf (fun _ => []) s.host.events && Sparse.wf (fun _ => 0) s.host.unsignalled &&
  Sparse.wf (fun _ => false) s.scn.lines && Sparse.wf (fun _ => TxStream.rest) s.net.tx && Sparse.wf (fun _ => LineSt.rest) s.sl.lines &&
  Sparse.wf (fun _ => none) s.sl.refs && Sparse.wf (fun _ => none) s.flash.safelight.refs && Sparse.wf (fun _ => 0) s.eng.cap &&
  Sparse.wf (fun _ => false) s.eng.capOk && Sparse.wf (fun _ => 0) s.eng.cOut && Sparse.wf (fun _ => 0) s.eng.eOut

/-! The terms of the statements about a cluster's slot operations. -/

/-- No load on its way to a cluster returns to the register that `w` names (R218). -/
def Cluster.noLoad (k : Cluster) (w : RegWrite) : Bool := k.loads.all fun x => !w.same x

/-- A command leaves `f l`, saturated to 72 bits, in lane `l` of accumulator `d` of cluster `c`, and sets AOVF of the lanes that saturate
(R203). -/
def AccGets (i : Instr) (s : State) (c : Fin 16) (d : Fin 8) (f : Fin 4 → Int) : Prop :=
  ∃ t, exec i s = .next t ∧ ∀ l : Fin 4,
    (t.clusters[c].fg.acc[d][l]).toInt = max (-(2 ^ 71)) (min (2 ^ 71 - 1) (f l)) ∧
    t.clusters[c].cstat.getLsbD (4 + l.val) = (s.clusters[c].cstat.getLsbD (4 + l.val) || decide (f l < -(2 ^ 71) ∨ 2 ^ 71 - 1 < f l))

/-- The same for a lane of vector register `d`, 32 bits and SAT (R205). -/
def VecGets (i : Instr) (s : State) (c : Fin 16) (d : Fin 16) (f : Fin 4 → Int) : Prop :=
  ∃ t, exec i s = .next t ∧ ∀ l : Fin 4,
    (t.clusters[c].fg.v[d][l]).toInt = max (-(2 ^ 31)) (min (2 ^ 31 - 1) (f l)) ∧
    t.clusters[c].cstat.getLsbD l.val = (s.clusters[c].cstat.getLsbD l.val || decide (f l < -(2 ^ 31) ∨ 2 ^ 31 - 1 < f l))

/-- A command leaves `w` in scalar register `d` of cluster `c`. -/
def ScalarGets (i : Instr) (s : State) (c : Fin 16) (d : Fin 8) (w : Word) : Prop :=
  ∃ t, exec i s = .next t ∧ t.clusters[c].fg.s[d] = w

/-- A compare leaves `p l` in CMP of lane `l`, and ANY and ALL over the four lanes (R189). -/
def CmpGets (i : Instr) (s : State) (c : Fin 16) (p : Fin 4 → Bool) : Prop :=
  ∃ t, exec i s = .next t ∧ (∀ l : Fin 4, t.clusters[c].cstat.getLsbD (28 + l.val) = p l) ∧
    t.clusters[c].cstat.getLsbD 27 = (p 0 || p 1 || p 2 || p 3) ∧ t.clusters[c].cstat.getLsbD 26 = (p 0 && p 1 && p 2 && p 3)

/-- The count of a NORM or ANORM (R221): the immediate from −31 to +31, or the scalar `b` where the immediate is −64. -/
def NormCount (k : RegSet) (b : Fin 8) (imm : BitVec 7) (n : Int) : Prop :=
  -31 ≤ n ∧ n ≤ 31 ∧ (imm.toInt = n ∨ (imm.toInt = -64 ∧ k.s[b].toInt = n))

/-- A lane shifted by a count (R207), before saturation: left, or right with half a unit added. -/
def normed (v n : Int) : Int := if 0 ≤ n then v * 2 ^ n.toNat else (v + 2 ^ ((-n).toNat - 1)) / 2 ^ (-n).toNat

/-- `n` redundant sign bits in a number of `w` bits (R206): one more would not fit. -/
def SignBits (w : Nat) (v : Int) (n : Nat) : Prop :=
  n < w ∧ -(2 ^ (w - 1 - n)) ≤ v ∧ v < 2 ^ (w - 1 - n) ∧ (n + 1 < w → v < -(2 ^ (w - 2 - n)) ∨ 2 ^ (w - 2 - n) ≤ v)

/-- A flip of `n` bits waits for the next write to memory bank `b`: of the cluster that holds the bank, of no other (R413, R458). -/
def FlipWaits (s t : State) (b n : Nat) : Prop :=
  (b < 192 ∨ 352 ≤ b → t.clusters = s.clusters) ∧
  ∀ (c : Fin 16) (k : Nat), (192 + 8 * c.val + k = b ∧ k < 8 ∨ 320 + 2 * c.val + (k - 8) = b ∧ 8 ≤ k ∧ k < 10 →
      t.clusters[c] = { s.clusters[c] with flips := Sparse.set 0 s.clusters[c].flips k n }) ∧
    (b < 192 + 8 * c.val ∨ 200 + 8 * c.val ≤ b → b < 320 + 2 * c.val ∨ 322 + 2 * c.val ≤ b → t.clusters[c] = s.clusters[c])

/-! The components of the state, for frames. -/

/-- A component of the state. -/
inductive Part where
  | pending | regs | lat | snaps | caps | areas | rdata | out | free | ms | win | host | flt | log | sec | flash | upd | clusters | eng | scn | pair | ports | sl | net | clk | en
deriving DecidableEq, Repr

/-- A component is the same in two states. -/
def State.same (s t : State) : Part → Prop
  | .pending => t.pending = s.pending
  | .regs => t.regs = s.regs
  | .lat => t.lat = s.lat
  | .snaps => t.snaps = s.snaps
  | .caps => t.caps = s.caps
  | .areas => t.areas = s.areas
  | .rdata => t.rdata = s.rdata
  | .out => t.out = s.out
  | .free => t.free = s.free
  | .ms => t.ms = s.ms
  | .win => t.win = s.win
  | .host => t.host = s.host
  | .flt => t.flt = s.flt
  | .log => t.log = s.log
  | .sec => t.sec = s.sec
  | .flash => t.flash = s.flash
  | .upd => t.upd = s.upd
  | .clusters => t.clusters = s.clusters
  | .eng => t.eng = s.eng
  | .scn => t.scn = s.scn
  | .pair => t.pair = s.pair
  | .ports => t.ports = s.ports
  | .sl => t.sl = s.sl
  | .net => t.net = s.net
  | .clk => t.clk = s.clk
  | .en => t.en = s.en

/-- Nothing but the listed components differs. -/
def State.sameBut (s : State) (l : List Part) (t : State) : Prop := ∀ p, p ∉ l → s.same t p

/-- The bundle that a slot command issues, and its cluster (R217, R220 to R224): its operation in one slot, no-ops in the others. -/
def slotBundle : Instr → Option (Fin 16 × Bundle)
  | .mnop c => some (c, ⟨⟨0, 0, 0, 0, 0, 0⟩, .nop, .nop⟩)
  | .mpy c d a b => some (c, ⟨⟨1, (w8 d), a, b, 0, 0⟩, .nop, .nop⟩)
  | .mac c d a b => some (c, ⟨⟨2, (w8 d), a, b, 0, 0⟩, .nop, .nop⟩)
  | .msu c d a b => some (c, ⟨⟨3, (w8 d), a, b, 0, 0⟩, .nop, .nop⟩)
  | .macs c d a b => some (c, ⟨⟨4, (w8 d), a, (w8 b), 0, 0⟩, .nop, .nop⟩)
  | .msus c d a b => some (c, ⟨⟨5, (w8 d), a, (w8 b), 0, 0⟩, .nop, .nop⟩)
  | .aclr c d => some (c, ⟨⟨6, (w8 d), 0, 0, 0, 0⟩, .nop, .nop⟩)
  | .amov c d a => some (c, ⟨⟨7, (w8 d), (w8 a), 0, 0, 0⟩, .nop, .nop⟩)
  | .aadd c d a => some (c, ⟨⟨8, (w8 d), (w8 a), 0, 0, 0⟩, .nop, .nop⟩)
  | .aldv c d a sh => some (c, ⟨⟨9, (w8 d), a, 0, sh, 0⟩, .nop, .nop⟩)
  | .cvt c d a sh => some (c, ⟨⟨10, d, (w8 a), 0, sh, 0⟩, .nop, .nop⟩)
  | .anorm c d b imm => some (c, ⟨⟨11, (w8 d), 0, (w8 b), 0, imm⟩, .nop, .nop⟩)
  | .aexp c d a => some (c, ⟨⟨12, d, (w8 a), 0, 0, 0⟩, .nop, .nop⟩)
  | .aexpm c d a => some (c, ⟨⟨13, (w8 d), (w8 a), 0, 0, 0⟩, .nop, .nop⟩)
  | .vadd c d a b => some (c, ⟨⟨16, d, a, b, 0, 0⟩, .nop, .nop⟩)
  | .vsub c d a b => some (c, ⟨⟨17, d, a, b, 0, 0⟩, .nop, .nop⟩)
  | .vneg c d a => some (c, ⟨⟨18, d, a, 0, 0, 0⟩, .nop, .nop⟩)
  | .vabs c d a => some (c, ⟨⟨19, d, a, 0, 0, 0⟩, .nop, .nop⟩)
  | .vmin c d a b => some (c, ⟨⟨20, d, a, b, 0, 0⟩, .nop, .nop⟩)
  | .vmax c d a b => some (c, ⟨⟨21, d, a, b, 0, 0⟩, .nop, .nop⟩)
  | .vand c d a b => some (c, ⟨⟨22, d, a, b, 0, 0⟩, .nop, .nop⟩)
  | .vor c d a b => some (c, ⟨⟨23, d, a, b, 0, 0⟩, .nop, .nop⟩)
  | .vxor c d a b => some (c, ⟨⟨24, d, a, b, 0, 0⟩, .nop, .nop⟩)
  | .vmov c d a => some (c, ⟨⟨25, d, a, 0, 0, 0⟩, .nop, .nop⟩)
  | .vspl c d a => some (c, ⟨⟨26, d, (w8 a), 0, 0, 0⟩, .nop, .nop⟩)
  | .vmul c d a b sh => some (c, ⟨⟨27, d, a, b, sh, 0⟩, .nop, .nop⟩)
  | .norm c d a b imm => some (c, ⟨⟨28, d, a, (w8 b), 0, imm⟩, .nop, .nop⟩)
  | .exp c d a => some (c, ⟨⟨29, d, a, 0, 0, 0⟩, .nop, .nop⟩)
  | .expm c d a => some (c, ⟨⟨30, (w8 d), a, 0, 0, 0⟩, .nop, .nop⟩)
  | .vcmplt c a b => some (c, ⟨⟨32, 0, a, b, 0, 0⟩, .nop, .nop⟩)
  | .vcmple c a b => some (c, ⟨⟨33, 0, a, b, 0, 0⟩, .nop, .nop⟩)
  | .vcmpeq c a b => some (c, ⟨⟨34, 0, a, b, 0, 0⟩, .nop, .nop⟩)
  | .vsel c d a b => some (c, ⟨⟨35, d, a, b, 0, 0⟩, .nop, .nop⟩)
  | .sadd c d a b => some (c, ⟨⟨48, (w8 d), (w8 a), (w8 b), 0, 0⟩, .nop, .nop⟩)
  | .ssub c d a b => some (c, ⟨⟨49, (w8 d), (w8 a), (w8 b), 0, 0⟩, .nop, .nop⟩)
  | .saddi c d a imm => some (c, ⟨⟨50, (w8 d), (w8 a), 0, 0, imm⟩, .nop, .nop⟩)
  | .sand c d a b => some (c, ⟨⟨51, (w8 d), (w8 a), (w8 b), 0, 0⟩, .nop, .nop⟩)
  | .sor c d a b => some (c, ⟨⟨52, (w8 d), (w8 a), (w8 b), 0, 0⟩, .nop, .nop⟩)
  | .sshl c d a n => some (c, ⟨⟨53, (w8 d), (w8 a), 0, 0, (BitVec.ofNat 7 n.val)⟩, .nop, .nop⟩)
  | .sshr c d a n => some (c, ⟨⟨54, (w8 d), (w8 a), 0, 0, (BitVec.ofNat 7 n.val)⟩, .nop, .nop⟩)
  | .smul c d a b => some (c, ⟨⟨55, (w8 d), (w8 a), (w8 b), 0, 0⟩, .nop, .nop⟩)
  | .scmplt c a b => some (c, ⟨⟨56, 0, (w8 a), (w8 b), 0, 0⟩, .nop, .nop⟩)
  | .anop c => some (c, ⟨.nop, ⟨0, 0, 0, 0, 0⟩, .nop⟩)
  | .ldv c r p am => some (c, ⟨.nop, ⟨1, p, r, am, 0⟩, .nop⟩)
  | .stv c r p am => some (c, ⟨.nop, ⟨2, p, r, am, 0⟩, .nop⟩)
  | .ldb c r p am => some (c, ⟨.nop, ⟨3, p, r, am, 0⟩, .nop⟩)
  | .lds c r p am => some (c, ⟨.nop, ⟨4, p, (w8 r), am, 0⟩, .nop⟩)
  | .sts c r p am => some (c, ⟨.nop, ⟨5, p, (w8 r), am, 0⟩, .nop⟩)
  | .stc c r p am sh => some (c, ⟨.nop, ⟨6, p, (w8 r), am, (BitVec.ofNat 8 sh.val)⟩, .nop⟩)
  | .ldap c r part p am => some (c, ⟨.nop, ⟨7, p, (w8 r), am, (BitVec.ofNat 8 part.val)⟩, .nop⟩)
  | .stap c r part p am => some (c, ⟨.nop, ⟨8, p, (w8 r), am, (BitVec.ofNat 8 part.val)⟩, .nop⟩)
  | .ldv2 c ra pa am rb pb ub => some (c, ⟨.nop, ⟨9, pa, ra, am, BitVec.ofNat 8 (32 * pb.val + 2 * rb.val + ub.toNat)⟩, .nop⟩)
  | .ldvb c ra pa am rb pb ub => some (c, ⟨.nop, ⟨10, pa, ra, am, BitVec.ofNat 8 (32 * pb.val + 2 * rb.val + ub.toNat)⟩, .nop⟩)
  | .ldst c ra pa am rb pb ub => some (c, ⟨.nop, ⟨11, pa, ra, am, BitVec.ofNat 8 (32 * pb.val + 2 * rb.val + ub.toNat)⟩, .nop⟩)
  | .aupd c p am => some (c, ⟨.nop, ⟨16, p, 0, am, 0⟩, .nop⟩)
  | .setm c m imm => some (c, ⟨.nop, ⟨17, m, 0, 0, imm⟩, .nop⟩)
  | .mvp c p r => some (c, ⟨.nop, ⟨18, p, (w8 r), 0, 0⟩, .nop⟩)
  | .mvm c m r => some (c, ⟨.nop, ⟨19, m, (w8 r), 0, 0⟩, .nop⟩)
  | .mvl c l r => some (c, ⟨.nop, ⟨20, l, (w8 r), 0, 0⟩, .nop⟩)
  | .mvb c b r => some (c, ⟨.nop, ⟨21, b, (w8 r), 0, 0⟩, .nop⟩)
  | .rdp c r p => some (c, ⟨.nop, ⟨22, p, (w8 r), 0, 0⟩, .nop⟩)
  | .paddi c p imm => some (c, ⟨.nop, ⟨23, p, 0, 0, imm⟩, .nop⟩)
  | .cnop c => some (c, ⟨.nop, .nop, ⟨0, BitVec.ofNat 10 0⟩⟩)
  | .swapEnd c => some (c, ⟨.nop, .nop, ⟨1, BitVec.ofNat 10 1⟩⟩)
  | .br c rel => some (c, ⟨.nop, .nop, ⟨2, BitVec.ofNat 10 (rel.toNat)⟩⟩)
  | .brc c cond rel => some (c, ⟨.nop, .nop, ⟨3, BitVec.ofNat 10 (256 * cond.val + rel.toNat)⟩⟩)
  | .loop c k n => some (c, ⟨.nop, .nop, ⟨4, BitVec.ofNat 10 (512 * k.val + n.val)⟩⟩)
  | .setlc c k imm => some (c, ⟨.nop, .nop, ⟨5, BitVec.ofNat 10 (512 * k.val + imm.val)⟩⟩)
  | .mvlc c k a => some (c, ⟨.nop, .nop, ⟨6, BitVec.ofNat 10 (512 * k.val + a.val)⟩⟩)
  | .smov c d a => some (c, ⟨.nop, .nop, ⟨7, BitVec.ofNat 10 (8 * d.val + a.val)⟩⟩)
  | .sldi c d imm => some (c, ⟨.nop, .nop, ⟨8, BitVec.ofNat 10 (128 * d.val + imm.toNat)⟩⟩)
  | .vext c d a l => some (c, ⟨.nop, .nop, ⟨9, BitVec.ofNat 10 (128 * d.val + 8 * a.val + l.val)⟩⟩)
  | .vins c a l d => some (c, ⟨.nop, .nop, ⟨10, BitVec.ofNat 10 (128 * d.val + 8 * a.val + l.val)⟩⟩)
  | .rdcs c d => some (c, ⟨.nop, .nop, ⟨11, BitVec.ofNat 10 (128 * d.val)⟩⟩)
  | _ => none

/-- The registers that a slot command writes at the end of its bundle (R221, R223, R224), its pointers among them (R222). -/
def slotDests : Instr → List RegWrite
  | .mpy _ d _ _ => [.acc d (.replicate 4 0)]
  | .mac _ d _ _ => [.acc d (.replicate 4 0)]
  | .msu _ d _ _ => [.acc d (.replicate 4 0)]
  | .macs _ d _ _ => [.acc d (.replicate 4 0)]
  | .msus _ d _ _ => [.acc d (.replicate 4 0)]
  | .aclr _ d => [.acc d (.replicate 4 0)]
  | .amov _ d _ => [.acc d (.replicate 4 0)]
  | .aadd _ d _ => [.acc d (.replicate 4 0)]
  | .aldv _ d _ _ => [.acc d (.replicate 4 0)]
  | .cvt _ d _ _ => [.v d (.replicate 4 0)]
  | .anorm _ d _ _ => [.acc d (.replicate 4 0)]
  | .aexp _ d _ => [.v d (.replicate 4 0)]
  | .aexpm _ d _ => [.s d 0]
  | .vadd _ d _ _ => [.v d (.replicate 4 0)]
  | .vsub _ d _ _ => [.v d (.replicate 4 0)]
  | .vneg _ d _ => [.v d (.replicate 4 0)]
  | .vabs _ d _ => [.v d (.replicate 4 0)]
  | .vmin _ d _ _ => [.v d (.replicate 4 0)]
  | .vmax _ d _ _ => [.v d (.replicate 4 0)]
  | .vand _ d _ _ => [.v d (.replicate 4 0)]
  | .vor _ d _ _ => [.v d (.replicate 4 0)]
  | .vxor _ d _ _ => [.v d (.replicate 4 0)]
  | .vmov _ d _ => [.v d (.replicate 4 0)]
  | .vspl _ d _ => [.v d (.replicate 4 0)]
  | .vmul _ d _ _ _ => [.v d (.replicate 4 0)]
  | .norm _ d _ _ _ => [.v d (.replicate 4 0)]
  | .exp _ d _ => [.v d (.replicate 4 0)]
  | .expm _ d _ => [.s d 0]
  | .vsel _ d _ _ => [.v d (.replicate 4 0)]
  | .sadd _ d _ _ => [.s d 0]
  | .ssub _ d _ _ => [.s d 0]
  | .saddi _ d _ _ => [.s d 0]
  | .sand _ d _ _ => [.s d 0]
  | .sor _ d _ _ => [.s d 0]
  | .sshl _ d _ _ => [.s d 0]
  | .sshr _ d _ _ => [.s d 0]
  | .smul _ d _ _ => [.s d 0]
  | .ldv _ _ p _ => [.p p 0]
  | .stv _ _ p _ => [.p p 0]
  | .ldb _ _ p _ => [.p p 0]
  | .lds _ _ p _ => [.p p 0]
  | .sts _ _ p _ => [.p p 0]
  | .stc _ _ p _ _ => [.p p 0]
  | .ldap _ _ _ p _ => [.p p 0]
  | .stap _ _ _ p _ => [.p p 0]
  | .ldv2 _ _ pa _ _ pb _ => [.p pa 0, .p pb 0]
  | .ldvb _ _ pa _ _ pb _ => [.p pa 0, .p pb 0]
  | .ldst _ _ pa _ _ pb _ => [.p pa 0, .p pb 0]
  | .aupd _ p _ => [.p p 0]
  | .setm _ m _ => [.m m 0]
  | .mvp _ p _ => [.p p 0]
  | .mvm _ m _ => [.m m 0]
  | .mvl _ l _ => [.l l 0]
  | .mvb _ b _ => [.b b 0]
  | .rdp _ r _ => [.s r 0]
  | .paddi _ p _ => [.p p 0]
  | .smov _ d _ => [.s d 0]
  | .sldi _ d _ => [.s d 0]
  | .vext _ d _ _ => [.s d 0]
  | .vins _ a _ _ => [.v a (.replicate 4 0)]
  | .rdcs _ d => [.s d 0]
  | _ => []

/-- No injection that flips two bits waits for a bank of the cluster's memories (R458). -/
def Cluster.noDouble (k : Cluster) : Prop := ∀ x, Sparse.get 0 k.flips x ≠ 2

/-- A load issued and then returned (R218): `P` holds of the cluster after the load's own bundle and after the return. -/
def Loads (i : Instr) (s : State) (c : Fin 16) (P : Cluster → Cluster → Prop) : Prop :=
  ∃ t u, exec i s = .next t ∧ exec (.loadWriteback c) t = .next u ∧ P t.clusters[c] u.clusters[c]

/-- A store leaves `w l` in the lane words from data address `a` on, and every byte outside them as it was. -/
def Stores (i : Instr) (s : State) (c : Fin 16) (a n : Nat) (w : Nat → Word) : Prop :=
  ∃ t, exec i s = .next t ∧ (∀ l < n, t.clusters[c].word (a + 4 * l) = w l) ∧
    ∀ x, x < a ∨ a + 4 * n ≤ x → t.clusters[c].byte x = s.clusters[c].byte x

/-- A command leaves `P` of its cluster. -/
def Leaves (i : Instr) (s : State) (c : Fin 16) (P : Cluster → Prop) : Prop := ∃ t, exec i s = .next t ∧ P t.clusters[c]

/-- Two loads to one register: one of them stands, and which is open (log entry 41); to two registers: both. -/
def OneOrBoth (one : Prop) (a b : Prop) : Prop := (one → a ∨ b) ∧ (¬ one → a ∧ b)

/-- A cluster after a stop (R78, R213, R229): the sets exchanged; of its memory nothing changed but the strip buffer of the kernel, `f`
group-samples long, which holds the substitute; the loads and loops gone, the kernel with them; and flag `n` among the tick's sticky bits. -/
def Stopped (f : Nat) (k : Cluster) (n : Nat) (t : Cluster) : Prop :=
  t.fg = k.sh ∧ t.sh = k.fg ∧ (∀ a, (∀ r, k.run = some r → a < r.strip ∨ r.strip + 16 * f ≤ a) → Sparse.get 0 t.mem a = Sparse.get 0 k.mem a) ∧
  t.loads = [] ∧ t.loops = [] ∧ t.run = none ∧ t.cstat = 0 ∧ t.sticky.testBit n = true

/-! The terms of the statements about the other commands. -/

/-- A command completes, and `P` holds of the state it leaves. -/
def Does (i : Instr) (s : State) (P : State → Prop) : Prop := ∃ t, exec i s = .next t ∧ P t

/-- No register but those at the listed addresses reads otherwise than before. -/
def State.regsBut (s : State) (l : List Nat) (t : State) : Prop := ∀ a, a ∉ l → t.reg a = s.reg a

/-- The registers of a page that its fault sources write (R26): FLT_RAW, FLT_LATCH, EVT_COUNT. -/
def srcRegs (p : Nat) : List Nat := [(F.FLT_RAW.pg p).addr, (F.FLT_LATCH.pg p).addr, (F.EVT_COUNT.pg p).addr]

/-- A source of an enabled block that is not active, on an unbroken line (R30, R441): the next activity is a rising edge. -/
def State.quiet (s : State) (p n : Nat) : Prop := n < 16 ∧ s.enabled p = true ∧ s.raw p n = false ∧ s.broken p n = false

/-- What a rising edge of source `n` of page `p` leaves (R26, R33, R442): its LATCH bit, one more in EVT_COUNT, and, unless it is masked,
the edge behind those on their way to the collector. -/
def State.raised (s : State) (p n : Nat) (t : State) : Prop :=
  (t.rd (F.FLT_LATCH.pg p)).testBit n = true ∧ t.rd (F.EVT_COUNT.pg p) = (s.rd (F.EVT_COUNT.pg p) + 1) % 2 ^ 32 ∧
  t.flt.edges = if (s.rd (F.FLT_MASK.pg p)).testBit n then s.flt.edges else s.flt.edges ++ [(p, n)]

/-! The terms of the statements about the host's commands (R42 to R50). -/

/-- A command ring is ready for one command: the device takes commands from it, it runs, its response ring has room, and no command waits on
any ring. -/
def State.ready (s : State) (ring : Nat) : Bool :=
  s.takesCommands ring && s.ringRuns ring && s.hasRoom ring && ((List.range 16).all fun r => s.queueOf r == []) &&
    decide (s.rd (F.RING_TAIL.ring ring) < s.ringSize ring ∧ 2 ≤ s.ringSize ring)

/-- The state in which a command announced on such a ring is checked: TAIL and HEAD have moved past it. -/
def State.taken (s : State) (ring : Nat) (d : Desc) : State :=
  ((s.doorbell ring ((s.rd (F.RING_TAIL.ring ring) + 1) % s.ringSize ring) (fun _ => d) true).consume ring).tookTurn ring d

/-- The ring is ready, the command passes the common checks, and `v` is the state in which it is performed. -/
def State.passes (s : State) (ring : Nat) (d : Desc) (v : State) : Prop :=
  s.ready ring = true ∧ (s.taken ring d).precheck ring d = (none, v)

/-- A command's response posted (R46), its SEQ recorded where it is not refused (R48), and its ring's BLOCKED bit shown. -/
def State.replies (r : State) (ring : Nat) (d : Desc) (status detail result len : Nat) : State :=
  ((r.accept d status).respond (Sys2Proof.Machine.Desc.ticket d ring) status detail result len).showBlocked ring

/-- A host write reaches the block behind a register at once (R10, R22, R291, R393, R394): the page is allocated and ready, the address is
aligned, no standby refuses the write, and the block's clock domain has not stopped. -/
def State.takes (s : State) (a : Nat) : Bool :=
  (RegDir.page? (a / 4096)).isSome && s.on (F.PAGE_STAT_READY.pg (a / 4096)) && decide (a % 4 = 0) &&
    !(s.isStandby && pageMirror (a / 4096) && !unitOwned a) && !s.behindStopped a

/-- The command ring whose BLOCKED bit a change of ring `r` may move (R44): itself, or the one that a response ring answers. -/
def shownRing (r : Nat) : Nat := if r < 16 then r else r - 16

/-- Nothing else commits with the tick in progress (R164): no Develop, and no firing of a trigger input below `n`. -/
def State.nothingDue (s : State) (n : Nat) : Bool :=
  (s.scn.armed.all fun d => d.tick != s.tick) && s.eng.firings.all fun f => f.tick != s.tick || decide (n ≤ f.input)

/-- The registers of a cluster's page that show what a plan places on it (R193, R196). -/
def useRegs (c : Nat) : List Nat := [(F.CL_INST.pg c).addr, (F.CL_MEM_USE.pg c).addr, (F.CL_PM_USE.pg c).addr]

/-- A frame: no register but those at the listed addresses reads otherwise, and no component but the listed ones differs. -/
def State.only (s : State) (r : List Nat) (p : List Part) (t : State) : Prop := s.regsBut r t ∧ s.sameBut p t

/-- The registers of the event log and of the event rings that a record may change (R44, R491, R493). -/
def recRegs : List Nat := [F.LOG_HEAD.addr, F.LOG_OLDEST.addr, F.LOG_STAT_STAGED.addr, F.LOG_DROP.addr] ++ srcRegs 0x9A ++ srcRegs 0x08 ++
  (List.range 32).map fun r => (F.RING_STAT_DROP.ring r).addr

/-- The registers that show the fault collector's open entries (R449, R520). -/
def openRegs : List Nat := [F.FLT_OPEN_F1.addr, F.FLT_TOP_SEQ.addr] ++ (List.range 8).map fun i => (F.FLT_PAGE_OPEN.ix i).addr

/-- The open entry of a source. -/
def State.entry (s : State) (p n : Nat) : Option FltEntry := s.flt.entries.find? fun x => x.page == p && x.src == n

/-- A host read of a register is answered from the register itself (R10, R26, R393): its page is allocated and ready, its clock runs, no block is
frozen, and no earlier read has captured it. -/
def State.reads (s : State) (a : Nat) : Bool :=
  (RegDir.page? (a / 4096)).isSome && s.on (F.PAGE_STAT_READY.pg (a / 4096)) && !s.behindStopped a && s.snaps == [] && Sparse.get 0 s.caps a == 0

/-- The ring and the descriptor of a command row of the rings (R46, R52). -/
def hostDesc : Instr → Option (Fin 16 × Desc)
  | .nop r d => some (r, withOp d Op.nop)
  | .paramWrite r d => some (r, withOp d Op.paramWrite)
  | .paramRead r d => some (r, withOp d Op.paramRead)
  | .planLoad r d => some (r, withOp d Op.planLoad)
  | .admitPlan r d _ => some (r, withOp d Op.admitPlan)
  | .develop r d => some (r, withByte (withOp d Op.develop) 5 fun b => b / 2 * 2)
  | .developCancel r d => some (r, withByte (withOp d Op.develop) 5 fun b => b / 2 * 2 + 1)
  | .fix r d => some (r, withOp d Op.fix)
  | .clipLoad r d => some (r, withOp d Op.clipLoad)
  | .clipPlay r d => some (r, { withOp d Op.clipPlay with arg0 := d.arg0 &&& ~~~0x00080000#32 })
  | .clipStop r d => some (r, { withOp d Op.clipPlay with arg0 := d.arg0 ||| 0x00080000#32 })
  | .verify r d => some (r, withByte (withOp d Op.safelight) 0 fun _ => 1)
  | .capture r d => some (r, withByte (withOp d Op.safelight) 0 fun _ => 2)
  | .learnLines r d => some (r, withByte (withOp d Op.safelight) 0 fun _ => 3)
  | .store r d => some (r, withByte (withOp d Op.safelight) 0 fun _ => 4)
  | .abort r d => some (r, withByte (withOp d Op.safelight) 0 fun _ => 5)
  | .pairJoin r d => some (r, withOp d Op.pairJoin)
  | .pairYield r d => some (r, withOp d Op.pairYield)
  | .timeStep r d => some (r, withOp d Op.timeStep)
  | .timeRate r d => some (r, withOp d Op.timeRate)
  | .logRead r d => some (r, withOp d Op.logRead)
  | .sheetDefine r d => some (r, withOp d Op.sheetDefine)
  | .updateBegin r d => some (r, withOp d Op.updBegin)
  | .updateChunk r d => some (r, withOp d Op.updChunk)
  | .updateCommit r d => some (r, withOp d Op.updCommit)
  | .lifecycleAdvance r d => some (r, withOp d Op.lifecycle)
  | _ => none

/-- A command row whose descriptor stands at the head of a ready ring and passes the common checks completes at once: `v` is the state in which
it is performed, `r` the state it leaves, in which its response is posted with STATUS, DETAIL, RESULT and LEN (R46, R50, R54). -/
def Answers (i : Instr) (s v : State) (status detail result len : Nat) (P : State → Prop) : Prop :=
  ∀ ring d, hostDesc i = some (ring, d) → s.passes ring d v → ∃ r, exec i s = .next (r.replies ring d status detail result len) ∧ P r

/-- The same for a command whose response comes later (R54). -/
def Starts (i : Instr) (s v : State) (P : State → Prop) : Prop :=
  ∀ ring d, hostDesc i = some (ring, d) → s.passes ring d v → ∃ r, exec i s = .next ((r.accept d St.ok).showBlocked ring) ∧ P r

/-- A bus sum and an output sum of the frame in process (R127), before saturation. -/
def State.busSum (s : State) (b n : Nat) : Int :=
  roundShift (((List.range (s.vrd F.XPT_DIM0_S)).map fun x => s.gainAt (inNode x b) n * (sampleAt s.eng.aOut x n).toInt).sum) 28
def State.outSum (s : State) (o n : Nat) : Int :=
  roundShift (((List.range (s.vrd F.XPT_DIM0_BU)).map fun b => s.gainAt (outNode b o) n * (sampleAt s.eng.cOut b n).toInt).sum) 28

end Sys2Proof.Machine
end

