-- ==== Sys2Proof/Certificates/Slice0/Obligations.lean ====
section
/-!
DEFINITION. What is claimed of the block: the statements of OBLIGATIONS.json.
-/
open Sys2Proof Sys2Proof.Machine


/-- R202, R203, R207, R221: the operations on accumulators. -/
def Obligations.AccumulatorOps : Prop :=
  ∀ (s : State) (c : Fin 16) (d : Fin 8) (k : RegSet), s.clusters[c].fg = k → s.clusters[c].spent = false →
    s.clusters[c].noLoad (.acc d (.replicate 4 0)) = true →
    (∀ a b, AccGets (.mpy c d a b) s c d fun l => 2 * (k.v[a][l].toInt * k.v[b][l].toInt)) ∧
    (∀ a b, AccGets (.mac c d a b) s c d fun l => k.acc[d][l].toInt + 2 * (k.v[a][l].toInt * k.v[b][l].toInt)) ∧
    (∀ a b, AccGets (.msu c d a b) s c d fun l => k.acc[d][l].toInt - 2 * (k.v[a][l].toInt * k.v[b][l].toInt)) ∧
    (∀ a b, AccGets (.macs c d a b) s c d fun l => k.acc[d][l].toInt + 2 * (k.v[a][l].toInt * k.s[b].toInt)) ∧
    (∀ a b, AccGets (.msus c d a b) s c d fun l => k.acc[d][l].toInt - 2 * (k.v[a][l].toInt * k.s[b].toInt)) ∧
    AccGets (.aclr c d) s c d (fun _ => 0) ∧
    (∀ a, AccGets (.amov c d a) s c d fun l => k.acc[a][l].toInt) ∧
    (∀ a, AccGets (.aadd c d a) s c d fun l => k.acc[d][l].toInt + k.acc[a][l].toInt) ∧
    (∀ a (sh : Fin 8), AccGets (.aldv c d a sh) s c d fun l => k.v[a][l].toInt * 2 ^ (32 - sh.val)) ∧
    (∀ b imm n, NormCount k b imm n → ∃ t, exec (.anorm c d b imm) s = .next t ∧ ∀ l : Fin 4,
      (t.clusters[c].fg.acc[d][l]).toInt = max (-(2 ^ 71)) (min (2 ^ 71 - 1) (normed k.acc[d][l].toInt n)) ∧
      t.clusters[c].cstat.getLsbD l.val = (s.clusters[c].cstat.getLsbD l.val ||
        decide (normed k.acc[d][l].toInt n < -(2 ^ 71) ∨ 2 ^ 71 - 1 < normed k.acc[d][l].toInt n)))

/-- R204 to R207, R221, R224: the operations that leave a vector. -/
def Obligations.VectorOps : Prop :=
  ∀ (s : State) (c d : Fin 16) (k : RegSet), s.clusters[c].fg = k → s.clusters[c].spent = false →
    s.clusters[c].noLoad (.v d (.replicate 4 0)) = true →
    (∀ a (sh : Fin 8), VecGets (.cvt c d a sh) s c d fun l => (k.acc[a][l].toInt * 2 ^ sh.val + 2 ^ 31) / 2 ^ 32) ∧
    (∀ a, ∃ t, exec (.aexp c d a) s = .next t ∧ ∀ l : Fin 4, SignBits 72 k.acc[a][l].toInt (t.clusters[c].fg.v[d][l]).toNat) ∧
    (∀ a b, VecGets (.vadd c d a b) s c d fun l => k.v[a][l].toInt + k.v[b][l].toInt) ∧
    (∀ a b, VecGets (.vsub c d a b) s c d fun l => k.v[a][l].toInt - k.v[b][l].toInt) ∧
    (∀ a, VecGets (.vneg c d a) s c d fun l => -k.v[a][l].toInt) ∧
    (∀ a, VecGets (.vabs c d a) s c d fun l => max k.v[a][l].toInt (-k.v[a][l].toInt)) ∧
    (∀ a b, VecGets (.vmin c d a b) s c d fun l => min k.v[a][l].toInt k.v[b][l].toInt) ∧
    (∀ a b, VecGets (.vmax c d a b) s c d fun l => max k.v[a][l].toInt k.v[b][l].toInt) ∧
    (∀ a b, VecGets (.vand c d a b) s c d fun l => (k.v[a][l] &&& k.v[b][l]).toInt) ∧
    (∀ a b, VecGets (.vor c d a b) s c d fun l => (k.v[a][l] ||| k.v[b][l]).toInt) ∧
    (∀ a b, VecGets (.vxor c d a b) s c d fun l => (k.v[a][l] ^^^ k.v[b][l]).toInt) ∧
    (∀ a, VecGets (.vmov c d a) s c d fun l => k.v[a][l].toInt) ∧
    (∀ a, VecGets (.vspl c d a) s c d fun _ => k.s[a].toInt) ∧
    (∀ a b (sh : Fin 8), VecGets (.vmul c d a b sh) s c d fun l => (2 * (k.v[a][l].toInt * k.v[b][l].toInt) * 2 ^ sh.val + 2 ^ 31) / 2 ^ 32) ∧
    (∀ a b imm n, NormCount k b imm n → VecGets (.norm c d a b imm) s c d fun l => normed k.v[a][l].toInt n) ∧
    (∀ a, ∃ t, exec (.exp c d a) s = .next t ∧ ∀ l : Fin 4, SignBits 32 k.v[a][l].toInt (t.clusters[c].fg.v[d][l]).toNat) ∧
    (∀ a b, VecGets (.vsel c d a b) s c d fun l =>
      if s.clusters[c].cstat.getLsbD (28 + l.val) then k.v[a][l].toInt else k.v[b][l].toInt) ∧
    (∀ l e, ∃ t, exec (.vins c d l e) s = .next t ∧
      ∀ j : Fin 4, t.clusters[c].fg.v[d][j] = if j = l then k.s[e] else k.v[d][j])

/-- R206, R221, R223, R224: the operations that leave a scalar. -/
def Obligations.ScalarOps : Prop :=
  ∀ (s : State) (c : Fin 16) (d : Fin 8) (k : RegSet), s.clusters[c].fg = k → s.clusters[c].spent = false →
    s.clusters[c].noLoad (.s d 0) = true →
    (∀ a, ∃ t, exec (.aexpm c d a) s = .next t ∧ (∃ l : Fin 4, SignBits 72 k.acc[a][l].toInt (t.clusters[c].fg.s[d]).toNat) ∧
      ∀ (l : Fin 4) n, SignBits 72 k.acc[a][l].toInt n → (t.clusters[c].fg.s[d]).toNat ≤ n) ∧
    (∀ a, ∃ t, exec (.expm c d a) s = .next t ∧ (∃ l : Fin 4, SignBits 32 k.v[a][l].toInt (t.clusters[c].fg.s[d]).toNat) ∧
      ∀ (l : Fin 4) n, SignBits 32 k.v[a][l].toInt n → (t.clusters[c].fg.s[d]).toNat ≤ n) ∧
    (∀ a b, ScalarGets (.sadd c d a b) s c d (k.s[a] + k.s[b])) ∧
    (∀ a b, ScalarGets (.ssub c d a b) s c d (k.s[a] - k.s[b])) ∧
    (∀ a imm, ScalarGets (.saddi c d a imm) s c d (k.s[a] + imm.signExtend 32)) ∧
    (∀ a b, ScalarGets (.sand c d a b) s c d (k.s[a] &&& k.s[b])) ∧
    (∀ a b, ScalarGets (.sor c d a b) s c d (k.s[a] ||| k.s[b])) ∧
    (∀ a n, ScalarGets (.sshl c d a n) s c d (k.s[a] <<< n.val)) ∧
    (∀ a n, ScalarGets (.sshr c d a n) s c d (k.s[a].sshiftRight n.val)) ∧
    (∀ a b, ScalarGets (.smul c d a b) s c d (k.s[a] * k.s[b])) ∧
    (∀ p, ScalarGets (.rdp c d p) s c d (k.p[p].setWidth 32)) ∧
    (∀ a, ScalarGets (.smov c d a) s c d k.s[a]) ∧
    (∀ imm, ScalarGets (.sldi c d imm) s c d (imm.signExtend 32)) ∧
    (∀ a l, ScalarGets (.vext c d a l) s c d k.v[a][l]) ∧
    ScalarGets (.rdcs c d) s c d s.clusters[c].cstat

/-- R189, R221: the compares. -/
def Obligations.CompareOps : Prop :=
  ∀ (s : State) (c : Fin 16) (k : RegSet), s.clusters[c].fg = k → s.clusters[c].spent = false →
    (∀ a b, CmpGets (.vcmplt c a b) s c fun l => decide (k.v[a][l].toInt < k.v[b][l].toInt)) ∧
    (∀ a b, CmpGets (.vcmple c a b) s c fun l => decide (k.v[a][l].toInt ≤ k.v[b][l].toInt)) ∧
    (∀ a b, CmpGets (.vcmpeq c a b) s c fun l => decide (k.v[a][l] = k.v[b][l])) ∧
    (∀ a b, CmpGets (.scmplt c a b) s c fun _ => decide (k.s[a].toInt < k.s[b].toInt))

/-- R195, R218, R222, R223, R227: the loads. The register keeps its value through the load's bundle, and takes the aligned word or words at
its return, which LOAD_WRITEBACK is. -/
def Obligations.LoadOps : Prop :=
  (∀ (s : State) (c : Fin 16), Does (.loadWriteback c) s fun t =>
    s.sameBut [.clusters] t ∧ (∀ d, d ≠ c → t.clusters[d] = s.clusters[d]) ∧
    t.clusters[c] = { s.clusters[c] with fg := t.clusters[c].fg, l := t.clusters[c].l, b := t.clusters[c].b, loads := [] } ∧
    (s.clusters[c].loads = [] → t.clusters[c].fg = s.clusters[c].fg) ∧
    (∀ r q, s.clusters[c].loads = [.v r q] → t.clusters[c].fg = { s.clusters[c].fg with v := s.clusters[c].fg.v.set r q }) ∧
    (∀ r x, s.clusters[c].loads = [.s r x] → t.clusters[c].fg = { s.clusters[c].fg with s := s.clusters[c].fg.s.set r x })) ∧
  (∀ (s : State) (c : Fin 16) (k : Cluster), s.clusters[c] = k → k.spent = false →
    (∀ r p am, inWindow k ((addressOf k p am 16).addr / 16 * 16) 16 false = true → k.noLoad (.v r (.replicate 4 0)) = true →
      Loads (.ldv c r p am) s c fun t u => t.fg.v[r] = k.fg.v[r] ∧
        ∀ l : Fin 4, u.fg.v[r][l] = k.word ((addressOf k p am 16).addr / 16 * 16 + 4 * l.val)) ∧
    (∀ r p am, inWindow k ((addressOf k p am 4).addr / 4 * 4) 4 false = true → k.noLoad (.v r (.replicate 4 0)) = true →
      Loads (.ldb c r p am) s c fun t u => t.fg.v[r] = k.fg.v[r] ∧
        ∀ l : Fin 4, u.fg.v[r][l] = k.word ((addressOf k p am 4).addr / 4 * 4)) ∧
    (∀ r p am, inWindow k ((addressOf k p am 4).addr / 4 * 4) 4 false = true → k.noLoad (.s r 0) = true →
      Loads (.lds c r p am) s c fun t u => t.fg.s[r] = k.fg.s[r] ∧ u.fg.s[r] = k.word ((addressOf k p am 4).addr / 4 * 4)) ∧
    (∀ r (part : Fin 4) p am, part ≠ 3 → inWindow k ((addressOf k p am 16).addr / 16 * 16) 16 false = true →
      k.noLoad (.acc r (.replicate 4 0)) = true →
      Loads (.ldap c r part p am) s c fun t u => t.fg.acc[r] = k.fg.acc[r] ∧ ∀ l : Fin 4, ∀ j < 72,
        u.fg.acc[r][l].getLsbD j = if j / 32 = part.val then (k.word ((addressOf k p am 16).addr / 16 * 16 + 4 * l.val)).getLsbD (j % 32)
          else k.fg.acc[r][l].getLsbD j) ∧
    (∀ ra pa am rb pb ub, pa ≠ pb → inWindow k ((addressOf k pa am 16).addr / 16 * 16) 16 false = true →
      inWindow k ((addressOf k pb (if ub then 1 else 0) 16).addr / 16 * 16) 16 false = true →
      Loads (.ldv2 c ra pa am rb pb ub) s c fun _ u =>
        OneOrBoth (ra = rb) (∀ l : Fin 4, u.fg.v[ra][l] = k.word ((addressOf k pa am 16).addr / 16 * 16 + 4 * l.val))
          (∀ l : Fin 4, u.fg.v[rb][l] = k.word ((addressOf k pb (if ub then 1 else 0) 16).addr / 16 * 16 + 4 * l.val))) ∧
    (∀ ra pa am rb pb ub, pa ≠ pb → inWindow k ((addressOf k pa am 16).addr / 16 * 16) 16 false = true →
      inWindow k ((addressOf k pb (if ub then 1 else 0) 4).addr / 4 * 4) 4 false = true →
      Loads (.ldvb c ra pa am rb pb ub) s c fun _ u =>
        OneOrBoth (ra = rb) (∀ l : Fin 4, u.fg.v[ra][l] = k.word ((addressOf k pa am 16).addr / 16 * 16 + 4 * l.val))
          (∀ l : Fin 4, u.fg.v[rb][l] = k.word ((addressOf k pb (if ub then 1 else 0) 4).addr / 4 * 4))))

/-- R190, R195, R204, R222, R223, R227, R458: the stores, where no injection waits to flip two bits of the word written, and what else they leave
alone of data memory. -/
def Obligations.StoreOps : Prop :=
  ∀ (s : State) (c : Fin 16) (k : Cluster), s.clusters[c] = k → k.spent = false → k.canonical = true → k.noDouble →
    (∀ r p am, inWindow k ((addressOf k p am 16).addr / 16 * 16) 16 true = true →
      Stores (.stv c r p am) s c ((addressOf k p am 16).addr / 16 * 16) 4 fun l => k.fg.v[r][l % 4]'(Nat.mod_lt _ (by decide))) ∧
    (∀ r p am, inWindow k ((addressOf k p am 4).addr / 4 * 4) 4 true = true →
      Stores (.sts c r p am) s c ((addressOf k p am 4).addr / 4 * 4) 1 fun _ => k.fg.s[r]) ∧
    (∀ r p am (sh : Fin 8), inWindow k ((addressOf k p am 16).addr / 16 * 16) 16 true = true →
      Stores (.stc c r p am sh) s c ((addressOf k p am 16).addr / 16 * 16) 4 fun l =>
        satWord (((k.fg.acc[r][l % 4]'(Nat.mod_lt _ (by decide))).toInt * 2 ^ sh.val + 2 ^ 31) / 2 ^ 32)) ∧
    (∀ r p am (part : Fin 4), part ≠ 3 → inWindow k ((addressOf k p am 16).addr / 16 * 16) 16 true = true →
      Stores (.stap c r part p am) s c ((addressOf k p am 16).addr / 16 * 16) 4 fun l =>
        ((k.fg.acc[r][l % 4]'(Nat.mod_lt _ (by decide))).sshiftRight (32 * part.val)).setWidth 32) ∧
    (∀ ra pa am rb pb ub, pa ≠ pb → inWindow k ((addressOf k pa am 16).addr / 16 * 16) 16 false = true →
      inWindow k ((addressOf k pb (if ub then 1 else 0) 16).addr / 16 * 16) 16 true = true →
      Stores (.ldst c ra pa am rb pb ub) s c ((addressOf k pb (if ub then 1 else 0) 16).addr / 16 * 16) 4
        (fun l => k.fg.v[rb][l % 4]'(Nat.mod_lt _ (by decide))) ∧
      Loads (.ldst c ra pa am rb pb ub) s c fun _ u =>
        ∀ l : Fin 4, u.fg.v[ra][l] = k.word ((addressOf k pa am 16).addr / 16 * 16 + 4 * l.val))

/-- R197 to R200, R223: the pointer operations. -/
def Obligations.PointerOps : Prop :=
  ∀ (s : State) (c : Fin 16) (k : Cluster), s.clusters[c] = k → k.spent = false →
    (∀ p, k.noLoad (.p p 0) = true →
      Leaves (.aupd c p 1) s c (fun t =>
        (k.l[p] = 0 → (t.fg.p[p].toNat : Int) = (k.fg.p[p].toNat + k.fg.m[p].toInt) % 2 ^ 19) ∧
        (k.l[p] ≠ 0 → (t.fg.p[p] - k.b[p]).toNat < k.l[p].toNat) ∧
        ((k.fg.p[p] - k.b[p]).toNat < k.l[p].toNat → -k.l[p].toNat ≤ k.fg.m[p].toInt → k.fg.m[p].toInt ≤ k.l[p].toNat →
          ((t.fg.p[p] - k.b[p]).toNat : Int) = ((k.fg.p[p] - k.b[p]).toNat + k.fg.m[p].toInt) % k.l[p].toNat ∧
          t.cstat.getLsbD 10 = k.cstat.getLsbD 10) ∧
        (k.l[p] ≠ 0 → 2 * k.l[p].toNat ≤ (k.fg.p[p] - k.b[p]).toNat → t.fg.p[p] = k.b[p] ∧ t.cstat.getLsbD 10 = true)) ∧
      Leaves (.aupd c p 2) s c fun t =>
        (k.l[p] ≠ 0 → (t.fg.p[p] - k.b[p]).toNat < k.l[p].toNat) ∧
        ((∀ n, k.l[p].toNat ≠ 2 ^ n) → t.fg.p[p] = k.b[p] ∧ t.cstat.getLsbD 10 = true)) ∧
    (∀ p r, k.noLoad (.p p 0) = true → Leaves (.mvp c p r) s c fun t => t.fg.p[p] = k.fg.s[r].setWidth 19) ∧
    (∀ p imm, k.noLoad (.p p 0) = true → Leaves (.paddi c p imm) s c fun t => (t.fg.p[p].toNat : Int) = (k.fg.p[p].toNat + 16 * imm.toInt) % 2 ^ 19) ∧
    (∀ m imm, k.noLoad (.m m 0) = true → Leaves (.setm c m imm) s c fun t => t.fg.m[m].toInt = 4 * imm.toInt) ∧
    (∀ m r, k.noLoad (.m m 0) = true → Leaves (.mvm c m r) s c fun t => t.fg.m[m] = k.fg.s[r].setWidth 20) ∧
    (∀ l r, k.noLoad (.l l 0) = true → Leaves (.mvl c l r) s c fun t => t.l[l] = k.fg.s[r].setWidth 19) ∧
    (∀ b r, k.noLoad (.b b 0) = true → Leaves (.mvb c b r) s c fun t => t.b[b] = k.fg.s[r].setWidth 19)

/-- R189, R211, R224, R225, R228: the no-ops, branches, loops and the end of a kernel. -/
def Obligations.ControlOps : Prop :=
  ∀ (s : State) (c : Fin 16) (k : Cluster), s.clusters[c] = k → k.spent = false →
    (∀ i ∈ [Instr.mnop c, Instr.anop c, Instr.cnop c], Leaves i s c fun t =>
      (k.loops = [] → t.pc = k.pc + 1 ∧ t.lc = k.lc) ∧
      (∀ f l, k.loops = f :: l → f.last ≠ k.pc → t.pc = k.pc + 1 ∧ t.loops = k.loops ∧ t.lc = k.lc) ∧
      (∀ f l, k.loops = f :: l → f.last = k.pc → 1 < k.lc[f.k].toNat →
        t.pc = f.first ∧ t.loops = k.loops ∧ t.lc = k.lc.set f.k (k.lc[f.k] - 1)) ∧
      (∀ f, k.loops = [f] → f.last = k.pc → k.lc[f.k].toNat ≤ 1 → t.pc = k.pc + 1 ∧ t.loops = [] ∧ t.lc = k.lc.set f.k 0)) ∧
    (∀ rel, rel ≠ 0#10 → atBodyEnd k = false → (codeBase k : Int) ≤ k.pc + rel.toInt → (k.pc + rel.toInt : Int) < codeEnd k →
      Leaves (.br c rel) s c fun t => (∀ r, k.run = some r → r.left = 2 → t.fg = k.sh) ∧ ((∀ r, k.run = some r → 2 < r.left) →
        (t.pc : Int) = k.pc + rel.toInt ∧ t.issued = k.issued + 2 ∧
        t.loops = k.loops.filter fun f => decide ((f.first : Int) ≤ k.pc + rel.toInt ∧ k.pc + rel.toInt ≤ f.last))) ∧
    (∀ cond (rel : Byte), rel ≠ 0#8 → atBodyEnd k = false → (codeBase k : Int) ≤ k.pc + rel.toInt → (k.pc + rel.toInt : Int) < codeEnd k →
      (∀ r, k.run = some r → 2 < r.left) →
      Leaves (.brc c cond rel) s c fun t =>
        if (if cond = 0 then k.cstat.getLsbD 27 else if cond = 1 then k.cstat.getLsbD 26 else if cond = 2 then !k.cstat.getLsbD 27
          else !k.cstat.getLsbD 26) then (t.pc : Int) = k.pc + rel.toInt ∧ t.issued = k.issued + 2
        else t.pc = k.pc + 1 ∧ t.issued = k.issued + 1 ∧ t.loops = k.loops) ∧
    (∀ j (n : Fin 512), n ≠ 0 → k.loops.length < 2 → atBodyEnd k = false → k.pc + n.val < codeEnd k →
      (∀ f ∈ k.loops, k.pc + n.val ≤ f.last) → Leaves (.loop c j n) s c fun t =>
        if k.lc[j] = 0 then t.pc = k.pc + n.val + 1 ∧ t.loops = k.loops
        else t.pc = k.pc + 1 ∧ t.loops = ⟨j, k.pc + 1, k.pc + n.val⟩ :: k.loops ∧ t.cstat.extractLsb' 24 2 = BitVec.ofNat 2 (k.loops.length + 1)) ∧
    (∀ j (imm : Fin 512), (∀ f ∈ k.loops, f.k ≠ j) → Leaves (.setlc c j imm) s c fun t => t.lc[j] = BitVec.ofNat 16 imm.val) ∧
    (∀ j a, (∀ f ∈ k.loops, f.k ≠ j) → Leaves (.mvlc c j a) s c fun t => t.lc[j] = k.fg.s[a].setWidth 16) ∧
    Leaves (.swapEnd c) s c fun t => t.fg = k.sh ∧ t.sh = (k.putAll k.loads).fg ∧ t.l = .replicate 8 0 ∧ t.b = .replicate 8 0 ∧
      t.lc = .replicate 2 0 ∧ t.cstat = 0 ∧ t.loops = [] ∧ t.loads = [] ∧ t.run = none ∧ t.mem = k.mem ∧
      t.sticky = k.sticky ||| (k.cstat.toNat &&& 0x3CFF)

/-- R213, R218, R221 to R224, R229: the frame of a slot operation. Nothing of another cluster changes, nor anything of the device but the
registers, the collector's edges, this cluster and, where it is stopped, its instance; and where the bundle is not stopped, no register that
neither the operation nor a returning load names. -/
def Obligations.SlotFrame : Prop :=
  ∀ (i : Instr) (s t : State) (c : Fin 16) (b : Bundle), slotBundle i = some (c, b) → exec i s = .next t →
    (∀ d, d ≠ c → t.clusters[d] = s.clusters[d]) ∧ s.sameBut [.regs, .flt, .clusters, .eng] t ∧ t.clusters[c].pmem = s.clusters[c].pmem ∧
    ((s.clusters[c].exec b).fate = .running → t.eng = s.eng ∧
      (∀ r, (∀ w ∈ s.clusters[c].loads ++ slotDests i, (RegWrite.v r (.replicate 4 0)).same w = false) → t.clusters[c].fg.v[r] = s.clusters[c].fg.v[r]) ∧
      (∀ r, (∀ w ∈ s.clusters[c].loads ++ slotDests i, (RegWrite.acc r (.replicate 4 0)).same w = false) → t.clusters[c].fg.acc[r] = s.clusters[c].fg.acc[r]) ∧
      (∀ r, (∀ w ∈ s.clusters[c].loads ++ slotDests i, (RegWrite.s r 0).same w = false) → t.clusters[c].fg.s[r] = s.clusters[c].fg.s[r]) ∧
      (∀ r, (∀ w ∈ s.clusters[c].loads ++ slotDests i, (RegWrite.p r 0).same w = false) → t.clusters[c].fg.p[r] = s.clusters[c].fg.p[r]) ∧
      (∀ r, (∀ w ∈ s.clusters[c].loads ++ slotDests i, (RegWrite.m r 0).same w = false) → t.clusters[c].fg.m[r] = s.clusters[c].fg.m[r]) ∧
      (∀ r, (∀ w ∈ s.clusters[c].loads ++ slotDests i, (RegWrite.l r 0).same w = false) → t.clusters[c].l[r] = s.clusters[c].l[r]) ∧
      (∀ r, (∀ w ∈ s.clusters[c].loads ++ slotDests i, (RegWrite.b r 0).same w = false) → t.clusters[c].b[r] = s.clusters[c].b[r]) ∧
      ((∀ r p am, i ≠ .stv c r p am) → (∀ r p am, i ≠ .sts c r p am) → (∀ r p am sh, i ≠ .stc c r p am sh) →
        (∀ r n p am, i ≠ .stap c r n p am) → (∀ ra pa am rb pb ub, i ≠ .ldst c ra pa am rb pb ub) → t.clusters[c].mem = s.clusters[c].mem))

/-- R201, R212, R213, R226, R229: what stops a bundle. With one cycle left, a slot operation other than the ending SWAP is not executed: the
forced SWAP stands in its place. Nor is a bundle with an illegal operation, or an access outside the windows. The shadow set comes to the
foreground, nothing is stored, and the flag joins the tick's sticky bits. -/
def Obligations.StoppedBundles : Prop :=
  (∀ (i : Instr) (s : State) (c : Fin 16) (b : Bundle) (r : KernelRun), slotBundle i = some (c, b) → i ≠ .swapEnd c →
      s.clusters[c].run = some r → r.left ≤ 1 →
      ∃ t, exec i s = .next t ∧ t.clusters[c].fg = s.clusters[c].sh ∧ t.clusters[c].sh = s.clusters[c].fg ∧
        (∀ a, a < r.strip ∨ r.strip + 16 * s.F ≤ a → Sparse.get 0 t.clusters[c].mem a = Sparse.get 0 s.clusters[c].mem a) ∧
        t.clusters[c].run = none ∧ t.clusters[c].loads = [] ∧ t.clusters[c].cstat = 0) ∧
  (∀ (s : State) (c : Fin 16) (k : Cluster), s.clusters[c] = k → k.spent = false →
      (∀ d a b (imm : BitVec 7), (imm.toInt < -31 ∧ imm.toInt ≠ -64 ∨ 31 < imm.toInt ∨ imm.toInt = -64 ∧ (k.fg.s[b].toInt < -31 ∨ 31 < k.fg.s[b].toInt)) →
        Leaves (.norm c d a b imm) s c (Stopped s.F k 13)) ∧
      (∀ d b (imm : BitVec 7), (imm.toInt < -31 ∧ imm.toInt ≠ -64 ∨ 31 < imm.toInt ∨ imm.toInt = -64 ∧ (k.fg.s[b].toInt < -31 ∨ 31 < k.fg.s[b].toInt)) →
        Leaves (.anorm c d b imm) s c (Stopped s.F k 13)) ∧
      (∀ r p am, Leaves (.ldap c r 3 p am) s c (Stopped s.F k 13) ∧ Leaves (.stap c r 3 p am) s c (Stopped s.F k 13)) ∧
      (∀ ra p am rb ub, Leaves (.ldv2 c ra p am rb p ub) s c (Stopped s.F k 13) ∧ Leaves (.ldvb c ra p am rb p ub) s c (Stopped s.F k 13) ∧
        Leaves (.ldst c ra p am rb p ub) s c (Stopped s.F k 13)) ∧
      (∀ p, Leaves (.aupd c p 0) s c (Stopped s.F k 13) ∧ Leaves (.aupd c p 3) s c (Stopped s.F k 13)) ∧
      (∀ rel, rel = 0#10 ∨ atBodyEnd k = true ∨ (k.pc + rel.toInt : Int) < codeBase k ∨ (codeEnd k : Int) ≤ k.pc + rel.toInt →
        Leaves (.br c rel) s c (Stopped s.F k 13)) ∧
      (∀ j (n : Fin 512), n = 0 ∨ 2 ≤ k.loops.length ∨ atBodyEnd k = true ∨ codeEnd k ≤ k.pc + n.val ∨ (∃ f ∈ k.loops, f.last < k.pc + n.val) →
        Leaves (.loop c j n) s c (Stopped s.F k 13)) ∧
      (∀ j, (∃ f ∈ k.loops, f.k = j) → (∀ imm, Leaves (.setlc c j imm) s c (Stopped s.F k 13)) ∧ ∀ a, Leaves (.mvlc c j a) s c (Stopped s.F k 13)) ∧
      (∀ r p am, inWindow k ((addressOf k p am 16).addr / 16 * 16) 16 false = false → Leaves (.ldv c r p am) s c (Stopped s.F k 12)) ∧
      (∀ r p am, inWindow k ((addressOf k p am 16).addr / 16 * 16) 16 true = false → Leaves (.stv c r p am) s c (Stopped s.F k 12)) ∧
      (∀ r p am, inWindow k ((addressOf k p am 4).addr / 4 * 4) 4 true = false → Leaves (.sts c r p am) s c (Stopped s.F k 12)))

/-- R10, R22, R512, R513: writes to registers. A partial or unaligned write changes nothing; one to an unallocated page is counted and recorded; a register
of RO fields of the DEVICE page keeps its word, and the scratch register takes the word written; an RWA register of a port, of the trigger
inputs or of the clocked ports takes it where the block is not admitted, and otherwise keeps its word while the write is counted and recorded. -/
def Obligations.RegisterWrites : Prop :=
  ∀ (s : State) (addr : BitVec 20) (v : Word), s.canonical = true →
    ((RegDir.page? (addr.toNat / 4096)).isSome = true → exec (.registerWrite addr v false) s = .next s ∧
      (s.on (F.PAGE_STAT_READY.pg (addr.toNat / 4096)) = true → addr.toNat % 4 ≠ 0 → exec (.registerWrite addr v true) s = .next s)) ∧
    ((RegDir.page? (addr.toNat / 4096)).isNone = true → ∀ full, ∀ i ∈ [Instr.registerWrite addr v full, .unallocatedPageAccess addr], Does i s fun t =>
      t.rd F.DEV_UNALLOC_COUNT = min (2 ^ 16 - 1) (s.rd F.DEV_UNALLOC_COUNT + 1) ∧ t.rd F.DEV_UNALLOC_PAGE = addr.toNat / 4096 ∧
      t.on F.PAGE_STAT_STALE = true ∧ s.only [F.DEV_UNALLOC_COUNT.addr, F.PAGE_STAT_STALE.addr] [.regs] t) ∧
    (s.takes addr.toNat = true → addr.toNat / 4096 = 0 → 0x40 ≤ addr.toNat →
      (∀ r, RegDir.row? addr.toNat = some r → ∀ f ∈ r.fields, f.acc = .ro) →
      Does (.registerWrite addr v true) s fun t => s.only [] [.regs] t) ∧
    (s.takes F.DEV_SCRATCH.addr = true → Does (.registerWrite (BitVec.ofNat 20 F.DEV_SCRATCH.addr) v true) s fun t =>
      t.reg F.DEV_SCRATCH.addr = v ∧ s.only [F.DEV_SCRATCH.addr] [.regs] t) ∧
    (∀ r, s.takes addr.toNat = true → RegDir.row? addr.toNat = some r → (∀ f ∈ r.fields, f.acc = .ro ∨ f.acc = .rwa) →
      (∃ f ∈ r.fields, f.acc = .rwa) → 0x40 ≤ addr.toNat % 4096 →
      (0x30 ≤ addr.toNat / 4096 ∧ addr.toNat / 4096 < 0x48 ∨ addr.toNat / 4096 = 0x50 ∨ addr.toNat / 4096 = 0x51 ∨ addr.toNat / 4096 = 0x58) →
      Does (.registerWrite addr v true) s fun t =>
        if s.admitted (addr.toNat / 4096) then
          t.rd F.DEV_RWA_REJ = (s.rd F.DEV_RWA_REJ + 1) % 2 ^ 32 ∧ t.rd F.DEV_RWA_LAST_PAGE = addr.toNat / 4096 ∧
          t.rd F.DEV_RWA_LAST_OFFSET = addr.toNat % 4096 ∧ s.only [F.DEV_RWA_REJ.addr, F.DEV_RWA_LAST_PAGE.addr] [.regs, .out, .pair] t
        else t.reg addr.toNat = (s.reg addr.toNat &&& ~~~rwaMask addr.toNat) ||| (v &&& rwaMask addr.toNat) ∧
          s.only [addr.toNat] [.regs, .out, .pair] t)

/-- R26, R28 to R30: PAGE_CTRL by its three commands. FREEZE shows in PAGE_CTRL and keeps what the block's registers held, derived ones too. EN of a block of the
running plan is not cleared, nor is such a block reset: the ADMIT page raises CTRL_REFUSED. A reset block outside the plan keeps QOS and its
classes, and its writable settings return to reset. -/
def Obligations.PageControl : Prop :=
  ∀ (s : State) (page : Byte), s.canonical = true → s.takes (page.toNat * 4096 + 0x008) = true → homePage page.toNat = page.toNat →
    (s.on (F.PAGE_CTRL_FREEZE.pg page.toNat) = false → (s.enabled page.toNat = true ∨ enFixed page.toNat = true) →
      ¬ (0x78 ≤ page.toNat ∧ page.toNat < 0x80) → Does (.freeze page true) s fun t =>
        t.on (F.PAGE_CTRL_FREEZE.pg page.toNat) = true ∧ t.enabled page.toNat = s.enabled page.toNat ∧
        (∃ held, t.snaps = (page.toNat, held) :: s.snaps.filter (fun x => x.1 != page.toNat) ∧
          (s.derivedRegs page.toNat = [] → held = s.regs.filter fun x => (blockPages page.toNat).contains (homePageOf x.1)) ∧
          ∀ x ∈ s.derivedRegs page.toNat, page = 0x20 → Sparse.get (RegDir.reset x.1) held x.1 = x.2) ∧
        s.only [(F.PAGE_CTRL_EN.pg page.toNat).addr] [.regs, .snaps, .pair, .out] t) ∧
    ((s.enabled page.toNat = true ∨ enFixed page.toNat = true) → ¬ (0x78 ≤ page.toNat ∧ page.toNat < 0x80) → Does (.freeze page false) s fun t =>
        t.on (F.PAGE_CTRL_FREEZE.pg page.toNat) = false ∧ t.enabled page.toNat = s.enabled page.toNat ∧
        t.snaps = s.snaps.filter (fun x => x.1 != page.toNat) ∧ s.only [(F.PAGE_CTRL_EN.pg page.toNat).addr] [.regs, .snaps, .pair, .out] t) ∧
    (enFixed page.toNat = false → ¬ (0x78 ≤ page.toNat ∧ page.toNat < 0x80) → s.on (F.PAGE_CTRL_FREEZE.pg page.toNat) = false →
      (Does (.pageEnWrite page true) s fun t => t.enabled page.toNat = true ∧ s.only [(F.PAGE_CTRL_EN.pg page.toNat).addr] [.regs, .snaps, .pair, .out] t) ∧
      (s.admitted page.toNat = false → page ≠ 0x70 → Does (.pageEnWrite page false) s fun t => t.enabled page.toNat = false ∧
        (∀ q ∈ blockPages page.toNat, ∀ n : Fin 16, s.enabled page.toNat = true → t.raw q n.val = t.broken q n.val) ∧
        s.only ((F.PAGE_CTRL_EN.pg page.toNat).addr :: (blockPages page.toNat).map fun q => (F.FLT_RAW.pg q).addr) [.regs, .snaps, .pair, .out] t)) ∧
    (s.on (F.PAGE_CTRL_FREEZE.pg page.toNat) = false → s.admitted page.toNat = true → page ≠ 0x02 → s.quiet 0x02 3 → Does (.pageEnWrite page false) s fun t =>
        t.enabled page.toNat = s.enabled page.toNat ∧ s.raised 0x02 3 t ∧
        s.only (srcRegs 0x02) [.regs, .flt, .snaps, .pair, .out] t) ∧
    (s.admitted page.toNat = true → page ≠ 0x02 → s.quiet 0x02 3 → s.on (F.PAGE_CTRL_FREEZE.pg page.toNat) = false → s.enabled page.toNat = true →
      ¬ (0x78 ≤ page.toNat ∧ page.toNat < 0x80) →
      Does (.srst page) s fun t => s.raised 0x02 3 t ∧ s.only (srcRegs 0x02) [.regs, .flt, .snaps, .pair, .out] t) ∧
    (s.admitted page.toNat = false → 0x30 ≤ page.toNat ∧ page.toNat < 0x40 → Does (.srst page) s fun t =>
      t.rd (F.PAGE_CTRL_QOS.pg page.toNat) = s.rd (F.PAGE_CTRL_QOS.pg page.toNat) ∧ t.enabled page.toNat = false ∧
      t.on (F.PAGE_CTRL_FREEZE.pg page.toNat) = false ∧ t.reg (F.FLT_CLASS0.pg page.toNat).addr = s.reg (F.FLT_CLASS0.pg page.toNat).addr ∧
      t.rd (F.FLT_MASK.pg page.toNat) = 0 ∧ t.rd (F.FLT_LATCH.pg page.toNat) = 0 ∧
      (∀ a, page.toNat * 4096 + 0x40 ≤ a → a < (page.toNat + 1) * 4096 → t.reg a = RegDir.reset a) ∧
      (∀ a, a < 0x100000 → a / 4096 ≠ page.toNat → a ≠ F.CDC_DISCARD.addr → t.reg a = s.reg a) ∧
      t.ports.tdm[fin16 (page.toNat - 0x30)] = .rest)

/-- R31 to R33: the fault registers of a page. -/
def Obligations.FaultRegisters : Prop :=
  ∀ (s : State) (page : Byte), s.canonical = true →
    (∀ v : BitVec 16, s.takes (page.toNat * 4096 + 0x018) = true → Does (.fltLatchClear page v) s fun t =>
      (∀ n : Fin 16, (t.rd (F.FLT_LATCH.pg page.toNat)).testBit n.val =
        ((s.rd (F.FLT_LATCH.pg page.toNat)).testBit n.val && !(v.getLsbD n.val && !s.raw page.toNat n.val))) ∧
      s.only [(F.FLT_LATCH.pg page.toNat).addr] [.regs, .out, .pair] t) ∧
    (∀ (k : Fin 2) (v : BitVec 24), s.takes (page.toNat * 4096 + 0x01C + 4 * k.val) = true → Does (.fltClassWrite page k v) s fun t =>
      (∀ n : Fin 16, (t.rd (F.FLT_MASK.pg page.toNat)).testBit n.val =
        ((s.rd (F.FLT_MASK.pg page.toNat)).testBit n.val && !(s.deployed && decide (t.classOf page.toNat n.val = 3 ∨ t.classOf page.toNat n.val = 4)))) ∧
      s.only [(F.FLT_MASK.pg page.toNat).addr, (F.FLT_CLASS0.pg page.toNat).addr + 4 * k.val] [.regs, .out, .pair] t) ∧
    (∀ v : BitVec 16, s.takes (page.toNat * 4096 + 0x014) = true → Does (.fltMaskWrite page v) s fun t =>
      (∀ n : Fin 16, (t.rd (F.FLT_MASK.pg page.toNat)).testBit n.val =
        (v.getLsbD n.val && decide (n.val < nsrc page.toNat) && !(s.deployed && decide (s.classOf page.toNat n.val = 3 ∨ s.classOf page.toNat n.val = 4)))) ∧
      s.only [(F.FLT_MASK.pg page.toNat).addr] [.regs, .out, .pair] t)

/-- R31: a write to a CLASSn field lower than the source's reset class, or of a reserved code, is ignored for that field, which keeps its class. -/
def Obligations.ClassWrites : Prop :=
  ∀ (s : State) (page : Byte), s.canonical = true →
    (∀ (k : Fin 2) (v : BitVec 24), s.takes (page.toNat * 4096 + 0x01C + 4 * k.val) = true → Does (.fltClassWrite page k v) s fun t =>
      (∀ j : Fin 8, t.classOf page.toNat (8 * k.val + j.val) =
        if 8 * k.val + j.val < nsrc page.toNat ∧ bitsOf v.toNat (3 * j.val + 2) (3 * j.val) ≤ 4 ∧
            resetClass page.toNat (8 * k.val + j.val) ≤ bitsOf v.toNat (3 * j.val + 2) (3 * j.val) then bitsOf v.toNat (3 * j.val + 2) (3 * j.val)
        else s.classOf page.toNat (8 * k.val + j.val)))

/-- R442, R443, R445, R446, R449 to R451: the entries of the fault collector. An edge opens an entry under the next SEQ or raises the open one;
an expired timer raises its entry; an acknowledgement that carries the entry's SEQ, or the firmware's, closes it; a disagreement of the copies
stops the engine. -/
def Obligations.FaultEntries : Prop :=
  ∀ (s : State) (page : Byte) (src : Fin 16), s.canonical = true →
    (s.flt.edges = [] → exec .faultEdgeCollect s = .next s) ∧
    (∀ rest, s.flt.edges = (page.toNat, src.val) :: rest → s.classOf page.toNat src.val = 0 → s.entry page.toNat src.val = none →
      Does .faultEdgeCollect s fun t =>
      (∃ e, t.flt.edges = rest ++ e) ∧ t.flt.next = s.flt.next + 1 ∧ t.flt.entries = s.flt.entries ∧
      s.only recRegs [.regs, .host, .flt, .log] t) ∧
    (∀ rest c, s.flt.edges = (page.toNat, src.val) :: rest → s.classOf page.toNat src.val = c →
        (s.entry page.toNat src.val = none → 1 ≤ c) → c ≤ 4 → Does .faultEdgeCollect s fun t =>
      (∃ e, t.flt.edges = rest ++ e) ∧ t.flt.next = s.flt.next + 1 ∧
      (match s.entry page.toNat src.val with
        | none => ∃ x, t.entry page.toNat src.val = some x ∧ x.orig = c ∧ x.seq = s.flt.next % 2 ^ 16 ∧
            x.eff = if c < 4 ∧ (∃ y ∈ s.flt.entries, y.eff = c) then c + 1 else c
        | some y => t.entry page.toNat src.val = some { y with eff := min 4 (y.eff + 1), seq := s.flt.next % 2 ^ 16 }) ∧
      (∀ q n, (q, n) ≠ (page.toNat, src.val) → t.entry q n = s.entry q n)) ∧
    (∀ y, s.entry page.toNat src.val = some y → 1 ≤ y.eff → y.eff ≤ 3 → Does (.faultTimerExpiry page src) s fun t =>
      t.entry page.toNat src.val = some { y with eff := y.eff + 1 } ∧ t.flt.next = s.flt.next ∧
      t.rd F.FLT_ESC_CNT = (s.rd F.FLT_ESC_CNT + 1) % 2 ^ F.FLT_ESC_CNT.width ∧ (y.eff = 3 → t.on F.DEV_STAT_F4_STOP = true) ∧
      (∀ q n, (q, n) ≠ (page.toNat, src.val) → t.entry q n = s.entry q n)) ∧
    (∀ seq : Byte, s.takes F.FLT_ACK_SEQ.addr = true →
      (∀ y, s.entry page.toNat src.val = some y → y.seq % 256 = seq.toNat → Does (.fltAck page src seq) s fun t =>
        t.flt.entries = s.flt.entries.filter (fun x => !(x.page == page.toNat && x.src == src.val)) ∧ t.flt.next = s.flt.next ∧
        s.only (openRegs ++ recRegs) [.regs, .host, .flt, .log] t) ∧
      ((∀ y, s.entry page.toNat src.val = some y → y.seq % 256 ≠ seq.toNat) → s.quiet 0x90 6 → Does (.fltAck page src seq) s fun t =>
        s.raised 0x90 6 t ∧ t.flt.entries = s.flt.entries ∧ s.only (srcRegs 0x90) [.regs, .flt] t)) ∧
    (∀ y, s.entry page.toNat src.val = some y →
      (y.eff = 1 ∧ s.on F.FLT_AUTO_F1 = true ∨ y.eff = 2 ∧ s.on F.FLT_AUTO_F2 = true → Does (.firmwareAutoAck page src) s fun t =>
        t.flt.entries = s.flt.entries.filter (fun x => !(x.page == page.toNat && x.src == src.val)) ∧
        s.only (openRegs ++ recRegs) [.regs, .host, .flt, .log] t) ∧
      (3 ≤ y.eff → exec (.firmwareAutoAck page src) s = .next s)) ∧
    (s.quiet 0x90 4 → s.on F.DEV_STAT_F4_STOP = false → Does .collector s fun t =>
      (t.rd (F.FLT_LATCH.pg 0x90)).testBit 4 = true ∧ t.on F.DEV_STAT_F4_STOP = true ∧ t.eng.halting = true ∧ t.pair.dark = true)

/-- R441, R453, R455, R458, R476, R519: a broken line, fault injection and the known-answer rounds. A round that starts stays under way until its signatures are compared: a unit that is gated takes
no part, a unit that fails shows in KAT_STAT and raises KAT_FAIL, and a round that passes shows KAT_OK. -/
def Obligations.FaultInjection : Prop :=
  (∀ (s : State), s.canonical = true →
      (∀ (page : Byte) (n : Fin 16), n.val < nsrc page.toNat → s.broken page.toNat n.val = false → Does (.railBroken page n) s fun t =>
        t.broken page.toNat n.val = true ∧ t.raw page.toNat n.val = true ∧ t.on F.FLT_BROKEN_VALID = true ∧
        t.rd F.FLT_BROKEN_PAGE = page.toNat ∧ t.rd F.FLT_BROKEN_SOURCE = n.val ∧
        s.only (F.FLT_BROKEN_VALID.addr :: srcRegs page.toNat ++ srcRegs 0x90) [.regs, .flt] t) ∧
      (s.takes F.FLT_INJ_MODE.addr = true → s.lc = 1 →
        (∀ (p : BitVec 9) (n : Fin 16), n.val < nsrc p.toNat → s.raw p.toNat n.val = false → Does (.fltInjForceRaw p n) s fun t =>
          s.raised p.toNat n.val t ∧ t.raw p.toNat n.val = false ∧ t.rd F.FLT_INJ_MODE = 0 ∧
          s.only (F.FLT_INJ_MODE.addr :: srcRegs p.toNat) [.regs, .flt] t) ∧
        (∀ (p : BitVec 9) (n : Fin 16), n.val < nsrc p.toNat → s.broken p.toNat n.val = false → ∀ m, m = 2 ∨ m = 3 →
          Does (if m = 2 then .fltInjRailsHigh p n else .fltInjRailsLow p n) s fun t =>
            t.broken p.toNat n.val = true ∧ t.raw p.toNat n.val = true ∧ t.rd F.FLT_INJ_MODE = m ∧ t.rd F.FLT_INJ_TARGET = p.toNat ∧
            t.rd F.FLT_INJ_SOURCE = n.val ∧
            s.only (F.FLT_INJ_MODE.addr :: F.FLT_BROKEN_VALID.addr :: srcRegs p.toNat ++ srcRegs 0x90) [.regs, .flt] t) ∧
        (∀ b : BitVec 9, b.toNat < 500 → Does (.fltInjFlipOne b) s fun t =>
          (∀ x, Sparse.get false t.flt.flip1 x = (decide (x = b.toNat) || Sparse.get false s.flt.flip1 x)) ∧ t.flt.flip2 = s.flt.flip2 ∧
          FlipWaits s t b.toNat 1 ∧ t.rd F.FLT_INJ_MODE = 0 ∧ s.only [F.FLT_INJ_MODE.addr] [.regs, .flt, .clusters] t) ∧
        (∀ b : BitVec 9, b.toNat < 500 → Does (.fltInjFlipTwo b) s fun t =>
          (∀ x, Sparse.get false t.flt.flip2 x = (decide (x = b.toNat) || Sparse.get false s.flt.flip2 x)) ∧ t.flt.flip1 = s.flt.flip1 ∧
          FlipWaits s t b.toNat 2 ∧ t.rd F.FLT_INJ_MODE = 0 ∧ s.only [F.FLT_INJ_MODE.addr] [.regs, .flt, .clusters] t) ∧
        (∀ u : BitVec 9, u.toNat ≤ 16 → Does (.fltInjCorruptSignature u) s fun t =>
          (∀ x, Sparse.get false t.flt.corrupt x = (decide (x = u.toNat) || Sparse.get false s.flt.corrupt x)) ∧
          t.rd F.FLT_INJ_MODE = 0 ∧ s.only [F.FLT_INJ_MODE.addr] [.regs, .flt] t) ∧
        (∀ c : BitVec 9, c.toNat ≤ 1 → s.quiet 0x90 4 → Does (.fltInjCollectorDisagree c) s fun t =>
          (t.rd (F.FLT_LATCH.pg 0x90)).testBit 4 = true ∧ t.rd F.FLT_INJ_MODE = 0 ∧ t.on F.DEV_STAT_F4_STOP = true) ∧
        Does .fltInjStop s (fun t => t.rd F.FLT_INJ_MODE = 0 ∧ s.only [F.FLT_INJ_MODE.addr] [.regs] t) ∧
        (∀ (p : BitVec 9) (n : Fin 16), nsrc p.toNat ≤ n.val →
          ∀ i ∈ [Instr.fltInjForceRaw p n, .fltInjRailsHigh p n, .fltInjRailsLow p n], exec i s = .next s) ∧
        (∀ b : BitVec 9, (500 ≤ b.toNat → ∀ i ∈ [Instr.fltInjFlipOne b, .fltInjFlipTwo b], exec i s = .next s) ∧
          (16 < b.toNat → exec (.fltInjCorruptSignature b) s = .next s) ∧ (1 < b.toNat → exec (.fltInjCollectorDisagree b) s = .next s))) ∧
      (s.takes F.FLT_INJ_MODE.addr = true → s.lc ≠ 1 → ∀ (p : BitVec 9) (n : Fin 16), ∀ i ∈ [Instr.fltInjForceRaw p n, .fltInjRailsHigh p n,
        .fltInjRailsLow p n, .fltInjFlipOne p, .fltInjFlipTwo p, .fltInjCorruptSignature p, .fltInjCollectorDisagree p, .fltInjStop],
        exec i s = .next s)) ∧
  (∀ (s : State), s.canonical = true →
      Does .katRoundStart s (fun t => t.flt.katOn = true ∧ s.only [] [.flt] t) ∧
      (s.flt.katOn = true → s.quiet 0x90 2 → Does .katLate s fun t => s.raised 0x90 2 t ∧
        t.rd F.KAT_LATE_CNT = (s.rd F.KAT_LATE_CNT + 1) % 2 ^ F.KAT_LATE_CNT.width ∧ s.only (F.KAT_LATE_CNT.addr :: srcRegs 0x90) [.regs, .flt] t) ∧
      (s.flt.katOn = false → exec .katLate s = .next s) ∧
      (∀ failed : BitVec 17, s.flt.katOn = true → s.flt.shortOn = false → (∀ u, Sparse.get false s.flt.corrupt u = false) → s.quiet 0x90 1 →
        Does (.katRoundDone failed) s fun t =>
          (∀ u : Fin 17, (t.rd F.KAT_STAT).testBit u.val =
            if u.val = 16 ∨ s.rd (F.PWR_STATE_CUR.pg (0x10 + u.val)) = 0 then failed.getLsbD u.val else (s.rd F.KAT_STAT).testBit u.val) ∧
          t.flt.katOn = false ∧ t.rd F.KAT_ROUNDS = (s.rd F.KAT_ROUNDS + 1) % 2 ^ F.KAT_ROUNDS.width ∧
          (t.pair.katOk = true ↔ ∀ u : Fin 17, failed.getLsbD u.val = true → u.val ≠ 16 ∧ s.rd (F.PWR_STATE_CUR.pg (0x10 + u.val)) ≠ 0) ∧
          (t.pair.katOk = false → s.raised 0x90 1 t) ∧
          s.only (F.KAT_ROUNDS.addr :: F.KAT_STAT.addr :: srcRegs 0x90) [.regs, .flt, .pair] t) ∧
      (∀ failed : BitVec 17, s.flt.katOn = false → s.flt.shortOn = false → exec (.katRoundDone failed) s = .next s))

/-- R480, R481: the die temperatures and the rail monitors. A threshold's source has 2 °C of hysteresis; a reading outside the FAULT window and a
1 ms average outside the WARN window show in SN_RAIL_STAT and raise their sources. R415, R416, R429: the scrubber's passes with the errors they meet, and the temperature of the DRAM devices. R423, R424: a march on request. It starts where its target is free, and REASON says why it does not; a segment passes or fails; an abort ends
it with its present segment. R432, R433, R435: the fabric's events. R493, R494: the flush of the event log: what is staged joins what is stored, of which the newest 65,536 records are served; a page that fails
its verification counts for nothing. -/
def Obligations.SensorsMemoryAndFabric : Prop :=
  ((∀ (s : State), s.canonical = true → s.enabled 0x99 = true → (∀ n : Fin 5, s.broken 0x99 n.val = false) →
        (∀ (temps : Vector (BitVec 16) 8) (hot : Int), (∀ i : Fin 8, temps[i].toInt ≤ hot) → (∃ i : Fin 8, temps[i].toInt = hot) →
          Does (.sensorSample temps) s fun t =>
            (∀ i : Fin 8, t.rd (F.SN_TEMP.ix i.val) = temps[i].toNat) ∧ t.rdS F.SN_TEMP_MAX = max hot (s.rdS F.SN_TEMP_MAX) ∧
            t.ms = s.ms + 1 ∧ t.rd F.MB_HEARTBEAT = (s.rd F.MB_HEARTBEAT + 1) % 2 ^ 32 ∧
            (∀ p ∈ [(0, s.rdS F.SN_TLIM_WARN), (1, s.rdS F.SN_TLIM_CRIT), (2, s.rdS F.SN_TLIM_TRIP)],
              t.raw 0x99 p.1 = decide (p.2 * 256 ≤ hot ∨ s.raw 0x99 p.1 = true ∧ (p.2 - 2) * 256 < hot)) ∧
            s.only (F.MB_HEARTBEAT.addr :: F.SN_TEMP_MAX.addr :: (List.range 8).map (fun i => (F.SN_TEMP.ix i).addr) ++ srcRegs 0x99 ++ recRegs)
              [.regs, .ms, .host, .flt, .log] t) ∧
        (∀ (m : Fin 12) (mv : BitVec 16) (avg : Option (BitVec 16)), Does (.railMonitorReading m mv avg) s fun t =>
          t.rd (F.SN_RAIL_MV.ix m.val) = mv.toNat ∧ t.rd (F.SN_RAIL_MIN_MV.ix m.val) = min mv.toNat (s.rd (F.SN_RAIL_MIN_MV.ix m.val)) ∧
          (∀ j : Fin 12, (t.rd F.SN_RAIL_STAT_FAULT).testBit j.val = if j = m then
            decide (railNominal m.val * s.rd F.SN_RAIL_WIN_FAULT < ((mv.toNat : Int) - railNominal m.val).natAbs * 200)
            else (s.rd F.SN_RAIL_STAT_FAULT).testBit j.val) ∧
          (∀ j : Fin 12, (t.rd F.SN_RAIL_STAT_WARN).testBit j.val = if j = m ∧ avg.isSome then
            decide (railNominal m.val * s.rd F.SN_RAIL_WIN_WARN < (((avg.getD 0).toNat : Int) - railNominal m.val).natAbs * 200)
            else (s.rd F.SN_RAIL_STAT_WARN).testBit j.val) ∧
          t.raw 0x99 4 = decide (t.rd F.SN_RAIL_STAT_FAULT ≠ 0) ∧ (avg.isSome = true → t.raw 0x99 3 = decide (t.rd F.SN_RAIL_STAT_WARN ≠ 0)) ∧
          s.only ([(F.SN_RAIL_MV.ix m.val).addr, F.SN_RAIL_STAT_FAULT.addr] ++ srcRegs 0x99) [.regs, .flt] t)) ∧
    ((∀ (s : State), s.canonical = true →
          (∀ c es, s.on F.SR_SCRUB_EN = false → exec (.scrubPassEnd c es) s = .next s) ∧
          (s.on F.SR_SCRUB_EN = true → s.enabled 0x88 = true → (∀ n : Fin 16, s.broken 0x88 n.val = false) → (∀ n : Fin 16, s.raw 0x88 n.val = false) →
            (∀ c, Does (.scrubPassEnd c []) s fun t =>
              t.rd F.SR_SCRUB_PASS = (s.rd F.SR_SCRUB_PASS + c.toNat) % 2 ^ 32 ∧ t.raw 0x88 4 = !c ∧
              s.only (F.SR_SCRUB_PASS.addr :: srcRegs 0x88) [.regs, .flt] t) ∧
            (∀ (m : Fin 6) (w : BitVec 24), Does (.scrubPassEnd true [(m, w, false)]) s fun t =>
              t.rd F.SR_SBE_CNT = (s.rd F.SR_SBE_CNT + 1) % 2 ^ 32 ∧ s.raised 0x88 0 t ∧ t.rd F.SR_SCRUB_PASS = (s.rd F.SR_SCRUB_PASS + 1) % 2 ^ 32 ∧
              s.only (F.SR_SBE_CNT.addr :: F.SR_SCRUB_PASS.addr :: srcRegs 0x88) [.regs, .flt] t) ∧
            (∀ (m : Fin 6) (w : BitVec 24), Does (.scrubPassEnd true [(m, w, true)]) s fun t =>
              t.rd F.SR_DBE_CNT = (s.rd F.SR_DBE_CNT + 1) % 2 ^ 32 ∧ t.rd F.SR_DBE_LAST_MEM = m.val ∧ t.rd F.SR_DBE_LAST_WORD = w.toNat % 2 ^ 22 ∧
              s.raised 0x88 (if m = 3 then 2 else if m = 5 then 3 else 1) t ∧ t.rd F.SR_SBE_CNT = s.rd F.SR_SBE_CNT ∧
              s.only (F.SR_DBE_CNT.addr :: F.SR_DBE_LAST_MEM.addr :: F.SR_SCRUB_PASS.addr :: srcRegs 0x88) [.regs, .flt, .sl] t)) ∧
          (∀ (ch : Fin 2) (hot : Bool), (s.on (F.DR_STAT_UP.pg ch.val) = false → exec (.dramTempPoll ch hot) s = .next s) ∧
            (s.on (F.DR_STAT_UP.pg ch.val) = true → s.enabled (0x89 + ch.val) = true → s.broken (0x89 + ch.val) 3 = false →
              Does (.dramTempPoll ch hot) s fun t => t.on (F.DR_STAT_HOT.pg ch.val) = hot ∧ t.raw (0x89 + ch.val) 3 = hot ∧
                s.only ((F.DR_STAT_HOT.pg ch.val).addr :: srcRegs (0x89 + ch.val)) [.regs, .flt] t))) ∧
      (∀ (s : State), s.canonical = true → s.takes F.MR_CTRL_GO.addr = true →
          (s.on F.MR_CTRL_GO = false → s.on F.MR_CTRL_ABORT = false → s.on F.MR_CTRL_TARGET = false →
            (s.rd F.MR_BANK < 192 → s.admitted 0x20 = false → Does .marchGo s fun t =>
              t.on F.MR_CTRL_GO = true ∧ t.rd F.MR_STAT_RESULT = 1 ∧ t.rd F.MR_STAT_REASON = 0 ∧ t.rd F.MR_SEG_DONE = 0 ∧
              t.rd F.MR_HOLD = s.rd F.MR_CTRL_PRESERVE ∧ t.on (F.PAGE_STAT_BUSY.pg 0x8B) = true ∧
              s.only [F.MR_CTRL_GO.addr, F.MR_STAT_RESULT.addr, F.MR_SEG_DONE.addr, F.MR_HOLD.addr, (F.PAGE_STAT_BUSY.pg 0x8B).addr] [.regs] t) ∧
            (∀ r, (r = 3 ∧ 500 ≤ s.rd F.MR_BANK ∨ r = 2 ∧ 496 ≤ s.rd F.MR_BANK ∧ s.rd F.MR_BANK < 500 ∨
                r = 1 ∧ s.rd F.MR_BANK < 192 ∧ s.admitted 0x20 = true) →
              Does .marchGo s fun t => t.on F.MR_CTRL_GO = false ∧ t.rd F.MR_STAT_RESULT = 4 ∧ t.rd F.MR_STAT_REASON = r ∧
                s.only [F.MR_STAT_RESULT.addr] [.regs] t)) ∧
          (s.on F.MR_CTRL_GO = true → Does .marchAbort s fun t => t.on F.MR_CTRL_ABORT = true ∧ t.on F.MR_CTRL_GO = true ∧
            s.only [F.MR_CTRL_GO.addr] [.regs] t) ∧
          (s.on F.MR_CTRL_GO = false → ∀ ok a, exec (.marchSegmentDone ok a) s = .next s) ∧
          (s.on F.MR_CTRL_GO = true → s.on F.MR_CTRL_TARGET = false → s.on F.MR_CTRL_PRESERVE = true →
            (∀ a : Word, s.rd F.MR_SEG_DONE < 15 → s.on F.MR_CTRL_ABORT = false → Does (.marchSegmentDone true a) s fun t =>
              t.rd F.MR_SEG_DONE = s.rd F.MR_SEG_DONE + 1 ∧ s.only [F.MR_SEG_DONE.addr] [.regs] t) ∧
            (∀ a : Word, ∀ r, r = 2 ∧ s.rd F.MR_SEG_DONE = 15 ∨ r = 5 ∧ s.rd F.MR_SEG_DONE < 15 ∧ s.on F.MR_CTRL_ABORT = true →
              Does (.marchSegmentDone true a) s fun t =>
                t.rd F.MR_STAT_RESULT = r ∧ t.on F.MR_CTRL_GO = false ∧ t.rd F.MR_HOLD = 0 ∧ t.on (F.PAGE_STAT_BUSY.pg 0x8B) = false ∧
                s.only [F.MR_CTRL_GO.addr, F.MR_STAT_RESULT.addr, F.MR_SEG_DONE.addr, F.MR_HOLD.addr, (F.PAGE_STAT_BUSY.pg 0x8B).addr] [.regs] t) ∧
            (∀ a : Word, s.quiet 0x8B 0 → Does (.marchSegmentDone false a) s fun t =>
              t.rd F.MR_STAT_RESULT = 3 ∧ t.rd F.MR_FAIL_ADDR = a.toNat ∧ t.on F.MR_CTRL_GO = false ∧ s.raised 0x8B 0 t ∧
              s.only ([F.MR_FAIL_ADDR.addr, F.MR_CTRL_GO.addr, F.MR_STAT_RESULT.addr, F.MR_HOLD.addr, (F.PAGE_STAT_BUSY.pg 0x8B).addr] ++ srcRegs 0x8B)
                [.regs, .flt] t))))) ∧
  ((∀ (s : State), s.canonical = true →
        (∀ m g : Fin 12, ((fabricPaths m.val).contains g.val = true → exec (.noPath m g) s = .next s) ∧
          ((fabricPaths m.val).contains g.val = false → s.quiet 0x8C 1 → Does (.noPath m g) s fun t =>
            t.rd F.FB_NOPATH_COUNT = min (2 ^ 16 - 1) (s.rd F.FB_NOPATH_COUNT + 1) ∧ t.rd F.FB_NOPATH_MASTER = m.val ∧ t.rd F.FB_NOPATH_TARGET = g.val ∧
            s.raised 0x8C 1 t ∧ s.only (F.FB_NOPATH_COUNT.addr :: srcRegs 0x8C) [.regs, .flt] t)) ∧
        (∀ (m : Fin 12) n (now : Fin 193) held, s.quiet 0x8C 2 → Does (.fabricAgePromotion m n now held) s fun t =>
          t.rd (F.FB_MAXWAIT.ix m.val) = max (s.rd (F.FB_MAXWAIT.ix m.val)) (min (2 ^ 16 - 1) n) ∧ (8192 ≤ n → s.raised 0x8C 2 t) ∧
          t.rd F.FB_OUTST_NOW = now.val ∧ t.rd F.FB_OUTST_PEAK = max (s.rd F.FB_OUTST_PEAK) now.val ∧
          t.rd F.FB_HELD_ORD = (s.rd F.FB_HELD_ORD + held.count false) % 2 ^ 32 ∧ t.rd F.FB_HELD_CRED = (s.rd F.FB_HELD_CRED + held.count true) % 2 ^ 32 ∧
          (n < 8192 → t.flt = s.flt) ∧
          s.only ((F.FB_MAXWAIT.ix m.val).addr :: F.FB_OUTST_NOW.addr :: F.FB_HELD_ORD.addr :: F.FB_HELD_CRED.addr :: srcRegs 0x8C) [.regs, .flt] t) ∧
        (s.quiet 0x8C 0 → s.quiet 0x8C 3 → Does .lockTimeout s fun t =>
          t.rd F.FB_LOCK_TO = (s.rd F.FB_LOCK_TO + 1) % 2 ^ 32 ∧ (t.rd (F.FLT_LATCH.pg 0x8C)).testBit 0 = true ∧
          (t.rd (F.FLT_LATCH.pg 0x8C)).testBit 3 = true ∧ t.rd (F.EVT_COUNT.pg 0x8C) = (s.rd (F.EVT_COUNT.pg 0x8C) + 2) % 2 ^ 32 ∧
          s.only (F.FB_LOCK_TO.addr :: srcRegs 0x8C) [.regs, .flt] t)) ∧
    (∀ (s : State), s.canonical = true →
        (∀ ok, s.log.staged = [] → exec (.logFlush ok) s = .next s) ∧
        (s.log.staged ≠ [] → Does (.logFlush true) s fun t =>
          t.log.staged = [] ∧ t.log.stored = (s.log.staged.reverse ++ s.log.stored).take 65536 ∧ t.log.next = s.log.next ∧
          t.rd F.LOG_STAT_STAGED = 0 ∧ t.rd F.LOG_FLUSH_CNT = (s.rd F.LOG_FLUSH_CNT + 1) % 2 ^ 32 ∧
          s.only [F.LOG_HEAD.addr, F.LOG_OLDEST.addr, F.LOG_STAT_STAGED.addr, F.LOG_FLUSH_CNT.addr] [.regs, .log] t) ∧
        (s.log.staged ≠ [] → s.quiet 0x9A 1 → Does (.logFlush false) s fun t =>
          s.raised 0x9A 1 t ∧ t.rd F.LOG_FLUSH_CNT = (s.rd F.LOG_FLUSH_CNT + 1) % 2 ^ 32 ∧ s.only (F.LOG_FLUSH_CNT.addr :: srcRegs 0x9A) [.regs, .flt] t)))

/-- R465, R469, R471: the power account. A write of EN_CAP takes effect at once unless the running plan would fail the cap; a window's end shows
its average and arms a step of shedding four ticks ahead; the step takes effect at its commit tick; the regulators' answers set the calibration. -/
def Obligations.PowerAccount : Prop :=
  ∀ (s : State), s.canonical = true → s.enabled 0x03 = true → (∀ n : Fin 5, s.broken 0x03 n.val = false) →
    (∀ mw : BitVec 24, s.takes F.EN_CAP.addr = true →
      (s.eng.run = none → Does (.enCapWrite mw) s fun t => t.rd F.EN_CAP = mw.toNat ∧
        s.only (F.EN_CAP.addr :: F.JRNL_USED.addr :: F.SCN_STAT_JRNL_FULL.addr :: srcRegs 0x24) [.regs, .flt, .scn, .out, .pair] t) ∧
      (∀ a, s.eng.run = some a → capFails a.plan a.place a.allowance s.shareCost.1 s.shareCost.2 (s.rd F.EN_EXPECT_PROG_PCT)
          (s.rd F.EN_EXPECT_BKG_PCT) mw.toNat = true → s.raw 0x03 4 = false →
        Does (.enCapWrite mw) s fun t => t.rd F.EN_CAP = s.rd F.EN_CAP ∧ s.raised 0x03 4 t ∧ s.only (srcRegs 0x03) [.regs, .flt, .out, .pair] t)) ∧
    (s.en.ticks = 0 → exec .energyWindowEnd s = .next s) ∧
    (∀ avg, s.en.ticks ≠ 0 → avg = (quot (s.en.sum * s.fs) (1024000 * s.en.ticks * s.F)).toNat →
      (s.on F.EN_STAT_MODE = false → Does .energyWindowEnd s fun t =>
        t.rd F.EN_AVG_MW = avg % 2 ^ 24 ∧ t.rd F.EN_PEAK_MW = max (s.rd F.EN_PEAK_MW) (avg % 2 ^ 24) ∧
        t.on F.EN_STAT_OVER = decide (s.rd F.EN_CAP ≠ 2 ^ 24 - 1 ∧ s.rd F.EN_CAP < avg) ∧
        t.raw 0x03 0 = decide (s.rd F.EN_CAP ≠ 2 ^ 24 - 1 ∧ s.rd F.EN_CAP < avg) ∧ t.en.ticks = 0 ∧ t.en.sum = 0 ∧ t.en.from_ = s.tick ∧
        t.rd F.EN_STAT_SHED_LEVEL = s.rd F.EN_STAT_SHED_LEVEL ∧
        s.only (F.EN_AVG_MW.addr :: F.EN_PEAK_MW.addr :: F.EN_STAT_OVER.addr :: srcRegs 0x03) [.regs, .flt, .en] t) ∧
      (s.on F.EN_STAT_MODE = true → s.isStandby = false → s.en.pending = none → s.rd F.EN_STAT_SHED_LEVEL = 0 → s.rd F.EN_CAP ≠ 2 ^ 24 - 1 →
        s.rd F.EN_CAP < avg → Does .energyWindowEnd s fun t =>
          t.en.pending = some (1, s.tick + 4, true) ∧ t.raw 0x03 1 = true ∧ t.rd F.EN_STAT_SHED_LEVEL = 0 ∧ t.en.ticks = 0)) ∧
    (∀ level at_ sure, s.en.pending = some (level, at_, sure) →
      (at_ ≠ s.tick → exec .shedCommit s = .next s) ∧
      (at_ = s.tick → level < 4 → s.isStandby = false ∨ sure = true → Does .shedCommit s fun t =>
        t.rd F.EN_STAT_SHED_LEVEL = level ∧ t.rd F.EN_SHED_CNT = (s.rd F.EN_SHED_CNT + 1) % 2 ^ 32 ∧ t.raw 0x03 1 = decide (0 < level) ∧
        t.sl.shed = decide (0 < level) ∧ t.on F.SL_STAT_SHED = decide (0 < level) ∧ t.en.pending = none ∧ t.en.since = at_ ∧ t.en.take = some level ∧
        s.only (F.EN_STAT_SHED_LEVEL.addr :: F.EN_SHED_CNT.addr :: F.SL_STAT_SHED.addr :: srcRegs 0x03) [.regs, .flt, .sl, .en] t)) ∧
    (∀ answers : Vector (Option (BitVec 20)) 8,
      (s.rd F.EN_CTRL = 0 ∨ (∀ i : Fin 8, s.on (F.EN_PMB_EN.ix i.val) = false) → Does (.pmbusCalibrationRead answers) s fun t =>
        t.rd F.EN_CAL = 2 ^ 14 ∧ t.on F.EN_STAT_CAL_VALID = false ∧ s.only [F.EN_CAL.addr, F.EN_STAT_CAL_VALID.addr] [.regs, .en] t) ∧
      (s.rd F.EN_CTRL ≠ 0 → (∃ i : Fin 8, s.on (F.EN_PMB_EN.ix i.val) = true) → Does (.pmbusCalibrationRead answers) s fun t =>
        (∀ (i : Fin 8) mw, s.on (F.EN_PMB_EN.ix i.val) = true → answers[i] = some mw → t.rd (F.EN_PMB_MW.ix i.val) = mw.toNat) ∧
        t.raw 0x03 2 = decide (∃ i : Fin 8, s.on (F.EN_PMB_EN.ix i.val) = true ∧ answers[i] = none ∧ 2 ≤ Sparse.get 0 s.en.miss i.val) ∧
        ((∃ i : Fin 8, s.on (F.EN_PMB_EN.ix i.val) = true ∧ answers[i] = none) → t.rd F.EN_CAL = s.rd F.EN_CAL) ∧
        ((∀ i : Fin 8, s.on (F.EN_PMB_EN.ix i.val) = true → answers[i] ≠ none) → s.en.calSum ≠ 0 → 0 < s.fs →
          t.en.cal = max (2 ^ 95) (min (2 ^ 97) (calNext s.en.cal (((List.finRange 8).map fun i =>
            if s.on (F.EN_PMB_EN.ix i.val) then (answers[i].map BitVec.toNat).getD 0 else 0).sum) s.en.calSum s.en.calTicks s.fs s.F)) ∧
          t.rd F.EN_CAL = (quot (t.en.cal * 2 ^ 14) (2 ^ 96)).toNat ∧ 2 ^ 13 ≤ t.rd F.EN_CAL ∧ t.rd F.EN_CAL ≤ 2 ^ 15 ∧
          t.on F.EN_STAT_CAL_VALID = true)))

/-- R421, R428, R474 to R476: wake groups. A group that has stayed quiet for EN_SIL.HOLD is idle; a cluster that carries a Life-safety instance, or
an instance of a group that is not idle, is not gated; a gated cluster whose group leaves idleness wakes, from Off by way of its image. -/
def Obligations.WakeGroups : Prop :=
  ∀ (s : State), s.canonical = true →
    (∀ g : Byte, Sparse.get 0 s.en.quiet g.toNat * s.F * 10 < s.rd F.EN_SIL_HOLD * s.fs → exec (.groupIdle g) s = .next s) ∧
    (∀ g : Byte, s.groupIdle g.toNat = false → (∃ i ∈ s.eng.insts, i.info.wake = g.toNat) →
      s.rd F.EN_SIL_HOLD * s.fs ≤ Sparse.get 0 s.en.quiet g.toNat * s.F * 10 → Does (.groupIdle g) s fun t =>
        t.groupIdle g.toNat = true ∧ (∀ h : Byte, h ≠ g → t.groupIdle h.toNat = s.groupIdle h.toNat) ∧
        (∀ c : Fin 16, (∃ i ∈ s.eng.insts, i.cluster = c.val ∧ (i.info.cls = 3 ∨ i.info.wake ≠ g.toNat ∧ s.groupIdle i.info.wake = false)) →
          t.rd (F.PWR_STATE_CUR.pg (0x10 + c.val)) = s.rd (F.PWR_STATE_CUR.pg (0x10 + c.val))) ∧
        (∀ c : Fin 16, s.rd (F.PWR_STATE_CUR.pg (0x10 + c.val)) ≠ 0 →
          t.rd (F.PWR_STATE_CUR.pg (0x10 + c.val)) = s.rd (F.PWR_STATE_CUR.pg (0x10 + c.val))) ∧
        s.only (F.EN_GATE_CNT.addr :: (List.range 8).map (fun i => (F.EN_GROUP_IDLE.ix i).addr) ++
          (List.range 16).map fun c => (F.PWR_STATE_CUR.pg (0x10 + c)).addr) [.regs] t) ∧
    (∀ (c : Fin 16) n, s.rd (F.PWR_STATE_CUR.pg (0x10 + c.val)) = n →
      (n = 0 → exec (.clusterWake c) s = .next s) ∧
      (n ≠ 0 → s.on (F.PWR_STATE_WAKING.pg (0x10 + c.val)) = false → (∃ i ∈ s.eng.insts, i.cluster = c.val ∧ s.groupIdle i.info.wake = false) →
        Does (.clusterWake c) s fun t =>
          t.rd (F.PWR_STATE_CUR.pg (0x10 + c.val)) = (if n = 3 then 3 else 0) ∧ t.on (F.PWR_STATE_WAKING.pg (0x10 + c.val)) = decide (n = 3) ∧
          s.only ((F.PWR_STATE_CUR.pg (0x10 + c.val)).addr :: if n = 3 then [] else useRegs c.val) [.regs] t)) ∧
    (∀ (c : Fin 16) ok, (s.on (F.PWR_STATE_WAKING.pg (0x10 + c.val)) = false → exec (.clusterImageReloadDone c ok) s = .next s) ∧
      (s.on (F.PWR_STATE_WAKING.pg (0x10 + c.val)) = true → s.quiet 0x88 5 → Does (.clusterImageReloadDone c ok) s fun t =>
        t.rd (F.PWR_STATE_CUR.pg (0x10 + c.val)) = 0 ∧ t.on (F.PWR_STATE_WAKING.pg (0x10 + c.val)) = false ∧
        (ok = true → s.only ((F.PWR_STATE_CUR.pg (0x10 + c.val)).addr :: useRegs c.val) [.regs] t) ∧ (ok = false → s.flash.dramEcc = false → s.raised 0x88 5 t) ∧
        (∀ p : Fin 2, ok = false → s.flash.dramEcc = true → s.on F.DR_CFG_TRAINED = decide (p = 0) →
          (t.rd (F.FLT_LATCH.pg 0x88)).testBit 5 = true ∧ t.rd (F.DR_DBE.pg p.val) = (s.rd (F.DR_DBE.pg p.val) + 1) % 2 ^ 32) ∧
        (∀ h : Nat, (∀ i, s.eng.insts[h]? = some i → i.cluster ≠ c.val) → t.eng.insts[h]? = s.eng.insts[h]?)))

/-- R21, R26, R91, R286, R329, R386, R449: the reads that capture or clear. A LO word is read with its HI word captured, a sequence number with the
rest of its report, TICK_LO with its whole object area: a later read answers what was captured, whatever the registers hold by then. -/
def Obligations.CapturingReads : Prop :=
  ∀ (s : State), s.canonical = true →
    (∀ page : Byte, s.reads (page.toNat * 4096 + 0x00C) = true → Does (.pageStatRead page) s fun t =>
      t.rdata = s.reg (F.PAGE_STAT_STALE.pg page.toNat).addr :: s.rdata ∧ t.on (F.PAGE_STAT_STALE.pg page.toNat) = false ∧
      t.on (F.PAGE_STAT_READY.pg page.toNat) = true ∧ s.only [(F.PAGE_STAT_STALE.pg page.toNat).addr] [.regs, .rdata] t) ∧
    (∀ f ∈ [F.DEV_SERIAL_LO, F.TICK_NUM_LO, F.OVR_TICK_LO, F.TRIG_TICK_LO, F.SCN_ARM_LO, F.SCN_LAST_LO, F.FIX_TICK_LO, F.PAIR_LAST_TICK_LO,
        F.PAIR_DIGEST_LO, F.TDC_CNT_LO, F.TDC_TICK_LO], s.reads f.addr = true →
      Does (.loHiCaptureRead (BitVec.ofNat 20 f.addr)) s fun t => t.rdata = s.reg f.addr :: s.rdata ∧
        (∀ u : State, u.caps = t.caps → u.readWord (f.addr + 4) = s.reg (f.addr + 4)) ∧ s.only [] [.caps, .rdata] t) ∧
    (∀ p : Fin 8, s.reads (F.AIN_CS_SEQ.pg p.val).addr = true → Does (.ainCsSeqRead p) s fun t =>
      t.rdata = s.reg (F.AIN_CS_SEQ.pg p.val).addr :: s.rdata ∧
      (∀ (u : State) (i : Fin 12), u.caps = t.caps → u.readWord (0x40050 + 4096 * p.val + 4 * i.val) = s.reg (0x40050 + 4096 * p.val + 4 * i.val) ∧
        u.readWord (0x40090 + 4096 * p.val + 4 * i.val) = s.reg (0x40090 + 4096 * p.val + 4 * i.val)) ∧ s.only [] [.caps, .rdata] t) ∧
    (s.reads F.REF_PD_SEQ.addr = true → Does .refPdSeqRead s fun t => t.rdata = s.reg F.REF_PD_SEQ.addr :: s.rdata ∧
      (∀ u : State, u.caps = t.caps → u.readWord F.REF_PD.addr = s.reg F.REF_PD.addr) ∧ s.only [] [.caps, .rdata] t) ∧
    (∀ (lane : Fin 2) f, f = (if lane = 0 then F.PB_LANE0_STAT_BLOCK_ERR else F.PB_LANE1_STAT_BLOCK_ERR) → s.reads f.addr = true →
      Does (.pbLaneStatRead lane) s fun t => t.rdata = s.reg f.addr :: s.rdata ∧ t.rd f = 0 ∧ s.only [f.addr] [.regs, .rdata] t) ∧
    (∀ us, s.reads F.FLT_TOP_SEQ.addr = true → Does (.fltTopRead us) s fun t => t.rdata = s.reg F.FLT_TOP_SEQ.addr :: s.rdata ∧
      (s.flt.entries = [] → t.reg F.FLT_TOP1_ORIG.addr = 0) ∧
      (∀ e, s.flt.entries = [e] → e.eff ≤ 4 → e.orig < 8 → t.rd F.FLT_TOP1_ORIG = e.orig ∧
        t.rd F.FLT_TOP1_LEFT_US = (if e.eff = 1 then 1000000 else if e.eff = 2 then 50000 else if e.eff = 3 then 2000 else 0) - us) ∧
      s.only [F.FLT_TOP1_ORIG.addr] [.regs, .rdata] t) ∧
    (∀ h : BitVec 16, Does (.objectAreaCapture h) s fun t => t.rdata = s.areaLive h.toNat 8 :: s.rdata ∧
      (∀ (u : State) (k : Fin 64), k.val ≠ 2 → u.areas = t.areas → (u.areaRead h.toNat (4 * k.val)).1 = s.areaLive h.toNat (4 * k.val)) ∧
      (s.eng.insts[h.toNat]? = none → ∀ k : Fin 64, s.areaLive h.toNat (4 * k.val) = 0) ∧
      s.only [] [.areas, .rdata] t)

/-- R23, R24, R91, R144, R155 to R158, R291: writes to the parameter window. The Latent bank takes a word under the mask of its field and marks its
line; while a Develop is armed the write is held; a write to the active bank is discarded, and so is one to a priority-0 route where authentication
is mandatory, or any on a standby. -/
def Obligations.WindowWrites : Prop :=
  ∀ (s : State) (off : BitVec 26) (v : Word), s.canonical = true →
    (off.toNat % 4 ≠ 0 → exec (.paramWindowWrite off v) s = .next s) ∧
    (off.toNat % 4 = 0 → s.isStandby = true → (0x1000000 ≤ off.toNat ∧ off.toNat < 0x2000000 ∨ 0x3000000 ≤ off.toNat) → s.quiet 0x80 7 →
      Does (.paramWindowWrite off v) s fun t => s.raised 0x80 7 t ∧ s.only (srcRegs 0x80) [.regs, .flt] t) ∧
    (off.toNat % 4 = 0 → s.isStandby = true → off.toNat < 0x1000000 → s.quiet 0x24 0 → s.quiet 0x80 7 → Does (.paramWindowWrite off v) s fun t =>
      (t.rd (F.FLT_LATCH.pg 0x24)).testBit 0 = true ∧ (t.rd (F.FLT_LATCH.pg 0x80)).testBit 7 = true ∧
      s.only (srcRegs 0x24 ++ srcRegs 0x80) [.regs, .flt] t) ∧
    (off.toNat % 4 = 0 → s.isStandby = false → off.toNat < 0x1000000 → s.quiet 0x24 0 →
      Does (.paramWindowWrite off v) s fun t => s.raised 0x24 0 t ∧ s.only (srcRegs 0x24) [.regs, .flt] t) ∧
    (off.toNat % 4 = 0 → s.isStandby = false → 0x1000000 ≤ off.toNat → off.toNat < 0x1600000 → s.nodeIn (off.toNat - 0x1000000) = true →
      (s.mustAuth = true → s.lsNode (off.toNat - 0x1000000) = true → s.quiet 0x20 1 →
        Does (.paramWindowWrite off v) s fun t => s.raised 0x20 1 t ∧ s.only (srcRegs 0x20) [.regs, .flt] t) ∧
      (s.mustAuth = false ∨ s.lsNode (off.toNat - 0x1000000) = false →
        (s.scn.armed = none → Does (.paramWindowWrite off v) s fun t =>
          t.word off.toNat = v ∧ (∀ a, a < off.toNat ∨ off.toNat + 4 ≤ a → t.byte a = s.byte a) ∧ t.on F.SCN_STAT_DIRTY = true ∧
          t.on (F.BANK_STAT_DIRTY.pg 0x20) = true ∧ Sparse.get false t.scn.lines ((off.toNat - 0x1000000) / 64) = true ∧
          s.only [F.SCN_DIRTY_LINES.addr, F.SCN_STAT_DIRTY.addr, (F.BANK_STAT_DIRTY.pg 0x20).addr, (F.BANK_STAT_DIRTY.pg 0x28).addr]
            [.regs, .win, .scn, .out, .pair] t) ∧
        (s.scn.armed ≠ none → s.scn.held.length < 4096 → Does (.paramWindowWrite off v) s fun t =>
          t.scn.held = s.scn.held ++ [(off.toNat, v)] ∧ s.only [] [.scn, .out, .pair] t))) ∧
    (off.toNat % 4 = 0 → s.isStandby = false → 0x1A00000 ≤ off.toNat → off.toNat < 0x1A02000 →
      s.scn.armed = none → Does (.paramWindowWrite off v) s fun t =>
        t.word off.toNat = v &&& 0xFF03 ∧ (∀ a, a < off.toNat ∨ off.toNat + 4 ≤ a → t.byte a = s.byte a)) ∧
    (off.toNat % 4 = 0 → s.isStandby = false → 0x3040000 ≤ off.toNat → off.toNat < 0x3040200 → s.mustAuth = false →
      Does (.paramWindowWrite off v) s fun t =>
        t.word off.toNat = v &&& (if off.toNat % 16 = 0 then 0x7FF87 else if off.toNat % 16 = 4 then 0xFFFFFFFF else 0) ∧
        (∀ a, a < off.toNat ∨ off.toNat + 4 ≤ a → t.byte a = s.byte a) ∧
        s.only (F.JRNL_USED.addr :: F.SCN_STAT_JRNL_FULL.addr :: srcRegs 0x24) [.regs, .flt, .win, .scn, .out, .pair] t)

/-- R42, R44 to R46: the rings. A doorbell announces descriptors on a running ring; a TAIL at or above the size is ignored; an array that cannot be
read stops the ring; EN written from 0 to 1 empties it. A counted completion whose time is over sends its vector; an event, or a sheet that fits,
goes into a posted buffer (the points of the rings that the rules leave open: log entry 52). -/
def Obligations.RingOperations : Prop :=
  ∀ (s : State) (ring : Fin 64), s.canonical = true → s.maps = true → s.on F.HOST_CTRL_RING_OWNER = false →
    (∀ (tail : BitVec 12) l ok, s.host.clipWait = none →
      (s.ringSize ring ≤ tail.toNat → s.quiet 0x08 2 → Does (.ringDoorbell ring tail l ok) s fun t =>
        s.raised 0x08 2 t ∧ s.only (srcRegs 0x08) [.regs, .flt] t) ∧
      (tail.toNat < s.ringSize ring → s.ringRuns ring = false → Does (.ringDoorbell ring tail l ok) s fun t =>
        t.rd (F.RING_TAIL.ring ring) = tail.toNat ∧ s.only [(F.RING_TAIL.ring ring).addr] [.regs] t) ∧
      (tail.toNat < s.ringSize ring → s.ringRuns ring = true → s.quiet 0x08 1 → Does (.ringDoorbell ring tail l false) s fun t =>
        t.on (F.RING_STAT_STOPPED.ring ring) = true ∧ t.rd (F.RING_TAIL.ring ring) = tail.toNat ∧ s.raised 0x08 1 t ∧
        s.only ([(F.RING_TAIL.ring ring).addr, (F.RING_STAT_STOPPED.ring ring).addr] ++ srcRegs 0x08) [.regs, .flt] t) ∧
      (tail.toNat < s.ringSize ring → s.ringRuns ring = true → Does (.ringDoorbell ring tail l true) s fun t =>
        t.rd (F.RING_TAIL.ring ring) = tail.toNat ∧
        t.queueOf ring = s.queueOf ring ++ (List.range ((tail.toNat + s.ringSize ring - s.rd (F.RING_TAIL.ring ring)) % s.ringSize ring)).map
          (fun k => l.getD k zeroDesc) ∧ (∀ q, q ≠ ring.val → t.queueOf q = s.queueOf q) ∧
        s.only [(F.RING_TAIL.ring ring).addr, (F.RING_STAT_BLOCKED.ring (shownRing ring.val)).addr] [.regs, .host] t)) ∧
    (s.takes (F.RING_CTRL_EN.ring ring).addr = true →
      (s.on (F.RING_CTRL_EN.ring ring) = false → Does (.ringEnable ring true) s fun t =>
        t.on (F.RING_CTRL_EN.ring ring) = true ∧ t.rd (F.RING_HEAD.ring ring) = 0 ∧ t.rd (F.RING_TAIL.ring ring) = 0 ∧
        t.on (F.RING_STAT_STOPPED.ring ring) = false ∧ t.queueOf ring = [] ∧ t.ringSize ring = s.ringSize ring ∧
        (∀ q, q ≠ ring.val → t.queueOf q = s.queueOf q) ∧
        s.only [(F.RING_CTRL_EN.ring ring).addr, (F.RING_HEAD.ring ring).addr, (F.RING_TAIL.ring ring).addr, (F.RING_STAT_STOPPED.ring ring).addr,
          (F.RING_STAT_BLOCKED.ring (shownRing ring.val)).addr] [.regs, .host] t) ∧
      Does (.ringEnable ring false) s (fun t => t.on (F.RING_CTRL_EN.ring ring) = false ∧ t.ringSize ring = s.ringSize ring ∧
        s.only [(F.RING_CTRL_EN.ring ring).addr, (F.RING_STAT_BLOCKED.ring (shownRing ring.val)).addr] [.regs] t)) ∧
    (Sparse.get 0 s.host.unsignalled ring = 0 → exec (.ringIrqTimeout ring) s = .next s) ∧
    (∀ v, Sparse.get 0 s.host.unsignalled ring ≠ 0 → v = s.rd (F.RING_IRQ_VEC.ring ring) → v < 64 → Does (.ringIrqTimeout ring) s fun t =>
      Sparse.get 0 t.host.unsignalled ring = 0 ∧
      (s.vecMasked v = false → t.out = .msix v :: s.out ∧ s.only [] [.out, .host] t) ∧
      (s.vecMasked v = true → (t.reg (pbaAddr v)).getLsbD (v % 32) = true ∧ s.only [pbaAddr v] [.regs, .host] t)) ∧
    (∀ r rest d, Sparse.get [] s.host.events ring = r :: rest → s.posted ring = some d → d.reach = true → d.dest = true →
      s.outstanding (ring.val - 16) < (s.queueOf ring).length → Does (.eventDelivery ring) s fun t =>
        (∃ l, t.out = l ++ .done ring (doneBytes d (0xE000 + r.typ) 0xFF 0 (min d.bufLen.toNat r.bytes.length) 0 0 s.host.evtSeq) ::
          .event ring s.host.evtSeq r :: s.out ∧ l.length ≤ 1) ∧ t.host.evtSeq = (s.host.evtSeq + 1) % 2 ^ 32 ∧
        Sparse.get [] t.host.events ring = rest ∧ t.queueOf ring = (s.queueOf ring).tail ∧
        t.rd (F.RING_HEAD.ring ring) = (s.rd (F.RING_HEAD.ring ring) + 1) % s.ringSize ring % 2 ^ 12 ∧
        s.sameBut [.regs, .out, .host] t) ∧
    (∀ r rest d, Sparse.get [] s.host.events ring = r :: rest → s.posted ring = some d → d.reach = false ∨ d.dest = false →
      s.outstanding (ring.val - 16) < (s.queueOf ring).length → Does (.eventDelivery ring) s fun t =>
        (d.reach = false → t.host.events = s.host.events) ∧ (d.dest = false → s.quiet 0x08 1 → s.raised 0x08 1 t ∧ t.on (F.RING_STAT_STOPPED.ring ring) = true) ∧
        s.sameBut [.regs, .out, .host, .flt] t) ∧
    (Sparse.get [] s.host.events ring = [] ∨ s.posted ring = none → exec (.eventDelivery ring) s = .next s) ∧
    ((∀ x ∈ s.host.due, x.1 ≠ ring.val) → exec (.contactSheetEmit ring) s = .next s) ∧
    (∀ b d rest, s.host.due = (ring.val, b) :: rest → s.posted ring = some d → d.reach = true → d.dest = true → b.length ≤ d.bufLen.toNat →
      Does (.contactSheetEmit ring) s fun t =>
        (∃ l, t.out = l ++ .done ring (doneBytes d d.op.toNat d.role.toNat d.tag.toNat b.length 0 0 d.seq.toNat) :: .sheet ring b :: s.out ∧
          l.length ≤ 1) ∧ t.host.due = rest ∧ t.queueOf ring = (s.queueOf ring).tail ∧
        t.rd (F.RING_HEAD.ring ring) = (s.rd (F.RING_HEAD.ring ring) + 1) % s.ringSize ring % 2 ^ 12 ∧ s.sameBut [.regs, .out, .host] t) ∧
    (∀ b rest, s.host.due = (ring.val, b) :: rest → s.posted ring = none → Does (.contactSheetEmit ring) s fun t =>
        t.rd (F.RING_STAT_DROP.ring ring) = min (2 ^ F.RING_STAT_DROP.width - 1) (s.rd (F.RING_STAT_DROP.ring ring) + 1) ∧ t.host.due = rest ∧
        t.out = s.out ∧ (∀ y ∈ t.host.sheets, y.ring = ring.val → y.dropped = true) ∧ s.only [(F.RING_STAT_DROP.ring ring).addr] [.regs, .host] t)

/-- R38 to R41: the SPI target. A write of one word is the register write, or the window write, of the same word, but for the registers that run the
rings, which only their owner writes (log entry 52); a CRC that does not match, or a
space that does not exist, discards the transaction; a read shifts out what the register holds. -/
def Obligations.SpiTransactions : Prop :=
  ∀ (s : State) (addr : Word) (w : Word) (n : Nat), s.canonical = true →
    (s.on F.SPI_CTRL = false → addr.toNat < 2 ^ 28 → addr.toNat % 4 = 0 →
      (runsRing (addr.toNat % 2 ^ 20) = false → exec (.spiTransaction 0x02 addr (leBytes 4 w.toNat) n) s = exec (.registerWrite (addr.setWidth 20) w true) s) ∧
      (runsRing (addr.toNat % 2 ^ 20) = true → s.on (F.PAGE_STAT_READY.pg (addr.toNat % 2 ^ 20 / 4096)) = true →
        (s.on F.HOST_CTRL_RING_OWNER = false → exec (.spiTransaction 0x02 addr (leBytes 4 w.toNat) n) s = .next s) ∧
        (s.on F.HOST_CTRL_RING_OWNER = true → exec (.registerWrite (addr.setWidth 20) w true) s = .next s))) ∧
    (s.on F.SPI_CTRL = false → 2 ^ 28 ≤ addr.toNat → addr.toNat < 2 ^ 29 → addr.toNat % 4 = 0 →
      exec (.spiTransaction 0x02 addr (leBytes 4 w.toNat) n) s = exec (.paramWindowWrite (addr.setWidth 26) w) s) ∧
    (s.on F.SPI_CTRL = false → 2 ^ 29 ≤ addr.toNat → addr.toNat < 2 ^ 29 + 2 ^ 16 → addr.toNat % 4 = 0 →
      Does (.spiTransaction 0x02 addr (leBytes 4 w.toNat) n) s fun t =>
        s.only [] [.host] t ∧ t.host.spi = memBytes (fun _ => 0) s.host.spi (addr.toNat - 2 ^ 29) (leBytes 4 w.toNat)) ∧
    (∀ data, s.on F.SPI_CTRL = true → 2 ≤ data.length →
      data.drop (data.length - 2) ≠ beBytes 2 (crc16 (0x02 :: beBytes 4 addr.toNat ++ data.take (data.length - 2))) →
      Does (.spiTransaction 0x02 addr data n) s fun t => t.on F.SPI_STAT_CRC_ERR = true ∧ s.only [F.SPI_STAT_CRC_ERR.addr] [.regs] t) ∧
    (∀ op data, op = 0x02 ∨ op = 0x0B → s.on F.SPI_CTRL = false → 3 * 2 ^ 28 ≤ addr.toNat → Does (.spiTransaction op addr data n) s fun t =>
      t.on F.SPI_STAT_SPACE_ERR = true ∧ s.only [F.SPI_STAT_SPACE_ERR.addr] [.regs] t) ∧
    (∀ a : Fin 64, s.on F.SPI_CTRL = false → addr = BitVec.ofNat 32 (0x40 + 4 * a.val) → s.reads (0x40 + 4 * a.val) = true →
      capturesOf (0x40 + 4 * a.val) = [] → Does (.spiTransaction 0x0B addr [] 1) s fun t =>
        t.out = .spi [s.reg (0x40 + 4 * a.val)] none :: s.out ∧ s.only [] [.out, .caps] t)

/-- R46, R50 to R52: the common checks of the host's commands, in their order. The first that fails is answered with its status, and the refused
command has no effect: after the announced descriptor only its response, and an authentication failure's count, differ. R36, R45, R46, R48, R49: what a posted response leaves: the completion written, the descriptor of the response ring consumed, the vector sent at most
once, the SEQ of a command that is not refused recorded for its role; a descriptor that cannot be written stops the ring. An authentication failure is counted, and raised where its source is quiet. What an unauthenticated command's SEQ is held to is log entry 16, the order of checks the rules leave open log entry 52. -/
def Obligations.CommandChecks : Prop :=
  (∀ (i : Instr) (s u : State) (ring : Fin 16) (d : Desc), hostDesc i = some (ring, d) → s.canonical = true → s.ready ring = true →
      u = s.taken ring d →
      (ring ≠ 0 → adminOnly d.op.toNat = true → exec i s = .next (u.replies ring d St.badRing 0 0 0)) ∧
      (ring = 0 ∨ adminOnly d.op.toNat = false →
        (d.auth = true ∧ d.bufLen.toNat < 16 ∨ lenOk d.op.toNat s.lc d.bodyLen = false → exec i s = .next (u.replies ring d St.badLen 0 0 0)) ∧
        ((d.auth = true → 16 ≤ d.bufLen.toNat) → lenOk d.op.toNat s.lc d.bodyLen = true →
          (d.reach = false → d.bufLen ≠ 0 → exec i s = .next (u.replies ring d St.dmaErr 0 0 0)) ∧
          (d.reach = true →
            (s.mustAuth = true → d.auth = false → 1 ≤ d.role.toNat → d.role.toNat ≤ 3 →
              exec i s = .next (u.authFailed.replies ring d St.authRequired 0 0 0)) ∧
            (2 ≤ s.lc → d.auth = true → 1 ≤ d.role.toNat → d.role.toNat ≤ 3 →
              (s.sec.tampered = true ∨ s.sec.keys.getD (d.role.toNat - 1) [] = [] ∨ d.trailer ≠ u.mac d →
                exec i s = .next (u.authFailed.replies ring d St.authFail 0 0 0)) ∧
              (s.sec.tampered = false → s.sec.keys.getD (d.role.toNat - 1) [] ≠ [] → d.trailer = u.mac d → d.seq.toNat ≤ s.rd (seqField d.role.toNat) →
                exec i s = .next (u.replies ring d St.replay 0 0 0))) ∧
            (s.mustAuth = false → d.auth = false → ¬ (s.lc = 2 ∧ d.op.toNat = Op.lifecycle ∧ 1 ≤ d.role.toNat) →
              (1 ≤ d.role.toNat → d.role.toNat ≤ 3 → d.seq.toNat ≤ s.rd (seqField d.role.toNat) → exec i s = .next (u.replies ring d St.replay 0 0 0)) ∧
              ((1 ≤ d.role.toNat → d.role.toNat ≤ 3 → s.rd (seqField d.role.toNat) < d.seq.toNat) →
              (∀ n, minRole d.op.toNat = some n → d.role.toNat < n ∨ 3 < d.role.toNat → exec i s = .next (u.replies ring d St.role 0 0 0)) ∧
              (∀ n, minRole d.op.toNat = some n → n ≤ d.role.toNat → d.role.toNat ≤ 3 →
                (s.inRecovery = true → recoveryTakes d.op.toNat = false → exec i s = .next (u.replies ring d St.state 0 0 0)) ∧
                (s.inRecovery = false → s.lc ≠ 4 → s.isStandby = true → standbyTakes d.op.toNat = false →
                  exec i s = .next (u.replies ring d St.standby 0 0 0))))))))) ∧
  (∀ (s : State) (ring : Fin 16) (d q : Desc) (status detail result len : Nat), s.canonical = true → s.maps = true →
      (s.posted (16 + ring.val) = some q → q.dest = true →
        (∃ l, (s.replies ring d status detail result len).out =
          l ++ .response (16 + ring.val) d.op.toNat ring.val d.tag.toNat d.seq.toNat status detail result len :: s.out ∧ l.length ≤ 1) ∧
        (s.replies ring d status detail result len).queueOf (16 + ring.val) = (s.queueOf (16 + ring.val)).tail ∧
        (s.replies ring d status detail result len).rd (F.RING_HEAD.ring (16 + ring.val)) =
          (s.rd (F.RING_HEAD.ring (16 + ring.val)) + 1) % s.ringSize (16 + ring.val) % 2 ^ 12) ∧
      (s.posted (16 + ring.val) = some q → q.dest = false → s.ringRuns ring = true → s.quiet 0x08 1 → (s.replies ring d status detail result len).out = s.out ∧
        (s.replies ring d status detail result len).on (F.RING_STAT_STOPPED.ring (16 + ring.val)) = true) ∧
      ((s.posted (16 + ring.val)).all (·.dest) = true → s.sameBut [.regs, .out, .host] (s.replies ring d status detail result len)) ∧
      (∀ n, 1 ≤ n → n ≤ 3 → (s.replies ring d status detail result len).rd (seqField n) =
        if status = St.ok ∧ d.role.toNat = n then d.seq.toNat else s.rd (seqField n)) ∧
      (s.quiet 0x08 3 → s.authFailed.rd F.AUTH_FAIL_CNT = (s.rd F.AUTH_FAIL_CNT + 1) % 2 ^ F.AUTH_FAIL_CNT.width ∧
        (s.authFailed.rd (F.FLT_LATCH.pg 0x08)).testBit 3 = true ∧
        s.only (F.AUTH_FAIL_CNT.addr :: srcRegs 0x08) [.regs, .host, .flt] s.authFailed))

/-- R126, R158, R161, R164, R165, R182: a Develop from its journal record to its commit tick. Armed, it shows its tick; too near, it is voided; without
a record in the journal, it is not armed; at its tick its lines stand in both banks, nodes outside the dimensions at 0, their marks are gone, and DEV_SEQ names it; a standby without the confirm drops it. -/
def Obligations.Develops : Prop :=
  ∀ (s : State), s.canonical = true →
    (s.scn.arming = none → exec .developArmed s = .next s) ∧
    (∀ d k, s.scn.arming = some d → d.ticket = some k → s.flt.pfailSeq = true ∨ s.journalFits (.develop d (s.planOf d)) = false → Does .developArmed s fun t =>
      t.scn.armed = s.scn.armed ∧ t.scn.arming = none ∧ t.on F.SCN_STAT_JRNL_BUSY = false ∧
      t.rd F.SCN_CANCEL_CNT = (s.rd F.SCN_CANCEL_CNT + 1) % 2 ^ F.SCN_CANCEL_CNT.width ∧ s.sameBut [.regs, .out, .host, .flt, .scn] t) ∧
    (∀ d k, s.scn.arming = some d → d.ticket = some k → s.flt.pfailSeq = false → s.journalFits (.develop d (s.planOf d)) = true →
      s.tick + 4 ≤ d.tick → d.tick < 2 ^ 64 → Does .developArmed s fun t =>
      t.scn.armed = some { d with armed := true, ticket := none } ∧ t.scn.arming = none ∧ t.on F.SCN_STAT_ARMED = true ∧
      t.on F.SCN_STAT_JRNL_BUSY = false ∧ t.rd64 F.SCN_ARM_LO F.SCN_ARM_HI = d.tick ∧
      s.sameBut [.regs, .out, .host, .flt, .scn, .pair] t) ∧
    (∀ d k, s.scn.arming = some d → d.ticket = some k → d.tick < s.tick + 4 → Does .developArmed s fun t =>
      t.scn.armed = s.scn.armed ∧ t.scn.arming = none ∧ t.on F.SCN_STAT_JRNL_BUSY = false ∧
      t.rd F.SCN_CANCEL_CNT = (s.rd F.SCN_CANCEL_CNT + 1) % 2 ^ F.SCN_CANCEL_CNT.width ∧ s.sameBut [.regs, .out, .host, .flt, .scn] t) ∧
    (s.scn.armed = none → exec .developCommit s = .next s) ∧
    (∀ d, s.scn.armed = some d → d.tick ≠ s.tick → exec .developCommit s = .next s) ∧
    (∀ d, s.scn.armed = some d → d.tick = s.tick → s.isStandby = true → d.confirmed = false → s.scn.held = [] → Does .developCommit s fun t =>
      t.scn.armed = none ∧ t.on F.SCN_STAT_ARMED = false ∧ t.scn.lines = s.scn.lines ∧ t.win = s.win ∧ t.eng = s.eng ∧
      s.sameBut [.regs, .scn] t) ∧
    (∀ d l b, s.scn.armed = some d → d.tick = s.tick → s.isStandby = false ∨ d.confirmed = true → d.withPlan = false → d.lines = [(l, b)] →
      b.length = 64 → l < 2 ^ 18 → d.regs = [] → s.scn.held = [] → d.seq < 2 ^ 32 → Does .developCommit s fun t =>
        (∀ k : Fin 64, ∀ x, x = (if lineClass l ≠ 0 ∨ s.nodeIn (64 * l + k.val / 4 * 4) = true then b.getD k.val 0 else 0) →
          t.byte (64 * l + k.val) = x ∧ t.byte (0x1000000 + 64 * l + k.val) = x) ∧
        (∀ a, (a < 64 * l ∨ 64 * l + 64 ≤ a) → (a < 0x1000000 + 64 * l ∨ 0x1000000 + 64 * l + 64 ≤ a) → t.byte a = s.byte a) ∧
        Sparse.get false t.scn.lines l = false ∧ (∀ x, x ≠ l → Sparse.get false t.scn.lines x = Sparse.get false s.scn.lines x) ∧
        t.scn.armed = none ∧ t.on F.SCN_STAT_ARMED = false ∧ t.rd F.SCN_STAT_DEV_SEQ = d.seq % 2 ^ F.SCN_STAT_DEV_SEQ.width ∧
        t.rd64 F.SCN_LAST_LO F.SCN_LAST_HI = s.tick) ∧
    (∀ d a, s.scn.armed = some d → d.tick = s.tick → s.isStandby = false ∨ d.confirmed = true → d.withPlan = true → s.eng.pend = some a →
      (a.disruptive = true → Does .developCommit s fun t =>
        t.eng.restart = some ⟨s.tick, s.tick + ceilDiv 64 s.F, a, d⟩ ∧ t.eng.pend = none ∧ t.eng.run = s.eng.run ∧ t.scn.armed = none) ∧
      (a.disruptive = false → Does .developCommit s fun t =>
        t.eng.run = some a ∧ t.eng.pend = none ∧ t.eng.incoming = some ⟨a, s.eng.proc, d, s.tick, false⟩ ∧ t.scn.armed = none))

/-- R73, R374: the tick at which a disruptive plan starts, and the end of the media PLL's glide. R76, R172, R173: a waiting Dissolve that takes the place that came free, the end of a Dissolve, and the change chained behind a crossfade. -/
def Obligations.PlanStartsAndDissolves : Prop :=
  (∀ (s : State), s.canonical = true →
      (s.eng.restart = none → exec .disruptivePlanStart s = .next s) ∧
      (∀ x, s.eng.restart = some x → s.tick < x.first → exec .disruptivePlanStart s = .next s) ∧
      (∀ x, s.eng.restart = some x → x.first ≤ s.tick → Does .disruptivePlanStart s fun t =>
        t.eng.restart = none ∧ t.eng.run = some x.admitted ∧ t.eng.pend = none ∧ t.eng.proc = none ∧ t.eng.insts = [] ∧
        t.eng.incoming = some ⟨x.admitted, none, x.dev, s.tick, true⟩ ∧ t.eng.level = .rises (s.tick + 2) 64 ∧ t.eng.emit = [] ∧
        t.scn.armed = s.scn.armed) ∧
      (s.on F.CG_STAT_GLIDING = false → exec .mediaGlideEnd s = .next s) ∧
      (s.on F.CG_STAT_GLIDING = true → Does .mediaGlideEnd s fun t =>
        t.on F.CG_STAT_GLIDING = false ∧ t.rd F.CG_STAT_FAMILY = (1 - rateFamily (s.rd F.TICK_CFG_RATE)) % 2 ∧
        t.rd F.TICK_STAT_FAMILY = (1 - rateFamily (s.rd F.TICK_CFG_RATE)) % 2 ∧
        s.only ([F.CG_STAT_GLIDING.addr, F.CG_STAT_FAMILY.addr, F.TICK_STAT_FAMILY.addr] ++ ((List.range 24).map fun p => (rollField (0x30 + p)).addr)) [.regs, .ports] t)) ∧
  (∀ (s : State) (h : BitVec 16) (i : Inst), s.canonical = true → s.eng.insts[h.toNat]? = some i →
      (∀ w, i.waiting = some w → w.ready = false → s.frame < w.due → (∀ j : Nat, ∀ x, s.eng.insts[j]? = some x → j ≠ h.toNat → x.waiting = none) →
        0 < s.freePlaces i.cluster → Does (.dissolveWaitStart h) s fun t =>
          t.eng.insts[h.toNat]? = some { i with placed := true, waiting := some { w with ready := true } } ∧
          (∀ j : Nat, j ≠ h.toNat → t.eng.insts[j]? = s.eng.insts[j]?) ∧
          s.only [F.SCN_DISS_CNT_ACTIVE.addr, F.SCN_STAT_DISSOLVING.addr, (F.BANK_STAT_DISSOLVING.pg 0x20).addr,
            (F.BANK_STAT_DISSOLVING.pg 0x28).addr] [.regs, .eng] t) ∧
      (s.freePlaces i.cluster = 0 → exec (.dissolveWaitStart h) s = .next s) ∧
      (i.dissolving = true → i.ramps = [] → i.fade = none → i.chained = none → i.waiting = none → Does (.dissolveEnd h) s fun t =>
        t.eng.insts[h.toNat]? = some { i with dissolving := false, placed := false } ∧
        (∀ j : Nat, j ≠ h.toNat → t.eng.insts[j]? = s.eng.insts[j]?) ∧
        t.rd F.SCN_DISS_CNT_ACTIVE = (t.eng.insts.filter (·.dissolving)).length % 2 ^ F.SCN_DISS_CNT_ACTIVE.width ∧
        s.only [F.SCN_DISS_CNT_ACTIVE.addr, F.SCN_STAT_DISSOLVING.addr, (F.BANK_STAT_DISSOLVING.pg 0x20).addr,
            (F.BANK_STAT_DISSOLVING.pg 0x28).addr] [.regs, .eng] t) ∧
      (i.dissolving = false → exec (.dissolveEnd h) s = .next s) ∧
      (i.chained = none → exec (.chainedChangeStart h) s = .next s) ∧
      (∀ p n, i.chained = some (p, n) → i.fade = none → Does (.chainedChangeStart h) s fun t =>
        (∃ j, t.eng.insts[h.toNat]? = some j ∧ j.chained = none ∧ j.cluster = i.cluster ∧ j.info = i.info) ∧
        (∀ j : Nat, j ≠ h.toNat → t.eng.insts[j]? = s.eng.insts[j]?) ∧
        s.only [F.SCN_DISS_CNT_ACTIVE.addr, F.SCN_STAT_DISSOLVING.addr, (F.BANK_STAT_DISSOLVING.pg 0x20).addr,
            (F.BANK_STAT_DISSOLVING.pg 0x28).addr] [.regs, .eng] t))

/-- R164, R177 to R179: a FIX: its snapshot holds the configuration as it stands at the tick boundary S, after what commits with that tick; its phases
write the alternate slot, and the last one moves the pointer; a failed phase leaves the slot in force. R44, R106, R118 to R122: the incident recorder,
and the hold of a meter. A block that is due with no buffer posted is dropped and counted. The tick of a snapshot is log entry 55, what a drain leaves open log entry 52. -/
def Obligations.FixAndRecorder : Prop :=
  (∀ (s : State), s.canonical = true →
      (s.rd F.FIX_STAT_PHASE ≠ 1 ∨ s.scn.fix ≠ none ∨ s.scn.fixAt ≠ s.tick → exec .fixSnapshot s = .next s) ∧
      (s.rd F.FIX_STAT_PHASE = 1 → s.scn.fix = none → s.scn.fixAt = s.tick → Does .fixSnapshot s fun t =>
        t.rd F.FIX_STAT_PHASE = 2 ∧ t.scn.fix = some ((s.tickFirings).each (List.range 32) State.startClip).config) ∧
      (s.rd F.FIX_STAT_PHASE = 1 → s.scn.fix = none → s.scn.fixAt = s.tick → s.nothingDue 8 = true →
        (∀ x ∈ s.eng.starts, x.tick ≠ s.tick ∨ x.taken = true) → Does .fixSnapshot s fun t =>
        (∃ c, t.scn.fix = some c ∧ c.plan = s.eng.run ∧ c.clips = s.eng.clips ∧ c.tick = s.tick ∧ c.cap = s.rd F.EN_CAP ∧
          c.bank = s.win.filter (fun x => decide (x.1 < 0x1000000)) ∧ c.store = s.win.filter (fun x => decide (0x3000000 ≤ x.1 ∧ x.1 < 0x3040200))) ∧
        t.rd F.FIX_STAT_PHASE = 2 ∧ s.only [F.FIX_STAT_PHASE.addr] [.regs, .scn] t) ∧
      (∀ ok, s.scn.fix = none → ok = true ∨ s.rd F.FIX_STAT_PHASE ≠ 1 → exec (.fixPhaseDone ok) s = .next s) ∧
      (∀ c, s.scn.fix = some c → s.scn.slots.length = 2 → s.scn.slot ≤ 1 →
        (s.rd F.FIX_STAT_PHASE = 2 → Does (.fixPhaseDone true) s fun t =>
          t.scn.slots[1 - s.scn.slot]? = some ⟨none, []⟩ ∧ t.scn.slots[s.scn.slot]? = s.scn.slots[s.scn.slot]? ∧ t.scn.slot = s.scn.slot ∧
          t.rd F.FIX_STAT_PHASE = 3 ∧ t.on F.FIX_SLOT_VALID_ALT = false ∧ s.only [F.FIX_STAT_PHASE.addr, F.FIX_SLOT_VALID_ALT.addr] [.regs, .scn] t) ∧
        (s.rd F.FIX_STAT_PHASE = 3 → Does (.fixPhaseDone true) s fun t =>
          t.scn.slots[1 - s.scn.slot]? = some ⟨some c, []⟩ ∧ t.scn.slots[s.scn.slot]? = s.scn.slots[s.scn.slot]? ∧ t.scn.slot = s.scn.slot ∧
          t.rd F.FIX_STAT_PHASE = 4 ∧ s.only [F.FIX_STAT_PHASE.addr] [.regs, .scn] t) ∧
        (s.rd F.FIX_STAT_PHASE = 6 → s.scn.fixTicket = none → s.isStandby = false → Does (.fixPhaseDone true) s fun t =>
          t.scn.slot = 1 - s.scn.slot ∧ t.scn.ptrSeq = s.scn.ptrSeq + 1 ∧ t.scn.ptrs = s.scn.ptrs.set (1 - s.scn.slot) (pointerBytes (s.scn.ptrSeq + 1) (1 - s.scn.slot)) ∧
          t.scn.fix = none ∧ t.rd F.FIX_STAT_PHASE = 0 ∧
          t.on F.SCN_STAT_FIX_BUSY = false ∧ t.on F.SCN_STAT_JRNL_FULL = false ∧ t.rd F.FIX_SLOT_SLOT = 1 - s.scn.slot ∧
          t.scn.slots[1 - s.scn.slot]? = some ⟨some c, s.newerRecords c.tick⟩)) ∧
      (s.scn.slots.length = 2 → s.scn.slot ≤ 1 → s.scn.fix ≠ none ∨ s.rd F.FIX_STAT_PHASE = 1 →
        (s.quiet 0x24 2 → s.scn.fixTicket = none → s.isStandby = false → Does (.fixPhaseDone false) s fun t =>
          t.scn.slots[1 - s.scn.slot]? = some ⟨none, []⟩ ∧ t.scn.slot = s.scn.slot ∧ t.scn.fix = none ∧ t.on F.SCN_STAT_FIX_BUSY = false ∧
          s.raised 0x24 2 t))) ∧
  (∀ (s : State) (r : Recorder), s.canonical = true → s.eng.recorder = r →
      (Does .recFreeze s fun t => t.eng.recorder.freezing = !r.frozen ∧ t.eng.recorder.frozen = r.frozen ∧ t.eng.recorder.tape = r.tape ∧
        t.eng.recorder.ctrl.testBit 0 = true ∧ t.eng = { s.eng with recorder := t.eng.recorder } ∧ s.only [] [.eng] t) ∧
      (Does .recResume s fun t => t.eng.recorder.resumeNext = r.frozen ∧ t.eng.recorder.fill = 0 ∧ t.eng.recorder.tape = [] ∧
        t.eng.recorder.autoPending = false ∧ t.eng.recorder.draining = false ∧ t.eng.recorder.ctrl.testBit 0 = false ∧
        t.eng = { s.eng with recorder := t.eng.recorder } ∧ s.only [] [.eng] t) ∧
      (∀ ring : Fin 8, r.frozen = true → r.draining = false → Does (.recDrain ring) s fun t =>
        t.eng.recorder.draining = true ∧ t.eng.recorder.ring = 56 + ring.val ∧ t.eng.recorder.tape = r.tape ∧ t.eng.recorder.frozen = true ∧
        t.eng = { s.eng with recorder := t.eng.recorder } ∧ s.only [] [.eng] t) ∧
      (r.draining = false → exec .recorderDrainBuffer s = .next s) ∧
      (∀ n ws rest, r.draining = true → s.posted r.ring = none → s.frozenTicks = (n, ws) :: rest → Does .recorderDrainBuffer s fun t =>
        t.rd (F.RING_STAT_DROP.ring r.ring) = min (2 ^ F.RING_STAT_DROP.width - 1) (s.rd (F.RING_STAT_DROP.ring r.ring) + 1) ∧
        t.eng.recorder.from_ = n + 1 ∧ t.eng.recorder.draining = decide (rest ≠ []) ∧ t.eng.recorder.tape = r.tape ∧
        t.eng = { s.eng with recorder := t.eng.recorder } ∧ s.only [(F.RING_STAT_DROP.ring r.ring).addr] [.regs, .eng] t) ∧
      (r.draining = true → s.frozenTicks = [] → Does .recorderDrainBuffer s fun t => t.eng.recorder.draining = false ∧ s.only [] [.eng] t) ∧
      (∀ n ws d, r.draining = true → s.frozenTicks = [(n, ws)] → s.posted r.ring = some d → d.reach = true → d.dest = true →
        16 + 4 * ws.length ≤ d.bufLen.toNat → Does .recorderDrainBuffer s fun t =>
          (∃ l h, t.out = l ++ .done r.ring (doneBytes d d.op.toNat d.role.toNat d.tag.toNat (16 + 4 * ws.length) 0 0 d.seq.toNat) ::
            .capture r.ring (h ++ ws.flatMap fun w => leBytes 4 w.toNat) :: s.out ∧ h.length = 16 ∧ l.length ≤ 1) ∧
          t.eng.recorder.draining = false ∧ t.eng.recorder.from_ = n + 1 ∧ t.queueOf r.ring = (s.queueOf r.ring).tail ∧
          s.sameBut [.regs, .out, .host, .eng] t) ∧
      (r.autoPending = false ∨ s.ms < r.autoAt → exec .recorderAutoFreeze s = .next s) ∧
      (r.autoPending = true → r.autoAt ≤ s.ms → Does .recorderAutoFreeze s fun t => t.eng.recorder.freezing = (r.freezing || !r.frozen) ∧
        t.eng.recorder.frozen = r.frozen ∧ t.eng.recorder.freezeTick = r.freezeTick ∧ t.eng.recorder.autoPending = false ∧
        t.eng.recorder.tape = r.tape ∧ t.eng = { s.eng with recorder := t.eng.recorder } ∧ s.only [] [.eng] t) ∧
      (∀ (h : BitVec 16) (lane : Fin 4) i, s.eng.insts[h.toNat]? = some i → i.info.typ = 0x09 → Does (.meterHoldWrite h lane) s fun t =>
        t.eng.insts[h.toNat]? = some { i with st := { i.st with hold := i.st.hold.set lane.val 0 } } ∧
        (∀ j : Nat, j ≠ h.toNat → t.eng.insts[j]? = s.eng.insts[j]?) ∧ s.only [] [.eng] t) ∧
      (∀ (h : BitVec 16) (lane : Fin 4), (∀ i, s.eng.insts[h.toNat]? = some i → i.info.typ ≠ 0x09) → exec (.meterHoldWrite h lane) s = .next s))

/-- R115, R116, R148: a clip's start tick and its end. R149 to R152: a trigger input's detection, its line fault, and the tick its entries fire at.
R164: what commits with a tick goes in the order Develop, firings by ascending input, clips. -/
def Obligations.ClipAndTriggerEvents : Prop :=
  (∀ (s : State) (p : Fin 32), s.canonical = true →
      (∀ u, exec .developCommit s = .next u → u.scn.armed = none → exec (.clipStart p) s = exec (.clipStart p) u) ∧
      (s.nothingDue 8 = true → (∀ x ∈ s.eng.starts, x.player ≠ p.val ∨ x.tick ≠ s.tick ∨ x.taken = true) → exec (.clipStart p) s = .next s) ∧
      (∀ x rest, s.nothingDue 8 = true → s.eng.starts = x :: rest → x.player = p.val → x.tick = s.tick → x.taken = false →
        (s.isStandby = true → x.confirmed = false → Does (.clipStart p) s fun t => t.eng = { s.eng with starts := rest } ∧ s.only [] [.eng] t) ∧
        (s.isStandby = false ∨ x.confirmed = true → x.preset = 255 → Does (.clipStart p) s fun t =>
          t.eng = { s.eng with starts := rest ++ [{ x with taken := true }] } ∧ s.only [] [.eng] t)) ∧
      (∀ q c m, s.eng.players[p.val]? = some q → q.clip = some c → s.eng.clips = [m] → m.num = c →
        (q.looping = false ∧ m.length ≤ q.pos ∨ q.stopLen ≠ 0 ∧ q.stopLeft = 0 → Does (.clipEnd p) s fun t =>
          t.eng = { s.eng with players := s.eng.players.set p.val { q with clip := none, stopLeft := 0, stopLen := 0 } } ∧ s.only [] [.eng] t) ∧
        (q.looping = true ∨ q.pos < m.length → q.stopLen = 0 → exec (.clipEnd p) s = .next s))) ∧
  (∀ (s : State) (n : Fin 8) (x : Trigger), s.canonical = true → s.eng.trigs[n.val]? = some x →
      (x.fault = true ∨ x.other < s.debounce n.val → exec (.triggerDetection n) s = .next s) ∧
      (x.fault = false → s.debounce n.val ≤ x.other → s.pair.role = .active → x.asserted = false → Does (.triggerDetection n) s fun t =>
        t.eng.trigs[n.val]? = some { x with asserted := true, other := 0, fired := true } ∧
        (t.rd F.TRIG_STAT_ASSERTED).testBit n.val = true ∧ t.rd (F.TRIG_CNT.ix n.val) = (s.rd (F.TRIG_CNT.ix n.val) + 1) % 2 ^ F.TRIG_CNT.width ∧
        t.eng.firings = s.eng.firings ++ [⟨n.val, true, s.tick + 3, s.entriesOf n.val, true⟩] ∧
        s.only [F.TRIG_STAT_ASSERTED.addr, (F.TRIG_CNT.ix n.val).addr] [.regs, .out, .eng, .pair] t) ∧
      (x.fault = true ∨ x.equal < 3 → exec (.lineFault n) s = .next s) ∧
      (x.fault = false → 3 ≤ x.equal → s.enabled 0x58 = true → s.trigRd F.TRIG_CFG_FAULT_POLICY n.val = 0 → Does (.lineFault n) s fun t =>
        t.eng.trigs[n.val]? = some { x with fault := true } ∧ (t.rd F.TRIG_STAT_LINE_FAULT).testBit n.val = true ∧ t.raw 0x58 n.val = true ∧
        s.only (F.TRIG_STAT_LINE_FAULT.addr :: srcRegs 0x58) [.regs, .flt, .eng] t) ∧
      (x.fault = false ∨ x.good < 3 → exec (.lineFaultClear n) s = .next s) ∧
      (x.fault = true → 3 ≤ x.good → s.broken 0x58 n.val = false → x.asserted = (x.reading == 1) → Does (.lineFaultClear n) s fun t =>
        t.eng.trigs[n.val]? = some { x with fault := false } ∧ (t.rd F.TRIG_STAT_LINE_FAULT).testBit n.val = false ∧ t.raw 0x58 n.val = false ∧
        s.only (F.TRIG_STAT_LINE_FAULT.addr :: srcRegs 0x58) [.regs, .flt, .eng] t) ∧
      (∀ u, exec .developCommit s = .next u → u.scn.armed = none → exec (.triggerFire n) s = exec (.triggerFire n) u) ∧
      (s.nothingDue n = true → (∀ f ∈ s.eng.firings, f.input ≠ n.val ∨ f.tick ≠ s.tick) → exec (.triggerFire n) s = .next s) ∧
      (∀ f rest, s.nothingDue n = true → s.eng.firings = f :: rest → f.input = n.val → f.tick = s.tick →
        (s.isStandby = true → f.confirmed = false → Does (.triggerFire n) s fun t => t.eng = { s.eng with firings := rest } ∧ s.only [] [.eng] t) ∧
        (s.isStandby = false ∨ f.confirmed = true → f.entries = [] → Does (.triggerFire n) s fun t =>
          t.rd F.TRIG_LAST = n.val ∧ t.rd64 F.TRIG_TICK_LO F.TRIG_TICK_HI = s.tick ∧ t.eng.firings = rest ∧
          t.eng.trigs[n.val]? = some { x with fired := f.asserted } ∧
          s.only [F.TRIG_LAST.addr, F.TRIG_TICK_LO.addr, F.TRIG_TICK_HI.addr] [.regs, .eng] t) ∧
        (∀ e b, s.isStandby = false ∨ f.confirmed = true → f.asserted = true → f.entries = [(e, b)] → fieldAt b 1 1 = 3 → fieldAt b 4 2 < s.rd F.XPT_DIM0_BU →
          1 ≤ fieldAt b 6 1 → fieldAt b 6 1 ≤ 15 → Does (.triggerFire n) s fun t =>
            t.rd F.TRIG_LAST = n.val ∧ t.eng.raises = (e, fieldAt b 4 2, fieldAt b 6 1) :: s.eng.raises.filter fun y => y.1 != e)))

/-- R419, R496 to R500: secure memory, the life cycle and tamper. A zeroising takes the working keys at once; once it is done, a transition that
waits for it blows its fuse: the state is the next one, the keys stored with it are loaded, and in the last state nothing secret or configured
is left. A tamper event zeroises, and with KILL the stored keys are gone too. R502, R503: an update's programming, and the confirmation of a trial slot, or its end after 10 s without one. -/
def Obligations.SecureMemory : Prop :=
  (∀ (s : State), s.canonical = true →
      (Does .zeroise s fun t => t.sec = { s.sec with keys := [] } ∧ t.on F.SR_SECURE_ZEROISING = true ∧ t.rd F.LC_KEYS_ROLES = 0 ∧
        s.only [F.SR_SECURE_ZEROISING.addr, F.LC_KEYS_ROLES.addr] [.regs, .sec] t) ∧
      (s.on F.SR_SECURE_ZEROISING = false → exec .zeroiseDone s = .next s) ∧
      (s.on F.SR_SECURE_ZEROISING = true → s.sec.adv = none → s.quiet 0x88 6 → Does .zeroiseDone s fun t =>
        t.on F.SR_SECURE_ZEROISING = false ∧ t.on F.SR_SECURE_ZERO = true ∧ t.rd F.SR_ZERO_CNT = (s.rd F.SR_ZERO_CNT + 1) % 2 ^ 32 ∧
        s.raised 0x88 6 t ∧ s.only ([F.SR_SECURE_ZERO.addr, F.SR_ZERO_CNT.addr] ++ srcRegs 0x88) [.regs, .flt] t) ∧
      (∀ tk b, s.on F.SR_SECURE_ZEROISING = true → s.sec.adv = some (tk, b) → s.sec.state ≤ 3 → Does .zeroiseDone s fun t =>
        t.sec.state = s.sec.state + 1 ∧ t.sec.adv = none ∧ t.on F.LC_STATE_BUSY = false ∧ t.rd F.LC_STATE_STATE = s.sec.state + 1 ∧
        (s.sec.state = 0 → s.sec.duk = [] → t.sec.duk.length = 32) ∧
        (s.sec.state = 1 → t.sec.stored = [b.take 32, (b.drop 32).take 32, (b.drop 64).take 32] ∧
          (s.sec.keyKill = false → t.sec.keys = t.sec.stored)) ∧
        (s.sec.state = 2 → t.sec.stored = s.sec.stored) ∧
        (s.sec.state = 3 → t.sec.keyKill = true ∧ t.sec.stored = [] ∧ t.sec.keys = [] ∧ t.log.stored = [] ∧ t.flash.safelight = ⟨[], []⟩ ∧
          t.scn.slots = [⟨none, []⟩, ⟨none, []⟩] ∧ t.scn.ptrs = [[], []] ∧ t.eng.halting = true ∧ t.pair.dark = true) ∧
        t.flt.flip1 = [] ∧ t.flt.flip2 = [] ∧ t.flt.corrupt = [] ∧ t.win = s.win ∧ t.clusters = s.clusters.map fun k => { k with flips := [] }) ∧
      (∀ cause : Fin 4, cause.val < 2 → (s.rd F.LC_TAMPER_CFG_PIN_EN).testBit cause.val = false → exec (.tamper cause) s = .next s) ∧
      (∀ cause : Fin 4, 2 ≤ cause.val ∨ (s.rd F.LC_TAMPER_CFG_PIN_EN).testBit cause.val = true → Does (.tamper cause) s fun t =>
        t.sec.tampered = true ∧ t.sec.keys = [] ∧ t.sec.stored = (if s.on F.LC_TAMPER_CFG_KILL then [] else s.sec.stored) ∧
        t.on F.LC_TAMPER_STAT_TAMPERED = true ∧ t.rd F.LC_TAMPER_STAT_LAST = cause.val + 1 ∧ t.on F.SR_SECURE_ZEROISING = true ∧
        t.sec.state = s.sec.state ∧ s.sameBut [.regs, .host, .flt, .log, .sec] t)) ∧
  (∀ (s : State), s.canonical = true →
      (∀ ok, s.upd = none → exec (.updateProgramDone ok) s = .next s) ∧
      (∀ u, s.upd = some u →
        (Does (.updateProgramDone true) s fun t => t.upd = some { u with programmed := u.chunks } ∧ s.only [] [.upd] t) ∧
        (s.quiet 0x98 2 → Does (.updateProgramDone false) s fun t => t.upd = some { u with programmed := u.chunks, bad := true } ∧
          s.raised 0x98 2 t ∧ s.only (srcRegs 0x98) [.regs, .flt, .upd] t)) ∧
      (s.on F.MB_BOOT_TRIAL = false ∨ s.on F.TICK_STAT_RUNNING = false → exec .firmwareConfirm s = .next s) ∧
      (s.on F.MB_BOOT_TRIAL = true → s.on F.TICK_STAT_RUNNING = true → Does .firmwareConfirm s fun t =>
        t.flash = { s.flash with trial := false, attempted := false } ∧
        t.sec = { s.sec with svn := max s.sec.svn (if s.flash.slot = 0 then s.flash.a.svn else s.flash.b.svn) } ∧
        t.on F.MB_BOOT_TRIAL = false ∧ t.rd F.MB_UPD_STATE = 4 ∧
        s.only [F.MB_BOOT_TRIAL.addr, F.MB_UPD_STATE.addr, F.LC_SVN.addr] [.regs, .sec, .flash] t) ∧
      (∀ env, s.on F.MB_BOOT_TRIAL = false → exec (.trialBootTimeout env) s = .next s) ∧
      (∀ env, s.on F.MB_BOOT_TRIAL = true → s.flash.trial = true → s.flash.attempted = true → s.flash.dir0 = true → s.upd = none →
        s.flash.slot ≤ 1 → (s.flash.fw (1 - s.flash.slot)).valid = true → Does (.trialBootTimeout env) s fun t =>
          t.flash.slot = 1 - s.flash.slot ∧ t.flash.trial = false ∧ t.flash.attempted = false ∧ (t.flash.fw s.flash.slot).valid = false ∧
          t.sec.svn = s.sec.svn))

/-- R35, R48, R181 to R183, R459, R460, R479, R482, R483, R487, R490, R516, R517: resets and start-up. A cold reset leaves every register at its
reset value and the memories empty, and keeps the flash and the fuses; a warm one keeps the memories, the plan and the tick number; a
management restart leaves the engine alone. Start-up counts the stages, and goes to recovery where no firmware passes. The sequence of a loss
of power seals the flash, and its end is a cold restart. -/
def Obligations.Resets : Prop :=
  ∀ (s : State), s.canonical = true →
    (s.upd = none → s.rd F.FIX_STAT_PHASE = 0 → Does .porNAssert s fun t =>
      (∀ a, a ≠ F.MB_RESET_CAUSE.addr → t.reg a = RegDir.reset a) ∧ t.rd F.MB_RESET_CAUSE = 1 ∧ t.win = [] ∧ t.lat = [] ∧
      t.clusters = .replicate 16 .zero ∧ t.eng = .rest ∧ t.pair = .rest ∧ t.net = .rest ∧ t.flt = .rest ∧ t.sec.keys = [] ∧
      t.sec = { s.sec with keys := [], tampered := false, adv := none } ∧ t.log.stored = s.log.stored ∧ t.scn.slots = s.scn.slots ∧ t.scn.ptrs = s.scn.ptrs ∧
      t.flash.a = s.flash.a ∧ t.flash.b = s.flash.b ∧ t.flash.slot = s.flash.slot) ∧
    (s.upd = none → s.rd F.FIX_STAT_PHASE = 0 → s.eng.restart = none → s.eng.incoming = none → s.scn.armed = none → s.scn.held = [] →
      Does .resetNAssert s fun t =>
        t.win = s.win ∧ (∀ c : Fin 16, t.clusters[c].mem = s.clusters[c].mem ∧ t.clusters[c].run = none) ∧ t.eng.run = s.eng.run ∧
        t.tick = s.tick ∧ t.rd F.MB_RESET_CAUSE = 2 ∧ t.flt = .rest ∧ t.net = .rest ∧ t.log = s.log ∧ t.flash = s.flash ∧
        t.sec = { s.sec with adv := none }) ∧
    (∀ key env, s.deployed = true ∨ key ≠ 0xA5C3#16 → s.on F.DEV_STAT_MGMT_READY = true →
      exec (.mbResetWarm key env) s = .next s ∧ exec (.mbResetCold key env) s = .next s ∧ ∀ ok, exec (.mbResetMgmt key ok) s = .next s) ∧
    (∀ env, s.deployed = false →
      (Does (.mbResetWarm 0xA5C3 env) s fun t => t = (s.warmReset 3).warmStart env ∧ t.sec.state = s.sec.state) ∧
      (Does (.mbResetCold 0xA5C3 env) s fun t => t = (s.coldReset 4).coldStart env ∧ t.sec.state = s.sec.state)) ∧
    (∀ ok, s.on F.SCN_STAT_FIX_BUSY = false → s.upd = none → s.flash.slot = s.rd F.MB_BOOT_SLOT →
      (s.deployed = false → Does (.mbResetMgmt 0xA5C3 true) s fun t => t.rd F.MB_RESET_CAUSE = 7 ∧ t.eng = s.eng ∧ t.clusters = s.clusters ∧
        t.win = s.win ∧ t.ports = s.ports ∧ t.host.queue = [] ∧ t.rd F.AUTH_SEQ_OP = 0 ∧ t.tick = s.tick) ∧
      (s.on F.DEV_STAT_MGMT_READY = false → exec (.mgmtWdt ok) s = .next s) ∧
      (s.on F.DEV_STAT_MGMT_READY = true → s.quiet 0x90 3 → Does (.mgmtWdt true) s fun t =>
        (t.rd (F.FLT_LATCH.pg 0x90)).testBit 3 = true ∧ t.rd F.MB_RESET_CAUSE = 7 ∧ t.eng = s.eng ∧ t.clusters = s.clusters ∧ t.win = s.win ∧
        t.ports = s.ports)) ∧
    (∀ env, s.on F.DEV_STAT_MGMT_READY = true → exec (.porNRelease env) s = .next s ∧ ∀ lost, exec (.resetNRelease env lost) s = .next s) ∧
    (∀ env, s.on F.DEV_STAT_MGMT_READY = false → s.rd F.MB_BOOT_STAGE = 0 → s.rd F.MB_RESET_CAUSE = 1 →
      (s.flash.dir0 = false → s.flash.dir1 = false → Does (.porNRelease env) s fun t =>
        t.rd F.MB_BOOT_STAGE = 7 ∧ t.on F.DEV_STAT_MGMT_READY = false ∧ t.eng = s.eng ∧ t.clusters = s.clusters ∧ t.win = s.win ∧
        t.on (F.PAGE_STAT_READY.pg 0x08) = true) ∧
      (s.flash.dir0 = true → s.flash.trial = false → s.flash.slot ≤ 1 → (s.flash.fw s.flash.slot).valid = true →
        s.scn.slots = [⟨none, []⟩, ⟨none, []⟩] → s.on F.DEV_STAT_ENGINE = false → Does (.porNRelease env) s fun t =>
          t.rd F.MB_BOOT_STAGE = 6 ∧ t.on F.DEV_STAT_MGMT_READY = true ∧
          t.on F.DEV_STAT_ENGINE = (!env.bankFail && (env.trained.1 || env.trained.2) && s.sec.state != 4) ∧ t.rd F.BOOT_SRC_SRC = 2 ∧
          t.eng = s.eng ∧ t.flash.sealed = false ∧ t.flash.slot = s.flash.slot)) ∧
    (∀ env, s.on F.DEV_STAT_MGMT_READY = false → s.rd F.MB_RESET_CAUSE = 2 →
      (Does (.resetNRelease env true) s fun t => t = (s.coldReset 2).coldStart env) ∧
      (s.flash.trial = false → s.flash.slot ≤ 1 → (s.flash.fw s.flash.slot).valid = true → s.eng.run = none →
        Does (.resetNRelease env false) s fun t => t.tick = (s.tick + 1) % 2 ^ 64 ∧ t.on F.DEV_STAT_MGMT_READY = true ∧ t.win = s.win ∧
          t.clusters = s.clusters ∧ t.rd F.MB_BOOT_STAGE = 6)) ∧
    (∀ kind : Fin 4, s.on F.HOST_CTRL_RING_OWNER = false → Does (.pcieLinkReset kind) s fun t =>
      t.host.queue = [] ∧ t.host.fails = s.host.fails ∧ t.rd F.AUTH_NONCE = s.rd F.AUTH_NONCE ∧ t.rd F.AUTH_SEQ_OP = s.rd F.AUTH_SEQ_OP ∧
      t.on (F.RING_CTRL_EN.ring 0) = false ∧ t.eng = s.eng ∧ t.clusters = s.clusters ∧ t.win = s.win ∧ t.tick = s.tick) ∧
    (s.flt.pfailSeq = true → exec .pfailNLow s = .next s) ∧
    (s.flt.pfailSeq = false → s.scn.armed = none → s.on F.SCN_STAT_FIX_BUSY = false → s.rd F.FIX_STAT_PHASE = 0 → Does .pfailNLow s fun t =>
      t.flt.pfailSeq = true ∧ t.flash.sealed = true ∧ t.rd F.PF_STAT_STEP = 6 ∧ t.on F.PF_STAT_PFAIL = true ∧ t.scn.arming = none ∧
      t.log.staged = [] ∧ (s.leads = true → t.pair.yieldDue = some 2) ∧ t.win = s.win ∧ t.clusters = s.clusters ∧ t.eng = s.eng) ∧
    (∀ env, s.flt.pfailSeq = false → exec (.pfailRecoveryRestart env) s = .next s) ∧
    (∀ env, s.flt.pfailSeq = true → Does (.pfailRecoveryRestart env) s fun t =>
      t = (s.coldReset 5).coldStart env ∧ t.sec.state = s.sec.state)

/-- R285, R288, R397 to R406, R34: a serial lane's bring-up, one state after the other, its loss, and its figure of merit. An event that its state
does not wait for leaves it as it is. What the marker a bring-up sends holds beside its layout is log entry 59. -/
def Obligations.LaneBringUp : Prop :=
  ∀ (s : State) (lane : Fin 8) (n st : Nat), s.canonical = true → n = lane.val → st = s.rd (F.LANE_STAT_STATE.pg n) →
    (st ≠ 1 → exec (.lanePllLock lane) s = .next s) ∧
    (st = 1 → Does (.lanePllLock lane) s fun t => t.rd (F.LANE_STAT_STATE.pg n) = 2 ∧
      t.out = .lane n (if 6 ≤ n then 7 else 0) :: s.out ∧ s.only [(F.LANE_STAT_STATE.pg n).addr] [.regs, .out] t) ∧
    (st ≠ 2 → exec (.laneSignalDetect lane) s = .next s) ∧
    (st = 2 → Does (.laneSignalDetect lane) s fun t => t.rd (F.LANE_STAT_STATE.pg n) = 3 ∧ t.on (F.LANE_STAT_LOS.pg n) = false ∧
      s.only [(F.LANE_STAT_STATE.pg n).addr] [.regs] t) ∧
    (st ≠ 3 → st ≠ 7 → exec (.laneCdrLock lane) s = .next s) ∧
    (st = 3 → Does (.laneCdrLock lane) s fun t => t.rd (F.LANE_STAT_STATE.pg n) = 4 ∧ t.on (F.LANE_STAT_CDR_LOCK.pg n) = true ∧
      t.net.lanes[lane].attempts = 0 ∧ s.only [(F.LANE_STAT_STATE.pg n).addr] [.regs, .net] t) ∧
    (st = 7 → Does (.laneCdrLock lane) s fun t => t.rd (F.LANE_STAT_STATE.pg n) = 7 ∧ t.on (F.LANE_STAT_CDR_LOCK.pg n) = true ∧
      s.only [(F.LANE_STAT_STATE.pg n).addr] [.regs] t) ∧
    (∀ (eh ew : Byte) (ctle : Fin 16) (dfe : Word),
      (st ≠ 4 → st ≠ 7 → exec (.laneAdaptEnd lane eh ew ctle dfe) s = .next s) ∧
      (st = 4 → Does (.laneAdaptEnd lane eh ew ctle dfe) s fun t =>
        t.rd (F.LANE_STAT_FOM.pg n) = min 255 (2 * eh.toNat * ew.toNat / 64) ∧ t.rd (F.LANE_EYE_EH.pg n) = eh.toNat ∧
        t.rd (F.LANE_EYE_EW.pg n) = ew.toNat % 64 ∧ t.rd (F.LANE_RX_CTLE.pg n) = ctle.val ∧ t.rd (F.LANE_RX_DFE.pg n) = dfe.toNat % 2 ^ 24 ∧
        (s.rd (F.LANE_FOM_CFG_FOM_MIN.pg n) ≤ min 255 (2 * eh.toNat * ew.toNat / 64) → t.rd (F.LANE_STAT_STATE.pg n) = 5 ∧
          s.only [(F.LANE_STAT_STATE.pg n).addr, (F.LANE_EYE_EH.pg n).addr, (F.LANE_RX_CTLE.pg n).addr] [.regs] t) ∧
        (min 255 (2 * eh.toNat * ew.toNat / 64) < s.rd (F.LANE_FOM_CFG_FOM_MIN.pg n) →
          (s.net.lanes[lane].attempts < 2 → t.rd (F.LANE_STAT_STATE.pg n) = 4 ∧ t.net.lanes[lane].attempts = s.net.lanes[lane].attempts + 1) ∧
          (2 ≤ s.net.lanes[lane].attempts → t.rd (F.LANE_STAT_STATE.pg n) = 2 ∧ t.on (F.LANE_STAT_UP.pg n) = false ∧
            t.net.lanes[lane].attempts = 0 ∧ t.rd (F.LANE_TRAIN_CNT.pg n) = (s.rd (F.LANE_TRAIN_CNT.pg n) + 1) % 2 ^ 32 ∧
            (s.quiet (0x78 + n) 2 → s.raised (0x78 + n) 2 t))))) ∧
    (∀ inv, (st ≠ 5 → exec (.laneAlignedEv lane inv) s = .next s) ∧
      (st = 5 → Does (.laneAlignedEv lane inv) s fun t => t.rd (F.LANE_STAT_STATE.pg n) = 6 ∧ t.on (F.LANE_STAT_UP.pg n) = true ∧
        t.on (F.LANE_STAT_ALIGNED.pg n) = true ∧ t.on (F.LANE_STAT_RX_INV_AUTO.pg n) = (inv && decide (6 ≤ n)) ∧
        (4 ≤ n → n < 6 → t.on (F.MAC_STAT_LINK.pg (n - 4)) = true) ∧
        (6 ≤ n → (t.rd F.PB_STAT_LANES_UP).testBit (n - 6) = true ∧ (s.rd F.PB_STAT_STATE ≤ 1 → t.rd F.PB_STAT_STATE = 2) ∧
          ∃ time, t.out = (if s.rd F.PB_STAT_STATE ≤ 1 then [.porbuod (.ctrl s.capability)] else []) ++
            .marker (n - 6) (markerBytes (n - 6) 0 (time % 2 ^ 16)) :: s.out) ∧
        (n < 4 → s.only [(F.LANE_STAT_STATE.pg n).addr] [.regs, .net] t))) ∧
    (st ≠ 1 → st ≠ 3 → st ≠ 4 → st ≠ 5 → exec (.laneStateTimeout lane) s = .next s) ∧
    (st = 1 ∨ st = 3 ∨ st = 4 ∨ st = 5 → Does (.laneStateTimeout lane) s fun t => t.rd (F.LANE_STAT_STATE.pg n) = 2 ∧
      t.on (F.LANE_STAT_UP.pg n) = false ∧ t.rd (F.LANE_TRAIN_CNT.pg n) = (s.rd (F.LANE_TRAIN_CNT.pg n) + 1) % 2 ^ 32 ∧
      s.only [(F.LANE_STAT_STATE.pg n).addr, (F.LANE_TRAIN_CNT.pg n).addr] [.regs] t) ∧
    (∀ cause, (st ≠ 6 → exec (.laneDown lane cause) s = .next s) ∧
      (st = 6 → Does (.laneDown lane cause) s fun t => t.rd (F.LANE_STAT_STATE.pg n) = (if n < 4 then 0 else 2) ∧
        (s.quiet (0x78 + n) 0 → s.raised (0x78 + n) 0 t) ∧ t.on (F.LANE_STAT_UP.pg n) = false ∧
        t.on (F.LANE_STAT_LOS.pg n) = (decide (cause = 0) || s.on (F.LANE_STAT_LOS.pg n)) ∧
        t.rd (F.LANE_LOSS_CNT.pg n) = (s.rd (F.LANE_LOSS_CNT.pg n) + 1) % 2 ^ 32 ∧
        t.rd (F.LANE_CODE_ERR.pg n) = min (2 ^ 32 - 1) (s.rd (F.LANE_CODE_ERR.pg n) + if cause = 2 then 16 else if cause = 3 then 4 else 0) ∧
        (4 ≤ n → n < 6 → t.on (F.MAC_STAT_LINK.pg (n - 4)) = false) ∧
        (6 ≤ n → (t.rd F.PB_STAT_LANES_UP).testBit (n - 6) = false ∧ t.rd F.PB_LANE_LOSS = (s.rd F.PB_LANE_LOSS + 1) % 2 ^ 32))) ∧
    (∀ eh ew, (st ≠ 6 → exec (.lowFom lane eh ew) s = .next s) ∧
      (st = 6 → Does (.lowFom lane eh ew) s fun t => t.rd (F.LANE_STAT_STATE.pg n) = 6 ∧
        t.rd (F.LANE_STAT_FOM.pg n) = min 255 (2 * eh.toNat * ew.toNat / 64) ∧
        (min 255 (2 * eh.toNat * ew.toNat / 64) < s.rd (F.LANE_FOM_CFG_FOM_WARN.pg n) →
          t.net.lanes[lane].low = s.net.lanes[lane].low + 1 ∧ t.net.lanes[lane].high = 0 ∧
          (9 ≤ s.net.lanes[lane].low → s.quiet (0x78 + n) 1 → s.raised (0x78 + n) 1 t) ∧
          (s.net.lanes[lane].low < 9 → s.only [(F.LANE_STAT_FOM.pg n).addr, (F.LANE_EYE_EH.pg n).addr] [.regs, .net] t)) ∧
        (s.rd (F.LANE_FOM_CFG_FOM_WARN.pg n) ≤ min 255 (2 * eh.toNat * ew.toNat / 64) →
          t.net.lanes[lane].low = 0 ∧ t.net.lanes[lane].high = s.net.lanes[lane].high + 1 ∧
          (9 ≤ s.net.lanes[lane].high → s.broken (0x78 + n) 1 = false → t.raw (0x78 + n) 1 = false)))) ∧
    (∀ (speed width : Fin 8), (speed = 0 ∨ 4 < speed.val ∨ (width ≠ 1 ∧ width ≠ 2 ∧ width ≠ 4) → exec (.pcieLinkUp speed width) s = .next s) ∧
      (1 ≤ speed.val → speed.val ≤ 4 → width = 1 ∨ width = 2 ∨ width = 4 →
        (∀ k : Fin 4, s.rd (F.LANE_TEST_LOOP.pg k.val) = 0 ∧ s.rd (F.LANE_TEST_TX_PAT.pg k.val) = 0 ∧ s.rd (F.LANE_TEST_RX_PAT.pg k.val) = 0) →
        Does (.pcieLinkUp speed width) s fun t => t.on F.HOST_STAT_LINK_UP = true ∧ t.rd F.HOST_STAT_SPEED = speed.val ∧
          t.rd F.HOST_STAT_WIDTH = width.val ∧
          (∀ k : Fin 4, t.rd (F.LANE_STAT_STATE.pg k.val) = 6 ∧ t.on (F.LANE_STAT_UP.pg k.val) = decide (k.val < width.val)) ∧
          s.only (F.HOST_STAT_LINK_UP.addr :: (List.range 4).map fun k => (F.LANE_STAT_STATE.pg k).addr) [.regs] t))

/-- R286, R406 to R411: the lanes' tests, refused on a lane in use; injected errors; the checker; and a deskew marker on the Porbuod link (log entry 59). -/
def Obligations.LaneTests : Prop :=
  ∀ (s : State) (lane : Fin 8) (n : Nat), s.canonical = true → n = lane.val →
    (s.takes (F.LANE_TEST_LOOP.pg n).addr = true →
      (∀ mode : Fin 8, mode.val ≤ 3 → mode ≠ 0 → s.laneInUse n = false → Does (.laneLoopback lane mode) s fun t =>
        t.rd (F.LANE_TEST_LOOP.pg n) = mode.val ∧ t.rd (F.LANE_STAT_RATE.pg n) = t.rd (F.LANE_TEST_TEST_RATE.pg n) ∧ t.rd (F.LANE_TEST_TX_PAT.pg n) = s.rd (F.LANE_TEST_TX_PAT.pg n) ∧
        t.rd (F.LANE_TEST_RX_PAT.pg n) = s.rd (F.LANE_TEST_RX_PAT.pg n) ∧ t.rd (F.LANE_STAT_STATE.pg n) = 7) ∧
      (∀ pat : Fin 16, pat.val ≤ 8 → pat ≠ 0 → s.laneInUse n = false → Does (.laneTxPattern lane pat) s fun t =>
        t.rd (F.LANE_TEST_TX_PAT.pg n) = pat.val ∧ t.rd (F.LANE_TEST_LOOP.pg n) = s.rd (F.LANE_TEST_LOOP.pg n) ∧
        t.rd (F.LANE_STAT_STATE.pg n) = 7 ∧ t.out = .lane n pat.val :: s.out) ∧
      (∀ pat : Fin 16, pat.val ≤ 6 → pat ≠ 0 → s.laneInUse n = false → Does (.laneRxChecker lane pat) s fun t =>
        t.rd (F.LANE_TEST_RX_PAT.pg n) = pat.val ∧ t.rd (F.LANE_STAT_STATE.pg n) = 7 ∧ t.rd (F.LANE_PRBS_ERR.pg n) = 0 ∧
        t.rd64 (F.LANE_PRBS_BITS_LO.pg n) (F.LANE_PRBS_BITS_HI.pg n) = 0 ∧ t.rd (F.LANE_PRBS_STAT_RESYNC.pg n) = 0 ∧
        t.on (F.LANE_PRBS_STAT_SYNC.pg n) = false) ∧
      (∀ (mode : Fin 8) (pat : Fin 16), s.laneInUse n = true → s.quiet (0x78 + n) 3 → mode ≠ 0 → mode.val ≤ 3 → pat ≠ 0 → pat.val ≤ 6 →
        ∀ i ∈ [Instr.laneLoopback lane mode, .laneTxPattern lane pat, .laneRxChecker lane pat],
          Does i s fun t => s.raised (0x78 + n) 3 t ∧ s.only (srcRegs (0x78 + n)) [.regs, .out, .flt, .pair] t)) ∧
    (s.takes (F.LANE_INJ_ONE.pg n).addr = true →
      (s.rd (F.LANE_TEST_TX_PAT.pg n) = 0 → Does (.laneInjOne lane) s fun t => t.rd (F.LANE_INJ_CNT.pg n) = s.rd (F.LANE_INJ_CNT.pg n) ∧
        t.rd (F.LANE_PRBS_ERR.pg n) = s.rd (F.LANE_PRBS_ERR.pg n)) ∧
      (s.rd (F.LANE_TEST_TX_PAT.pg n) ≠ 0 → Does (.laneInjOne lane) s fun t =>
        t.rd (F.LANE_INJ_CNT.pg n) = (s.rd (F.LANE_INJ_CNT.pg n) + 1) % 2 ^ 32)) ∧
    (s.rd (F.LANE_INJ_RATE.pg n) = 0 ∨ s.rd (F.LANE_TEST_TX_PAT.pg n) = 0 → exec (.laneInjPeriodic lane) s = .next s) ∧
    (s.rd (F.LANE_INJ_RATE.pg n) ≠ 0 → s.rd (F.LANE_TEST_TX_PAT.pg n) ≠ 0 → Does (.laneInjPeriodic lane) s fun t =>
      t.rd (F.LANE_INJ_CNT.pg n) = (s.rd (F.LANE_INJ_CNT.pg n) + 1) % 2 ^ 32 ∧
      ((s.rd (F.LANE_TEST_LOOP.pg n) = 1 ∨ s.rd (F.LANE_TEST_LOOP.pg n) = 2) → s.on (F.LANE_PRBS_STAT_SYNC.pg n) = true →
        s.rd (F.LANE_TEST_RX_PAT.pg n) = s.rd (F.LANE_TEST_TX_PAT.pg n) →
        t.rd (F.LANE_PRBS_ERR.pg n) = min (2 ^ 32 - 1) (s.rd (F.LANE_PRBS_ERR.pg n) + 1)) ∧
      s.only [(F.LANE_INJ_CNT.pg n).addr, (F.LANE_PRBS_ERR.pg n).addr] [.regs] t) ∧
    (∀ sync bits errs, (s.rd (F.LANE_TEST_RX_PAT.pg n) = 0 → exec (.prbsCheckerSync lane sync bits errs) s = .next s) ∧
      (s.rd (F.LANE_TEST_RX_PAT.pg n) ≠ 0 → Does (.prbsCheckerSync lane sync bits errs) s fun t =>
        t.on (F.LANE_PRBS_STAT_SYNC.pg n) = sync ∧
        t.rd (F.LANE_PRBS_STAT_RESYNC.pg n) = (if sync then s.rd (F.LANE_PRBS_STAT_RESYNC.pg n)
          else min (2 ^ 16 - 1) (s.rd (F.LANE_PRBS_STAT_RESYNC.pg n) + 1)) ∧
        t.rd (F.LANE_PRBS_ERR.pg n) = (if s.on (F.LANE_PRBS_STAT_SYNC.pg n) then min (2 ^ 32 - 1) (s.rd (F.LANE_PRBS_ERR.pg n) + errs)
          else s.rd (F.LANE_PRBS_ERR.pg n)) ∧
        t.rd64 (F.LANE_PRBS_BITS_LO.pg n) (F.LANE_PRBS_BITS_HI.pg n) = (if s.on (F.LANE_PRBS_STAT_SYNC.pg n)
          then (s.rd64 (F.LANE_PRBS_BITS_LO.pg n) (F.LANE_PRBS_BITS_HI.pg n) + bits) % 2 ^ 48
          else s.rd64 (F.LANE_PRBS_BITS_LO.pg n) (F.LANE_PRBS_BITS_HI.pg n)) ∧
        s.only [(F.LANE_PRBS_STAT_SYNC.pg n).addr, (F.LANE_PRBS_ERR.pg n).addr, (F.LANE_PRBS_BITS_LO.pg n).addr,
          (F.LANE_PRBS_BITS_HI.pg n).addr] [.regs] t)) ∧
    (∀ (k : Fin 2) m (skew : BitVec 8) was, was = (s.net.lanes[Fin.ofNat 8 (6 + k.val)]).marker →
      ((s.rd F.PB_STAT_LANES_UP).testBit k.val = false → exec (.deskewMarkerRx k m skew) s = .next s) ∧
      ((s.rd F.PB_STAT_LANES_UP).testBit k.val = true →
        (∀ (c : BitVec 24) (time : BitVec 16), m = some (markerBytes k.val c.toNat time.toNat) → was = none ∨ was = some c.toNat → skew.toNat ≤ 64 →
          Does (.deskewMarkerRx k m skew) s fun t =>
            t.rd (F.PB_LANE0_STAT_SKEW.ix k.val) = skew.toNat ∧ t.on (F.PB_LANE0_STAT_DESKEW_OK.ix k.val) = true ∧
            (t.net.lanes[Fin.ofNat 8 (6 + k.val)]).marker = some ((c.toNat + 1) % 2 ^ 24) ∧
            s.only [(F.PB_LANE0_STAT_SKEW.ix k.val).addr] [.regs, .net] t) ∧
        (64 < skew.toNat → s.quiet 0x81 3 → Does (.deskewMarkerRx k m skew) s fun t =>
          t.rd (F.PB_LANE0_STAT_SKEW.ix k.val) = skew.toNat ∧ t.on (F.PB_LANE0_STAT_DESKEW_OK.ix k.val) = false ∧ s.raised 0x81 3 t) ∧
        (∀ (c e : BitVec 24) (time : BitVec 16), m = none ∨ m = some (markerBytes k.val c.toNat time.toNat) ∧ was = some e.toNat ∧ e ≠ c →
          skew.toNat ≤ 64 → Does (.deskewMarkerRx k m skew) s fun t => t.on (F.PB_LANE0_STAT_DESKEW_OK.ix k.val) = false ∧
            s.only [(F.PB_LANE0_STAT_SKEW.ix k.val).addr] [.regs, .net] t)))

/-- R376 to R381, R385: the reference selector. A measurement within its window makes a slot usable, one beyond it disqualifies the slot; a slot that
stayed steady is qualified, and alone it is selected; a lost selected slot is left for the next qualified one or for HOLDOVER; a better rank
is taken after REVERT_S. -/
def Obligations.ReferenceSelector : Prop :=
  ∀ (s : State) (i : Fin 8), s.canonical = true →
    (∀ ofs : BitVec 16, (s.candOn i.val = false ∨ s.srcUsable (s.candSrc i.val) = false → exec (.candidateMeasurement i ofs) s = .next s) ∧
      (s.candOn i.val = true → s.srcUsable (s.candSrc i.val) = true → Does (.candidateMeasurement i ofs) s fun t =>
        t.rdS (F.REF_MEAS_OFS_X16.ix i.val) = ofs.toInt ∧ t.on (F.REF_MEAS_VALID.ix i.val) = true ∧ t.clk.cands[i].usable = true ∧
        (ofs.toInt.natAbs ≤ 16 * s.rd (F.REF_CAND_WIN.ix i.val) → t.on (F.REF_MEAS_USABLE.ix i.val) = true ∧ t.qual i.val = s.qual i.val ∧
          t.clk.cands[i].steady = decide (ofs.toInt.natAbs + 16 * s.rd (F.REF_CAND_HYST.ix i.val) ≤ 16 * s.rd (F.REF_CAND_WIN.ix i.val)) ∧
          t.clk.toSwitch = s.clk.toSwitch) ∧
        (16 * s.rd (F.REF_CAND_WIN.ix i.val) < ofs.toInt.natAbs → t.qual i.val = false ∧ t.clk.cands[i].steady = false ∧
          (s.qual i.val = true → t.rd (F.REF_DISQ_CNT.ix i.val) = (s.rd (F.REF_DISQ_CNT.ix i.val) + 1) % 2 ^ 32 ∧
            (s.rd F.REF_STAT_SEL = i.val → t.clk.toSwitch = some 2 ∧ (s.quiet 0x70 0 → s.raised 0x70 0 t)) ∧
            (s.rd F.REF_STAT_SEL ≠ i.val → t.clk.toSwitch = s.clk.toSwitch))) ∧
        t.rd F.REF_STAT_SEL = s.rd F.REF_STAT_SEL)) ∧
    (s.candOn i.val = false ∨ s.clk.cands[i].usable = false ∨ s.clk.cands[i].steady = false ∨ s.qual i.val = true →
      exec (.candidateQualified i) s = .next s) ∧
    (s.candOn i.val = true → s.clk.cands[i] = ⟨true, true⟩ → s.qual i.val = false → i ≠ 7 →
      (s.rd F.REF_STAT_SEL = 8 → s.clk.toSwitch = none → s.isStandby = false → (∀ j : Fin 8, s.qual j.val = false) →
        s.rd F.REF_STAT_STATE ≠ 2 → s.rd F.REF_STAT_STATE ≠ 4 → Does (.candidateQualified i) s fun t =>
          t.qual i.val = true ∧ t.rd F.REF_STAT_SEL = i.val ∧ t.rd F.REF_LAST_TO = i.val ∧ t.rd F.REF_LAST_FROM = 8 ∧ t.rd F.REF_STAT_STATE = 1 ∧
          t.rd F.REF_SWITCH_CNT = (s.rd F.REF_SWITCH_CNT + 1) % 2 ^ 32 ∧ t.rd F.REF_PD = 0 ∧ t.rd F.REF_NCO = s.rd F.REF_NCO) ∧
      (s.rd F.REF_STAT_SEL ≠ 8 → s.rd F.REF_STAT_STATE ≠ 0 → s.rd F.REF_STAT_STATE ≠ 3 → Does (.candidateQualified i) s fun t =>
        t.qual i.val = true ∧ t.on (F.REF_MEAS_QUALIFIED.ix i.val) = true ∧
        s.only [F.REF_QUAL_QUALIFIED.addr, (F.REF_MEAS_QUALIFIED.ix i.val).addr] [.regs] t)) ∧
    (s.clk.cands[i].usable = false → exec (.candidateUnusable i) s = .next s) ∧
    (s.clk.cands[i].usable = true → Does (.candidateUnusable i) s fun t => t.clk.cands[i] = ⟨false, false⟩ ∧ t.qual i.val = false ∧
      t.on (F.REF_MEAS_USABLE.ix i.val) = false ∧ (s.qual i.val = true → s.rd F.REF_STAT_SEL = i.val →
        t.clk.toSwitch = some (if 5 ≤ s.candSrc i.val ∧ s.candSrc i.val ≤ 8 then 3 else 1) ∧ (s.quiet 0x70 0 → s.raised 0x70 0 t)) ∧
      s.only ([F.REF_QUAL_QUALIFIED.addr, (F.REF_MEAS_QUALIFIED.ix i.val).addr, (F.REF_DISQ_CNT.ix i.val).addr] ++ srcRegs 0x70)
        [.regs, .flt, .clk] t) ∧
    (s.clk.toSwitch = none → exec .referenceSwitch s = .next s) ∧
    (∀ c, s.clk.toSwitch = some c → c < 16 →
      (s.bestCand = none → s.rd F.REF_STAT_STATE = 1 ∨ s.rd F.REF_STAT_STATE = 2 ∨ s.rd F.REF_STAT_STATE = 3 → Does .referenceSwitch s fun t =>
        t.rd F.REF_STAT_SEL = 8 ∧ t.rd F.REF_LAST_CAUSE = c ∧ t.clk.toSwitch = none ∧ t.rd F.REF_NCO = s.rd F.REF_NCO ∧
        (s.clk.hist.length < 2000 → t.rd F.REF_STAT_STATE = 0) ∧ (2000 ≤ s.clk.hist.length → t.rd F.REF_STAT_STATE = 3)) ∧
      (∀ j, s.bestCand = some j → j < 8 → s.rd F.REF_STAT_STATE = 2 → Does .referenceSwitch s fun t =>
        t.rd F.REF_STAT_SEL = j ∧ t.rd F.REF_LAST_CAUSE = c ∧ t.clk.toSwitch = none ∧ t.on F.REF_STAT_SLEWING = true ∧
        t.rd F.REF_STAT_STATE = 2 ∧ t.rd F.REF_STAT_STEP = s.rd F.REF_STAT_STEP ∧ t.rd F.REF_PD = 0 ∧ t.rd F.REF_NCO = s.rd F.REF_NCO ∧
        t.rd F.REF_SWITCH_CNT = (s.rd F.REF_SWITCH_CNT + 1) % 2 ^ 32)) ∧
    (s.rd F.REF_CTRL2_REVERT_S = 0 ∨ s.qual i.val = false ∨ s.rd (F.REF_CAND_RANK.ix (s.rd F.REF_STAT_SEL)) ≤ s.rd (F.REF_CAND_RANK.ix i.val) →
      exec (.referenceRevert i) s = .next s) ∧
    (s.rd F.REF_CTRL2_REVERT_S ≠ 0 → s.qual i.val = true → s.candOn i.val = true → s.rd F.REF_STAT_SEL < 7 → s.clk.toSwitch = none →
      s.rd (F.REF_CAND_RANK.ix i.val) < s.rd (F.REF_CAND_RANK.ix (s.rd F.REF_STAT_SEL)) → s.rd F.REF_STAT_STATE = 2 →
      Does (.referenceRevert i) s fun t => t.rd F.REF_STAT_SEL = i.val ∧ t.rd F.REF_LAST_CAUSE = 5 ∧ t.on F.REF_STAT_SLEWING = true ∧
        t.rd F.REF_STAT_STATE = 2 ∧ t.rd F.REF_NCO = s.rd F.REF_NCO)

/-- R374, R382 to R386, R388, R389, R518: the DPLL's states, the NCO word and its limits, steering in OPEN, the frame outputs and the tick match. -/
def Obligations.MediaClock : Prop :=
  ∀ (s : State), s.canonical = true →
    (s.on F.REF_STAT_SLEWING = false ∨ s.rd F.REF_STAT_STATE ≠ 2 → exec .dpllSlewEnd s = .next s) ∧
    (s.on F.REF_STAT_SLEWING = true → s.rd F.REF_STAT_STATE = 2 → Does .dpllSlewEnd s fun t =>
      t.on F.REF_STAT_SLEWING = false ∧ t.rd F.REF_STAT_STATE = 2 ∧ t.rd F.REF_STAT_STEP = 1 ∧ t.rd F.REF_PD = 0 ∧ t.rd F.REF_NCO = s.rd F.REF_NCO) ∧
    (s.rd F.REF_STAT_STATE ≠ 1 → exec .dpllLock s = .next s) ∧
    (s.rd F.REF_STAT_STATE = 1 → Does .dpllLock s fun t => t.rd F.REF_STAT_STATE = 2 ∧ t.rd F.REF_STAT_STEP = 1 ∧
      t.on F.REF_STAT_SLEWING = false ∧ t.clk.wasLocked = true ∧ s.only (F.REF_STAT_STATE.addr :: srcRegs 0x70) [.regs, .flt, .clk] t) ∧
    (∀ ok, (s.rd F.REF_STAT_STATE ≠ 2 ∨ s.on F.REF_STAT_SLEWING = true ∨ ok = false → exec (.dpllLockStep ok) s = .next s) ∧
      (s.onPps = true → exec (.dpllLockStep ok) s = .next s) ∧
      (s.rd F.REF_STAT_STATE = 2 → s.on F.REF_STAT_SLEWING = false → s.onPps = false → Does (.dpllLockStep true) s fun t =>
        t.rd F.REF_STAT_STEP = min 4 (s.rd F.REF_STAT_STEP + 1) ∧ t.rd F.REF_STAT_STATE = 2 ∧ s.only [F.REF_STAT_STEP.addr] [.regs] t)) ∧
    (s.rd F.REF_STAT_STATE ≠ 2 ∨ s.on F.REF_STAT_SLEWING = true → exec .dpllPhaseAlarm s = .next s) ∧
    (s.rd F.REF_STAT_STATE = 2 → s.on F.REF_STAT_SLEWING = false → Does .dpllPhaseAlarm s fun t =>
      t.rd F.REF_STAT_STATE = 1 ∧ t.rd F.REF_STAT_STEP = 0 ∧ t.rd F.REF_PD = 0 ∧ t.rd F.REF_NCO = s.rd F.REF_NCO) ∧
    (∀ (loop : Word) (cur most : Int), cur = s.rdS F.REF_NCO → most = s.rd F.REF_CTRL1_SLEW * 2 ^ 40 / 10 ^ 10 →
      cur.natAbs ≤ 659706977 → Does (.ncoUpdate loop none) s fun t =>
        (s.rd F.REF_STAT_STATE ≠ 4 → (t.rdS F.REF_NCO).natAbs ≤ 659706977 ∧ (t.rdS F.REF_NCO - cur).natAbs ≤ most.natAbs) ∧
        (s.rd F.REF_STAT_STATE ≠ 4 → s.clk.toSwitch ≠ none → t.rdS F.REF_NCO = cur) ∧
        (s.rd F.REF_STAT_STATE = 1 ∨ s.rd F.REF_STAT_STATE = 2 → s.clk.toSwitch = none → loop.toInt.natAbs ≤ 659706977 →
          (loop.toInt - cur).natAbs ≤ most.natAbs → t.rdS F.REF_NCO = loop.toInt) ∧
        (s.rd F.REF_STAT_STATE = 3 → s.clk.toSwitch = none → (s.rdS F.REF_HOLD).natAbs ≤ 659706977 →
          (s.rdS F.REF_HOLD - cur).natAbs ≤ most.natAbs → t.rdS F.REF_NCO = s.rdS F.REF_HOLD) ∧
        (s.rd F.REF_STAT_STATE = 4 → ∀ w, s.clk.written = some w → w.natAbs ≤ 659706977 → t.rdS F.REF_NCO = w) ∧
        (s.rd F.REF_STAT_STATE = 2 → ∃ w, t.clk.hist = (w :: s.clk.hist).take 65000) ∧
        s.only [F.REF_NCO.addr, F.REF_STAT_HOLD_VALID.addr] [.regs, .clk] t) ∧
    (∀ (loop pd : Word), s.rd F.REF_STAT_SEL < 8 → s.on F.REF_STAT_SLEWING = false → Does (.ncoUpdate loop (some pd)) s fun t =>
      t.reg F.REF_PD.addr = pd ∧ t.rd F.REF_PD_SEQ = (s.rd F.REF_PD_SEQ + 1) % 2 ^ 32) ∧
    (s.takes F.REF_CTRL_OPEN.addr = true → s.enabled 0x70 = true →
      (s.rd F.REF_STAT_STATE ≠ 4 → Does (.refOpen true) s fun t => t.on F.REF_CTRL_OPEN = true ∧ t.rd F.REF_STAT_STATE = 4 ∧
        t.clk.written = none ∧ t.rd F.REF_NCO = s.rd F.REF_NCO) ∧
      (s.rd F.REF_STAT_STATE = 4 → (∀ j, s.bestCand = some j → j < 8 → Does (.refOpen false) s fun t =>
          t.on F.REF_CTRL_OPEN = false ∧ t.rd F.REF_STAT_STATE = 1 ∧ t.rd F.REF_STAT_SEL = j ∧ t.rd F.REF_PD = 0) ∧
        (s.bestCand = none → s.clk.written = none → Does (.refOpen false) s fun t => t.on F.REF_CTRL_OPEN = false ∧
          t.rd F.REF_STAT_STATE = 3 ∧ t.rd F.REF_HOLD = s.rd F.REF_NCO))) ∧
    (∀ v : Word, s.takes F.REF_NCO.addr = true →
      (s.rd F.REF_STAT_STATE ≠ 4 → exec (.refNcoWrite v) s = .next s) ∧
      (s.rd F.REF_STAT_STATE = 4 → Does (.refNcoWrite v) s fun t => t.clk.written = some (max (-659706977) (min 659706977 v.toInt)) ∧
        s.only [] [.clk] t)) ∧
    (∀ o : Fin 8, s.takes F.ALIGN.addr = true → Does (.align o) s fun t => (∀ k < 3, (t.rd F.ALIGN).testBit k =
      ((s.rd F.ALIGN).testBit k || o.val.testBit k)) ∧ s.only [F.ALIGN.addr] [.regs] t) ∧
    (∀ (o : Fin 3) (ofs : Word), ((s.rd F.ALIGN).testBit o.val = false → exec (.outputRealign o ofs) s = .next s) ∧
      ((s.rd F.ALIGN).testBit o.val = true →
        (o ≠ 2 ∨ s.on (F.TD_STAT_ANCHORED.pg (s.rd F.PPS_CTRL_PPS_TD)) = true → Does (.outputRealign o ofs) s fun t =>
          (t.rd F.ALIGN).testBit o.val = false ∧ (t.rd F.ALIGN_STAT).testBit o.val = false ∧ t.reg (F.WOUT_OFS.ix o.val).addr = ofs ∧
          t.out = .wordClock :: s.out ∧ s.only [F.ALIGN.addr, F.ALIGN_STAT.addr, (F.WOUT_OFS.ix o.val).addr] [.regs, .out] t) ∧
        (o = 2 → s.on (F.TD_STAT_ANCHORED.pg (s.rd F.PPS_CTRL_PPS_TD)) = false → Does (.outputRealign o ofs) s fun t =>
          (t.rd F.ALIGN).testBit 2 = false ∧ (t.rd F.ALIGN_STAT).testBit 2 = true ∧ s.only [F.ALIGN.addr, F.ALIGN_STAT.addr] [.regs] t))) ∧
    (∀ lo : Word, s.takes F.TICK_MATCH_LO.addr = true →
      (s.on F.TICK_STAT_RUNNING = false ∨ s.tick < lo.toNat + 2 ^ 32 * s.rd F.TICK_MATCH_HI → Does (.tickMatchArm lo) s fun t =>
        t.rd F.TICK_MATCH_LO = lo.toNat ∧ t.eng = { s.eng with matchAt := some (lo.toNat + 2 ^ 32 * s.rd F.TICK_MATCH_HI) } ∧
        s.only [F.TICK_MATCH_LO.addr] [.regs, .eng] t) ∧
      (s.on F.TICK_STAT_RUNNING = true → lo.toNat + 2 ^ 32 * s.rd F.TICK_MATCH_HI ≤ s.tick → s.on F.HOST_CTRL_RING_OWNER = false →
        Does (.tickMatchArm lo) s fun t => t.eng = { s.eng with matchAt := none } ∧ t.on F.TICK_STAT_MATCH_LATE = true ∧
          (s.on F.TICK_MATCH_CTRL_EN = true → s.vecMasked (s.rd F.TICK_MATCH_CTRL_VEC) = false →
            t.out = .msix (s.rd F.TICK_MATCH_CTRL_VEC) :: s.out) ∧
          (s.on F.TICK_MATCH_CTRL_EN = false → t.out = s.out)))

/-- R375, R393: the clock monitors and the crossings. A lost clock stops its domains; 10 µs on, a write that waits for a stopped domain is parked,
or discarded behind sixteen; once the clock is back, the parked write takes effect. -/
def Obligations.ClockLosses : Prop :=
  ∀ (s : State), s.canonical = true →
    (∀ (k : Fin 6) src, src = (if k = 0 then 0 else if k.val ≤ 3 then 1 else if k = 4 then 2 else 3) → s.quiet 0x72 src →
      (Does (.clockLoss k false) s fun t => (t.rd F.CG_MON).testBit k.val = false ∧ s.raised 0x72 src t ∧
        t.rd F.CG_LOSS_CNT = (s.rd F.CG_LOSS_CNT + 1) % 2 ^ 32 ∧ (∀ d, d ∈ t.clk.stopped ↔ d ∈ s.clk.stopped ∨ d ∈ clockDomains k.val) ∧
        s.only ([F.CG_MON.addr, F.CG_LOSS_CNT.addr] ++ srcRegs 0x72) [.regs, .flt, .clk] t) ∧
      (k ≠ 0 → Does (.clockLoss k true) s fun t =>
        (t.rd F.CG_STAT_LOCK).testBit (if k = 4 then 1 else if k = 5 then 2 else 0) = false ∧ t.rd F.CG_MON = s.rd F.CG_MON ∧
        s.raised 0x72 src t ∧ (∀ d, d ∈ t.clk.stopped ↔ d ∈ s.clk.stopped ∨ d ∈ clockDomains k.val))) ∧
    (∀ k : Fin 6, s.quiet 0x72 (if k = 0 then 0 else 4) → Does (.clkFreq k) s fun t =>
      s.raised 0x72 (if k = 0 then 0 else 4) t ∧ s.only (srcRegs 0x72) [.regs, .flt] t) ∧
    (∀ d : Fin 21, (s.domainStopped d.val = false → exec (.cdcTimeout d) s = .next s) ∧
      (s.domainStopped d.val = true → ∀ a w, s.clk.waiting = [(d.val, a, w)] → a < 2 ^ 20 →
        ((s.clk.parked.filter fun y => y.1 == d.val).length < 16 → s.quiet 0x72 5 → Does (.cdcTimeout d) s fun t =>
          t.clk = { s.clk with waiting := [], parked := s.clk.parked ++ [(d.val, a, w)] } ∧ t.rd F.CDC_LAST_PAGE = a / 4096 ∧
          t.rd F.CDC_LAST_OFFSET = a % 4096 ∧ t.rd F.CDC_PARK_CNT = (s.rd F.CDC_PARK_CNT + 1) % 2 ^ 32 ∧ s.raised 0x72 5 t ∧
          (t.rd (if d.val < 16 then F.CDC_STAT_CLUSTER else F.CDC_STAT_OTHER)).testBit (d.val % 16) = true) ∧
        (16 ≤ (s.clk.parked.filter fun y => y.1 == d.val).length → s.quiet 0x72 6 → Does (.cdcTimeout d) s fun t =>
          t.clk = { s.clk with waiting := [] } ∧ t.rd F.CDC_DISCARD = (s.rd F.CDC_DISCARD + 1) % 2 ^ 32 ∧ s.raised 0x72 6 t))) ∧
    (∀ d : Fin 21, (d.val < 16 → 16 ∉ s.clk.stopped ∧ s.rd (F.PWR_STATE_CUR.pg (0x10 + d.val)) = 0) →
      ((s.clk.parked.filter fun x => x.1 == d.val) = [] → (s.clk.waiting.filter fun x => x.1 == d.val) = [] → Does (.cdcClockReturn d) s fun t =>
        t.clk = { s.clk with stopped := s.clk.stopped.filter (· != d.val) } ∧
        (t.rd (if d.val < 16 then F.CDC_STAT_CLUSTER else F.CDC_STAT_OTHER)).testBit (d.val % 16) = false ∧
        (16 ≤ d.val → (t.rd F.CG_MON).testBit (if d.val = 16 then 1 else if d.val = 17 then 2 else if d.val = 18 then 4 else 5) = true)) ∧
      (∀ a w, s.clk.parked = [(d.val, a, w)] → s.clk.waiting = [] → Does (.cdcClockReturn d) s fun t => ∃ u : State, t = u.takeReg a w ∧
        u.clk = { s.clk with stopped := s.clk.stopped.filter (· != d.val), parked := [] } ∧
        s.regsBut ([F.CDC_STAT_CLUSTER.addr, F.CG_MON.addr, F.CG_STAT_LOCK.addr] ++ srcRegs 0x72) u))

/-- R343 to R350, R370: the media MACs. A received frame is counted and goes where its body says, once if PRP carries it twice; a pause stops the
transmitter; a frame that starts leaves its queue, and its underrun raises the threshold; a collision backs off, is dropped as excessive, or
ends the frame when it is late. -/
def Obligations.MediaMacs : Prop :=
  ∀ (s : State) (m : Fin 3) (n : Nat), s.canonical = true → n = m.val →
    (∀ f, s.enabled (0x60 + n) = false → exec (.macFrameRx m f) s = .next s) ∧
    (∀ f, s.enabled (0x60 + n) = true → f.fcsOk = false → s.quiet (0x60 + n) 3 → Does (.macFrameRx m f) s fun t =>
      t.rd (F.MAC_RX_FCS.pg n) = (s.rd (F.MAC_RX_FCS.pg n) + 1) % 2 ^ 32 ∧ s.raised (0x60 + n) 3 t ∧
      s.only ((F.MAC_RX_FCS.pg n).addr :: srcRegs (0x60 + n)) [.regs, .flt] t) ∧
    (∀ f v, s.enabled (0x60 + n) = true → f.fcsOk = true → f.vid = some v → v ≠ 0 → v.toNat ≠ s.rd (F.MAC_VLAN.pg n) →
      Does (.macFrameRx m f) s fun t => t.rd (F.MAC_RX_FRAMES.pg n) = (s.rd (F.MAC_RX_FRAMES.pg n) + 1) % 2 ^ 32 ∧
        t.rd (F.MAC_RX_DROP.pg n) = (s.rd (F.MAC_RX_DROP.pg n) + 1) % 2 ^ 32 ∧
        s.only [(F.MAC_RX_FRAMES.pg n).addr, (F.MAC_RX_DROP.pg n).addr] [.regs] t) ∧
    (∀ f, s.enabled (0x60 + n) = true → f.fcsOk = true → f.vid = none → f.rct = none →
      (f.body = .other → Does (.macFrameRx m f) s fun t => t.rd (F.MAC_RX_DROP.pg n) = (s.rd (F.MAC_RX_DROP.pg n) + 1) % 2 ^ 32 ∧
        s.only [(F.MAC_RX_FRAMES.pg n).addr, (F.MAC_RX_DROP.pg n).addr] [.regs] t) ∧
      (∀ q, f.body = .pause q → Does (.macFrameRx m f) s fun t => t.rd (F.MAC_PAUSE_RX.pg n) = (s.rd (F.MAC_PAUSE_RX.pg n) + 1) % 2 ^ 32 ∧
        t.on (F.MAC_STAT_PAUSED.pg n) = (if s.on (F.MAC_CTRL_PAUSE_EN.pg n) ∧ s.halfDuplex n = false then q != 0
          else s.on (F.MAC_STAT_PAUSED.pg n)) ∧
        s.only [(F.MAC_RX_FRAMES.pg n).addr, (F.MAC_PAUSE_RX.pg n).addr, (F.MAC_STAT_PAUSED.pg n).addr] [.regs] t) ∧
      (∀ p, f.body = .ptp p → Does (.macFrameRx m f) s fun t => t.net = { s.net with ptpIn := s.net.ptpIn ++ [(n, p, s.rxStamp m)] } ∧
        s.only [(F.MAC_RX_FRAMES.pg n).addr] [.regs, .net] t) ∧
      (∀ p, f.body = .rtp p → n < 2 → (∃ k ∈ s.rxStreams, s.forStream k p = true) → Does (.macFrameRx m f) s fun t =>
        t.net = { s.net with rtpIn := s.net.rtpIn ++ [p] } ∧ s.only [(F.MAC_RX_FRAMES.pg n).addr] [.regs, .net] t) ∧
      (∀ p, f.body = .rtp p → n = 2 ∨ (∀ k ∈ s.rxStreams, s.forStream k p = false) → Does (.macFrameRx m f) s fun t =>
        t.rd (F.MAC_RX_DROP.pg n) = (s.rd (F.MAC_RX_DROP.pg n) + 1) % 2 ^ 32 ∧ t.net = s.net) ∧
      (∀ ip sender mac, f.body = .arpRequest ip sender mac → ip ≠ sender → ip.toNat = s.rd F.NET_IP → n < 2 → s.on F.NET_CTRL_PRP_EN = false →
        Does (.macFrameRx m f) s fun t => t.net.macs[(0 : Fin 3)].queue = s.net.macs[(0 : Fin 3)].queue ++ [⟨mac.toNat, none, .arpReply sender⟩])) ∧
    (∀ f r k p, n < 2 → s.on F.NET_CTRL_PRP_EN = true → s.enabled (0x60 + n) = true → f.fcsOk = true → f.vid = none → f.rct = some r →
      f.body = .rtp p → r.1.val = 10 + n → (s.net.seen.find? fun x => x.node == f.src.toNat && x.seq == r.2.toNat && x.port != n) = some k →
      Does (.macFrameRx m f) s fun t => t.rd F.PRP_DUP = (s.rd F.PRP_DUP + 1) % 2 ^ 32 ∧ t.net.rtpIn = s.net.rtpIn) ∧
    (Does (.pauseExpiry m) s fun t => t.on (F.MAC_STAT_PAUSED.pg n) = false ∧ s.only [(F.MAC_STAT_PAUSED.pg n).addr] [.regs] t) ∧
    (∀ under, s.net.macs[m].queue = [] ∨ s.enabled (0x60 + n) = false ∨ s.on (F.MAC_STAT_LINK.pg n) = false ∨ s.on (F.MAC_STAT_PAUSED.pg n) = true ∨
      s.net.macs[m].backoff = true → exec (.macFrameTx m under) s = .next s) ∧
    (∀ f rest, s.net.macs[m].queue = f :: rest → s.enabled (0x60 + n) = true → s.on (F.MAC_STAT_LINK.pg n) = true →
      s.on (F.MAC_STAT_PAUSED.pg n) = false → s.net.macs[m].backoff = false → (∀ d k x, f.body ≠ .ptp d k x) →
      (Does (.macFrameTx m false) s fun t => t.out = .frame n f :: s.out ∧ t.net.macs[m].queue = rest ∧
        t.rd (F.MAC_TX_FRAMES.pg n) = (s.rd (F.MAC_TX_FRAMES.pg n) + 1) % 2 ^ 32 ∧ s.only [(F.MAC_TX_FRAMES.pg n).addr] [.regs, .out, .net] t) ∧
      (s.on (F.MAC_TXTHR_SAF.pg n) = false → s.quiet (0x60 + n) 1 → Does (.macFrameTx m true) s fun t =>
        t.out = .badFcs n f :: s.out ∧ t.net.macs[m].queue = rest ∧
        t.rd (F.MAC_TX_UNDERRUN.pg n) = (s.rd (F.MAC_TX_UNDERRUN.pg n) + 1) % 2 ^ 32 ∧
        t.rd (F.MAC_TXTHR_THRESH.pg n) = min (s.maxFrame n) (s.rd (F.MAC_TXTHR_THRESH.pg n) + 64) ∧
        t.on (F.MAC_TXTHR_SAF.pg n) = decide (s.maxFrame n ≤ s.rd (F.MAC_TXTHR_THRESH.pg n) + 64) ∧ s.raised (0x60 + n) 1 t)) ∧
    (∀ late, s.net.macs[(2 : Fin 3)].cur = none → exec (.collision late) s = .next s) ∧
    (∀ x f, s.net.macs[(2 : Fin 3)] = x → x.cur = some f →
      (s.quiet 0x62 2 → Does (.collision true) s fun t => t.net.macs[(2 : Fin 3)] = { x with cur := none, queue := s.retracted f x.queue, attempts := 0 } ∧
        t.rd (F.MAC_COLL_LATE.pg 2) = min (2 ^ 16 - 1) (s.rd (F.MAC_COLL_LATE.pg 2) + 1) ∧ t.out = .jam 2 :: s.out ∧ s.raised 0x62 2 t) ∧
      (x.attempts < 15 → Does (.collision false) s fun t =>
        t.net.macs[(2 : Fin 3)] = { x with cur := none, queue := f :: s.retracted f x.queue, attempts := x.attempts + 1, backoff := true } ∧
        t.rd (F.MAC_COLL_COLL.pg 2) = min (2 ^ 16 - 1) (s.rd (F.MAC_COLL_COLL.pg 2) + 1) ∧ t.out = .jam 2 :: s.out ∧
        s.only [(F.MAC_TX_FRAMES.pg 2).addr, (F.MAC_COLL_COLL.pg 2).addr] [.regs, .out, .net] t) ∧
      (15 ≤ x.attempts → Does (.collision false) s fun t => t.net.macs[(2 : Fin 3)] = { x with cur := none, queue := s.retracted f x.queue, attempts := 0 } ∧
        t.rd (F.MAC_EXCESS_COLL.pg 2) = (s.rd (F.MAC_EXCESS_COLL.pg 2) + 1) % 2 ^ 32)) ∧
    (Does .backoffExpiry s fun t => t.net.macs[(2 : Fin 3)] = { s.net.macs[(2 : Fin 3)] with backoff := false } ∧
      t.net.macs[(0 : Fin 3)] = s.net.macs[(0 : Fin 3)] ∧ t.net.macs[(1 : Fin 3)] = s.net.macs[(1 : Fin 3)] ∧ s.only [] [.net] t) ∧
    (Does (.macmLinkChange true) s fun t => t.on (F.MAC_STAT_LINK.pg 2) = true ∧
      t.rd (F.MAC_STAT_SPEED_ACT.pg 2) = s.rd (F.MAC_CTRL_SPEED.pg 2) ∧
      t.on (F.MAC_STAT_FULL.pg 2) = !(s.on (F.MAC_CTRL_HALF.pg 2) && decide (s.rd (F.MAC_CTRL_SPEED.pg 2) < 2)) ∧
      (s.broken 0x62 0 = false → t.raw 0x62 0 = false) ∧
      s.only ((F.MAC_STAT_LINK.pg 2).addr :: srcRegs 0x62) [.regs, .flt] t) ∧
    (s.quiet 0x62 0 → Does (.macmLinkChange false) s fun t => t.on (F.MAC_STAT_LINK.pg 2) = false ∧ s.raised 0x62 0 t ∧ t.raw 0x62 0 = true ∧
      s.only ((F.MAC_STAT_LINK.pg 2).addr :: srcRegs 0x62) [.regs, .flt] t)

/-- R347 to R350: address resolution, and PRP's supervision, ageing and partners. -/
def Obligations.AddressesAndPrp : Prop :=
  ∀ (s : State) (stream : Byte) (n : Nat) (q : List TxFrame), s.canonical = true → n = stream.toNat → q = s.net.macs[(0 : Fin 3)].queue →
    (∀ i ∈ [Instr.arpRetryTimer stream, .arpRefreshTimer stream, .noArp stream], s.on (F.TX_STAT_RUNNING.tx n) = false ∨ s.unicast n = false →
      exec i s = .next s) ∧
    (s.on (F.TX_STAT_RUNNING.tx n) = true → s.unicast n = true → s.on F.NET_CTRL_PRP_EN = false →
      ((s.txOf n).arp = none → Does (.arpRetryTimer stream) s fun t =>
        t.net.macs[(0 : Fin 3)].queue = q ++ [⟨0xFFFFFFFFFFFF, none, .arpRequest (s.reg (F.TX_CFG1.tx n).addr)⟩] ∧ s.only [] [.net] t) ∧
      ((s.txOf n).arp ≠ none → 1 ≤ (s.txOf n).asks → (s.txOf n).asks < 3 → Does (.arpRetryTimer stream) s fun t =>
        t.net.macs[(0 : Fin 3)].queue = q ++ [⟨0xFFFFFFFFFFFF, none, .arpRequest (s.reg (F.TX_CFG1.tx n).addr)⟩] ∧ s.only [] [.net] t) ∧
      ((s.txOf n).arp ≠ none → (s.txOf n).asks = 0 → exec (.arpRetryTimer stream) s = .next s) ∧
      ((s.txOf n).arp ≠ none → 3 ≤ (s.txOf n).asks → Does (.arpRetryTimer stream) s fun t => t.on (F.TX_STAT_ARP_WAIT.tx n) = true ∧
        t.net.macs[(0 : Fin 3)].queue = q ++ [⟨0xFFFFFFFFFFFF, none, .arpRequest (s.reg (F.TX_CFG1.tx n).addr)⟩] ∧
        s.only [(F.TX_STAT_ARP_WAIT.tx n).addr] [.regs, .net] t) ∧
      ((s.txOf n).arp ≠ none → Does (.arpRefreshTimer stream) s fun t =>
        t.net.macs[(0 : Fin 3)].queue = q ++ [⟨0xFFFFFFFFFFFF, none, .arpRequest (s.reg (F.TX_CFG1.tx n).addr)⟩] ∧ s.only [] [.net] t) ∧
      ((s.txOf n).arp = none → exec (.arpRefreshTimer stream) s = .next s)) ∧
    (s.on (F.TX_STAT_RUNNING.tx n) = true → s.unicast n = true →
      ((s.txOf n).arp ≠ none → exec (.noArp stream) s = .next s) ∧
      ((s.txOf n).arp = none → s.quiet 0x64 4 → Does (.noArp stream) s fun t => s.raised 0x64 4 t ∧ s.only (srcRegs 0x64) [.regs, .flt, .net] t)) ∧
    (s.on F.NET_CTRL_PRP_EN = false ∨ s.on F.NET_CTRL_SUPERV = false ∨ s.enabled 0x64 = false → exec .prpSupervisionTimer s = .next s) ∧
    (s.on F.NET_CTRL_PRP_EN = true → s.on F.NET_CTRL_SUPERV = true → s.enabled 0x64 = true → ∀ k, k = Sparse.get 0 s.net.rctSeq 0x01154E000100 →
      Does .prpSupervisionTimer s fun t =>
        t.net.macs[(0 : Fin 3)].queue = q ++ [⟨0x01154E000100, some (0xA, k), .supervision⟩] ∧
        t.net.macs[(1 : Fin 3)].queue = s.net.macs[(1 : Fin 3)].queue ++ [⟨0x01154E000100, some (0xB, k), .supervision⟩] ∧ s.only [] [.net] t) ∧
    (∀ node : BitVec 48, Does (.prpNodeAgeout node) s fun t => t.net.nodes = s.net.nodes.erase node.toNat ∧
      t.rd F.PRP_NODES = (s.net.nodes.erase node.toNat).length % 2 ^ F.PRP_NODES.width ∧ s.only [F.PRP_NODES.addr] [.regs, .net] t) ∧
    (∀ (node : BitVec 48) (seq : BitVec 16),
      ((∀ p ∈ s.net.seen, p.node ≠ node.toNat ∨ p.seq ≠ seq.toNat) → exec (.prpPartnerTimeout node seq) s = .next s) ∧
      (∀ p, s.net.seen = [p] → p.node = node.toNat → p.seq = seq.toNat → Does (.prpPartnerTimeout node seq) s fun t =>
        t.net.seen = [] ∧ t.rd F.PRP_MISS_A = (s.rd F.PRP_MISS_A + if p.both = false ∧ p.port ≠ 0 then 1 else 0) % 2 ^ 32 ∧
        t.rd F.PRP_MISS_B = (s.rd F.PRP_MISS_B + if p.both = false ∧ p.port = 0 then 1 else 0) % 2 ^ 32 ∧
        s.only [F.PRP_MISS_A.addr, F.PRP_MISS_B.addr] [.regs, .net] t)) ∧
    (∀ lan, (s.quiet 0x64 0 → Does (.oneLan lan true) s fun t => t.net = { s.net with missing := some lan } ∧ s.raised 0x64 0 t ∧
        t.raw 0x64 0 = true ∧ s.only (srcRegs 0x64) [.regs, .flt, .net] t) ∧
      Does (.oneLan lan false) s fun t => t.net = { s.net with missing := none } ∧ (s.broken 0x64 0 = false → t.raw 0x64 0 = false) ∧
        s.only (srcRegs 0x64) [.regs, .flt, .net] t)

/-- R351, R352, R354, R357 to R360: the time domains. Their time runs with REFCLK and RATE; a domain in TRACK reacquires on request, and when its
offset stays above 10 µs; the firmware's trust, its steps and rates; an anchor that slips moves four ticks on; the compatibility counter. -/
def Obligations.TimeDomains : Prop :=
  ∀ (s : State) (d : Fin 4) (x : TdSt), s.canonical = true → s.net.td[d] = x →
    (∀ edges, s.reads (F.TD_SEC_HI.pg d.val).addr = true → Does (.tdSecHiRead d edges) s fun t =>
      t.net.td[d] = { x with time := (x.time + (10 * (2 ^ 40 + s.rdS (F.TD_RATE.pg d.val))).toNat * edges) % timeWrap } ∧
      t.rd (F.TD_SEC_HI.pg d.val) = t.net.td[d].time / 2 ^ 40 / 10 ^ 9 / 2 ^ 32 ∧
      t.rd (F.TD_SEC_LO.pg d.val) = t.net.td[d].time / 2 ^ 40 / 10 ^ 9 % 2 ^ 32 ∧ t.rd (F.TD_NS.pg d.val) = t.net.td[d].time / 2 ^ 40 % 10 ^ 9 ∧
      t.net.tdc = (s.net.tdc + edges * s.rd F.TDC_INC) % 2 ^ 88 ∧ t.rdata = t.reg (F.TD_SEC_HI.pg d.val).addr :: s.rdata ∧
      (∀ u : State, u.caps = t.caps → u.readWord (F.TD_SEC_LO.pg d.val).addr = t.reg (F.TD_SEC_LO.pg d.val).addr ∧
        u.readWord (F.TD_NS.pg d.val).addr = t.reg (F.TD_NS.pg d.val).addr)) ∧
    (s.takes (F.TD_CTRL_REACQUIRE.pg d.val).addr = true →
      (s.rd (F.TD_STAT_STATE.pg d.val) = 1 → Does (.reacquire d) s fun t => t.rd (F.TD_STAT_STATE.pg d.val) = 2 ∧
        t.on (F.TD_STAT_LOCKED.pg d.val) = false ∧ t.net.td[d].trusted = false ∧ t.net.td[d].time = x.time ∧
        (s.enabled (0x68 + d.val) = true → t.raw (0x68 + d.val) 0 = true)) ∧
      (s.rd (F.TD_STAT_STATE.pg d.val) ≠ 1 → Does (.reacquire d) s fun t =>
        t.rd (F.TD_STAT_STATE.pg d.val) = s.rd (F.TD_STAT_STATE.pg d.val) ∧ t.net = s.net)) ∧
    (s.takes F.TDC_CTRL.addr = true → Does .tdcLoad s fun t =>
      t.net = { s.net with tdc := s.rd64 F.TDC_SET_LO F.TDC_SET_HI * 2 ^ 24 } ∧ t.rd F.TDC_CNT_LO = s.rd F.TDC_SET_LO ∧
      t.rd F.TDC_CNT_HI = s.rd F.TDC_SET_HI ∧ s.only [F.TDC_CNT_LO.addr, F.TDC_CNT_HI.addr, F.TDC_CTRL.addr] [.regs, .net] t) ∧
    (∀ st, s.net.ptpIn = [] → exec (.ptpMessageRx st) s = .next s) ∧
    (∀ st m p ts rest, s.net.ptpIn = (m, p, ts) :: rest → (∀ k : Fin 4, s.net.td[k].cfg.getLsbD (8 + m) = false) → Does (.ptpMessageRx st) s fun t =>
      t.net = { s.net with ptpIn := rest } ∧ s.only [] [.net] t) ∧
    (∀ st m p ts rest, s.net.ptpIn = (m, p, ts) :: rest → m < 3 → x.cfg.getLsbD (8 + m) = true → x.cfg.toNat % 256 = p.domain.toNat →
      x.cfg.getLsbD 13 = p.l2 → p.kind.val = 0xB → Does (.ptpMessageRx st) s fun t => t.net.ptpIn = rest ∧
        t.rd (F.PTP_STAT_PORT_STATE.pg d.val) = st.val ∧ t.rd (F.PTP_STAT_PORT.pg d.val) = m ∧
        t.rd64 (F.PTP_GM_LO.pg d.val) (F.PTP_GM_HI.pg d.val) = p.gm.toNat ∧
        (s.broken (0x68 + d.val) 2 = false → t.raw (0x68 + d.val) 2 = false)) ∧
    (∀ ofs step rate, s.on (F.TD_CTRL_SERVO.pg d.val) = true ∨ (∀ m < 3, x.cfg.getLsbD (8 + m) = false) →
      exec (.ptpSyncInterval d ofs step rate) s = .next s) ∧
    (∀ (ofs rate : Word) m, s.on (F.TD_CTRL_SERVO.pg d.val) = false → m < 3 → x.cfg.getLsbD (8 + m) = true →
      s.rd (F.PTP_STAT_PORT_STATE.pg d.val) ≠ 6 →
      (ofs.toInt.natAbs < 100 → Does (.ptpSyncInterval d ofs none (some rate)) s fun t =>
        t.net.td[d] = { x with good := min 16 (x.good + 1), bad := 0, far := 0, trusted := decide (15 ≤ x.good) || x.trusted } ∧
        t.reg (F.TD_OFFSET.pg d.val).addr = ofs ∧ t.reg (F.TD_RATE.pg d.val).addr = rate ∧
        s.only [(F.TD_OFFSET.pg d.val).addr, (F.TD_RATE.pg d.val).addr, (F.TD_STAT_LOCKED.pg d.val).addr] [.regs, .net] t) ∧
      (10000 < ofs.toInt.natAbs → 7 ≤ x.far → s.rd (F.TD_STAT_STATE.pg d.val) = 1 → Does (.ptpSyncInterval d ofs none none) s fun t =>
        t.rd (F.TD_STAT_STATE.pg d.val) = 2 ∧ t.on (F.TD_STAT_LOCKED.pg d.val) = false ∧ t.net.td[d].far = 0) ∧
      (∀ (ns : Int) (frac : Word), ofs.toInt.natAbs < 100 → s.rd (F.TD_STAT_STATE.pg d.val) ≠ 1 →
        Does (.ptpSyncInterval d ofs (some (ns, frac)) none) s fun t => t.rd (F.TD_STAT_STATE.pg d.val) = 1 ∧
          (t.net.td[d].time : Int) = (x.time + ns * 2 ^ 40 + frac.toNat * 2 ^ 8) % timeWrap ∧ t.net.td[d].toSet = true ∧
          t.rd (F.TD_STEP_CNT.pg d.val) = (s.rd (F.TD_STEP_CNT.pg d.val) + 1) % 2 ^ 32)) ∧
    ((∀ m < 3, x.cfg.getLsbD (8 + m) = false) → exec (.ptpAnnounceTimeout d) s = .next s) ∧
    (∀ m, m < 3 → x.cfg.getLsbD (8 + m) = true → s.enabled (0x68 + d.val) = true → s.on (F.TD_CTRL_SERVO.pg d.val) = false →
      s.rd (F.TD_STAT_STATE.pg d.val) = 1 → Does (.ptpAnnounceTimeout d) s fun t => t.rd (F.TD_STAT_STATE.pg d.val) = 2 ∧
        t.raw (0x68 + d.val) 2 = true ∧ t.raw (0x68 + d.val) 0 = true ∧ t.net.td[d].trusted = false) ∧
    (Does (.ptpCfgApply d) s fun t => t.net.td[d] = { x with cfg := s.reg (F.PTP_CFG_DOMAIN.pg d.val).addr } ∧
      (∀ k, k ≠ d → t.net.td[k] = s.net.td[k]) ∧ s.only [] [.net] t) ∧
    (s.on (F.TD_STAT_ANCHORED.pg d.val) = false ∨ x.run < 16 ∨ s.isStandby = true → exec (.anchorSlip d) s = .next s) ∧
    (s.on (F.TD_STAT_ANCHORED.pg d.val) = true → 16 ≤ x.run → s.isStandby = false → s.quiet (0x68 + d.val) 3 → Does (.anchorSlip d) s fun t =>
      t.net.td[d] = { x with run := 0, move := some (s.tick + 4,
        signed (s.rd64 (F.TD_ANCHOR_LO.pg d.val) (F.TD_ANCHOR_HI.pg d.val)) 64 + x.d) } ∧
      t.rd (F.TD_ANCHOR_SLIP.pg d.val) = (s.rd (F.TD_ANCHOR_SLIP.pg d.val) + 1) % 2 ^ 32 ∧
      t.rd64 (F.TD_ANCHOR_LO.pg d.val) (F.TD_ANCHOR_HI.pg d.val) = s.rd64 (F.TD_ANCHOR_LO.pg d.val) (F.TD_ANCHOR_HI.pg d.val) ∧
      s.raised (0x68 + d.val) 3 t)

/-- R361 to R365: stream packets. One that is not of its stream's form is counted as bad; one that comes before or after its stream's buffer is
counted as early or late; one that fits is held until its samples are due. A transmit stream sends a packet once its samples wait. -/
def Obligations.StreamPackets : Prop :=
  ∀ (s : State), s.canonical = true →
    (∀ sample, s.net.rtpIn = [] → exec (.streamPacketRx sample) s = .next s) ∧
    (∀ sample p rest, s.net.rtpIn = p :: rest → (∀ k ∈ s.rxStreams, s.forStream k p = false) → Does (.streamPacketRx sample) s fun t =>
      t.net = { s.net with rtpIn := rest } ∧ s.only [] [.net] t) ∧
    (∀ (sample : Fin 16) p rest (n : Nat) (a first now : Int), s.net.rtpIn = p :: rest → (s.rxStreams.filter fun k => s.forStream k p) = [n] →
      s.anchorOf (s.rd (F.RX_CFG0_TD.rx n)) = some a → now = (s.tick * s.F + sample.val : Nat) →
      first = dueAt p.ts.toNat (s.rd (F.RX_CFG4.rx n)) (s.linkOffset n) a now →
      (p.version.val ≠ 2 ∨ p.pt.toNat ≠ s.rd (F.RX_CFG2_PT.rx n) → s.quiet 0x64 3 → Does (.streamPacketRx sample) s fun t =>
        t.rd (F.RX_BAD.rx n) = (s.rd (F.RX_BAD.rx n) + 1) % 2 ^ 32 ∧ s.raised 0x64 3 t ∧ t.net = { s.net with rtpIn := rest }) ∧
      (p.version.val = 2 → p.pt.toNat = s.rd (F.RX_CFG2_PT.rx n) → s.on (F.RX_CFG2_SSRC_FILT.rx n) = false →
        p.payload.length = s.rxCh n * formatBytes (s.rd (F.RX_CFG0_FORMAT.rx n)) * s.rxNp n → p.ext = none →
        s.rxOf n = RxStream.rest →
        (now + (s.linkOffset n + 2 * s.rxNp n : Nat) < first + s.rxNp n - 1 → Does (.streamPacketRx sample) s fun t =>
          t.rd (F.RX_EARLY.rx n) = (s.rd (F.RX_EARLY.rx n) + 1) % 2 ^ 32 ∧ (t.rxOf n).pkts = [] ∧ (t.rxOf n).seq = some p.seq.toNat) ∧
        (first ≤ now → first + s.rxNp n - 1 ≤ now + (s.linkOffset n + 2 * s.rxNp n : Nat) → Does (.streamPacketRx sample) s fun t =>
          t.rd (F.RX_LATE.rx n) = (s.rd (F.RX_LATE.rx n) + 1) % 2 ^ 32 ∧ (t.rxOf n).pkts = [] ∧ (t.rxOf n).seq = some p.seq.toNat) ∧
        (now < first → first + s.rxNp n - 1 ≤ now + (s.linkOffset n + 2 * s.rxNp n : Nat) → Does (.streamPacketRx sample) s fun t =>
          ((t.rxOf n).pkts.map fun k => (k.ts, k.words)) =
            [(p.ts.toNat, payloadWords (formatBytes (s.rd (F.RX_CFG0_FORMAT.rx n))) (s.rxCh n * s.rxNp n) p.payload)] ∧
          (t.rxOf n).took = true ∧ t.rd (F.RX_LATE.rx n) = s.rd (F.RX_LATE.rx n) ∧ t.rd (F.RX_EARLY.rx n) = s.rd (F.RX_EARLY.rx n)))) ∧
    (∀ (stream : Byte) (n np : Nat) full, Sparse.wf (fun _ => TxStream.rest) s.net.tx = true → n = stream.toNat → np = packetSamples (s.txRd n F.TX_CFG0_PTIME) (s.rd F.TICK_CFG_RATE) →
      (s.on (F.TX_STAT_RUNNING.tx n) = false ∨ (s.txOf n).buf.length < np → exec (.streamPacketTx stream full) s = .next s) ∧
      (∀ a h rest, s.anchorOf (s.txRd n F.TX_CFG0_TD) = some a → (s.txOf n).buf = h :: rest → np ≤ (s.txOf n).buf.length →
        s.on (F.TX_STAT_RUNNING.tx n) = true → (s.txOf n).ramp = none →
        (s.unicast n = true → (s.txOf n).arp = none → Does (.streamPacketTx stream full) s fun t =>
          t.rd (F.TX_NOARP.tx n) = (s.rd (F.TX_NOARP.tx n) + 1) % 2 ^ 32 ∧ (t.txOf n).buf = (s.txOf n).buf.drop np ∧ t.net.macs = s.net.macs ∧
          s.only [(F.TX_NOARP.tx n).addr] [.regs, .net] t) ∧
        (s.unicast n = false → full = true → s.quiet 0x64 2 → Does (.streamPacketTx stream full) s fun t =>
          t.rd (F.TX_DROP.tx n) = (s.rd (F.TX_DROP.tx n) + 1) % 2 ^ 32 ∧ (t.txOf n).buf = (s.txOf n).buf.drop np ∧ t.net.macs = s.net.macs ∧
          s.raised 0x64 2 t) ∧
        (s.unicast n = false → full = false → s.on F.NET_CTRL_PRP_EN = false → s.txRd n F.TX_CFG5_BIHIRON = 0 →
          Does (.streamPacketTx stream full) s fun t =>
            t.rd (F.TX_PKTS.tx n) = (s.rd (F.TX_PKTS.tx n) + 1) % 2 ^ 32 ∧ (t.txOf n).buf = (s.txOf n).buf.drop np ∧
            (t.txOf n).seq = ((s.txOf n).seq + 1) % 65536 ∧
            t.net.macs[(0 : Fin 3)].queue = s.net.macs[(0 : Fin 3)].queue ++ [⟨groupMac (s.txRd n F.TX_CFG1), none,
              .rtp n (unsigned (h.1 + a + s.txRd n F.TX_CFG4) 32) (s.txOf n).seq (s.txHead n) []
                (((s.txOf n).buf.take np).flatMap fun q => q.2.1.flatMap fun w => sampleBytes (s.txRd n F.TX_CFG0_FORMAT) w)⟩] ∧
            s.only [(F.TX_PKTS.tx n).addr] [.regs, .net] t)))

/-- R273 to R279, R285, R287, R289, R290, R292, R293, R300, R303, R304, R306: messages on the Porbuod link and on CLMI. A bad one is counted; a
reliable one is acknowledged; a claim is shown, and an active claim of a newer epoch makes an active unit yield; a tick number or a digest that
differs is acted on; a mode change waits for its confirmation; the standby takes what the active sends. -/
def Obligations.PairMessages : Prop :=
  ∀ (s : State), s.canonical = true →
    (∀ (seq arm w32 : Word) (n d : BitVec 64) (cl : BitVec 16) sg mk smp recs wr ch items msg, s.quiet 0x81 2 →
      ∀ i ∈ [Instr.tickMessageRx false n cl d sg mk, .inputMessageRx false n smp, .stateMessageRx false recs, .paramMessageRx false seq wr,
        .armMessageRx false seq ch, .ackMessageRx false seq, .confirmMessageRx false seq arm, .bulkMessageRx false seq items,
        .ctrlMessageRx false w32 msg], Does i s fun t =>
          t.rd F.PB_CRC_ERR = (s.rd F.PB_CRC_ERR + 1) % 2 ^ 32 ∧ s.raised 0x81 2 t ∧ s.only (F.PB_CRC_ERR.addr :: srcRegs 0x81) [.regs, .flt] t) ∧
    (∀ ok, s.rd F.PB_STAT_STATE ≠ 3 → exec (.porbuodRateStep ok) s = .next s) ∧
    (s.rd F.PB_STAT_STATE = 3 → s.pair.joining = false →
      (Does (.porbuodRateStep false) s fun t => t.rd F.PB_STAT_STATE = 4 ∧ t.rd F.PB_STAT_RATE = s.rd F.PB_STAT_RATE ∧
        s.only [F.PB_STAT_STATE.addr, F.PB_LAT.addr] [.regs, .free] t) ∧
      (s.rd F.PB_STAT_RATE < 3 → Does (.porbuodRateStep true) s fun t => t.rd F.PB_STAT_RATE = s.rd F.PB_STAT_RATE + 1 ∧
        t.rd F.PB_STAT_STATE = if s.topRate ≤ s.rd F.PB_STAT_RATE + 1 then 4 else 3)) ∧
    (∀ (n d : BitVec 64) (c : BitVec 16) sg mk, claimRole c.toNat ≠ 3 ∨ s.pair.role ≠ .active →
      (s.pair.formed = false → Does (.tickMessageRx true n c d sg mk) s fun t => t.rd F.PAIR_CLAIM_PEER = c.toNat ∧ t.pair.hbMiss = 0 ∧
        t.pair.hbGot = true ∧ t.pair.peerOut = decide (claimRole c.toNat = 0) ∧ t.pair.role = s.pair.role) ∧
      (s.pair.formed = true → s.rd F.PAIR_STAT_STATE = 5 → n.toNat ≠ s.tick → s.quiet 0x80 1 → s.pair.katCall = false →
        Does (.tickMessageRx true n c d sg mk) s fun t => (t.rd (F.FLT_LATCH.pg 0x80)).testBit 1 = true ∧ t.pair.katCall = true ∧
          t.flt.shortOn = true ∧ t.pair.role = s.pair.role) ∧
      (s.pair.formed = true → s.rd F.PAIR_STAT_STATE = 5 → n.toNat = s.tick → (∀ x ∈ s.pair.sigs, x.1 ≠ n.toNat - 2) →
        (d.toNat = s.pair.digest → Does (.tickMessageRx true n c d sg mk) s fun t => t.pair.role = s.pair.role ∧ t.rd F.PAIR_STAT_STATE = 5) ∧
        (d.toNat ≠ s.pair.digest → s.isStandby = true → Does (.tickMessageRx true n c d sg mk) s fun t => t.pair.role = .sync ∧
          t.rd F.PAIR_RESYNC_CNT = (s.rd F.PAIR_RESYNC_CNT + 1) % 2 ^ 32 ∧ t.rd F.PAIR_STAT_STATE = if s.linkUp then 3 else 1)) ∧
      (s.pair.formed = true → s.rd F.PAIR_STAT_STATE = 3 → s.isStandby = true → Does (.tickMessageRx true n c d sg mk) s fun t =>
        t.tick = n.toNat)) ∧
    (∀ w : Word, (s.on F.CLM_CTRL_PINS_EN = false → exec (.clmiWordRx w) s = .next s) ∧
      (s.on F.CLM_CTRL_PINS_EN = true →
        (claimOf w = none → s.quiet 0x83 3 → Does (.clmiWordRx w) s fun t => t.rd F.CLM_BAD_CNT = (s.rd F.CLM_BAD_CNT + 1) % 2 ^ 32 ∧
          s.raised 0x83 3 t ∧ s.only (F.CLM_BAD_CNT.addr :: srcRegs 0x83) [.regs, .flt] t) ∧
        (∀ c, claimOf w = some c → claimRole c ≠ 3 ∨ s.pair.role ≠ .active → Does (.clmiWordRx w) s fun t =>
          t.rd F.CLM_PINS_LAST = c ∧ t.rd F.PAIR_CLAIM_PEER = c ∧ t.pair.clmiGot = true ∧ t.pair.peerOut = decide (claimRole c = 0)) ∧
        (∀ c, claimOf w = some c → claimRole c = 3 → s.pair.role = .active → claimSide c ≠ s.rd F.PAIR_STAT_SIDE →
          1 ≤ (claimEpoch c + 128 - s.pair.epoch) % 128 → (claimEpoch c + 128 - s.pair.epoch) % 128 ≤ 63 → s.quiet 0x80 5 →
          Does (.clmiWordRx w) s fun t => t.pair.role = .yielded ∧ t.rd F.PAIR_LAST = 6 ∧ (t.rd (F.FLT_LATCH.pg 0x80)).testBit 5 = true ∧
            t.pair.newest ≠ none))) ∧
    (∀ (n : BitVec 64) smp, s.isStandby = false ∨ n.toNat + 1 ≠ s.tick → exec (.inputMessageRx true n smp) s = .next s) ∧
    (∀ (n : BitVec 64) ch w, s.isStandby = true → n.toNat + 1 = s.tick → Does (.inputMessageRx true n [(ch, [w])]) s fun t =>
      Sparse.get 0 t.pair.mir (16 * ch) = w ∧ (∀ k, k ≠ 16 * ch → Sparse.get 0 t.pair.mir k = 0) ∧ Sparse.get false t.pair.mirOk ch = true ∧
      s.only [] [.pair] t) ∧
    (∀ recs, (s.isStandby = false → exec (.stateMessageRx true recs) s = .next s) ∧ (s.isStandby = true → Does (.stateMessageRx true recs) s fun t =>
      t.pair = { s.pair with loads := s.pair.loads ++ recs } ∧ s.only [] [.pair] t)) ∧
    (∀ (seq : Word) wr items arm, s.isStandby = false → ∀ i ∈ [Instr.paramMessageRx true seq wr, .bulkMessageRx true seq items,
      .confirmMessageRx true seq arm], s.pair.taken = [] → Does i s fun t => t.out = .porbuod (.ack seq.toNat) :: s.out ∧ s.only [] [.out] t) ∧
    (∀ (seq : Word) (d : Fin 4) (v : BitVec 64) tk, s.isStandby = true → tk ≤ s.tick →
      Does (.paramMessageRx true seq [.anchor d.val v.toInt tk]) s fun t => t.out = .porbuod (.ack seq.toNat) :: s.out ∧
        t.rd64 (F.TD_ANCHOR_LO.pg d.val) (F.TD_ANCHOR_HI.pg d.val) = v.toNat ∧ t.on (F.TD_STAT_ANCHORED.pg d.val) = true) ∧
    (∀ (seq : Word) q, s.isStandby = true → Does (.bulkMessageRx true seq [.develop q]) s fun t => t.out = .porbuod (.ack seq.toNat) :: s.out ∧
      t.scn = { s.scn with seq := q } ∧ t.rd F.SCN_STAT_DEV_SEQ = q % 2 ^ F.SCN_STAT_DEV_SEQ.width ∧
      s.only [F.SCN_STAT_DEV_SEQ.addr] [.regs, .out, .scn] t) ∧
    (∀ (seq : Word) ch, s.isStandby = false → exec (.armMessageRx true seq ch) s = .next s) ∧
    (∀ (seq : Word) l tk, s.isStandby = true → Does (.armMessageRx true seq (.shed l tk)) s fun t => t.en.pending = some (l, tk, false) ∧
      t.pair.taken = s.pair.taken ++ [⟨seq.toNat, .shed l tk, false⟩] ∧ t.out = .porbuod (.ack seq.toNat) :: s.out ∧
      s.only [] [.out, .pair, .en] t) ∧
    (∀ (seq arm : Word) l tk, s.isStandby = true → s.pair.taken = [⟨arm.toNat, .shed l tk, false⟩] →
      Does (.confirmMessageRx true seq arm) s fun t => t.out = .porbuod (.ack seq.toNat) :: s.out ∧ t.pair.taken = [] ∧
        t.en.pending = if s.tick + 1 < tk then some (l, tk, true) else s.en.pending) ∧
    (∀ (seq : Word), (∀ x ∈ s.pair.acks, x.1 ≠ seq.toNat) →
      ((∀ x ∈ s.pair.arms, x.seq ≠ seq.toNat) → Does (.ackMessageRx true seq) s fun t =>
        t.pair.sent = (s.pair.sent.filter fun x => x.1 != seq.toNat) ∧ t.out = s.out ∧ s.only [] [.pair] t) ∧
      (∀ l tk, s.pair.arms = [⟨seq.toNat, .shed l tk, false⟩] → s.linkUp = true →
        (s.tick + 2 < tk → Does (.ackMessageRx true seq) s fun t => t.pair.arms = [] ∧ t.out = .porbuod (.confirm seq.toNat) :: s.out) ∧
        (tk ≤ s.tick + 2 → Does (.ackMessageRx true seq) s fun t => t.pair.arms = [] ∧ t.out = s.out))) ∧
    (Does .confirmDeadline s fun t => (∀ x, x ∈ t.pair.arms ↔ x ∈ s.pair.arms ∧ ∀ tk, changeTick x.change = some tk → s.tick + 2 < tk) ∧
      s.sameBut [.regs, .out, .host, .flt, .scn, .pair] t ∧ ((∀ x ∈ s.pair.arms, ∀ tk, x.change ≠ .fix tk) → s.only [] [.pair] t)) ∧
    (∀ (seq : Word), Does (.ctrlMessageRx true seq .yield) s (fun t => t.pair.formed = false ∧ t.rd F.PAIR_STAT_STATE = 0) ∧
      (∀ c node, Does (.ctrlMessageRx true seq (.election c node)) s fun t => t.pair = { s.pair with peerElection := some (c.toNat, node.toNat) } ∧
        t.rd F.PAIR_PEER_NODE = node.toNat ∧ t.out = .porbuod (.ack seq.toNat) :: s.out ∧ s.only [F.PAIR_PEER_NODE.addr] [.regs, .out, .pair] t)) ∧
    (∀ (seq : Word), ((∀ x ∈ s.pair.sent, x.1 ≠ seq.toNat) → exec (.pbRetransmit seq) s = .next s) ∧
      (∀ m, s.pair.sent = [(seq.toNat, m)] → Does (.pbRetransmit seq) s fun t => t.out = .porbuod m :: s.out ∧
        t.rd F.PB_RETX = (s.rd F.PB_RETX + 1) % 2 ^ 32 ∧ s.only [F.PB_RETX.addr] [.regs, .out] t))

/-- R271, R272, R275, R289, R295 to R299, R302, R305, R310: the roles of a pair's units. -/
def Obligations.PairRoles : Prop :=
  ∀ (s : State), s.canonical = true →
    (s.pair.hbMiss = 0 ∨ s.pair.formed = false → Does .heartbeatMiss s fun t => t.pair.hbMiss = s.pair.hbMiss + 1 ∧ t.pair.hbRun = 0 ∧
      t.on F.PAIR_STAT_PEER_LINK = false ∧ s.only [F.PAIR_STAT_PEER_LINK.addr] [.regs, .pair] t) ∧
    (1 ≤ s.pair.hbMiss → s.pair.formed = true → s.pair.role = .standby → Does .heartbeatMiss s fun t =>
      t.pair.hbMiss = s.pair.hbMiss + 1 ∧ t.rd F.PAIR_STAT_STATE = 1 ∧ t.pair.acks = [] ∧
      t.pair.role = (if s.pair.clmiMiss < 2 then .sync else .standby)) ∧
    (s.pair.formed = false ∨ s.pair.clmiMiss < 2 → exec .clmiLost s = .next s) ∧
    (s.pair.formed = true → 2 ≤ s.pair.clmiMiss → s.quiet 0x83 0 → s.pair.hbMiss < 2 → Does .clmiLost s fun t =>
      s.raised 0x83 0 t ∧ t.raw 0x83 0 = true ∧ s.only (srcRegs 0x83) [.regs, .flt] t) ∧
    (s.isStandby = false ∨ s.eng.run = none ∨ (s.pair.peerOut = false ∧ (s.pair.hbMiss < 2 ∨ s.pair.clmiMiss < 2)) → exec .promotion s = .next s) ∧
    (s.isStandby = true → s.eng.run ≠ none → s.pair.peerOut = true ∨ (2 ≤ s.pair.hbMiss ∧ 2 ≤ s.pair.clmiMiss) → Does .promotion s fun t =>
      t.pair.role = .active ∧ t.pair.epoch = (match s.pair.newest with | some e => (e + 1) % 128 | none => 1) ∧ t.pair.newest = some t.pair.epoch ∧
      t.rd F.PAIR_LAST = (if s.pair.peerOut then 3 else 4) ∧ t.rd64 F.PAIR_LAST_TICK_LO F.PAIR_LAST_TICK_HI = s.tick ∧
      t.rd F.PAIR_PROMO_CNT = (s.rd F.PAIR_PROMO_CNT + 1) % 2 ^ 32 ∧ (s.quiet 0x80 3 → (t.rd (F.FLT_LATCH.pg 0x80)).testBit 3 = true)) ∧
    (s.pair.peerCap = none ∨ s.pair.peerElection = none ∨ s.pair.peerJoin = none ∨ s.rd F.PAIR_STAT_STATE ≠ 2 ∨ s.linkUp = false →
      exec .election s = .next s) ∧
    (∀ fw compat id side gib rate lc c node f, s.pair.peerCap = some (.capability fw compat id side gib rate lc) → s.pair.peerElection = some (c, node) →
      s.pair.peerJoin = some (s.pair.pairId, f) → s.rd F.PAIR_STAT_STATE = 2 → s.linkUp = true →
      (side = s.on F.PAIR_STAT_SIDE → Does .election s fun t => t.rd F.PAIR_STAT_STATE = 0 ∧ t.pair.join = none ∧ t.pair.joining = false ∧
        t.pair.role = s.pair.role) ∧
      (side ≠ s.on F.PAIR_STAT_SIDE → compat.toNat = s.rd F.MB_FW_INFO_PAIR_COMPAT → lc.val = s.lc →
        (claimCompare s.electionClaim c = 1 → s.pair.role = .active → s.peerHolds gib.toNat = true → Does .election s fun t =>
          t.pair.role = .active ∧ t.pair.formed = true ∧ t.rd F.PAIR_STAT_STATE = 3 ∧ t.pair.epoch = s.pair.epoch) ∧
        (claimCompare s.electionClaim c = -1 → Does .election s fun t =>
          t.pair.role = .sync ∧ t.pair.formed = true ∧ t.rd F.PAIR_STAT_STATE = 3 ∧ t.pair.epoch = claimEpoch c))) ∧
    (s.pair.waiting = false → exec .pairWaitExpiry s = .next s) ∧
    (s.pair.waiting = true → Does .pairWaitExpiry s fun t => t.pair.role = .active ∧ t.pair.epoch = 1 ∧ t.pair.newest = some 1 ∧
      t.pair.waiting = false ∧ t.rd F.PAIR_STAT_STATE = 0) ∧
    (s.pair.join = none ∨ s.linkUp = true → exec .pairLinkTimeout s = .next s) ∧
    (s.pair.join ≠ none → s.linkUp = false → Does .pairLinkTimeout s fun t => t.pair.join = none ∧ t.pair.joining = false ∧
      t.rd F.PAIR_STAT_STATE = 0 ∧ t.pair.role = s.pair.role) ∧
    (s.rd F.PAIR_STAT_STATE ≠ 3 → exec .stateTransferDone s = .next s) ∧
    (s.rd F.PAIR_STAT_STATE = 3 → Does .stateTransferDone s fun t => t.rd F.PAIR_STAT_STATE = 4 ∧ t.rd F.PAIR_XFER_PCT = 100 ∧
      t.rd F.PAIR_XFER_MS = (s.ms - s.pair.xferFrom) % 2 ^ 24 ∧ t.pair = { s.pair with verifyBad := false } ∧
      s.only [F.PAIR_STAT_STATE.addr, F.PAIR_XFER_PCT.addr, F.PAIR_XFER_MS.addr] [.regs, .pair] t) ∧
    (s.rd F.PAIR_STAT_STATE ≠ 4 → exec .pairVerifyDone s = .next s) ∧
    (s.rd F.PAIR_STAT_STATE = 4 →
      (s.pair.verifyBad = false → Does .pairVerifyDone s fun t => t.rd F.PAIR_STAT_STATE = 5 ∧ t.pair.restarts = 0 ∧ t.pair.join = none ∧
        t.pair.role = (if s.pair.role = .sync then .standby else s.pair.role)) ∧
      (s.pair.verifyBad = true → s.pair.restarts < 3 → Does .pairVerifyDone s fun t => t.rd F.PAIR_STAT_STATE = 3 ∧
        t.pair.restarts = s.pair.restarts + 1 ∧ t.pair.verifyBad = false) ∧
      (s.pair.verifyBad = true → 3 ≤ s.pair.restarts → s.quiet 0x80 8 → Does .pairVerifyDone s fun t => t.rd F.PAIR_STAT_STATE = 0 ∧
        t.pair.formed = false ∧ t.pair.join = none ∧ (t.rd (F.FLT_LATCH.pg 0x80)).testBit 8 = true)) ∧
    (s.pair.window = none → exec .excuseWindowClose s = .next s) ∧
    (∀ w, s.pair.window = some w → (s.tick < w + 2 → exec .excuseWindowClose s = .next s) ∧
      (w + 2 ≤ s.tick →
        (s.pair.mism = [] → Does .excuseWindowClose s fun t => t.pair = { s.pair with window := none, reopened := false } ∧
          t.on F.PAIR_STAT_AGREE = true ∧ s.only [F.PAIR_STAT_AGREE.addr] [.regs, .pair] t) ∧
        (s.pair.mism ≠ [] → s.pair.reopened = true → s.quiet 0x80 1 → Does .excuseWindowClose s fun t => t.pair.window = none ∧
          t.rd F.PAIR_MISMATCH_CNT = (s.rd F.PAIR_MISMATCH_CNT + 1) % 2 ^ 32 ∧ (t.rd (F.FLT_LATCH.pg 0x80)).testBit 1 = true ∧
          t.pair.katCall = true) ∧
        (s.pair.mism ≠ [] → s.pair.reopened = false → Does .excuseWindowClose s fun t =>
          t.pair.window = some (s.tick + s.rd F.PAIR_EXCUSE) ∧ t.pair.reopened = true ∧
          t.rd F.PAIR_RESYNC_CNT = (s.rd F.PAIR_RESYNC_CNT + 1) % 2 ^ 32))) ∧
    (s.pair.handover ≠ some s.tick → exec .handover s = .next s) ∧
    (s.pair.handover = some s.tick →
      (s.pair.role = .active → Does .handover s fun t => t.pair.role = .yielded ∧ t.rd F.PAIR_LAST = 2 ∧ t.pair.epoch = s.pair.epoch) ∧
      (s.isStandby = true → Does .handover s fun t => t.pair.role = .active ∧ t.rd F.PAIR_LAST = 3 ∧ t.pair.handover = none ∧
        t.rd F.PAIR_PROMO_CNT = (s.rd F.PAIR_PROMO_CNT + 1) % 2 ^ 32)) ∧
    (s.pair.handover = none ∨ s.pair.role ≠ .yielded → exec .handoverComplete s = .next s) ∧
    (∀ h, s.pair.handover = some h → s.pair.role = .yielded → (h + 2 ≠ s.tick → exec .handoverComplete s = .next s) ∧
      (h + 2 = s.tick → Does .handoverComplete s fun t => t.pair.role = .standby ∧ t.pair.handover = none ∧ t.pair.yieldTicket = none ∧
        t.pair.epoch = claimEpoch (s.rd F.PAIR_CLAIM_PEER)))

/-- R12, R19, R76, R78, R79, R82, R134, R188, R212: ticks. While the engine runs each counts one more, the first excepted, and none of its phases is done
when it starts; a deferred column starts; a kernel out of budget is stopped; an output group that is late is replaced. -/
def Obligations.Ticks : Prop :=
  ∀ (s : State), s.canonical = true →
    (∀ edges tp tn media cycles pdm,
      (s.on F.DEV_STAT_ENGINE = false → s.on F.TICK_STAT_RUNNING = false → exec (.tickStart edges tp tn media cycles pdm) s = .next s) ∧
      (s.on F.DEV_STAT_ENGINE = true ∨ s.on F.TICK_STAT_RUNNING = true → Does (.tickStart edges tp tn media cycles pdm) s fun t =>
        t.on F.TICK_STAT_RUNNING = true ∧ t.tick = (if s.on F.TICK_STAT_RUNNING then (s.tick + 1) % 2 ^ 64 else s.tick) ∧
        t.eng.aDone = false ∧ t.eng.bDone = false ∧ t.eng.cDone = [] ∧ t.eng.dDone = false ∧ t.eng.eDone = [])) ∧
    (∀ m (c : Fin 1024), (s.mayStart m c.val = false → exec (.deferredColumnStart m c) s = .next s) ∧
      (s.mayStart m c.val = true → Does (.deferredColumnStart m c) s fun t =>
        t.rd F.XPT_DEFER_CNT = (s.rd F.XPT_DEFER_CNT + 1) % 2 ^ 32 ∧
        (∀ x, x ∈ t.eng.deferred ↔ x ∈ s.eng.deferred ∧ ¬ (x.outMat = m ∧ x.col = c.val)) ∧
        (∀ r ∈ s.eng.ramps, r.first = noStart → r.column = (m, c.val) → { r with first := s.tick } ∈ t.eng.ramps) ∧
        (∀ r ∈ s.eng.ramps, r.column ≠ (m, c.val) → r ∈ t.eng.ramps) ∧ s.only [F.XPT_DEFER_CNT.addr] [.regs, .eng] t)) ∧
    (∀ c : Fin 16, (∀ r, s.clusters[c].run = some r → r.left ≠ 1) → exec (.kernelBudgetExhausted c) s = .next s) ∧
    (∀ (c : Fin 16) r, s.clusters[c].run = some r → r.left = 1 → s.quiet 0x02 0 → Does (.kernelBudgetExhausted c) s fun t =>
      t.clusters[c].run = none ∧ t.clusters[c].fg = s.clusters[c].sh ∧ t.clusters[c].sh = s.clusters[c].fg ∧
      t.rd (F.CL_BUDGET_LEFT.pg c.val) = 0 ∧ t.on (F.CL_STAT_IN_KERNEL.pg c.val) = false ∧
      t.rd (F.CL_STOP_CNT.pg c.val) = (s.rd (F.CL_STOP_CNT.pg c.val) + 1) % 2 ^ 32 ∧ t.rd F.OVR_COUNT = (s.rd F.OVR_COUNT + 1) % 2 ^ 32 ∧
      t.rd F.OVR_LAST_CLUSTER = c.val ∧ t.rd F.OVR_LAST_HANDLE = r.handle % 2 ^ 16 ∧ t.rd64 F.OVR_TICK_LO F.OVR_TICK_HI = s.tick ∧
      (t.rd (F.FLT_LATCH.pg 0x02)).testBit 0 = true ∧
      (∀ i, s.eng.insts[r.handle]? = some i → ∃ j, t.eng.insts[r.handle]? = some j ∧ j.stopped = true ∧ j.ovr = min 32 (i.ovr + s.F)) ∧
      ∀ d : Fin 16, d ≠ c → t.clusters[d] = s.clusters[d]) ∧
    (∀ g : Fin 256, (s.engineOn = false ∨ g.val ∈ s.eng.eDone ∨ s.vrd F.XPT_DIM1 ≤ 4 * g.val → exec (.tickOvr g) s = .next s) ∧
      (s.engineOn = true → g.val ∉ s.eng.eDone → 4 * g.val < s.vrd F.XPT_DIM1 → s.quiet 0x02 1 → Does (.tickOvr g) s fun t =>
        t.rd F.TICKOVR_COUNT = (s.rd F.TICKOVR_COUNT + 1) % 2 ^ 32 ∧ s.raised 0x02 1 t ∧ t.eng.eDone = g.val :: s.eng.eDone ∧
        (Sparse.get ([], 0) s.eng.lateOut g.val = ([], 0) → Sparse.wf (fun _ => 0) s.eng.eOut = true → s.F ≤ 16 → ∀ l < 4, ∀ i < s.F,
          sampleAt t.eng.eOut (4 * g.val + l) i = satWord (roundDiv ((sampleAt s.eng.emit (4 * g.val + l) (s.F - 1)).toInt * (31 - i)) 32)) ∧
        (∀ c i, c / 4 ≠ g.val → i < 16 → s.F ≤ 16 → sampleAt t.eng.eOut c i = sampleAt s.eng.eOut c i) ∧
        s.only (F.TICKOVR_COUNT.addr :: srcRegs 0x02) [.regs, .flt, .eng] t))

/-- R17, R112, R127, R128, R208, R209, R475: the phases of a tick. Each runs once the one before it is complete, and once in a tick, the strips of a cluster in ascending group order (R209); phases B and D leave the sums
of the two matrices, saturated, and record which saturated. -/
def Obligations.Phases : Prop :=
  ∀ (s : State), s.canonical = true →
    (∀ errs bad late, (s.engineOn = false ∨ s.eng.aDone = true → exec (.tickEntry errs bad late) s = .next s) ∧
      (s.engineOn = true → s.eng.aDone = false → Does (.tickEntry errs bad late) s fun t => t.eng.aDone = true ∧ Out.emit s.tick s.eng.emit ∈ t.out)) ∧
    (∀ ne errs cyc,
      (s.engineOn = false ∨ s.eng.aDone = false ∨ s.eng.bDone = true → exec (.phaseB ne errs cyc) s = .next s) ∧
      (s.engineOn = true → s.eng.aDone = true → s.eng.bDone = false →
        (Does (.phaseB ne errs cyc) s fun t => t.eng.bDone = true ∧ t.rd F.XPT_CYC_B = cyc % 2 ^ 32) ∧
        (s.F ≤ 16 → Does (.phaseB [] [] cyc) s fun t =>
          (∀ b < s.vrd F.XPT_DIM0_BU, ∀ n < s.F, sampleAt t.eng.bSum b n = satWord (s.busSum b n)) ∧
          (∀ b < s.vrd F.XPT_DIM0_BU, t.bitArr F.XPT_SAT_BUS b = (s.bitArr F.XPT_SAT_BUS b ||
            (List.range s.F).any fun n => decide (sat32 (s.busSum b n) ≠ s.busSum b n)))))) ∧
    (∀ (g : Fin 128) errs bad late,
      (s.engineOn = false ∨ s.eng.bDone = false ∨ g.val ∈ s.eng.cDone ∨ s.vrd F.XPT_DIM0_BU ≤ 4 * g.val ∨ s.inTurn 1 g.val s.eng.cDone = false →
        exec (.phaseC g errs bad late) s = .next s) ∧
      (s.engineOn = true → s.eng.bDone = true → g.val ∉ s.eng.cDone → 4 * g.val < s.vrd F.XPT_DIM0_BU → s.inTurn 1 g.val s.eng.cDone = true → Does (.phaseC g errs bad late) s fun t =>
        t.eng.cDone = g.val :: s.eng.cDone ∧
        (s.stripGated 1 g.val = true → errs = [] → Sparse.wf (fun _ => 0) s.eng.cOut = true → s.F ≤ 16 →
          ∀ l < 4, ∀ i < s.F, sampleAt t.eng.cOut (4 * g.val + l) i = 0))) ∧
    (∀ ne errs cyc,
      (s.engineOn = false ∨ s.eng.bDone = false ∨ s.cComplete = false ∨ s.eng.dDone = true → exec (.phaseD ne errs cyc) s = .next s) ∧
      (s.engineOn = true → s.eng.bDone = true → s.cComplete = true → s.eng.dDone = false →
        (Does (.phaseD ne errs cyc) s fun t => t.eng.dDone = true ∧ t.rd F.XPT_CYC_D = cyc % 2 ^ 32) ∧
        (s.F ≤ 16 → s.enabled 0x20 = true → s.broken 0x20 0 = false → Does (.phaseD [] [] cyc) s fun t =>
          (∀ o < s.vrd F.XPT_DIM1, ∀ n < s.F, sampleAt t.eng.dSum o n = satWord (s.outSum o n)) ∧
          t.raw 0x20 0 = (s.eng.satB || (List.range (s.vrd F.XPT_DIM1)).any fun o => (List.range s.F).any fun n =>
            decide (sat32 (s.outSum o n) ≠ s.outSum o n))))) ∧
    (∀ (g : Fin 256) errs bad late,
      (s.engineOn = false ∨ s.eng.dDone = false ∨ g.val ∈ s.eng.eDone ∨ s.vrd F.XPT_DIM1 ≤ 4 * g.val ∨ s.inTurn 2 g.val s.eng.eDone = false →
        exec (.phaseE g errs bad late) s = .next s) ∧
      (s.engineOn = true → s.eng.dDone = true → g.val ∉ s.eng.eDone → 4 * g.val < s.vrd F.XPT_DIM1 → s.inTurn 2 g.val s.eng.eDone = true → Does (.phaseE g errs bad late) s fun t =>
        t.eng.eDone = g.val :: s.eng.eDone ∧
        (s.stripGated 2 g.val = true → errs = [] → Sparse.wf (fun _ => 0) s.eng.eOut = true → s.F ≤ 16 →
          ∀ l < 4, ∀ i < s.F, sampleAt t.eng.eOut (4 * g.val + l) i = 0)))

/-- R242 to R245, R247, R248: lines. A written entry takes effect at an integration boundary, a faulty one is reported, an integration with too few
samples is void; a reading repeated CONFIRM times becomes the line's state, by the order of R244; a learn ends with its baseline. What a record holds where no integration stands behind a change, and a write while the line learns, are log entry 58. -/
def Obligations.LineJudgements : Prop :=
  ∀ (s : State) (n : Fin 1024) (l : LineSt), s.canonical = true → Sparse.wf (fun _ => LineSt.rest) s.sl.lines = true → l = s.lineSt n.val →
    (∀ moved, l.written = some moved → Does (.lineJudge n) s fun t =>
      t.lineState n.val = 0 ∧ t.lineSt n.val = LineSt.rest ∧ t.lineBased n.val = (s.lineBased n.val && !moved) ∧
      (∀ m : Fin 1024, m ≠ n → t.lineState m.val = s.lineState m.val ∧ t.lineSt m.val = s.lineSt m.val) ∧ s.sameBut [.regs, .win, .host, .flt, .log, .free, .sl] t) ∧
    (l.written = none →
      (s.on F.SL_CTRL_JUDGE_EN = false ∨ s.enabled 0x28 = false ∨ s.lineEn n.val = false → exec (.lineJudge n) s = .next s) ∧
      (s.on F.SL_CTRL_JUDGE_EN = true → s.enabled 0x28 = true → s.lineEn n.val = true →
        (s.lineBad n.val ≠ 0 → s.quiet 0x28 7 → Does (.lineJudge n) s fun t =>
          t.rd F.SL_ERR_LINE = n.val ∧ t.rd F.SL_ERR_REASON = s.lineBad n.val ∧ s.raised 0x28 7 t ∧
          s.only (F.SL_ERR_LINE.addr :: srcRegs 0x28) [.regs, .flt] t) ∧
        (s.lineBad n.val = 0 → (∃ k ∈ s.lineSenses n.val, 2 * (s.sense n.val k).2.2.1 < s.integLen n.val) ∨ (s.sense n.val 0).2.2.2 = true →
          exec (.lineJudge n) s = .next s) ∧
        (s.lineBad n.val = 0 → (∀ k ∈ s.lineSenses n.val, s.integLen n.val ≤ 2 * (s.sense n.val k).2.2.1) → (s.sense n.val 0).2.2.2 = false →
          (l.learn = none → s.lineBased n.val = false → exec (.lineJudge n) s = .next s) ∧
          (∀ v i e zm zp rt lv, v = s.sense n.val 0 → i = s.sense n.val 1 → e = s.sense n.val 2 →
            zm = lineMag (s.lineField n.val 12 31 0) v.1 v.2.1 (s.lineField n.val 16 31 0) i.1 i.2.1 → zp = linePhase v.1 v.2.1 i.1 i.2.1 →
            rt = (if s.lineHandle n.val 2 = 0xFFFF then 0 else lineRatio e.1 e.2.1 v.1 v.2.1) → lv = lineLevel v.1 v.2.1 →
            (∀ rd, l.learn = none → s.lineBased n.val = true →
              rd = s.reading n.val zm zp rt lv (i.1 == 0 && i.2.1 == 0) (s.lineHandle n.val 2 != 0xFFFF) →
              Does (.lineJudge n) s fun t => (t.lineSt n.val).reading = rd ∧
                (t.lineSt n.val).count = min 15 (if l.reading = rd then l.count + 1 else 1) ∧
                t.lineState n.val = if s.lineConfirm n.val ≤ (if l.reading = rd then l.count + 1 else 1) then rd else s.lineState n.val) ∧
            (∀ got, l.learn = some got → got.length + 1 < s.rd F.SL_JUDGE1_LEARN_N → Does (.lineJudge n) s fun t =>
              t.lineSt n.val = { l with learn := some (got ++ [(zm, zp, rt, lv)]) } ∧ s.only [] [.sl] t) ∧
            (∀ got zs m, l.learn = some got → s.rd F.SL_JUDGE1_LEARN_N ≤ got.length + 1 → zs = got ++ [(zm, zp, rt, lv)] →
              m = meanMag (zs.map fun x => (x.1, x.2.1)) →
              ((∀ x ∈ zs, ((x.1 : Int) - m).natAbs * 200 ≤ s.rd F.SL_JUDGE0_DRIFT_PCT * m) → Does (.lineJudge n) s fun t =>
                t.lineState n.val = 0 ∧ t.lineBased n.val = true ∧ t.lineField n.val 20 31 0 = m % 2 ^ 32 ∧ (t.lineSt n.val).learn = none) ∧
              ((∃ x ∈ zs, s.rd F.SL_JUDGE0_DRIFT_PCT * m < ((x.1 : Int) - m).natAbs * 200) → Does (.lineJudge n) s fun t =>
                t.lineState n.val = 0 ∧ t.lineBased n.val = s.lineBased n.val ∧ t.lineField n.val 20 31 0 = s.lineField n.val 20 31 0 ∧
                (t.lineSt n.val).learn = none))))))

/-- R250, R252, R253, R256 to R260, R267: ambient estimates and the probes of a verification: published and held estimates; synthesis, start, periods, yield and
return, and the end of an output. What the analysis leaves open is log entry 57. -/
def Obligations.AmbientAndProbes : Prop :=
  ∀ (s : State) (z : Fin 1024), s.canonical = true →
    (s.analyses z.val = false ∨ s.analysis z.val = none → exec (.ambientBlock z) s = .next s) ∧
    (∀ b reg, s.analyses z.val = true → s.analysis z.val = some b → reg = 0x2A040 + 4096 * (z.val / 512) + 4 * (z.val % 512) →
      (Does (.ambientBlock z) s fun t => t.sl.mics = (s.each b.mics fun u x => u.setMic x.1 x.2).sl.mics) ∧
      (s.isStandby = true → Does (.ambientBlock z) s fun t => s.only [] [.sl] t) ∧
      (s.isStandby = false → b.updated = true → b.fell = false → Does (.ambientBlock z) s fun t =>
        t.rd ⟨reg, 31, 16⟩ = unsigned (roundShift b.level.toInt 16) 16 ∧ t.on ⟨reg, 15, 15⟩ = true ∧ t.on ⟨reg, 14, 14⟩ = b.held ∧
        t.rd ⟨reg, 13, 0⟩ = 0 ∧ s.only [reg] [.regs, .eng, .sl, .pair, .out] t ∧
        ∀ x, x ∈ t.eng.amb ↔ x = (z.val, b.level.toInt, b.tick) ∨ x ∈ s.eng.amb ∧ x.1 ≠ z.val) ∧
      (s.isStandby = false → b.updated = false → b.fell = false → Does (.ambientBlock z) s fun t =>
        t.on ⟨reg, 14, 14⟩ = b.held ∧ t.on ⟨reg, 15, 15⟩ = s.on ⟨reg, 15, 15⟩ ∧ t.rd ⟨reg, 31, 16⟩ = s.rd ⟨reg, 31, 16⟩ ∧
        s.only [reg] [.regs, .sl] t) ∧
      (∀ r o, s.isStandby = false → b.fell = true → s.zoneRun z.val = some r → r.output = some o → r.from_ ≠ none → r.restarts < 3 →
        Does (.ambientBlock z) s fun t => t.rd F.SL_RESHAPE_CNT = (s.rd F.SL_RESHAPE_CNT + 1) % 2 ^ 32 ∧
          t.zoneRun z.val = some { r.again with restarts := r.restarts + 1 })) ∧
    (s.zoneRun z.val = none → ∀ i ∈ [Instr.probeSynthesisDone z, .probeStart z, .probePeriod z [] [], .probeYield z, .probeOutputEnd z],
      exec i s = .next s) ∧
    (∀ r q, s.zoneRun z.val = some r → s.sl.run = some q →
      (r.output = none ∨ r.ready = true ∨ s.isStandby = true → exec (.probeSynthesisDone z) s = .next s) ∧
      (∀ o, r.output = some o → r.ready = false → s.isStandby = false → Does (.probeSynthesisDone z) s fun t =>
        t.zoneRun z.val = some { r with ready := true, shape := s.sl.shapes, power := s.shapeFor r o, used := s.ambientNow r } ∧ t.sl.shapes = s.sl.shapes + 1 ∧ s.only [] [.sl, .pair, .out] t) ∧
      (r.ready = false ∨ r.from_ ≠ none ∨ s.onPeriod = false ∨ s.tick < q.start ∨ s.sl.shed = true → exec (.probeStart z) s = .next s) ∧
      (∀ n l, n = s.tick * s.F → l = (r.acc.map fun x => (x.1, 0)) → r.ready = true → r.from_ = none → s.onPeriod = true → q.start ≤ s.tick →
        s.sl.shed = false → Does (.probeStart z) s fun t =>
          t.zoneRun z.val = some { r with from_ := some n, periods := 0, last := n, acc := l, sums := [] } ∧ s.only [] [.sl] t) ∧
      (∀ bad ecc,
        (r.from_ = none → exec (.probePeriod z bad ecc) s = .next s) ∧
        (∀ a, r.from_ = some a →
          (s.tick * s.F ≤ r.last ∨ s.onPeriod = false ∨ s.sl.shed = true ∨ s.eng.aDone = false →
            exec (.probePeriod z bad ecc) s = .next s) ∧
          (∀ n ms l, n = s.tick * s.F → ms = s.periodMics r a n bad → l = (r.acc.map fun x => if x.1 ∈ ms then (x.1, x.2 + 1) else x) →
            r.last < n → s.onPeriod = true → s.sl.shed = false → s.eng.aDone = true → r.provisional = false →
            Does (.probePeriod z bad ecc) s fun t => s.only [] [.sl] t ∧ ∃ u,
              t.zoneRun z.val = some { r with periods := r.periods + 1, last := n, void := r.void ++ ecc, acc := l, sums := u } ∧
              (ms = [] → u = r.sums) ∧
              (∀ m d k, ms = [m] → s.blockAt m (n - 8192) = some d → k = 2 * m + r.periods % 2 →
                u = Sparse.set [] r.sums k (combine (· + ·) (Sparse.get [] r.sums k) (d.map BitVec.toInt)))))) ∧
      (r.from_ = none → exec (.probeYield z) s = .next s) ∧
      (r.from_ ≠ none → s.zoneBusy z.val = true → r.off = false → Does (.probeYield z) s fun t =>
        t.zoneRun z.val = some { r with off := true, yielded := true, stop := some (s.tick * s.F), busyAt := s.tick } ∧
        t.rd F.SL_PAUSE_CNT = (s.rd F.SL_PAUSE_CNT + 1) % 2 ^ 32 ∧ s.only [F.SL_PAUSE_CNT.addr] [.regs, .sl] t) ∧
      (r.from_ ≠ none → s.zoneBusy z.val = false → r.off = true → s.onPeriod = true → 8192 ≤ (s.tick - r.busyAt) * s.F →
        Does (.probeYield z) s fun t =>
          t.zoneRun z.val = some { r with off := false, stop := none, from_ := some (s.tick * s.F) } ∧ s.only [] [.sl] t) ∧
      (r.from_ ≠ none → s.zoneBusy z.val = r.off → r.off = true → exec (.probeYield z) s = .next s) ∧
      (r.output = none ∨ r.from_ = none ∨ r.provisional = true ∨ s.onPeriod = false → exec (.probeOutputEnd z) s = .next s) ∧
      (∀ o np, r.output = some o → np = s.dwellPeriods q o →
        ((∃ x ∈ r.acc, x.2 < np) → r.periods < 2 * np → exec (.probeOutputEnd z) s = .next s) ∧
        (r.from_ ≠ none → r.provisional = false → s.onPeriod = true → (∀ x ∈ r.acc, np ≤ x.2) ∨ 2 * np ≤ r.periods →
          Does (.probeOutputEnd z) s fun t => ∃ q2, t.sl.run = some q2 ∧ q2.left = q.left ∧
            q2.extract = q.extract ++ ((q.left.filter fun p => s.pathOut p == o).map fun p =>
              (p, r.yielded, decide (0 < r.restarts), r.void.contains (s.pathMic p))) ∧
            q2.heard = q.heard ++ (q.left.filter fun p => s.pathOut p == o).map fun p => (p, r.response q.id o (s.pathMic p) s.F))))

/-- R261 to R263, R268: a path's result: INCOMPLETE with too few good bands, a reference from a CAPTURE, else the worst of its three verdicts; and the end
of a STORE. What the analysis leaves open is log entry 57. -/
def Obligations.PathResults : Prop :=
  ∀ (s : State), s.canonical = true → Sparse.wf (fun _ => none) s.sl.refs = true →
    (∀ (p : Fin 4096) toa rho bands wave, s.measured p.val = ⟨toa, rho, bands, wave⟩ →
      (s.sl.run = none → exec (.pathResult p) s = .next s) ∧
      (∀ r, s.sl.run = some r →
        ((∀ x ∈ r.extract, x.1 ≠ p.val) → exec (.pathResult p) s = .next s) ∧
        (∀ y e v good, (r.extract.find? fun x => x.1 == p.val) = some (p.val, y, e, v) → p.val ∈ r.left →
          good = (bands.filter fun b => match b with
            | some x => decide ((s.rd F.SL_VERIFY0_SNR_MIN : Int) * 2 ^ 24 ≤ x.1)
            | none => false).length →
          (v = true ∨ good < s.rd F.SL_VERIFY3_MIN_BANDS → Does (.pathResult p) s fun t =>
            (t.word (0x3060000 + 16 * p.val + 8)).toNat % 8 = 0 ∧
            t.rd F.SL_RES_CNT1_INCOMPLETE = (s.rd F.SL_RES_CNT1_INCOMPLETE + 1) % 2 ^ 16 ∧
            t.rd F.SL_RUN_STAT_LEFT = (r.left.filter (· != p.val)).length % 2 ^ 16 ∧ t.sl.refs = s.sl.refs) ∧
          (v = false → s.rd F.SL_VERIFY3_MIN_BANDS ≤ good → r.op = 2 → Does (.pathResult p) s fun t =>
            (t.word (0x3060000 + 16 * p.val + 8)).toNat % 8 = 5 ∧ t.refValid p.val = true ∧
            (t.word (0x3060000 + 16 * p.val + 12)).toNat = toa % 2 ^ 16 ∧
            Sparse.get none t.sl.refs p.val = some ⟨toa, bands.map fun b => b.map fun x => x.2, wave⟩ ∧
            (∀ o, o ≠ p.val → Sparse.get none t.sl.refs o = Sparse.get none s.sl.refs o)) ∧
          (∀ ref (near band coh : Nat → Prop), v = false → s.rd F.SL_VERIFY3_MIN_BANDS ≤ good → r.op ≠ 2 →
            ref = (Sparse.get none s.sl.refs p.val).getD ⟨(s.word (0x3060000 + 16 * p.val + 12)).toNat % 2 ^ 16, [], []⟩ →
            (∀ m, near m ↔ ((BitVec.ofNat 16 toa).toInt - (BitVec.ofNat 16 ref.toa).toInt).natAbs ≤ m) →
            (∀ m, band m ↔ ∀ (k : Nat) x f, bands[k]? = some (some x) → (s.rd F.SL_VERIFY0_SNR_MIN : Int) * 2 ^ 24 ≤ x.1 → ref.bands.getD k none = some f →
              (x.2 - f).natAbs ≤ m * 2 ^ 23) → (∀ m, coh m ↔ m ≤ rho) →
            (near (s.rd F.SL_VERIFY1_TOA_PASS) ∧ band (s.rd F.SL_VERIFY0_PASS_BAND) ∧ coh (s.rd F.SL_VERIFY2_COH_PASS) →
              Does (.pathResult p) s fun t => (t.word (0x3060000 + 16 * p.val + 8)).toNat % 8 = 1 ∧
                t.rd F.SL_RES_CNT0_PASS = (s.rd F.SL_RES_CNT0_PASS + 1) % 2 ^ 16) ∧
            (¬ (near (s.rd F.SL_VERIFY1_TOA_PASS) ∧ band (s.rd F.SL_VERIFY0_PASS_BAND) ∧ coh (s.rd F.SL_VERIFY2_COH_PASS)) →
              (near (s.rd F.SL_VERIFY1_TOA_PASS) ∨ near (s.rd F.SL_VERIFY1_TOA_MARG)) →
              (band (s.rd F.SL_VERIFY0_PASS_BAND) ∨ band (s.rd F.SL_VERIFY0_MARG_BAND)) →
              (coh (s.rd F.SL_VERIFY2_COH_PASS) ∨ coh (s.rd F.SL_VERIFY2_COH_MARG)) →
              Does (.pathResult p) s fun t => (t.word (0x3060000 + 16 * p.val + 8)).toNat % 8 = 2 ∧
                t.rd F.SL_RES_CNT0_MARGINAL = (s.rd F.SL_RES_CNT0_MARGINAL + 1) % 2 ^ 16) ∧
            (¬ near (s.rd F.SL_VERIFY1_TOA_PASS) ∧ ¬ near (s.rd F.SL_VERIFY1_TOA_MARG) ∨
              ¬ band (s.rd F.SL_VERIFY0_PASS_BAND) ∧ ¬ band (s.rd F.SL_VERIFY0_MARG_BAND) ∨
              ¬ coh (s.rd F.SL_VERIFY2_COH_PASS) ∧ ¬ coh (s.rd F.SL_VERIFY2_COH_MARG) →
              Does (.pathResult p) s fun t => (t.word (0x3060000 + 16 * p.val + 8)).toNat % 8 = 3 ∧
                t.rd F.SL_RES_CNT1_FAIL = (s.rd F.SL_RES_CNT1_FAIL + 1) % 2 ^ 16))))) ∧
    (∀ ok, s.sl.storing = none → exec (.safelightStoreDone ok) s = .next s) ∧
    (∀ k, s.sl.storing = some k →
      (∃ r, exec (.safelightStoreDone true) s = .next (r.respond k 0 0 0 0) ∧ r.on F.SL_STAT_STORE_BUSY = false ∧ r.sl.storing = none ∧
        r.flash.safelight = ⟨s.win.filter fun x => decide (0x3050000 ≤ x.1), s.sl.refs⟩ ∧ s.only [F.SL_STAT_STORE_BUSY.addr] [.regs, .flash, .sl] r) ∧
      (s.quiet 0x28 9 → ∃ r, exec (.safelightStoreDone false) s = .next (r.respond k 0x28 0 0 0) ∧ r.on F.SL_STAT_STORE_BUSY = false ∧
        r.sl.storing = none ∧ s.raised 0x28 9 r ∧ s.only (F.SL_STAT_STORE_BUSY.addr :: srcRegs 0x28) [.regs, .flt, .sl] r))

/-- R16, R277, R311, R315, R316, R319, R320, R322 to R325, R332: the TDM ports: frames in and out, slips, loss and its end, and the ends of pre-roll and
post-roll, the AES3 transmitters' among them. -/
def Obligations.TdmPorts : Prop :=
  ∀ (s : State) (p : Fin 16) (x : TdmPort) (st : Nat), s.canonical = true → x = s.ports.tdm[p] → st = s.rd (F.TDM_STAT_STATE.pg p.val) →
    (∀ slots ns gl rate ph, s.tdmLive p.val = false → exec (.tdmInputFrame p slots ns gl rate ph) s = .next s) ∧
    (s.tdmLive p.val = true → s.mergeOf p.val = none →
      (∀ slots (rate : Int) (ph : BitVec 16), -32768 ≤ rate → rate < 32768 →
        s.rd (F.TDM_CTRL_ASRC.pg p.val) = 1 ∨ s.on (F.TDM_CTRL_MASTER.pg p.val) = true ∨ st ≠ 2 ∨ x.inPos < s.F →
        Does (.tdmInputFrame p slots false false rate ph) s fun t =>
          t.rd (F.TDM_RATE.pg p.val) = unsigned rate 16 ∧
          t.rd (F.TDM_PHASE.pg p.val) = (if s.on (F.TDM_CTRL_MASTER.pg p.val) then 0 else ph.toNat) ∧
          t.rd (F.TDM_STAT_STABLE.pg p.val) = min 1023 (s.rd (F.TDM_STAT_STABLE.pg p.val) + 1) ∧
          t.ports.tdm[p].fsMiss = 0 ∧ t.ports.tdm[p].rateBad = 0 ∧ t.ports.tdm[p].glitches = 0 ∧ t.ports.tdm[p].inPos = x.inPos + 1 ∧
          (st = 2 → t.ports.tdm[p].lastIn = (s.inSlots p.val).map fun k => inWord (bitsCode (s.rd (F.TDM_CTRL_WORD_BITS.pg p.val))) (slots.getD k 0)) ∧
          (st = 2 → (s.rd (F.TDM_CTRL_DIR.pg p.val)).testBit 0 = true → s.rd (F.TDM_CTRL_ASRC.pg p.val) = 0 → x.inPos < s.F → s.F ≤ 16 →
            Sparse.wf (fun _ => 0) s.eng.cap = true → ∀ j k, (s.inSlots p.val)[j]? = some k →
              sampleAt t.eng.cap (s.rd (F.TDM_CHMAP_IN_BASE.pg p.val) + j) x.inPos =
                inWord (bitsCode (s.rd (F.TDM_CTRL_WORD_BITS.pg p.val))) (slots.getD k 0) ∧
              Sparse.get false t.eng.capOk (16 * (s.rd (F.TDM_CHMAP_IN_BASE.pg p.val) + j) + x.inPos) = true) ∧
          s.only [(F.TDM_RATE.pg p.val).addr, (F.TDM_PHASE.pg p.val).addr, (F.TDM_STAT_STABLE.pg p.val).addr] [.regs, .eng, .ports] t) ∧
      (∀ slots ph, st = 2 → x.glitches < 2 → s.quiet (0x30 + p.val) 1 → Does (.tdmInputFrame p slots false true 0 ph) s fun t =>
        (t.rd (F.FLT_LATCH.pg (0x30 + p.val))).testBit 1 = true ∧ t.rd (F.TDM_GLITCH_CNT.pg p.val) = (s.rd (F.TDM_GLITCH_CNT.pg p.val) + 1) % 2 ^ 32 ∧
        t.rd (F.TDM_STAT_STABLE.pg p.val) = 0 ∧ t.rd (F.TDM_STAT_STATE.pg p.val) = 2 ∧ t.ports.tdm[p].lastIn = x.lastIn ∧
        t.ports.tdm[p].glitches = x.glitches + 1) ∧
      (∀ slots ns gl rate ph cause, st ≠ 3 → s.broken (0x30 + p.val) 0 = false →
        (cause = 2 ∧ ns = true ∧ 1 ≤ x.fsMiss ∨ cause = 3 ∧ ns = false ∧ 80000 < rate.natAbs ∧ 1 ≤ x.rateBad ∨
          cause = 4 ∧ ns = false ∧ rate.natAbs ≤ 80000 ∧ gl = true ∧ 2 ≤ x.glitches) →
        Does (.tdmInputFrame p slots ns gl rate ph) s fun t => t.rd (F.TDM_STAT_STATE.pg p.val) = 3 ∧ t.rd (F.TDM_STAT_CAUSE.pg p.val) = cause ∧
          t.rd (F.TDM_STAT_STABLE.pg p.val) = 0 ∧ t.rd (F.TDM_LOSS_CNT.pg p.val) = (s.rd (F.TDM_LOSS_CNT.pg p.val) + 1) % 2 ^ 32 ∧
          t.raw (0x30 + p.val) 0 = true) ∧
      (∀ slots ph, st = 2 → s.rd (F.TDM_CTRL_ASRC.pg p.val) = 0 → s.on (F.TDM_CTRL_MASTER.pg p.val) = false → s.F ≤ x.inPos →
        s.quiet (0x30 + p.val) 2 → Does (.tdmInputFrame p slots false false 0 ph) s fun t =>
          (t.rd (F.FLT_LATCH.pg (0x30 + p.val))).testBit 2 = true ∧
          t.rd (F.TDM_SLIP_CNT_IN.pg p.val) = min (2 ^ 16 - 1) (s.rd (F.TDM_SLIP_CNT_IN.pg p.val) + 1) ∧ t.ports.tdm[p].inPos = x.inPos)) ∧
    (s.tdmLive p.val = false ∨ (s.rd (F.TDM_CTRL_DIR.pg p.val)).testBit 1 = false → exec (.tdmOutputFrame p) s = .next s) ∧
    (s.tdmLive p.val = true → (s.rd (F.TDM_CTRL_DIR.pg p.val)).testBit 1 = true → Does (.tdmOutputFrame p) s fun t => ∃ w z,
      t.out = .tdm p.val w z :: s.out ∧ (s.on (F.TDM_CTRL_HIZ.pg p.val) = false → z = 0) ∧
      (s.on (F.TDM_CTRL_HIZ.pg p.val) = true → st ≠ 3 → ∀ k ≤ s.rd (F.TDM_CTRL_SLOTS.pg p.val), z.testBit k = !(s.rd (F.TDM_SLOTMASK.pg p.val)).testBit k) ∧ w.length = s.rd (F.TDM_CTRL_SLOTS.pg p.val) + 1 ∧ t.ports.tdm[p].outPos = x.outPos + 1 ∧
      t.ports.tdm[p].lastOut = w ∧
      (st = 2 → s.rd (F.TDM_CTRL_ASRC.pg p.val) = 0 → x.ramp = none → x.fade = none → x.rise = none → x.outPos < s.F → ∀ (j : Nat) k, (s.outSlots p.val)[j]? = some k →
        w.getD k 0 = outWord (bitsCode (s.rd (F.TDM_CTRL_WORD_BITS.pg p.val)))
          (sampleAt s.eng.emit (s.rd (F.TDM_CHMAP_OUT_BASE.pg p.val) + j) x.outPos)) ∧
      (st = 3 → s.on (F.TDM_CTRL_MASTER.pg p.val) = false → ∀ u ∈ w, u = 0) ∧
      (st ≠ 3 → s.claimsOut p.val = true → s.enabled 0x83 = true → s.rd (F.TDM_CTRL_SLOT_BITS.pg p.val) = 2 → ∀ k, (s.slotsOf p.val).getLast? = some k →
        w.getD k 0 = claimWord s.claim) ∧
      (st = 2 → s.rd (F.TDM_CTRL_ASRC.pg p.val) = 0 → s.on (F.TDM_CTRL_MASTER.pg p.val) = false → s.F ≤ x.outPos → s.claimsOut p.val = false →
        (∀ k < w.length, w.getD k 0 = x.lastOut.getD k 0) ∧
        t.rd (F.TDM_SLIP_CNT_OUT.pg p.val) = min (2 ^ 16 - 1) (s.rd (F.TDM_SLIP_CNT_OUT.pg p.val) + 1) ∧
        (s.quiet (0x30 + p.val) 2 → s.raised (0x30 + p.val) 2 t))) ∧
    (s.tdmLive p.val = false → exec (.tdmBclkLoss p) s = .next s) ∧
    (s.tdmLive p.val = true →
      (st = 3 → Does (.tdmBclkLoss p) s fun t => t.rd (F.TDM_STAT_STATE.pg p.val) = 3 ∧ t.rd (F.TDM_STAT_CAUSE.pg p.val) = 1 ∧
        t.rd (F.TDM_STAT_STABLE.pg p.val) = 0 ∧ s.only [(F.TDM_STAT_STATE.pg p.val).addr] [.regs] t) ∧
      (st ≠ 3 → Does (.tdmBclkLoss p) s fun t => t.rd (F.TDM_STAT_STATE.pg p.val) = 3 ∧ t.rd (F.TDM_STAT_CAUSE.pg p.val) = 1 ∧
        t.rd (F.TDM_LOSS_CNT.pg p.val) = (s.rd (F.TDM_LOSS_CNT.pg p.val) + 1) % 2 ^ 32 ∧ t.raw (0x30 + p.val) 0 = true ∧
        (∀ a < 64, t.bitArr F.ASRC_LOCK a = (s.bitArr F.ASRC_LOCK a && decide (a ∉ s.asrcOf 0 p.val))) ∧
        s.only ((F.TDM_STAT_STATE.pg p.val).addr :: (F.TDM_LOSS_CNT.pg p.val).addr :: F.ASRC_LOCK.addr :: (F.ASRC_LOCK.addr + 4) ::
          srcRegs (0x30 + p.val)) [.regs, .flt] t)) ∧
    (st ≠ 3 ∨ s.rd (F.TDM_STAT_STABLE.pg p.val) < 64 → exec (.tdmLossExit p) s = .next s) ∧
    (st = 3 → 64 ≤ s.rd (F.TDM_STAT_STABLE.pg p.val) → s.broken (0x30 + p.val) 0 = false → Does (.tdmLossExit p) s fun t =>
      t.rd (F.TDM_STAT_STATE.pg p.val) = 2 ∧ t.raw (0x30 + p.val) 0 = false ∧
      t.ports.tdm[p] = { x with fade := if s.on (F.TDM_CTRL_MASTER.pg p.val) then none else some 0 } ∧
      s.only ((F.TDM_STAT_STATE.pg p.val).addr :: srcRegs (0x30 + p.val)) [.regs, .flt, .ports] t) ∧
    (∀ (b : Byte) (g : Nat), g = b.toNat →
      ((isTdmPage g = false ∧ isAoutPage g = false ∨ s.rd (rollField g) ≠ 1 ∨ s.mayEnable (s.rollOf g) = false ∨
        isAoutPage g = false ∧ (s.rollOf g).left ≠ 0) → exec (.preRollEnd b) s = .next s) ∧
      (isTdmPage g = true ∧ (s.rollOf g).left = 0 ∨ isAoutPage g = true → s.rd (rollField g) = 1 → s.mayEnable (s.rollOf g) = true →
        Does (.preRollEnd b) s fun t => t.rd (rollField g) = 2 ∧ (t.rollOf g).slow = false ∧
          (t.rollOf g).rise = (if (s.rollOf g).slow = true ∧ s.eng.level = .full then some 0 else none) ∧ s.only [(rollField g).addr] [.regs, .ports] t) ∧
      ((isTdmPage g = false ∧ isAoutPage g = false ∨ s.rd (rollField g) ≠ 4 ∨
        isAoutPage g = false ∧ ((s.rollOf g).left ≠ 0 ∨ (s.rollOf g).ramp ≠ none) ∨
        (s.rollOf g).restart = true ∧ s.tick < (s.rollOf g).notBefore) → exec (.postRollEnd b) s = .next s) ∧
      (isTdmPage g = true ∧ (s.rollOf g).left = 0 ∧ (s.rollOf g).ramp = none ∨ isAoutPage g = true → s.rd (rollField g) = 4 →
        ((s.rollOf g).restart = false → Does (.postRollEnd b) s fun t => t.rd (rollField g) = 0 ∧ (t.rollOf g).ramp = none ∧
          (t.rollOf g).fade = none ∧ (s.admitted g = false → t.enabled g = false) ∧
          (s.admitted g = true → s.only [(rollField g).addr] [.regs, .ports] t)) ∧
        ((s.rollOf g).restart = true → (s.rollOf g).notBefore ≤ s.tick → Does (.postRollEnd b) s fun t =>
          t.rd (rollField g) = (if s.preRoll g = 0 ∧ s.on F.CG_STAT_GLIDING = false then 2 else 1) ∧ (t.rollOf g).left = s.preRoll g ∧ (t.rollOf g).restart = false ∧
          s.only [(rollField g).addr] [.regs, .ports] t)))

/-- R330, R331: AOUT_CS_COMMIT, and the block that a transmitter starts: with a commit written and a frame gone since, it takes the whole set; until then it sends the set it has. -/
def Obligations.ChannelStatus : Prop :=
  ∀ (s : State), s.canonical = true →
    (∀ (n : Fin 8) aged, (s.enabled (0x48 + n.val) = false → exec (.aes3TxBlockStart n aged) s = .next s) ∧
      (s.enabled (0x48 + n.val) = true → ∀ o, o = (if s.ports.aout[n].commit = true ∧ aged = true then s.aoutSet n else s.ports.aout[n]) →
        o.csA.length = 6 → o.csB.length = 6 → Does (.aes3TxBlockStart n aged) s fun t => t.ports.aout[n] = o ∧ s.only [] [.out, .ports] t ∧
          ∃ b, t.out = .aes3 n.val b :: s.out ∧ b.length = 48 ∧ b.take 23 = (o.csA.flatMap fun w => leBytes 4 w.toNat).take 23 ∧
            (b.drop 24).take 23 = ((if s.on (F.AOUT_CTRL_CS_LINK.pg n.val) then o.csA else o.csB).flatMap fun w => leBytes 4 w.toNat).take 23 ∧
            (b.getD 23 0).toNat = aesCrcc b % 256 ∧ (b.getD 47 0).toNat = aesCrcc (b.drop 24) % 256)) ∧
    (∀ n : Fin 8, exec (.aoutCsCommit n false) s = .next s ∧ Does (.aoutCsCommit n true) s fun t =>
      t.ports.aout[n] = { s.ports.aout[n] with commit := true } ∧ (∀ m : Fin 8, m ≠ n → t.ports.aout[m] = s.ports.aout[m]) ∧ s.only [] [.ports] t)

/-- R327, R329, R331, R334, R335, R338: AES3 receivers and transmitters, the PDM clock and microphones, and the ASRC estimators. -/
def Obligations.AesPdmAsrc : Prop :=
  ∀ (s : State), s.canonical = true →
    (∀ (r : Fin 8) (pre : Fin 3) (viol : Bool) (rate : Fin 8) (a b : Word) (va vb pa pb : Bool) (x : AesIn) (i : Instr), x = s.ports.ain[r] →
      i = .aes3RxFrame r pre viol rate a b va vb pa pb →
      (s.enabled (0x40 + r.val) = false → exec i s = .next s) ∧
      (s.enabled (0x40 + r.val) = true → s.broken (0x40 + r.val) 0 = false →
        (s.on (F.AIN_STAT_LOCK.pg r.val) = true → viol = true ∨ pre = 0 ∧ 1 ≤ x.bad → Does i s fun t =>
          t.on (F.AIN_STAT_LOCK.pg r.val) = false ∧ t.rd (F.AIN_STAT_RATE_MEAS.pg r.val) = 7 ∧ t.raw (0x40 + r.val) 0 = true ∧
          t.eng.cap = s.eng.cap) ∧
        (s.on (F.AIN_STAT_LOCK.pg r.val) = false → viol = false → pre = 1 ∧ x.zOk = true ∨ pre = 2 ∧ x.sinceZ = some 191 → 3 ≤ x.good →
          Does i s fun t => t.on (F.AIN_STAT_LOCK.pg r.val) = true ∧ t.rd (F.AIN_STAT_RATE_MEAS.pg r.val) = rate.val ∧
            t.raw (0x40 + r.val) 0 = false ∧ t.eng.cap = s.eng.cap) ∧
        (s.on (F.AIN_STAT_LOCK.pg r.val) = true → viol = false → pre ≠ 0 → Does i s fun t =>
          t.rd (F.AIN_INVALID_CNT.pg r.val) = (s.rd (F.AIN_INVALID_CNT.pg r.val) + va.toNat + vb.toNat) % 2 ^ 32 ∧
          t.rd (F.AIN_ERR_PARITY.pg r.val) = min 0xFFFF (s.rd (F.AIN_ERR_PARITY.pg r.val) + (!pa).toNat + (!pb).toNat) ∧
          (s.quiet (0x40 + r.val) 1 → pa = false ∨ pb = false → s.raised (0x40 + r.val) 1 t) ∧
          (s.on (F.AIN_CTRL_ASRC.pg r.val) = false → s.changing (0x40 + r.val) = false → x.inPos < s.F → s.F ≤ 16 → Sparse.wf (fun _ => 0) s.eng.cap = true →
            Sparse.wf (fun _ => false) s.eng.capOk = true → ∀ c m, c = s.rd (F.AIN_CHMAP.pg r.val) →
              m = (if s.on (F.AIN_CTRL_WL20.pg r.val) then 0xFFFFF000#32 else 0xFFFFFF00#32) →
              sampleAt t.eng.cap c x.inPos = a &&& m ∧ Sparse.get false t.eng.capOk (16 * c + x.inPos) = (!va && pa) ∧
              sampleAt t.eng.cap (c + 1) x.inPos = b &&& m ∧ Sparse.get false t.eng.capOk (16 * (c + 1) + x.inPos) = (!vb && pb))))) ∧
    (∀ (r : Fin 8) csA csB ubA ubB, (s.on (F.AIN_STAT_LOCK.pg r.val) = false → exec (.aes3CsBlockRx r csA csB ubA ubB) s = .next s) ∧
      (s.on (F.AIN_STAT_LOCK.pg r.val) = true → Does (.aes3CsBlockRx r csA csB ubA ubB) s fun t =>
        t.rd (F.AIN_CS_SEQ.pg r.val) = (s.rd (F.AIN_CS_SEQ.pg r.val) + 1) % 2 ^ 32 ∧
        (∀ k : Fin 6, ∀ (f : Fld) b, (f, b) ∈ [(F.AIN_CS_A, csA), (F.AIN_CS_B, csB), (F.AIN_UB_A, ubA), (F.AIN_UB_B, ubB)] →
          t.reg ((f.pg r.val).addr + 4 * k.val) = (wordsOf ((b ++ List.replicate 24 0).take 24)).getD k.val 0) ∧
        t.on (F.AIN_STAT_PRO.pg r.val) = (csA.getD 0 0).getLsbD 0 ∧
        ∀ n, n = ([csA, csB].filter fun b => aesCrcc ((b ++ List.replicate 24 0).take 24) != (b.getD 23 0).toNat).length →
          t.rd (F.AIN_ERR_CRCC.pg r.val) = min 0xFFFF (s.rd (F.AIN_ERR_CRCC.pg r.val) + n) ∧
          (n ≠ 0 → s.quiet (0x40 + r.val) 2 → s.raised (0x40 + r.val) 2 t) ∧ (n = 0 → s.sameBut [.regs] t))) ∧
    (s.enabled 0x50 = false ∨ s.on F.PDM_CTRL_MASTER = true ∨ s.on F.PDM_STAT = true → exec .pdmClockLoss s = .next s) ∧
    (s.enabled 0x50 = true → s.on F.PDM_CTRL_MASTER = false → s.on F.PDM_STAT = false → Does .pdmClockLoss s fun t =>
      t.on F.PDM_STAT = true ∧ t.rd F.PDM_LOSS_CNT = (s.rd F.PDM_LOSS_CNT + 1) % 2 ^ 32 ∧ t.raw 0x50 0 = true ∧
      s.only (F.PDM_STAT.addr :: F.PDM_LOSS_CNT.addr :: srcRegs 0x50) [.regs, .flt] t) ∧
    (s.on F.PDM_STAT = false → exec .pdmLossExit s = .next s) ∧
    (s.on F.PDM_STAT = true → s.broken 0x50 0 = false → Does .pdmLossExit s fun t =>
      t.on F.PDM_STAT = false ∧ t.raw 0x50 0 = false ∧ s.only (F.PDM_STAT.addr :: srcRegs 0x50) [.regs, .flt] t) ∧
    (∀ m : Fin 32, (s.enabled 0x50 = false → exec (.micStuck m) s = .next s) ∧
      (s.enabled 0x50 = true → Does (.micStuck m) s fun t => (∀ k : Fin 32, (t.rd F.PDM_STUCK).testBit k.val = (decide (k = m) ||
        (s.rd F.PDM_STUCK).testBit k.val)) ∧ t.raw 0x50 1 = true ∧ s.only (F.PDM_STUCK.addr :: srcRegs 0x50) [.regs, .flt] t) ∧
      (s.enabled 0x50 = true → s.broken 0x50 1 = false → Does (.micStuckEnd m) s fun t => (∀ k : Fin 32, (t.rd F.PDM_STUCK).testBit k.val =
        (decide (k ≠ m) && (s.rd F.PDM_STUCK).testBit k.val)) ∧ t.raw 0x50 1 = decide (t.rd F.PDM_STUCK ≠ 0) ∧
        s.only (F.PDM_STUCK.addr :: srcRegs 0x50) [.regs, .flt] t)) ∧
    (∀ (kind : Fin 2) (port : Fin 16) l, l = s.asrcOf kind.val port.val →
      (Does (.asrcLock kind port) s fun t => (∀ a < 64, t.bitArr F.ASRC_LOCK a = (s.bitArr F.ASRC_LOCK a || decide (a ∈ l))) ∧
        Sparse.get 32 t.ports.asrcFade ((if kind = 0 then 0x30 else 0x48) + port.val) = 0 ∧
        s.only [F.ASRC_LOCK.addr, F.ASRC_LOCK.addr + 4] [.regs, .ports] t) ∧
      ((∀ a ∈ l, s.bitArr F.ASRC_LOCK a = false) → exec (.asrcUnlock kind port) s = .next s) ∧
      ((∃ a ∈ l, s.bitArr F.ASRC_LOCK a = true) → s.quiet 0x51 0 → Does (.asrcUnlock kind port) s fun t =>
        (∀ a < 64, t.bitArr F.ASRC_LOCK a = (s.bitArr F.ASRC_LOCK a && decide (a ∉ l))) ∧
        t.rd F.ASRC_UNLOCK_CNT = (s.rd F.ASRC_UNLOCK_CNT + 1) % 2 ^ 32 ∧ s.raised 0x51 0 t ∧
        s.only (F.ASRC_LOCK.addr :: (F.ASRC_LOCK.addr + 4) :: F.ASRC_UNLOCK_CNT.addr :: srcRegs 0x51) [.regs, .flt] t))

/-- R51, R52, R145, R150, R157, R158, R495: NOP, PARAM_WRITE, PARAM_READ and LOG_READ: each refusal leaves the state as the common checks left it, and
a command that is in order has its effect, in the order in which the checks stand. -/
def Obligations.ParameterCommands : Prop :=
  ∀ (s v : State), s.canonical = true → v.canonical = true →
    (∀ ring d, Answers (.nop ring d) s v St.ok 0 0 0 fun r => r = v) ∧
    (∀ ring d b off l, b = d.body → off = fieldAt b 0 4 → l = offsetWords off (wordsOf (b.drop 4)) →
      (v.scn.armed ≠ none → (∃ x ∈ l, 0x1000000 ≤ x.1 ∧ x.1 < 0x2000000) → Answers (.paramWrite ring d) s v St.state 0 0 0 fun r => r = v) ∧
      (v.scn.armed = none ∨ (∀ x ∈ l, x.1 < 0x1000000 ∨ 0x2000000 ≤ x.1) →
        (off % 4 ≠ 0 ∨ v.raiseZero l = true → Answers (.paramWrite ring d) s v St.badArg 0 0 0 fun r => r = v) ∧
        (off % 4 = 0 → v.raiseZero l = false →
          (0x4000000 < off + (b.length - 4) → Answers (.paramWrite ring d) s v St.paramRange 0 0 0 fun r => r = v) ∧
          (off + (b.length - 4) ≤ 0x4000000 →
            ((∃ x ∈ l, x.1 < 0x1000000) → v.quiet 0x24 0 → Answers (.paramWrite ring d) s v St.paramActive 0 0 0 fun r =>
              v.raised 0x24 0 r ∧ v.only (srcRegs 0x24) [.regs, .flt] r) ∧
            ((∀ x ∈ l, 0x1000000 ≤ x.1) →
              (d.role.toNat < 3 → v.writeTouches l = true → Answers (.paramWrite ring d) s v St.paramLs 0 0 0 fun r => r = v) ∧
              (3 ≤ d.role.toNat ∨ v.writeTouches l = false → (∀ x ∈ l, x.1 < 0x1600000 ∧ v.nodeIn (x.1 - 0x1000000) = true) →
                Answers (.paramWrite ring d) s v St.ok 0 0 0 fun r => (∀ x ∈ l, r.word x.1 = x.2) ∧
                  (∀ a, a < off ∨ off + (b.length - 4) ≤ a → r.byte a = v.byte a) ∧
                  v.sameBut [.regs, .win, .scn, .out, .pair] r)))))) ∧
    (∀ ring d b dst off len, b = d.body → dst = fieldAt b 0 8 → off = fieldAt b 8 4 → len = fieldAt b 12 4 →
      (off % 4 ≠ 0 ∨ len % 4 ≠ 0 ∨ len = 0 ∨ 65536 < len → Answers (.paramRead ring d) s v St.badArg 0 0 0 fun r => r = v) ∧
      (off % 4 = 0 → len % 4 = 0 → len ≠ 0 → len ≤ 65536 →
        (0x4000000 < off + len → Answers (.paramRead ring d) s v St.paramRange 0 0 0 fun r => r = v) ∧
        (off + len ≤ 0x4000000 →
          (v.destBad d dst len = true → Answers (.paramRead ring d) s v St.dmaErr 0 0 0 fun r => r = v) ∧
          (v.destBad d dst len = false → v.on F.HOST_CTRL_RING_OWNER = false → off + len ≤ 0x2000000 ∨ 0x3000800 ≤ off →
            Answers (.paramRead ring d) s v St.ok 0 0 0 fun r => r.out = .dma dst ((List.range len).map fun k => v.byte (off + k)) :: v.out ∧
              v.only [] [.out] r)))) ∧
    (∀ ring d b dst first n, b = d.body → dst = fieldAt b 0 8 → first = fieldAt b 8 4 → n = fieldAt b 12 4 →
      (n = 0 ∨ 4096 < n → Answers (.logRead ring d) s v St.badArg 0 0 0 fun r => r = v) ∧
      (n ≠ 0 → n ≤ 4096 →
        (first < v.rd F.LOG_OLDEST ∨ v.rd F.LOG_HEAD < first + n - 1 → Answers (.logRead ring d) s v St.logRange 0 0 0 fun r => r = v) ∧
        (v.rd F.LOG_OLDEST ≤ first → first + n - 1 ≤ v.rd F.LOG_HEAD →
          (v.destBad d dst (64 * n) = true → Answers (.logRead ring d) s v St.dmaErr 0 0 0 fun r => r = v) ∧
          (v.destBad d dst (64 * n) = false → v.on F.HOST_CTRL_RING_OWNER = false → Answers (.logRead ring d) s v St.ok 0 n 0 fun r =>
            r.out = .dma dst ((List.range n).flatMap fun i => v.logBytes (first + i)) :: v.out ∧ v.only [] [.out] r))))

/-- R53, R67, R70 to R73, R85, R159 to R162, R178, R234: PLAN_LOAD, ADMIT, DEVELOP, its cancel, and FIX. -/
def Obligations.PlanCommands : Prop :=
  ∀ (s v : State), s.canonical = true → v.canonical = true →
    (∀ ring d,
      (parsePlan d.body = none → Answers (.planLoad ring d) s v St.planFormat 0 0 0 fun r => r = v) ∧
      (∀ p, parsePlan d.body = some p → p.kerns.any v.kernSigBad = true → Answers (.planLoad ring d) s v St.planSig 0 0 0 fun r => r = v) ∧
      (∀ p, parsePlan d.body = some p → p.kerns.any v.kernSigBad = false → Answers (.planLoad ring d) s v St.ok 0 0 0 fun r =>
        r.eng = { v.eng with loaded := some p } ∧ v.only [] [.eng, .out, .pair] r)) ∧
    (∀ ring d peer dst len, dst = fieldAt d.body 0 8 → len = fieldAt d.body 8 4 →
      (v.planArmed = true → Answers (.admitPlan ring d peer) s v St.state 0 0 0 fun r => r = v) ∧
      (v.planArmed = false → v.destBad d dst len = true → Answers (.admitPlan ring d peer) s v St.dmaErr 0 0 0 fun r => r = v) ∧
      (v.planArmed = false → v.destBad d dst len = false →
        (100 < d.arg0.toNat ∨ len < 32 → Answers (.admitPlan ring d peer) s v St.badArg 0 0 0 fun r => r = v) ∧
        (d.arg0.toNat ≤ 100 → 32 ≤ len →
          (v.eng.loaded = none → Answers (.admitPlan ring d peer) s v St.noPlan 0 0 0 fun r => r = v) ∧
          (∀ p j out, v.eng.loaded = some p → j = v.judgePlan p d.arg0.toNat peer →
            out = (resultBytes j (v.pair.formed && v.linkUp) (decide (len < 192 + 4 * p.paths.length + 8 * p.insts.length))).take (len / 4 * 4) →
            Answers (.admitPlan ring d peer) s v St.ok 0 (j.code + 256 * j.detail) out.length fun r =>
              r.rd F.ADM_STAT_LAST_CODE = j.code % 2 ^ 8 ∧ r.rd F.ADM_DETAIL = j.detail % 2 ^ 24 ∧ r.rd F.ADM_EXCESS = j.excess % 2 ^ 32 ∧
              r.rd F.ADM_STAT_ADMIT_SEQ = (v.rd F.ADM_STAT_ADMIT_SEQ + 1) % 2 ^ 16 ∧ r.eng.run = v.eng.run ∧
              (j.code = 0 → r.eng.pend = some j.plan ∧ r.on F.ADM_STAT_PENDING = true ∧ r.on F.ADM_STAT_DISRUPTIVE = j.plan.disruptive) ∧
              (j.code ≠ 0 → r.eng.pend = v.eng.pend ∧ r.win = v.win ∧ (v.quiet 0x02 4 → v.raised 0x02 4 r)))))) ∧
    (∀ ring d d' b tick classes, hostDesc (.develop ring d) = some (ring, d') → b = d'.body → classes = fieldAt b 4 1 →
      tick = d.arg0.toNat + 2 ^ 32 * d.arg1.toNat →
      (v.on F.SCN_STAT_JRNL_FULL = true → Answers (.develop ring d) s v St.state 0 0 0 fun r => r = v) ∧
      (v.on F.SCN_STAT_JRNL_FULL = false →
        (v.lsDirty = true → d.role.toNat < 3 → Answers (.develop ring d) s v St.paramLs 0 0 0 fun r => r = v) ∧
        (v.lsDirty = false ∨ 3 ≤ d.role.toNat →
          (classes = 0 ∨ 16 ≤ classes ∨ (v.eng.pend ≠ none ∧ classes ≠ 15) ∨ fieldAt b 5 1 ≠ 0 ∨ (∃ x ∈ b.drop 6, x ≠ 0) →
            Answers (.develop ring d) s v St.badArg 0 0 0 fun r => r = v) ∧
          (classes ≠ 0 → classes < 16 → (v.eng.pend = none ∨ classes = 15) → fieldAt b 5 1 = 0 → (∀ x ∈ b.drop 6, x = 0) →
            (v.scn.arming ≠ none ∨ v.scn.armed ≠ none → Answers (.develop ring d) s v St.devPending 0 0 0 fun r => r = v) ∧
            (v.scn.arming = none → v.scn.armed = none →
              (tick < v.tick + 4 ∨ v.tick + 2 ^ 24 < tick → Answers (.develop ring d) s v St.devTick 0 0 0 fun r => r = v) ∧
              (∀ x : Develop, v.tick + 4 ≤ tick → tick ≤ v.tick + 2 ^ 24 →
                x = { seq := v.scn.seq + 1, tick := tick, lr := fieldAt b 0 2, ld := fieldAt b 2 2, classes := classes,
                      lines := v.commitLines classes, regs := v.commitRegs classes, withPlan := v.eng.pend.isSome,
                      ls := v.coversLs (v.commitLines classes), armed := false, ticket := some (Sys2Proof.Machine.Desc.ticket d' ring),
                      pages := 0, confirmed := false } →
                (v.journalFits (.develop x (v.planOf x)) = false → Answers (.develop ring d) s v St.state 0 0 0 fun r => r = v) ∧
                (v.journalFits (.develop x (v.planOf x)) = true → Starts (.develop ring d) s v fun r =>
                  (∃ n, r.scn = { v.scn with seq := x.seq, arming := some { x with pages := n } }) ∧ r.on F.SCN_STAT_JRNL_BUSY = true ∧
                  v.only [F.SCN_STAT_JRNL_BUSY.addr] [.regs, .scn] r))))))) ∧
    (∀ ring d d' b tick, hostDesc (.developCancel ring d) = some (ring, d') → b = d'.body → (fieldAt b 5 1).testBit 0 = true →
      tick = d.arg0.toNat + 2 ^ 32 * d.arg1.toNat →
      (v.scn.armed = none → Answers (.developCancel ring d) s v St.badArg 0 0 0 fun r => r = v) ∧
      (∀ x, v.scn.armed = some x →
        (x.tick ≠ tick ∨ fieldAt b 5 1 ≠ 1 ∨ (∃ y ∈ b.drop 6, y ≠ 0) → Answers (.developCancel ring d) s v St.badArg 0 0 0 fun r => r = v) ∧
        (x.tick = tick → fieldAt b 5 1 = 1 → (∀ y ∈ b.drop 6, y = 0) →
          (x.ls = true → d.role.toNat < 3 → Answers (.developCancel ring d) s v St.paramLs 0 0 0 fun r => r = v) ∧
          (x.ls = false ∨ 3 ≤ d.role.toNat →
            (tick < v.tick + 4 → Answers (.developCancel ring d) s v St.devTick 0 0 0 fun r => r = v) ∧
            (v.tick + 4 ≤ tick → v.scn.held = [] → Answers (.developCancel ring d) s v St.ok 0 0 0 fun r => r.scn.armed = none ∧
              r.on F.SCN_STAT_ARMED = false ∧ r.rd F.SCN_CANCEL_CNT = (v.rd F.SCN_CANCEL_CNT + 1) % 2 ^ 32 ∧ r.win = v.win ∧
              r.scn.lines = v.scn.lines ∧ r.eng = v.eng))))) ∧
    (∀ ring d,
      (v.on F.SCN_STAT_FIX_BUSY = true ∨ v.scn.fixTicket ≠ none → Answers (.fix ring d) s v St.busy 0 0 0 fun r => r = v) ∧
      (v.on F.SCN_STAT_FIX_BUSY = false → v.scn.fixTicket = none → Starts (.fix ring d) s v fun r =>
        r.rd F.FIX_STAT_PHASE = 1 ∧ r.on F.SCN_STAT_FIX_BUSY = true ∧ r.scn.fixTicket ≠ none ∧ r.scn.fix = none ∧
        r.scn.fixAt = (if v.leads = true ∧ v.linkUp = true then v.tick + 4 else v.tick + 1) ∧
        v.only [F.FIX_STAT_PHASE.addr, F.SCN_STAT_FIX_BUSY.addr] [.regs, .scn, .out, .pair] r))

/-- R55, R57, R113 to R117, R148: CLIP_LOAD, CLIP_PLAY, CLIP_STOP and SHEET_DEFINE. -/
def Obligations.ClipAndSheetCommands : Prop :=
  ∀ (s v : State), s.canonical = true → v.canonical = true →
    (∀ ring d num up, num = d.arg0.toNat → up = d.arg1.toNat →
      (4095 < num ∨ up < 48 ∨ 55 < up → Answers (.clipLoad ring d) s v St.badArg 0 0 0 fun r => r = v) ∧
      (num ≤ 4095 → 48 ≤ up → up ≤ 55 →
        (v.host.clipWait ≠ none → Answers (.clipLoad ring d) s v St.busy 0 0 0 fun r => r = v) ∧
        (v.host.clipWait = none →
          (v.ringRuns up = false → Answers (.clipLoad ring d) s v St.dmaErr 0 0 0 fun r => r = v) ∧
          (∀ b len, v.ringRuns up = true → (∀ x ∈ v.queueOf up, x.reach = true) → b = uploadData (v.queueOf up) → len = fieldAt b 8 4 →
            (b.length < 32 → Starts (.clipLoad ring d) s v fun r => (∃ k, r.host.clipWait = some (k, num, up)) ∧ v.only [] [.host] r) ∧
            (32 ≤ b.length → clipHeaderBad b = true → Answers (.clipLoad ring d) s v St.badArg 0 0 0 fun r =>
              r.host.clipWait = none ∧ r.eng = v.eng) ∧
            (32 ≤ b.length → clipHeaderBad b = false →
              (b.length < 32 + 4 * fieldAt b 5 1 * len → Starts (.clipLoad ring d) s v fun r => (∃ k, r.host.clipWait = some (k, num, up)) ∧
                v.only [] [.host] r) ∧
              (32 + 4 * fieldAt b 5 1 * len ≤ b.length →
                (len ≠ 0 → v.libraryRoom num < 32 + 4 * fieldAt b 5 1 * len → Answers (.clipLoad ring d) s v St.clipSpace 0 0 0 fun r =>
                  r.eng = v.eng) ∧
                (len = 0 ∨ 32 + 4 * fieldAt b 5 1 * len ≤ v.libraryRoom num → v.leads = false ∨ v.linkUp = false →
                  Answers (.clipLoad ring d) s v St.ok 0 0 0 fun r => r.host.clipWait = none ∧
                    r.eng = { v.eng with clips := (v.eng.clips.filter fun y => y.num != num) ++ if len = 0 then [] else
                      [⟨num, fieldAt b 4 1, fieldAt b 5 1, len, fieldAt b 12 4, wordsOf ((b.take (32 + 4 * fieldAt b 5 1 * len)).drop 32)⟩] }))))))) ∧
    (∀ i ring d d' p z c, hostDesc i = some (ring, d') → d'.arg0.toNat / 2 ^ 12 % 2 ^ 5 = p → d'.arg0.toNat / 2 ^ 24 % 2 ^ 8 = z →
      d'.arg0.toNat % 2 ^ 12 = c → i = .clipPlay ring d ∨ i = .clipStop ring d →
      (d'.role.toNat < 3 → (z ≠ 255 ∧ v.presetLs z = true) ∨ v.playerLs p = true → Answers i s v St.role 0 0 0 fun r => r = v) ∧
      (3 ≤ d'.role.toNat ∨ ((z = 255 ∨ v.presetLs z = false) ∧ v.playerLs p = false) →
        (d'.arg0.toNat / 2 ^ 20 % 2 ^ 4 ≠ 0 → Answers i s v St.badArg 0 0 0 fun r => r = v) ∧
        (d'.arg0.toNat / 2 ^ 20 % 2 ^ 4 = 0 →
          (v.playerInst p = none → Answers i s v St.clipNone 0 0 0 fun r => r = v) ∧
          (v.playerInst p ≠ none →
            (i = .clipStop ring d → Answers i s v St.ok 0 0 0 fun r =>
              r.eng = { v.eng with starts := v.eng.starts ++ [⟨v.tick + 3, p, none, d'.arg0.getLsbD 18, z, true, false⟩] } ∧
              v.only [] [.eng, .out, .pair] r) ∧
            (i = .clipPlay ring d →
              (v.clipOk c = false → Answers i s v St.clipNone 0 0 0 fun r => r = v) ∧
              (v.clipOk c = true →
                (v.playing p = true → d'.arg0.getLsbD 17 = false → Answers i s v St.clipBusy 0 0 0 fun r => r = v) ∧
                (v.playing p = false ∨ d'.arg0.getLsbD 17 = true → Answers i s v St.ok 0 0 0 fun r =>
                  r.eng = { v.eng with starts := v.eng.starts ++ [⟨v.tick + 3, p, some c, d'.arg0.getLsbD 18, z, true, false⟩] } ∧
                  v.only [] [.eng, .out, .pair] r))))))) ∧
    (∀ ring d n k l, n = d.arg0.toNat → k = d.arg1.toNat → l = wordsOf d.body →
      (n < 32 ∨ 47 < n ∨ k = 0 ∨ 65535 < k → Answers (.sheetDefine ring d) s v St.badArg 0 0 0 fun r => r = v) ∧
      (32 ≤ n → n ≤ 47 → k ≠ 0 → k ≤ 65535 →
        ((∃ w ∈ l, w.toNat / 2 ^ 16 % 2 ^ 12 ≠ 0 ∨ (w.toNat / 2 ^ 30 < 2 ∧ v.meter? (w.toNat % 2 ^ 16) = none)) →
          Answers (.sheetDefine ring d) s v St.badArg 0 0 0 fun r => r = v) ∧
        ((∀ w ∈ l, w.toNat / 2 ^ 16 % 2 ^ 12 = 0 ∧ (2 ≤ w.toNat / 2 ^ 30 ∨ v.meter? (w.toNat % 2 ^ 16) ≠ none)) →
          (l = [] ∨ 8192 < l.length → Answers (.sheetDefine ring d) s v St.sheetSize 0 0 0 fun r => r = v) ∧
          (l ≠ [] → l.length ≤ 8192 →
            (v.sheetsOver ((l.length, k) :: (v.host.sheets.filter fun x => x.ring != n).map Sheet.load) = true →
              Answers (.sheetDefine ring d) s v St.sheetRate 0 0 0 fun r => r = v) ∧
            (v.sheetsOver ((l.length, k) :: (v.host.sheets.filter fun x => x.ring != n).map Sheet.load) = false →
              Answers (.sheetDefine ring d) s v St.ok 0 0 0 fun r => v.only [] [.host] r ∧
                ((∀ x ∈ v.host.sheets, x.ring ≠ n) → r.host.sheets = v.host.sheets ++ [Sheet.fresh n k l false]) ∧
                (∀ x, (v.host.sheets.find? fun y => y.ring == n) = some x → { x with next := some (k, l) } ∈ r.host.sheets))))))

/-- R247, R254, R255, R268: the commands of Safelight: VERIFY, CAPTURE and LEARN_LINES begin a run, STORE a write of the store, ABORT ends a run. -/
def Obligations.SafelightCommands : Prop :=
  ∀ (s v : State), s.canonical = true → v.canonical = true →
    (∀ i ring d d' b op, hostDesc i = some (ring, d') → b = d'.body → fieldAt b 0 1 = op → i = .verify ring d ∧ op = 1 ∨ i = .capture ring d ∧ op = 2 →
      (v.runStart b = none → Answers i s v St.badArg 0 0 0 fun r => r = v) ∧
      (∀ tk, v.runStart b = some tk →
        (runBodyOk b 4096 = false ∨ fieldAt b 6 2 < 10 ∨ 600 < fieldAt b 6 2 → Answers i s v St.badArg 0 0 0 fun r => r = v) ∧
        (runBodyOk b 4096 = true → 10 ≤ fieldAt b 6 2 → fieldAt b 6 2 ≤ 600 →
          (v.sl.run ≠ none → Answers i s v St.busy 0 0 0 fun r => r = v) ∧
          (v.sl.run = none → ∀ ps go zs, ps = ((runRange b 4096).filter fun p => v.pathEn p) → go = (ps.filter fun p => !v.pathSkipped op p) →
            zs = ((List.range 1024).filter fun z => go.any fun p => v.zoneOf (v.pathOut p) == some z) →
            (zs ≠ [] → v.zoneCap zs = 0 → Answers i s v 0x2C 0 0 0 fun r => r = v) ∧
            (zs = [] ∨ v.zoneCap zs ≠ 0 → Answers i s v St.ok 0 v.sl.nextId 0 fun r =>
              r.rd F.SL_RUN_ID = v.sl.nextId % 2 ^ 32 ∧ r.sl.nextId = v.sl.nextId + 1 ∧ r.eng = v.eng ∧
              (ps = [] → r.sl.run = none ∧ r.rd F.SL_RUN_STAT_STATE = 3 ∧ r.on F.SL_STAT_RUN_ACTIVE = false) ∧
              (go ≠ [] → r.rd F.SL_RUN_STAT_STATE = 1 ∧ r.on F.SL_STAT_RUN_ACTIVE = true ∧ ∃ q, r.sl.run = some q ∧ q.id = v.sl.nextId ∧ q.op = op ∧
                q.start = tk ∧ q.dwell = fieldAt b 6 2 ∧ ∀ p ∈ go, p ∈ q.left)))))) ∧
    (∀ ring d d' b, hostDesc (.learnLines ring d) = some (ring, d') → b = d'.body → fieldAt b 0 1 = 3 →
      (v.runStart b = none → Answers (.learnLines ring d) s v St.badArg 0 0 0 fun r => r = v) ∧
      (∀ tk, v.runStart b = some tk →
        (runBodyOk b 1024 = false → Answers (.learnLines ring d) s v St.badArg 0 0 0 fun r => r = v) ∧
        (runBodyOk b 1024 = true → v.sl.run ≠ none → Answers (.learnLines ring d) s v St.busy 0 0 0 fun r => r = v) ∧
        (∀ ns, runBodyOk b 1024 = true → v.sl.run = none → ns = ((runRange b 1024).filter fun n => v.lineEn n && v.lineBad n == 0) →
          Answers (.learnLines ring d) s v St.ok 0 v.sl.nextId 0 fun r =>
            r.rd F.SL_RUN_ID = v.sl.nextId % 2 ^ 32 ∧ r.sl.nextId = v.sl.nextId + 1 ∧
            (∀ n, r.lineState n = v.lineState n ∧ r.lineSt n = v.lineSt n) ∧ (ns = [] → r.sl.run = none ∧ r.rd F.SL_RUN_STAT_STATE = 3) ∧
            (ns ≠ [] → r.rd F.SL_RUN_STAT_STATE = 1 ∧ ∃ q, r.sl.run = some q ∧ q.id = v.sl.nextId ∧ q.op = 3 ∧ q.left = ns ∧ q.start = tk)))) ∧
    (∀ ring d d' b, hostDesc (.store ring d) = some (ring, d') → b = d'.body → fieldAt b 0 1 = 4 →
      (2 ≤ fieldAt b 1 1 ∨ fieldAt b 16 16 ≠ 0 → Answers (.store ring d) s v St.badArg 0 0 0 fun r => r = v) ∧
      (fieldAt b 1 1 < 2 → fieldAt b 16 16 = 0 →
        (v.sl.run ≠ none ∨ v.sl.storing ≠ none → Answers (.store ring d) s v St.busy 0 0 0 fun r => r = v) ∧
        (v.sl.run = none → v.sl.storing = none → Starts (.store ring d) s v fun r =>
          r.sl = { v.sl with storing := some (Sys2Proof.Machine.Desc.ticket d' ring) } ∧ r.on F.SL_STAT_STORE_BUSY = true ∧
          v.only [F.SL_STAT_STORE_BUSY.addr] [.regs, .sl] r))) ∧
    (∀ ring d d' b, hostDesc (.abort ring d) = some (ring, d') → b = d'.body → fieldAt b 0 1 = 5 →
      (v.sl.run = none ∨ 2 ≤ fieldAt b 1 1 ∨ fieldAt b 16 16 ≠ 0 → Answers (.abort ring d) s v St.badArg 0 0 0 fun r => r = v) ∧
      (∀ q, v.sl.run = some q → fieldAt b 1 1 < 2 → fieldAt b 16 16 = 0 → Answers (.abort ring d) s v St.ok 0 q.id 0 fun r =>
        r.sl.run = none ∧ r.rd F.SL_RUN_STAT_STATE = 4 ∧ r.on F.SL_STAT_RUN_ACTIVE = false ∧ r.rd F.SL_RUN_STAT_LEFT = 0 ∧
        r.rd F.SL_STAT_ZONES_RUNNING = 0 ∧ (q.op = 3 → Sparse.wf (fun _ => LineSt.rest) v.sl.lines = true → ∀ n ∈ q.left, n < 1024 →
          (v.lineSt n).written = none → (r.lineSt n).learn = none ∧
          ((v.lineSt n).learn = none → r.lineState n = v.lineState n) ∧ ((v.lineSt n).learn ≠ none → r.lineState n = 0))))

/-- R295, R296, R299, R353: PAIR_JOIN, PAIR_YIELD, TIME_STEP and TIME_RATE. -/
def Obligations.PairAndTimeCommands : Prop :=
  ∀ (s v : State), s.canonical = true → v.canonical = true →
    (∀ (ring : Fin 16) d k st, k = Sys2Proof.Machine.Desc.ticket (withOp d Op.pairJoin) ring → st = v.rd F.PAIR_STAT_STATE →
      (2 ^ 17 ≤ d.arg0.toNat ∨ d.arg1 ≠ 0 → Answers (.pairJoin ring d) s v St.badArg 0 0 0 fun r => r = v) ∧
      (d.arg0.toNat < 2 ^ 17 → d.arg1 = 0 →
        (v.pair.join ≠ none ∨ (v.pair.joining = true ∧ v.pair.waiting = false) ∨ (2 ≤ st ∧ st ≤ 4) ∨ v.pair.handover ≠ none →
          Answers (.pairJoin ring d) s v St.busy 0 0 0 fun r => r = v) ∧
        (v.pair.join = none → v.pair.joining = false ∨ v.pair.waiting = true → st < 2 ∨ 4 < st → v.pair.handover = none →
          (st = 5 → v.pair.role ≠ .yielded → Answers (.pairJoin ring d) s v St.ok 0 0 0 fun r => r = v) ∧
          (st ≠ 5 ∨ v.pair.role = .yielded →
            (v.linkUp = false → Starts (.pairJoin ring d) s v fun r => r.rd F.PAIR_STAT_STATE = 1 ∧
              r.pair = { v.pair with join := some k, joining := true, follow := d.arg0.getLsbD 16, pairId := d.arg0.toNat % 2 ^ 16 } ∧
              v.only [F.PAIR_STAT_STATE.addr] [.regs, .pair] r) ∧
            (v.linkUp = true → Starts (.pairJoin ring d) s v fun r => r.rd F.PAIR_STAT_STATE = 2 ∧ r.pair.join = some k ∧
              r.pair.joining = true ∧ r.pair.pairId = d.arg0.toNat % 2 ^ 16 ∧ r.pair.role = v.pair.role ∧ r.out.length = v.out.length + 2 ∧
              .porbuod (.ctrl (.join (BitVec.ofNat 16 d.arg0.toNat) (d.arg0.getLsbD 16))) ∈ r.out ∧
              v.only [F.PAIR_STAT_STATE.addr] [.regs, .out, .pair] r))))) ∧
    (∀ ring d, (v.pair.formed = false → Answers (.pairYield ring d) s v St.pairAlone 0 0 0 fun r => r = v) ∧
      (v.pair.formed = true → v.pair.role = .active →
        (v.linkUp = false ∨ v.rd F.PAIR_STAT_STATE ≠ 5 ∨ claimRole (v.rd F.PAIR_CLAIM_PEER) ≠ 2 →
          Answers (.pairYield ring d) s v St.pairAlone 0 0 0 fun r => r = v) ∧
        (v.linkUp = true → v.rd F.PAIR_STAT_STATE = 5 → claimRole (v.rd F.PAIR_CLAIM_PEER) = 2 →
          (v.scn.armed ≠ none ∨ v.scn.arming ≠ none ∨ v.pair.handover ≠ none → Answers (.pairYield ring d) s v St.busy 0 0 0 fun r => r = v) ∧
          (v.scn.armed = none → v.scn.arming = none → v.pair.handover = none → Starts (.pairYield ring d) s v fun r =>
            r.pair.handover = some (v.tick + 4) ∧ r.pair.role = .active ∧ r.pair.yieldTicket ≠ none ∧ v.only [] [.out, .pair] r))) ∧
      (v.pair.formed = true → v.pair.role ≠ .active → Answers (.pairYield ring d) s v St.ok 0 0 0 fun r =>
        r.pair.role = .yielded ∧ r.pair.formed = false ∧ r.rd F.PAIR_STAT_STATE = 0)) ∧
    (∀ ring d, 4 ≤ d.arg0.toNat → Answers (.timeStep ring d) s v St.badArg 0 0 0 (fun r => r = v) ∧
      Answers (.timeRate ring d) s v St.badArg 0 0 0 fun r => r = v) ∧
    (∀ ring d (k : Fin 4) w, d.arg0.toNat = k.val → w = d.arg1 →
      (v.on (F.TD_CTRL_SERVO.pg k.val) = false → Answers (.timeStep ring d) s v St.state 0 0 0 (fun r => r = v) ∧
        Answers (.timeRate ring d) s v St.state 0 0 0 fun r => r = v) ∧
      (v.on (F.TD_CTRL_SERVO.pg k.val) = true →
        (v.rd (F.TD_STAT_STATE.pg k.val) = 1 → Answers (.timeStep ring d) s v 0x30 0 0 0 fun r =>
          r.on (F.TD_STAT_STEP_REFUSED.pg k.val) = true ∧ (v.quiet (0x68 + k.val) 1 → v.raised (0x68 + k.val) 1 r) ∧
          r.net = v.net) ∧
        (v.rd (F.TD_STAT_STATE.pg k.val) ≠ 1 → Answers (.timeStep ring d) s v St.ok 0 0 0 fun r =>
          (r.net.td[k].time : Int) = (v.net.td[k].time + signed (fieldAt d.body 0 8) 64 * 2 ^ 40 + fieldAt d.body 8 4 * 2 ^ 8) % timeWrap ∧
          r.net.td[k].toSet = true ∧ r.rd (F.TD_STAT_STATE.pg k.val) = 1 ∧
          r.rd (F.TD_STEP_CNT.pg k.val) = (v.rd (F.TD_STEP_CNT.pg k.val) + 1) % 2 ^ F.TD_STEP_CNT.width) ∧
        (549755814 < w.toInt.natAbs → Answers (.timeRate ring d) s v 0x31 0 0 0 fun r => r = v) ∧
        (w.toInt.natAbs ≤ 549755814 → Answers (.timeRate ring d) s v St.ok 0 0 0 fun r =>
          r.reg (F.TD_RATE.pg k.val).addr = w ∧ v.only [(F.TD_RATE.pg k.val).addr] [.regs] r)))

/-- R496, R497, R499, R501 to R503: UPDATE_BEGIN, UPDATE_CHUNK, UPDATE_COMMIT and LIFECYCLE_ADVANCE. -/
def Obligations.UpdateCommands : Prop :=
  ∀ (s v : State), s.canonical = true → v.canonical = true →
    (∀ ring d h, h = d.body → h.length = 256 →
      (hdrBad h = true → Answers (.updateBegin ring d) s v St.badArg 0 0 0 fun r => r = v) ∧
      (hdrBad h = false →
        (v.hdrSigned d.role.toNat h = false → Answers (.updateBegin ring d) s v St.updSig 1 0 0 fun r => r = v) ∧
        (v.hdrSigned d.role.toNat h = true →
          (fieldAt h 12 2 < v.sec.svn → Answers (.updateBegin ring d) s v St.updSig 2 0 0 fun r => r = v) ∧
          (v.sec.svn ≤ fieldAt h 12 2 →
            (hdrType h = 0 ∧ v.flash.slotSize - 256 < hdrLength h ∨ hdrType h = 1 ∧ hdrLength h ≠ 100 →
              Answers (.updateBegin ring d) s v St.updSize 0 0 0 fun r => r = v) ∧
            (hdrType h = 0 ∧ hdrLength h ≤ v.flash.slotSize - 256 ∨ hdrType h = 1 ∧ hdrLength h = 100 →
              Answers (.updateBegin ring d) s v St.ok 0 0 0 fun r =>
                r.upd = some ⟨h, d.role.toNat, 0, [], 0, false⟩ ∧ r.rd F.MB_UPD_STATE = 1 ∧ r.rd F.MB_UPD_CHUNKS = 0 ∧
                (hdrType h = 0 → (r.flash.fw v.altSlot).valid = false ∧ r.flash.fw (1 - v.altSlot) = v.flash.fw (1 - v.altSlot)) ∧
                (hdrType h = 1 → r.flash = v.flash)))))) ∧
    (∀ ring d n b, n = d.arg0.toNat → b = d.body → (v.upd = none → Answers (.updateChunk ring d) s v St.updSeq 0 0 0 fun r => r = v) ∧
      (∀ u left, v.upd = some u → left = hdrLength u.hdr - 4096 * n →
        (n + 1 = u.chunks → Answers (.updateChunk ring d) s v St.ok 0 0 0 fun r => r = v) ∧
        (n + 1 ≠ u.chunks → n ≠ u.chunks → Answers (.updateChunk ring d) s v St.updSeq 0 0 0 fun r => r = v) ∧
        (n = u.chunks → left < b.length → Answers (.updateChunk ring d) s v St.updSize 0 0 0 fun r => r = v) ∧
        (n = u.chunks → b.length ≤ left → b.length ≠ min 4096 left → Answers (.updateChunk ring d) s v St.badLen 0 0 0 fun r => r = v) ∧
        (n = u.chunks → b.length ≤ left → b.length = min 4096 left → Answers (.updateChunk ring d) s v St.ok 0 0 0 fun r =>
          r.upd = some { u with chunks := n + 1, data := u.data ++ b } ∧ r.rd F.MB_UPD_CHUNKS = (n + 1) % 2 ^ 16 ∧
          v.only [F.MB_UPD_CHUNKS.addr] [.regs, .upd] r))) ∧
    (∀ ring d, (v.upd = none → Answers (.updateCommit ring d) s v St.updSeq 0 0 0 fun r => r = v) ∧
      (∀ u, v.upd = some u →
        (u.chunks * 4096 < hdrLength u.hdr → Answers (.updateCommit ring d) s v St.updSeq 0 0 0 fun r => r = v) ∧
        (hdrLength u.hdr ≤ u.chunks * 4096 →
          (u.programmed < u.chunks → Answers (.updateCommit ring d) s v St.busy 0 0 0 fun r => r = v) ∧
          (u.chunks ≤ u.programmed →
            (u.bad = true ∨ Config.sha384 u.data ≠ (u.hdr.drop 48).take 48 → Answers (.updateCommit ring d) s v St.updSig 3 0 0 fun r => r = v) ∧
            (u.bad = false → Config.sha384 u.data = (u.hdr.drop 48).take 48 →
              (v.openImage u = none → Answers (.updateCommit ring d) s v St.updSig 4 0 0 fun r => r = v) ∧
              (∀ p, v.openImage u = some p → s.inRecovery = false →
                (hdrType u.hdr = 0 → Answers (.updateCommit ring d) s v St.ok 0 0 0 fun r => r.upd = none ∧ r.flash.slot = v.altSlot ∧
                  r.flash.trial = true ∧ r.flash.attempted = false ∧ r.rd F.MB_UPD_STATE = 2 ∧ (r.flash.fw v.altSlot).valid = true ∧
                  (r.flash.fw v.altSlot).version = fieldAt u.hdr 8 4 ∧ r.sec = v.sec) ∧
                (hdrType u.hdr ≠ 0 → (fieldAt p 0 4).testBit 2 = true → u.role ≠ 3 →
                  Answers (.updateCommit ring d) s v St.role 0 0 0 fun r => r = v) ∧
                (hdrType u.hdr ≠ 0 → (fieldAt p 0 4).testBit 2 = false ∨ u.role = 3 → Answers (.updateCommit ring d) s v St.ok 0 0 0 fun r =>
                  r.upd = none ∧ r.sec.stored = newKeys v.sec.stored p ∧ r.rd F.MB_UPD_STATE = 0 ∧ r.flash = v.flash))))))) ∧
    (∀ (ring : Fin 16) d b k, b = d.body → k = Sys2Proof.Machine.Desc.ticket (withOp d Op.lifecycle) ring →
      (b.length ≠ (if v.sec.state = 1 then 96 else 0) → Answers (.lifecycleAdvance ring d) s v St.badLen 0 0 0 fun r => r = v) ∧
      (b.length = (if v.sec.state = 1 then 96 else 0) →
        (d.arg0.toNat ≠ v.sec.state + 1 ∨ 4 < d.arg0.toNat → Answers (.lifecycleAdvance ring d) s v St.lcStep 0 0 0 fun r => r = v) ∧
        (d.arg0.toNat = v.sec.state + 1 → d.arg0.toNat ≤ 4 →
          (v.sec.state = 1 → (∃ j < 3, ∀ x ∈ (b.drop (32 * j)).take 32, x = 0) →
            Answers (.lifecycleAdvance ring d) s v St.badArg 0 0 0 fun r => r = v) ∧
          (v.sec.state ≠ 1 ∨ (∀ j < 3, ∃ x ∈ (b.drop (32 * j)).take 32, x ≠ 0) →
            (v.sec.adv ≠ none ∨ v.on F.SCN_STAT_FIX_BUSY = true ∨ v.sl.storing ≠ none ∨ v.upd ≠ none →
              Answers (.lifecycleAdvance ring d) s v St.busy 0 0 0 fun r => r = v) ∧
            (v.sec.adv = none → v.on F.SCN_STAT_FIX_BUSY = false → v.sl.storing = none → v.upd = none →
              Starts (.lifecycleAdvance ring d) s v fun r => r.sec = { v.sec with adv := some (k, b), keys := [] } ∧ r.on F.LC_STATE_BUSY = true ∧
                r.on F.SR_SECURE_ZEROISING = true ∧ v.sameBut [.regs, .sec] r)))))

/-- One step runs the command at the front of the queue on the state with the rest of it. The model's own queue (log entry 1): with no command waiting and no descriptor that can be dispatched, a step idles; with one, the step
performs the next descriptor of the rings as a command row would. -/
def Obligations.StepRunsFront : Prop :=
  (∀ (c : Instr) (s : State) (rest : List Instr), s.pending = c :: rest → step s = exec c { s with pending := rest }) ∧
  (∀ (s : State), s.pending = [] → (s.nextRing = none → step s = .next s) ∧ ∃ t, step s = .next t ∧ t.pending = [])

/-- Reset: every register reads as the register directory gives it (R10, and for a register without a reset value the model's log entries 7 and 8), the
memories are empty, nothing waits, no lane is up, no plan runs, and the state is a safe one. -/
def Obligations.ResetState : Prop :=
  State.reset.safe = true ∧ State.reset.pending = [] ∧ (∀ a, State.reset.reg a = RegDir.reset a) ∧ State.reset.win = [] ∧
    (∀ c : Fin 16, State.reset.clusters[c].mem = [] ∧ State.reset.clusters[c].run = none) ∧ State.reset.eng.run = none ∧
    State.reset.rd F.MB_BOOT_STAGE = 0 ∧ State.reset.on F.TICK_STAT_RUNNING = false ∧ step State.reset = .next State.reset

/-- The invariant that every step keeps (R22, R23, R157, R190, R196, R496, R497): the sparse maps stay in their canonical forms, and the life cycle keeps its
rules. Every step completes. -/
def Obligations.StepKeepsSafe : Prop :=
  ∀ s : State, s.safe = true → ∃ t, step s = .next t ∧ t.safe = true

/-- R496, R497: no step takes the life cycle back, nor more than one state on, and a blown key-kill fuse stays blown. -/
def Obligations.LifeCycleForward : Prop :=
  ∀ s t : State, step s = .next t → s.sec.state ≤ t.sec.state ∧ t.sec.state ≤ s.sec.state + 1 ∧ (s.sec.keyKill = true → t.sec.keyKill = true)

/-- The maps that are no memories keep their canonical forms too (R42, R44, R46, R158, R243, R261), at every step and at reset. -/
def Obligations.StepKeepsMaps : Prop :=
  State.reset.maps = true ∧ ∀ s t : State, s.maps = true → step s = .next t → t.maps = true
end

