-- ==== Sys2Proof/Laws/Sparse.lean ====
section
/-!
SUPPORT. Sparse maps: what a read after a write gives, and that every operation keeps the canonical form.
-/
set_option Elab.async false
set_option linter.all false
namespace Sys2Proof.Sparse
variable {α : Type}

theorem above_le {b c : Nat} (hbc : b ≤ c) : ∀ {m : Sparse α}, above c m = true → above b m = true
  | [], _ => rfl
  | (a, _) :: _, h => by simp only [above, decide_eq_true_eq] at h ⊢; omega

variable [DecidableEq α]

theorem wf_tail {d : Nat → α} {x : Nat × α} {t : Sparse α} (h : wf d (x :: t) = true) : wf d t = true := by
  obtain ⟨a, v⟩ := x
  simp only [wf, Bool.and_eq_true] at h
  exact h.2

theorem wf_above {d : Nat → α} {a : Nat} {v : α} {t : Sparse α} (h : wf d ((a, v) :: t) = true) : above a t = true := by
  simp only [wf, Bool.and_eq_true] at h
  exact h.1.2

theorem get_of_above {d : α} {k : Nat} : ∀ {d' : Nat → α} {m : Sparse α}, wf d' m = true → above k m = true → get d m k = d
  | _, [], _, _ => rfl
  | d', (a, v) :: t, h, ha => by
    have hk : k < a := by simpa [above] using ha
    have ht := wf_above h
    rw [get, if_neg (by omega)]
    exact get_of_above (wf_tail h) (above_le (by omega) ht)

/-- A key reads as the value last written to it. -/
theorem get_set_same {d' : Nat → α} {k : Nat} {v : α} :
    ∀ {m : Sparse α}, wf d' m = true → get (d' k) (set (d' k) m k v) k = v
  | [], _ => by
    by_cases hv : v = d' k
    · rw [set, if_pos hv]; exact hv.symm
    · rw [set, if_neg hv, get, if_pos rfl]
  | (a, w) :: t, h => by
    rw [set]
    by_cases hka : k < a
    · rw [if_pos hka]
      by_cases hv : v = d' k
      · rw [if_pos hv, hv]
        exact get_of_above h (by simpa [above] using hka)
      · rw [if_neg hv, get, if_pos rfl]
    · rw [if_neg hka]
      by_cases hak : a = k
      · rw [if_pos hak]
        by_cases hv : v = d' k
        · rw [if_pos hv, hv]
          subst hak
          exact get_of_above (wf_tail h) (wf_above h)
        · rw [if_neg hv, get, if_pos rfl]
      · rw [if_neg hak, get, if_neg hak]
        exact get_set_same (wf_tail h)

/-- Every other key reads as before. -/
theorem get_set_ne {d e : α} {k j : Nat} {v : α} (hjk : j ≠ k) : ∀ {m : Sparse α}, get e (set d m k v) j = get e m j
  | [] => by
    by_cases hv : v = d
    · rw [set, if_pos hv]
    · simp [set, hv, get, Ne.symm hjk]
  | (a, w) :: t => by
    rw [set]
    by_cases hka : k < a
    · rw [if_pos hka]
      by_cases hv : v = d
      · rw [if_pos hv]
      · rw [if_neg hv, get, if_neg (Ne.symm hjk)]
    · rw [if_neg hka]
      by_cases hak : a = k
      · rw [if_pos hak]
        by_cases hv : v = d
        · rw [if_pos hv, get, if_neg (by omega)]
        · rw [if_neg hv, get, get, if_neg (Ne.symm hjk), if_neg (by omega)]
      · rw [if_neg hak, get, get, get_set_ne hjk]

theorem above_set {d : α} {b k : Nat} {v : α} (hbk : b < k) :
    ∀ {d' : Nat → α} {m : Sparse α}, wf d' m = true → above b m = true → above b (set d m k v) = true
  | _, [], _, _ => by
    by_cases hv : v = d
    · rw [set, if_pos hv]; rfl
    · rw [set, if_neg hv]; simpa [above] using hbk
  | d', (a, w) :: t, hw, h => by
    have hb : b < a := by simpa [above] using h
    rw [set]
    by_cases hka : k < a
    · rw [if_pos hka]
      by_cases hv : v = d
      · rw [if_pos hv]; exact h
      · rw [if_neg hv]; simpa [above] using hbk
    · rw [if_neg hka]
      by_cases hak : a = k
      · rw [if_pos hak]
        by_cases hv : v = d
        · rw [if_pos hv]; exact above_le (Nat.le_of_lt hb) (wf_above hw)
        · rw [if_neg hv]; simpa [above] using hbk
      · rw [if_neg hak]; simpa [above] using hb

/-- A write keeps the canonical form. -/
theorem wf_set {d : Nat → α} {k : Nat} {v : α} : ∀ {m : Sparse α}, wf d m = true → wf d (set (d k) m k v) = true
  | [], _ => by
    by_cases hv : v = d k
    · rw [set, if_pos hv]; rfl
    · rw [set, if_neg hv]; simp [wf, above, hv]
  | (a, w) :: t, h => by
    have h0 := h
    simp only [wf, Bool.and_eq_true, decide_eq_true_eq] at h
    obtain ⟨⟨hd, ha⟩, ht⟩ := h
    rw [set]
    by_cases hka : k < a
    · rw [if_pos hka]
      by_cases hv : v = d k
      · rw [if_pos hv]; exact h0
      · rw [if_neg hv]
        simp only [wf, Bool.and_eq_true, decide_eq_true_eq]
        exact ⟨⟨hv, by simpa [above] using hka⟩, ⟨hd, ha⟩, ht⟩
    · rw [if_neg hka]
      by_cases hak : a = k
      · rw [if_pos hak]
        by_cases hv : v = d k
        · rw [if_pos hv]; exact ht
        · rw [if_neg hv]; subst hak; simp [wf, hv, ha, ht]
      · rw [if_neg hak]
        simp only [wf, Bool.and_eq_true, decide_eq_true_eq]
        exact ⟨⟨hd, above_set (by omega) ht ha⟩, wf_set ht⟩

/-- So does taking entries out. -/
theorem wf_filter {d : Nat → α} {p : Nat × α → Bool} : ∀ {m : Sparse α}, wf d m = true → wf d (m.filter p) = true
  | [], _ => rfl
  | (a, w) :: t, h => by
    simp only [wf, Bool.and_eq_true, decide_eq_true_eq] at h
    obtain ⟨⟨hd, ha⟩, ht⟩ := h
    have hf : above a (t.filter p) = true := by
      have aux : ∀ {b : Nat} {m : Sparse α}, wf d m = true → above b m = true → above b (m.filter p) = true := by
        intro b m
        induction m generalizing b with
        | nil => intro _ _; rfl
        | cons x m ih =>
          obtain ⟨c, u⟩ := x
          intro hw hb
          have hbc : b < c := by simpa [above] using hb
          by_cases hp : p (c, u) = true
          · rw [List.filter_cons_of_pos hp]; simpa [above] using hbc
          · rw [List.filter_cons_of_neg hp]
            exact ih (wf_tail hw) (above_le (Nat.le_of_lt hbc) (wf_above hw))
      exact aux ht ha
    by_cases hp : p (a, w) = true
    · rw [List.filter_cons_of_pos hp]
      simp only [wf, Bool.and_eq_true, decide_eq_true_eq]
      exact ⟨⟨hd, hf⟩, wf_filter ht⟩
    · rw [List.filter_cons_of_neg hp]; exact wf_filter ht

/-- Two maps in the canonical form that read alike are equal. -/
theorem ext {d : Nat → α} : ∀ {m n : Sparse α}, wf d m = true → wf d n = true → (∀ k, get (d k) m k = get (d k) n k) → m = n
  | [], [], _, _, _ => rfl
  | [], (a, v) :: t, _, hn, h => by
    have := h a
    simp only [wf, Bool.and_eq_true, decide_eq_true_eq] at hn
    rw [get, get, if_pos rfl] at this
    exact absurd this.symm hn.1.1
  | (a, v) :: t, [], hm, _, h => by
    have := h a
    simp only [wf, Bool.and_eq_true, decide_eq_true_eq] at hm
    rw [get, get, if_pos rfl] at this
    exact absurd this hm.1.1
  | (a, v) :: t, (b, w) :: u, hm, hn, h => by
    have hm0 := hm
    have hn0 := hn
    simp only [wf, Bool.and_eq_true, decide_eq_true_eq] at hm hn
    have hab : a = b := by
      refine Decidable.byContradiction fun hne => ?_
      rcases Nat.lt_or_gt_of_ne hne with hlt | hlt
      · have := h a
        rw [get, if_pos rfl, get_of_above hn0 (by simpa [above] using hlt)] at this
        exact hm.1.1 this
      · have := h b
        rw [get_of_above hm0 (by simpa [above] using hlt), get, if_pos rfl] at this
        exact hn.1.1 this.symm
    subst hab
    have hvw : v = w := by have := h a; rwa [get, if_pos rfl, get, if_pos rfl] at this
    subst hvw
    rw [ext (wf_tail hm0) (wf_tail hn0) (fun k => by
      by_cases hk : a = k
      · subst hk; rw [get_of_above (wf_tail hm0) (wf_above hm0), get_of_above (wf_tail hn0) (wf_above hn0)]
      · have := h k; rwa [get, if_neg hk, get, if_neg hk] at this)]

end Sys2Proof.Sparse
end

