-- ==== Sys2Proof/Laws/Keep.lean ====
section
/-!
SUPPORT. What a shared operation of the model leaves alone, said once for each of them: `Keep k s t` says that `t` comes from `s` by changing at
most the components of the state whose bits stand in the mask `k` (bit 0 = pending, bit 1 = regs, …, in the order of State's fields), and that
the registers, the Latent registers and the parameter window are still in their canonical forms. The files beside this one prove it for every
operation, with its mask.
-/
set_option Elab.async false
set_option linter.all false
namespace Sys2Proof.Machine

/-- Bytes written keep a memory's canonical form. -/
theorem wf_memBytes {d : Nat → Byte} : ∀ {l : List Byte} {m : Mem} {o : Nat}, Sparse.wf d m = true → Sparse.wf d (memBytes d m o l) = true
  | [], _, _, h => h
  | b :: t, m, o, h => wf_memBytes (l := t) (m := memSet d m o b) (o := o + 1) (Sparse.wf_set h)

/-- Component `i` of two states is the same. -/
def State.samePart (i : Nat) (s t : State) : Prop :=
  match i with
  | 0 => t.pending = s.pending
  | 1 => t.regs = s.regs
  | 2 => t.lat = s.lat
  | 3 => t.snaps = s.snaps
  | 4 => t.caps = s.caps
  | 5 => t.areas = s.areas
  | 6 => t.rdata = s.rdata
  | 7 => t.out = s.out
  | 8 => t.free = s.free
  | 9 => t.ms = s.ms
  | 10 => t.win = s.win
  | 11 => t.host = s.host
  | 12 => t.flt = s.flt
  | 13 => t.log = s.log
  | 14 => t.sec = s.sec
  | 15 => t.flash = s.flash
  | 16 => t.upd = s.upd
  | 17 => t.clusters = s.clusters
  | 18 => t.eng = s.eng
  | 19 => t.scn = s.scn
  | 20 => t.pair = s.pair
  | 21 => t.ports = s.ports
  | 22 => t.sl = s.sl
  | 23 => t.net = s.net
  | 24 => t.clk = s.clk
  | 25 => t.en = s.en
  | _ => True

theorem State.samePart_refl (i : Nat) (s : State) : s.samePart i s := by
  unfold State.samePart; split <;> trivial

theorem State.samePart_trans {i : Nat} {s t u : State} (h : s.samePart i t) (h' : t.samePart i u) : s.samePart i u := by
  unfold State.samePart at *; split <;> first | exact h'.trans h | trivial

/-- At most the components in the mask `k` differ, and the canonical forms stay. -/
structure Keep (k : Nat) (s t : State) : Prop where
  canon : s.canonical = true → t.canonical = true
  part : ∀ i, k.testBit i = false → s.samePart i t

theorem Keep.refl {k : Nat} {s : State} : Keep k s s := ⟨id, fun i _ => s.samePart_refl i⟩

theorem mask_sub {a c i : Nat} (h : a ||| c = c) (hc : c.testBit i = false) : a.testBit i = false := by
  rw [← h, Nat.testBit_or, Bool.or_eq_false_iff] at hc
  exact hc.1

/-- An operation applied after others. -/
theorem Keep.step {a c : Nat} {s t u : State} (h : Keep a t u) (hk : a ||| c = c) (h0 : Keep c s t) : Keep c s u :=
  ⟨fun x => h.canon (h0.canon x), fun i hi => State.samePart_trans (h0.part i hi) (h.part i (mask_sub hk hi))⟩


theorem Keep.mono {a c : Nat} {s t : State} (h : Keep a s t) (hk : a ||| c = c) : Keep c s t :=
  ⟨h.canon, fun i hi => h.part i (mask_sub hk hi)⟩

/-- A change of components other than the registers, the Latent registers and the window: `s` with some of them replaced. -/
theorem Keep.mk_step {c : Nat} {s t u : State} (h0 : Keep c s t) (h1 : u.regs = t.regs) (h2 : u.lat = t.lat) (h3 : u.win = t.win)
    (hp : ∀ i, c.testBit i = false → t.samePart i u) : Keep c s u :=
  ⟨fun x => by have := h0.canon x; simpa [State.canonical, h1, h2, h3] using this,
   fun i hi => State.samePart_trans (h0.part i hi) (hp i hi)⟩

theorem Keep.ite {c : Nat} {p : Prop} [Decidable p] {s a b : State} (ha : Keep c s a) (hb : Keep c s b) : Keep c s (if p then a else b) := by
  split <;> assumption

theorem Keep.ite_fst {α : Type} {c : Nat} {p : Prop} [Decidable p] {s : State} {a b : State × α} (ha : Keep c s a.1) (hb : Keep c s b.1) :
    Keep c s (if p then a else b).1 := by
  split <;> assumption

theorem Keep.ite_snd {α : Type} {c : Nat} {p : Prop} [Decidable p] {s : State} {a b : α × State} (ha : Keep c s a.2) (hb : Keep c s b.2) :
    Keep c s (if p then a else b).2 := by
  split <;> assumption

theorem Keep.ite_st {c : Nat} {p : Prop} [Decidable p] {s : State} {a b : CmdRes} (ha : Keep c s a.st) (hb : Keep c s b.st) :
    Keep c s (if p then a else b).st := by
  split <;> assumption

theorem Keep.foldl {α : Type} {c : Nat} {f : State → α → State} (hf : ∀ s x, Keep c s (f s x)) :
    ∀ {l : List α} {s0 s : State}, Keep c s0 s → Keep c s0 (l.foldl f s)
  | [], _, _, h => h
  | x :: l, _, s, h => Keep.foldl hf (l := l) ⟨fun y => (hf s x).canon (h.canon y), fun i hi => State.samePart_trans (h.part i hi) ((hf s x).part i hi)⟩

theorem Keep.each {α : Type} {c : Nat} {f : State → α → State} {l : List α} {s0 s : State} (h : Keep c s0 s)
    (hf : ∀ s x, Keep c s (f s x)) : Keep c s0 (s.each l f) := Keep.foldl hf h

theorem Keep.fold {α : Type} {c : Nat} {f : State → α → State} {l : List α} {s0 s : State} (h : Keep c s0 s)
    (hf : ∀ s x, Keep c s (f s x)) : Keep c s0 (l.foldl f s) := Keep.foldl hf h

/-- A fold over pairs of a value and a state. -/
theorem Keep.fold_snd {α β : Type} {c : Nat} {f : β × State → α → β × State} {l : List α} {s0 : State} {p : β × State} (h : Keep c s0 p.2)
    (hf : ∀ p x, Keep c p.2 (f p x).2) : Keep c s0 (l.foldl f p).2 := by
  induction l generalizing p with
  | nil => exact h
  | cons x l ih => exact ih ⟨fun y => (hf p x).canon (h.canon y), fun i hi => State.samePart_trans (h.part i hi) ((hf p x).part i hi)⟩

theorem Keep.fold_fst {α β : Type} {c : Nat} {f : State × β → α → State × β} {l : List α} {s0 : State} {p : State × β} (h : Keep c s0 p.1)
    (hf : ∀ p x, Keep c p.1 (f p x).1) : Keep c s0 (l.foldl f p).1 := by
  induction l generalizing p with
  | nil => exact h
  | cons x l ih => exact ih ⟨fun y => (hf p x).canon (h.canon y), fun i hi => State.samePart_trans (h.part i hi) ((hf p x).part i hi)⟩

theorem Keep.mk_one {c n : Nat} {s t u : State} (h0 : Keep c s t) (hn : c.testBit n = true) (h1 : u.regs = t.regs) (h2 : u.lat = t.lat)
    (h3 : u.win = t.win) (hp : ∀ i, i ≠ n → t.samePart i u) : Keep c s u :=
  h0.mk_step h1 h2 h3 fun i hi => hp i fun e => by rw [e, hn] at hi; exact Bool.noConfusion hi

/-- Several components replaced. -/
theorem Keep.mk_gen {c : Nat} {s t : State} (h : Keep c s t) {x0 x3 x4 x5 x6 x7 x8 x9 x11 x12 x13 x14 x15 x16 x17 x18 x19 x20 x21 x22 x23 x24 x25}
    (hp : ∀ i, c.testBit i = false → t.samePart i (State.mk x0 t.regs t.lat x3 x4 x5 x6 x7 x8 x9 t.win x11 x12 x13 x14 x15 x16 x17 x18 x19 x20 x21 x22 x23 x24 x25)) :
    Keep c s (State.mk x0 t.regs t.lat x3 x4 x5 x6 x7 x8 x9 t.win x11 x12 x13 x14 x15 x16 x17 x18 x19 x20 x21 x22 x23 x24 x25) := h.mk_step rfl rfl rfl hp

/-! One component replaced. -/

theorem Keep.set_snaps {c : Nat} {s t : State} (h : Keep c s t) (hc : c.testBit 3 = true) {x} : Keep c s { t with snaps := x } :=
  h.mk_one hc rfl rfl rfl fun i hi => by unfold State.samePart; split <;> first | rfl | trivial | exact absurd rfl hi
theorem Keep.set_caps {c : Nat} {s t : State} (h : Keep c s t) (hc : c.testBit 4 = true) {x} : Keep c s { t with caps := x } :=
  h.mk_one hc rfl rfl rfl fun i hi => by unfold State.samePart; split <;> first | rfl | trivial | exact absurd rfl hi
theorem Keep.set_areas {c : Nat} {s t : State} (h : Keep c s t) (hc : c.testBit 5 = true) {x} : Keep c s { t with areas := x } :=
  h.mk_one hc rfl rfl rfl fun i hi => by unfold State.samePart; split <;> first | rfl | trivial | exact absurd rfl hi
theorem Keep.set_rdata {c : Nat} {s t : State} (h : Keep c s t) (hc : c.testBit 6 = true) {x} : Keep c s { t with rdata := x } :=
  h.mk_one hc rfl rfl rfl fun i hi => by unfold State.samePart; split <;> first | rfl | trivial | exact absurd rfl hi
theorem Keep.set_out {c : Nat} {s t : State} (h : Keep c s t) (hc : c.testBit 7 = true) {x} : Keep c s { t with out := x } :=
  h.mk_one hc rfl rfl rfl fun i hi => by unfold State.samePart; split <;> first | rfl | trivial | exact absurd rfl hi
theorem Keep.set_free {c : Nat} {s t : State} (h : Keep c s t) (hc : c.testBit 8 = true) {x} : Keep c s { t with free := x } :=
  h.mk_one hc rfl rfl rfl fun i hi => by unfold State.samePart; split <;> first | rfl | trivial | exact absurd rfl hi
theorem Keep.set_ms {c : Nat} {s t : State} (h : Keep c s t) (hc : c.testBit 9 = true) {x} : Keep c s { t with ms := x } :=
  h.mk_one hc rfl rfl rfl fun i hi => by unfold State.samePart; split <;> first | rfl | trivial | exact absurd rfl hi
theorem Keep.set_host {c : Nat} {s t : State} (h : Keep c s t) (hc : c.testBit 11 = true) {x} : Keep c s { t with host := x } :=
  h.mk_one hc rfl rfl rfl fun i hi => by unfold State.samePart; split <;> first | rfl | trivial | exact absurd rfl hi
theorem Keep.set_flt {c : Nat} {s t : State} (h : Keep c s t) (hc : c.testBit 12 = true) {x} : Keep c s { t with flt := x } :=
  h.mk_one hc rfl rfl rfl fun i hi => by unfold State.samePart; split <;> first | rfl | trivial | exact absurd rfl hi
theorem Keep.set_log {c : Nat} {s t : State} (h : Keep c s t) (hc : c.testBit 13 = true) {x} : Keep c s { t with log := x } :=
  h.mk_one hc rfl rfl rfl fun i hi => by unfold State.samePart; split <;> first | rfl | trivial | exact absurd rfl hi
theorem Keep.set_sec {c : Nat} {s t : State} (h : Keep c s t) (hc : c.testBit 14 = true) {x} : Keep c s { t with sec := x } :=
  h.mk_one hc rfl rfl rfl fun i hi => by unfold State.samePart; split <;> first | rfl | trivial | exact absurd rfl hi
theorem Keep.set_flash {c : Nat} {s t : State} (h : Keep c s t) (hc : c.testBit 15 = true) {x} : Keep c s { t with flash := x } :=
  h.mk_one hc rfl rfl rfl fun i hi => by unfold State.samePart; split <;> first | rfl | trivial | exact absurd rfl hi
theorem Keep.set_upd {c : Nat} {s t : State} (h : Keep c s t) (hc : c.testBit 16 = true) {x} : Keep c s { t with upd := x } :=
  h.mk_one hc rfl rfl rfl fun i hi => by unfold State.samePart; split <;> first | rfl | trivial | exact absurd rfl hi
theorem Keep.set_clusters {c : Nat} {s t : State} (h : Keep c s t) (hc : c.testBit 17 = true) {x} : Keep c s { t with clusters := x } :=
  h.mk_one hc rfl rfl rfl fun i hi => by unfold State.samePart; split <;> first | rfl | trivial | exact absurd rfl hi
theorem Keep.set_eng {c : Nat} {s t : State} (h : Keep c s t) (hc : c.testBit 18 = true) {x} : Keep c s { t with eng := x } :=
  h.mk_one hc rfl rfl rfl fun i hi => by unfold State.samePart; split <;> first | rfl | trivial | exact absurd rfl hi
theorem Keep.set_scn {c : Nat} {s t : State} (h : Keep c s t) (hc : c.testBit 19 = true) {x} : Keep c s { t with scn := x } :=
  h.mk_one hc rfl rfl rfl fun i hi => by unfold State.samePart; split <;> first | rfl | trivial | exact absurd rfl hi
theorem Keep.set_pair {c : Nat} {s t : State} (h : Keep c s t) (hc : c.testBit 20 = true) {x} : Keep c s { t with pair := x } :=
  h.mk_one hc rfl rfl rfl fun i hi => by unfold State.samePart; split <;> first | rfl | trivial | exact absurd rfl hi
theorem Keep.set_ports {c : Nat} {s t : State} (h : Keep c s t) (hc : c.testBit 21 = true) {x} : Keep c s { t with ports := x } :=
  h.mk_one hc rfl rfl rfl fun i hi => by unfold State.samePart; split <;> first | rfl | trivial | exact absurd rfl hi
theorem Keep.set_sl {c : Nat} {s t : State} (h : Keep c s t) (hc : c.testBit 22 = true) {x} : Keep c s { t with sl := x } :=
  h.mk_one hc rfl rfl rfl fun i hi => by unfold State.samePart; split <;> first | rfl | trivial | exact absurd rfl hi
theorem Keep.set_net {c : Nat} {s t : State} (h : Keep c s t) (hc : c.testBit 23 = true) {x} : Keep c s { t with net := x } :=
  h.mk_one hc rfl rfl rfl fun i hi => by unfold State.samePart; split <;> first | rfl | trivial | exact absurd rfl hi
theorem Keep.set_clk {c : Nat} {s t : State} (h : Keep c s t) (hc : c.testBit 24 = true) {x} : Keep c s { t with clk := x } :=
  h.mk_one hc rfl rfl rfl fun i hi => by unfold State.samePart; split <;> first | rfl | trivial | exact absurd rfl hi
theorem Keep.set_en {c : Nat} {s t : State} (h : Keep c s t) (hc : c.testBit 25 = true) {x} : Keep c s { t with en := x } :=
  h.mk_one hc rfl rfl rfl fun i hi => by unfold State.samePart; split <;> first | rfl | trivial | exact absurd rfl hi

/-- Entries of the window, or of the Latent registers, taken out. -/
theorem Keep.win_filter {c : Nat} {s t : State} (h : Keep c s t) (hc : c.testBit 10 = true) {q} : Keep c s { t with win := t.win.filter q } :=
  ⟨fun x => by
    have := h.canon x
    simp only [State.canonical, Bool.and_eq_true] at this ⊢
    exact ⟨this.1, Sparse.wf_filter this.2⟩,
   fun i hi => State.samePart_trans (h.part i hi) (by
    unfold State.samePart; split <;> first | rfl | trivial | (rw [hc] at hi; exact Bool.noConfusion hi))⟩

theorem Keep.lat_filter {c : Nat} {s t : State} (h : Keep c s t) (hc : c.testBit 2 = true) (hn : c.testBit 3 = true) {q x} :
    Keep c s { t with lat := t.lat.filter q, snaps := x } :=
  ⟨fun x => by
    have := h.canon x
    simp only [State.canonical, Bool.and_eq_true] at this ⊢
    exact ⟨⟨this.1.1, Sparse.wf_filter this.1.2⟩, this.2⟩,
   fun i hi => State.samePart_trans (h.part i hi) (by
    unfold State.samePart
    split <;> first | rfl | trivial | (rw [hc] at hi; exact Bool.noConfusion hi) | (rw [hn] at hi; exact Bool.noConfusion hi))⟩

/-! What a mask leaves alone, by name. -/

theorem Keep.pending {k : Nat} {s t : State} (h : Keep k s t) (hk : k.testBit 0 = false := by decide) : t.pending = s.pending := h.part 0 hk
theorem Keep.regs {k : Nat} {s t : State} (h : Keep k s t) (hk : k.testBit 1 = false := by decide) : t.regs = s.regs := h.part 1 hk
theorem Keep.lat {k : Nat} {s t : State} (h : Keep k s t) (hk : k.testBit 2 = false := by decide) : t.lat = s.lat := h.part 2 hk
theorem Keep.snaps {k : Nat} {s t : State} (h : Keep k s t) (hk : k.testBit 3 = false := by decide) : t.snaps = s.snaps := h.part 3 hk
theorem Keep.caps {k : Nat} {s t : State} (h : Keep k s t) (hk : k.testBit 4 = false := by decide) : t.caps = s.caps := h.part 4 hk
theorem Keep.areas {k : Nat} {s t : State} (h : Keep k s t) (hk : k.testBit 5 = false := by decide) : t.areas = s.areas := h.part 5 hk
theorem Keep.rdata {k : Nat} {s t : State} (h : Keep k s t) (hk : k.testBit 6 = false := by decide) : t.rdata = s.rdata := h.part 6 hk
theorem Keep.out {k : Nat} {s t : State} (h : Keep k s t) (hk : k.testBit 7 = false := by decide) : t.out = s.out := h.part 7 hk
theorem Keep.free {k : Nat} {s t : State} (h : Keep k s t) (hk : k.testBit 8 = false := by decide) : t.free = s.free := h.part 8 hk
theorem Keep.ms {k : Nat} {s t : State} (h : Keep k s t) (hk : k.testBit 9 = false := by decide) : t.ms = s.ms := h.part 9 hk
theorem Keep.win {k : Nat} {s t : State} (h : Keep k s t) (hk : k.testBit 10 = false := by decide) : t.win = s.win := h.part 10 hk
theorem Keep.host {k : Nat} {s t : State} (h : Keep k s t) (hk : k.testBit 11 = false := by decide) : t.host = s.host := h.part 11 hk
theorem Keep.flt {k : Nat} {s t : State} (h : Keep k s t) (hk : k.testBit 12 = false := by decide) : t.flt = s.flt := h.part 12 hk
theorem Keep.log {k : Nat} {s t : State} (h : Keep k s t) (hk : k.testBit 13 = false := by decide) : t.log = s.log := h.part 13 hk
theorem Keep.sec {k : Nat} {s t : State} (h : Keep k s t) (hk : k.testBit 14 = false := by decide) : t.sec = s.sec := h.part 14 hk
theorem Keep.flash {k : Nat} {s t : State} (h : Keep k s t) (hk : k.testBit 15 = false := by decide) : t.flash = s.flash := h.part 15 hk
theorem Keep.upd {k : Nat} {s t : State} (h : Keep k s t) (hk : k.testBit 16 = false := by decide) : t.upd = s.upd := h.part 16 hk
theorem Keep.clusters {k : Nat} {s t : State} (h : Keep k s t) (hk : k.testBit 17 = false := by decide) : t.clusters = s.clusters := h.part 17 hk
theorem Keep.eng {k : Nat} {s t : State} (h : Keep k s t) (hk : k.testBit 18 = false := by decide) : t.eng = s.eng := h.part 18 hk
theorem Keep.scn {k : Nat} {s t : State} (h : Keep k s t) (hk : k.testBit 19 = false := by decide) : t.scn = s.scn := h.part 19 hk
theorem Keep.pair {k : Nat} {s t : State} (h : Keep k s t) (hk : k.testBit 20 = false := by decide) : t.pair = s.pair := h.part 20 hk
theorem Keep.ports {k : Nat} {s t : State} (h : Keep k s t) (hk : k.testBit 21 = false := by decide) : t.ports = s.ports := h.part 21 hk
theorem Keep.sl {k : Nat} {s t : State} (h : Keep k s t) (hk : k.testBit 22 = false := by decide) : t.sl = s.sl := h.part 22 hk
theorem Keep.net {k : Nat} {s t : State} (h : Keep k s t) (hk : k.testBit 23 = false := by decide) : t.net = s.net := h.part 23 hk
theorem Keep.clk {k : Nat} {s t : State} (h : Keep k s t) (hk : k.testBit 24 = false := by decide) : t.clk = s.clk := h.part 24 hk
theorem Keep.en {k : Nat} {s t : State} (h : Keep k s t) (hk : k.testBit 25 = false := by decide) : t.en = s.en := h.part 25 hk

/-! Frames over named components. -/

/-- A component's bit in a mask. -/
def Part.ix : Part → Nat
  | .pending => 0
  | .regs => 1
  | .lat => 2
  | .snaps => 3
  | .caps => 4
  | .areas => 5
  | .rdata => 6
  | .out => 7
  | .free => 8
  | .ms => 9
  | .win => 10
  | .host => 11
  | .flt => 12
  | .log => 13
  | .sec => 14
  | .flash => 15
  | .upd => 16
  | .clusters => 17
  | .eng => 18
  | .scn => 19
  | .pair => 20
  | .ports => 21
  | .sl => 22
  | .net => 23
  | .clk => 24
  | .en => 25

/-- Every component outside the list is outside the mask. -/
def Part.covers (k : Nat) (l : List Part) : Bool :=
  [.pending, .regs, .lat, .snaps, .caps, .areas, .rdata, .out, .free, .ms, .win, .host, .flt, .log, .sec, .flash, .upd, .clusters, .eng, .scn, .pair, .ports, .sl, .net, .clk, .en].all fun p => decide (p ∈ l) || !k.testBit p.ix

theorem Keep.sameBut {k : Nat} {l : List Part} {s t : State} (h : Keep k s t) (hc : Part.covers k l = true) : s.sameBut l t := fun p hp => by
  have hm : p ∈ [Part.pending, Part.regs, Part.lat, Part.snaps, Part.caps, Part.areas, Part.rdata, Part.out, Part.free, Part.ms, Part.win, Part.host, Part.flt, Part.log, Part.sec, Part.flash, Part.upd, Part.clusters, Part.eng, Part.scn, Part.pair, Part.ports, Part.sl, Part.net, Part.clk, Part.en] := by cases p <;> decide
  have h1 := List.all_eq_true.1 hc p hm
  rw [decide_eq_false hp, Bool.false_or, Bool.not_eq_true'] at h1
  have h2 := h.part p.ix h1
  cases p <;> exact h2

end Sys2Proof.Machine
end

