-- ==== Sys2Proof/Laws/KeepOps.lean ====
section
/-!
SUPPORT. What each operation of Machine/Ops.lean leaves alone (Laws/Keep.lean).
-/
set_option Elab.async false
set_option linter.all false
namespace Sys2Proof.Machine

theorem keep_setReg {s : State} {x0 x1} : Keep 0x2 s (State.setReg s x0 x1) := 
  ⟨fun h => by
    simp only [State.canonical, Bool.and_eq_true] at h ⊢
    exact ⟨⟨Sparse.wf_set h.1.1, h.1.2⟩, h.2⟩,
   fun i hi => by unfold State.samePart; split <;> first | rfl | trivial | exact absurd hi (by decide)⟩


theorem keep_wr {s : State} {x0 x1} : Keep 0x2 s (State.wr s x0 x1) := by
  unfold State.wr
  try extract_lets
  repeat' first
    | (with_reducible apply Keep.refl)
    | (show (_ ||| _ : Nat) = _; rfl)
    | (with_reducible apply Keep.step keep_setReg)

theorem keep_wrb {s : State} {x0 x1} : Keep 0x2 s (State.wrb s x0 x1) := by
  unfold State.wrb
  try extract_lets
  repeat' first
    | (with_reducible apply Keep.refl)
    | (show (_ ||| _ : Nat) = _; rfl)
    | (with_reducible apply Keep.step keep_wr)

theorem keep_bump {s : State} {x0} : Keep 0x2 s (State.bump s x0) := by
  unfold State.bump
  try extract_lets
  repeat' first
    | (with_reducible apply Keep.refl)
    | (show (_ ||| _ : Nat) = _; rfl)
    | (with_reducible apply Keep.step keep_wr)

theorem keep_bumpBy {s : State} {x0 x1} : Keep 0x2 s (State.bumpBy s x0 x1) := by
  unfold State.bumpBy
  try extract_lets
  repeat' first
    | (with_reducible apply Keep.refl)
    | (show (_ ||| _ : Nat) = _; rfl)
    | (with_reducible apply Keep.step keep_wr)

theorem keep_bumpSat {s : State} {x0} : Keep 0x2 s (State.bumpSat s x0) := by
  unfold State.bumpSat
  try extract_lets
  repeat' first
    | (with_reducible apply Keep.refl)
    | (show (_ ||| _ : Nat) = _; rfl)
    | (with_reducible apply Keep.step keep_wr)
    | (with_reducible apply Keep.ite <;> try extract_lets)

theorem keep_wr64 {s : State} {x0 x1 x2} : Keep 0x2 s (State.wr64 s x0 x1 x2) := by
  unfold State.wr64
  try extract_lets
  repeat' first
    | (with_reducible apply Keep.refl)
    | (show (_ ||| _ : Nat) = _; rfl)
    | (with_reducible apply Keep.step keep_wr)

theorem keep_wrAll {s : State} {x0} : Keep 0x2 s (State.wrAll s x0) := by
  unfold State.wrAll
  try extract_lets
  repeat' first
    | (with_reducible apply Keep.refl)
    | (show (_ ||| _ : Nat) = _; rfl)
    | (with_reducible apply Keep.step keep_wr)
    | (with_reducible apply Keep.fold <;> try intro s x <;> try extract_lets)

theorem keep_open_ {s : State} : Keep 0x100 s (State.open_ s).2 := by
  unfold State.open_
  try extract_lets
  repeat' first
    | (with_reducible apply Keep.refl)
    | (show Nat.testBit _ _ = true; rfl)
    | (dsimp only)
    | (with_reducible apply Keep.set_free)

theorem keep_put {s : State} {x0} : Keep 0x80 s (State.put s x0) := by
  unfold State.put
  try extract_lets
  repeat' first
    | (with_reducible apply Keep.refl)
    | (show Nat.testBit _ _ = true; rfl)
    | (with_reducible apply Keep.set_out)

theorem keep_answer {s : State} {x0} : Keep 0x40 s (State.answer s x0) := by
  unfold State.answer
  try extract_lets
  repeat' first
    | (with_reducible apply Keep.refl)
    | (show Nat.testBit _ _ = true; rfl)
    | (with_reducible apply Keep.set_rdata)

theorem keep_setWin {s : State} {x0 x1} : Keep 0x400 s (State.setWin s x0 x1) := 
  ⟨fun h => by
    simp only [State.canonical, Bool.and_eq_true] at h ⊢
    exact ⟨h.1, wf_memBytes h.2⟩,
   fun i hi => by unfold State.samePart; split <;> first | rfl | trivial | exact absurd hi (by decide)⟩


theorem keep_setWord {s : State} {x0 x1} : Keep 0x400 s (State.setWord s x0 x1) := by
  unfold State.setWord
  try extract_lets
  repeat' first
    | (with_reducible apply Keep.refl)
    | (show (_ ||| _ : Nat) = _; rfl)
    | (with_reducible apply Keep.step keep_setWin)

theorem keep_edge {s : State} {x0 x1} : Keep 0x1002 s (State.edge s x0 x1) := by
  unfold State.edge
  try extract_lets
  repeat' first
    | (with_reducible apply Keep.refl)
    | (show (_ ||| _ : Nat) = _; rfl)
    | (show Nat.testBit _ _ = true; rfl)
    | (with_reducible apply Keep.step keep_bump)
    | (with_reducible apply Keep.step keep_wr)
    | (with_reducible apply Keep.ite <;> try extract_lets)
    | (with_reducible apply Keep.set_flt)

theorem keep_source {s : State} {x0 x1 x2} : Keep 0x1002 s (State.source s x0 x1 x2) := by
  unfold State.source
  try extract_lets
  repeat' first
    | (with_reducible apply Keep.refl)
    | (show (_ ||| _ : Nat) = _; rfl)
    | (with_reducible apply Keep.step keep_wr)
    | (with_reducible apply Keep.step keep_edge)
    | (with_reducible apply Keep.ite <;> try extract_lets)

theorem keep_idle {s : State} {x0} : Keep 0x2 s (State.idle s x0) := by
  unfold State.idle
  try extract_lets
  repeat' first
    | (with_reducible apply Keep.refl)
    | (show (_ ||| _ : Nat) = _; rfl)
    | (with_reducible apply Keep.step keep_wr)

theorem keep_pulse {s : State} {x0 x1} : Keep 0x1002 s (State.pulse s x0 x1) := by
  unfold State.pulse
  try extract_lets
  repeat' first
    | (with_reducible apply Keep.refl)
    | (show (_ ||| _ : Nat) = _; rfl)
    | (with_reducible apply Keep.step keep_source)
    | (with_reducible apply Keep.ite <;> try extract_lets)

theorem keep_queueEvent {s : State} {x0} : Keep 0x1802 s (State.queueEvent s x0) := by
  unfold State.queueEvent
  try extract_lets
  repeat' first
    | (with_reducible apply Keep.refl)
    | (show (_ ||| _ : Nat) = _; rfl)
    | (show Nat.testBit _ _ = true; rfl)
    | (with_reducible apply Keep.step keep_pulse)
    | (with_reducible apply Keep.step keep_bumpSat)
    | (with_reducible apply Keep.ite <;> try extract_lets)
    | (with_reducible apply Keep.set_host)

theorem keep_showLog {s : State} : Keep 0x2 s (State.showLog s) := by
  unfold State.showLog
  try extract_lets
  repeat' first
    | (with_reducible apply Keep.refl)
    | (show (_ ||| _ : Nat) = _; rfl)
    | (with_reducible apply Keep.step keep_wrAll)

theorem keep_stageRec {s : State} {x0} : Keep 0x3002 s (State.stageRec s x0) := by
  unfold State.stageRec
  try extract_lets
  repeat' first
    | (with_reducible apply Keep.refl)
    | (show (_ ||| _ : Nat) = _; rfl)
    | (show Nat.testBit _ _ = true; rfl)
    | (with_reducible apply Keep.step keep_showLog)
    | (with_reducible apply Keep.step keep_pulse)
    | (with_reducible apply Keep.step keep_bump)
    | (split <;> try extract_lets)
    | (with_reducible apply Keep.set_log)

theorem keep_record {s : State} {x0 x1 x2 x3 x4} : Keep 0x3802 s (State.record s x0 x1 x2 x3 x4) := by
  unfold State.record
  try extract_lets
  repeat' first
    | (with_reducible apply Keep.refl)
    | (show (_ ||| _ : Nat) = _; rfl)
    | (show Nat.testBit _ _ = true; rfl)
    | (with_reducible apply Keep.step keep_stageRec)
    | (with_reducible apply Keep.step keep_queueEvent)
    | (with_reducible apply Keep.ite <;> try extract_lets)
    | (with_reducible apply Keep.set_log)

theorem keep_sendVec {s : State} {x0} : Keep 0x82 s (State.sendVec s x0) := by
  unfold State.sendVec
  try extract_lets
  repeat' first
    | (with_reducible apply Keep.refl)
    | (show (_ ||| _ : Nat) = _; rfl)
    | (with_reducible apply Keep.step keep_setReg)
    | (with_reducible apply Keep.step keep_put)
    | (with_reducible apply Keep.ite <;> try extract_lets)

theorem keep_countIrq {s : State} {x0 x1} : Keep 0x882 s (State.countIrq s x0 x1) := by
  unfold State.countIrq
  try extract_lets
  repeat' first
    | (with_reducible apply Keep.refl)
    | (show (_ ||| _ : Nat) = _; rfl)
    | (show Nat.testBit _ _ = true; rfl)
    | (with_reducible apply Keep.step keep_sendVec)
    | (with_reducible apply Keep.ite <;> try extract_lets)
    | (with_reducible apply Keep.set_host)

theorem keep_setQueue {s : State} {x0 x1} : Keep 0x800 s (State.setQueue s x0 x1) := by
  unfold State.setQueue
  try extract_lets
  repeat' first
    | (with_reducible apply Keep.refl)
    | (show Nat.testBit _ _ = true; rfl)
    | (with_reducible apply Keep.set_host)

theorem keep_consume {s : State} {x0} : Keep 0x802 s (State.consume s x0) := by
  unfold State.consume
  try extract_lets
  repeat' first
    | (with_reducible apply Keep.refl)
    | (show (_ ||| _ : Nat) = _; rfl)
    | (with_reducible apply Keep.step keep_wr)
    | (with_reducible apply Keep.step keep_setQueue)

theorem keep_spiPut {s : State} {x0 x1} : Keep 0x800 s (State.spiPut s x0 x1) := by
  unfold State.spiPut
  try extract_lets
  repeat' first
    | (with_reducible apply Keep.refl)
    | (show Nat.testBit _ _ = true; rfl)
    | (with_reducible apply Keep.set_host)

theorem keep_dmaOut {s : State} {x0 x1} : Keep 0x880 s (State.dmaOut s x0 x1) := by
  unfold State.dmaOut
  try extract_lets
  repeat' first
    | (with_reducible apply Keep.refl)
    | (show (_ ||| _ : Nat) = _; rfl)
    | (with_reducible apply Keep.step keep_spiPut)
    | (with_reducible apply Keep.step keep_put)
    | (with_reducible apply Keep.ite <;> try extract_lets)

theorem keep_writeBack {s : State} {x0 x1 x2} : Keep 0x880 s (State.writeBack s x0 x1 x2) := by
  unfold State.writeBack
  try extract_lets
  repeat' first
    | (with_reducible apply Keep.refl)
    | (with_reducible apply Keep.step keep_put)
    | (show (_ ||| _ : Nat) = _; rfl)
    | (with_reducible apply Keep.step keep_spiPut)
    | (with_reducible apply Keep.ite <;> try extract_lets)

theorem keep_ringStop {s : State} {x0} : Keep 0x1002 s (State.ringStop s x0) := by
  unfold State.ringStop
  try extract_lets
  repeat' first
    | (with_reducible apply Keep.refl)
    | (show (_ ||| _ : Nat) = _; rfl)
    | (with_reducible apply Keep.step keep_pulse)
    | (with_reducible apply Keep.step keep_wr)

theorem keep_showBlocked {s : State} {x0} : Keep 0x2 s (State.showBlocked s x0) := by
  unfold State.showBlocked
  try extract_lets
  repeat' first
    | (with_reducible apply Keep.refl)
    | (show (_ ||| _ : Nat) = _; rfl)
    | (with_reducible apply Keep.step keep_wrb)
    | (with_reducible apply Keep.ite <;> try extract_lets)

theorem keep_showRing {s : State} {x0} : Keep 0x2 s (State.showRing s x0) := by
  unfold State.showRing
  try extract_lets
  repeat' first
    | (with_reducible apply Keep.refl)
    | (show (_ ||| _ : Nat) = _; rfl)
    | (show Nat.testBit _ _ = true; rfl)
    | (with_reducible apply Keep.step keep_showBlocked)
    | (with_reducible apply Keep.ite <;> try extract_lets)
    | (split <;> try extract_lets)
    | (dsimp only)

theorem keep_finishPosted {s : State} {x0 x1 x2 x3 x4 x5 x6 x7} : Keep 0x1882 s (State.finishPosted s x0 x1 x2 x3 x4 x5 x6 x7) := by
  unfold State.finishPosted
  try extract_lets
  repeat' first
    | (with_reducible apply Keep.refl)
    | (show (_ ||| _ : Nat) = _; rfl)
    | (show Nat.testBit _ _ = true; rfl)
    | (with_reducible apply Keep.step keep_showRing)
    | (with_reducible apply Keep.step keep_ringStop)
    | (with_reducible apply Keep.step keep_writeBack)
    | (with_reducible apply Keep.step keep_consume)
    | (with_reducible apply Keep.step keep_countIrq)
    | (with_reducible apply Keep.ite <;> try extract_lets)
    | (split <;> try extract_lets)
    | (dsimp only)

theorem keep_failPosted {s : State} {x0 x1} : Keep 0x1882 s (State.failPosted s x0 x1) := by
  unfold State.failPosted
  try extract_lets
  repeat' first
    | (with_reducible apply Keep.refl)
    | (show (_ ||| _ : Nat) = _; rfl)
    | (show Nat.testBit _ _ = true; rfl)
    | (with_reducible apply Keep.step keep_finishPosted)
    | (with_reducible apply Keep.ite <;> try extract_lets)
    | (dsimp only)

theorem keep_fillPosted {s : State} {x0 x1} : Keep 0x800 s (State.fillPosted s x0 x1) := by
  unfold State.fillPosted
  try extract_lets
  repeat' first
    | (with_reducible apply Keep.refl)
    | (show (_ ||| _ : Nat) = _; rfl)
    | (with_reducible apply Keep.step keep_spiPut)
    | (with_reducible apply Keep.ite <;> try extract_lets)

theorem keep_respond {s : State} {x0 x1 x2 x3 x4} : Keep 0x1882 s (State.respond s x0 x1 x2 x3 x4) := by
  unfold State.respond
  try extract_lets
  repeat' first
    | (with_reducible apply Keep.refl)
    | (with_reducible apply Keep.step keep_ringStop)
    | (show (_ ||| _ : Nat) = _; rfl)
    | (with_reducible apply Keep.step keep_writeBack)
    | (with_reducible apply Keep.step keep_countIrq)
    | (with_reducible apply Keep.step keep_put)
    | (with_reducible apply Keep.step keep_consume)
    | (dsimp only)
    | (split <;> try extract_lets)

theorem keep_fin {s : State} {x0} : Keep 0x0 s (State.fin s x0).st := by
  unfold State.fin
  try extract_lets
  repeat' first
    | (with_reducible apply Keep.refl)

theorem keep_finWith {s : State} {x0 x1 x2 x3} : Keep 0x0 s (State.finWith s x0 x1 x2 x3).st := by
  unfold State.finWith
  try extract_lets
  repeat' first
    | (with_reducible apply Keep.refl)

theorem keep_later {s : State} : Keep 0x0 s (State.later s).st := by
  unfold State.later
  try extract_lets
  repeat' first
    | (with_reducible apply Keep.refl)

end Sys2Proof.Machine
end

