-- ==== Sys2Proof/Laws/KeepStrips.lean ====
section
/-!
SUPPORT. What each operation of Machine/Strips.lean leaves alone (Laws/Keep.lean).
-/
set_option Elab.async false
set_option linter.all false
namespace Sys2Proof.Machine

theorem keep_setBitArr {s : State} {x0 x1 x2} : Keep 0x2 s (State.setBitArr s x0 x1 x2) := by
  unfold State.setBitArr
  try extract_lets
  repeat' first
    | (with_reducible apply Keep.refl)
    | (show (_ ||| _ : Nat) = _; rfl)
    | (with_reducible apply Keep.step keep_setReg)

theorem keep_setEng {s : State} {x0} : Keep 0x40000 s (State.setEng s x0) := by
  unfold State.setEng
  try extract_lets
  repeat' first
    | (with_reducible apply Keep.refl)
    | (show Nat.testBit _ _ = true; rfl)
    | (with_reducible apply Keep.set_eng)

theorem keep_setInst {s : State} {x0 x1} : Keep 0x40000 s (State.setInst s x0 x1) := by
  unfold State.setInst
  try extract_lets
  repeat' first
    | (with_reducible apply Keep.refl)
    | (show Nat.testBit _ _ = true; rfl)
    | (with_reducible apply Keep.set_eng)

theorem keep_setCluster {s : State} {x0 x1} : Keep 0x20000 s (State.setCluster s x0 x1) := by
  unfold State.setCluster
  try extract_lets
  repeat' first
    | (with_reducible apply Keep.refl)
    | (show Nat.testBit _ _ = true; rfl)
    | (with_reducible apply Keep.set_clusters)

theorem keep_clEvent {s : State} {x0 x1 x2} : Keep 0x1002 s (State.clEvent s x0 x1 x2) := by
  unfold State.clEvent
  try extract_lets
  repeat' first
    | (with_reducible apply Keep.refl)
    | (show (_ ||| _ : Nat) = _; rfl)
    | (with_reducible apply Keep.step keep_bump)
    | (with_reducible apply Keep.step keep_pulse)
    | (with_reducible apply Keep.step keep_wrAll)
    | (with_reducible apply Keep.step keep_bumpSat)
    | (with_reducible apply Keep.step keep_wr)
    | (split <;> try extract_lets)

theorem keep_kernelEnded {s : State} {x0 x1 x2 x3} : Keep 0x1002 s (State.kernelEnded s x0 x1 x2 x3) := by
  unfold State.kernelEnded
  try extract_lets
  repeat' first
    | (with_reducible apply Keep.refl)
    | (show (_ ||| _ : Nat) = _; rfl)
    | (with_reducible apply Keep.step keep_wr)
    | (with_reducible apply Keep.step keep_bump)
    | (with_reducible apply Keep.step keep_pulse)
    | (with_reducible apply Keep.ite <;> try extract_lets)

theorem keep_afterIssue {s : State} {x0 x1 x2 x3} : Keep 0x21002 s (State.afterIssue s x0 x1 x2 x3) := by
  unfold State.afterIssue
  try extract_lets
  repeat' first
    | (with_reducible apply Keep.refl)
    | (show (_ ||| _ : Nat) = _; rfl)
    | (with_reducible apply Keep.step keep_setCluster)
    | (with_reducible apply Keep.step keep_clEvent)
    | (with_reducible apply Keep.step keep_kernelEnded)
    | (with_reducible apply Keep.ite <;> try extract_lets)
    | (with_reducible apply Keep.each <;> try intro s x <;> try extract_lets)

theorem keep_stopInst {s : State} {x0} : Keep 0x40000 s (State.stopInst s x0) := by
  unfold State.stopInst
  try extract_lets
  repeat' first
    | (with_reducible apply Keep.refl)
    | (show (_ ||| _ : Nat) = _; rfl)
    | (with_reducible apply Keep.step keep_setInst)
    | (split <;> try extract_lets)

theorem keep_kernelOvr {s : State} {x0 x1} : Keep 0x1002 s (State.kernelOvr s x0 x1) := by
  unfold State.kernelOvr
  try extract_lets
  repeat' first
    | (with_reducible apply Keep.refl)
    | (show (_ ||| _ : Nat) = _; rfl)
    | (with_reducible apply Keep.step keep_pulse)
    | (with_reducible apply Keep.step keep_wr64)
    | (with_reducible apply Keep.step keep_wrAll)
    | (with_reducible apply Keep.step keep_bump)

theorem keep_kernelStop {s : State} {x0 x1 x2} : Keep 0x61002 s (State.kernelStop s x0 x1 x2) := by
  unfold State.kernelStop
  try extract_lets
  repeat' first
    | (with_reducible apply Keep.refl)
    | (show (_ ||| _ : Nat) = _; rfl)
    | (show Nat.testBit _ _ = true; rfl)
    | (with_reducible apply Keep.step keep_kernelOvr)
    | (with_reducible apply Keep.step keep_stopInst)
    | (with_reducible apply Keep.step keep_setCluster)
    | (with_reducible apply Keep.step keep_setInst)
    | (with_reducible apply Keep.ite <;> try extract_lets)
    | (dsimp only)
    | (split <;> try extract_lets)
    | (dsimp +zetaDelta only; split <;> try extract_lets)

theorem keep_kernelRest {s : State} {x0} : Keep 0x20000 s (State.kernelRest s x0) := by
  unfold State.kernelRest
  try extract_lets
  repeat' first
    | (with_reducible apply Keep.refl)
    | (show (_ ||| _ : Nat) = _; rfl)
    | (with_reducible apply Keep.step keep_setCluster)
    | (dsimp only)
    | (split <;> try extract_lets)

theorem keep_putCopies {s : State} {x0} : Keep 0x20000 s (State.putCopies s x0) := by
  unfold State.putCopies
  try extract_lets
  repeat' first
    | (with_reducible apply Keep.refl)
    | (show (_ ||| _ : Nat) = _; rfl)
    | (show Nat.testBit _ _ = true; rfl)
    | (with_reducible apply Keep.step keep_setCluster)
    | (with_reducible apply Keep.ite <;> try extract_lets)
    | (split <;> try extract_lets)
    | (dsimp only)

theorem keep_runKernelInst {s : State} {x0 x1 x2 x3} : Keep 0x61002 s (State.runKernelInst s x0 x1 x2 x3).2 := by
  unfold State.runKernelInst
  try extract_lets
  repeat' first
    | (with_reducible apply Keep.refl)
    | (with_reducible apply Keep.step keep_setCluster)
    | (show (_ ||| _ : Nat) = _; rfl)
    | (with_reducible apply Keep.step keep_wrAll)
    | (with_reducible apply Keep.step keep_afterIssue)
    | (with_reducible apply Keep.step keep_setInst)
    | (with_reducible apply Keep.step keep_stopInst)
    | (with_reducible apply Keep.step keep_kernelOvr)
    | (with_reducible apply Keep.ite <;> try extract_lets)
    | (dsimp only)
    | (split <;> try extract_lets)

theorem keep_builtinRun {s : State} {x0 x1 x2} : Keep 0x20002 s (State.builtinRun s x0 x1 x2) := by
  unfold State.builtinRun
  try extract_lets
  repeat' first
    | (with_reducible apply Keep.refl)
    | (show (_ ||| _ : Nat) = _; rfl)
    | (show Nat.testBit _ _ = true; rfl)
    | (with_reducible apply Keep.step keep_setCluster)
    | (with_reducible apply Keep.step keep_wrAll)
    | (with_reducible apply Keep.ite <;> try extract_lets)
    | (split <;> try extract_lets)
    | (dsimp only)

theorem keep_clipConceal {s : State} {x0 x1 x2} : Keep 0x40000 s (State.clipConceal s x0 x1 x2).2 := by
  unfold State.clipConceal
  try extract_lets
  repeat' first
    | (with_reducible apply Keep.refl)
    | (show Nat.testBit _ _ = true; rfl)
    | (with_reducible apply Keep.fold_snd <;> try intro p x <;> try extract_lets)
    | (dsimp only)
    | (with_reducible apply Keep.set_eng)

theorem keep_tapsReplaced {s : State} {x0} : Keep 0x1002 s (State.tapsReplaced s x0) := by
  unfold State.tapsReplaced
  try extract_lets
  repeat' first
    | (with_reducible apply Keep.refl)
    | (show (_ ||| _ : Nat) = _; rfl)
    | (show Nat.testBit _ _ = true; rfl)
    | (with_reducible apply Keep.step keep_pulse)
    | (with_reducible apply Keep.step keep_bumpBy)
    | (with_reducible apply Keep.ite <;> try extract_lets)
    | (split <;> try extract_lets)
    | (dsimp only)

theorem keep_dramDouble {s : State} {x0} : Keep 0x1002 s (State.dramDouble s x0) := by
  unfold State.dramDouble
  try extract_lets
  repeat' first
    | (with_reducible apply Keep.refl)
    | (show (_ ||| _ : Nat) = _; rfl)
    | (show Nat.testBit _ _ = true; rfl)
    | (with_reducible apply Keep.step keep_pulse)
    | (with_reducible apply Keep.step keep_wr64)
    | (with_reducible apply Keep.step keep_bumpBy)
    | (with_reducible apply Keep.ite <;> try extract_lets)
    | (split <;> try extract_lets)
    | (dsimp only)

theorem keep_runInst {s : State} {x0 x1 x2 x3} : Keep 0x61002 s (State.runInst s x0 x1 x2 x3).2 := by
  unfold State.runInst
  try extract_lets
  repeat' first
    | (with_reducible apply Keep.refl)
    | (with_reducible apply Keep.step keep_tapsReplaced)
    | (with_reducible apply Keep.step keep_dramDouble)
    | (with_reducible apply Keep.step keep_builtinRun)
    | (show (_ ||| _ : Nat) = _; rfl)
    | (show Nat.testBit _ _ = true; rfl)
    | (with_reducible apply Keep.step keep_runKernelInst)
    | (with_reducible apply Keep.step keep_clipConceal)
    | (with_reducible apply Keep.step keep_setInst)
    | (with_reducible apply Keep.ite_snd <;> try extract_lets)
    | (dsimp only)
    | (split <;> try extract_lets)
    | (with_reducible apply Keep.set_eng)

theorem keep_tapeZeros {s : State} {x0 x1} : Keep 0x40000 s (State.tapeZeros s x0 x1) := by
  unfold State.tapeZeros
  try extract_lets
  repeat' first
    | (with_reducible apply Keep.refl)
    | (show (_ ||| _ : Nat) = _; rfl)
    | (show Nat.testBit _ _ = true; rfl)
    | (with_reducible apply Keep.ite <;> try extract_lets)
    | (with_reducible apply Keep.set_eng)
    | (with_reducible refine Keep.mk_gen ?_ (fun i hi => by unfold State.samePart; split <;> first | rfl | trivial | exact absurd hi (by decide)))
    | (split <;> try extract_lets)
    | (dsimp only)

theorem keep_runStrip {s : State} {x0 x1 x2 x3 x4} : Keep 0x61002 s (State.runStrip s x0 x1 x2 x3 x4).2 := by
  unfold State.runStrip
  try extract_lets
  repeat' first
    | (with_reducible apply Keep.refl)
    | (show (_ ||| _ : Nat) = _; rfl)
    | (with_reducible apply Keep.step keep_runInst)
    | (with_reducible apply Keep.fold_snd <;> try intro p x <;> try extract_lets)

end Sys2Proof.Machine
end

