-- ==== Sys2Proof/Laws/KeepCrosspoint.lean ====
section
/-!
SUPPORT. What each operation of Machine/Crosspoint.lean leaves alone (Laws/Keep.lean).
-/
set_option Elab.async false
set_option linter.all false
namespace Sys2Proof.Machine

theorem keep_showEff {s : State} : Keep 0x2 s (State.showEff s) := by
  unfold State.showEff
  try extract_lets
  repeat' first
    | (with_reducible apply Keep.refl)
    | (show (_ ||| _ : Nat) = _; rfl)
    | (with_reducible apply Keep.step keep_wr)
    | (with_reducible apply Keep.each <;> try intro s x <;> try extract_lets)

theorem keep_showForce {s : State} : Keep 0x2 s (State.showForce s) := by
  unfold State.showForce
  try extract_lets
  repeat' first
    | (with_reducible apply Keep.refl)
    | (show (_ ||| _ : Nat) = _; rfl)
    | (with_reducible apply Keep.step keep_wr)
    | (with_reducible apply Keep.each <;> try intro s x <;> try extract_lets)

theorem keep_nodeTo {s : State} {x0 x1 x2 x3 x4} : Keep 0x40400 s (State.nodeTo s x0 x1 x2 x3 x4) := by
  unfold State.nodeTo
  try extract_lets
  repeat' first
    | (with_reducible apply Keep.refl)
    | (show (_ ||| _ : Nat) = _; rfl)
    | (show Nat.testBit _ _ = true; rfl)
    | (with_reducible apply Keep.step keep_setWord)
    | (dsimp +zetaDelta only; split <;> try extract_lets)
    | (with_reducible apply Keep.set_eng)

theorem keep_nodesTo {s : State} {x0 x1 x2} : Keep 0x40402 s (State.nodesTo s x0 x1 x2) := by
  unfold State.nodesTo
  try extract_lets
  repeat' first
    | (with_reducible apply Keep.refl)
    | (with_reducible apply Keep.step keep_bumpBy)
    | (show (_ ||| _ : Nat) = _; rfl)
    | (show Nat.testBit _ _ = true; rfl)
    | (with_reducible apply Keep.step keep_nodeTo)
    | (with_reducible apply Keep.each <;> try intro s x <;> try extract_lets)
    | (split <;> try extract_lets)
    | (dsimp +zetaDelta only; split <;> try extract_lets)
    | (with_reducible apply Keep.set_eng)

theorem keep_startColumn {s : State} {x0 x1} : Keep 0x40002 s (State.startColumn s x0 x1) := by
  unfold State.startColumn
  try extract_lets
  repeat' first
    | (with_reducible apply Keep.refl)
    | (show (_ ||| _ : Nat) = _; rfl)
    | (show Nat.testBit _ _ = true; rfl)
    | (with_reducible apply Keep.step keep_bump)
    | (with_reducible apply Keep.set_eng)

theorem keep_endRamps {s : State} : Keep 0x40000 s (State.endRamps s) := by
  unfold State.endRamps
  try extract_lets
  repeat' first
    | (with_reducible apply Keep.refl)
    | (show Nat.testBit _ _ = true; rfl)
    | (with_reducible apply Keep.set_eng)

theorem keep_noteSat {s : State} {x0 x1} : Keep 0x2 s (State.noteSat s x0 x1) := by
  unfold State.noteSat
  try extract_lets
  repeat' first
    | (with_reducible apply Keep.refl)
    | (show (_ ||| _ : Nat) = _; rfl)
    | (with_reducible apply Keep.step keep_bumpBy)
    | (with_reducible apply Keep.step keep_setBitArr)
    | (with_reducible apply Keep.each <;> try intro s x <;> try extract_lets)

theorem keep_phaseB {s : State} {x0 x1} : Keep 0x40002 s (State.phaseB s x0 x1) := by
  unfold State.phaseB
  try extract_lets
  repeat' first
    | (with_reducible apply Keep.refl)
    | (show (_ ||| _ : Nat) = _; rfl)
    | (show Nat.testBit _ _ = true; rfl)
    | (with_reducible apply Keep.step keep_wr)
    | (with_reducible apply Keep.step keep_noteSat)
    | (with_reducible apply Keep.set_eng)

theorem keep_showZones {s : State} {x0} : Keep 0x2 s (State.showZones s x0) := by
  unfold State.showZones
  try extract_lets
  repeat' first
    | (with_reducible apply Keep.refl)
    | (show (_ ||| _ : Nat) = _; rfl)
    | (with_reducible apply Keep.step keep_wr)
    | (with_reducible apply Keep.each <;> try intro s x <;> try extract_lets)

theorem keep_showRamps {s : State} : Keep 0x2 s (State.showRamps s) := by
  unfold State.showRamps
  try extract_lets
  repeat' first
    | (with_reducible apply Keep.refl)
    | (show (_ ||| _ : Nat) = _; rfl)
    | (with_reducible apply Keep.step keep_wrAll)

theorem keep_phaseD {s : State} {x0 x1} : Keep 0x41002 s (State.phaseD s x0 x1) := by
  unfold State.phaseD
  try extract_lets
  repeat' first
    | (with_reducible apply Keep.refl)
    | (show (_ ||| _ : Nat) = _; rfl)
    | (show Nat.testBit _ _ = true; rfl)
    | (with_reducible apply Keep.step keep_source)
    | (with_reducible apply Keep.step keep_showRamps)
    | (with_reducible apply Keep.step keep_showZones)
    | (with_reducible apply Keep.step keep_wr)
    | (with_reducible apply Keep.step keep_noteSat)
    | (with_reducible apply Keep.set_eng)

end Sys2Proof.Machine
end

