-- ==== Sys2Proof/Laws/KeepPairOps.lean ====
section
/-!
SUPPORT. What each operation of Machine/PairOps.lean leaves alone (Laws/Keep.lean).
-/
set_option Elab.async false
set_option linter.all false
namespace Sys2Proof.Machine

theorem keep_setPair {s : State} {x0} : Keep 0x100000 s (State.setPair s x0) := by
  unfold State.setPair
  try extract_lets
  repeat' first
    | (with_reducible apply Keep.refl)
    | (show Nat.testBit _ _ = true; rfl)
    | (with_reducible apply Keep.set_pair)

theorem keep_showClaim {s : State} : Keep 0x2 s (State.showClaim s) := by
  unfold State.showClaim
  try extract_lets
  repeat' first
    | (with_reducible apply Keep.refl)
    | (show (_ ||| _ : Nat) = _; rfl)
    | (with_reducible apply Keep.step keep_wr)

theorem keep_toRole {s : State} {x0 x1} : Keep 0x103802 s (State.toRole s x0 x1) := by
  unfold State.toRole
  try extract_lets
  repeat' first
    | (with_reducible apply Keep.refl)
    | (show (_ ||| _ : Nat) = _; rfl)
    | (with_reducible apply Keep.step keep_wr64)
    | (with_reducible apply Keep.step keep_wr)
    | (with_reducible apply Keep.step keep_setPair)
    | (with_reducible apply Keep.step keep_showClaim)
    | (with_reducible apply Keep.step keep_record)
    | (with_reducible apply Keep.ite <;> try extract_lets)

theorem keep_seeEpoch {s : State} {x0} : Keep 0x100000 s (State.seeEpoch s x0) := by
  unfold State.seeEpoch
  try extract_lets
  repeat' first
    | (with_reducible apply Keep.refl)
    | (show (_ ||| _ : Nat) = _; rfl)
    | (with_reducible apply Keep.step keep_setPair)
    | (with_reducible apply Keep.ite <;> try extract_lets)

theorem keep_send {s : State} {x0} : Keep 0x80 s (State.send s x0) := by
  unfold State.send
  try extract_lets
  repeat' first
    | (with_reducible apply Keep.refl)
    | (show (_ ||| _ : Nat) = _; rfl)
    | (with_reducible apply Keep.step keep_put)
    | (with_reducible apply Keep.ite <;> try extract_lets)

theorem keep_sendReliable {s : State} {x0} : Keep 0x100080 s (State.sendReliable s x0) := by
  unfold State.sendReliable
  try extract_lets
  repeat' first
    | (with_reducible apply Keep.refl)
    | (show (_ ||| _ : Nat) = _; rfl)
    | (with_reducible apply Keep.step keep_send)
    | (with_reducible apply Keep.step keep_setPair)

theorem keep_mirrorWrite {s : State} {x0} : Keep 0x100080 s (State.mirrorWrite s x0) := by
  unfold State.mirrorWrite
  try extract_lets
  repeat' first
    | (with_reducible apply Keep.refl)
    | (show (_ ||| _ : Nat) = _; rfl)
    | (with_reducible apply Keep.step keep_sendReliable)
    | (with_reducible apply Keep.ite <;> try extract_lets)

theorem keep_armChange {s : State} {x0} : Keep 0x100080 s (State.armChange s x0) := by
  unfold State.armChange
  try extract_lets
  repeat' first
    | (with_reducible apply Keep.refl)
    | (show (_ ||| _ : Nat) = _; rfl)
    | (with_reducible apply Keep.step keep_sendReliable)
    | (with_reducible apply Keep.step keep_setPair)
    | (with_reducible apply Keep.ite <;> try extract_lets)

theorem keep_demote {s : State} : Keep 0x103802 s (State.demote s) := by
  unfold State.demote
  try extract_lets
  repeat' first
    | (with_reducible apply Keep.refl)
    | (show (_ ||| _ : Nat) = _; rfl)
    | (with_reducible apply Keep.step keep_wr)
    | (with_reducible apply Keep.step keep_bump)
    | (with_reducible apply Keep.step keep_pulse)
    | (with_reducible apply Keep.step keep_showClaim)
    | (with_reducible apply Keep.step keep_toRole)
    | (with_reducible apply Keep.ite <;> try extract_lets)

end Sys2Proof.Machine
end

