-- ==== Sys2Proof/Laws/KeepPorts.lean ====
section
/-!
SUPPORT. What each operation of Machine/Ports.lean leaves alone (Laws/Keep.lean).
-/
set_option Elab.async false
set_option linter.all false
namespace Sys2Proof.Machine

theorem keep_capture {s : State} {x0 x1 x2 x3} : Keep 0x40000 s (State.capture s x0 x1 x2 x3) := by
  unfold State.capture
  try extract_lets
  repeat' first
    | (with_reducible apply Keep.refl)
    | (show Nat.testBit _ _ = true; rfl)
    | (with_reducible apply Keep.set_eng)

theorem keep_captureAll {s : State} {x0 x1 x2 x3} : Keep 0x40000 s (State.captureAll s x0 x1 x2 x3) := by
  unfold State.captureAll
  try extract_lets
  repeat' first
    | (with_reducible apply Keep.refl)
    | (show (_ ||| _ : Nat) = _; rfl)
    | (with_reducible apply Keep.step keep_capture)
    | (with_reducible apply Keep.each <;> try intro s x <;> try extract_lets)

theorem keep_shiftCapture {s : State} {x0 x1} : Keep 0x40000 s (State.shiftCapture s x0 x1) := by
  unfold State.shiftCapture
  try extract_lets
  repeat' first
    | (with_reducible apply Keep.refl)
    | (show (_ ||| _ : Nat) = _; rfl)
    | (with_reducible apply Keep.step keep_capture)
    | (with_reducible apply Keep.each <;> try intro s x <;> try extract_lets)

theorem keep_deliver {s : State} {x0 x1 x2 x3} : Keep 0x40000 s (State.deliver s x0 x1 x2 x3) := by
  unfold State.deliver
  try extract_lets
  repeat' first
    | (with_reducible apply Keep.refl)
    | (show (_ ||| _ : Nat) = _; rfl)
    | (with_reducible apply Keep.step keep_captureAll)
    | (with_reducible apply Keep.step keep_shiftCapture)
    | (with_reducible apply Keep.ite <;> try extract_lets)

theorem keep_setTdm {s : State} {x0 x1} : Keep 0x200000 s (State.setTdm s x0 x1) := by
  unfold State.setTdm
  try extract_lets
  repeat' first
    | (with_reducible apply Keep.refl)
    | (show Nat.testBit _ _ = true; rfl)
    | (with_reducible apply Keep.set_ports)

theorem keep_setMerge {s : State} {x0 x1} : Keep 0x200000 s (State.setMerge s x0 x1) := by
  unfold State.setMerge
  try extract_lets
  repeat' first
    | (with_reducible apply Keep.refl)
    | (show Nat.testBit _ _ = true; rfl)
    | (with_reducible apply Keep.set_ports)

theorem keep_mergeFrame {s : State} {x0 x1 x2} : Keep 0x241002 s (State.mergeFrame s x0 x1 x2) := by
  unfold State.mergeFrame
  try extract_lets
  repeat' first
    | (with_reducible apply Keep.refl)
    | (show (_ ||| _ : Nat) = _; rfl)
    | (with_reducible apply Keep.step keep_pulse)
    | (with_reducible apply Keep.step keep_bump)
    | (with_reducible apply Keep.step keep_setMerge)
    | (with_reducible apply Keep.step keep_wr)
    | (with_reducible apply Keep.step keep_captureAll)
    | (with_reducible apply Keep.ite <;> try extract_lets)

theorem keep_mergeUpTo {s : State} {x0 x1 x2} : Keep 0x241002 s (State.mergeUpTo s x0 x1 x2) := by
  induction x1 generalizing s with
  | zero =>
    unfold State.mergeUpTo
    try extract_lets
    repeat' first
      | (with_reducible apply Keep.refl)
  | succ k ih =>
    unfold State.mergeUpTo
    try extract_lets
    repeat' first
      | (with_reducible apply Keep.refl)
      | (show (_ ||| _ : Nat) = _; rfl)
      | (with_reducible apply Keep.step ih)
      | (with_reducible apply Keep.step keep_mergeFrame)
      | (with_reducible apply Keep.ite <;> try extract_lets)

theorem keep_tdmLoss {s : State} {x0 x1} : Keep 0x1002 s (State.tdmLoss s x0 x1) := by
  unfold State.tdmLoss
  try extract_lets
  repeat' first
    | (with_reducible apply Keep.refl)
    | (show (_ ||| _ : Nat) = _; rfl)
    | (with_reducible apply Keep.step keep_wr)
    | (with_reducible apply Keep.step keep_source)
    | (with_reducible apply Keep.step keep_bump)
    | (with_reducible apply Keep.step keep_setBitArr)
    | (with_reducible apply Keep.ite <;> try extract_lets)
    | (with_reducible apply Keep.each <;> try intro s x <;> try extract_lets)

theorem keep_showRate {s : State} {x0 x1} : Keep 0x102 s (State.showRate s x0 x1) := by
  unfold State.showRate
  try extract_lets
  repeat' first
    | (with_reducible apply Keep.refl)
    | (show (_ ||| _ : Nat) = _; rfl)
    | (with_reducible apply Keep.step keep_wr)
    | (with_reducible apply Keep.step keep_open_)
    | (with_reducible apply Keep.ite <;> try extract_lets)

theorem keep_tdmIn {s : State} {x0 x1 x2 x3 x4 x5} : Keep 0x241102 s (State.tdmIn s x0 x1 x2 x3 x4 x5) := by
  unfold State.tdmIn
  try extract_lets
  repeat' first
    | (with_reducible apply Keep.refl)
    | (show (_ ||| _ : Nat) = _; rfl)
    | (with_reducible apply Keep.step keep_wr)
    | (with_reducible apply Keep.step keep_showRate)
    | (with_reducible apply Keep.step keep_tdmLoss)
    | (with_reducible apply Keep.step keep_pulse)
    | (with_reducible apply Keep.step keep_bump)
    | (with_reducible apply Keep.step keep_deliver)
    | (with_reducible apply Keep.step keep_bumpSat)
    | (with_reducible apply Keep.step keep_setTdm)
    | (with_reducible apply Keep.step keep_mergeUpTo)
    | (with_reducible apply Keep.ite <;> try extract_lets)
    | (dsimp only)
    | (dsimp +zetaDelta only; split <;> try extract_lets)

theorem keep_tdmBclkLoss {s : State} {x0} : Keep 0x1002 s (State.tdmBclkLoss s x0) := by
  unfold State.tdmBclkLoss
  try extract_lets
  repeat' first
    | (with_reducible apply Keep.refl)
    | (show (_ ||| _ : Nat) = _; rfl)
    | (with_reducible apply Keep.step keep_tdmLoss)
    | (with_reducible apply Keep.ite <;> try extract_lets)

theorem keep_tdmLossExit {s : State} {x0} : Keep 0x201002 s (State.tdmLossExit s x0) := by
  unfold State.tdmLossExit
  try extract_lets
  repeat' first
    | (with_reducible apply Keep.refl)
    | (show (_ ||| _ : Nat) = _; rfl)
    | (with_reducible apply Keep.step keep_setTdm)
    | (with_reducible apply Keep.step keep_source)
    | (with_reducible apply Keep.step keep_wr)
    | (with_reducible apply Keep.ite <;> try extract_lets)

theorem keep_tdmOut {s : State} {x0} : Keep 0x301182 s (State.tdmOut s x0) := by
  unfold State.tdmOut
  with_reducible apply Keep.ite
  · exact Keep.refl
  · extract_lets
    with_reducible apply Keep.step keep_setTdm
    · rfl
    repeat' first
    | (with_reducible apply Keep.refl)
    | (show (_ ||| _ : Nat) = _; rfl)
    | (with_reducible apply Keep.ite)
    | (with_reducible apply Keep.step keep_put)
    | (with_reducible apply Keep.step keep_pulse)
    | (with_reducible apply Keep.step keep_bumpSat)
    | (with_reducible apply Keep.step keep_setPair)
    | (with_reducible refine Keep.mk_gen ?_ (fun i hi => by unfold State.samePart; split <;> first | rfl | trivial | exact absurd hi (by decide)))


theorem keep_setRoll {s : State} {x0 x1} : Keep 0x200000 s (State.setRoll s x0 x1) := by
  unfold State.setRoll
  try extract_lets
  repeat' first
    | (with_reducible apply Keep.refl)
    | (show (_ ||| _ : Nat) = _; rfl)
    | (show Nat.testBit _ _ = true; rfl)
    | (with_reducible apply Keep.step keep_setTdm)
    | (with_reducible apply Keep.ite <;> try extract_lets)
    | (with_reducible apply Keep.set_ports)

theorem keep_portStart {s : State} {x0} : Keep 0x200002 s (State.portStart s x0) := by
  unfold State.portStart
  try extract_lets
  repeat' first
    | (with_reducible apply Keep.refl)
    | (show (_ ||| _ : Nat) = _; rfl)
    | (with_reducible apply Keep.step keep_wr)
    | (with_reducible apply Keep.step keep_setRoll)
    | (with_reducible apply Keep.ite <;> try extract_lets)

theorem keep_preRollEnd {s : State} {x0} : Keep 0x200002 s (State.preRollEnd s x0) := by
  unfold State.preRollEnd
  try extract_lets
  repeat' first
    | (with_reducible apply Keep.refl)
    | (with_reducible apply Keep.step keep_setRoll)
    | (show (_ ||| _ : Nat) = _; rfl)
    | (with_reducible apply Keep.step keep_wr)
    | (with_reducible apply Keep.ite <;> try extract_lets)

theorem keep_portStop {s : State} {x0 x1 x2} : Keep 0x201002 s (State.portStop s x0 x1 x2) := by
  unfold State.portStop
  try extract_lets
  repeat' first
    | (with_reducible apply Keep.refl)
    | (show (_ ||| _ : Nat) = _; rfl)
    | (with_reducible apply Keep.step keep_setRoll)
    | (with_reducible apply Keep.step keep_source)
    | (with_reducible apply Keep.step keep_wr)
    | (with_reducible apply Keep.ite <;> try extract_lets)

theorem keep_postRollEnd {s : State} {x0} : Keep 0x200002 s (State.postRollEnd s x0) := by
  unfold State.postRollEnd
  try extract_lets
  repeat' first
    | (with_reducible apply Keep.refl)
    | (show (_ ||| _ : Nat) = _; rfl)
    | (with_reducible apply Keep.step keep_portStart)
    | (with_reducible apply Keep.step keep_setRoll)
    | (with_reducible apply Keep.step keep_wr)
    | (with_reducible apply Keep.step keep_idle)
    | (with_reducible apply Keep.ite <;> try extract_lets)

theorem keep_setAin {s : State} {x0 x1} : Keep 0x200000 s (State.setAin s x0 x1) := by
  unfold State.setAin
  try extract_lets
  repeat' first
    | (with_reducible apply Keep.refl)
    | (show Nat.testBit _ _ = true; rfl)
    | (with_reducible apply Keep.set_ports)

theorem keep_setAout {s : State} {x0 x1} : Keep 0x200000 s (State.setAout s x0 x1) := by
  unfold State.setAout
  try extract_lets
  repeat' first
    | (with_reducible apply Keep.refl)
    | (show Nat.testBit _ _ = true; rfl)
    | (with_reducible apply Keep.set_ports)

theorem keep_aesUnlock {s : State} {x0} : Keep 0x1002 s (State.aesUnlock s x0) := by
  unfold State.aesUnlock
  try extract_lets
  repeat' first
    | (with_reducible apply Keep.refl)
    | (show (_ ||| _ : Nat) = _; rfl)
    | (with_reducible apply Keep.step keep_source)
    | (with_reducible apply Keep.step keep_wr)
    | (with_reducible apply Keep.step keep_setBitArr)
    | (with_reducible apply Keep.ite <;> try extract_lets)
    | (with_reducible apply Keep.each <;> try intro s x <;> try extract_lets)

theorem keep_aesIn {s : State} {x0 x1 x2 x3 x4 x5 x6 x7 x8 x9} : Keep 0x241002 s (State.aesIn s x0 x1 x2 x3 x4 x5 x6 x7 x8 x9) := by
  unfold State.aesIn
  try extract_lets
  repeat' first
    | (with_reducible apply Keep.refl)
    | (show (_ ||| _ : Nat) = _; rfl)
    | (with_reducible apply Keep.step keep_aesUnlock)
    | (with_reducible apply Keep.step keep_source)
    | (with_reducible apply Keep.step keep_wr)
    | (with_reducible apply Keep.step keep_bumpBy)
    | (with_reducible apply Keep.step keep_pulse)
    | (with_reducible apply Keep.step keep_shiftCapture)
    | (with_reducible apply Keep.step keep_capture)
    | (with_reducible apply Keep.step keep_setAin)
    | (with_reducible apply Keep.ite <;> try extract_lets)

theorem keep_putWords {s : State} {x0 x1} : Keep 0x2 s (State.putWords s x0 x1) := by
  unfold State.putWords
  try extract_lets
  repeat' first
    | (with_reducible apply Keep.refl)
    | (show (_ ||| _ : Nat) = _; rfl)
    | (with_reducible apply Keep.step keep_setReg)
    | (with_reducible apply Keep.each <;> try intro s x <;> try extract_lets)

theorem keep_aesBlock {s : State} {x0 x1 x2 x3 x4} : Keep 0x1002 s (State.aesBlock s x0 x1 x2 x3 x4) := by
  unfold State.aesBlock
  try extract_lets
  repeat' first
    | (with_reducible apply Keep.refl)
    | (show (_ ||| _ : Nat) = _; rfl)
    | (with_reducible apply Keep.step keep_putWords)
    | (with_reducible apply Keep.step keep_wrb)
    | (with_reducible apply Keep.step keep_bump)
    | (with_reducible apply Keep.step keep_pulse)
    | (with_reducible apply Keep.step keep_wr)
    | (with_reducible apply Keep.ite <;> try extract_lets)

theorem keep_aoutBlock {s : State} {x0 x1} : Keep 0x200080 s (State.aoutBlock s x0 x1) := by
  unfold State.aoutBlock
  try extract_lets
  repeat' first
    | (with_reducible apply Keep.refl)
    | (show (_ ||| _ : Nat) = _; rfl)
    | (with_reducible apply Keep.step keep_put)
    | (with_reducible apply Keep.step keep_setAout)
    | (with_reducible apply Keep.ite <;> try extract_lets)

theorem keep_aoutCommit {s : State} {x0 x1} : Keep 0x200000 s (State.aoutCommit s x0 x1) := by
  unfold State.aoutCommit
  try extract_lets
  repeat' first
    | (with_reducible apply Keep.refl)
    | (show (_ ||| _ : Nat) = _; rfl)
    | (with_reducible apply Keep.step keep_setAout)
    | (with_reducible apply Keep.ite <;> try extract_lets)

theorem keep_pdmIn {s : State} {x0} : Keep 0x40000 s (State.pdmIn s x0) := by
  unfold State.pdmIn
  try extract_lets
  repeat' first
    | (with_reducible apply Keep.refl)
    | (show (_ ||| _ : Nat) = _; rfl)
    | (with_reducible apply Keep.step keep_capture)
    | (with_reducible apply Keep.ite <;> try extract_lets)
    | (with_reducible apply Keep.each <;> try intro s x <;> try extract_lets)

theorem keep_pdmLoss {s : State} : Keep 0x1002 s (State.pdmLoss s) := by
  unfold State.pdmLoss
  try extract_lets
  repeat' first
    | (with_reducible apply Keep.refl)
    | (show (_ ||| _ : Nat) = _; rfl)
    | (with_reducible apply Keep.step keep_source)
    | (with_reducible apply Keep.step keep_bump)
    | (with_reducible apply Keep.step keep_wr)
    | (with_reducible apply Keep.ite <;> try extract_lets)

theorem keep_pdmLossExit {s : State} : Keep 0x1002 s (State.pdmLossExit s) := by
  unfold State.pdmLossExit
  try extract_lets
  repeat' first
    | (with_reducible apply Keep.refl)
    | (show (_ ||| _ : Nat) = _; rfl)
    | (with_reducible apply Keep.step keep_source)
    | (with_reducible apply Keep.step keep_wr)
    | (with_reducible apply Keep.ite <;> try extract_lets)

theorem keep_micStuck {s : State} {x0} : Keep 0x1002 s (State.micStuck s x0) := by
  unfold State.micStuck
  try extract_lets
  repeat' first
    | (with_reducible apply Keep.refl)
    | (show (_ ||| _ : Nat) = _; rfl)
    | (with_reducible apply Keep.step keep_source)
    | (with_reducible apply Keep.step keep_wr)
    | (with_reducible apply Keep.ite <;> try extract_lets)

theorem keep_micStuckEnd {s : State} {x0} : Keep 0x1002 s (State.micStuckEnd s x0) := by
  unfold State.micStuckEnd
  try extract_lets
  repeat' first
    | (with_reducible apply Keep.refl)
    | (show (_ ||| _ : Nat) = _; rfl)
    | (with_reducible apply Keep.step keep_source)
    | (with_reducible apply Keep.step keep_wr)

theorem keep_asrcLock {s : State} {x0 x1} : Keep 0x200002 s (State.asrcLock s x0 x1) := by
  unfold State.asrcLock
  try extract_lets
  repeat' first
    | (with_reducible apply Keep.refl)
    | (show (_ ||| _ : Nat) = _; rfl)
    | (show Nat.testBit _ _ = true; rfl)
    | (with_reducible apply Keep.step keep_setBitArr)
    | (with_reducible apply Keep.each <;> try intro s x <;> try extract_lets)
    | (split <;> try extract_lets)
    | (with_reducible apply Keep.set_ports)

theorem keep_asrcUnlock {s : State} {x0 x1} : Keep 0x1002 s (State.asrcUnlock s x0 x1) := by
  unfold State.asrcUnlock
  try extract_lets
  repeat' first
    | (with_reducible apply Keep.refl)
    | (show (_ ||| _ : Nat) = _; rfl)
    | (with_reducible apply Keep.step keep_pulse)
    | (with_reducible apply Keep.step keep_bump)
    | (with_reducible apply Keep.step keep_setBitArr)
    | (with_reducible apply Keep.ite <;> try extract_lets)
    | (with_reducible apply Keep.each <;> try intro s x <;> try extract_lets)

theorem keep_asrcIn {s : State} : Keep 0x40100 s (State.asrcIn s) := by
  unfold State.asrcIn
  try extract_lets
  repeat' first
    | (with_reducible apply Keep.refl)
    | (show (_ ||| _ : Nat) = _; rfl)
    | (with_reducible apply Keep.step keep_open_)
    | (with_reducible apply Keep.step keep_capture)
    | (with_reducible apply Keep.ite <;> try extract_lets)
    | (with_reducible apply Keep.each <;> try intro s x <;> try extract_lets)

theorem keep_aoutTick {s : State} {x0} : Keep 0x200180 s (State.aoutTick s x0) := by
  unfold State.aoutTick
  try extract_lets
  repeat' first
    | (with_reducible apply Keep.refl)
    | (show (_ ||| _ : Nat) = _; rfl)
    | (show Nat.testBit _ _ = true; rfl)
    | (with_reducible apply Keep.step keep_put)
    | (with_reducible apply Keep.ite <;> try extract_lets)
    | (with_reducible apply Keep.set_free)
    | (with_reducible apply Keep.set_ports)
    | (with_reducible refine Keep.mk_gen ?_ (fun i hi => by unfold State.samePart; split <;> first | rfl | trivial | exact absurd hi (by decide)))
    | (split <;> try extract_lets)
    | (dsimp only)

theorem keep_portsTick {s : State} : Keep 0x241182 s (State.portsTick s) := by
  unfold State.portsTick
  try extract_lets
  repeat' first
    | (with_reducible apply Keep.refl)
    | (with_reducible apply Keep.step keep_aoutTick)
    | (show (_ ||| _ : Nat) = _; rfl)
    | (with_reducible apply Keep.step keep_mergeUpTo)
    | (with_reducible apply Keep.step keep_setMerge)
    | (with_reducible apply Keep.step keep_pulse)
    | (with_reducible apply Keep.step keep_bumpSat)
    | (with_reducible apply Keep.step keep_setTdm)
    | (with_reducible apply Keep.step keep_setAin)
    | (with_reducible apply Keep.step keep_asrcIn)
    | (with_reducible apply Keep.ite <;> try extract_lets)
    | (with_reducible apply Keep.each <;> try intro s x <;> try extract_lets)

end Sys2Proof.Machine
end

