-- ==== Sys2Proof/Laws/KeepSafelight.lean ====
section
/-!
SUPPORT. What each operation of Machine/Safelight.lean leaves alone (Laws/Keep.lean).
-/
set_option Elab.async false
set_option linter.all false
namespace Sys2Proof.Machine

theorem keep_setLineSt {s : State} {x0 x1} : Keep 0x400000 s (State.setLineSt s x0 x1) := by
  unfold State.setLineSt
  try extract_lets
  repeat' first
    | (with_reducible apply Keep.refl)
    | (show Nat.testBit _ _ = true; rfl)
    | (with_reducible apply Keep.set_sl)

theorem keep_setLineBits {s : State} {x0 x1 x2 x3 x4} : Keep 0x480 s (State.setLineBits s x0 x1 x2 x3 x4) := by
  unfold State.setLineBits
  try extract_lets
  repeat' first
    | (with_reducible apply Keep.refl)
    | (with_reducible apply Keep.step keep_put)
    | (show (_ ||| _ : Nat) = _; rfl)
    | (with_reducible apply Keep.step keep_setWord)

theorem keep_slRecord {s : State} {x0 x1 x2} : Keep 0x3802 s (State.slRecord s x0 x1 x2) := by
  unfold State.slRecord
  try extract_lets
  repeat' first
    | (with_reducible apply Keep.refl)
    | (show (_ ||| _ : Nat) = _; rfl)
    | (with_reducible apply Keep.step keep_record)

theorem keep_runRecord {s : State} {x0 x1} : Keep 0x3802 s (State.runRecord s x0 x1) := by
  unfold State.runRecord
  try extract_lets
  repeat' first
    | (with_reducible apply Keep.refl)
    | (show (_ ||| _ : Nat) = _; rfl)
    | (with_reducible apply Keep.step keep_slRecord)

theorem keep_showLines {s : State} : Keep 0x1002 s (State.showLines s) := by
  unfold State.showLines
  try extract_lets
  repeat' first
    | (with_reducible apply Keep.refl)
    | (show (_ ||| _ : Nat) = _; rfl)
    | (with_reducible apply Keep.step keep_wrAll)
    | (with_reducible apply Keep.step keep_source)
    | (with_reducible apply Keep.each <;> try intro s x <;> try extract_lets)

theorem keep_lineTo {s : State} {x0 x1 x2 x3 x4} : Keep 0x3c82 s (State.lineTo s x0 x1 x2 x3 x4) := by
  unfold State.lineTo
  try extract_lets
  repeat' first
    | (with_reducible apply Keep.refl)
    | (show (_ ||| _ : Nat) = _; rfl)
    | (with_reducible apply Keep.step keep_setLineBits)
    | (with_reducible apply Keep.step keep_showLines)
    | (with_reducible apply Keep.step keep_slRecord)
    | (with_reducible apply Keep.ite <;> try extract_lets)

theorem keep_lineMove {s : State} {x0 x1} : Keep 0x3d82 s (State.lineMove s x0 x1) := by
  unfold State.lineMove
  try extract_lets
  repeat' first
    | (with_reducible apply Keep.refl)
    | (show (_ ||| _ : Nat) = _; rfl)
    | (show Nat.testBit _ _ = true; rfl)
    | (with_reducible apply Keep.step keep_lineTo)
    | (with_reducible apply Keep.step keep_open_)
    | (with_reducible apply Keep.ite <;> try extract_lets)
    | (split <;> try extract_lets)
    | (dsimp only)

theorem keep_learnLeft {s : State} {x0 x1} : Keep 0x403802 s (State.learnLeft s x0 x1) := by
  unfold State.learnLeft
  try extract_lets
  repeat' first
    | (with_reducible apply Keep.refl)
    | (show (_ ||| _ : Nat) = _; rfl)
    | (show Nat.testBit _ _ = true; rfl)
    | (with_reducible apply Keep.step keep_wr)
    | (with_reducible apply Keep.step keep_bump)
    | (with_reducible apply Keep.step keep_runRecord)
    | (with_reducible apply Keep.ite <;> try extract_lets)
    | (dsimp only)
    | (split <;> try extract_lets)
    | (with_reducible apply Keep.set_sl)

theorem keep_learnDone {s : State} {x0 x1} : Keep 0x403c82 s (State.learnDone s x0 x1) := by
  unfold State.learnDone
  try extract_lets
  repeat' first
    | (with_reducible apply Keep.refl)
    | (show (_ ||| _ : Nat) = _; rfl)
    | (with_reducible apply Keep.step keep_setLineSt)
    | (with_reducible apply Keep.step keep_learnLeft)
    | (with_reducible apply Keep.step keep_lineTo)
    | (with_reducible apply Keep.step keep_setLineBits)
    | (with_reducible apply Keep.ite <;> try extract_lets)

theorem keep_lineApply {s : State} {x0 x1} : Keep 0x403d82 s (State.lineApply s x0 x1) := by
  unfold State.lineApply
  try extract_lets
  repeat' first
    | (with_reducible apply Keep.refl)
    | (with_reducible apply Keep.step keep_learnLeft)
    | (with_reducible apply Keep.step keep_lineMove)
    | (show (_ ||| _ : Nat) = _; rfl)
    | (with_reducible apply Keep.step keep_setLineSt)
    | (with_reducible apply Keep.step keep_setLineBits)
    | (with_reducible apply Keep.step keep_showLines)
    | (with_reducible apply Keep.ite <;> try extract_lets)

theorem keep_judge {s : State} {x0} : Keep 0x403d82 s (State.judge s x0) := by
  unfold State.judge
  try extract_lets
  repeat' first
    | (with_reducible apply Keep.refl)
    | (show (_ ||| _ : Nat) = _; rfl)
    | (with_reducible apply Keep.step keep_lineApply)
    | (with_reducible apply Keep.step keep_pulse)
    | (with_reducible apply Keep.step keep_wrAll)
    | (with_reducible apply Keep.step keep_learnDone)
    | (with_reducible apply Keep.step keep_setLineSt)
    | (with_reducible apply Keep.step keep_lineTo)
    | (with_reducible apply Keep.ite <;> try extract_lets)
    | (dsimp only)
    | (split <;> try extract_lets)

theorem keep_freqChanged {s : State} {x0} : Keep 0x3d82 s (State.freqChanged s x0) := by
  unfold State.freqChanged
  try extract_lets
  repeat' first
    | (with_reducible apply Keep.refl)
    | (with_reducible apply Keep.step keep_lineMove)
    | (show (_ ||| _ : Nat) = _; rfl)
    | (with_reducible apply Keep.step keep_setLineBits)
    | (with_reducible apply Keep.ite <;> try extract_lets)
    | (with_reducible apply Keep.each <;> try intro s x <;> try extract_lets)
    | (split <;> try extract_lets)

theorem keep_tableWrite {s : State} {x0 x1} : Keep 0x400400 s (State.tableWrite s x0 x1) := by
  unfold State.tableWrite
  try extract_lets
  repeat' first
    | (with_reducible apply Keep.refl)
    | (show (_ ||| _ : Nat) = _; rfl)
    | (with_reducible apply Keep.step keep_setLineSt)
    | (with_reducible apply Keep.step keep_setWord)
    | (with_reducible apply Keep.ite <;> try extract_lets)

theorem keep_publish {s : State} {x0 x1 x2 x3} : Keep 0x440002 s (State.publish s x0 x1 x2 x3) := by
  unfold State.publish
  try extract_lets
  repeat' first
    | (with_reducible apply Keep.refl)
    | (show (_ ||| _ : Nat) = _; rfl)
    | (with_reducible apply Keep.step keep_wrAll)
    | (with_reducible refine Keep.mk_gen ?_ (fun i hi => by unfold State.samePart; split <;> first | rfl | trivial | exact absurd hi (by decide)))

theorem keep_setZone {s : State} {x0} : Keep 0x400000 s (State.setZone s x0) := by
  unfold State.setZone
  try extract_lets
  repeat' first
    | (with_reducible apply Keep.refl)
    | (show Nat.testBit _ _ = true; rfl)
    | (split <;> try extract_lets)
    | (with_reducible apply Keep.set_sl)

theorem keep_hear {s : State} {x0 x1 x2} : Keep 0x400000 s (State.hear s x0 x1 x2) := by
  unfold State.hear
  try extract_lets
  repeat' first
    | (with_reducible apply Keep.refl)
    | (show (_ ||| _ : Nat) = _; rfl)
    | (show Nat.testBit _ _ = true; rfl)
    | (with_reducible apply Keep.ite <;> try extract_lets)
    | (with_reducible apply Keep.set_sl)
    | (with_reducible refine Keep.mk_gen ?_ (fun i hi => by unfold State.samePart; split <;> first | rfl | trivial | exact absurd hi (by decide)))
    | (dsimp only)

theorem keep_hearMics {s : State} : Keep 0x400000 s (State.hearMics s) := by
  unfold State.hearMics
  try extract_lets
  repeat' first
    | (with_reducible apply Keep.refl)
    | (show (_ ||| _ : Nat) = _; rfl)
    | (show Nat.testBit _ _ = true; rfl)
    | (with_reducible apply Keep.step keep_hear)
    | (with_reducible apply Keep.ite <;> try extract_lets)
    | (with_reducible apply Keep.each <;> try intro s x <;> try extract_lets)
    | (split <;> try extract_lets)
    | (dsimp only)

theorem keep_hearOutputs {s : State} : Keep 0x400000 s (State.hearOutputs s) := by
  unfold State.hearOutputs
  try extract_lets
  repeat' first
    | (with_reducible apply Keep.refl)
    | (show (_ ||| _ : Nat) = _; rfl)
    | (show Nat.testBit _ _ = true; rfl)
    | (with_reducible apply Keep.step keep_hear)
    | (with_reducible apply Keep.ite <;> try extract_lets)
    | (with_reducible apply Keep.each <;> try intro s x <;> try extract_lets)
    | (split <;> try extract_lets)
    | (dsimp only)

theorem keep_setMic {s : State} {x0 x1} : Keep 0x400000 s (State.setMic s x0 x1) := by
  unfold State.setMic
  try extract_lets
  repeat' first
    | (with_reducible apply Keep.refl)
    | (show (_ ||| _ : Nat) = _; rfl)
    | (show Nat.testBit _ _ = true; rfl)
    | (with_reducible apply Keep.ite <;> try extract_lets)
    | (with_reducible apply Keep.set_sl)
    | (with_reducible refine Keep.mk_gen ?_ (fun i hi => by unfold State.samePart; split <;> first | rfl | trivial | exact absurd hi (by decide)))
    | (dsimp only)

theorem keep_pathEnd {s : State} {x0 x1 x2 x3 x4 x5 x6 x7 x8} : Keep 0x403c82 s (State.pathEnd s x0 x1 x2 x3 x4 x5 x6 x7 x8) := by
  unfold State.pathEnd
  try extract_lets
  repeat' first
    | (with_reducible apply Keep.refl)
    | (with_reducible apply Keep.step keep_put)
    | (show (_ ||| _ : Nat) = _; rfl)
    | (show Nat.testBit _ _ = true; rfl)
    | (with_reducible apply Keep.step keep_setWord)
    | (with_reducible apply Keep.step keep_bump)
    | (with_reducible apply Keep.step keep_pulse)
    | (with_reducible apply Keep.step keep_slRecord)
    | (with_reducible apply Keep.step keep_wr)
    | (with_reducible apply Keep.step keep_runRecord)
    | (with_reducible apply Keep.step keep_wrAll)
    | (with_reducible apply Keep.ite <;> try extract_lets)
    | (dsimp only)
    | (split <;> try extract_lets)
    | (dsimp +zetaDelta only; split <;> try extract_lets)
    | (with_reducible apply Keep.set_sl)

theorem keep_nextOutput {s : State} {x0} : Keep 0x400002 s (State.nextOutput s x0) := by
  unfold State.nextOutput
  try extract_lets
  repeat' first
    | (with_reducible apply Keep.refl)
    | (show (_ ||| _ : Nat) = _; rfl)
    | (show Nat.testBit _ _ = true; rfl)
    | (with_reducible apply Keep.step keep_setZone)
    | (with_reducible apply Keep.step keep_wr)
    | (dsimp only)
    | (split <;> try extract_lets)
    | (with_reducible apply Keep.set_sl)

theorem keep_startZones {s : State} {x0 x1} : Keep 0x400002 s (State.startZones s x0 x1) := by
  induction x1 generalizing s with
  | zero =>
    unfold State.startZones
    try extract_lets
    repeat' first
      | (with_reducible apply Keep.refl)
  | succ k ih =>
    unfold State.startZones
    try extract_lets
    repeat' first
      | (with_reducible apply Keep.refl)
      | (show (_ ||| _ : Nat) = _; rfl)
      | (with_reducible apply Keep.step ih)
      | (show Nat.testBit _ _ = true; rfl)
      | (with_reducible apply Keep.step keep_wr)
      | (with_reducible apply Keep.step keep_nextOutput)
      | (with_reducible apply Keep.ite <;> try extract_lets)
      | (dsimp only)
      | (split <;> try extract_lets)
      | (with_reducible apply Keep.set_sl)

theorem keep_shareTick {s : State} : Keep 0x1002 s (State.shareTick s) := by
  unfold State.shareTick
  try extract_lets
  repeat' first
    | (with_reducible apply Keep.refl)
    | (show (_ ||| _ : Nat) = _; rfl)
    | (with_reducible apply Keep.step keep_source)
    | (with_reducible apply Keep.step keep_wr)

theorem keep_beginRun {s : State} {x0} : Keep 0x403802 s (State.beginRun s x0) := by
  unfold State.beginRun
  try extract_lets
  repeat' first
    | (with_reducible apply Keep.refl)
    | (show (_ ||| _ : Nat) = _; rfl)
    | (show Nat.testBit _ _ = true; rfl)
    | (with_reducible apply Keep.step keep_runRecord)
    | (with_reducible apply Keep.step keep_wrAll)
    | (with_reducible apply Keep.set_sl)

theorem keep_slVerify {s : State} {x0 x1} : Keep 0x503c82 s (State.slVerify s x0 x1).st := by
  unfold State.slVerify
  try extract_lets
  repeat' first
    | (with_reducible apply Keep.refl)
    | (show (_ ||| _ : Nat) = _; rfl)
    | (show Nat.testBit _ _ = true; rfl)
    | (with_reducible apply Keep.step keep_fin)
    | (with_reducible apply Keep.step keep_beginRun)
    | (with_reducible apply Keep.step keep_runRecord)
    | (with_reducible apply Keep.step keep_wrAll)
    | (with_reducible apply Keep.step keep_startZones)
    | (with_reducible apply Keep.step keep_pathEnd)
    | (with_reducible apply Keep.step keep_finWith)
    | (with_reducible apply Keep.step keep_armChange)
    | (with_reducible apply Keep.ite <;> try extract_lets)
    | (with_reducible apply Keep.ite_st <;> try extract_lets)
    | (with_reducible apply Keep.each <;> try intro s x <;> try extract_lets)
    | (dsimp only)
    | (split <;> try extract_lets)
    | (with_reducible apply Keep.set_sl)

theorem keep_slLearn {s : State} {x0} : Keep 0x503c82 s (State.slLearn s x0).st := by
  unfold State.slLearn
  try extract_lets
  repeat' first
    | (with_reducible apply Keep.refl)
    | (show (_ ||| _ : Nat) = _; rfl)
    | (show Nat.testBit _ _ = true; rfl)
    | (with_reducible apply Keep.step keep_fin)
    | (with_reducible apply Keep.step keep_beginRun)
    | (with_reducible apply Keep.step keep_lineTo)
    | (with_reducible apply Keep.step keep_setLineSt)
    | (with_reducible apply Keep.step keep_runRecord)
    | (with_reducible apply Keep.step keep_wrAll)
    | (with_reducible apply Keep.step keep_finWith)
    | (with_reducible apply Keep.step keep_armChange)
    | (with_reducible apply Keep.ite <;> try extract_lets)
    | (with_reducible apply Keep.ite_st <;> try extract_lets)
    | (with_reducible apply Keep.each <;> try intro s x <;> try extract_lets)
    | (dsimp only)
    | (split <;> try extract_lets)
    | (with_reducible apply Keep.set_sl)

theorem keep_startLearn {s : State} : Keep 0x403d82 s (State.startLearn s) := by
  unfold State.startLearn
  try extract_lets
  repeat' first
    | (with_reducible apply Keep.refl)
    | (show (_ ||| _ : Nat) = _; rfl)
    | (show Nat.testBit _ _ = true; rfl)
    | (with_reducible apply Keep.step keep_lineMove)
    | (with_reducible apply Keep.step keep_setLineSt)
    | (with_reducible apply Keep.ite <;> try extract_lets)
    | (with_reducible apply Keep.each <;> try intro s x <;> try extract_lets)
    | (split <;> try extract_lets)
    | (dsimp only)

theorem keep_probeFade {s : State} {x0 x1} : Keep 0x400000 s (State.probeFade s x0 x1) := by
  unfold State.probeFade
  try extract_lets
  repeat' first
    | (with_reducible apply Keep.refl)
    | (show (_ ||| _ : Nat) = _; rfl)
    | (show Nat.testBit _ _ = true; rfl)
    | (with_reducible apply Keep.ite <;> try extract_lets)
    | (with_reducible apply Keep.set_sl)
    | (with_reducible refine Keep.mk_gen ?_ (fun i hi => by unfold State.samePart; split <;> first | rfl | trivial | exact absurd hi (by decide)))
    | (split <;> try extract_lets)
    | (dsimp only)

theorem keep_slStore {s : State} {x0 x1} : Keep 0x400002 s (State.slStore s x0 x1).st := by
  unfold State.slStore
  try extract_lets
  repeat' first
    | (with_reducible apply Keep.refl)
    | (show (_ ||| _ : Nat) = _; rfl)
    | (show Nat.testBit _ _ = true; rfl)
    | (with_reducible apply Keep.step keep_fin)
    | (with_reducible apply Keep.step keep_later)
    | (with_reducible apply Keep.step keep_wr)
    | (with_reducible apply Keep.ite_st <;> try extract_lets)
    | (with_reducible apply Keep.set_sl)

theorem keep_slAbort {s : State} {x0} : Keep 0x503d82 s (State.slAbort s x0).st := by
  unfold State.slAbort
  try extract_lets
  repeat' first
    | (with_reducible apply Keep.refl)
    | (with_reducible apply Keep.step keep_probeFade)
    | (with_reducible apply Keep.step keep_lineMove)
    | (show (_ ||| _ : Nat) = _; rfl)
    | (show Nat.testBit _ _ = true; rfl)
    | (with_reducible apply Keep.step keep_fin)
    | (with_reducible apply Keep.step keep_lineTo)
    | (with_reducible apply Keep.step keep_setLineSt)
    | (with_reducible apply Keep.step keep_wrAll)
    | (with_reducible apply Keep.step keep_finWith)
    | (with_reducible apply Keep.step keep_armChange)
    | (with_reducible apply Keep.step keep_runRecord)
    | (with_reducible apply Keep.ite_st <;> try extract_lets)
    | (with_reducible apply Keep.each <;> try intro s x <;> try extract_lets)
    | (dsimp only)
    | (split <;> try extract_lets)
    | (with_reducible apply Keep.set_sl)

theorem keep_storeDone {s : State} {x0} : Keep 0x409882 s (State.storeDone s x0) := by
  unfold State.storeDone
  try extract_lets
  repeat' first
    | (with_reducible apply Keep.refl)
    | (show (_ ||| _ : Nat) = _; rfl)
    | (show Nat.testBit _ _ = true; rfl)
    | (with_reducible apply Keep.step keep_wr)
    | (with_reducible apply Keep.step keep_respond)
    | (with_reducible apply Keep.step keep_pulse)
    | (with_reducible apply Keep.ite <;> try extract_lets)
    | (split <;> try extract_lets)
    | (with_reducible apply Keep.set_flash)
    | (with_reducible apply Keep.set_sl)

theorem keep_probeReady {s : State} {x0} : Keep 0x500080 s (State.probeReady s x0) := by
  unfold State.probeReady
  try extract_lets
  repeat' first
    | (with_reducible apply Keep.refl)
    | (show (_ ||| _ : Nat) = _; rfl)
    | (show Nat.testBit _ _ = true; rfl)
    | (with_reducible apply Keep.step keep_mirrorWrite)
    | (with_reducible apply Keep.step keep_setZone)
    | (with_reducible apply Keep.ite <;> try extract_lets)
    | (split <;> try extract_lets)
    | (with_reducible apply Keep.set_sl)

theorem keep_probeStart {s : State} {x0} : Keep 0x400000 s (State.probeStart s x0) := by
  unfold State.probeStart
  try extract_lets
  repeat' first
    | (with_reducible apply Keep.refl)
    | (show (_ ||| _ : Nat) = _; rfl)
    | (with_reducible apply Keep.step keep_setZone)
    | (with_reducible apply Keep.ite <;> try extract_lets)
    | (split <;> try extract_lets)

theorem keep_probePeriod {s : State} {x0 x1 x2} : Keep 0x500080 s (State.probePeriod s x0 x1 x2) := by
  unfold State.probePeriod
  try extract_lets
  repeat' first
    | (with_reducible apply Keep.refl)
    | (with_reducible apply Keep.step keep_probeFade)
    | (show (_ ||| _ : Nat) = _; rfl)
    | (with_reducible apply Keep.step keep_mirrorWrite)
    | (with_reducible apply Keep.step keep_setZone)
    | (with_reducible apply Keep.ite <;> try extract_lets)
    | (dsimp only)
    | (split <;> try extract_lets)

theorem keep_probeYield {s : State} {x0} : Keep 0x400002 s (State.probeYield s x0) := by
  unfold State.probeYield
  try extract_lets
  repeat' first
    | (with_reducible apply Keep.refl)
    | (show (_ ||| _ : Nat) = _; rfl)
    | (with_reducible apply Keep.step keep_bump)
    | (with_reducible apply Keep.step keep_setZone)
    | (with_reducible apply Keep.ite <;> try extract_lets)
    | (split <;> try extract_lets)

theorem keep_noteBusy {s : State} : Keep 0x400000 s (State.noteBusy s) := by
  unfold State.noteBusy
  try extract_lets
  repeat' first
    | (with_reducible apply Keep.refl)
    | (show Nat.testBit _ _ = true; rfl)
    | (dsimp only)
    | (split <;> try extract_lets)
    | (with_reducible apply Keep.set_sl)

theorem keep_probeEnd {s : State} {x0} : Keep 0x400002 s (State.probeEnd s x0) := by
  unfold State.probeEnd
  try extract_lets
  repeat' first
    | (with_reducible apply Keep.refl)
    | (with_reducible apply Keep.step keep_probeFade)
    | (show (_ ||| _ : Nat) = _; rfl)
    | (show Nat.testBit _ _ = true; rfl)
    | (with_reducible apply Keep.step keep_nextOutput)
    | (with_reducible apply Keep.step keep_startZones)
    | (with_reducible apply Keep.ite <;> try extract_lets)
    | (dsimp only)
    | (split <;> try extract_lets)
    | (with_reducible apply Keep.set_sl)

theorem keep_reshape {s : State} {x0} : Keep 0x503c82 s (State.reshape s x0) := by
  unfold State.reshape
  try extract_lets
  repeat' first
    | (with_reducible apply Keep.refl)
    | (with_reducible apply Keep.step keep_probeFade)
    | (show (_ ||| _ : Nat) = _; rfl)
    | (with_reducible apply Keep.step keep_bump)
    | (with_reducible apply Keep.step keep_mirrorWrite)
    | (with_reducible apply Keep.step keep_setZone)
    | (with_reducible apply Keep.step keep_nextOutput)
    | (with_reducible apply Keep.step keep_pathEnd)
    | (with_reducible apply Keep.ite <;> try extract_lets)
    | (with_reducible apply Keep.each <;> try intro s x <;> try extract_lets)
    | (dsimp only)
    | (split <;> try extract_lets)

theorem keep_pathResult {s : State} {x0 x1 x2 x3 x4} : Keep 0x403c82 s (State.pathResult s x0 x1 x2 x3 x4) := by
  unfold State.pathResult
  try extract_lets
  repeat' first
    | (with_reducible apply Keep.refl)
    | (show (_ ||| _ : Nat) = _; rfl)
    | (show Nat.testBit _ _ = true; rfl)
    | (with_reducible apply Keep.step keep_pathEnd)
    | (with_reducible apply Keep.step keep_setWord)
    | (with_reducible apply Keep.ite <;> try extract_lets)
    | (dsimp only)
    | (split <;> try extract_lets)
    | (with_reducible apply Keep.set_sl)

theorem keep_peerShape {s : State} {x0 x1 x2} : Keep 0x400000 s (State.peerShape s x0 x1 x2) := by
  unfold State.peerShape
  try extract_lets
  repeat' first
    | (with_reducible apply Keep.refl)
    | (show (_ ||| _ : Nat) = _; rfl)
    | (with_reducible apply Keep.step keep_setZone)
    | (split <;> try extract_lets)

theorem keep_peerRestart {s : State} {x0 x1} : Keep 0x400000 s (State.peerRestart s x0 x1) := by
  unfold State.peerRestart
  try extract_lets
  repeat' first
    | (with_reducible apply Keep.refl)
    | (with_reducible apply Keep.step keep_probeFade)
    | (show (_ ||| _ : Nat) = _; rfl)
    | (with_reducible apply Keep.step keep_setZone)
    | (dsimp only)
    | (split <;> try extract_lets)

theorem keep_ambientBlock {s : State} {x0 x1 x2 x3 x4 x5} : Keep 0x543c82 s (State.ambientBlock s x0 x1 x2 x3 x4 x5) := by
  unfold State.ambientBlock
  try extract_lets
  repeat' first
    | (with_reducible apply Keep.refl)
    | (show (_ ||| _ : Nat) = _; rfl)
    | (with_reducible apply Keep.step keep_mirrorWrite)
    | (with_reducible apply Keep.step keep_publish)
    | (with_reducible apply Keep.step keep_wrb)
    | (with_reducible apply Keep.step keep_reshape)
    | (with_reducible apply Keep.ite <;> try extract_lets)

theorem keep_ambientRun {s : State} {x0} : Keep 0x543c82 s (State.ambientRun s x0) := by
  unfold State.ambientRun
  try extract_lets
  repeat' first
    | (with_reducible apply Keep.refl)
    | (show (_ ||| _ : Nat) = _; rfl)
    | (show Nat.testBit _ _ = true; rfl)
    | (with_reducible apply Keep.step keep_ambientBlock)
    | (with_reducible apply Keep.step keep_setMic)
    | (with_reducible apply Keep.ite <;> try extract_lets)
    | (with_reducible apply Keep.each <;> try intro s x <;> try extract_lets)
    | (split <;> try extract_lets)
    | (dsimp only)

end Sys2Proof.Machine
end

