-- ==== Sys2Proof/Laws/KeepJournal.lean ====
section
/-!
SUPPORT. What each operation of Machine/Journal.lean leaves alone (Laws/Keep.lean).
-/
set_option Elab.async false
set_option linter.all false
namespace Sys2Proof.Machine

theorem keep_setScn {s : State} {x0} : Keep 0x80000 s (State.setScn s x0) := by
  unfold State.setScn
  try extract_lets
  repeat' first
    | (with_reducible apply Keep.refl)
    | (show Nat.testBit _ _ = true; rfl)
    | (with_reducible apply Keep.set_scn)

theorem keep_setLat {s : State} {x0 x1} : Keep 0x4 s (State.setLat s x0 x1) := 
  ⟨fun h => by
    simp only [State.canonical, Bool.and_eq_true] at h ⊢
    exact ⟨⟨h.1.1, Sparse.wf_set h.1.2⟩, h.2⟩,
   fun i hi => by unfold State.samePart; split <;> first | rfl | trivial | exact absurd hi (by decide)⟩


theorem keep_showDirty {s : State} : Keep 0x2 s (State.showDirty s) := by
  unfold State.showDirty
  try extract_lets
  repeat' first
    | (with_reducible apply Keep.refl)
    | (show (_ ||| _ : Nat) = _; rfl)
    | (with_reducible apply Keep.step keep_wrAll)

theorem keep_markLine {s : State} {x0} : Keep 0x80002 s (State.markLine s x0) := by
  unfold State.markLine
  try extract_lets
  repeat' first
    | (with_reducible apply Keep.refl)
    | (show (_ ||| _ : Nat) = _; rfl)
    | (with_reducible apply Keep.step keep_showDirty)
    | (with_reducible apply Keep.step keep_setScn)

theorem keep_markReg {s : State} {x0} : Keep 0x80002 s (State.markReg s x0) := by
  unfold State.markReg
  try extract_lets
  repeat' first
    | (with_reducible apply Keep.refl)
    | (show (_ ||| _ : Nat) = _; rfl)
    | (with_reducible apply Keep.step keep_showDirty)
    | (with_reducible apply Keep.step keep_setScn)

theorem keep_latentStore {s : State} {x0 x1} : Keep 0x80402 s (State.latentStore s x0 x1) := by
  unfold State.latentStore
  try extract_lets
  repeat' first
    | (with_reducible apply Keep.refl)
    | (show (_ ||| _ : Nat) = _; rfl)
    | (with_reducible apply Keep.step keep_markLine)
    | (with_reducible apply Keep.step keep_setWord)
    | (with_reducible apply Keep.ite <;> try extract_lets)

theorem keep_latStore {s : State} {x0 x1 x2} : Keep 0x80006 s (State.latStore s x0 x1 x2) := by
  unfold State.latStore
  try extract_lets
  repeat' first
    | (with_reducible apply Keep.refl)
    | (show (_ ||| _ : Nat) = _; rfl)
    | (with_reducible apply Keep.step keep_markReg)
    | (with_reducible apply Keep.step keep_setLat)

theorem keep_rwsStore {s : State} {x0 x1} : Keep 0x81006 s (State.rwsStore s x0 x1) := by
  unfold State.rwsStore
  try extract_lets
  repeat' first
    | (with_reducible apply Keep.refl)
    | (show (_ ||| _ : Nat) = _; rfl)
    | (with_reducible apply Keep.step keep_latStore)
    | (with_reducible apply Keep.step keep_pulse)
    | (with_reducible apply Keep.ite <;> try extract_lets)

theorem keep_setSlot {s : State} {x0 x1} : Keep 0x80000 s (State.setSlot s x0 x1) := by
  unfold State.setSlot
  try extract_lets
  repeat' first
    | (with_reducible apply Keep.refl)
    | (show (_ ||| _ : Nat) = _; rfl)
    | (with_reducible apply Keep.step keep_setScn)

theorem keep_showJournal {s : State} {x0} : Keep 0x1002 s (State.showJournal s x0) := by
  unfold State.showJournal
  try extract_lets
  repeat' first
    | (with_reducible apply Keep.refl)
    | (show (_ ||| _ : Nat) = _; rfl)
    | (with_reducible apply Keep.step keep_source)
    | (with_reducible apply Keep.step keep_wr)

theorem keep_journal {s : State} {x0 x1} : Keep 0x81002 s (State.journal s x0 x1) := by
  unfold State.journal
  try extract_lets
  repeat' first
    | (with_reducible apply Keep.refl)
    | (show (_ ||| _ : Nat) = _; rfl)
    | (with_reducible apply Keep.step keep_showJournal)
    | (with_reducible apply Keep.step keep_setSlot)
    | (with_reducible apply Keep.step keep_wr)
    | (with_reducible apply Keep.ite <;> try extract_lets)

theorem keep_actionSkip {s : State} : Keep 0x1002 s (State.actionSkip s) := by
  unfold State.actionSkip
  try extract_lets
  repeat' first
    | (with_reducible apply Keep.refl)
    | (show (_ ||| _ : Nat) = _; rfl)
    | (with_reducible apply Keep.step keep_pulse)
    | (with_reducible apply Keep.step keep_bump)

theorem keep_applyPreset {s : State} {x0 x1} : Keep 0xc1402 s (State.applyPreset s x0 x1) := by
  unfold State.applyPreset
  try extract_lets
  repeat' first
    | (with_reducible apply Keep.refl)
    | (show (_ ||| _ : Nat) = _; rfl)
    | (with_reducible apply Keep.step keep_actionSkip)
    | (with_reducible apply Keep.step keep_nodesTo)
    | (with_reducible apply Keep.step keep_journal)
    | (with_reducible apply Keep.step keep_setWord)
    | (with_reducible apply Keep.ite <;> try extract_lets)
    | (with_reducible apply Keep.each <;> try intro s x <;> try extract_lets)

end Sys2Proof.Machine
end

