-- ==== Sys2Proof/Laws/KeepClocks.lean ====
section
/-!
SUPPORT. What each operation of Machine/Clocks.lean leaves alone (Laws/Keep.lean).
-/
set_option Elab.async false
set_option linter.all false
namespace Sys2Proof.Machine

theorem keep_setClk {s : State} {x0} : Keep 0x1000000 s (State.setClk s x0) := by
  unfold State.setClk
  try extract_lets
  repeat' first
    | (with_reducible apply Keep.refl)
    | (show Nat.testBit _ _ = true; rfl)
    | (with_reducible apply Keep.set_clk)

theorem keep_setCand {s : State} {x0 x1} : Keep 0x1000000 s (State.setCand s x0 x1) := by
  unfold State.setCand
  try extract_lets
  repeat' first
    | (with_reducible apply Keep.refl)
    | (show (_ ||| _ : Nat) = _; rfl)
    | (with_reducible apply Keep.step keep_setClk)

theorem keep_showCand {s : State} {x0 x1 x2} : Keep 0x2 s (State.showCand s x0 x1 x2) := by
  unfold State.showCand
  try extract_lets
  repeat' first
    | (with_reducible apply Keep.refl)
    | (show (_ ||| _ : Nat) = _; rfl)
    | (with_reducible apply Keep.step keep_wrAll)

theorem keep_dpllTo {s : State} {x0 x1 x2} : Keep 0x1001002 s (State.dpllTo s x0 x1 x2) := by
  unfold State.dpllTo
  try extract_lets
  repeat' first
    | (with_reducible apply Keep.refl)
    | (show (_ ||| _ : Nat) = _; rfl)
    | (with_reducible apply Keep.step keep_wrAll)
    | (with_reducible apply Keep.step keep_setClk)
    | (with_reducible apply Keep.step keep_source)
    | (with_reducible apply Keep.ite <;> try extract_lets)

theorem keep_buildOut {s : State} : Keep 0x2 s (State.buildOut s) := by
  unfold State.buildOut
  try extract_lets
  repeat' first
    | (with_reducible apply Keep.refl)
    | (show (_ ||| _ : Nat) = _; rfl)
    | (with_reducible apply Keep.step keep_wr)

theorem keep_setNco {s : State} {x0} : Keep 0x2 s (State.setNco s x0) := by
  unfold State.setNco
  try extract_lets
  repeat' first
    | (with_reducible apply Keep.refl)
    | (show (_ ||| _ : Nat) = _; rfl)
    | (with_reducible apply Keep.step keep_setReg)

theorem keep_toHoldover {s : State} : Keep 0x1001002 s (State.toHoldover s) := by
  unfold State.toHoldover
  try extract_lets
  repeat' first
    | (with_reducible apply Keep.refl)
    | (show (_ ||| _ : Nat) = _; rfl)
    | (with_reducible apply Keep.step keep_dpllTo)
    | (with_reducible apply Keep.step keep_setReg)
    | (with_reducible apply Keep.ite <;> try extract_lets)

theorem keep_switchTo {s : State} {x0 x1} : Keep 0x1001002 s (State.switchTo s x0 x1) := by
  unfold State.switchTo
  cases x0 <;> dsimp only <;> repeat' first
    | (with_reducible apply Keep.refl)
    | (show (_ ||| _ : Nat) = _; rfl)
    | (with_reducible apply Keep.ite)
    | (with_reducible apply Keep.step keep_toHoldover)
    | (with_reducible apply Keep.step keep_dpllTo)
    | (with_reducible apply Keep.step keep_buildOut)
    | (with_reducible apply Keep.step keep_pulse)
    | (with_reducible apply Keep.step keep_bump)
    | (with_reducible apply Keep.step keep_setClk)
    | (with_reducible apply Keep.step keep_wrAll)


theorem keep_disqualify {s : State} {x0 x1 x2} : Keep 0x1001002 s (State.disqualify s x0 x1 x2) := by
  unfold State.disqualify
  try extract_lets
  repeat' first
    | (with_reducible apply Keep.refl)
    | (show (_ ||| _ : Nat) = _; rfl)
    | (with_reducible apply Keep.step keep_setCand)
    | (with_reducible apply Keep.step keep_showCand)
    | (with_reducible apply Keep.step keep_bump)
    | (with_reducible apply Keep.step keep_pulse)
    | (with_reducible apply Keep.step keep_setClk)
    | (with_reducible apply Keep.ite <;> try extract_lets)

theorem keep_refSwitch {s : State} : Keep 0x1001002 s (State.refSwitch s) := by
  unfold State.refSwitch
  try extract_lets
  repeat' first
    | (with_reducible apply Keep.refl)
    | (show (_ ||| _ : Nat) = _; rfl)
    | (with_reducible apply Keep.step keep_switchTo)
    | (split <;> try extract_lets)

theorem keep_compareCands {s : State} {x0} : Keep 0x1001002 s (State.compareCands s x0) := by
  unfold State.compareCands
  try extract_lets
  repeat' first
    | (with_reducible apply Keep.refl)
    | (show (_ ||| _ : Nat) = _; rfl)
    | (with_reducible apply Keep.step keep_setClk)
    | (with_reducible apply Keep.step keep_source)
    | (with_reducible apply Keep.step keep_wr)
    | (with_reducible apply Keep.ite <;> try extract_lets)
    | (with_reducible apply Keep.each <;> try intro s x <;> try extract_lets)

theorem keep_candMeasure {s : State} {x0 x1} : Keep 0x1001002 s (State.candMeasure s x0 x1) := by
  unfold State.candMeasure
  try extract_lets
  repeat' first
    | (with_reducible apply Keep.refl)
    | (show (_ ||| _ : Nat) = _; rfl)
    | (with_reducible apply Keep.step keep_wrAll)
    | (with_reducible apply Keep.step keep_disqualify)
    | (with_reducible apply Keep.step keep_showCand)
    | (with_reducible apply Keep.step keep_setCand)
    | (with_reducible apply Keep.step keep_compareCands)
    | (with_reducible apply Keep.ite <;> try extract_lets)

theorem keep_candQualified {s : State} {x0} : Keep 0x1001002 s (State.candQualified s x0) := by
  unfold State.candQualified
  try extract_lets
  repeat' first
    | (with_reducible apply Keep.refl)
    | (show (_ ||| _ : Nat) = _; rfl)
    | (with_reducible apply Keep.step keep_showCand)
    | (with_reducible apply Keep.step keep_switchTo)
    | (with_reducible apply Keep.ite <;> try extract_lets)

theorem keep_candUnusable {s : State} {x0} : Keep 0x1001002 s (State.candUnusable s x0) := by
  unfold State.candUnusable
  try extract_lets
  repeat' first
    | (with_reducible apply Keep.refl)
    | (show (_ ||| _ : Nat) = _; rfl)
    | (with_reducible apply Keep.step keep_disqualify)
    | (with_reducible apply Keep.ite <;> try extract_lets)

theorem keep_tdLost {s : State} {x0} : Keep 0x1001002 s (State.tdLost s x0) := by
  unfold State.tdLost
  try extract_lets
  repeat' first
    | (with_reducible apply Keep.refl)
    | (show (_ ||| _ : Nat) = _; rfl)
    | (with_reducible apply Keep.step keep_disqualify)
    | (with_reducible apply Keep.ite <;> try extract_lets)
    | (with_reducible apply Keep.each <;> try intro s x <;> try extract_lets)

theorem keep_candOff {s : State} {x0} : Keep 0x1001002 s (State.candOff s x0) := by
  unfold State.candOff
  try extract_lets
  repeat' first
    | (with_reducible apply Keep.refl)
    | (show (_ ||| _ : Nat) = _; rfl)
    | (with_reducible apply Keep.step keep_disqualify)

theorem keep_refRevert {s : State} {x0} : Keep 0x1001002 s (State.refRevert s x0) := by
  unfold State.refRevert
  try extract_lets
  repeat' first
    | (with_reducible apply Keep.refl)
    | (show (_ ||| _ : Nat) = _; rfl)
    | (with_reducible apply Keep.step keep_switchTo)
    | (with_reducible apply Keep.ite <;> try extract_lets)

theorem keep_refRole {s : State} : Keep 0x1001002 s (State.refRole s) := by
  unfold State.refRole
  try extract_lets
  repeat' first
    | (with_reducible apply Keep.refl)
    | (show (_ ||| _ : Nat) = _; rfl)
    | (with_reducible apply Keep.step keep_showCand)
    | (with_reducible apply Keep.step keep_setCand)
    | (with_reducible apply Keep.step keep_switchTo)
    | (with_reducible apply Keep.ite <;> try extract_lets)

theorem keep_slewEnd {s : State} : Keep 0x1001002 s (State.slewEnd s) := by
  unfold State.slewEnd
  try extract_lets
  repeat' first
    | (with_reducible apply Keep.refl)
    | (show (_ ||| _ : Nat) = _; rfl)
    | (with_reducible apply Keep.step keep_dpllTo)
    | (with_reducible apply Keep.step keep_buildOut)
    | (with_reducible apply Keep.ite <;> try extract_lets)

theorem keep_dpllLock {s : State} : Keep 0x1001002 s (State.dpllLock s) := by
  unfold State.dpllLock
  try extract_lets
  repeat' first
    | (with_reducible apply Keep.refl)
    | (show (_ ||| _ : Nat) = _; rfl)
    | (with_reducible apply Keep.step keep_dpllTo)
    | (with_reducible apply Keep.ite <;> try extract_lets)

theorem keep_phaseAlarm {s : State} : Keep 0x1001002 s (State.phaseAlarm s) := by
  unfold State.phaseAlarm
  try extract_lets
  repeat' first
    | (with_reducible apply Keep.refl)
    | (show (_ ||| _ : Nat) = _; rfl)
    | (with_reducible apply Keep.step keep_dpllTo)
    | (with_reducible apply Keep.step keep_buildOut)
    | (with_reducible apply Keep.ite <;> try extract_lets)

theorem keep_lockStep {s : State} {x0} : Keep 0x2 s (State.lockStep s x0) := by
  unfold State.lockStep
  try extract_lets
  repeat' first
    | (with_reducible apply Keep.refl)
    | (show (_ ||| _ : Nat) = _; rfl)
    | (with_reducible apply Keep.step keep_wr)
    | (with_reducible apply Keep.ite <;> try extract_lets)

theorem keep_refOpen {s : State} {x0} : Keep 0x1001002 s (State.refOpen s x0) := by
  unfold State.refOpen
  try extract_lets
  repeat' first
    | (with_reducible apply Keep.refl)
    | (show (_ ||| _ : Nat) = _; rfl)
    | (with_reducible apply Keep.step keep_wrb)
    | (with_reducible apply Keep.step keep_dpllTo)
    | (with_reducible apply Keep.step keep_setClk)
    | (with_reducible apply Keep.step keep_buildOut)
    | (with_reducible apply Keep.step keep_wr)
    | (with_reducible apply Keep.step keep_setReg)
    | (with_reducible apply Keep.ite <;> try extract_lets)
    | (split <;> try extract_lets)

theorem keep_refNco {s : State} {x0} : Keep 0x1000000 s (State.refNco s x0) := by
  unfold State.refNco
  try extract_lets
  repeat' first
    | (with_reducible apply Keep.refl)
    | (show (_ ||| _ : Nat) = _; rfl)
    | (with_reducible apply Keep.step keep_setClk)
    | (with_reducible apply Keep.ite <;> try extract_lets)

theorem keep_ncoUpdate {s : State} {x0 x1} : Keep 0x1000002 s (State.ncoUpdate s x0 x1) := by
  unfold State.ncoUpdate
  try extract_lets
  repeat' first
    | (with_reducible apply Keep.refl)
    | (show (_ ||| _ : Nat) = _; rfl)
    | (with_reducible apply Keep.step keep_setNco)
    | (with_reducible apply Keep.step keep_setClk)
    | (with_reducible apply Keep.step keep_wrb)
    | (with_reducible apply Keep.step keep_bump)
    | (with_reducible apply Keep.step keep_setReg)
    | (with_reducible apply Keep.ite <;> try extract_lets)
    | (split <;> try extract_lets)

theorem keep_refOff {s : State} : Keep 0x1001002 s (State.refOff s) := by
  unfold State.refOff
  try extract_lets
  repeat' first
    | (with_reducible apply Keep.refl)
    | (show (_ ||| _ : Nat) = _; rfl)
    | (with_reducible apply Keep.step keep_wrAll)
    | (with_reducible apply Keep.step keep_dpllTo)
    | (with_reducible apply Keep.step keep_setClk)
    | (with_reducible apply Keep.step keep_showCand)
    | (with_reducible apply Keep.each <;> try intro s x <;> try extract_lets)

theorem keep_alignWrite {s : State} {x0} : Keep 0x2 s (State.alignWrite s x0) := by
  unfold State.alignWrite
  try extract_lets
  repeat' first
    | (with_reducible apply Keep.refl)
    | (show (_ ||| _ : Nat) = _; rfl)
    | (with_reducible apply Keep.step keep_wr)

theorem keep_outputRealign {s : State} {x0 x1} : Keep 0x82 s (State.outputRealign s x0 x1) := by
  unfold State.outputRealign
  try extract_lets
  repeat' first
    | (with_reducible apply Keep.refl)
    | (show (_ ||| _ : Nat) = _; rfl)
    | (with_reducible apply Keep.step keep_wrAll)
    | (with_reducible apply Keep.step keep_put)
    | (with_reducible apply Keep.step keep_setReg)
    | (with_reducible apply Keep.ite <;> try extract_lets)

theorem keep_clockLoss {s : State} {x0 x1} : Keep 0x1001002 s (State.clockLoss s x0 x1) := by
  unfold State.clockLoss
  try extract_lets
  repeat' first
    | (with_reducible apply Keep.refl)
    | (show (_ ||| _ : Nat) = _; rfl)
    | (with_reducible apply Keep.step keep_wr)
    | (with_reducible apply Keep.step keep_source)
    | (with_reducible apply Keep.step keep_bump)
    | (with_reducible apply Keep.step keep_setClk)
    | (with_reducible apply Keep.ite <;> try extract_lets)

theorem keep_clockFreq {s : State} {x0} : Keep 0x1002 s (State.clockFreq s x0) := by
  unfold State.clockFreq
  try extract_lets
  repeat' first
    | (with_reducible apply Keep.refl)
    | (show (_ ||| _ : Nat) = _; rfl)
    | (with_reducible apply Keep.step keep_pulse)

theorem keep_cdcTimeout {s : State} {x0} : Keep 0x1001002 s (State.cdcTimeout s x0) := by
  unfold State.cdcTimeout
  try extract_lets
  repeat' first
    | (with_reducible apply Keep.refl)
    | (show (_ ||| _ : Nat) = _; rfl)
    | (with_reducible apply Keep.step keep_setClk)
    | (with_reducible apply Keep.step keep_wrAll)
    | (with_reducible apply Keep.step keep_pulse)
    | (with_reducible apply Keep.step keep_bump)
    | (with_reducible apply Keep.step keep_wr)
    | (with_reducible apply Keep.ite <;> try extract_lets)
    | (with_reducible apply Keep.each <;> try intro s x <;> try extract_lets)

end Sys2Proof.Machine
end

