-- ==== Sys2Proof/Laws/KeepNet.lean ====
section
/-!
SUPPORT. What each operation of Machine/Net.lean leaves alone (Laws/Keep.lean).
-/
set_option Elab.async false
set_option linter.all false
namespace Sys2Proof.Machine

theorem keep_setNet {s : State} {x0} : Keep 0x800000 s (State.setNet s x0) := by
  unfold State.setNet
  try extract_lets
  repeat' first
    | (with_reducible apply Keep.refl)
    | (show Nat.testBit _ _ = true; rfl)
    | (with_reducible apply Keep.set_net)

theorem keep_setMac {s : State} {x0 x1} : Keep 0x800000 s (State.setMac s x0 x1) := by
  unfold State.setMac
  try extract_lets
  repeat' first
    | (with_reducible apply Keep.refl)
    | (show (_ ||| _ : Nat) = _; rfl)
    | (with_reducible apply Keep.step keep_setNet)

theorem keep_setTd {s : State} {x0 x1} : Keep 0x800000 s (State.setTd s x0 x1) := by
  unfold State.setTd
  try extract_lets
  repeat' first
    | (with_reducible apply Keep.refl)
    | (show (_ ||| _ : Nat) = _; rfl)
    | (with_reducible apply Keep.step keep_setNet)

theorem keep_setRx {s : State} {x0 x1} : Keep 0x800000 s (State.setRx s x0 x1) := by
  unfold State.setRx
  try extract_lets
  repeat' first
    | (with_reducible apply Keep.refl)
    | (show (_ ||| _ : Nat) = _; rfl)
    | (with_reducible apply Keep.step keep_setNet)

theorem keep_setTx {s : State} {x0 x1} : Keep 0x800000 s (State.setTx s x0 x1) := by
  unfold State.setTx
  try extract_lets
  repeat' first
    | (with_reducible apply Keep.refl)
    | (show (_ ||| _ : Nat) = _; rfl)
    | (with_reducible apply Keep.step keep_setNet)

theorem keep_showTime {s : State} {x0} : Keep 0x2 s (State.showTime s x0) := by
  unfold State.showTime
  try extract_lets
  repeat' first
    | (with_reducible apply Keep.refl)
    | (show (_ ||| _ : Nat) = _; rfl)
    | (with_reducible apply Keep.step keep_wrAll)

theorem keep_refPeriods {s : State} {x0} : Keep 0x800002 s (State.refPeriods s x0) := by
  unfold State.refPeriods
  try extract_lets
  repeat' first
    | (with_reducible apply Keep.refl)
    | (show (_ ||| _ : Nat) = _; rfl)
    | (with_reducible apply Keep.step keep_showTime)
    | (with_reducible apply Keep.step keep_setTd)
    | (with_reducible apply Keep.step keep_wr64)
    | (with_reducible apply Keep.step keep_setNet)
    | (with_reducible apply Keep.each <;> try intro s x <;> try extract_lets)

theorem keep_tdcLoad {s : State} : Keep 0x800002 s (State.tdcLoad s) := by
  unfold State.tdcLoad
  try extract_lets
  repeat' first
    | (with_reducible apply Keep.refl)
    | (show (_ ||| _ : Nat) = _; rfl)
    | (with_reducible apply Keep.step keep_wr)
    | (with_reducible apply Keep.step keep_wr64)
    | (with_reducible apply Keep.step keep_setNet)

theorem keep_showLocked {s : State} {x0} : Keep 0x2 s (State.showLocked s x0) := by
  unfold State.showLocked
  try extract_lets
  repeat' first
    | (with_reducible apply Keep.refl)
    | (show (_ ||| _ : Nat) = _; rfl)
    | (with_reducible apply Keep.step keep_wrb)

theorem keep_enterReacquire {s : State} {x0} : Keep 0x1801002 s (State.enterReacquire s x0) := by
  unfold State.enterReacquire
  try extract_lets
  repeat' first
    | (with_reducible apply Keep.refl)
    | (show (_ ||| _ : Nat) = _; rfl)
    | (with_reducible apply Keep.step keep_tdLost)
    | (with_reducible apply Keep.step keep_source)
    | (with_reducible apply Keep.step keep_showLocked)
    | (with_reducible apply Keep.step keep_wr)
    | (with_reducible apply Keep.step keep_setTd)

theorem keep_reacquire {s : State} {x0} : Keep 0x1801002 s (State.reacquire s x0) := by
  unfold State.reacquire
  try extract_lets
  repeat' first
    | (with_reducible apply Keep.refl)
    | (show (_ ||| _ : Nat) = _; rfl)
    | (with_reducible apply Keep.step keep_enterReacquire)
    | (with_reducible apply Keep.ite <;> try extract_lets)

theorem keep_stepTd {s : State} {x0 x1 x2} : Keep 0x801002 s (State.stepTd s x0 x1 x2) := by
  unfold State.stepTd
  try extract_lets
  repeat' first
    | (with_reducible apply Keep.refl)
    | (show (_ ||| _ : Nat) = _; rfl)
    | (with_reducible apply Keep.step keep_showLocked)
    | (with_reducible apply Keep.step keep_source)
    | (with_reducible apply Keep.step keep_bump)
    | (with_reducible apply Keep.step keep_wr)
    | (with_reducible apply Keep.step keep_showTime)
    | (with_reducible apply Keep.step keep_setTd)

theorem keep_timeStep {s : State} {x0 x1} : Keep 0x801002 s (State.timeStep s x0 x1).st := by
  unfold State.timeStep
  try extract_lets
  repeat' first
    | (with_reducible apply Keep.refl)
    | (show (_ ||| _ : Nat) = _; rfl)
    | (with_reducible apply Keep.step keep_fin)
    | (with_reducible apply Keep.step keep_pulse)
    | (with_reducible apply Keep.step keep_wr)
    | (with_reducible apply Keep.step keep_stepTd)
    | (with_reducible apply Keep.ite_st <;> try extract_lets)
    | (dsimp only)
    | (split <;> try extract_lets)

theorem keep_timeRate {s : State} {x0 x1} : Keep 0x2 s (State.timeRate s x0 x1).st := by
  unfold State.timeRate
  try extract_lets
  repeat' first
    | (with_reducible apply Keep.refl)
    | (show (_ ||| _ : Nat) = _; rfl)
    | (with_reducible apply Keep.step keep_fin)
    | (with_reducible apply Keep.step keep_setReg)
    | (with_reducible apply Keep.ite_st <;> try extract_lets)

theorem keep_enqueue {s : State} {x0 x1} : Keep 0x800000 s (State.enqueue s x0 x1) := by
  unfold State.enqueue
  try extract_lets
  repeat' first
    | (with_reducible apply Keep.refl)
    | (show (_ ||| _ : Nat) = _; rfl)
    | (with_reducible apply Keep.step keep_setMac)

theorem keep_sendMedia {s : State} {x0 x1} : Keep 0x800000 s (State.sendMedia s x0 x1) := by
  unfold State.sendMedia
  try extract_lets
  repeat' first
    | (with_reducible apply Keep.refl)
    | (show (_ ||| _ : Nat) = _; rfl)
    | (with_reducible apply Keep.step keep_setNet)
    | (with_reducible apply Keep.step keep_enqueue)
    | (with_reducible apply Keep.ite <;> try extract_lets)

theorem keep_sendPtp {s : State} {x0 x1 x2 x3} : Keep 0x800000 s (State.sendPtp s x0 x1 x2 x3) := by
  unfold State.sendPtp
  try extract_lets
  repeat' first
    | (with_reducible apply Keep.refl)
    | (show (_ ||| _ : Nat) = _; rfl)
    | (with_reducible apply Keep.step keep_enqueue)

theorem keep_macTx {s : State} {x0 x1} : Keep 0x801082 s (State.macTx s x0 x1) := by
  unfold State.macTx
  try extract_lets
  repeat' first
    | (with_reducible apply Keep.refl)
    | (show (_ ||| _ : Nat) = _; rfl)
    | (with_reducible apply Keep.step keep_bump)
    | (with_reducible apply Keep.step keep_setMac)
    | (with_reducible apply Keep.step keep_pulse)
    | (with_reducible apply Keep.step keep_wrAll)
    | (with_reducible apply Keep.step keep_put)
    | (with_reducible apply Keep.step keep_enqueue)
    | (with_reducible apply Keep.ite <;> try extract_lets)
    | (dsimp only)
    | (split <;> try extract_lets)

theorem keep_collision {s : State} {x0} : Keep 0x801082 s (State.collision s x0) := by
  unfold State.collision
  try extract_lets
  repeat' first
    | (with_reducible apply Keep.refl)
    | (show (_ ||| _ : Nat) = _; rfl)
    | (with_reducible apply Keep.step keep_wr)
    | (with_reducible apply Keep.step keep_put)
    | (with_reducible apply Keep.step keep_pulse)
    | (with_reducible apply Keep.step keep_bumpSat)
    | (with_reducible apply Keep.step keep_setMac)
    | (with_reducible apply Keep.step keep_bump)
    | (with_reducible apply Keep.ite <;> try extract_lets)
    | (split <;> try extract_lets)

theorem keep_backoffEnd {s : State} : Keep 0x800000 s (State.backoffEnd s) := by
  unfold State.backoffEnd
  try extract_lets
  repeat' first
    | (with_reducible apply Keep.refl)
    | (show (_ ||| _ : Nat) = _; rfl)
    | (with_reducible apply Keep.step keep_setMac)

theorem keep_pauseEnd {s : State} {x0} : Keep 0x2 s (State.pauseEnd s x0) := by
  unfold State.pauseEnd
  try extract_lets
  repeat' first
    | (with_reducible apply Keep.refl)
    | (show (_ ||| _ : Nat) = _; rfl)
    | (with_reducible apply Keep.step keep_wr)

theorem keep_macLink {s : State} {x0 x1} : Keep 0x1002 s (State.macLink s x0 x1) := by
  unfold State.macLink
  try extract_lets
  repeat' first
    | (with_reducible apply Keep.refl)
    | (show (_ ||| _ : Nat) = _; rfl)
    | (show Nat.testBit _ _ = true; rfl)
    | (with_reducible apply Keep.step keep_source)
    | (with_reducible apply Keep.step keep_wrAll)
    | (with_reducible apply Keep.ite <;> try extract_lets)
    | (with_reducible apply Keep.step keep_wrb)

theorem keep_prpIn {s : State} {x0 x1 x2} : Keep 0x800002 s (State.prpIn s x0 x1 x2).2 := by
  unfold State.prpIn
  try extract_lets
  repeat' first
    | (with_reducible apply Keep.refl)
    | (show (_ ||| _ : Nat) = _; rfl)
    | (with_reducible apply Keep.step keep_wr)
    | (with_reducible apply Keep.step keep_setNet)
    | (with_reducible apply Keep.step keep_bump)
    | (with_reducible apply Keep.ite <;> try extract_lets)
    | (dsimp only)
    | (split <;> try extract_lets)

theorem keep_resolved {s : State} {x0 x1} : Keep 0x801002 s (State.resolved s x0 x1) := by
  unfold State.resolved
  try extract_lets
  repeat' first
    | (with_reducible apply Keep.refl)
    | (show (_ ||| _ : Nat) = _; rfl)
    | (with_reducible apply Keep.step keep_wr)
    | (with_reducible apply Keep.step keep_setTx)
    | (with_reducible apply Keep.step keep_source)
    | (with_reducible apply Keep.ite <;> try extract_lets)
    | (with_reducible apply Keep.each <;> try intro s x <;> try extract_lets)

theorem keep_answerOn {s : State} {x0 x1 x2} : Keep 0x800000 s (State.answerOn s x0 x1 x2) := by
  unfold State.answerOn
  repeat' first
    | (with_reducible apply Keep.refl)
    | (show (_ ||| _ : Nat) = _; rfl)
    | (with_reducible apply Keep.step keep_enqueue)
    | (with_reducible apply Keep.step keep_sendMedia)
    | (with_reducible apply Keep.ite <;> try extract_lets)

theorem keep_netBody {s : State} {x0 x1 x2} : Keep 0x801002 s (State.netBody s x0 x1 x2) := by
  unfold State.netBody
  try extract_lets
  repeat' first
    | (with_reducible apply Keep.refl)
    | (show (_ ||| _ : Nat) = _; rfl)
    | (with_reducible apply Keep.step keep_answerOn)
    | (with_reducible apply Keep.step keep_setNet)
    | (with_reducible apply Keep.step keep_bump)
    | (with_reducible apply Keep.step keep_sendMedia)
    | (with_reducible apply Keep.step keep_resolved)
    | (with_reducible apply Keep.step keep_wrb)
    | (with_reducible apply Keep.ite <;> try extract_lets)
    | (with_reducible apply Keep.each <;> try intro s x <;> try extract_lets)
    | (split <;> try extract_lets)

theorem keep_macRx {s : State} {x0 x1} : Keep 0x801002 s (State.macRx s x0 x1) := by
  unfold State.macRx
  try extract_lets
  repeat' first
    | (with_reducible apply Keep.refl)
    | (show (_ ||| _ : Nat) = _; rfl)
    | (with_reducible apply Keep.step keep_pulse)
    | (with_reducible apply Keep.step keep_bump)
    | (with_reducible apply Keep.step keep_prpIn)
    | (with_reducible apply Keep.step keep_netBody)
    | (with_reducible apply Keep.ite <;> try extract_lets)
    | (dsimp only)
    | (split <;> try extract_lets)

theorem keep_prpTimeout {s : State} {x0 x1} : Keep 0x800002 s (State.prpTimeout s x0 x1) := by
  unfold State.prpTimeout
  try extract_lets
  repeat' first
    | (with_reducible apply Keep.refl)
    | (show (_ ||| _ : Nat) = _; rfl)
    | (with_reducible apply Keep.step keep_setNet)
    | (with_reducible apply Keep.step keep_bump)
    | (with_reducible apply Keep.ite <;> try extract_lets)
    | (dsimp only)
    | (split <;> try extract_lets)

theorem keep_prpAgeout {s : State} {x0} : Keep 0x800002 s (State.prpAgeout s x0) := by
  unfold State.prpAgeout
  try extract_lets
  repeat' first
    | (with_reducible apply Keep.refl)
    | (show (_ ||| _ : Nat) = _; rfl)
    | (with_reducible apply Keep.step keep_wr)
    | (with_reducible apply Keep.step keep_setNet)

theorem keep_prpSupervise {s : State} : Keep 0x800000 s (State.prpSupervise s) := by
  unfold State.prpSupervise
  try extract_lets
  repeat' first
    | (with_reducible apply Keep.refl)
    | (show (_ ||| _ : Nat) = _; rfl)
    | (with_reducible apply Keep.step keep_sendMedia)
    | (with_reducible apply Keep.ite <;> try extract_lets)

theorem keep_oneLan {s : State} {x0 x1} : Keep 0x801002 s (State.oneLan s x0 x1) := by
  unfold State.oneLan
  try extract_lets
  repeat' first
    | (with_reducible apply Keep.refl)
    | (show (_ ||| _ : Nat) = _; rfl)
    | (with_reducible apply Keep.step keep_source)
    | (with_reducible apply Keep.step keep_setNet)

theorem keep_askArp {s : State} {x0} : Keep 0x800000 s (State.askArp s x0) := by
  unfold State.askArp
  try extract_lets
  repeat' first
    | (with_reducible apply Keep.refl)
    | (show (_ ||| _ : Nat) = _; rfl)
    | (with_reducible apply Keep.step keep_sendMedia)

theorem keep_arpRetry {s : State} {x0} : Keep 0x800002 s (State.arpRetry s x0) := by
  unfold State.arpRetry
  try extract_lets
  repeat' first
    | (with_reducible apply Keep.refl)
    | (show (_ ||| _ : Nat) = _; rfl)
    | (with_reducible apply Keep.step keep_askArp)
    | (with_reducible apply Keep.step keep_wr)
    | (with_reducible apply Keep.step keep_setTx)
    | (with_reducible apply Keep.ite <;> try extract_lets)
    | (split <;> try extract_lets)

theorem keep_arpRefresh {s : State} {x0} : Keep 0x800000 s (State.arpRefresh s x0) := by
  unfold State.arpRefresh
  try extract_lets
  repeat' first
    | (with_reducible apply Keep.refl)
    | (show (_ ||| _ : Nat) = _; rfl)
    | (with_reducible apply Keep.step keep_askArp)
    | (with_reducible apply Keep.step keep_setTx)
    | (with_reducible apply Keep.ite <;> try extract_lets)

theorem keep_noArp {s : State} {x0} : Keep 0x801002 s (State.noArp s x0) := by
  unfold State.noArp
  try extract_lets
  repeat' first
    | (with_reducible apply Keep.refl)
    | (show (_ ||| _ : Nat) = _; rfl)
    | (with_reducible apply Keep.step keep_source)
    | (with_reducible apply Keep.step keep_setTx)
    | (with_reducible apply Keep.ite <;> try extract_lets)

theorem keep_ptpMessage {s : State} {x0} : Keep 0x801002 s (State.ptpMessage s x0) := by
  unfold State.ptpMessage
  try extract_lets
  repeat' first
    | (with_reducible apply Keep.refl)
    | (show (_ ||| _ : Nat) = _; rfl)
    | (with_reducible apply Keep.step keep_setNet)
    | (with_reducible apply Keep.step keep_wrAll)
    | (with_reducible apply Keep.step keep_source)
    | (with_reducible apply Keep.step keep_wr64)
    | (with_reducible apply Keep.step keep_sendPtp)
    | (with_reducible apply Keep.ite <;> try extract_lets)
    | (with_reducible apply Keep.each <;> try intro s x <;> try extract_lets)
    | (dsimp only)
    | (split <;> try extract_lets)

theorem keep_ptpSync {s : State} {x0 x1 x2 x3} : Keep 0x1801002 s (State.ptpSync s x0 x1 x2 x3) := by
  unfold State.ptpSync
  try extract_lets
  repeat' first
    | (with_reducible apply Keep.refl)
    | (show (_ ||| _ : Nat) = _; rfl)
    | (with_reducible apply Keep.step keep_showLocked)
    | (with_reducible apply Keep.step keep_setReg)
    | (with_reducible apply Keep.step keep_setTd)
    | (with_reducible apply Keep.step keep_enterReacquire)
    | (with_reducible apply Keep.step keep_stepTd)
    | (with_reducible apply Keep.step keep_sendPtp)
    | (with_reducible apply Keep.ite <;> try extract_lets)
    | (with_reducible apply Keep.each <;> try intro s x <;> try extract_lets)
    | (split <;> try extract_lets)
    | (dsimp +zetaDelta only; split <;> try extract_lets)

theorem keep_ptpTimeout {s : State} {x0} : Keep 0x1801002 s (State.ptpTimeout s x0) := by
  unfold State.ptpTimeout
  try extract_lets
  repeat' first
    | (with_reducible apply Keep.refl)
    | (show (_ ||| _ : Nat) = _; rfl)
    | (with_reducible apply Keep.step keep_source)
    | (with_reducible apply Keep.step keep_enterReacquire)
    | (with_reducible apply Keep.ite <;> try extract_lets)

theorem keep_ptpApply {s : State} {x0} : Keep 0x800000 s (State.ptpApply s x0) := by
  unfold State.ptpApply
  try extract_lets
  repeat' first
    | (with_reducible apply Keep.refl)
    | (show (_ ||| _ : Nat) = _; rfl)
    | (with_reducible apply Keep.step keep_setTd)

theorem keep_setAnchor {s : State} {x0 x1} : Keep 0x2 s (State.setAnchor s x0 x1) := by
  unfold State.setAnchor
  try extract_lets
  repeat' first
    | (with_reducible apply Keep.refl)
    | (show (_ ||| _ : Nat) = _; rfl)
    | (with_reducible apply Keep.step keep_wr)
    | (with_reducible apply Keep.step keep_wr64)

theorem keep_anchorTick {s : State} : Keep 0x900082 s (State.anchorTick s) := by
  unfold State.anchorTick
  try extract_lets
  repeat' first
    | (with_reducible apply Keep.refl)
    | (show (_ ||| _ : Nat) = _; rfl)
    | (with_reducible apply Keep.step keep_setTd)
    | (with_reducible apply Keep.step keep_setAnchor)
    | (with_reducible apply Keep.step keep_mirrorWrite)
    | (with_reducible apply Keep.ite <;> try extract_lets)
    | (with_reducible apply Keep.each <;> try intro s x <;> try extract_lets)
    | (dsimp only)
    | (split <;> try extract_lets)
    | (dsimp +zetaDelta only; split <;> try extract_lets)

theorem keep_anchorSlip {s : State} {x0} : Keep 0x901082 s (State.anchorSlip s x0) := by
  unfold State.anchorSlip
  try extract_lets
  repeat' first
    | (with_reducible apply Keep.refl)
    | (show (_ ||| _ : Nat) = _; rfl)
    | (with_reducible apply Keep.step keep_mirrorWrite)
    | (with_reducible apply Keep.step keep_pulse)
    | (with_reducible apply Keep.step keep_bump)
    | (with_reducible apply Keep.step keep_setTd)
    | (with_reducible apply Keep.ite <;> try extract_lets)
    | (split <;> try extract_lets)

theorem keep_rxPacket {s : State} {x0 x1 x2} : Keep 0x801002 s (State.rxPacket s x0 x1 x2) := by
  unfold State.rxPacket
  try extract_lets
  repeat' first
    | (with_reducible apply Keep.refl)
    | (show (_ ||| _ : Nat) = _; rfl)
    | (with_reducible apply Keep.step keep_pulse)
    | (with_reducible apply Keep.step keep_bump)
    | (with_reducible apply Keep.step keep_wrAll)
    | (with_reducible apply Keep.step keep_setRx)
    | (with_reducible apply Keep.step keep_wr)
    | (with_reducible apply Keep.ite <;> try extract_lets)
    | (dsimp only)
    | (split <;> try extract_lets)
    | (dsimp +zetaDelta only; split <;> try extract_lets)

theorem keep_streamPacket {s : State} {x0} : Keep 0x801002 s (State.streamPacket s x0) := by
  unfold State.streamPacket
  try extract_lets
  repeat' first
    | (with_reducible apply Keep.refl)
    | (show (_ ||| _ : Nat) = _; rfl)
    | (with_reducible apply Keep.step keep_setNet)
    | (with_reducible apply Keep.step keep_rxPacket)
    | (with_reducible apply Keep.each <;> try intro s x <;> try extract_lets)
    | (split <;> try extract_lets)

theorem keep_rxSample {s : State} {x0 x1 x2} : Keep 0x841002 s (State.rxSample s x0 x1 x2) := by
  unfold State.rxSample
  try extract_lets
  repeat' first
    | (with_reducible apply Keep.refl)
    | (show (_ ||| _ : Nat) = _; rfl)
    | (show Nat.testBit _ _ = true; rfl)
    | (with_reducible apply Keep.step keep_setBitArr)
    | (with_reducible apply Keep.step keep_pulse)
    | (with_reducible apply Keep.step keep_bump)
    | (with_reducible apply Keep.step keep_setRx)
    | (with_reducible apply Keep.step keep_bumpBy)
    | (with_reducible apply Keep.ite <;> try extract_lets)
    | (with_reducible apply Keep.each <;> try intro s x <;> try extract_lets)
    | (dsimp only)
    | (split <;> try extract_lets)
    | (dsimp +zetaDelta only; split <;> try extract_lets)
    | (with_reducible apply Keep.set_eng)

theorem keep_streamsIn {s : State} : Keep 0x841002 s (State.streamsIn s) := by
  unfold State.streamsIn
  try extract_lets
  repeat' first
    | (with_reducible apply Keep.refl)
    | (show (_ ||| _ : Nat) = _; rfl)
    | (with_reducible apply Keep.step keep_setRx)
    | (with_reducible apply Keep.step keep_rxSample)
    | (with_reducible apply Keep.step keep_setBitArr)
    | (with_reducible apply Keep.step keep_wr)
    | (with_reducible apply Keep.each <;> try intro s x <;> try extract_lets)
    | (dsimp +zetaDelta only; split <;> try extract_lets)

theorem keep_streamsTick {s : State} : Keep 0x800002 s (State.streamsTick s) := by
  unfold State.streamsTick
  try extract_lets
  repeat' first
    | (with_reducible apply Keep.refl)
    | (show (_ ||| _ : Nat) = _; rfl)
    | (with_reducible apply Keep.step keep_setBitArr)
    | (with_reducible apply Keep.step keep_setRx)
    | (with_reducible apply Keep.each <;> try intro s x <;> try extract_lets)

theorem keep_streamsOut {s : State} {x0} : Keep 0x800000 s (State.streamsOut s x0) := by
  unfold State.streamsOut
  try extract_lets
  repeat' first
    | (with_reducible apply Keep.refl)
    | (show (_ ||| _ : Nat) = _; rfl)
    | (with_reducible apply Keep.step keep_setTx)
    | (with_reducible apply Keep.each <;> try intro s x <;> try extract_lets)

theorem keep_txStart {s : State} {x0} : Keep 0x800102 s (State.txStart s x0) := by
  unfold State.txStart
  try extract_lets
  repeat' first
    | (with_reducible apply Keep.refl)
    | (show (_ ||| _ : Nat) = _; rfl)
    | (with_reducible apply Keep.step keep_open_)
    | (with_reducible apply Keep.step keep_setBitArr)
    | (with_reducible apply Keep.step keep_wr)
    | (with_reducible apply Keep.step keep_setTx)
    | (with_reducible apply Keep.step keep_askArp)
    | (with_reducible apply Keep.ite <;> try extract_lets)

theorem keep_txDone {s : State} {x0} : Keep 0x800102 s (State.txDone s x0) := by
  unfold State.txDone
  try extract_lets
  repeat' first
    | (with_reducible apply Keep.refl)
    | (show (_ ||| _ : Nat) = _; rfl)
    | (with_reducible apply Keep.step keep_setBitArr)
    | (with_reducible apply Keep.step keep_wr)
    | (with_reducible apply Keep.step keep_setTx)
    | (with_reducible apply Keep.step keep_txStart)
    | (with_reducible apply Keep.ite <;> try extract_lets)

theorem keep_streamSend {s : State} {x0 x1} : Keep 0x801102 s (State.streamSend s x0 x1) := by
  unfold State.streamSend
  try extract_lets
  repeat' first
    | (with_reducible apply Keep.refl)
    | (show (_ ||| _ : Nat) = _; rfl)
    | (with_reducible apply Keep.step keep_setTx)
    | (with_reducible apply Keep.step keep_bump)
    | (with_reducible apply Keep.step keep_pulse)
    | (with_reducible apply Keep.step keep_sendMedia)
    | (with_reducible apply Keep.step keep_txDone)
    | (with_reducible apply Keep.ite <;> try extract_lets)
    | (dsimp only)
    | (split <;> try extract_lets)

theorem keep_txStop {s : State} {x0 x1 x2} : Keep 0x800000 s (State.txStop s x0 x1 x2) := by
  unfold State.txStop
  try extract_lets
  repeat' first
    | (with_reducible apply Keep.refl)
    | (show (_ ||| _ : Nat) = _; rfl)
    | (with_reducible apply Keep.step keep_setTx)

theorem keep_rxStart {s : State} {x0} : Keep 0x800002 s (State.rxStart s x0) := by
  unfold State.rxStart
  try extract_lets
  repeat' first
    | (with_reducible apply Keep.refl)
    | (show (_ ||| _ : Nat) = _; rfl)
    | (with_reducible apply Keep.step keep_wr)
    | (with_reducible apply Keep.step keep_setRx)

theorem keep_rxStop {s : State} {x0} : Keep 0x800002 s (State.rxStop s x0) := by
  unfold State.rxStop
  try extract_lets
  repeat' first
    | (with_reducible apply Keep.refl)
    | (show (_ ||| _ : Nat) = _; rfl)
    | (with_reducible apply Keep.step keep_setBitArr)
    | (with_reducible apply Keep.step keep_wr)
    | (with_reducible apply Keep.step keep_setRx)

end Sys2Proof.Machine
end

