-- ==== Sys2Proof/Laws/KeepScenes.lean ====
section
/-!
SUPPORT. What each operation of Machine/Scenes.lean leaves alone (Laws/Keep.lean).
-/
set_option Elab.async false
set_option linter.all false
namespace Sys2Proof.Machine

theorem keep_showDiss {s : State} : Keep 0x2 s (State.showDiss s) := by
  unfold State.showDiss
  try extract_lets
  repeat' first
    | (with_reducible apply Keep.refl)
    | (show (_ ||| _ : Nat) = _; rfl)
    | (with_reducible apply Keep.step keep_wrAll)

theorem keep_changeInst {s : State} {x0 x1 x2 x3 x4} : Keep 0x41002 s (State.changeInst s x0 x1 x2 x3 x4) := by
  unfold State.changeInst
  try extract_lets
  repeat' first
    | (with_reducible apply Keep.refl)
    | (show (_ ||| _ : Nat) = _; rfl)
    | (with_reducible apply Keep.step keep_showDiss)
    | (with_reducible apply Keep.step keep_setInst)
    | (with_reducible apply Keep.step keep_pulse)
    | (with_reducible apply Keep.step keep_bump)
    | (with_reducible apply Keep.ite <;> try extract_lets)
    | (dsimp only)
    | (split <;> try extract_lets)

theorem keep_startInst {s : State} {x0} : Keep 0x43d82 s (State.startInst s x0) := by
  unfold State.startInst
  try extract_lets
  repeat' first
    | (with_reducible apply Keep.refl)
    | (show (_ ||| _ : Nat) = _; rfl)
    | (with_reducible apply Keep.step keep_setInst)
    | (with_reducible apply Keep.step keep_bump)
    | (with_reducible apply Keep.step keep_showDiss)
    | (with_reducible apply Keep.step keep_freqChanged)
    | (with_reducible apply Keep.ite <;> try extract_lets)
    | (dsimp only)
    | (split <;> try extract_lets)

theorem keep_startInsts {s : State} : Keep 0x43d82 s (State.startInsts s) := by
  unfold State.startInsts
  try extract_lets
  repeat' first
    | (with_reducible apply Keep.refl)
    | (show (_ ||| _ : Nat) = _; rfl)
    | (with_reducible apply Keep.step keep_startInst)
    | (with_reducible apply Keep.each <;> try intro s x <;> try extract_lets)

theorem keep_waitStart {s : State} {x0} : Keep 0x43d82 s (State.waitStart s x0) := by
  unfold State.waitStart
  try extract_lets
  repeat' first
    | (with_reducible apply Keep.refl)
    | (show (_ ||| _ : Nat) = _; rfl)
    | (with_reducible apply Keep.step keep_showDiss)
    | (with_reducible apply Keep.step keep_startInst)
    | (with_reducible apply Keep.step keep_setInst)
    | (with_reducible apply Keep.ite <;> try extract_lets)
    | (split <;> try extract_lets)

theorem keep_dissolveEnd {s : State} {x0} : Keep 0x40002 s (State.dissolveEnd s x0) := by
  unfold State.dissolveEnd
  try extract_lets
  repeat' first
    | (with_reducible apply Keep.refl)
    | (show (_ ||| _ : Nat) = _; rfl)
    | (with_reducible apply Keep.step keep_showDiss)
    | (with_reducible apply Keep.step keep_setInst)
    | (with_reducible apply Keep.ite <;> try extract_lets)
    | (split <;> try extract_lets)

theorem keep_chainStart {s : State} {x0} : Keep 0x40002 s (State.chainStart s x0) := by
  unfold State.chainStart
  try extract_lets
  repeat' first
    | (with_reducible apply Keep.refl)
    | (show (_ ||| _ : Nat) = _; rfl)
    | (with_reducible apply Keep.step keep_showDiss)
    | (with_reducible apply Keep.step keep_setInst)
    | (with_reducible apply Keep.ite <;> try extract_lets)
    | (split <;> try extract_lets)

theorem keep_imageWrite {s : State} {x0} : Keep 0x2 s (State.imageWrite s x0) := by
  unfold State.imageWrite
  try extract_lets
  repeat' first
    | (with_reducible apply Keep.refl)
    | (show (_ ||| _ : Nat) = _; rfl)
    | (with_reducible apply Keep.step keep_setReg)
    | (with_reducible apply Keep.ite <;> try extract_lets)

theorem keep_imaged {s : State} {x0} : Keep 0x2 s (State.imaged s x0) := by
  unfold State.imaged
  try extract_lets
  repeat' first
    | (with_reducible apply Keep.refl)
    | (show (_ ||| _ : Nat) = _; rfl)
    | (with_reducible apply Keep.step keep_wr)
    | (with_reducible apply Keep.step keep_imageWrite)
    | (with_reducible apply Keep.each <;> try intro s x <;> try extract_lets)

theorem keep_showAdmitted {s : State} {x0} : Keep 0x2 s (State.showAdmitted s x0) := by
  unfold State.showAdmitted
  try extract_lets
  repeat' first
    | (with_reducible apply Keep.refl)
    | (show (_ ||| _ : Nat) = _; rfl)
    | (with_reducible apply Keep.step keep_wrb)
    | (with_reducible apply Keep.each <;> try intro s x <;> try extract_lets)

theorem keep_enableUsed {s : State} {x0} : Keep 0x2 s (State.enableUsed s x0) := by
  unfold State.enableUsed
  try extract_lets
  repeat' first
    | (with_reducible apply Keep.refl)
    | (show (_ ||| _ : Nat) = _; rfl)
    | (show Nat.testBit _ _ = true; rfl)
    | (with_reducible apply Keep.step keep_wr)
    | (with_reducible apply Keep.ite <;> try extract_lets)
    | (with_reducible apply Keep.each <;> try intro s x <;> try extract_lets)
    | (split <;> try extract_lets)
    | (dsimp only)

theorem keep_pageOn {s : State} {x0} : Keep 0x200002 s (State.pageOn s x0) := by
  unfold State.pageOn
  try extract_lets
  repeat' first
    | (with_reducible apply Keep.refl)
    | (with_reducible apply Keep.step keep_enableUsed)
    | (show (_ ||| _ : Nat) = _; rfl)
    | (with_reducible apply Keep.step keep_portStart)
    | (with_reducible apply Keep.step keep_wr)

theorem keep_pageOff {s : State} {x0 x1 x2} : Keep 0x201002 s (State.pageOff s x0 x1 x2) := by
  unfold State.pageOff
  try extract_lets
  repeat' first
    | (with_reducible apply Keep.refl)
    | (show (_ ||| _ : Nat) = _; rfl)
    | (with_reducible apply Keep.step keep_portStop)
    | (with_reducible apply Keep.step keep_idle)
    | (with_reducible apply Keep.ite <;> try extract_lets)

theorem keep_stopPorts {s : State} {x0 x1} : Keep 0xa01002 s (State.stopPorts s x0 x1) := by
  unfold State.stopPorts
  try extract_lets
  repeat' first
    | (with_reducible apply Keep.refl)
    | (with_reducible apply Keep.step keep_imaged)
    | (with_reducible apply Keep.step keep_rxStop)
    | (show (_ ||| _ : Nat) = _; rfl)
    | (with_reducible apply Keep.step keep_pageOff)
    | (with_reducible apply Keep.step keep_txStop)
    | (with_reducible apply Keep.ite <;> try extract_lets)
    | (with_reducible apply Keep.each <;> try intro s x <;> try extract_lets)

theorem keep_startPorts {s : State} {x0 x1} : Keep 0x200002 s (State.startPorts s x0 x1) := by
  unfold State.startPorts
  try extract_lets
  repeat' first
    | (with_reducible apply Keep.refl)
    | (show (_ ||| _ : Nat) = _; rfl)
    | (with_reducible apply Keep.step keep_pageOn)
    | (with_reducible apply Keep.each <;> try intro s x <;> try extract_lets)

theorem keep_switchStreams {s : State} {x0} : Keep 0x800102 s (State.switchStreams s x0) := by
  unfold State.switchStreams
  try extract_lets
  repeat' first
    | (with_reducible apply Keep.refl)
    | (show (_ ||| _ : Nat) = _; rfl)
    | (with_reducible apply Keep.step keep_imaged)
    | (with_reducible apply Keep.step keep_rxStart)
    | (with_reducible apply Keep.step keep_rxStop)
    | (with_reducible apply Keep.step keep_txStart)
    | (with_reducible apply Keep.ite <;> try extract_lets)
    | (with_reducible apply Keep.each <;> try intro s x <;> try extract_lets)

theorem keep_loadCluster {s : State} {x0 x1 x2 x3} : Keep 0x20000 s (State.loadCluster s x0 x1 x2 x3) := by
  unfold State.loadCluster
  try extract_lets
  repeat' first
    | (with_reducible apply Keep.refl)
    | (show (_ ||| _ : Nat) = _; rfl)
    | (with_reducible apply Keep.step keep_setCluster)

theorem keep_showUse {s : State} {x0 x1} : Keep 0x2 s (State.showUse s x0 x1) := by
  unfold State.showUse
  try extract_lets
  repeat' first
    | (with_reducible apply Keep.refl)
    | (show (_ ||| _ : Nat) = _; rfl)
    | (show Nat.testBit _ _ = true; rfl)
    | (with_reducible apply Keep.step keep_wrAll)
    | (with_reducible apply Keep.ite <;> try extract_lets)
    | (split <;> try extract_lets)
    | (dsimp only)

theorem keep_planShown {s : State} {x0} : Keep 0x402 s (State.planShown s x0) := by
  unfold State.planShown
  try extract_lets
  repeat' first
    | (with_reducible apply Keep.refl)
    | (with_reducible apply Keep.step keep_showUse)
    | (show (_ ||| _ : Nat) = _; rfl)
    | (show Nat.testBit _ _ = true; rfl)
    | (with_reducible apply Keep.step keep_wrAll)
    | (with_reducible apply Keep.each <;> try intro s x <;> try extract_lets)
    | (with_reducible apply Keep.win_filter)

theorem keep_glideTo {s : State} {x0} : Keep 0x2 s (State.glideTo s x0) := by
  unfold State.glideTo
  try extract_lets
  repeat' first
    | (with_reducible apply Keep.refl)
    | (show (_ ||| _ : Nat) = _; rfl)
    | (with_reducible apply Keep.step keep_wr)
    | (with_reducible apply Keep.ite <;> try extract_lets)

theorem keep_planIn {s : State} {x0} : Keep 0xa40502 s (State.planIn s x0) := by
  unfold State.planIn
  try extract_lets
  repeat' first
    | (with_reducible apply Keep.refl)
    | (with_reducible apply Keep.step keep_enableUsed)
    | (show (_ ||| _ : Nat) = _; rfl)
    | (show Nat.testBit _ _ = true; rfl)
    | (with_reducible apply Keep.step keep_planShown)
    | (with_reducible apply Keep.step keep_switchStreams)
    | (with_reducible apply Keep.step keep_glideTo)
    | (with_reducible apply Keep.step keep_showForce)
    | (with_reducible apply Keep.step keep_showEff)
    | (with_reducible apply Keep.step keep_startPorts)
    | (with_reducible apply Keep.step keep_showAdmitted)
    | (with_reducible apply Keep.set_eng)

theorem keep_cmdDevelop {s : State} {x0 x1 x2 x3} : Keep 0x80002 s (State.cmdDevelop s x0 x1 x2 x3).st := by
  unfold State.cmdDevelop
  try extract_lets
  repeat' first
    | (with_reducible apply Keep.refl)
    | (show (_ ||| _ : Nat) = _; rfl)
    | (with_reducible apply Keep.step keep_fin)
    | (with_reducible apply Keep.step keep_later)
    | (with_reducible apply Keep.step keep_wr)
    | (with_reducible apply Keep.step keep_setScn)
    | (with_reducible apply Keep.ite_st <;> try extract_lets)

theorem keep_showArmed {s : State} : Keep 0x2 s (State.showArmed s) := by
  unfold State.showArmed
  try extract_lets
  repeat' first
    | (with_reducible apply Keep.refl)
    | (show (_ ||| _ : Nat) = _; rfl)
    | (with_reducible apply Keep.step keep_wr64)
    | (with_reducible apply Keep.step keep_wrAll)
    | (split <;> try extract_lets)

theorem keep_developArmed {s : State} : Keep 0x181882 s (State.developArmed s) := by
  unfold State.developArmed
  try extract_lets
  repeat' first
    | (with_reducible apply Keep.refl)
    | (show (_ ||| _ : Nat) = _; rfl)
    | (with_reducible apply Keep.step keep_journal)
    | (with_reducible apply Keep.step keep_wr)
    | (with_reducible apply Keep.step keep_setScn)
    | (with_reducible apply Keep.step keep_respond)
    | (with_reducible apply Keep.step keep_bump)
    | (with_reducible apply Keep.step keep_showArmed)
    | (with_reducible apply Keep.step keep_armChange)
    | (with_reducible apply Keep.step keep_send)
    | (with_reducible apply Keep.ite <;> try extract_lets)
    | (dsimp only)
    | (split <;> try extract_lets)

theorem keep_releaseHeld {s : State} : Keep 0x81406 s (State.releaseHeld s) := by
  unfold State.releaseHeld
  try extract_lets
  repeat' first
    | (with_reducible apply Keep.refl)
    | (show (_ ||| _ : Nat) = _; rfl)
    | (with_reducible apply Keep.step keep_setScn)
    | (with_reducible apply Keep.step keep_latentStore)
    | (with_reducible apply Keep.step keep_rwsStore)
    | (with_reducible apply Keep.ite <;> try extract_lets)
    | (with_reducible apply Keep.each <;> try intro s x <;> try extract_lets)

theorem keep_cancelArmed {s : State} {x0} : Keep 0x81406 s (State.cancelArmed s x0) := by
  unfold State.cancelArmed
  try extract_lets
  repeat' first
    | (with_reducible apply Keep.refl)
    | (show (_ ||| _ : Nat) = _; rfl)
    | (with_reducible apply Keep.step keep_releaseHeld)
    | (with_reducible apply Keep.step keep_bump)
    | (with_reducible apply Keep.step keep_journal)
    | (with_reducible apply Keep.step keep_showArmed)
    | (with_reducible apply Keep.step keep_setScn)

theorem keep_dropArm {s : State} {x0} : Keep 0x100000 s (State.dropArm s x0) := by
  unfold State.dropArm
  try extract_lets
  repeat' first
    | (with_reducible apply Keep.refl)
    | (show (_ ||| _ : Nat) = _; rfl)
    | (show Nat.testBit _ _ = true; rfl)
    | (with_reducible apply Keep.step keep_setPair)
    | (with_reducible apply Keep.ite <;> try extract_lets)
    | (split <;> try extract_lets)
    | (dsimp only)

theorem keep_cmdCancel {s : State} {x0 x1 x2} : Keep 0x181486 s (State.cmdCancel s x0 x1 x2).st := by
  unfold State.cmdCancel
  try extract_lets
  repeat' first
    | (with_reducible apply Keep.refl)
    | (with_reducible apply Keep.step keep_dropArm)
    | (show (_ ||| _ : Nat) = _; rfl)
    | (with_reducible apply Keep.step keep_fin)
    | (with_reducible apply Keep.step keep_armChange)
    | (with_reducible apply Keep.step keep_cancelArmed)
    | (with_reducible apply Keep.ite_st <;> try extract_lets)
    | (split <;> try extract_lets)

theorem keep_putLines {s : State} {x0} : Keep 0x400 s (State.putLines s x0) := by
  unfold State.putLines
  try extract_lets
  repeat' first
    | (with_reducible apply Keep.refl)
    | (show (_ ||| _ : Nat) = _; rfl)
    | (with_reducible apply Keep.step keep_setWin)
    | (with_reducible apply Keep.each <;> try intro s x <;> try extract_lets)

theorem keep_putRegs {s : State} {x0} : Keep 0x6 s (State.putRegs s x0) := by
  unfold State.putRegs
  try extract_lets
  repeat' first
    | (with_reducible apply Keep.refl)
    | (show (_ ||| _ : Nat) = _; rfl)
    | (with_reducible apply Keep.step keep_setLat)
    | (with_reducible apply Keep.step keep_setReg)
    | (with_reducible apply Keep.each <;> try intro s x <;> try extract_lets)

theorem keep_cleanMarks {s : State} {x0} : Keep 0x80002 s (State.cleanMarks s x0) := by
  unfold State.cleanMarks
  try extract_lets
  repeat' first
    | (with_reducible apply Keep.refl)
    | (show (_ ||| _ : Nat) = _; rfl)
    | (with_reducible apply Keep.step keep_setScn)
    | (with_reducible apply Keep.step keep_showDirty)

theorem keep_commitSet {s : State} {x0} : Keep 0x406 s (State.commitSet s x0) := by
  unfold State.commitSet
  try extract_lets
  repeat' first
    | (with_reducible apply Keep.refl)
    | (show (_ ||| _ : Nat) = _; rfl)
    | (show Nat.testBit _ _ = true; rfl)
    | (with_reducible apply Keep.step keep_putRegs)
    | (with_reducible apply Keep.step keep_putLines)
    | (with_reducible apply Keep.step keep_showEff)
    | (with_reducible apply Keep.ite <;> try extract_lets)
    | (dsimp only)

theorem keep_applySet {s : State} {x0 x1} : Keep 0x40406 s (State.applySet s x0 x1) := by
  unfold State.applySet
  try extract_lets
  repeat' first
    | (with_reducible apply Keep.refl)
    | (with_reducible apply Keep.step keep_commitSet)
    | (show (_ ||| _ : Nat) = _; rfl)
    | (with_reducible apply Keep.step keep_nodesTo)
    | (with_reducible apply Keep.step keep_showEff)
    | (with_reducible apply Keep.step keep_putRegs)
    | (with_reducible apply Keep.step keep_putLines)
    | (with_reducible apply Keep.ite <;> try extract_lets)

theorem keep_rampFromView {s : State} {x0 x1} : Keep 0x40402 s (State.rampFromView s x0 x1) := by
  unfold State.rampFromView
  try extract_lets
  repeat' first
    | (with_reducible apply Keep.refl)
    | (show (_ ||| _ : Nat) = _; rfl)
    | (show Nat.testBit _ _ = true; rfl)
    | (with_reducible apply Keep.step keep_nodesTo)
    | (with_reducible apply Keep.step keep_setWord)
    | (with_reducible apply Keep.ite <;> try extract_lets)
    | (with_reducible apply Keep.each <;> try intro s x <;> try extract_lets)
    | (split <;> try extract_lets)
    | (dsimp only)

theorem keep_applyInsts {s : State} {x0 x1 x2 x3} : Keep 0x41002 s (State.applyInsts s x0 x1 x2 x3) := by
  unfold State.applyInsts
  try extract_lets
  repeat' first
    | (with_reducible apply Keep.refl)
    | (show (_ ||| _ : Nat) = _; rfl)
    | (with_reducible apply Keep.step keep_changeInst)
    | (with_reducible apply Keep.each <;> try intro s x <;> try extract_lets)

theorem keep_takeOver {s : State} : Keep 0x61002 s (State.takeOver s) := by
  unfold State.takeOver
  try extract_lets
  repeat' first
    | (with_reducible apply Keep.refl)
    | (show (_ ||| _ : Nat) = _; rfl)
    | (show Nat.testBit _ _ = true; rfl)
    | (with_reducible apply Keep.step keep_loadCluster)
    | (with_reducible apply Keep.step keep_showDiss)
    | (with_reducible apply Keep.step keep_applyInsts)
    | (with_reducible apply Keep.ite <;> try extract_lets)
    | (with_reducible apply Keep.each <;> try intro s x <;> try extract_lets)
    | (dsimp only)
    | (split <;> try extract_lets)
    | (with_reducible apply Keep.set_eng)

theorem keep_developed {s : State} {x0} : Keep 0x81002 s (State.developed s x0) := by
  unfold State.developed
  try extract_lets
  repeat' first
    | (with_reducible apply Keep.refl)
    | (show (_ ||| _ : Nat) = _; rfl)
    | (with_reducible apply Keep.step keep_wr64)
    | (with_reducible apply Keep.step keep_showArmed)
    | (with_reducible apply Keep.step keep_setScn)
    | (with_reducible apply Keep.step keep_journal)
    | (with_reducible apply Keep.step keep_wr)
    | (with_reducible apply Keep.each <;> try intro s x <;> try extract_lets)

theorem keep_developCommit {s : State} : Keep 0xac1506 s (State.developCommit s) := by
  unfold State.developCommit
  try extract_lets
  repeat' first
    | (with_reducible apply Keep.refl)
    | (with_reducible apply Keep.step keep_commitSet)
    | (with_reducible apply Keep.step keep_enableUsed)
    | (show (_ ||| _ : Nat) = _; rfl)
    | (show Nat.testBit _ _ = true; rfl)
    | (with_reducible apply Keep.step keep_releaseHeld)
    | (with_reducible apply Keep.step keep_showArmed)
    | (with_reducible apply Keep.step keep_setScn)
    | (with_reducible apply Keep.step keep_applySet)
    | (with_reducible apply Keep.step keep_applyInsts)
    | (with_reducible apply Keep.step keep_developed)
    | (with_reducible apply Keep.step keep_cleanMarks)
    | (with_reducible apply Keep.step keep_stopPorts)
    | (with_reducible apply Keep.step keep_wrAll)
    | (with_reducible apply Keep.step keep_planIn)
    | (with_reducible apply Keep.ite <;> try extract_lets)
    | (dsimp only)
    | (split <;> try extract_lets)
    | (with_reducible apply Keep.set_eng)

theorem keep_startPlan {s : State} {x0} : Keep 0xa40506 s (State.startPlan s x0) := by
  unfold State.startPlan
  try extract_lets
  repeat' first
    | (with_reducible apply Keep.refl)
    | (with_reducible apply Keep.step keep_rampFromView)
    | (show (_ ||| _ : Nat) = _; rfl)
    | (show Nat.testBit _ _ = true; rfl)
    | (with_reducible apply Keep.step keep_applySet)
    | (with_reducible apply Keep.step keep_planIn)
    | (with_reducible apply Keep.step keep_endRamps)
    | (with_reducible apply Keep.set_eng)

theorem keep_disruptiveStart {s : State} : Keep 0xa40506 s (State.disruptiveStart s) := by
  unfold State.disruptiveStart
  try extract_lets
  repeat' first
    | (with_reducible apply Keep.refl)
    | (show (_ ||| _ : Nat) = _; rfl)
    | (with_reducible apply Keep.step keep_startPlan)
    | (with_reducible apply Keep.ite <;> try extract_lets)
    | (split <;> try extract_lets)

theorem keep_glideEnd {s : State} : Keep 0x200002 s (State.glideEnd s) := by
  unfold State.glideEnd
  try extract_lets
  repeat' first
    | (with_reducible apply Keep.refl)
    | (with_reducible apply Keep.step keep_preRollEnd)
    | (show (_ ||| _ : Nat) = _; rfl)
    | (with_reducible apply Keep.step keep_wrAll)
    | (with_reducible apply Keep.step keep_setRoll)
    | (with_reducible apply Keep.ite <;> try extract_lets)
    | (with_reducible apply Keep.each <;> try intro s x <;> try extract_lets)

end Sys2Proof.Machine
end

