-- ==== Sys2Proof/Laws/KeepClips.lean ====
section
/-!
SUPPORT. What each operation of Machine/Clips.lean leaves alone (Laws/Keep.lean).
-/
set_option Elab.async false
set_option linter.all false
namespace Sys2Proof.Machine

theorem keep_putClip {s : State} {x0} : Keep 0x40000 s (State.putClip s x0) := by
  unfold State.putClip
  try extract_lets
  repeat' first
    | (with_reducible apply Keep.refl)
    | (show Nat.testBit _ _ = true; rfl)
    | (split <;> try extract_lets)
    | (with_reducible apply Keep.set_eng)

theorem keep_fixStart {s : State} {x0} : Keep 0x40000 s (State.fixStart s x0) := by
  unfold State.fixStart
  try extract_lets
  repeat' first
    | (with_reducible apply Keep.refl)
    | (show Nat.testBit _ _ = true; rfl)
    | (with_reducible apply Keep.set_eng)

theorem keep_cmdClipPlay {s : State} {x0 x1} : Keep 0x140080 s (State.cmdClipPlay s x0 x1).st := by
  unfold State.cmdClipPlay
  try extract_lets
  repeat' first
    | (with_reducible apply Keep.refl)
    | (show (_ ||| _ : Nat) = _; rfl)
    | (with_reducible apply Keep.step keep_fin)
    | (with_reducible apply Keep.step keep_armChange)
    | (with_reducible apply Keep.step keep_fixStart)
    | (with_reducible apply Keep.ite_st <;> try extract_lets)

theorem keep_startClip {s : State} {x0} : Keep 0xc1402 s (State.startClip s x0) := by
  unfold State.startClip
  split
  · exact Keep.refl
  · dsimp only
    split
    · exact Keep.set_eng Keep.refl rfl
    · exact Keep.set_eng (Keep.step keep_applyPreset rfl Keep.refl) rfl

theorem keep_takeStarts {s : State} : Keep 0x40000 s (State.takeStarts s) := by
  unfold State.takeStarts
  try extract_lets
  repeat' first
    | (with_reducible apply Keep.refl)
    | (show Nat.testBit _ _ = true; rfl)
    | (with_reducible apply Keep.each <;> try intro s x <;> try extract_lets)
    | (with_reducible apply Keep.set_eng)

theorem keep_clipEnd {s : State} {x0} : Keep 0x40000 s (State.clipEnd s x0) := by
  unfold State.clipEnd
  try extract_lets
  repeat' first
    | (with_reducible apply Keep.refl)
    | (show Nat.testBit _ _ = true; rfl)
    | (with_reducible apply Keep.ite <;> try extract_lets)
    | (dsimp only)
    | (split <;> try extract_lets)
    | (with_reducible apply Keep.set_eng)

theorem keep_setTrig {s : State} {x0 x1} : Keep 0x40000 s (State.setTrig s x0 x1) := by
  unfold State.setTrig
  try extract_lets
  repeat' first
    | (with_reducible apply Keep.refl)
    | (show Nat.testBit _ _ = true; rfl)
    | (with_reducible apply Keep.set_eng)

theorem keep_setInputBit {s : State} {x0 x1 x2} : Keep 0x2 s (State.setInputBit s x0 x1 x2) := by
  unfold State.setInputBit
  try extract_lets
  repeat' first
    | (with_reducible apply Keep.refl)
    | (show (_ ||| _ : Nat) = _; rfl)
    | (with_reducible apply Keep.step keep_wr)

theorem keep_sampleInput {s : State} {x0 x1 x2} : Keep 0x40002 s (State.sampleInput s x0 x1 x2) := by
  unfold State.sampleInput
  try extract_lets
  repeat' first
    | (with_reducible apply Keep.refl)
    | (show (_ ||| _ : Nat) = _; rfl)
    | (with_reducible apply Keep.step keep_setInputBit)
    | (with_reducible apply Keep.step keep_setTrig)
    | (with_reducible apply Keep.ite <;> try extract_lets)

theorem keep_sampleTriggers {s : State} {x0 x1} : Keep 0x40002 s (State.sampleTriggers s x0 x1) := by
  unfold State.sampleTriggers
  try extract_lets
  repeat' first
    | (with_reducible apply Keep.refl)
    | (show (_ ||| _ : Nat) = _; rfl)
    | (with_reducible apply Keep.step keep_sampleInput)
    | (with_reducible apply Keep.each <;> try intro s x <;> try extract_lets)

theorem keep_inputTo {s : State} {x0 x1} : Keep 0x140082 s (State.inputTo s x0 x1) := by
  unfold State.inputTo
  try extract_lets
  repeat' first
    | (with_reducible apply Keep.refl)
    | (show (_ ||| _ : Nat) = _; rfl)
    | (show Nat.testBit _ _ = true; rfl)
    | (with_reducible apply Keep.step keep_setInputBit)
    | (with_reducible apply Keep.step keep_setTrig)
    | (with_reducible apply Keep.step keep_bump)
    | (with_reducible apply Keep.step keep_armChange)
    | (with_reducible apply Keep.ite <;> try extract_lets)
    | (dsimp +zetaDelta only; split <;> try extract_lets)
    | (with_reducible apply Keep.set_eng)

theorem keep_trigDetect {s : State} {x0} : Keep 0x140082 s (State.trigDetect s x0) := by
  unfold State.trigDetect
  try extract_lets
  repeat' first
    | (with_reducible apply Keep.refl)
    | (show (_ ||| _ : Nat) = _; rfl)
    | (with_reducible apply Keep.step keep_inputTo)
    | (with_reducible apply Keep.ite <;> try extract_lets)

theorem keep_lineFault {s : State} {x0} : Keep 0x141082 s (State.lineFault s x0) := by
  unfold State.lineFault
  try extract_lets
  repeat' first
    | (with_reducible apply Keep.refl)
    | (show (_ ||| _ : Nat) = _; rfl)
    | (with_reducible apply Keep.step keep_source)
    | (with_reducible apply Keep.step keep_setInputBit)
    | (with_reducible apply Keep.step keep_setTrig)
    | (with_reducible apply Keep.step keep_inputTo)
    | (with_reducible apply Keep.ite <;> try extract_lets)

theorem keep_lineClear {s : State} {x0} : Keep 0x141082 s (State.lineClear s x0) := by
  unfold State.lineClear
  try extract_lets
  repeat' first
    | (with_reducible apply Keep.refl)
    | (show (_ ||| _ : Nat) = _; rfl)
    | (with_reducible apply Keep.step keep_inputTo)
    | (with_reducible apply Keep.step keep_source)
    | (with_reducible apply Keep.step keep_setInputBit)
    | (with_reducible apply Keep.step keep_setTrig)
    | (with_reducible apply Keep.ite <;> try extract_lets)

theorem keep_entryOn {s : State} {x0 x1} : Keep 0xc1402 s (State.entryOn s x0 x1) := by
  unfold State.entryOn
  try extract_lets
  repeat' first
    | (with_reducible apply Keep.refl)
    | (show (_ ||| _ : Nat) = _; rfl)
    | (show Nat.testBit _ _ = true; rfl)
    | (with_reducible apply Keep.step keep_actionSkip)
    | (with_reducible apply Keep.step keep_fixStart)
    | (with_reducible apply Keep.step keep_applyPreset)
    | (with_reducible apply Keep.step keep_showEff)
    | (with_reducible apply Keep.step keep_showForce)
    | (with_reducible apply Keep.ite <;> try extract_lets)
    | (split <;> try extract_lets)
    | (with_reducible apply Keep.set_eng)

theorem keep_entryOff {s : State} {x0 x1} : Keep 0xc1402 s (State.entryOff s x0 x1) := by
  unfold State.entryOff
  try extract_lets
  repeat' first
    | (with_reducible apply Keep.refl)
    | (show (_ ||| _ : Nat) = _; rfl)
    | (show Nat.testBit _ _ = true; rfl)
    | (with_reducible apply Keep.step keep_actionSkip)
    | (with_reducible apply Keep.step keep_fixStart)
    | (with_reducible apply Keep.step keep_applyPreset)
    | (with_reducible apply Keep.step keep_showEff)
    | (with_reducible apply Keep.step keep_showForce)
    | (with_reducible apply Keep.ite <;> try extract_lets)
    | (split <;> try extract_lets)
    | (with_reducible apply Keep.set_eng)

theorem keep_fireInput {s : State} {x0} : Keep 0xc1402 s (State.fireInput s x0) := by
  unfold State.fireInput
  split
  · exact Keep.refl
  · dsimp only
    split
    · exact Keep.set_eng Keep.refl rfl
    · refine Keep.each (Keep.step keep_setTrig rfl (Keep.step keep_wr64 rfl (Keep.step keep_wr rfl (Keep.set_eng Keep.refl rfl)))) ?_
      intro s x
      exact Keep.ite (Keep.step keep_entryOn rfl Keep.refl) (Keep.step keep_entryOff rfl Keep.refl)

theorem keep_trigFire {s : State} {x0} : Keep 0xac1506 s (State.trigFire s x0) := by
  unfold State.trigFire
  try extract_lets
  repeat' first
    | (with_reducible apply Keep.refl)
    | (with_reducible apply Keep.step keep_fireInput)
    | (with_reducible apply Keep.step keep_developCommit)
    | (show (_ ||| _ : Nat) = _; rfl)
    | (show Nat.testBit _ _ = true; rfl)
    | (with_reducible apply Keep.step keep_setTrig)
    | (with_reducible apply Keep.step keep_wr64)
    | (with_reducible apply Keep.step keep_wr)
    | (with_reducible apply Keep.step keep_entryOn)
    | (with_reducible apply Keep.step keep_entryOff)
    | (with_reducible apply Keep.ite <;> try extract_lets)
    | (with_reducible apply Keep.each <;> try intro s x <;> try extract_lets)
    | (dsimp only)
    | (split <;> try extract_lets)
    | (with_reducible apply Keep.set_eng)

theorem keep_tickFirings {s : State} : Keep 0xac1506 s (State.tickFirings s) := by
  unfold State.tickFirings
  try extract_lets
  repeat' first
    | (with_reducible apply Keep.refl)
    | (show (_ ||| _ : Nat) = _; rfl)
    | (show Nat.testBit _ _ = true; rfl)
    | (with_reducible apply Keep.step keep_fireInput)
    | (with_reducible apply Keep.step keep_developCommit)
    | (with_reducible apply Keep.ite <;> try extract_lets)
    | (with_reducible apply Keep.each <;> try intro s x <;> try extract_lets)
    | (dsimp only)

theorem keep_clipStart {s : State} {x0} : Keep 0xac1506 s (State.clipStart s x0) := by
  unfold State.clipStart
  try extract_lets
  repeat' first
    | (with_reducible apply Keep.refl)
    | (with_reducible apply Keep.step keep_tickFirings)
    | (with_reducible apply Keep.step keep_startClip)
    | (show (_ ||| _ : Nat) = _; rfl)
    | (show Nat.testBit _ _ = true; rfl)
    | (with_reducible apply Keep.step keep_applyPreset)
    | (with_reducible apply Keep.ite <;> try extract_lets)
    | (dsimp only)
    | (split <;> try extract_lets)
    | (with_reducible apply Keep.set_eng)

theorem keep_fireOnPromotion {s : State} : Keep 0x140080 s (State.fireOnPromotion s) := by
  unfold State.fireOnPromotion
  try extract_lets
  repeat' first
    | (with_reducible apply Keep.refl)
    | (show (_ ||| _ : Nat) = _; rfl)
    | (show Nat.testBit _ _ = true; rfl)
    | (with_reducible apply Keep.step keep_setTrig)
    | (with_reducible apply Keep.step keep_armChange)
    | (with_reducible apply Keep.ite <;> try extract_lets)
    | (with_reducible apply Keep.each <;> try intro s x <;> try extract_lets)
    | (with_reducible apply Keep.set_eng)

theorem keep_setRec {s : State} {x0} : Keep 0x40000 s (State.setRec s x0) := by
  unfold State.setRec
  try extract_lets
  repeat' first
    | (with_reducible apply Keep.refl)
    | (show Nat.testBit _ _ = true; rfl)
    | (with_reducible apply Keep.set_eng)

theorem keep_recCtrl {s : State} {x0} : Keep 0x40000 s (State.recCtrl s x0) := by
  unfold State.recCtrl
  try extract_lets
  repeat' first
    | (with_reducible apply Keep.refl)
    | (show (_ ||| _ : Nat) = _; rfl)
    | (with_reducible apply Keep.step keep_setRec)
    | (with_reducible apply Keep.ite <;> try extract_lets)

theorem keep_recorderFault {s : State} : Keep 0x40000 s (State.recorderFault s) := by
  unfold State.recorderFault
  try extract_lets
  repeat' first
    | (with_reducible apply Keep.refl)
    | (show (_ ||| _ : Nat) = _; rfl)
    | (with_reducible apply Keep.step keep_setRec)
    | (with_reducible apply Keep.ite <;> try extract_lets)
    | (split <;> try extract_lets)

theorem keep_autoFreeze {s : State} : Keep 0x40000 s (State.autoFreeze s) := by
  unfold State.autoFreeze
  try extract_lets
  repeat' first
    | (with_reducible apply Keep.refl)
    | (show (_ ||| _ : Nat) = _; rfl)
    | (with_reducible apply Keep.step keep_setRec)
    | (with_reducible apply Keep.ite <;> try extract_lets)

theorem keep_tapeLate {s : State} {x0} : Keep 0x40100 s (State.tapeLate s x0) := by
  unfold State.tapeLate
  try extract_lets
  repeat' first
    | (with_reducible apply Keep.refl)
    | (show (_ ||| _ : Nat) = _; rfl)
    | (show Nat.testBit _ _ = true; rfl)
    | (with_reducible apply Keep.step keep_setRec)
    | (with_reducible apply Keep.ite <;> try extract_lets)
    | (with_reducible apply Keep.set_free)
    | (with_reducible refine Keep.mk_gen ?_ (fun i hi => by unfold State.samePart; split <;> first | rfl | trivial | exact absurd hi (by decide)))
    | (split <;> try extract_lets)
    | (dsimp only)

theorem keep_recorderTick {s : State} : Keep 0x40100 s (State.recorderTick s) := by
  unfold State.recorderTick
  try extract_lets
  repeat' first
    | (with_reducible apply Keep.refl)
    | (show (_ ||| _ : Nat) = _; rfl)
    | (show Nat.testBit _ _ = true; rfl)
    | (with_reducible apply Keep.step keep_tapeLate)
    | (with_reducible apply Keep.step keep_setRec)
    | (with_reducible apply Keep.ite <;> try extract_lets)
    | (with_reducible apply Keep.each <;> try intro s x <;> try extract_lets)
    | (split <;> try extract_lets)
    | (dsimp only)

theorem keep_drainBuffer {s : State} : Keep 0x41882 s (State.drainBuffer s) := by
  unfold State.drainBuffer
  try extract_lets
  repeat' first
    | (with_reducible apply Keep.refl)
    | (with_reducible apply Keep.step keep_capture)
    | (with_reducible apply Keep.step keep_fillPosted)
    | (with_reducible apply Keep.step keep_failPosted)
    | (with_reducible apply Keep.step keep_finishPosted)
    | (with_reducible apply Keep.step keep_bumpSat)
    | (show (_ ||| _ : Nat) = _; rfl)
    | (with_reducible apply Keep.step keep_setRec)
    | (with_reducible apply Keep.step keep_consume)
    | (with_reducible apply Keep.step keep_countIrq)
    | (with_reducible apply Keep.step keep_put)
    | (with_reducible apply Keep.ite <;> try extract_lets)
    | (dsimp only)
    | (split <;> try extract_lets)

theorem keep_meterHold {s : State} {x0 x1} : Keep 0x40000 s (State.meterHold s x0 x1) := by
  unfold State.meterHold
  try extract_lets
  repeat' first
    | (with_reducible apply Keep.refl)
    | (show (_ ||| _ : Nat) = _; rfl)
    | (with_reducible apply Keep.step keep_setInst)
    | (with_reducible apply Keep.ite <;> try extract_lets)
    | (dsimp only)
    | (split <;> try extract_lets)

theorem keep_beginFix {s : State} {x0 x1} : Keep 0x80002 s (State.beginFix s x0 x1) := by
  unfold State.beginFix
  try extract_lets
  repeat' first
    | (with_reducible apply Keep.refl)
    | (show (_ ||| _ : Nat) = _; rfl)
    | (with_reducible apply Keep.step keep_wrAll)
    | (with_reducible apply Keep.step keep_setScn)

theorem keep_cmdFix {s : State} {x0} : Keep 0x180082 s (State.cmdFix s x0).st := by
  unfold State.cmdFix
  try extract_lets
  repeat' first
    | (with_reducible apply Keep.refl)
    | (show (_ ||| _ : Nat) = _; rfl)
    | (with_reducible apply Keep.step keep_fin)
    | (with_reducible apply Keep.step keep_later)
    | (with_reducible apply Keep.step keep_armChange)
    | (with_reducible apply Keep.step keep_beginFix)
    | (with_reducible apply Keep.ite_st <;> try extract_lets)

theorem keep_fixSnapshot {s : State} : Keep 0xac1506 s (State.fixSnapshot s) := by
  unfold State.fixSnapshot
  try extract_lets
  repeat' first
    | (with_reducible apply Keep.refl)
    | (show (_ ||| _ : Nat) = _; rfl)
    | (show Nat.testBit _ _ = true; rfl)
    | (with_reducible apply Keep.step keep_tickFirings)
    | (with_reducible apply Keep.step keep_startClip)
    | (with_reducible apply Keep.step keep_setScn)
    | (with_reducible apply Keep.step keep_wr)
    | (with_reducible apply Keep.ite <;> try extract_lets)
    | (with_reducible apply Keep.each <;> try intro s x <;> try extract_lets)
    | (split <;> try extract_lets)
    | (dsimp only)

theorem keep_fixCheck {s : State} : Keep 0x81882 s (State.fixCheck s) := by
  unfold State.fixCheck
  try extract_lets
  repeat' first
    | (with_reducible apply Keep.refl)
    | (show (_ ||| _ : Nat) = _; rfl)
    | (with_reducible apply Keep.step keep_setScn)
    | (with_reducible apply Keep.step keep_respond)
    | (with_reducible apply Keep.step keep_pulse)
    | (with_reducible apply Keep.ite <;> try extract_lets)
    | (split <;> try extract_lets)

theorem keep_fixDone {s : State} {x0} : Keep 0x181882 s (State.fixDone s x0) := by
  unfold State.fixDone
  try extract_lets
  repeat' first
    | (with_reducible apply Keep.refl)
    | (show (_ ||| _ : Nat) = _; rfl)
    | (with_reducible apply Keep.step keep_wrAll)
    | (with_reducible apply Keep.step keep_setScn)
    | (with_reducible apply Keep.step keep_fixCheck)
    | (with_reducible apply Keep.step keep_pulse)
    | (with_reducible apply Keep.step keep_sendReliable)
    | (with_reducible apply Keep.ite <;> try extract_lets)
    | (split <;> try extract_lets)

theorem keep_showSlot {s : State} : Keep 0x1002 s (State.showSlot s) := by
  unfold State.showSlot
  try extract_lets
  repeat' first
    | (with_reducible apply Keep.refl)
    | (show (_ ||| _ : Nat) = _; rfl)
    | (with_reducible apply Keep.step keep_showJournal)
    | (with_reducible apply Keep.step keep_wr64)
    | (with_reducible apply Keep.step keep_wrAll)

theorem keep_fixPhase {s : State} {x0} : Keep 0x181882 s (State.fixPhase s x0) := by
  unfold State.fixPhase
  try extract_lets
  repeat' first
    | (with_reducible apply Keep.refl)
    | (show (_ ||| _ : Nat) = _; rfl)
    | (with_reducible apply Keep.step keep_fixDone)
    | (with_reducible apply Keep.step keep_wr)
    | (with_reducible apply Keep.step keep_setSlot)
    | (with_reducible apply Keep.step keep_wrAll)
    | (with_reducible apply Keep.step keep_showSlot)
    | (with_reducible apply Keep.step keep_setScn)
    | (with_reducible apply Keep.ite <;> try extract_lets)
    | (dsimp only)
    | (split <;> try extract_lets)

end Sys2Proof.Machine
end

