-- ==== Sys2Proof/Laws/KeepPairRole.lean ====
section
/-!
SUPPORT. What each operation of Machine/PairRole.lean leaves alone (Laws/Keep.lean).
-/
set_option Elab.async false
set_option linter.all false
namespace Sys2Proof.Machine

theorem keep_claimUpdate {s : State} : Keep 0x100002 s (State.claimUpdate s) := by
  unfold State.claimUpdate
  try extract_lets
  repeat' first
    | (with_reducible apply Keep.refl)
    | (show (_ ||| _ : Nat) = _; rfl)
    | (with_reducible apply Keep.step keep_setPair)
    | (with_reducible apply Keep.step keep_wr)
    | (with_reducible apply Keep.step keep_showClaim)
    | (with_reducible apply Keep.ite <;> try extract_lets)

theorem keep_promote {s : State} {x0 x1} : Keep 0x1143882 s (State.promote s x0 x1) := by
  unfold State.promote
  try extract_lets
  repeat' first
    | (with_reducible apply Keep.refl)
    | (show (_ ||| _ : Nat) = _; rfl)
    | (with_reducible apply Keep.step keep_setPair)
    | (with_reducible apply Keep.step keep_bump)
    | (with_reducible apply Keep.step keep_toRole)
    | (with_reducible apply Keep.step keep_pulse)
    | (with_reducible apply Keep.step keep_showClaim)
    | (with_reducible apply Keep.step keep_fireOnPromotion)
    | (with_reducible apply Keep.step keep_refRole)
    | (with_reducible apply Keep.ite <;> try extract_lets)

theorem keep_yieldUnit {s : State} {x0} : Keep 0x1103802 s (State.yieldUnit s x0) := by
  unfold State.yieldUnit
  try extract_lets
  repeat' first
    | (with_reducible apply Keep.refl)
    | (show (_ ||| _ : Nat) = _; rfl)
    | (with_reducible apply Keep.step keep_showClaim)
    | (with_reducible apply Keep.step keep_refRole)
    | (with_reducible apply Keep.step keep_toRole)

theorem keep_pairTo {s : State} {x0} : Keep 0x2 s (State.pairTo s x0) := by
  unfold State.pairTo
  try extract_lets
  repeat' first
    | (with_reducible apply Keep.refl)
    | (show (_ ||| _ : Nat) = _; rfl)
    | (with_reducible apply Keep.step keep_wr)

theorem keep_splitCheck {s : State} {x0 x1} : Keep 0x1103802 s (State.splitCheck s x0 x1) := by
  unfold State.splitCheck
  try extract_lets
  repeat' first
    | (with_reducible apply Keep.refl)
    | (show (_ ||| _ : Nat) = _; rfl)
    | (with_reducible apply Keep.step keep_pulse)
    | (with_reducible apply Keep.step keep_yieldUnit)
    | (with_reducible apply Keep.ite <;> try extract_lets)

theorem keep_peerClaim {s : State} {x0} : Keep 0x1103802 s (State.peerClaim s x0) := by
  unfold State.peerClaim
  try extract_lets
  repeat' first
    | (with_reducible apply Keep.refl)
    | (show (_ ||| _ : Nat) = _; rfl)
    | (with_reducible apply Keep.step keep_wr)
    | (with_reducible apply Keep.step keep_seeEpoch)
    | (with_reducible apply Keep.step keep_setPair)
    | (with_reducible apply Keep.step keep_showClaim)
    | (with_reducible apply Keep.step keep_splitCheck)
    | (with_reducible apply Keep.ite <;> try extract_lets)

theorem keep_streamPacketIn {s : State} {x0} : Keep 0x1903802 s (State.streamPacketIn s x0) := by
  unfold State.streamPacketIn
  try extract_lets
  repeat' first
    | (with_reducible apply Keep.refl)
    | (show (_ ||| _ : Nat) = _; rfl)
    | (with_reducible apply Keep.step keep_streamPacket)
    | (with_reducible apply Keep.step keep_splitCheck)
    | (with_reducible apply Keep.step keep_seeEpoch)
    | (with_reducible apply Keep.ite <;> try extract_lets)
    | (split <;> try extract_lets)

theorem keep_sendBulk {s : State} : Keep 0x100080 s (State.sendBulk s) := by
  unfold State.sendBulk
  try extract_lets
  repeat' first
    | (with_reducible apply Keep.refl)
    | (show (_ ||| _ : Nat) = _; rfl)
    | (with_reducible apply Keep.step keep_sendReliable)
    | (with_reducible apply Keep.ite <;> try extract_lets)

theorem keep_transferFrom {s : State} : Keep 0x100182 s (State.transferFrom s) := by
  unfold State.transferFrom
  try extract_lets
  repeat' first
    | (with_reducible apply Keep.refl)
    | (show (_ ||| _ : Nat) = _; rfl)
    | (with_reducible apply Keep.step keep_open_)
    | (with_reducible apply Keep.step keep_sendBulk)
    | (with_reducible apply Keep.step keep_setPair)
    | (with_reducible apply Keep.step keep_wrAll)
    | (with_reducible apply Keep.step keep_pairTo)

theorem keep_resync {s : State} : Keep 0x103982 s (State.resync s) := by
  unfold State.resync
  try extract_lets
  repeat' first
    | (with_reducible apply Keep.refl)
    | (show (_ ||| _ : Nat) = _; rfl)
    | (with_reducible apply Keep.step keep_demote)
    | (with_reducible apply Keep.step keep_transferFrom)
    | (with_reducible apply Keep.step keep_pairTo)
    | (with_reducible apply Keep.ite <;> try extract_lets)

theorem keep_joinDone {s : State} {x0 x1} : Keep 0x101882 s (State.joinDone s x0 x1) := by
  unfold State.joinDone
  try extract_lets
  repeat' first
    | (with_reducible apply Keep.refl)
    | (show (_ ||| _ : Nat) = _; rfl)
    | (with_reducible apply Keep.step keep_setPair)
    | (with_reducible apply Keep.step keep_respond)
    | (split <;> try extract_lets)

end Sys2Proof.Machine
end

