-- ==== Sys2Proof/Laws/KeepEnergy.lean ====
section
/-!
SUPPORT. What each operation of Machine/Energy.lean leaves alone (Laws/Keep.lean).
-/
set_option Elab.async false
set_option linter.all false
namespace Sys2Proof.Machine

theorem keep_setEn {s : State} {x0} : Keep 0x2000000 s (State.setEn s x0) := by
  unfold State.setEn
  try extract_lets
  repeat' first
    | (with_reducible apply Keep.refl)
    | (show Nat.testBit _ _ = true; rfl)
    | (with_reducible apply Keep.set_en)

theorem keep_energyTick {s : State} : Keep 0x2000002 s (State.energyTick s) := by
  unfold State.energyTick
  try extract_lets
  repeat' first
    | (with_reducible apply Keep.refl)
    | (show (_ ||| _ : Nat) = _; rfl)
    | (with_reducible apply Keep.step keep_wrAll)
    | (with_reducible apply Keep.step keep_wr)
    | (with_reducible apply Keep.step keep_setEn)
    | (with_reducible apply Keep.each <;> try intro s x <;> try extract_lets)

theorem keep_pmbusRead {s : State} {x0} : Keep 0x2001002 s (State.pmbusRead s x0) := by
  unfold State.pmbusRead
  try extract_lets
  repeat' first
    | (with_reducible apply Keep.refl)
    | (show (_ ||| _ : Nat) = _; rfl)
    | (with_reducible apply Keep.step keep_setEn)
    | (with_reducible apply Keep.step keep_wrAll)
    | (with_reducible apply Keep.step keep_wr)
    | (with_reducible apply Keep.step keep_source)
    | (with_reducible apply Keep.ite <;> try extract_lets)
    | (with_reducible apply Keep.each <;> try intro s x <;> try extract_lets)
    | (split <;> try extract_lets)

theorem keep_shedStep {s : State} {x0} : Keep 0x2101082 s (State.shedStep s x0) := by
  unfold State.shedStep
  try extract_lets
  repeat' first
    | (with_reducible apply Keep.refl)
    | (show (_ ||| _ : Nat) = _; rfl)
    | (with_reducible apply Keep.step keep_setEn)
    | (with_reducible apply Keep.step keep_armChange)
    | (with_reducible apply Keep.step keep_source)
    | (with_reducible apply Keep.ite <;> try extract_lets)

theorem keep_windowEnd {s : State} : Keep 0x2101082 s (State.windowEnd s) := by
  unfold State.windowEnd
  try extract_lets
  repeat' first
    | (with_reducible apply Keep.refl)
    | (show (_ ||| _ : Nat) = _; rfl)
    | (with_reducible apply Keep.step keep_wrb)
    | (with_reducible apply Keep.step keep_wrAll)
    | (with_reducible apply Keep.step keep_setEn)
    | (with_reducible apply Keep.step keep_source)
    | (with_reducible apply Keep.step keep_shedStep)
    | (with_reducible apply Keep.ite <;> try extract_lets)

theorem keep_shedCommit {s : State} : Keep 0x2401002 s (State.shedCommit s) := by
  unfold State.shedCommit
  try extract_lets
  repeat' first
    | (with_reducible apply Keep.refl)
    | (show (_ ||| _ : Nat) = _; rfl)
    | (show Nat.testBit _ _ = true; rfl)
    | (with_reducible apply Keep.step keep_setEn)
    | (with_reducible apply Keep.step keep_source)
    | (with_reducible apply Keep.step keep_bump)
    | (with_reducible apply Keep.step keep_wr)
    | (with_reducible apply Keep.ite <;> try extract_lets)
    | (dsimp only)
    | (split <;> try extract_lets)
    | (with_reducible apply Keep.set_sl)

theorem keep_restInst {s : State} {x0} : Keep 0x60000 s (State.restInst s x0) := by
  unfold State.restInst
  try extract_lets
  repeat' first
    | (with_reducible apply Keep.refl)
    | (with_reducible apply Keep.step keep_kernelRest)
    | (show (_ ||| _ : Nat) = _; rfl)
    | (with_reducible apply Keep.step keep_setInst)
    | (split <;> try extract_lets)

theorem keep_takeShed {s : State} : Keep 0x2060000 s (State.takeShed s) := by
  unfold State.takeShed
  try extract_lets
  repeat' first
    | (with_reducible apply Keep.refl)
    | (show (_ ||| _ : Nat) = _; rfl)
    | (show Nat.testBit _ _ = true; rfl)
    | (with_reducible apply Keep.step keep_setEn)
    | (with_reducible apply Keep.step keep_restInst)
    | (with_reducible apply Keep.ite <;> try extract_lets)
    | (with_reducible apply Keep.each <;> try intro s x <;> try extract_lets)
    | (dsimp only)
    | (split <;> try extract_lets)
    | (with_reducible apply Keep.set_eng)

theorem keep_silence {s : State} : Keep 0x2000002 s (State.silence s) := by
  unfold State.silence
  try extract_lets
  repeat' first
    | (with_reducible apply Keep.refl)
    | (show (_ ||| _ : Nat) = _; rfl)
    | (with_reducible apply Keep.step keep_setEn)
    | (with_reducible apply Keep.step keep_setBitArr)
    | (with_reducible apply Keep.ite <;> try extract_lets)
    | (with_reducible apply Keep.each <;> try intro s x <;> try extract_lets)

theorem keep_gate {s : State} {x0} : Keep 0x2 s (State.gate s x0) := by
  unfold State.gate
  try extract_lets
  repeat' first
    | (with_reducible apply Keep.refl)
    | (show (_ ||| _ : Nat) = _; rfl)
    | (with_reducible apply Keep.step keep_bump)
    | (with_reducible apply Keep.step keep_wr)
    | (with_reducible apply Keep.ite <;> try extract_lets)

theorem keep_groupIdles {s : State} {x0} : Keep 0x2 s (State.groupIdles s x0) := by
  unfold State.groupIdles
  try extract_lets
  repeat' first
    | (with_reducible apply Keep.refl)
    | (show (_ ||| _ : Nat) = _; rfl)
    | (with_reducible apply Keep.step keep_setBitArr)
    | (with_reducible apply Keep.step keep_gate)
    | (with_reducible apply Keep.ite <;> try extract_lets)
    | (with_reducible apply Keep.each <;> try intro s x <;> try extract_lets)

theorem keep_awake {s : State} {x0} : Keep 0x2 s (State.awake s x0) := by
  unfold State.awake
  try extract_lets
  repeat' first
    | (with_reducible apply Keep.refl)
    | (show (_ ||| _ : Nat) = _; rfl)
    | (show Nat.testBit _ _ = true; rfl)
    | (with_reducible apply Keep.step keep_showUse)
    | (with_reducible apply Keep.step keep_wr)
    | (with_reducible apply Keep.ite <;> try extract_lets)
    | (split <;> try extract_lets)
    | (dsimp only)

theorem keep_wake {s : State} {x0} : Keep 0x2 s (State.wake s x0) := by
  unfold State.wake
  try extract_lets
  repeat' first
    | (with_reducible apply Keep.refl)
    | (with_reducible apply Keep.step keep_awake)
    | (show (_ ||| _ : Nat) = _; rfl)
    | (with_reducible apply Keep.step keep_wr)
    | (with_reducible apply Keep.ite <;> try extract_lets)

theorem keep_reloaded {s : State} {x0 x1} : Keep 0x61102 s (State.reloaded s x0 x1) := by
  unfold State.reloaded
  try extract_lets
  repeat' first
    | (with_reducible apply Keep.refl)
    | (with_reducible apply Keep.step keep_awake)
    | (with_reducible apply Keep.step keep_wr)
    | (show (_ ||| _ : Nat) = _; rfl)
    | (with_reducible apply Keep.step keep_wrAll)
    | (with_reducible apply Keep.step keep_pulse)
    | (with_reducible apply Keep.step keep_dramDouble)
    | (with_reducible apply Keep.step keep_open_)
    | (with_reducible apply Keep.step keep_restInst)
    | (with_reducible apply Keep.ite <;> try extract_lets)
    | (with_reducible apply Keep.each <;> try intro s x <;> try extract_lets)

theorem keep_capWrite {s : State} {x0} : Keep 0x81002 s (State.capWrite s x0) := by
  unfold State.capWrite
  try extract_lets
  repeat' first
    | (with_reducible apply Keep.refl)
    | (show (_ ||| _ : Nat) = _; rfl)
    | (with_reducible apply Keep.step keep_pulse)
    | (with_reducible apply Keep.step keep_journal)
    | (with_reducible apply Keep.step keep_wr)
    | (with_reducible apply Keep.ite <;> try extract_lets)

end Sys2Proof.Machine
end

