-- ==== Sys2Proof/Laws/KeepFaults.lean ====
section
/-!
SUPPORT. What each operation of Machine/Faults.lean leaves alone (Laws/Keep.lean).
-/
set_option Elab.async false
set_option linter.all false
namespace Sys2Proof.Machine

theorem keep_setFlt {s : State} {x0} : Keep 0x1000 s (State.setFlt s x0) := by
  unfold State.setFlt
  try extract_lets
  repeat' first
    | (with_reducible apply Keep.refl)
    | (show Nat.testBit _ _ = true; rfl)
    | (with_reducible apply Keep.set_flt)

theorem keep_showFaults {s : State} : Keep 0x2 s (State.showFaults s) := by
  unfold State.showFaults
  try extract_lets
  repeat' first
    | (with_reducible apply Keep.refl)
    | (show (_ ||| _ : Nat) = _; rfl)
    | (with_reducible apply Keep.step keep_wrAll)
    | (with_reducible apply Keep.step keep_wr)
    | (with_reducible apply Keep.step keep_setReg)
    | (with_reducible apply Keep.each <;> try intro s x <;> try extract_lets)
    | (split <;> try extract_lets)

theorem keep_topCapture {s : State} {x0} : Keep 0x2 s (State.topCapture s x0) := by
  unfold State.topCapture
  try extract_lets
  repeat' first
    | (with_reducible apply Keep.refl)
    | (show (_ ||| _ : Nat) = _; rfl)
    | (with_reducible apply Keep.step keep_wrAll)
    | (with_reducible apply Keep.step keep_setReg)
    | (split <;> try extract_lets)

theorem keep_faultRecord {s : State} {x0 x1 x2 x3 x4 x5 x6} : Keep 0x3802 s (State.faultRecord s x0 x1 x2 x3 x4 x5 x6) := by
  unfold State.faultRecord
  try extract_lets
  repeat' first
    | (with_reducible apply Keep.refl)
    | (show (_ ||| _ : Nat) = _; rfl)
    | (with_reducible apply Keep.step keep_record)

theorem keep_f4Action {s : State} : Keep 0x1143802 s (State.f4Action s) := by
  unfold State.f4Action
  try extract_lets
  repeat' first
    | (with_reducible apply Keep.refl)
    | (show (_ ||| _ : Nat) = _; rfl)
    | (show Nat.testBit _ _ = true; rfl)
    | (with_reducible apply Keep.step keep_yieldUnit)
    | (with_reducible apply Keep.step keep_setPair)
    | (with_reducible apply Keep.step keep_bump)
    | (with_reducible apply Keep.step keep_showClaim)
    | (with_reducible apply Keep.step keep_wr)
    | (with_reducible apply Keep.ite <;> try extract_lets)
    | (with_reducible apply Keep.set_eng)

theorem keep_reached {s : State} {x0} : Keep 0x1143802 s (State.reached s x0) := by
  unfold State.reached
  try extract_lets
  repeat' first
    | (with_reducible apply Keep.refl)
    | (show (_ ||| _ : Nat) = _; rfl)
    | (with_reducible apply Keep.step keep_faultRecord)
    | (with_reducible apply Keep.step keep_f4Action)
    | (with_reducible apply Keep.ite <;> try extract_lets)

theorem keep_openEntry {s : State} {x0 x1 x2} : Keep 0x1143802 s (State.openEntry s x0 x1 x2) := by
  unfold State.openEntry
  try extract_lets
  repeat' first
    | (with_reducible apply Keep.refl)
    | (show (_ ||| _ : Nat) = _; rfl)
    | (with_reducible apply Keep.step keep_showFaults)
    | (with_reducible apply Keep.step keep_setFlt)
    | (with_reducible apply Keep.step keep_bump)
    | (with_reducible apply Keep.step keep_reached)
    | (with_reducible apply Keep.step keep_faultRecord)
    | (with_reducible apply Keep.ite <;> try extract_lets)

theorem keep_notice {s : State} {x0 x1 x2} : Keep 0x3802 s (State.notice s x0 x1 x2) := by
  unfold State.notice
  try extract_lets
  repeat' first
    | (with_reducible apply Keep.refl)
    | (show (_ ||| _ : Nat) = _; rfl)
    | (with_reducible apply Keep.step keep_setFlt)
    | (with_reducible apply Keep.step keep_faultRecord)
    | (with_reducible apply Keep.ite <;> try extract_lets)
    | (split <;> try extract_lets)

theorem keep_collect {s : State} : Keep 0x1143882 s (State.collect s) := by
  unfold State.collect
  try extract_lets
  repeat' first
    | (with_reducible apply Keep.refl)
    | (show (_ ||| _ : Nat) = _; rfl)
    | (with_reducible apply Keep.step keep_setFlt)
    | (with_reducible apply Keep.step keep_sendVec)
    | (with_reducible apply Keep.step keep_recorderFault)
    | (with_reducible apply Keep.step keep_notice)
    | (with_reducible apply Keep.step keep_openEntry)
    | (with_reducible apply Keep.ite <;> try extract_lets)
    | (dsimp only)
    | (split <;> try extract_lets)

theorem keep_timerExpiry {s : State} {x0 x1} : Keep 0x1143802 s (State.timerExpiry s x0 x1) := by
  unfold State.timerExpiry
  try extract_lets
  repeat' first
    | (with_reducible apply Keep.refl)
    | (show (_ ||| _ : Nat) = _; rfl)
    | (with_reducible apply Keep.step keep_openEntry)
    | (with_reducible apply Keep.step keep_faultRecord)
    | (with_reducible apply Keep.step keep_bump)
    | (with_reducible apply Keep.step keep_yieldUnit)
    | (with_reducible apply Keep.ite <;> try extract_lets)
    | (dsimp only)
    | (split <;> try extract_lets)

theorem keep_closeEntry {s : State} {x0 x1} : Keep 0x3802 s (State.closeEntry s x0 x1) := by
  unfold State.closeEntry
  try extract_lets
  repeat' first
    | (with_reducible apply Keep.refl)
    | (show (_ ||| _ : Nat) = _; rfl)
    | (with_reducible apply Keep.step keep_faultRecord)
    | (with_reducible apply Keep.step keep_showFaults)
    | (with_reducible apply Keep.step keep_setFlt)

theorem keep_ack {s : State} {x0 x1 x2} : Keep 0x3802 s (State.ack s x0 x1 x2) := by
  unfold State.ack
  try extract_lets
  repeat' first
    | (with_reducible apply Keep.refl)
    | (show (_ ||| _ : Nat) = _; rfl)
    | (with_reducible apply Keep.step keep_closeEntry)
    | (with_reducible apply Keep.step keep_pulse)
    | (with_reducible apply Keep.ite <;> try extract_lets)
    | (split <;> try extract_lets)

theorem keep_autoAck {s : State} {x0 x1} : Keep 0x3802 s (State.autoAck s x0 x1) := by
  unfold State.autoAck
  try extract_lets
  repeat' first
    | (with_reducible apply Keep.refl)
    | (show (_ ||| _ : Nat) = _; rfl)
    | (with_reducible apply Keep.step keep_closeEntry)
    | (with_reducible apply Keep.ite <;> try extract_lets)
    | (split <;> try extract_lets)

theorem keep_collectorFault {s : State} : Keep 0x1143802 s (State.collectorFault s) := by
  unfold State.collectorFault
  try extract_lets
  repeat' first
    | (with_reducible apply Keep.refl)
    | (show (_ ||| _ : Nat) = _; rfl)
    | (with_reducible apply Keep.step keep_f4Action)
    | (with_reducible apply Keep.step keep_pulse)

theorem keep_railBroken {s : State} {x0 x1} : Keep 0x1002 s (State.railBroken s x0 x1) := by
  unfold State.railBroken
  try extract_lets
  repeat' first
    | (with_reducible apply Keep.refl)
    | (show (_ ||| _ : Nat) = _; rfl)
    | (with_reducible apply Keep.step keep_setFlt)
    | (with_reducible apply Keep.step keep_pulse)
    | (with_reducible apply Keep.step keep_wrAll)
    | (with_reducible apply Keep.step keep_bump)
    | (with_reducible apply Keep.step keep_wr)
    | (with_reducible apply Keep.ite <;> try extract_lets)
    | (split <;> try extract_lets)

theorem keep_katStart {s : State} : Keep 0x1000 s (State.katStart s) := by
  unfold State.katStart
  try extract_lets
  repeat' first
    | (with_reducible apply Keep.refl)
    | (show (_ ||| _ : Nat) = _; rfl)
    | (with_reducible apply Keep.step keep_setFlt)
    | (with_reducible apply Keep.ite <;> try extract_lets)

theorem keep_katSettle {s : State} : Keep 0x1103982 s (State.katSettle s) := by
  unfold State.katSettle
  try extract_lets
  repeat' first
    | (with_reducible apply Keep.refl)
    | (show (_ ||| _ : Nat) = _; rfl)
    | (with_reducible apply Keep.step keep_yieldUnit)
    | (with_reducible apply Keep.step keep_setPair)
    | (with_reducible apply Keep.step keep_resync)
    | (with_reducible apply Keep.ite <;> try extract_lets)
    | (split <;> try extract_lets)

theorem keep_katCall {s : State} : Keep 0x101000 s (State.katCall s) := by
  unfold State.katCall
  try extract_lets
  repeat' first
    | (with_reducible apply Keep.refl)
    | (show (_ ||| _ : Nat) = _; rfl)
    | (with_reducible apply Keep.step keep_setPair)
    | (with_reducible apply Keep.step keep_setFlt)
    | (with_reducible apply Keep.ite <;> try extract_lets)

theorem keep_katDone {s : State} {x0} : Keep 0x1103982 s (State.katDone s x0) := by
  unfold State.katDone
  try extract_lets
  repeat' first
    | (with_reducible apply Keep.refl)
    | (show (_ ||| _ : Nat) = _; rfl)
    | (with_reducible apply Keep.step keep_setFlt)
    | (with_reducible apply Keep.step keep_bump)
    | (with_reducible apply Keep.step keep_wr)
    | (with_reducible apply Keep.step keep_setPair)
    | (with_reducible apply Keep.step keep_pulse)
    | (with_reducible apply Keep.step keep_katSettle)
    | (with_reducible apply Keep.step keep_sendReliable)
    | (with_reducible apply Keep.ite <;> try extract_lets)

theorem keep_katLate {s : State} : Keep 0x1002 s (State.katLate s) := by
  unfold State.katLate
  try extract_lets
  repeat' first
    | (with_reducible apply Keep.refl)
    | (show (_ ||| _ : Nat) = _; rfl)
    | (with_reducible apply Keep.step keep_pulse)
    | (with_reducible apply Keep.step keep_bump)
    | (with_reducible apply Keep.ite <;> try extract_lets)

theorem keep_flipCluster {s : State} {x0 x1} : Keep 0x20000 s (State.flipCluster s x0 x1) := by
  unfold State.flipCluster
  try extract_lets
  repeat' first
    | (with_reducible apply Keep.refl)
    | (show (_ ||| _ : Nat) = _; rfl)
    | (show Nat.testBit _ _ = true; rfl)
    | (with_reducible apply Keep.ite <;> try extract_lets)
    | (with_reducible apply Keep.set_clusters)
    | (with_reducible refine Keep.mk_gen ?_ (fun i hi => by unfold State.samePart; split <;> first | rfl | trivial | exact absurd hi (by decide)))
    | (split <;> try extract_lets)
    | (dsimp only)

theorem keep_inject {s : State} {x0 x1 x2} : Keep 0x1163802 s (State.inject s x0 x1 x2) := by
  have h1 : ∀ l, Keep 0x1163802 s (s.wrAll l) := fun l => Keep.step keep_wrAll rfl Keep.refl
  unfold State.inject
  refine Keep.ite Keep.refl (Keep.ite (h1 _) (Keep.ite Keep.refl ?_))
  dsimp only
  generalize hs : s.wrAll _ = s1
  have hk : Keep 0x1163802 s s1 := hs ▸ h1 _
  clear hs
  split <;> repeat' first
    | exact hk
    | (show (_ ||| _ : Nat) = _; rfl)
    | (with_reducible apply Keep.ite)
    | (with_reducible apply Keep.step keep_wr)
    | (with_reducible apply Keep.step keep_edge)
    | (with_reducible apply Keep.step keep_flipCluster)
    | (with_reducible apply Keep.step keep_railBroken)
    | (with_reducible apply Keep.step keep_setFlt)
    | (with_reducible apply Keep.step keep_collectorFault)


theorem keep_injectEnd {s : State} : Keep 0x21002 s (State.injectEnd s) := by
  unfold State.injectEnd
  try extract_lets
  repeat' first
    | (with_reducible apply Keep.refl)
    | (show (_ ||| _ : Nat) = _; rfl)
    | (show Nat.testBit _ _ = true; rfl)
    | (with_reducible apply Keep.step keep_setReg)
    | (with_reducible apply Keep.ite <;> try extract_lets)
    | (with_reducible apply Keep.set_flt)
    | (with_reducible apply Keep.set_clusters)
    | (with_reducible refine Keep.mk_gen ?_ (fun i hi => by unfold State.samePart; split <;> first | rfl | trivial | exact absurd hi (by decide)))
    | (split <;> try extract_lets)
    | (dsimp only)

end Sys2Proof.Machine
end

