-- ==== Sys2Proof/Laws/KeepLanes.lean ====
section
/-!
SUPPORT. What each operation of Machine/Lanes.lean leaves alone (Laws/Keep.lean).
-/
set_option Elab.async false
set_option linter.all false
namespace Sys2Proof.Machine

theorem keep_laneWr {s : State} {x0 x1 x2} : Keep 0x2 s (State.laneWr s x0 x1 x2) := by
  unfold State.laneWr
  try extract_lets
  repeat' first
    | (with_reducible apply Keep.refl)
    | (show (_ ||| _ : Nat) = _; rfl)
    | (with_reducible apply Keep.step keep_wr)

theorem keep_setLane {s : State} {x0 x1} : Keep 0x800000 s (State.setLane s x0 x1) := by
  unfold State.setLane
  try extract_lets
  repeat' first
    | (with_reducible apply Keep.refl)
    | (show (_ ||| _ : Nat) = _; rfl)
    | (with_reducible apply Keep.step keep_setNet)

theorem keep_ownerDown {s : State} {x0} : Keep 0x1002 s (State.ownerDown s x0) := by
  unfold State.ownerDown
  try extract_lets
  repeat' first
    | (with_reducible apply Keep.refl)
    | (show (_ ||| _ : Nat) = _; rfl)
    | (with_reducible apply Keep.step keep_macLink)
    | (with_reducible apply Keep.step keep_wrAll)
    | (with_reducible apply Keep.ite <;> try extract_lets)

theorem keep_laneRest {s : State} {x0 x1} : Keep 0x1002 s (State.laneRest s x0 x1) := by
  unfold State.laneRest
  try extract_lets
  repeat' first
    | (with_reducible apply Keep.refl)
    | (show (_ ||| _ : Nat) = _; rfl)
    | (with_reducible apply Keep.step keep_ownerDown)
    | (with_reducible apply Keep.step keep_wrAll)
    | (with_reducible apply Keep.ite <;> try extract_lets)

theorem keep_laneRequest {s : State} {x0} : Keep 0x1002 s (State.laneRequest s x0) := by
  unfold State.laneRequest
  try extract_lets
  repeat' first
    | (with_reducible apply Keep.refl)
    | (show (_ ||| _ : Nat) = _; rfl)
    | (with_reducible apply Keep.step keep_laneWr)
    | (with_reducible apply Keep.step keep_laneRest)
    | (with_reducible apply Keep.step keep_wrAll)
    | (with_reducible apply Keep.ite <;> try extract_lets)

theorem keep_lanesTick {s : State} : Keep 0x1002 s (State.lanesTick s) := by
  unfold State.lanesTick
  try extract_lets
  repeat' first
    | (with_reducible apply Keep.refl)
    | (show (_ ||| _ : Nat) = _; rfl)
    | (with_reducible apply Keep.step keep_laneRequest)
    | (with_reducible apply Keep.each <;> try intro s x <;> try extract_lets)

theorem keep_lanePll {s : State} {x0} : Keep 0x82 s (State.lanePll s x0) := by
  unfold State.lanePll
  try extract_lets
  repeat' first
    | (with_reducible apply Keep.refl)
    | (show (_ ||| _ : Nat) = _; rfl)
    | (with_reducible apply Keep.step keep_put)
    | (with_reducible apply Keep.step keep_laneWr)
    | (with_reducible apply Keep.ite <;> try extract_lets)

theorem keep_laneSignal {s : State} {x0} : Keep 0x2 s (State.laneSignal s x0) := by
  unfold State.laneSignal
  try extract_lets
  repeat' first
    | (with_reducible apply Keep.refl)
    | (show (_ ||| _ : Nat) = _; rfl)
    | (with_reducible apply Keep.step keep_wrAll)
    | (with_reducible apply Keep.ite <;> try extract_lets)

theorem keep_laneCdr {s : State} {x0} : Keep 0x800002 s (State.laneCdr s x0) := by
  unfold State.laneCdr
  try extract_lets
  repeat' first
    | (with_reducible apply Keep.refl)
    | (show (_ ||| _ : Nat) = _; rfl)
    | (with_reducible apply Keep.step keep_setLane)
    | (with_reducible apply Keep.step keep_wrAll)
    | (with_reducible apply Keep.step keep_laneWr)
    | (with_reducible apply Keep.ite <;> try extract_lets)

theorem keep_showEye {s : State} {x0 x1 x2} : Keep 0x2 s (State.showEye s x0 x1 x2) := by
  unfold State.showEye
  try extract_lets
  repeat' first
    | (with_reducible apply Keep.refl)
    | (show (_ ||| _ : Nat) = _; rfl)
    | (with_reducible apply Keep.step keep_wrAll)

theorem keep_laneDetect {s : State} {x0} : Keep 0x2 s (State.laneDetect s x0) := by
  unfold State.laneDetect
  try extract_lets
  repeat' first
    | (with_reducible apply Keep.refl)
    | (show (_ ||| _ : Nat) = _; rfl)
    | (with_reducible apply Keep.step keep_wrAll)

theorem keep_laneAdapt {s : State} {x0 x1 x2 x3 x4} : Keep 0x801002 s (State.laneAdapt s x0 x1 x2 x3 x4) := by
  unfold State.laneAdapt
  try extract_lets
  repeat' first
    | (with_reducible apply Keep.refl)
    | (show (_ ||| _ : Nat) = _; rfl)
    | (with_reducible apply Keep.step keep_wrAll)
    | (with_reducible apply Keep.step keep_showEye)
    | (with_reducible apply Keep.step keep_laneWr)
    | (with_reducible apply Keep.step keep_setLane)
    | (with_reducible apply Keep.step keep_pulse)
    | (with_reducible apply Keep.step keep_bump)
    | (with_reducible apply Keep.step keep_laneDetect)
    | (with_reducible apply Keep.ite <;> try extract_lets)

theorem keep_laneTimeout {s : State} {x0} : Keep 0x2 s (State.laneTimeout s x0) := by
  unfold State.laneTimeout
  try extract_lets
  repeat' first
    | (with_reducible apply Keep.refl)
    | (show (_ ||| _ : Nat) = _; rfl)
    | (with_reducible apply Keep.step keep_bump)
    | (with_reducible apply Keep.step keep_laneDetect)
    | (with_reducible apply Keep.ite <;> try extract_lets)

theorem keep_sendCtrl {s : State} {x0} : Keep 0x100080 s (State.sendCtrl s x0) := by
  unfold State.sendCtrl
  try extract_lets
  repeat' first
    | (with_reducible apply Keep.refl)
    | (show (_ ||| _ : Nat) = _; rfl)
    | (with_reducible apply Keep.step keep_put)
    | (with_reducible apply Keep.step keep_setPair)

theorem keep_sendMarker {s : State} {x0} : Keep 0x180 s (State.sendMarker s x0) := by
  unfold State.sendMarker
  try extract_lets
  repeat' first
    | (with_reducible apply Keep.refl)
    | (show (_ ||| _ : Nat) = _; rfl)
    | (show Nat.testBit _ _ = true; rfl)
    | (with_reducible apply Keep.step keep_put)
    | (with_reducible apply Keep.step keep_open_)
    | (with_reducible apply Keep.ite <;> try extract_lets)
    | (split <;> try extract_lets)
    | (dsimp only)

theorem keep_pbLaneUp {s : State} {x0} : Keep 0x101182 s (State.pbLaneUp s x0) := by
  unfold State.pbLaneUp
  try extract_lets
  repeat' first
    | (with_reducible apply Keep.refl)
    | (with_reducible apply Keep.step keep_sendMarker)
    | (show (_ ||| _ : Nat) = _; rfl)
    | (with_reducible apply Keep.step keep_wrAll)
    | (with_reducible apply Keep.step keep_wr)
    | (with_reducible apply Keep.step keep_source)
    | (with_reducible apply Keep.step keep_sendCtrl)
    | (with_reducible apply Keep.ite <;> try extract_lets)

theorem keep_pbLaneDown {s : State} {x0} : Keep 0x1002 s (State.pbLaneDown s x0) := by
  unfold State.pbLaneDown
  try extract_lets
  repeat' first
    | (with_reducible apply Keep.refl)
    | (show (_ ||| _ : Nat) = _; rfl)
    | (with_reducible apply Keep.step keep_wrAll)
    | (with_reducible apply Keep.step keep_wr)
    | (with_reducible apply Keep.step keep_bump)
    | (with_reducible apply Keep.step keep_source)
    | (with_reducible apply Keep.ite <;> try extract_lets)

theorem keep_laneAligned {s : State} {x0 x1} : Keep 0x901182 s (State.laneAligned s x0 x1) := by
  unfold State.laneAligned
  try extract_lets
  repeat' first
    | (with_reducible apply Keep.refl)
    | (show (_ ||| _ : Nat) = _; rfl)
    | (with_reducible apply Keep.step keep_setLane)
    | (with_reducible apply Keep.step keep_wrAll)
    | (with_reducible apply Keep.step keep_macLink)
    | (with_reducible apply Keep.step keep_pbLaneUp)
    | (with_reducible apply Keep.ite <;> try extract_lets)

theorem keep_laneDown {s : State} {x0 x1} : Keep 0x1002 s (State.laneDown s x0 x1) := by
  unfold State.laneDown
  try extract_lets
  repeat' first
    | (with_reducible apply Keep.refl)
    | (show (_ ||| _ : Nat) = _; rfl)
    | (with_reducible apply Keep.step keep_bump)
    | (with_reducible apply Keep.step keep_wrAll)
    | (with_reducible apply Keep.step keep_laneDetect)
    | (with_reducible apply Keep.step keep_laneWr)
    | (with_reducible apply Keep.step keep_pulse)
    | (with_reducible apply Keep.step keep_source)
    | (with_reducible apply Keep.step keep_macLink)
    | (with_reducible apply Keep.step keep_pbLaneDown)
    | (with_reducible apply Keep.ite <;> try extract_lets)

theorem keep_laneFom {s : State} {x0 x1 x2} : Keep 0x801002 s (State.laneFom s x0 x1 x2) := by
  unfold State.laneFom
  try extract_lets
  repeat' first
    | (with_reducible apply Keep.refl)
    | (show (_ ||| _ : Nat) = _; rfl)
    | (with_reducible apply Keep.step keep_showEye)
    | (with_reducible apply Keep.step keep_setLane)
    | (with_reducible apply Keep.step keep_source)
    | (with_reducible apply Keep.ite <;> try extract_lets)

theorem keep_laneTestWrite {s : State} {x0 x1} : Keep 0x1082 s (State.laneTestWrite s x0 x1) := by
  unfold State.laneTestWrite
  try extract_lets
  repeat' first
    | (with_reducible apply Keep.refl)
    | (show (_ ||| _ : Nat) = _; rfl)
    | (with_reducible apply Keep.step keep_pulse)
    | (with_reducible apply Keep.step keep_wrAll)
    | (with_reducible apply Keep.step keep_put)
    | (with_reducible apply Keep.step keep_laneRequest)
    | (with_reducible apply Keep.ite <;> try extract_lets)

theorem keep_injectBit {s : State} {x0} : Keep 0x2 s (State.injectBit s x0) := by
  unfold State.injectBit
  try extract_lets
  repeat' first
    | (with_reducible apply Keep.refl)
    | (show (_ ||| _ : Nat) = _; rfl)
    | (with_reducible apply Keep.step keep_bump)
    | (with_reducible apply Keep.step keep_bumpSat)
    | (with_reducible apply Keep.ite <;> try extract_lets)

theorem keep_injectPeriodic {s : State} {x0} : Keep 0x2 s (State.injectPeriodic s x0) := by
  unfold State.injectPeriodic
  try extract_lets
  repeat' first
    | (with_reducible apply Keep.refl)
    | (show (_ ||| _ : Nat) = _; rfl)
    | (with_reducible apply Keep.step keep_injectBit)
    | (with_reducible apply Keep.ite <;> try extract_lets)

theorem keep_checkerSync {s : State} {x0 x1 x2 x3} : Keep 0x2 s (State.checkerSync s x0 x1 x2 x3) := by
  unfold State.checkerSync
  try extract_lets
  repeat' first
    | (with_reducible apply Keep.refl)
    | (show (_ ||| _ : Nat) = _; rfl)
    | (with_reducible apply Keep.step keep_laneWr)
    | (with_reducible apply Keep.step keep_wr64)
    | (with_reducible apply Keep.step keep_bumpSat)
    | (with_reducible apply Keep.ite <;> try extract_lets)

theorem keep_pcieUp {s : State} {x0 x1} : Keep 0x2 s (State.pcieUp s x0 x1) := by
  unfold State.pcieUp
  try extract_lets
  repeat' first
    | (with_reducible apply Keep.refl)
    | (show (_ ||| _ : Nat) = _; rfl)
    | (with_reducible apply Keep.step keep_wrAll)
    | (with_reducible apply Keep.ite <;> try extract_lets)
    | (with_reducible apply Keep.each <;> try intro s x <;> try extract_lets)

theorem keep_pcieDown {s : State} : Keep 0x2 s (State.pcieDown s) := by
  unfold State.pcieDown
  try extract_lets
  repeat' first
    | (with_reducible apply Keep.refl)
    | (show (_ ||| _ : Nat) = _; rfl)
    | (with_reducible apply Keep.step keep_wrAll)
    | (with_reducible apply Keep.each <;> try intro s x <;> try extract_lets)

theorem keep_deskew {s : State} {x0 x1 x2} : Keep 0x801002 s (State.deskew s x0 x1 x2) := by
  unfold State.deskew
  try extract_lets
  repeat' first
    | (with_reducible apply Keep.refl)
    | (with_reducible apply Keep.step keep_setLane)
    | (show (_ ||| _ : Nat) = _; rfl)
    | (with_reducible apply Keep.step keep_wrAll)
    | (with_reducible apply Keep.step keep_pulse)
    | (with_reducible apply Keep.ite <;> try extract_lets)

end Sys2Proof.Machine
end

