-- ==== Sys2Proof/Laws/KeepMemory.lean ====
section
/-!
SUPPORT. What each operation of Machine/Memory.lean leaves alone (Laws/Keep.lean).
-/
set_option Elab.async false
set_option linter.all false
namespace Sys2Proof.Machine

theorem keep_tempSource {s : State} {x0 x1 x2} : Keep 0x1002 s (State.tempSource s x0 x1 x2) := by
  unfold State.tempSource
  try extract_lets
  repeat' first
    | (with_reducible apply Keep.refl)
    | (show (_ ||| _ : Nat) = _; rfl)
    | (with_reducible apply Keep.step keep_source)

theorem keep_authRecord {s : State} : Keep 0x3802 s (State.authRecord s) := by
  unfold State.authRecord
  try extract_lets
  repeat' first
    | (with_reducible apply Keep.refl)
    | (show (_ ||| _ : Nat) = _; rfl)
    | (with_reducible apply Keep.step keep_record)
    | (with_reducible apply Keep.ite <;> try extract_lets)

theorem keep_sensorSample {s : State} {x0} : Keep 0x3a02 s (State.sensorSample s x0) := by
  unfold State.sensorSample
  try extract_lets
  repeat' first
    | (with_reducible apply Keep.refl)
    | (show (_ ||| _ : Nat) = _; rfl)
    | (show Nat.testBit _ _ = true; rfl)
    | (with_reducible apply Keep.step keep_bump)
    | (with_reducible apply Keep.step keep_wr)
    | (with_reducible apply Keep.step keep_tempSource)
    | (with_reducible apply Keep.step keep_authRecord)
    | (with_reducible apply Keep.ite <;> try extract_lets)
    | (with_reducible apply Keep.each <;> try intro s x <;> try extract_lets)
    | (with_reducible apply Keep.set_ms)

theorem keep_railReading {s : State} {x0 x1 x2} : Keep 0x1002 s (State.railReading s x0 x1 x2) := by
  unfold State.railReading
  try extract_lets
  repeat' first
    | (with_reducible apply Keep.refl)
    | (show (_ ||| _ : Nat) = _; rfl)
    | (with_reducible apply Keep.step keep_wrAll)
    | (with_reducible apply Keep.step keep_source)
    | (with_reducible apply Keep.step keep_wr)
    | (dsimp only)
    | (split <;> try extract_lets)

theorem keep_sramError {s : State} {x0 x1 x2} : Keep 0x401002 s (State.sramError s x0 x1 x2) := by
  unfold State.sramError
  try extract_lets
  repeat' first
    | (with_reducible apply Keep.refl)
    | (show (_ ||| _ : Nat) = _; rfl)
    | (show Nat.testBit _ _ = true; rfl)
    | (with_reducible apply Keep.step keep_pulse)
    | (with_reducible apply Keep.step keep_bump)
    | (with_reducible apply Keep.step keep_wrAll)
    | (with_reducible apply Keep.ite <;> try extract_lets)
    | (split <;> try extract_lets)
    | (dsimp +zetaDelta only; split <;> try extract_lets)
    | (with_reducible apply Keep.set_sl)

theorem keep_scrubEnd {s : State} {x0 x1} : Keep 0x401002 s (State.scrubEnd s x0 x1) := by
  unfold State.scrubEnd
  try extract_lets
  repeat' first
    | (with_reducible apply Keep.refl)
    | (show (_ ||| _ : Nat) = _; rfl)
    | (with_reducible apply Keep.step keep_sramError)
    | (with_reducible apply Keep.step keep_source)
    | (with_reducible apply Keep.step keep_bump)
    | (with_reducible apply Keep.ite <;> try extract_lets)
    | (with_reducible apply Keep.each <;> try intro s x <;> try extract_lets)

theorem keep_dramPoll {s : State} {x0 x1} : Keep 0x1002 s (State.dramPoll s x0 x1) := by
  unfold State.dramPoll
  try extract_lets
  repeat' first
    | (with_reducible apply Keep.refl)
    | (show (_ ||| _ : Nat) = _; rfl)
    | (with_reducible apply Keep.step keep_source)
    | (with_reducible apply Keep.step keep_wrb)
    | (with_reducible apply Keep.ite <;> try extract_lets)

theorem keep_marchGo {s : State} : Keep 0x2 s (State.marchGo s) := by
  unfold State.marchGo
  try extract_lets
  repeat' first
    | (with_reducible apply Keep.refl)
    | (show (_ ||| _ : Nat) = _; rfl)
    | (with_reducible apply Keep.step keep_wrAll)
    | (with_reducible apply Keep.ite <;> try extract_lets)

theorem keep_marchAbort {s : State} : Keep 0x2 s (State.marchAbort s) := by
  unfold State.marchAbort
  try extract_lets
  repeat' first
    | (with_reducible apply Keep.refl)
    | (show (_ ||| _ : Nat) = _; rfl)
    | (with_reducible apply Keep.step keep_wr)
    | (with_reducible apply Keep.ite <;> try extract_lets)

theorem keep_openBytes {s : State} {x0} : Keep 0x100 s (State.openBytes s x0).2 := by
  unfold State.openBytes
  try extract_lets
  repeat' first
    | (with_reducible apply Keep.refl)
    | (show Nat.testBit _ _ = true; rfl)
    | (dsimp only)
    | (with_reducible apply Keep.set_free)

theorem keep_scrambled {s : State} {x0} : Keep 0x20500 s (State.scrambled s x0) := by
  unfold State.scrambled
  try extract_lets
  repeat' first
    | (with_reducible apply Keep.refl)
    | (show (_ ||| _ : Nat) = _; rfl)
    | (show Nat.testBit _ _ = true; rfl)
    | (with_reducible apply Keep.step keep_openBytes)
    | (with_reducible apply Keep.step keep_setWin)
    | (with_reducible apply Keep.step keep_setCluster)
    | (with_reducible apply Keep.ite <;> try extract_lets)
    | (with_reducible apply Keep.set_free)

theorem keep_marchEnd {s : State} {x0} : Keep 0x20502 s (State.marchEnd s x0) := by
  unfold State.marchEnd
  try extract_lets
  repeat' first
    | (with_reducible apply Keep.refl)
    | (show (_ ||| _ : Nat) = _; rfl)
    | (with_reducible apply Keep.step keep_wrAll)
    | (with_reducible apply Keep.step keep_scrambled)
    | (with_reducible apply Keep.ite <;> try extract_lets)

theorem keep_marchSegment {s : State} {x0 x1} : Keep 0x21502 s (State.marchSegment s x0 x1) := by
  unfold State.marchSegment
  try extract_lets
  repeat' first
    | (with_reducible apply Keep.refl)
    | (show (_ ||| _ : Nat) = _; rfl)
    | (with_reducible apply Keep.step keep_pulse)
    | (with_reducible apply Keep.step keep_marchEnd)
    | (with_reducible apply Keep.step keep_wr)
    | (with_reducible apply Keep.step keep_bump)
    | (with_reducible apply Keep.ite <;> try extract_lets)

theorem keep_noPath {s : State} {x0 x1} : Keep 0x1002 s (State.noPath s x0 x1) := by
  unfold State.noPath
  try extract_lets
  repeat' first
    | (with_reducible apply Keep.refl)
    | (show (_ ||| _ : Nat) = _; rfl)
    | (with_reducible apply Keep.step keep_pulse)
    | (with_reducible apply Keep.step keep_wrAll)
    | (with_reducible apply Keep.step keep_bumpSat)
    | (with_reducible apply Keep.ite <;> try extract_lets)

theorem keep_fabricCounts {s : State} {x0 x1} : Keep 0x2 s (State.fabricCounts s x0 x1) := by
  unfold State.fabricCounts
  try extract_lets
  repeat' first
    | (with_reducible apply Keep.refl)
    | (show (_ ||| _ : Nat) = _; rfl)
    | (show Nat.testBit _ _ = true; rfl)
    | (with_reducible apply Keep.step keep_wrAll)
    | (with_reducible apply Keep.ite <;> try extract_lets)
    | (dsimp only)

theorem keep_fabricAge {s : State} {x0 x1 x2 x3} : Keep 0x1002 s (State.fabricAge s x0 x1 x2 x3) := by
  unfold State.fabricAge
  try extract_lets
  repeat' first
    | (with_reducible apply Keep.refl)
    | (with_reducible apply Keep.step keep_fabricCounts)
    | (show (_ ||| _ : Nat) = _; rfl)
    | (with_reducible apply Keep.step keep_wr)
    | (with_reducible apply Keep.step keep_pulse)
    | (with_reducible apply Keep.ite <;> try extract_lets)

theorem keep_lockTimeout {s : State} : Keep 0x1002 s (State.lockTimeout s) := by
  unfold State.lockTimeout
  try extract_lets
  repeat' first
    | (with_reducible apply Keep.refl)
    | (show (_ ||| _ : Nat) = _; rfl)
    | (with_reducible apply Keep.step keep_pulse)
    | (with_reducible apply Keep.step keep_bump)

theorem keep_logFlush {s : State} {x0} : Keep 0x3002 s (State.logFlush s x0) := by
  unfold State.logFlush
  try extract_lets
  repeat' first
    | (with_reducible apply Keep.refl)
    | (show (_ ||| _ : Nat) = _; rfl)
    | (show Nat.testBit _ _ = true; rfl)
    | (with_reducible apply Keep.step keep_pulse)
    | (with_reducible apply Keep.step keep_bump)
    | (with_reducible apply Keep.step keep_showLog)
    | (with_reducible apply Keep.ite <;> try extract_lets)
    | (with_reducible apply Keep.set_log)

end Sys2Proof.Machine
end

