-- ==== Sys2Proof/Laws/KeepSecurity.lean ====
section
/-!
SUPPORT. What each operation of Machine/Security.lean leaves alone (Laws/Keep.lean).
-/
set_option Elab.async false
set_option linter.all false
namespace Sys2Proof.Machine

theorem keep_setSec {s : State} {x0} : Keep 0x4000 s (State.setSec s x0) := by
  unfold State.setSec
  try extract_lets
  repeat' first
    | (with_reducible apply Keep.refl)
    | (show Nat.testBit _ _ = true; rfl)
    | (with_reducible apply Keep.set_sec)

theorem keep_setFlash {s : State} {x0} : Keep 0x8000 s (State.setFlash s x0) := by
  unfold State.setFlash
  try extract_lets
  repeat' first
    | (with_reducible apply Keep.refl)
    | (show Nat.testBit _ _ = true; rfl)
    | (with_reducible apply Keep.set_flash)

theorem keep_showKeys {s : State} : Keep 0x2 s (State.showKeys s) := by
  unfold State.showKeys
  try extract_lets
  repeat' first
    | (with_reducible apply Keep.refl)
    | (show (_ ||| _ : Nat) = _; rfl)
    | (with_reducible apply Keep.step keep_wrAll)

theorem keep_showLife {s : State} : Keep 0x2 s (State.showLife s) := by
  unfold State.showLife
  try extract_lets
  repeat' first
    | (with_reducible apply Keep.refl)
    | (show (_ ||| _ : Nat) = _; rfl)
    | (with_reducible apply Keep.step keep_wrAll)
    | (with_reducible apply Keep.step keep_showKeys)
    | (with_reducible apply Keep.ite <;> try extract_lets)

theorem keep_unmaskFatal {s : State} {x0} : Keep 0x2 s (State.unmaskFatal s x0) := by
  unfold State.unmaskFatal
  try extract_lets
  repeat' first
    | (with_reducible apply Keep.refl)
    | (show (_ ||| _ : Nat) = _; rfl)
    | (with_reducible apply Keep.step keep_wr)
    | (with_reducible apply Keep.ite <;> try extract_lets)

theorem keep_zeroise {s : State} : Keep 0x4002 s (State.zeroise s) := by
  unfold State.zeroise
  try extract_lets
  repeat' first
    | (with_reducible apply Keep.refl)
    | (show (_ ||| _ : Nat) = _; rfl)
    | (with_reducible apply Keep.step keep_showKeys)
    | (with_reducible apply Keep.step keep_wrAll)
    | (with_reducible apply Keep.step keep_setSec)

theorem keep_loadKeys {s : State} : Keep 0x4002 s (State.loadKeys s) := by
  unfold State.loadKeys
  try extract_lets
  repeat' first
    | (with_reducible apply Keep.refl)
    | (show (_ ||| _ : Nat) = _; rfl)
    | (with_reducible apply Keep.step keep_showKeys)
    | (with_reducible apply Keep.step keep_setSec)
    | (with_reducible apply Keep.step keep_wr)
    | (with_reducible apply Keep.ite <;> try extract_lets)

theorem keep_cmdLifecycle {s : State} {x0 x1 x2} : Keep 0x4002 s (State.cmdLifecycle s x0 x1 x2).st := by
  unfold State.cmdLifecycle
  try extract_lets
  repeat' first
    | (with_reducible apply Keep.refl)
    | (show (_ ||| _ : Nat) = _; rfl)
    | (with_reducible apply Keep.step keep_fin)
    | (with_reducible apply Keep.step keep_later)
    | (with_reducible apply Keep.step keep_zeroise)
    | (with_reducible apply Keep.step keep_wr)
    | (with_reducible apply Keep.step keep_setSec)
    | (with_reducible apply Keep.ite_st <;> try extract_lets)

theorem keep_lifeBefore {s : State} {x0} : Keep 0x14c102 s (State.lifeBefore s x0) := by
  unfold State.lifeBefore
  try extract_lets
  repeat' first
    | (with_reducible apply Keep.refl)
    | (show (_ ||| _ : Nat) = _; rfl)
    | (show Nat.testBit _ _ = true; rfl)
    | (with_reducible apply Keep.step keep_openBytes)
    | (with_reducible apply Keep.step keep_setSec)
    | (with_reducible apply Keep.step keep_setFlash)
    | (with_reducible apply Keep.step keep_setPair)
    | (with_reducible apply Keep.step keep_showClaim)
    | (with_reducible apply Keep.ite <;> try extract_lets)
    | (split <;> try extract_lets)
    | (with_reducible apply Keep.set_eng)

theorem keep_eraseAll {s : State} : Keep 0x8e002 s (State.eraseAll s) := by
  unfold State.eraseAll
  try extract_lets
  repeat' first
    | (with_reducible apply Keep.refl)
    | (show (_ ||| _ : Nat) = _; rfl)
    | (show Nat.testBit _ _ = true; rfl)
    | (with_reducible apply Keep.step keep_setSec)
    | (with_reducible apply Keep.step keep_setFlash)
    | (with_reducible apply Keep.step keep_setScn)
    | (with_reducible apply Keep.step keep_showKeys)
    | (with_reducible apply Keep.set_log)

theorem keep_lifeAfter {s : State} {x0} : Keep 0xaf882 s (State.lifeAfter s x0) := by
  unfold State.lifeAfter
  try extract_lets
  repeat' first
    | (with_reducible apply Keep.refl)
    | (show (_ ||| _ : Nat) = _; rfl)
    | (with_reducible apply Keep.step keep_injectEnd)
    | (with_reducible apply Keep.step keep_setSec)
    | (with_reducible apply Keep.step keep_eraseAll)
    | (with_reducible apply Keep.step keep_loadKeys)
    | (with_reducible apply Keep.step keep_showLife)
    | (with_reducible apply Keep.step keep_unmaskFatal)
    | (with_reducible apply Keep.step keep_respond)
    | (with_reducible apply Keep.step keep_pulse)
    | (with_reducible apply Keep.step keep_record)
    | (with_reducible apply Keep.step keep_wr)
    | (with_reducible apply Keep.ite <;> try extract_lets)
    | (with_reducible apply Keep.each <;> try intro s x <;> try extract_lets)

theorem keep_zeroiseDone {s : State} : Keep 0x1ef982 s (State.zeroiseDone s) := by
  unfold State.zeroiseDone
  try extract_lets
  repeat' first
    | (with_reducible apply Keep.refl)
    | (show (_ ||| _ : Nat) = _; rfl)
    | (with_reducible apply Keep.step keep_pulse)
    | (with_reducible apply Keep.step keep_bump)
    | (with_reducible apply Keep.step keep_wrAll)
    | (with_reducible apply Keep.step keep_lifeAfter)
    | (with_reducible apply Keep.step keep_lifeBefore)
    | (with_reducible apply Keep.ite <;> try extract_lets)
    | (split <;> try extract_lets)

theorem keep_tamper {s : State} {x0} : Keep 0x7802 s (State.tamper s x0) := by
  unfold State.tamper
  try extract_lets
  repeat' first
    | (with_reducible apply Keep.refl)
    | (show (_ ||| _ : Nat) = _; rfl)
    | (with_reducible apply Keep.step keep_zeroise)
    | (with_reducible apply Keep.step keep_wrAll)
    | (with_reducible apply Keep.step keep_setSec)
    | (with_reducible apply Keep.step keep_record)
    | (with_reducible apply Keep.step keep_pulse)
    | (with_reducible apply Keep.step keep_showKeys)
    | (with_reducible apply Keep.ite <;> try extract_lets)

theorem keep_showSlots {s : State} : Keep 0x2 s (State.showSlots s) := by
  unfold State.showSlots
  try extract_lets
  repeat' first
    | (with_reducible apply Keep.refl)
    | (show (_ ||| _ : Nat) = _; rfl)
    | (with_reducible apply Keep.step keep_wrAll)

theorem keep_spoilSlot {s : State} {x0} : Keep 0x8002 s (State.spoilSlot s x0) := by
  unfold State.spoilSlot
  try extract_lets
  repeat' first
    | (with_reducible apply Keep.refl)
    | (show (_ ||| _ : Nat) = _; rfl)
    | (with_reducible apply Keep.step keep_showSlots)
    | (with_reducible apply Keep.step keep_setFlash)

theorem keep_abandonUpdate {s : State} : Keep 0x11002 s (State.abandonUpdate s) := by
  unfold State.abandonUpdate
  try extract_lets
  repeat' first
    | (with_reducible apply Keep.refl)
    | (show (_ ||| _ : Nat) = _; rfl)
    | (show Nat.testBit _ _ = true; rfl)
    | (with_reducible apply Keep.step keep_pulse)
    | (split <;> try extract_lets)
    | (with_reducible apply Keep.set_upd)

theorem keep_cmdUpdBegin {s : State} {x0 x1} : Keep 0x19002 s (State.cmdUpdBegin s x0 x1).st := by
  unfold State.cmdUpdBegin
  try extract_lets
  repeat' first
    | (with_reducible apply Keep.refl)
    | (show (_ ||| _ : Nat) = _; rfl)
    | (show Nat.testBit _ _ = true; rfl)
    | (with_reducible apply Keep.step keep_fin)
    | (with_reducible apply Keep.step keep_finWith)
    | (with_reducible apply Keep.step keep_abandonUpdate)
    | (with_reducible apply Keep.step keep_spoilSlot)
    | (with_reducible apply Keep.step keep_wrAll)
    | (with_reducible apply Keep.ite <;> try extract_lets)
    | (with_reducible apply Keep.ite_st <;> try extract_lets)
    | (with_reducible apply Keep.set_upd)

theorem keep_cmdUpdChunk {s : State} {x0 x1} : Keep 0x10002 s (State.cmdUpdChunk s x0 x1).st := by
  unfold State.cmdUpdChunk
  try extract_lets
  repeat' first
    | (with_reducible apply Keep.refl)
    | (show (_ ||| _ : Nat) = _; rfl)
    | (show Nat.testBit _ _ = true; rfl)
    | (with_reducible apply Keep.step keep_fin)
    | (with_reducible apply Keep.step keep_wr)
    | (with_reducible apply Keep.ite_st <;> try extract_lets)
    | (dsimp only)
    | (split <;> try extract_lets)
    | (with_reducible apply Keep.set_upd)

theorem keep_updProgram {s : State} {x0} : Keep 0x11002 s (State.updProgram s x0) := by
  unfold State.updProgram
  try extract_lets
  repeat' first
    | (with_reducible apply Keep.refl)
    | (show (_ ||| _ : Nat) = _; rfl)
    | (show Nat.testBit _ _ = true; rfl)
    | (with_reducible apply Keep.step keep_pulse)
    | (with_reducible apply Keep.ite <;> try extract_lets)
    | (dsimp only)
    | (split <;> try extract_lets)
    | (with_reducible apply Keep.set_upd)

theorem keep_cmdUpdCommit {s : State} : Keep 0x1f802 s (State.cmdUpdCommit s).st := by
  unfold State.cmdUpdCommit
  try extract_lets
  repeat' first
    | (with_reducible apply Keep.refl)
    | (show (_ ||| _ : Nat) = _; rfl)
    | (show Nat.testBit _ _ = true; rfl)
    | (with_reducible apply Keep.step keep_fin)
    | (with_reducible apply Keep.step keep_finWith)
    | (with_reducible apply Keep.step keep_showSlots)
    | (with_reducible apply Keep.step keep_setFlash)
    | (with_reducible apply Keep.step keep_record)
    | (with_reducible apply Keep.step keep_wr)
    | (with_reducible apply Keep.step keep_setSec)
    | (with_reducible apply Keep.step keep_loadKeys)
    | (with_reducible apply Keep.ite_st <;> try extract_lets)
    | (dsimp only)
    | (split <;> try extract_lets)
    | (with_reducible apply Keep.set_upd)

theorem keep_fwConfirm {s : State} : Keep 0xc002 s (State.fwConfirm s) := by
  unfold State.fwConfirm
  try extract_lets
  repeat' first
    | (with_reducible apply Keep.refl)
    | (show (_ ||| _ : Nat) = _; rfl)
    | (with_reducible apply Keep.step keep_setFlash)
    | (with_reducible apply Keep.step keep_setSec)
    | (with_reducible apply Keep.step keep_wrAll)
    | (with_reducible apply Keep.ite <;> try extract_lets)

end Sys2Proof.Machine
end

