-- ==== Sys2Proof/Laws/KeepBoot.lean ====
section
/-!
SUPPORT. What each operation of Machine/Boot.lean leaves alone (Laws/Keep.lean).
-/
set_option Elab.async false
set_option linter.all false
namespace Sys2Proof.Machine

theorem keep_resetRegs {s : State} {x0} : Keep 0x2 s (State.resetRegs s x0) := by
  unfold State.resetRegs
  try extract_lets
  repeat' first
    | (with_reducible apply Keep.refl)
    | (show (_ ||| _ : Nat) = _; rfl)
    | (with_reducible apply Keep.step keep_setReg)
    | (with_reducible apply Keep.each <;> try intro s x <;> try extract_lets)

theorem keep_discardTickets {s : State} : Keep 0x584000 s (State.discardTickets s) := by
  unfold State.discardTickets
  try extract_lets
  repeat' first
    | (with_reducible apply Keep.refl)
    | (with_reducible refine Keep.mk_gen ?_ (fun i hi => by unfold State.samePart; split <;> first | rfl | trivial | exact absurd hi (by decide)))

theorem keep_hostReset {s : State} {x0} : Keep 0x58480a s (State.hostReset s x0) := by
  unfold State.hostReset
  try extract_lets
  repeat' first
    | (with_reducible apply Keep.refl)
    | (show (_ ||| _ : Nat) = _; rfl)
    | (with_reducible apply Keep.step keep_resetRegs)
    | (with_reducible apply Keep.step keep_discardTickets)
    | (with_reducible apply Keep.step keep_wr)
    | (with_reducible apply Keep.each <;> try intro s x <;> try extract_lets)
    | (dsimp +zetaDelta only; split <;> try extract_lets)
    | (with_reducible refine Keep.mk_gen ?_ (fun i hi => by unfold State.samePart; split <;> first | rfl | trivial | exact absurd hi (by decide)))

theorem keep_pcieReset {s : State} {x0} : Keep 0x58480a s (State.pcieReset s x0) := by
  unfold State.pcieReset
  try extract_lets
  repeat' first
    | (with_reducible apply Keep.refl)
    | (show (_ ||| _ : Nat) = _; rfl)
    | (with_reducible apply Keep.step keep_wrAll)
    | (with_reducible apply Keep.step keep_hostReset)
    | (with_reducible apply Keep.step keep_pcieDown)
    | (with_reducible apply Keep.ite <;> try extract_lets)

theorem keep_newNonce {s : State} : Keep 0x102 s (State.newNonce s) := by
  unfold State.newNonce
  try extract_lets
  repeat' first
    | (with_reducible apply Keep.refl)
    | (show (_ ||| _ : Nat) = _; rfl)
    | (with_reducible apply Keep.step keep_open_)
    | (with_reducible apply Keep.step keep_wr)

theorem keep_updCut {s : State} {x0} : Keep 0x18002 s (State.updCut s x0) := by
  unfold State.updCut
  try extract_lets
  repeat' first
    | (with_reducible apply Keep.refl)
    | (show (_ ||| _ : Nat) = _; rfl)
    | (show Nat.testBit _ _ = true; rfl)
    | (with_reducible apply Keep.step keep_wr)
    | (with_reducible apply Keep.step keep_spoilSlot)
    | (with_reducible apply Keep.ite <;> try extract_lets)
    | (split <;> try extract_lets)
    | (with_reducible apply Keep.set_upd)

theorem keep_fixCut {s : State} {x0} : Keep 0x80000 s (State.fixCut s x0) := by
  unfold State.fixCut
  try extract_lets
  repeat' first
    | (with_reducible apply Keep.refl)
    | (with_reducible apply Keep.step keep_setScn)
    | (show (_ ||| _ : Nat) = _; rfl)
    | (with_reducible apply Keep.step keep_setSlot)
    | (with_reducible apply Keep.ite <;> try extract_lets)

theorem keep_coldReset {s : State} {x0} : Keep 0x3fffe3e s (State.coldReset s x0) := by
  unfold State.coldReset
  dsimp only
  refine Keep.step keep_wr rfl (Keep.step keep_updCut rfl (Keep.step keep_fixCut rfl ?_))
  exact ⟨fun _ => rfl, fun i hi => by
      unfold State.samePart; split <;> first | rfl | trivial | exact absurd hi (by decide)⟩


theorem keep_warmReset {s : State} {x0} : Keep 0x3ffdd36 s (State.warmReset s x0) := by
  unfold State.warmReset
  try extract_lets
  repeat' first
    | (with_reducible apply Keep.refl)
    | (show (_ ||| _ : Nat) = _; rfl)
    | (with_reducible apply Keep.step keep_takeOver)
    | (with_reducible apply Keep.step keep_startPlan)
    | (with_reducible apply Keep.step keep_cancelArmed)
    | (with_reducible apply Keep.step keep_releaseHeld)
    | (with_reducible apply Keep.step keep_fixCut)
    | (with_reducible apply Keep.step keep_setScn)
    | (with_reducible apply Keep.step keep_resetRegs)
    | (with_reducible apply Keep.step keep_wr64)
    | (with_reducible apply Keep.step keep_updCut)
    | (with_reducible apply Keep.step keep_showDirty)
    | (with_reducible apply Keep.step keep_showLog)
    | (with_reducible apply Keep.step keep_wrAll)
    | (split <;> try extract_lets)
    | (dsimp +zetaDelta only; split <;> try extract_lets)
    | (with_reducible refine Keep.mk_gen ?_ (fun i hi => by unfold State.samePart; split <;> first | rfl | trivial | exact absurd hi (by decide)))

theorem keep_sensed {s : State} {x0} : Keep 0x1000002 s (State.sensed s x0) := by
  unfold State.sensed
  try extract_lets
  repeat' first
    | (with_reducible apply Keep.refl)
    | (with_reducible apply Keep.step keep_setClk)
    | (show (_ ||| _ : Nat) = _; rfl)
    | (with_reducible apply Keep.step keep_wrAll)
    | (with_reducible apply Keep.step keep_wr)
    | (with_reducible apply Keep.step keep_showLife)
    | (with_reducible apply Keep.each <;> try intro s x <;> try extract_lets)

theorem keep_bootMarch {s : State} {x0} : Keep 0xb802 s (State.bootMarch s x0) := by
  unfold State.bootMarch
  try extract_lets
  repeat' first
    | (with_reducible apply Keep.refl)
    | (show (_ ||| _ : Nat) = _; rfl)
    | (with_reducible apply Keep.step keep_wrAll)
    | (with_reducible apply Keep.step keep_record)
    | (with_reducible apply Keep.step keep_pulse)
    | (with_reducible apply Keep.step keep_source)
    | (with_reducible apply Keep.step keep_setFlash)
    | (with_reducible apply Keep.ite <;> try extract_lets)
    | (with_reducible apply Keep.each <;> try intro s x <;> try extract_lets)
    | (split <;> try extract_lets)

theorem keep_showBoot {s : State} {x0} : Keep 0x2 s (State.showBoot s x0) := by
  unfold State.showBoot
  try extract_lets
  repeat' first
    | (with_reducible apply Keep.refl)
    | (show (_ ||| _ : Nat) = _; rfl)
    | (with_reducible apply Keep.step keep_showSlots)
    | (with_reducible apply Keep.step keep_wrAll)

theorem keep_fallBack {s : State} : Keep 0x8002 s (State.fallBack s) := by
  unfold State.fallBack
  try extract_lets
  repeat' first
    | (with_reducible apply Keep.refl)
    | (show (_ ||| _ : Nat) = _; rfl)
    | (with_reducible apply Keep.step keep_spoilSlot)
    | (with_reducible apply Keep.step keep_setFlash)

theorem keep_bootFirmware {s t : State} (h : s.bootFirmware = some t) : Keep 0x9002 s t := by
  have h1 : Keep 0x9002 s (if (s.flash.trial && s.flash.attempted) = true ∨ ¬ (s.flash.fw s.flash.slot).valid = true then s.fallBack else s) :=
    Keep.ite (Keep.step keep_fallBack rfl Keep.refl) Keep.refl
  unfold State.bootFirmware at h
  dsimp only at h
  generalize (if (s.flash.trial && s.flash.attempted) = true ∨ ¬ (s.flash.fw s.flash.slot).valid = true then s.fallBack else s) = s1 at h1 h
  split at h
  · obtain rfl := Option.some.inj h
    have h2 : Keep 0x9002 s (if s1.flash.trial = true then s1.setFlash { s1.flash with attempted := true } else s1) :=
      Keep.ite (Keep.step keep_setFlash rfl h1) h1
    exact Keep.ite (Keep.step keep_pulse rfl (Keep.step keep_showBoot rfl (Keep.ite (Keep.step keep_wr rfl h2) h2)))
      (Keep.step keep_showBoot rfl (Keep.ite (Keep.step keep_wr rfl h2) h2))
  · exact nomatch h


theorem keep_enablePages {s : State} {x0} : Keep 0x2 s (State.enablePages s x0) := by
  unfold State.enablePages
  try extract_lets
  repeat' first
    | (with_reducible apply Keep.refl)
    | (show (_ ||| _ : Nat) = _; rfl)
    | (with_reducible apply Keep.step keep_wr)
    | (with_reducible apply Keep.each <;> try intro s x <;> try extract_lets)

theorem keep_bootHost {s : State} {x0} : Keep 0x8f102 s (State.bootHost s x0) := by
  unfold State.bootHost
  try extract_lets
  repeat' first
    | (with_reducible apply Keep.refl)
    | (show (_ ||| _ : Nat) = _; rfl)
    | (with_reducible apply Keep.step keep_eraseAll)
    | (with_reducible apply Keep.step keep_loadKeys)
    | (with_reducible apply Keep.step keep_pulse)
    | (with_reducible apply Keep.step keep_showKeys)
    | (with_reducible apply Keep.step keep_setSec)
    | (with_reducible apply Keep.step keep_wrAll)
    | (with_reducible apply Keep.step keep_enablePages)
    | (with_reducible apply Keep.step keep_newNonce)
    | (with_reducible apply Keep.ite <;> try extract_lets)

theorem keep_bootDram {s : State} {x0} : Keep 0x1002 s (State.bootDram s x0) := by
  unfold State.bootDram
  try extract_lets
  repeat' first
    | (with_reducible apply Keep.refl)
    | (show (_ ||| _ : Nat) = _; rfl)
    | (with_reducible apply Keep.step keep_source)
    | (with_reducible apply Keep.step keep_wrAll)
    | (with_reducible apply Keep.step keep_enablePages)

theorem keep_loadImage {s : State} {x0} : Keep 0x40406 s (State.loadImage s x0) := by
  unfold State.loadImage
  try extract_lets
  repeat' first
    | (with_reducible apply Keep.refl)
    | (show (_ ||| _ : Nat) = _; rfl)
    | (show Nat.testBit _ _ = true; rfl)
    | (with_reducible apply Keep.step keep_setWin)
    | (with_reducible apply Keep.step keep_wr)
    | (with_reducible apply Keep.step keep_putRegs)
    | (with_reducible apply Keep.each <;> try intro s x <;> try extract_lets)
    | (with_reducible apply Keep.set_eng)

theorem keep_replayTake {p : Replay} {r : JrnlRec} : Keep 0x80406 p.st (p.take r).st := by
  unfold Replay.take
  dsimp only
  split
  · exact Keep.refl
  · split
    · exact Keep.step keep_setScn rfl (Keep.step keep_putRegs rfl (Keep.step keep_putLines rfl Keep.refl))
    · exact Keep.refl
  · exact Keep.each Keep.refl fun s x => Keep.step keep_setWord rfl (Keep.step keep_setWord rfl Keep.refl)
  · exact Keep.each Keep.refl fun s x => Keep.step keep_setWin rfl Keep.refl
  · exact Keep.step keep_wr rfl Keep.refl
  · exact Keep.refl
  · exact Keep.refl

theorem keep_replay {s0 : State} : ∀ {l : List JrnlRec} {p : Replay}, Keep 0x80406 s0 p.st → Keep 0x80406 s0 (l.foldl Replay.take p).st
  | [], _, h => h
  | _ :: l, _, h => keep_replay (l := l) (Keep.step keep_replayTake rfl h)

theorem keep_bootConfig {s : State} {x0} : Keep 0xac1506 s (State.bootConfig s x0) := by
  unfold State.bootConfig
  extract_lets good ptr cur n? s0
  have h1 : Keep 0xac1506 s s0 := Keep.ite Keep.refl (Keep.step keep_pulse rfl Keep.refl)
  clear_value s0 n?
  split
  · exact Keep.step keep_showSlot rfl (Keep.step keep_wr rfl h1)
  · extract_lets x sealed_
    split
    · exact h1
    · extract_lets s1 r s2
      have h2 : Keep 0xac1506 s s1 :=
        Keep.step keep_showSlot rfl (Keep.step keep_wr rfl (Keep.step keep_loadImage rfl (Keep.step keep_setScn rfl h1)))
      clear_value s1
      have h3 : Keep 0xac1506 s r.st := Keep.step (keep_replay Keep.refl) rfl h2
      have h4 : Keep 0xac1506 s s2 := Keep.step keep_wrAll rfl h3
      clear_value r s2
      split
      · exact Keep.step keep_showEff rfl h4
      · exact Keep.set_eng (Keep.step keep_planIn rfl h4) rfl


theorem keep_bootRole {s : State} : Keep 0x100002 s (State.bootRole s) := by
  unfold State.bootRole
  try extract_lets
  repeat' first
    | (with_reducible apply Keep.refl)
    | (show (_ ||| _ : Nat) = _; rfl)
    | (with_reducible apply Keep.step keep_showClaim)
    | (with_reducible apply Keep.step keep_pairTo)
    | (with_reducible apply Keep.step keep_setPair)
    | (with_reducible apply Keep.ite <;> try extract_lets)

theorem keep_bootDone {s : State} {x0} : Keep 0x103802 s (State.bootDone s x0) := by
  unfold State.bootDone
  try extract_lets
  repeat' first
    | (with_reducible apply Keep.refl)
    | (show (_ ||| _ : Nat) = _; rfl)
    | (with_reducible apply Keep.step keep_wr)
    | (with_reducible apply Keep.step keep_bootRole)
    | (with_reducible apply Keep.step keep_wrAll)
    | (with_reducible apply Keep.step keep_record)
    | (with_reducible apply Keep.ite <;> try extract_lets)

theorem keep_bootLog {s : State} : Keep 0xa002 s (State.bootLog s) := by
  unfold State.bootLog
  try extract_lets
  repeat' first
    | (with_reducible apply Keep.refl)
    | (show (_ ||| _ : Nat) = _; rfl)
    | (show Nat.testBit _ _ = true; rfl)
    | (with_reducible apply Keep.step keep_showLog)
    | (with_reducible apply Keep.step keep_setFlash)
    | (with_reducible apply Keep.step keep_wr)
    | (split <;> try extract_lets)
    | (dsimp +zetaDelta only; split <;> try extract_lets)
    | (with_reducible apply Keep.set_log)

theorem keep_recovery {s : State} : Keep 0x4102 s (State.recovery s) := by
  unfold State.recovery
  try extract_lets
  repeat' first
    | (with_reducible apply Keep.refl)
    | (show (_ ||| _ : Nat) = _; rfl)
    | (with_reducible apply Keep.step keep_wr)
    | (with_reducible apply Keep.step keep_newNonce)
    | (with_reducible apply Keep.step keep_loadKeys)

theorem keep_bootSafelight {s : State} : Keep 0x400400 s (State.bootSafelight s) := by
  unfold State.bootSafelight
  try extract_lets
  repeat' first
    | (with_reducible apply Keep.refl)
    | (show (_ ||| _ : Nat) = _; rfl)
    | (show Nat.testBit _ _ = true; rfl)
    | (with_reducible apply Keep.step keep_setWin)
    | (with_reducible apply Keep.each <;> try intro s x <;> try extract_lets)
    | (with_reducible apply Keep.set_sl)

theorem keep_coldStart {s : State} {x0} : Keep 0x1fcfd06 s (State.coldStart s x0) := by
  unfold State.coldStart
  try extract_lets
  repeat' first
    | (with_reducible apply Keep.refl)
    | (show (_ ||| _ : Nat) = _; rfl)
    | (with_reducible apply Keep.step keep_bootLog)
    | (with_reducible apply Keep.step keep_sensed)
    | (with_reducible apply Keep.step keep_recovery)
    | (with_reducible apply Keep.step keep_bootMarch)
    | (with_reducible apply Keep.step keep_pulse)
    | (with_reducible refine Keep.step (keep_bootFirmware (by assumption)) ?_ ?_)
    | (with_reducible apply Keep.step keep_bootDone)
    | (with_reducible apply Keep.step keep_bootSafelight)
    | (with_reducible apply Keep.step keep_bootConfig)
    | (with_reducible apply Keep.step keep_enablePages)
    | (with_reducible apply Keep.step keep_bootDram)
    | (with_reducible apply Keep.step keep_bootHost)
    | (with_reducible apply Keep.ite <;> try extract_lets)
    | (split <;> try extract_lets)

theorem keep_resumePlan {s : State} : Keep 0xa40502 s (State.resumePlan s) := by
  unfold State.resumePlan
  try extract_lets
  repeat' first
    | (with_reducible apply Keep.refl)
    | (show (_ ||| _ : Nat) = _; rfl)
    | (show Nat.testBit _ _ = true; rfl)
    | (with_reducible apply Keep.step keep_imaged)
    | (with_reducible apply Keep.step keep_planIn)
    | (dsimp only)
    | (split <;> try extract_lets)
    | (with_reducible apply Keep.set_eng)

theorem keep_warmStart {s : State} {x0} : Keep 0x3ffff3e s (State.warmStart s x0) := by
  unfold State.warmStart
  try extract_lets
  repeat' first
    | (with_reducible apply Keep.refl)
    | (show (_ ||| _ : Nat) = _; rfl)
    | (with_reducible apply Keep.step keep_coldStart)
    | (with_reducible apply Keep.step keep_coldReset)
    | (with_reducible refine Keep.step (keep_bootFirmware (by assumption)) ?_ ?_)
    | (with_reducible apply Keep.step keep_sensed)
    | (with_reducible apply Keep.step keep_recovery)
    | (with_reducible apply Keep.step keep_wrAll)
    | (with_reducible apply Keep.step keep_newNonce)
    | (with_reducible apply Keep.step keep_resumePlan)
    | (with_reducible apply Keep.step keep_showSlot)
    | (with_reducible apply Keep.step keep_bootDram)
    | (with_reducible apply Keep.step keep_bootDone)
    | (with_reducible apply Keep.step keep_wr64)
    | (with_reducible apply Keep.ite <;> try extract_lets)
    | (dsimp only)
    | (split <;> try extract_lets)

theorem keep_porRelease {s : State} {x0} : Keep 0x1fcfd06 s (State.porRelease s x0) := by
  unfold State.porRelease
  try extract_lets
  repeat' first
    | (with_reducible apply Keep.refl)
    | (show (_ ||| _ : Nat) = _; rfl)
    | (with_reducible apply Keep.step keep_coldStart)
    | (with_reducible apply Keep.ite <;> try extract_lets)

theorem keep_resetRelease {s : State} {x0 x1} : Keep 0x3ffff3e s (State.resetRelease s x0 x1) := by
  unfold State.resetRelease
  try extract_lets
  repeat' first
    | (with_reducible apply Keep.refl)
    | (show (_ ||| _ : Nat) = _; rfl)
    | (with_reducible apply Keep.step keep_coldStart)
    | (with_reducible apply Keep.step keep_coldReset)
    | (with_reducible apply Keep.step keep_warmStart)
    | (with_reducible apply Keep.ite <;> try extract_lets)

theorem keep_mgmtRestart {s : State} {x0} : Keep 0x3ffffbe s (State.mgmtRestart s x0) := by
  unfold State.mgmtRestart
  try extract_lets
  repeat' first
    | (with_reducible apply Keep.refl)
    | (show (_ ||| _ : Nat) = _; rfl)
    | (with_reducible apply Keep.step keep_wr)
    | (with_reducible apply Keep.step keep_showLife)
    | (with_reducible apply Keep.step keep_newNonce)
    | (with_reducible apply Keep.step keep_hostReset)
    | (with_reducible apply Keep.step keep_setSec)
    | (with_reducible apply Keep.step keep_updCut)
    | (with_reducible apply Keep.step keep_fixDone)
    | (with_reducible apply Keep.step keep_fixCut)
    | (with_reducible refine Keep.step (keep_bootFirmware (by assumption)) ?_ ?_)
    | (with_reducible apply Keep.step keep_recovery)
    | (with_reducible apply Keep.step keep_coldReset)
    | (with_reducible apply Keep.ite <;> try extract_lets)
    | (split <;> try extract_lets)

theorem keep_mbReset {s : State} {x0 x1} : Keep 0x3ffffbe s (State.mbReset s x0 x1) := by
  unfold State.mbReset
  try extract_lets
  repeat' first
    | (with_reducible apply Keep.refl)
    | (show (_ ||| _ : Nat) = _; rfl)
    | (with_reducible apply Keep.step keep_warmReset)
    | (with_reducible apply Keep.step keep_coldReset)
    | (with_reducible apply Keep.step keep_mgmtRestart)
    | (with_reducible apply Keep.ite <;> try extract_lets)

theorem keep_mgmtWdt {s : State} {x0} : Keep 0x3ffffbe s (State.mgmtWdt s x0) := by
  unfold State.mgmtWdt
  try extract_lets
  repeat' first
    | (with_reducible apply Keep.refl)
    | (show (_ ||| _ : Nat) = _; rfl)
    | (with_reducible apply Keep.step keep_mgmtRestart)
    | (with_reducible apply Keep.step keep_pulse)
    | (with_reducible apply Keep.ite <;> try extract_lets)

theorem keep_trialTimeout {s : State} {x0} : Keep 0x3ffff3e s (State.trialTimeout s x0) := by
  unfold State.trialTimeout
  try extract_lets
  repeat' first
    | (with_reducible apply Keep.refl)
    | (show (_ ||| _ : Nat) = _; rfl)
    | (with_reducible apply Keep.step keep_coldStart)
    | (with_reducible apply Keep.step keep_coldReset)
    | (with_reducible apply Keep.ite <;> try extract_lets)

theorem keep_pfailLow {s : State} : Keep 0x18bc86 s (State.pfailLow s) := by
  unfold State.pfailLow
  try extract_lets
  repeat' first
    | (with_reducible apply Keep.refl)
    | (show (_ ||| _ : Nat) = _; rfl)
    | (with_reducible apply Keep.step keep_source)
    | (with_reducible apply Keep.step keep_wr)
    | (with_reducible apply Keep.step keep_setPair)
    | (with_reducible apply Keep.step keep_fixPhase)
    | (with_reducible apply Keep.step keep_fixDone)
    | (with_reducible apply Keep.step keep_fixCut)
    | (with_reducible apply Keep.step keep_cancelArmed)
    | (with_reducible apply Keep.step keep_record)
    | (with_reducible apply Keep.step keep_journal)
    | (with_reducible apply Keep.step keep_setScn)
    | (with_reducible apply Keep.step keep_setFlash)
    | (with_reducible apply Keep.step keep_logFlush)
    | (with_reducible apply Keep.step keep_setFlt)
    | (with_reducible apply Keep.ite <;> try extract_lets)
    | (dsimp +zetaDelta only; split <;> try extract_lets)

theorem keep_pfailRestart {s : State} {x0} : Keep 0x3ffff3e s (State.pfailRestart s x0) := by
  unfold State.pfailRestart
  try extract_lets
  repeat' first
    | (with_reducible apply Keep.refl)
    | (show (_ ||| _ : Nat) = _; rfl)
    | (with_reducible apply Keep.step keep_coldStart)
    | (with_reducible apply Keep.step keep_coldReset)
    | (with_reducible apply Keep.ite <;> try extract_lets)

end Sys2Proof.Machine
end

