-- ==== Sys2Proof/Laws/KeepRegWrite.lean ====
section
/-!
SUPPORT. What each operation of Machine/RegWrite.lean leaves alone (Laws/Keep.lean).
-/
set_option Elab.async false
set_option linter.all false
namespace Sys2Proof.Machine

theorem keep_plainStore {s : State} {x0 x1} : Keep 0x2 s (State.plainStore s x0 x1) := by
  unfold State.plainStore
  try extract_lets
  repeat' first
    | (with_reducible apply Keep.refl)
    | (show (_ ||| _ : Nat) = _; rfl)
    | (with_reducible apply Keep.step keep_setReg)
    | (with_reducible apply Keep.step keep_wrAll)
    | (with_reducible apply Keep.step keep_bump)
    | (with_reducible apply Keep.ite <;> try extract_lets)

theorem keep_storeBits {s : State} {x0 x1 x2} : Keep 0x2 s (State.storeBits s x0 x1 x2) := by
  unfold State.storeBits
  try extract_lets
  repeat' first
    | (with_reducible apply Keep.refl)
    | (show (_ ||| _ : Nat) = _; rfl)
    | (with_reducible apply Keep.step keep_setReg)

theorem keep_hold {s : State} {x0 x1} : Keep 0x81002 s (State.hold s x0 x1) := by
  unfold State.hold
  try extract_lets
  repeat' first
    | (with_reducible apply Keep.refl)
    | (show (_ ||| _ : Nat) = _; rfl)
    | (with_reducible apply Keep.step keep_setScn)
    | (with_reducible apply Keep.step keep_pulse)
    | (with_reducible apply Keep.step keep_bump)
    | (with_reducible apply Keep.ite <;> try extract_lets)

theorem keep_rwsWrite {s : State} {x0 x1} : Keep 0x81006 s (State.rwsWrite s x0 x1) := by
  unfold State.rwsWrite
  try extract_lets
  repeat' first
    | (with_reducible apply Keep.refl)
    | (show (_ ||| _ : Nat) = _; rfl)
    | (with_reducible apply Keep.step keep_hold)
    | (with_reducible apply Keep.step keep_rwsStore)
    | (with_reducible apply Keep.ite <;> try extract_lets)

theorem keep_blockRest {s : State} {x0} : Keep 0x3fe1002 s (State.blockRest s x0) := by
  unfold State.blockRest
  try extract_lets
  repeat' first
    | (with_reducible apply Keep.refl)
    | (show (_ ||| _ : Nat) = _; rfl)
    | (show Nat.testBit _ _ = true; rfl)
    | (with_reducible apply Keep.step keep_setCluster)
    | (with_reducible apply Keep.step keep_setTdm)
    | (with_reducible apply Keep.step keep_setAin)
    | (with_reducible apply Keep.step keep_setRoll)
    | (with_reducible apply Keep.step keep_setAout)
    | (with_reducible apply Keep.step keep_setMac)
    | (with_reducible apply Keep.step keep_setTd)
    | (with_reducible apply Keep.step keep_setLane)
    | (with_reducible apply Keep.step keep_setEn)
    | (with_reducible apply Keep.step keep_showForce)
    | (with_reducible apply Keep.step keep_showEff)
    | (with_reducible apply Keep.step keep_setScn)
    | (with_reducible apply Keep.step keep_showDirty)
    | (with_reducible apply Keep.step keep_showSlot)
    | (with_reducible apply Keep.step keep_setNet)
    | (with_reducible apply Keep.step keep_setClk)
    | (with_reducible apply Keep.step keep_showClaim)
    | (with_reducible apply Keep.step keep_setPair)
    | (with_reducible apply Keep.step keep_showFaults)
    | (with_reducible apply Keep.step keep_setFlt)
    | (with_reducible apply Keep.step keep_showLog)
    | (with_reducible apply Keep.step keep_showLife)
    | (with_reducible apply Keep.ite <;> try extract_lets)
    | (split <;> try extract_lets)
    | (with_reducible apply Keep.set_eng)
    | (with_reducible apply Keep.set_ports)
    | (with_reducible apply Keep.set_sl)

theorem keep_srst {s : State} {x0} : Keep 0x3fe100e s (State.srst s x0) := by
  unfold State.srst
  try extract_lets
  repeat' first
    | (with_reducible apply Keep.refl)
    | (show (_ ||| _ : Nat) = _; rfl)
    | (show Nat.testBit _ _ = true; rfl)
    | (with_reducible apply Keep.step keep_setReg)
    | (with_reducible apply Keep.step keep_bumpBy)
    | (with_reducible apply Keep.step keep_setClk)
    | (with_reducible apply Keep.step keep_wr)
    | (with_reducible apply Keep.step keep_blockRest)
    | (with_reducible apply Keep.each <;> try intro s x <;> try extract_lets)
    | (with_reducible apply Keep.lat_filter)

theorem keep_ctrlRefused {s : State} : Keep 0x1002 s (State.ctrlRefused s) := by
  unfold State.ctrlRefused
  try extract_lets
  repeat' first
    | (with_reducible apply Keep.refl)
    | (show (_ ||| _ : Nat) = _; rfl)
    | (with_reducible apply Keep.step keep_pulse)

theorem keep_disable {s : State} {x0} : Keep 0x1001002 s (State.disable s x0) := by
  unfold State.disable
  try extract_lets
  repeat' first
    | (with_reducible apply Keep.refl)
    | (show (_ ||| _ : Nat) = _; rfl)
    | (with_reducible apply Keep.step keep_idle)
    | (with_reducible apply Keep.step keep_refOff)
    | (with_reducible apply Keep.step keep_laneRequest)
    | (with_reducible apply Keep.ite <;> try extract_lets)
    | (with_reducible apply Keep.each <;> try intro s x <;> try extract_lets)

theorem keep_enWrite {s : State} {x0 x1} : Keep 0x1001002 s (State.enWrite s x0 x1) := by
  unfold State.enWrite
  try extract_lets
  repeat' first
    | (with_reducible apply Keep.refl)
    | (show (_ ||| _ : Nat) = _; rfl)
    | (with_reducible apply Keep.step keep_wr)
    | (with_reducible apply Keep.step keep_laneRequest)
    | (with_reducible apply Keep.step keep_refOpen)
    | (with_reducible apply Keep.step keep_ctrlRefused)
    | (with_reducible apply Keep.step keep_pulse)
    | (with_reducible apply Keep.step keep_disable)
    | (with_reducible apply Keep.ite <;> try extract_lets)

theorem keep_freezeWrite {s : State} {x0 x1} : Keep 0xa s (State.freezeWrite s x0 x1) := by
  unfold State.freezeWrite
  try extract_lets
  repeat' first
    | (with_reducible apply Keep.refl)
    | (show (_ ||| _ : Nat) = _; rfl)
    | (show Nat.testBit _ _ = true; rfl)
    | (with_reducible apply Keep.step keep_wr)
    | (with_reducible apply Keep.ite <;> try extract_lets)
    | (with_reducible apply Keep.set_snaps)

theorem keep_pageCtrlWrite {s : State} {x0 x1} : Keep 0x3fe100e s (State.pageCtrlWrite s x0 x1) := by
  unfold State.pageCtrlWrite
  try extract_lets
  repeat' first
    | (with_reducible apply Keep.refl)
    | (show (_ ||| _ : Nat) = _; rfl)
    | (with_reducible apply Keep.step keep_wr)
    | (with_reducible apply Keep.step keep_ctrlRefused)
    | (with_reducible apply Keep.step keep_freezeWrite)
    | (with_reducible apply Keep.step keep_enWrite)
    | (with_reducible apply Keep.step keep_srst)
    | (with_reducible apply Keep.ite <;> try extract_lets)

theorem keep_maskWrite {s : State} {x0 x1} : Keep 0x2 s (State.maskWrite s x0 x1) := by
  unfold State.maskWrite
  try extract_lets
  repeat' first
    | (with_reducible apply Keep.refl)
    | (show (_ ||| _ : Nat) = _; rfl)
    | (with_reducible apply Keep.step keep_unmaskFatal)
    | (with_reducible apply Keep.step keep_wr)

theorem keep_latchWrite {s : State} {x0 x1} : Keep 0x2 s (State.latchWrite s x0 x1) := by
  unfold State.latchWrite
  try extract_lets
  repeat' first
    | (with_reducible apply Keep.refl)
    | (show (_ ||| _ : Nat) = _; rfl)
    | (with_reducible apply Keep.step keep_wr)

theorem keep_classWrite {s : State} {x0 x1 x2} : Keep 0x2 s (State.classWrite s x0 x1 x2) := by
  unfold State.classWrite
  try extract_lets
  repeat' first
    | (with_reducible apply Keep.refl)
    | (show (_ ||| _ : Nat) = _; rfl)
    | (with_reducible apply Keep.step keep_unmaskFatal)
    | (with_reducible apply Keep.step keep_wr)

theorem keep_headerWrite {s : State} {x0 x1 x2} : Keep 0x3fe100e s (State.headerWrite s x0 x1 x2) := by
  unfold State.headerWrite
  try extract_lets
  repeat' first
    | (with_reducible apply Keep.refl)
    | (show (_ ||| _ : Nat) = _; rfl)
    | (with_reducible apply Keep.step keep_pageCtrlWrite)
    | (with_reducible apply Keep.step keep_maskWrite)
    | (with_reducible apply Keep.step keep_latchWrite)
    | (with_reducible apply Keep.step keep_classWrite)
    | (with_reducible apply Keep.step keep_wr)
    | (with_reducible apply Keep.ite <;> try extract_lets)
    | (split <;> try extract_lets)

theorem keep_doorbell {s : State} {x0 x1 x2 x3} : Keep 0x1802 s (State.doorbell s x0 x1 x2 x3) := by
  unfold State.doorbell
  try extract_lets
  repeat' first
    | (with_reducible apply Keep.refl)
    | (with_reducible apply Keep.step keep_showRing)
    | (show (_ ||| _ : Nat) = _; rfl)
    | (with_reducible apply Keep.step keep_pulse)
    | (with_reducible apply Keep.step keep_wr)
    | (with_reducible apply Keep.step keep_ringStop)
    | (with_reducible apply Keep.step keep_showBlocked)
    | (with_reducible apply Keep.step keep_setQueue)
    | (with_reducible apply Keep.ite <;> try extract_lets)

theorem keep_bareDoorbell {s : State} {x0 x1} : Keep 0x1802 s (State.bareDoorbell s x0 x1) := by
  unfold State.bareDoorbell
  try extract_lets
  repeat' first
    | (with_reducible apply Keep.refl)
    | (show (_ ||| _ : Nat) = _; rfl)
    | (with_reducible apply Keep.step keep_setReg)
    | (with_reducible apply Keep.step keep_doorbell)
    | (with_reducible apply Keep.ite <;> try extract_lets)

theorem keep_ringCtrl {s : State} {x0 x1} : Keep 0x802 s (State.ringCtrl s x0 x1) := by
  unfold State.ringCtrl
  try extract_lets
  repeat' first
    | (with_reducible apply Keep.refl)
    | (with_reducible apply Keep.step keep_showRing)
    | (show (_ ||| _ : Nat) = _; rfl)
    | (with_reducible apply Keep.step keep_wr)
    | (with_reducible apply Keep.step keep_setQueue)
    | (with_reducible apply Keep.step keep_wrAll)
    | (with_reducible apply Keep.ite <;> try extract_lets)

theorem keep_ringWrite {s : State} {x0 x1} : Keep 0x1802 s (State.ringWrite s x0 x1) := by
  unfold State.ringWrite
  try extract_lets
  repeat' first
    | (with_reducible apply Keep.refl)
    | (show (_ ||| _ : Nat) = _; rfl)
    | (with_reducible apply Keep.step keep_setReg)
    | (with_reducible apply Keep.step keep_ringCtrl)
    | (with_reducible apply Keep.step keep_bareDoorbell)
    | (with_reducible apply Keep.ite <;> try extract_lets)
    | (split <;> try extract_lets)

theorem keep_msixWrite {s : State} {x0 x1} : Keep 0x82 s (State.msixWrite s x0 x1) := by
  unfold State.msixWrite
  try extract_lets
  repeat' first
    | (with_reducible apply Keep.refl)
    | (show (_ ||| _ : Nat) = _; rfl)
    | (with_reducible apply Keep.step keep_setReg)
    | (with_reducible apply Keep.step keep_put)
    | (with_reducible apply Keep.ite <;> try extract_lets)

theorem keep_hostPageWrite {s : State} {x0 x1} : Keep 0x82 s (State.hostPageWrite s x0 x1) := by
  unfold State.hostPageWrite
  try extract_lets
  repeat' first
    | (with_reducible apply Keep.refl)
    | (show (_ ||| _ : Nat) = _; rfl)
    | (with_reducible apply Keep.step keep_wr)
    | (with_reducible apply Keep.step keep_msixWrite)
    | (with_reducible apply Keep.step keep_plainStore)
    | (with_reducible apply Keep.ite <;> try extract_lets)

theorem keep_matchArm {s : State} : Keep 0x40082 s (State.matchArm s) := by
  unfold State.matchArm
  try extract_lets
  repeat' first
    | (with_reducible apply Keep.refl)
    | (show (_ ||| _ : Nat) = _; rfl)
    | (show Nat.testBit _ _ = true; rfl)
    | (with_reducible apply Keep.step keep_wr)
    | (with_reducible apply Keep.step keep_sendVec)
    | (with_reducible apply Keep.ite <;> try extract_lets)
    | (with_reducible apply Keep.set_eng)

theorem keep_laneWrite {s : State} {x0 x1 x2} : Keep 0x1082 s (State.laneWrite s x0 x1 x2) := by
  unfold State.laneWrite
  try extract_lets
  repeat' first
    | (with_reducible apply Keep.refl)
    | (show (_ ||| _ : Nat) = _; rfl)
    | (with_reducible apply Keep.step keep_storeBits)
    | (with_reducible apply Keep.step keep_plainStore)
    | (with_reducible apply Keep.step keep_laneTestWrite)
    | (with_reducible apply Keep.step keep_injectBit)
    | (with_reducible apply Keep.ite <;> try extract_lets)
    | (split <;> try extract_lets)

theorem keep_tdWrite {s : State} {x0 x1 x2} : Keep 0x1801002 s (State.tdWrite s x0 x1 x2) := by
  unfold State.tdWrite
  try extract_lets
  repeat' first
    | (with_reducible apply Keep.refl)
    | (show (_ ||| _ : Nat) = _; rfl)
    | (with_reducible apply Keep.step keep_plainStore)
    | (with_reducible apply Keep.step keep_reacquire)
    | (with_reducible apply Keep.step keep_showLocked)
    | (with_reducible apply Keep.ite <;> try extract_lets)

theorem keep_refWrite {s : State} {x0 x1} : Keep 0x1001002 s (State.refWrite s x0 x1) := by
  unfold State.refWrite
  try extract_lets
  repeat' first
    | (with_reducible apply Keep.refl)
    | (show (_ ||| _ : Nat) = _; rfl)
    | (with_reducible apply Keep.step keep_refOpen)
    | (with_reducible apply Keep.step keep_wr)
    | (with_reducible apply Keep.step keep_refNco)
    | (with_reducible apply Keep.step keep_alignWrite)
    | (with_reducible apply Keep.step keep_plainStore)
    | (with_reducible apply Keep.step keep_candOff)
    | (with_reducible apply Keep.ite <;> try extract_lets)

theorem keep_scrubWrite {s : State} {x0} : Keep 0x2 s (State.scrubWrite s x0) := by
  unfold State.scrubWrite
  try extract_lets
  repeat' first
    | (with_reducible apply Keep.refl)
    | (show (_ ||| _ : Nat) = _; rfl)
    | (with_reducible apply Keep.step keep_wr)
    | (with_reducible apply Keep.ite <;> try extract_lets)

theorem keep_marchWrite {s : State} {x0} : Keep 0x2 s (State.marchWrite s x0) := by
  unfold State.marchWrite
  try extract_lets
  repeat' first
    | (with_reducible apply Keep.refl)
    | (show (_ ||| _ : Nat) = _; rfl)
    | (with_reducible apply Keep.step keep_plainStore)
    | (with_reducible apply Keep.step keep_marchGo)
    | (with_reducible apply Keep.step keep_marchAbort)
    | (with_reducible apply Keep.ite <;> try extract_lets)

theorem keep_takeReg {s : State} {x0 x1} : Keep 0x3ffffbe s (State.takeReg s x0 x1) := by
  unfold State.takeReg
  try extract_lets
  repeat' first
    | (with_reducible apply Keep.refl)
    | (show (_ ||| _ : Nat) = _; rfl)
    | (with_reducible apply Keep.step keep_headerWrite)
    | (with_reducible apply Keep.step keep_rwsWrite)
    | (with_reducible apply Keep.step keep_hostPageWrite)
    | (with_reducible apply Keep.step keep_ringWrite)
    | (with_reducible apply Keep.step keep_matchArm)
    | (with_reducible apply Keep.step keep_plainStore)
    | (with_reducible apply Keep.step keep_capWrite)
    | (with_reducible apply Keep.step keep_wr)
    | (with_reducible apply Keep.step keep_setReg)
    | (with_reducible apply Keep.step keep_showEff)
    | (with_reducible apply Keep.step keep_aoutCommit)
    | (with_reducible apply Keep.step keep_tdWrite)
    | (with_reducible apply Keep.step keep_tdcLoad)
    | (with_reducible apply Keep.step keep_refWrite)
    | (with_reducible apply Keep.step keep_laneWrite)
    | (with_reducible apply Keep.step keep_scrubWrite)
    | (with_reducible apply Keep.step keep_storeBits)
    | (with_reducible apply Keep.step keep_marchWrite)
    | (with_reducible apply Keep.step keep_ack)
    | (with_reducible apply Keep.step keep_inject)
    | (with_reducible apply Keep.step keep_mbReset)
    | (with_reducible apply Keep.ite <;> try extract_lets)

theorem keep_unallocated {s : State} {x0} : Keep 0x2 s (State.unallocated s x0) := by
  unfold State.unallocated
  try extract_lets
  repeat' first
    | (with_reducible apply Keep.refl)
    | (show (_ ||| _ : Nat) = _; rfl)
    | (with_reducible apply Keep.step keep_wr)
    | (with_reducible apply Keep.step keep_bumpSat)

theorem keep_narrowWrite {s : State} {x0} : Keep 0x2 s (State.narrowWrite s x0) := by
  unfold State.narrowWrite
  try extract_lets
  repeat' first
    | (with_reducible apply Keep.refl)
    | (show (_ ||| _ : Nat) = _; rfl)
    | (show Nat.testBit _ _ = true; rfl)
    | (with_reducible apply Keep.step keep_unallocated)
    | (with_reducible apply Keep.ite <;> try extract_lets)
    | (split <;> try extract_lets)
    | (dsimp only)

theorem keep_hostWrite {s : State} {x0 x1} : Keep 0x3ffffbe s (State.hostWrite s x0 x1) := by
  unfold State.hostWrite
  try extract_lets
  repeat' first
    | (with_reducible apply Keep.refl)
    | (show (_ ||| _ : Nat) = _; rfl)
    | (with_reducible apply Keep.step keep_unallocated)
    | (with_reducible apply Keep.step keep_wrAll)
    | (with_reducible apply Keep.step keep_bump)
    | (with_reducible apply Keep.step keep_pulse)
    | (with_reducible apply Keep.step keep_setClk)
    | (with_reducible apply Keep.step keep_takeReg)
    | (with_reducible apply Keep.step keep_mirrorWrite)
    | (with_reducible apply Keep.ite <;> try extract_lets)

theorem keep_writeBy {s : State} {x0 x1 x2} : Keep 0x3ffffbe s (State.writeBy s x0 x1 x2) := by
  unfold State.writeBy
  try extract_lets
  repeat' first
    | (with_reducible apply Keep.refl)
    | (show (_ ||| _ : Nat) = _; rfl)
    | (show Nat.testBit _ _ = true; rfl)
    | (with_reducible apply Keep.step keep_hostWrite)
    | (with_reducible apply Keep.ite <;> try extract_lets)
    | (split <;> try extract_lets)
    | (dsimp only)

theorem keep_clockReturn {s : State} {x0} : Keep 0x3ffffbe s (State.clockReturn s x0) := by
  unfold State.clockReturn
  try extract_lets
  repeat' first
    | (with_reducible apply Keep.refl)
    | (show (_ ||| _ : Nat) = _; rfl)
    | (with_reducible apply Keep.step keep_setClk)
    | (with_reducible apply Keep.step keep_wr)
    | (with_reducible apply Keep.step keep_source)
    | (with_reducible apply Keep.step keep_takeReg)
    | (with_reducible apply Keep.ite <;> try extract_lets)
    | (with_reducible apply Keep.each <;> try intro s x <;> try extract_lets)
    | (dsimp +zetaDelta only; split <;> try extract_lets)

end Sys2Proof.Machine
end

