-- ==== Sys2Proof/Laws/KeepAdmit.lean ====
section
/-!
SUPPORT. What each operation of Machine/Admit.lean leaves alone (Laws/Keep.lean).
-/
set_option Elab.async false
set_option linter.all false
namespace Sys2Proof.Machine

theorem keep_underPlan {s : State} {x0} : Keep 0x2 s (State.underPlan s x0) := by
  unfold State.underPlan
  try extract_lets
  repeat' first
    | (with_reducible apply Keep.refl)
    | (show (_ ||| _ : Nat) = _; rfl)
    | (with_reducible apply Keep.step keep_wr)
    | (with_reducible apply Keep.step keep_imaged)

theorem keep_layLatent {s : State} {x0} : Keep 0x80402 s (State.layLatent s x0) := by
  unfold State.layLatent
  try extract_lets
  repeat' first
    | (with_reducible apply Keep.refl)
    | (show (_ ||| _ : Nat) = _; rfl)
    | (show Nat.testBit _ _ = true; rfl)
    | (with_reducible apply Keep.step keep_setWin)
    | (with_reducible apply Keep.step keep_showDirty)
    | (with_reducible apply Keep.step keep_setScn)
    | (with_reducible apply Keep.each <;> try intro s x <;> try extract_lets)
    | (with_reducible apply Keep.win_filter)

theorem keep_cmdPlanLoad {s : State} {x0} : Keep 0x140080 s (State.cmdPlanLoad s x0).st := by
  unfold State.cmdPlanLoad
  try extract_lets
  repeat' first
    | (with_reducible apply Keep.refl)
    | (show (_ ||| _ : Nat) = _; rfl)
    | (show Nat.testBit _ _ = true; rfl)
    | (with_reducible apply Keep.step keep_fin)
    | (with_reducible apply Keep.step keep_armChange)
    | (with_reducible apply Keep.ite_st <;> try extract_lets)
    | (split <;> try extract_lets)
    | (with_reducible apply Keep.set_eng)

theorem keep_planTaken {s : State} {b} : Keep 0x40000 s ((s.planTaken b).getD s) := by
  unfold State.planTaken
  cases parsePlan b with
  | none => exact Keep.refl
  | some p => exact Keep.set_eng Keep.refl rfl


theorem keep_admitted_ {s : State} {x0} : Keep 0xc1402 s (State.admitted_ s x0) := by
  unfold State.admitted_
  try extract_lets
  repeat' first
    | (with_reducible apply Keep.refl)
    | (show (_ ||| _ : Nat) = _; rfl)
    | (show Nat.testBit _ _ = true; rfl)
    | (with_reducible apply Keep.step keep_bump)
    | (with_reducible apply Keep.step keep_wrAll)
    | (with_reducible apply Keep.step keep_pulse)
    | (with_reducible apply Keep.step keep_layLatent)
    | (with_reducible apply Keep.ite <;> try extract_lets)
    | (with_reducible apply Keep.set_eng)

theorem keep_cmdAdmit {s : State} {x0 x1 x2} : Keep 0x1c1c82 s (State.cmdAdmit s x0 x1 x2).st := by
  unfold State.cmdAdmit
  try extract_lets
  repeat' first
    | (with_reducible apply Keep.refl)
    | (show (_ ||| _ : Nat) = _; rfl)
    | (with_reducible apply Keep.step keep_fin)
    | (with_reducible apply Keep.step keep_dmaOut)
    | (with_reducible apply Keep.step keep_admitted_)
    | (with_reducible apply Keep.step keep_armChange)
    | (with_reducible apply Keep.step keep_finWith)
    | (with_reducible apply Keep.ite <;> try extract_lets)
    | (with_reducible apply Keep.ite_st <;> try extract_lets)
    | (dsimp only)
    | (split <;> try extract_lets)

theorem keep_takeAdmission {s : State} {x0} : Keep 0xc1402 s (State.takeAdmission s x0) := by
  unfold State.takeAdmission
  try extract_lets
  repeat' first
    | (with_reducible apply Keep.refl)
    | (show (_ ||| _ : Nat) = _; rfl)
    | (with_reducible apply Keep.step keep_admitted_)
    | (with_reducible apply Keep.ite <;> try extract_lets)
    | (dsimp only)
    | (split <;> try extract_lets)

end Sys2Proof.Machine
end

