-- ==== Sys2Proof/Laws/KeepAreas.lean ====
section
/-!
SUPPORT. What each operation of Machine/Areas.lean leaves alone (Laws/Keep.lean).
-/
set_option Elab.async false
set_option linter.all false
namespace Sys2Proof.Machine

theorem keep_areaRead {s : State} {x0 x1} : Keep 0x20 s (State.areaRead s x0 x1).2 := by
  unfold State.areaRead
  try extract_lets
  repeat' first
    | (with_reducible apply Keep.refl)
    | (show Nat.testBit _ _ = true; rfl)
    | (with_reducible apply Keep.ite_snd <;> try extract_lets)
    | (dsimp only)
    | (split <;> try extract_lets)
    | (with_reducible apply Keep.set_areas)

theorem keep_areaWrite {s : State} {x0 x1 x2} : Keep 0x40000 s (State.areaWrite s x0 x1 x2) := by
  unfold State.areaWrite
  try extract_lets
  repeat' first
    | (with_reducible apply Keep.refl)
    | (show (_ ||| _ : Nat) = _; rfl)
    | (with_reducible apply Keep.step keep_meterHold)
    | (with_reducible apply Keep.step keep_recCtrl)
    | (with_reducible apply Keep.ite <;> try extract_lets)
    | (split <;> try extract_lets)

end Sys2Proof.Machine
end

