-- ==== Sys2Proof/Laws/KeepWindow.lean ====
section
/-!
SUPPORT. What each operation of Machine/Window.lean leaves alone (Laws/Keep.lean).
-/
set_option Elab.async false
set_option linter.all false
namespace Sys2Proof.Machine

theorem keep_storeWord {s : State} {x0 x1} : Keep 0x400 s (State.storeWord s x0 x1) := by
  unfold State.storeWord
  try extract_lets
  repeat' first
    | (with_reducible apply Keep.refl)
    | (show (_ ||| _ : Nat) = _; rfl)
    | (with_reducible apply Keep.step keep_setWord)

theorem keep_windowStore {s : State} {x0 x1} : Keep 0x481402 s (State.windowStore s x0 x1) := by
  unfold State.windowStore
  try extract_lets
  repeat' first
    | (with_reducible apply Keep.refl)
    | (show (_ ||| _ : Nat) = _; rfl)
    | (with_reducible apply Keep.step keep_hold)
    | (with_reducible apply Keep.step keep_latentStore)
    | (with_reducible apply Keep.step keep_storeWord)
    | (with_reducible apply Keep.step keep_tableWrite)
    | (with_reducible apply Keep.ite <;> try extract_lets)

theorem keep_storeJournal {s : State} {x0} : Keep 0x81002 s (State.storeJournal s x0) := by
  unfold State.storeJournal
  try extract_lets
  repeat' first
    | (with_reducible apply Keep.refl)
    | (show (_ ||| _ : Nat) = _; rfl)
    | (with_reducible apply Keep.step keep_journal)
    | (with_reducible apply Keep.ite <;> try extract_lets)

theorem keep_windowTake {s : State} {x0 x1} : Keep 0x581482 s (State.windowTake s x0 x1) := by
  unfold State.windowTake
  try extract_lets
  repeat' first
    | (with_reducible apply Keep.refl)
    | (show (_ ||| _ : Nat) = _; rfl)
    | (with_reducible apply Keep.step keep_mirrorWrite)
    | (with_reducible apply Keep.step keep_storeJournal)
    | (with_reducible apply Keep.step keep_windowStore)

theorem keep_windowWrite {s : State} {x0 x1} : Keep 0x5c1482 s (State.windowWrite s x0 x1) := by
  unfold State.windowWrite
  try extract_lets
  repeat' first
    | (with_reducible apply Keep.refl)
    | (show (_ ||| _ : Nat) = _; rfl)
    | (with_reducible apply Keep.step keep_areaWrite)
    | (with_reducible apply Keep.step keep_pulse)
    | (with_reducible apply Keep.step keep_windowTake)
    | (with_reducible apply Keep.ite <;> try extract_lets)

theorem keep_windowRead {s : State} {x0} : Keep 0x20 s (State.windowRead s x0).2 := by
  unfold State.windowRead
  try extract_lets
  repeat' first
    | (with_reducible apply Keep.refl)
    | (show (_ ||| _ : Nat) = _; rfl)
    | (with_reducible apply Keep.step keep_areaRead)
    | (with_reducible apply Keep.ite_snd <;> try extract_lets)

theorem keep_windowWords {s : State} {x0 x1} : Keep 0x20 s (State.windowWords s x0 x1).2 := by
  induction x1 generalizing s x0 with
  | zero =>
    unfold State.windowWords
    try extract_lets
    repeat' first
      | (with_reducible apply Keep.refl)
  | succ k ih =>
    unfold State.windowWords
    try extract_lets
    repeat' first
      | (with_reducible apply Keep.refl)
      | (show (_ ||| _ : Nat) = _; rfl)
      | (with_reducible apply Keep.step ih)
      | (with_reducible apply Keep.step keep_windowRead)

end Sys2Proof.Machine
end

