-- ==== Sys2Proof/Laws/KeepPairMsgs.lean ====
section
/-!
SUPPORT. What each operation of Machine/PairMsgs.lean leaves alone (Laws/Keep.lean).
-/
set_option Elab.async false
set_option linter.all false
namespace Sys2Proof.Machine

theorem keep_ackMsg {s : State} {x0} : Keep 0x80 s (State.ackMsg s x0) := by
  unfold State.ackMsg
  try extract_lets
  repeat' first
    | (with_reducible apply Keep.refl)
    | (show (_ ||| _ : Nat) = _; rfl)
    | (with_reducible apply Keep.step keep_put)

theorem keep_msgBad {s : State} : Keep 0x1002 s (State.msgBad s) := by
  unfold State.msgBad
  try extract_lets
  repeat' first
    | (with_reducible apply Keep.refl)
    | (show (_ ||| _ : Nat) = _; rfl)
    | (with_reducible apply Keep.step keep_pulse)
    | (with_reducible apply Keep.step keep_bump)

theorem keep_enterElection {s : State} : Keep 0x100082 s (State.enterElection s) := by
  unfold State.enterElection
  try extract_lets
  repeat' first
    | (with_reducible apply Keep.refl)
    | (show (_ ||| _ : Nat) = _; rfl)
    | (with_reducible apply Keep.step keep_pairTo)
    | (with_reducible apply Keep.step keep_sendCtrl)

theorem keep_answerJoin {s : State} : Keep 0x100082 s (State.answerJoin s) := by
  unfold State.answerJoin
  try extract_lets
  repeat' first
    | (with_reducible apply Keep.refl)
    | (show (_ ||| _ : Nat) = _; rfl)
    | (with_reducible apply Keep.step keep_enterElection)
    | (with_reducible apply Keep.step keep_setPair)
    | (with_reducible apply Keep.ite <;> try extract_lets)

theorem keep_linkReady {s : State} : Keep 0x100182 s (State.linkReady s) := by
  unfold State.linkReady
  try extract_lets
  repeat' first
    | (with_reducible apply Keep.refl)
    | (show (_ ||| _ : Nat) = _; rfl)
    | (with_reducible apply Keep.step keep_open_)
    | (with_reducible apply Keep.step keep_wrAll)
    | (with_reducible apply Keep.step keep_enterElection)
    | (with_reducible apply Keep.ite <;> try extract_lets)

theorem keep_rateStep {s : State} {x0} : Keep 0x100182 s (State.rateStep s x0) := by
  unfold State.rateStep
  try extract_lets
  repeat' first
    | (with_reducible apply Keep.refl)
    | (show (_ ||| _ : Nat) = _; rfl)
    | (with_reducible apply Keep.step keep_linkReady)
    | (with_reducible apply Keep.step keep_wr)
    | (with_reducible apply Keep.ite <;> try extract_lets)
    | (with_reducible apply Keep.each <;> try intro s x <;> try extract_lets)

theorem keep_joinFail {s : State} {x0 x1} : Keep 0x101882 s (State.joinFail s x0 x1) := by
  unfold State.joinFail
  try extract_lets
  repeat' first
    | (with_reducible apply Keep.refl)
    | (show (_ ||| _ : Nat) = _; rfl)
    | (with_reducible apply Keep.step keep_pairTo)
    | (with_reducible apply Keep.step keep_joinDone)

theorem keep_capabilityRx {s : State} {x0 x1 x2 x3 x4} : Keep 0x101182 s (State.capabilityRx s x0 x1 x2 x3 x4) := by
  unfold State.capabilityRx
  try extract_lets
  repeat' first
    | (with_reducible apply Keep.refl)
    | (show (_ ||| _ : Nat) = _; rfl)
    | (with_reducible apply Keep.step keep_setPair)
    | (with_reducible apply Keep.step keep_wrAll)
    | (with_reducible apply Keep.step keep_pulse)
    | (with_reducible apply Keep.step keep_wr)
    | (with_reducible apply Keep.step keep_linkReady)
    | (with_reducible apply Keep.ite <;> try extract_lets)

theorem keep_follows {s : State} {x0 x1} : Keep 0x1103982 s (State.follows s x0 x1) := by
  unfold State.follows
  try extract_lets
  repeat' first
    | (with_reducible apply Keep.refl)
    | (show (_ ||| _ : Nat) = _; rfl)
    | (with_reducible apply Keep.step keep_setPair)
    | (with_reducible apply Keep.step keep_transferFrom)
    | (with_reducible apply Keep.step keep_showClaim)
    | (with_reducible apply Keep.step keep_refRole)
    | (with_reducible apply Keep.step keep_toRole)

theorem keep_leadsOn {s : State} : Keep 0x1143982 s (State.leadsOn s) := by
  unfold State.leadsOn
  try extract_lets
  repeat' first
    | (with_reducible apply Keep.refl)
    | (show (_ ||| _ : Nat) = _; rfl)
    | (with_reducible apply Keep.step keep_promote)
    | (with_reducible apply Keep.step keep_transferFrom)
    | (with_reducible apply Keep.step keep_setPair)
    | (with_reducible apply Keep.ite <;> try extract_lets)

theorem keep_election {s : State} : Keep 0x1143982 s (State.election s) := by
  unfold State.election
  try extract_lets
  repeat' first
    | (with_reducible apply Keep.refl)
    | (show (_ ||| _ : Nat) = _; rfl)
    | (with_reducible apply Keep.step keep_joinFail)
    | (with_reducible apply Keep.step keep_setPair)
    | (with_reducible apply Keep.step keep_leadsOn)
    | (with_reducible apply Keep.step keep_sendCtrl)
    | (with_reducible apply Keep.step keep_follows)
    | (with_reducible apply Keep.ite <;> try extract_lets)
    | (split <;> try extract_lets)

theorem keep_waitExpiry {s : State} : Keep 0x1143882 s (State.waitExpiry s) := by
  unfold State.waitExpiry
  try extract_lets
  repeat' first
    | (with_reducible apply Keep.refl)
    | (show (_ ||| _ : Nat) = _; rfl)
    | (with_reducible apply Keep.step keep_pairTo)
    | (with_reducible apply Keep.step keep_promote)
    | (with_reducible apply Keep.step keep_showClaim)
    | (with_reducible apply Keep.step keep_setPair)
    | (with_reducible apply Keep.ite <;> try extract_lets)

theorem keep_linkTimeout {s : State} : Keep 0x101882 s (State.linkTimeout s) := by
  unfold State.linkTimeout
  try extract_lets
  repeat' first
    | (with_reducible apply Keep.refl)
    | (show (_ ||| _ : Nat) = _; rfl)
    | (with_reducible apply Keep.step keep_joinFail)
    | (with_reducible apply Keep.ite <;> try extract_lets)

theorem keep_transferDone {s : State} : Keep 0x100002 s (State.transferDone s) := by
  unfold State.transferDone
  try extract_lets
  repeat' first
    | (with_reducible apply Keep.refl)
    | (show (_ ||| _ : Nat) = _; rfl)
    | (with_reducible apply Keep.step keep_setPair)
    | (with_reducible apply Keep.step keep_wrAll)
    | (with_reducible apply Keep.ite <;> try extract_lets)

theorem keep_verifyDone {s : State} : Keep 0x103982 s (State.verifyDone s) := by
  unfold State.verifyDone
  try extract_lets
  repeat' first
    | (with_reducible apply Keep.refl)
    | (show (_ ||| _ : Nat) = _; rfl)
    | (with_reducible apply Keep.step keep_toRole)
    | (with_reducible apply Keep.step keep_joinDone)
    | (with_reducible apply Keep.step keep_setPair)
    | (with_reducible apply Keep.step keep_pairTo)
    | (with_reducible apply Keep.step keep_transferFrom)
    | (with_reducible apply Keep.step keep_joinFail)
    | (with_reducible apply Keep.step keep_pulse)
    | (with_reducible apply Keep.ite <;> try extract_lets)

theorem keep_cmdPairJoin {s : State} {x0 x1 x2} : Keep 0x100082 s (State.cmdPairJoin s x0 x1 x2).st := by
  unfold State.cmdPairJoin
  try extract_lets
  repeat' first
    | (with_reducible apply Keep.refl)
    | (show (_ ||| _ : Nat) = _; rfl)
    | (with_reducible apply Keep.step keep_fin)
    | (with_reducible apply Keep.step keep_setPair)
    | (with_reducible apply Keep.step keep_later)
    | (with_reducible apply Keep.step keep_enterElection)
    | (with_reducible apply Keep.step keep_pairTo)
    | (with_reducible apply Keep.ite <;> try extract_lets)
    | (with_reducible apply Keep.ite_st <;> try extract_lets)

theorem keep_cmdPairYield {s : State} {x0} : Keep 0x1103882 s (State.cmdPairYield s x0).st := by
  unfold State.cmdPairYield
  try extract_lets
  repeat' first
    | (with_reducible apply Keep.refl)
    | (show (_ ||| _ : Nat) = _; rfl)
    | (with_reducible apply Keep.step keep_fin)
    | (with_reducible apply Keep.step keep_later)
    | (with_reducible apply Keep.step keep_armChange)
    | (with_reducible apply Keep.step keep_setPair)
    | (with_reducible apply Keep.step keep_toRole)
    | (with_reducible apply Keep.step keep_sendCtrl)
    | (with_reducible apply Keep.step keep_refRole)
    | (with_reducible apply Keep.step keep_showClaim)
    | (with_reducible apply Keep.step keep_pairTo)
    | (with_reducible apply Keep.ite_st <;> try extract_lets)

theorem keep_handover {s : State} : Keep 0x1143882 s (State.handover s) := by
  unfold State.handover
  try extract_lets
  repeat' first
    | (with_reducible apply Keep.refl)
    | (show (_ ||| _ : Nat) = _; rfl)
    | (with_reducible apply Keep.step keep_yieldUnit)
    | (with_reducible apply Keep.step keep_setPair)
    | (with_reducible apply Keep.step keep_promote)
    | (with_reducible apply Keep.ite <;> try extract_lets)

theorem keep_handoverComplete {s : State} : Keep 0x103882 s (State.handoverComplete s) := by
  unfold State.handoverComplete
  try extract_lets
  repeat' first
    | (with_reducible apply Keep.refl)
    | (show (_ ||| _ : Nat) = _; rfl)
    | (with_reducible apply Keep.step keep_toRole)
    | (with_reducible apply Keep.step keep_showClaim)
    | (with_reducible apply Keep.step keep_setPair)
    | (with_reducible apply Keep.step keep_respond)
    | (with_reducible apply Keep.ite <;> try extract_lets)
    | (split <;> try extract_lets)

theorem keep_confirmChange {s : State} {x0} : Keep 0x25c3d82 s (State.confirmChange s x0) := by
  unfold State.confirmChange
  try extract_lets
  repeat' first
    | (with_reducible apply Keep.refl)
    | (show (_ ||| _ : Nat) = _; rfl)
    | (show Nat.testBit _ _ = true; rfl)
    | (with_reducible apply Keep.step keep_setScn)
    | (with_reducible apply Keep.step keep_beginFix)
    | (with_reducible apply Keep.step keep_slVerify)
    | (with_reducible apply Keep.step keep_slLearn)
    | (with_reducible apply Keep.step keep_slAbort)
    | (with_reducible apply Keep.step keep_fin)
    | (with_reducible apply Keep.step keep_setEn)
    | (with_reducible apply Keep.step keep_setPair)
    | (with_reducible apply Keep.ite <;> try extract_lets)
    | (dsimp only)
    | (split <;> try extract_lets)
    | (with_reducible apply Keep.set_eng)
    | (with_reducible apply Keep.set_sl)

theorem keep_cancelPeer {s : State} {x0 x1} : Keep 0x81406 s (State.cancelPeer s x0 x1) := by
  unfold State.cancelPeer
  try extract_lets
  repeat' first
    | (with_reducible apply Keep.refl)
    | (show (_ ||| _ : Nat) = _; rfl)
    | (show Nat.testBit _ _ = true; rfl)
    | (with_reducible apply Keep.step keep_cancelArmed)
    | (with_reducible apply Keep.step keep_journal)
    | (with_reducible apply Keep.step keep_setScn)
    | (with_reducible apply Keep.step keep_bump)
    | (with_reducible apply Keep.step keep_wr)
    | (with_reducible apply Keep.ite <;> try extract_lets)
    | (split <;> try extract_lets)
    | (dsimp only)

theorem keep_armedChange {s : State} {x0} : Keep 0x20c1406 s (State.armedChange s x0) := by
  unfold State.armedChange
  try extract_lets
  repeat' first
    | (with_reducible apply Keep.refl)
    | (with_reducible apply Keep.step keep_cancelPeer)
    | (show (_ ||| _ : Nat) = _; rfl)
    | (show Nat.testBit _ _ = true; rfl)
    | (with_reducible apply Keep.step keep_planTaken)
    | (with_reducible apply Keep.step keep_takeAdmission)
    | (with_reducible apply Keep.step keep_wr)
    | (with_reducible apply Keep.step keep_setScn)
    | (with_reducible apply Keep.step keep_cancelArmed)
    | (with_reducible apply Keep.step keep_fixStart)
    | (with_reducible apply Keep.step keep_setEn)
    | (with_reducible apply Keep.ite <;> try extract_lets)
    | (dsimp only)
    | (split <;> try extract_lets)
    | (with_reducible apply Keep.set_eng)

theorem keep_armRx {s : State} {x0 x1} : Keep 0x21c1486 s (State.armRx s x0 x1) := by
  unfold State.armRx
  try extract_lets
  repeat' first
    | (with_reducible apply Keep.refl)
    | (show (_ ||| _ : Nat) = _; rfl)
    | (with_reducible apply Keep.step keep_armedChange)
    | (with_reducible apply Keep.step keep_setPair)
    | (with_reducible apply Keep.step keep_ackMsg)
    | (with_reducible apply Keep.ite <;> try extract_lets)

theorem keep_confirmRx {s : State} {x0 x1} : Keep 0x25c3d82 s (State.confirmRx s x0 x1) := by
  unfold State.confirmRx
  try extract_lets
  repeat' first
    | (with_reducible apply Keep.refl)
    | (with_reducible apply Keep.step keep_fixDone)
    | (with_reducible apply Keep.step keep_sendReliable)
    | (show (_ ||| _ : Nat) = _; rfl)
    | (with_reducible apply Keep.step keep_ackMsg)
    | (with_reducible apply Keep.step keep_setPair)
    | (with_reducible apply Keep.step keep_confirmChange)
    | (with_reducible apply Keep.ite <;> try extract_lets)
    | (dsimp only)
    | (split <;> try extract_lets)

theorem keep_peerDrops {s : State} {x0} : Keep 0x81882 s (State.peerDrops s x0) := by
  unfold State.peerDrops
  try extract_lets
  repeat' first
    | (with_reducible apply Keep.refl)
    | (show (_ ||| _ : Nat) = _; rfl)
    | (show Nat.testBit _ _ = true; rfl)
    | (with_reducible apply Keep.step keep_fixCheck)
    | (with_reducible apply Keep.step keep_setScn)
    | (with_reducible apply Keep.ite <;> try extract_lets)
    | (split <;> try extract_lets)
    | (dsimp only)

theorem keep_ackRx {s : State} {x0} : Keep 0x181882 s (State.ackRx s x0) := by
  unfold State.ackRx
  try extract_lets
  repeat' first
    | (with_reducible apply Keep.refl)
    | (with_reducible apply Keep.step keep_peerDrops)
    | (show (_ ||| _ : Nat) = _; rfl)
    | (with_reducible apply Keep.step keep_setPair)
    | (with_reducible apply Keep.step keep_respond)
    | (with_reducible apply Keep.step keep_sendReliable)
    | (with_reducible apply Keep.ite <;> try extract_lets)
    | (with_reducible apply Keep.each <;> try intro s x <;> try extract_lets)
    | (dsimp only)
    | (split <;> try extract_lets)

theorem keep_confirmDeadline {s : State} : Keep 0x181882 s (State.confirmDeadline s) := by
  unfold State.confirmDeadline
  try extract_lets
  repeat' first
    | (with_reducible apply Keep.refl)
    | (show (_ ||| _ : Nat) = _; rfl)
    | (show Nat.testBit _ _ = true; rfl)
    | (with_reducible apply Keep.step keep_peerDrops)
    | (with_reducible apply Keep.step keep_setPair)
    | (with_reducible apply Keep.ite <;> try extract_lets)
    | (with_reducible apply Keep.each <;> try intro s x <;> try extract_lets)
    | (split <;> try extract_lets)
    | (dsimp only)

theorem keep_retransmit {s : State} {x0} : Keep 0x82 s (State.retransmit s x0) := by
  unfold State.retransmit
  try extract_lets
  repeat' first
    | (with_reducible apply Keep.refl)
    | (show (_ ||| _ : Nat) = _; rfl)
    | (with_reducible apply Keep.step keep_bump)
    | (with_reducible apply Keep.step keep_put)
    | (split <;> try extract_lets)

theorem keep_mirrorTake {s : State} {x0} : Keep 0x3ffffbe s (State.mirrorTake s x0) := by
  unfold State.mirrorTake
  try extract_lets
  repeat' first
    | (with_reducible apply Keep.refl)
    | (show (_ ||| _ : Nat) = _; rfl)
    | (with_reducible apply Keep.step keep_setClk)
    | (with_reducible apply Keep.step keep_takeReg)
    | (with_reducible apply Keep.step keep_storeJournal)
    | (with_reducible apply Keep.step keep_windowStore)
    | (with_reducible apply Keep.step keep_publish)
    | (with_reducible apply Keep.step keep_peerShape)
    | (with_reducible apply Keep.step keep_peerRestart)
    | (with_reducible apply Keep.step keep_setAnchor)
    | (with_reducible apply Keep.step keep_setTd)
    | (with_reducible apply Keep.ite <;> try extract_lets)
    | (dsimp only)
    | (split <;> try extract_lets)

theorem keep_paramRx {s : State} {x0 x1} : Keep 0x3ffffbe s (State.paramRx s x0 x1) := by
  unfold State.paramRx
  try extract_lets
  repeat' first
    | (with_reducible apply Keep.refl)
    | (show (_ ||| _ : Nat) = _; rfl)
    | (with_reducible apply Keep.step keep_ackMsg)
    | (with_reducible apply Keep.step keep_mirrorTake)
    | (with_reducible apply Keep.ite <;> try extract_lets)
    | (with_reducible apply Keep.each <;> try intro s x <;> try extract_lets)

theorem keep_inputRx {s : State} {x0 x1} : Keep 0x100000 s (State.inputRx s x0 x1) := by
  unfold State.inputRx
  try extract_lets
  repeat' first
    | (with_reducible apply Keep.refl)
    | (show (_ ||| _ : Nat) = _; rfl)
    | (with_reducible apply Keep.step keep_setPair)
    | (with_reducible apply Keep.ite <;> try extract_lets)

theorem keep_stateRx {s : State} {x0} : Keep 0x100000 s (State.stateRx s x0) := by
  unfold State.stateRx
  try extract_lets
  repeat' first
    | (with_reducible apply Keep.refl)
    | (show (_ ||| _ : Nat) = _; rfl)
    | (with_reducible apply Keep.step keep_setPair)
    | (with_reducible apply Keep.ite <;> try extract_lets)

theorem keep_clearConfig {s : State} : Keep 0xc0406 s (State.clearConfig s) := by
  unfold State.clearConfig
  try extract_lets
  repeat' first
    | (with_reducible apply Keep.refl)
    | (show (_ ||| _ : Nat) = _; rfl)
    | (show Nat.testBit _ _ = true; rfl)
    | (with_reducible apply Keep.step keep_setLat)
    | (with_reducible apply Keep.step keep_setReg)
    | (with_reducible apply Keep.step keep_showDirty)
    | (with_reducible apply Keep.step keep_showArmed)
    | (with_reducible apply Keep.step keep_setScn)
    | (with_reducible apply Keep.each <;> try intro s x <;> try extract_lets)
    | (with_reducible apply Keep.set_eng)
    | (with_reducible apply Keep.win_filter)

theorem keep_bulkTake {s : State} {x0} : Keep 0x2fe3d86 s (State.bulkTake s x0) := by
  cases x0 <;> dsimp only [State.bulkTake]
  · exact Keep.step keep_clearConfig rfl Keep.refl
  · exact Keep.set_eng Keep.refl rfl
  · exact Keep.step keep_wrAll rfl (Keep.set_eng Keep.refl rfl)
  · exact Keep.step keep_takeOver rfl (Keep.set_eng (Keep.step keep_planIn rfl Keep.refl) rfl)
  · exact Keep.step keep_wr rfl (Keep.step keep_setScn rfl Keep.refl)
  · exact Keep.step keep_setWin rfl Keep.refl
  · exact Keep.ite (Keep.step keep_setLat rfl (Keep.step keep_setReg rfl Keep.refl)) (Keep.step keep_setReg rfl Keep.refl)
  · exact Keep.step keep_markLine rfl Keep.refl
  · exact Keep.step keep_markReg rfl Keep.refl
  · exact Keep.step keep_setScn rfl Keep.refl
  · exact Keep.step keep_putClip rfl Keep.refl
  · exact Keep.set_eng Keep.refl rfl
  · exact by
      split
      · exact Keep.step keep_setInst rfl Keep.refl
      · exact Keep.refl
  · exact Keep.set_eng Keep.refl rfl
  · exact Keep.step keep_showForce rfl (Keep.step keep_showEff rfl (Keep.set_eng Keep.refl rfl))
  · exact Keep.each Keep.refl fun s x => Keep.step keep_setTrig rfl Keep.refl
  · exact Keep.step keep_setCluster rfl Keep.refl
  · exact Keep.set_eng Keep.refl rfl
  · exact Keep.set_eng Keep.refl rfl
  · exact Keep.set_eng Keep.refl rfl
  · exact Keep.step keep_confirmChange rfl (Keep.step keep_armedChange rfl Keep.refl)
  · exact Keep.step keep_setAnchor rfl Keep.refl

theorem keep_bulkRx {s : State} {x0 x1} : Keep 0x2fe3d86 s (State.bulkRx s x0 x1) := by
  unfold State.bulkRx
  try extract_lets
  repeat' first
    | (with_reducible apply Keep.refl)
    | (show (_ ||| _ : Nat) = _; rfl)
    | (with_reducible apply Keep.step keep_ackMsg)
    | (with_reducible apply Keep.step keep_bulkTake)
    | (with_reducible apply Keep.ite <;> try extract_lets)
    | (with_reducible apply Keep.each <;> try intro s x <;> try extract_lets)

theorem keep_ctrlRx {s : State} {x0 x1} : Keep 0x1183982 s (State.ctrlRx s x0 x1) := by
  unfold State.ctrlRx
  try extract_lets
  repeat' first
    | (with_reducible apply Keep.refl)
    | (with_reducible apply Keep.step keep_fixDone)
    | (show (_ ||| _ : Nat) = _; rfl)
    | (with_reducible apply Keep.step keep_ackMsg)
    | (with_reducible apply Keep.step keep_capabilityRx)
    | (with_reducible apply Keep.step keep_wr)
    | (with_reducible apply Keep.step keep_setPair)
    | (with_reducible apply Keep.step keep_answerJoin)
    | (with_reducible apply Keep.step keep_joinFail)
    | (with_reducible apply Keep.step keep_pairTo)
    | (with_reducible apply Keep.step keep_katSettle)
    | (with_reducible apply Keep.step keep_fixCheck)
    | (with_reducible apply Keep.step keep_setScn)
    | (with_reducible apply Keep.ite <;> try extract_lets)
    | (split <;> try extract_lets)

theorem keep_disagree {s : State} : Keep 0x101002 s (State.disagree s) := by
  unfold State.disagree
  try extract_lets
  repeat' first
    | (with_reducible apply Keep.refl)
    | (show (_ ||| _ : Nat) = _; rfl)
    | (with_reducible apply Keep.step keep_katCall)
    | (with_reducible apply Keep.step keep_pulse)

theorem keep_compareFrame {s : State} {x0 x1 x2} : Keep 0x101002 s (State.compareFrame s x0 x1 x2) := by
  unfold State.compareFrame
  try extract_lets
  repeat' first
    | (with_reducible apply Keep.refl)
    | (show (_ ||| _ : Nat) = _; rfl)
    | (with_reducible apply Keep.step keep_setPair)
    | (with_reducible apply Keep.step keep_wr)
    | (with_reducible apply Keep.step keep_pulse)
    | (with_reducible apply Keep.step keep_bump)
    | (with_reducible apply Keep.step keep_disagree)
    | (with_reducible apply Keep.ite <;> try extract_lets)
    | (with_reducible apply Keep.each <;> try intro s x <;> try extract_lets)
    | (dsimp only)
    | (split <;> try extract_lets)

theorem keep_compareDigest {s : State} {x0} : Keep 0x103982 s (State.compareDigest s x0) := by
  unfold State.compareDigest
  try extract_lets
  repeat' first
    | (with_reducible apply Keep.refl)
    | (show (_ ||| _ : Nat) = _; rfl)
    | (with_reducible apply Keep.step keep_pulse)
    | (with_reducible apply Keep.step keep_setPair)
    | (with_reducible apply Keep.step keep_resync)
    | (with_reducible apply Keep.ite <;> try extract_lets)

theorem keep_rejoin {s : State} : Keep 0x1103982 s (State.rejoin s) := by
  unfold State.rejoin
  try extract_lets
  repeat' first
    | (with_reducible apply Keep.refl)
    | (show (_ ||| _ : Nat) = _; rfl)
    | (with_reducible apply Keep.step keep_refRole)
    | (with_reducible apply Keep.step keep_toRole)
    | (with_reducible apply Keep.step keep_transferFrom)
    | (with_reducible apply Keep.ite <;> try extract_lets)

theorem keep_tickRx {s : State} {x0 x1 x2 x3 x4} : Keep 0x1103982 s (State.tickRx s x0 x1 x2 x3 x4) := by
  unfold State.tickRx
  try extract_lets
  repeat' first
    | (with_reducible apply Keep.refl)
    | (show (_ ||| _ : Nat) = _; rfl)
    | (with_reducible apply Keep.step keep_source)
    | (with_reducible apply Keep.step keep_setPair)
    | (with_reducible apply Keep.step keep_peerClaim)
    | (with_reducible apply Keep.step keep_rejoin)
    | (with_reducible apply Keep.step keep_wr64)
    | (with_reducible apply Keep.step keep_disagree)
    | (with_reducible apply Keep.step keep_compareDigest)
    | (with_reducible apply Keep.step keep_compareFrame)
    | (with_reducible apply Keep.ite <;> try extract_lets)
    | (split <;> try extract_lets)

theorem keep_windowClose {s : State} : Keep 0x101082 s (State.windowClose s) := by
  unfold State.windowClose
  try extract_lets
  repeat' first
    | (with_reducible apply Keep.refl)
    | (show (_ ||| _ : Nat) = _; rfl)
    | (with_reducible apply Keep.step keep_wr)
    | (with_reducible apply Keep.step keep_setPair)
    | (with_reducible apply Keep.step keep_disagree)
    | (with_reducible apply Keep.step keep_bump)
    | (with_reducible apply Keep.step keep_sendReliable)
    | (with_reducible apply Keep.ite <;> try extract_lets)
    | (split <;> try extract_lets)

theorem keep_acksDone {s : State} : Keep 0x101882 s (State.acksDone s) := by
  unfold State.acksDone
  try extract_lets
  repeat' first
    | (with_reducible apply Keep.refl)
    | (show (_ ||| _ : Nat) = _; rfl)
    | (with_reducible apply Keep.step keep_setPair)
    | (with_reducible apply Keep.step keep_respond)
    | (with_reducible apply Keep.each <;> try intro s x <;> try extract_lets)

theorem keep_heartbeatMiss {s : State} : Keep 0x183882 s (State.heartbeatMiss s) := by
  unfold State.heartbeatMiss
  try extract_lets
  repeat' first
    | (with_reducible apply Keep.refl)
    | (show (_ ||| _ : Nat) = _; rfl)
    | (with_reducible apply Keep.step keep_wr)
    | (with_reducible apply Keep.step keep_setPair)
    | (with_reducible apply Keep.step keep_pairTo)
    | (with_reducible apply Keep.step keep_source)
    | (with_reducible apply Keep.step keep_demote)
    | (with_reducible apply Keep.step keep_acksDone)
    | (with_reducible apply Keep.step keep_fixCheck)
    | (with_reducible apply Keep.ite <;> try extract_lets)

theorem keep_clmiLost {s : State} : Keep 0x1002 s (State.clmiLost s) := by
  unfold State.clmiLost
  try extract_lets
  repeat' first
    | (with_reducible apply Keep.refl)
    | (show (_ ||| _ : Nat) = _; rfl)
    | (with_reducible apply Keep.step keep_source)
    | (with_reducible apply Keep.ite <;> try extract_lets)

theorem keep_clmiRx {s : State} {x0} : Keep 0x1103802 s (State.clmiRx s x0) := by
  unfold State.clmiRx
  try extract_lets
  repeat' first
    | (with_reducible apply Keep.refl)
    | (show (_ ||| _ : Nat) = _; rfl)
    | (with_reducible apply Keep.step keep_pulse)
    | (with_reducible apply Keep.step keep_bump)
    | (with_reducible apply Keep.step keep_peerClaim)
    | (with_reducible apply Keep.step keep_setPair)
    | (with_reducible apply Keep.step keep_wr)
    | (with_reducible apply Keep.ite <;> try extract_lets)
    | (split <;> try extract_lets)

theorem keep_promotion {s : State} : Keep 0x1143882 s (State.promotion s) := by
  unfold State.promotion
  try extract_lets
  repeat' first
    | (with_reducible apply Keep.refl)
    | (show (_ ||| _ : Nat) = _; rfl)
    | (with_reducible apply Keep.step keep_promote)
    | (with_reducible apply Keep.step keep_setPair)
    | (with_reducible apply Keep.step keep_source)
    | (with_reducible apply Keep.ite <;> try extract_lets)

end Sys2Proof.Machine
end

