-- ==== Sys2Proof/Laws/KeepRegRead.lean ====
section
/-!
SUPPORT. What each operation of Machine/RegRead.lean leaves alone (Laws/Keep.lean).
-/
set_option Elab.async false
set_option linter.all false
namespace Sys2Proof.Machine

theorem keep_captured {s : State} {x0} : Keep 0x10 s (State.captured s x0) := by
  unfold State.captured
  try extract_lets
  repeat' first
    | (with_reducible apply Keep.refl)
    | (show Nat.testBit _ _ = true; rfl)
    | (with_reducible apply Keep.set_caps)

theorem keep_readEffect {s : State} {x0} : Keep 0x112 s (State.readEffect s x0) := by
  unfold State.readEffect
  try extract_lets
  repeat' first
    | (with_reducible apply Keep.refl)
    | (show (_ ||| _ : Nat) = _; rfl)
    | (with_reducible apply Keep.step keep_wr)
    | (with_reducible apply Keep.step keep_open_)
    | (with_reducible apply Keep.step keep_topCapture)
    | (with_reducible apply Keep.step keep_captured)
    | (with_reducible apply Keep.ite <;> try extract_lets)

theorem keep_readReg {s : State} {x0} : Keep 0x112 s (State.readReg s x0).2 := by
  unfold State.readReg
  try extract_lets
  repeat' first
    | (with_reducible apply Keep.refl)
    | (show (_ ||| _ : Nat) = _; rfl)
    | (with_reducible apply Keep.step keep_unallocated)
    | (with_reducible apply Keep.step keep_wr)
    | (with_reducible apply Keep.step keep_readEffect)
    | (with_reducible apply Keep.ite <;> try extract_lets)
    | (with_reducible apply Keep.ite_snd <;> try extract_lets)

theorem keep_readTop {s : State} {x0} : Keep 0x42 s (State.readTop s x0) := by
  unfold State.readTop
  try extract_lets
  repeat' first
    | (with_reducible apply Keep.refl)
    | (show (_ ||| _ : Nat) = _; rfl)
    | (with_reducible apply Keep.step keep_answer)
    | (with_reducible apply Keep.step keep_topCapture)
    | (with_reducible apply Keep.ite <;> try extract_lets)

theorem keep_fieldWrite {s : State} {x0 x1} : Keep 0x3ffffbe s (State.fieldWrite s x0 x1) := by
  unfold State.fieldWrite
  try extract_lets
  repeat' first
    | (with_reducible apply Keep.refl)
    | (show (_ ||| _ : Nat) = _; rfl)
    | (with_reducible apply Keep.step keep_hostWrite)

theorem keep_readAnswer {s : State} {x0} : Keep 0x152 s (State.readAnswer s x0) := by
  unfold State.readAnswer
  try extract_lets
  repeat' first
    | (with_reducible apply Keep.refl)
    | (show (_ ||| _ : Nat) = _; rfl)
    | (with_reducible apply Keep.step keep_readReg)
    | (with_reducible apply Keep.step keep_answer)

end Sys2Proof.Machine
end

