-- ==== Sys2Proof/Laws/KeepHostCmd.lean ====
section
/-!
SUPPORT. What each operation of Machine/HostCmd.lean leaves alone (Laws/Keep.lean).
-/
set_option Elab.async false
set_option linter.all false
namespace Sys2Proof.Machine

theorem keep_authFailed {s : State} : Keep 0x1802 s (State.authFailed s) := by
  unfold State.authFailed
  try extract_lets
  repeat' first
    | (with_reducible apply Keep.refl)
    | (show (_ ||| _ : Nat) = _; rfl)
    | (show Nat.testBit _ _ = true; rfl)
    | (with_reducible apply Keep.step keep_pulse)
    | (with_reducible apply Keep.step keep_bump)
    | (with_reducible apply Keep.ite <;> try extract_lets)
    | (with_reducible apply Keep.set_host)

theorem keep_precheck {s : State} {x0 x1} : Keep 0x1802 s (State.precheck s x0 x1).2 := by
  unfold State.precheck
  try extract_lets
  repeat' first
    | (with_reducible apply Keep.refl)
    | (show (_ ||| _ : Nat) = _; rfl)
    | (with_reducible apply Keep.step keep_authFailed)
    | (with_reducible apply Keep.step keep_wr)
    | (with_reducible apply Keep.ite <;> try extract_lets)
    | (with_reducible apply Keep.ite_snd <;> try extract_lets)
    | (split <;> try extract_lets)

theorem keep_accept {s : State} {x0 x1} : Keep 0x2 s (State.accept s x0 x1) := by
  unfold State.accept
  try extract_lets
  repeat' first
    | (with_reducible apply Keep.refl)
    | (show (_ ||| _ : Nat) = _; rfl)
    | (show Nat.testBit _ _ = true; rfl)
    | (with_reducible apply Keep.step keep_wr)
    | (with_reducible apply Keep.ite <;> try extract_lets)
    | (split <;> try extract_lets)
    | (dsimp only)

theorem keep_storeWords {s : State} {x0} : Keep 0x400 s (State.storeWords s x0) := by
  unfold State.storeWords
  try extract_lets
  repeat' first
    | (with_reducible apply Keep.refl)
    | (show (_ ||| _ : Nat) = _; rfl)
    | (with_reducible apply Keep.step keep_storeWord)
    | (with_reducible apply Keep.each <;> try intro s x <;> try extract_lets)

theorem keep_cmdParamWrite {s : State} {x0 x1} : Keep 0x5c1482 s (State.cmdParamWrite s x0 x1).st := by
  unfold State.cmdParamWrite
  try extract_lets
  repeat' first
    | (with_reducible apply Keep.refl)
    | (with_reducible apply Keep.step keep_pulse)
    | (show (_ ||| _ : Nat) = _; rfl)
    | (with_reducible apply Keep.step keep_fin)
    | (with_reducible apply Keep.step keep_areaWrite)
    | (with_reducible apply Keep.step keep_storeJournal)
    | (with_reducible apply Keep.step keep_windowStore)
    | (with_reducible apply Keep.step keep_mirrorWrite)
    | (with_reducible apply Keep.ite_st <;> try extract_lets)
    | (with_reducible apply Keep.each <;> try intro s x <;> try extract_lets)

theorem keep_cmdParamRead {s : State} {x0 x1} : Keep 0x8a0 s (State.cmdParamRead s x0 x1).st := by
  unfold State.cmdParamRead
  try extract_lets
  repeat' first
    | (with_reducible apply Keep.refl)
    | (show (_ ||| _ : Nat) = _; rfl)
    | (with_reducible apply Keep.step keep_fin)
    | (with_reducible apply Keep.step keep_windowWords)
    | (with_reducible apply Keep.step keep_finWith)
    | (with_reducible apply Keep.step keep_dmaOut)
    | (with_reducible apply Keep.ite_st <;> try extract_lets)

theorem keep_takeUpload {s : State} {x0 x1} : Keep 0x882 s (State.takeUpload s x0 x1) := by
  induction x1 generalizing s with
  | zero =>
    unfold State.takeUpload
    try extract_lets
    repeat' first
      | (with_reducible apply Keep.refl)
  | succ k ih =>
    unfold State.takeUpload
    try extract_lets
    repeat' first
      | (with_reducible apply Keep.refl)
      | (show (_ ||| _ : Nat) = _; rfl)
      | (with_reducible apply Keep.step ih)
      | (with_reducible apply Keep.step keep_countIrq)
      | (with_reducible apply Keep.step keep_consume)
      | (split <;> try extract_lets)

theorem keep_clipTaken {s : State} {x0 x1} : Keep 0x140080 s (State.clipTaken s x0 x1).st := by
  unfold State.clipTaken
  try extract_lets
  repeat' first
    | (with_reducible apply Keep.refl)
    | (show (_ ||| _ : Nat) = _; rfl)
    | (with_reducible apply Keep.step keep_putClip)
    | (with_reducible apply Keep.step keep_sendReliable)
    | (with_reducible apply Keep.step keep_later)
    | (with_reducible apply Keep.step keep_setPair)
    | (with_reducible apply Keep.step keep_fin)
    | (with_reducible apply Keep.ite_st <;> try extract_lets)

theorem keep_clipGather {s : State} {x0 x1 x2} : Keep 0x140882 s (State.clipGather s x0 x1 x2).st := by
  unfold State.clipGather
  try extract_lets
  repeat' first
    | (with_reducible apply Keep.refl)
    | (show (_ ||| _ : Nat) = _; rfl)
    | (show Nat.testBit _ _ = true; rfl)
    | (with_reducible apply Keep.step keep_later)
    | (with_reducible apply Keep.step keep_fin)
    | (with_reducible apply Keep.step keep_takeUpload)
    | (with_reducible apply Keep.step keep_clipTaken)
    | (with_reducible apply Keep.ite_st <;> try extract_lets)
    | (with_reducible apply Keep.set_host)

theorem keep_cmdClipLoad {s : State} {x0 x1 x2} : Keep 0x140882 s (State.cmdClipLoad s x0 x1 x2).st := by
  unfold State.cmdClipLoad
  try extract_lets
  repeat' first
    | (with_reducible apply Keep.refl)
    | (show (_ ||| _ : Nat) = _; rfl)
    | (with_reducible apply Keep.step keep_fin)
    | (with_reducible apply Keep.step keep_clipGather)
    | (with_reducible apply Keep.ite_st <;> try extract_lets)

theorem keep_clipGoOn {s : State} : Keep 0x141882 s (State.clipGoOn s) := by
  unfold State.clipGoOn
  try extract_lets
  repeat' first
    | (with_reducible apply Keep.refl)
    | (show (_ ||| _ : Nat) = _; rfl)
    | (with_reducible apply Keep.step keep_clipGather)
    | (with_reducible apply Keep.step keep_respond)
    | (dsimp only)
    | (split <;> try extract_lets)

theorem keep_cmdLogRead {s : State} {x0 x1} : Keep 0x880 s (State.cmdLogRead s x0 x1).st := by
  unfold State.cmdLogRead
  try extract_lets
  repeat' first
    | (with_reducible apply Keep.refl)
    | (show (_ ||| _ : Nat) = _; rfl)
    | (with_reducible apply Keep.step keep_fin)
    | (with_reducible apply Keep.step keep_finWith)
    | (with_reducible apply Keep.step keep_dmaOut)
    | (with_reducible apply Keep.ite_st <;> try extract_lets)

theorem keep_setSheets {s : State} {x0} : Keep 0x800 s (State.setSheets s x0) := by
  unfold State.setSheets
  try extract_lets
  repeat' first
    | (with_reducible apply Keep.refl)
    | (show Nat.testBit _ _ = true; rfl)
    | (with_reducible apply Keep.set_host)

theorem keep_cmdSheetDefine {s : State} {x0 x1 x2} : Keep 0x800 s (State.cmdSheetDefine s x0 x1 x2).st := by
  unfold State.cmdSheetDefine
  try extract_lets
  repeat' first
    | (with_reducible apply Keep.refl)
    | (show (_ ||| _ : Nat) = _; rfl)
    | (with_reducible apply Keep.step keep_fin)
    | (with_reducible apply Keep.step keep_setSheets)
    | (with_reducible apply Keep.ite_st <;> try extract_lets)
    | (split <;> try extract_lets)

theorem keep_gatherSheet {s : State} {x0 x1} : Keep 0x800 s (State.gatherSheet s x0 x1) := by
  unfold State.gatherSheet
  try extract_lets
  repeat' first
    | (with_reducible apply Keep.refl)
    | (show (_ ||| _ : Nat) = _; rfl)
    | (show Nat.testBit _ _ = true; rfl)
    | (with_reducible apply Keep.step keep_setSheets)
    | (with_reducible apply Keep.ite <;> try extract_lets)
    | (with_reducible apply Keep.set_host)

theorem keep_gatherSheets {s : State} {x0} : Keep 0x800 s (State.gatherSheets s x0) := by
  unfold State.gatherSheets
  try extract_lets
  repeat' first
    | (with_reducible apply Keep.refl)
    | (show (_ ||| _ : Nat) = _; rfl)
    | (with_reducible apply Keep.step keep_setSheets)
    | (with_reducible apply Keep.step keep_gatherSheet)
    | (with_reducible apply Keep.each <;> try intro s x <;> try extract_lets)

theorem keep_sheetEmit {s : State} {x0} : Keep 0x1882 s (State.sheetEmit s x0) := by
  unfold State.sheetEmit
  try extract_lets
  repeat' first
    | (with_reducible apply Keep.refl)
    | (with_reducible apply Keep.step keep_failPosted)
    | (show (_ ||| _ : Nat) = _; rfl)
    | (show Nat.testBit _ _ = true; rfl)
    | (with_reducible apply Keep.step keep_bumpSat)
    | (with_reducible apply Keep.step keep_setSheets)
    | (with_reducible apply Keep.step keep_finishPosted)
    | (with_reducible apply Keep.step keep_put)
    | (with_reducible apply Keep.step keep_fillPosted)
    | (with_reducible apply Keep.ite <;> try extract_lets)
    | (dsimp only)
    | (split <;> try extract_lets)
    | (with_reducible apply Keep.set_host)

theorem keep_deliverEvent {s : State} {x0} : Keep 0x1882 s (State.deliverEvent s x0) := by
  unfold State.deliverEvent
  try extract_lets
  repeat' first
    | (with_reducible apply Keep.refl)
    | (with_reducible apply Keep.step keep_failPosted)
    | (show (_ ||| _ : Nat) = _; rfl)
    | (show Nat.testBit _ _ = true; rfl)
    | (with_reducible apply Keep.step keep_finishPosted)
    | (with_reducible apply Keep.step keep_put)
    | (with_reducible apply Keep.step keep_fillPosted)
    | (with_reducible apply Keep.ite <;> try extract_lets)
    | (dsimp only)
    | (split <;> try extract_lets)
    | (with_reducible apply Keep.set_host)

theorem keep_irqTimeout {s : State} {x0} : Keep 0x882 s (State.irqTimeout s x0) := by
  unfold State.irqTimeout
  try extract_lets
  repeat' first
    | (with_reducible apply Keep.refl)
    | (show (_ ||| _ : Nat) = _; rfl)
    | (show Nat.testBit _ _ = true; rfl)
    | (with_reducible apply Keep.step keep_sendVec)
    | (with_reducible apply Keep.ite <;> try extract_lets)
    | (with_reducible apply Keep.set_host)

theorem keep_cmdSafelight {s : State} {x0 x1} : Keep 0x503d82 s (State.cmdSafelight s x0 x1).st := by
  unfold State.cmdSafelight
  try extract_lets
  repeat' first
    | (with_reducible apply Keep.refl)
    | (show (_ ||| _ : Nat) = _; rfl)
    | (with_reducible apply Keep.step keep_slVerify)
    | (with_reducible apply Keep.step keep_slLearn)
    | (with_reducible apply Keep.step keep_slStore)
    | (with_reducible apply Keep.step keep_slAbort)
    | (with_reducible apply Keep.step keep_fin)
    | (split <;> try extract_lets)

theorem keep_cmdDevelopOrCancel {s : State} {x0 x1} : Keep 0x181486 s (State.cmdDevelopOrCancel s x0 x1).st := by
  unfold State.cmdDevelopOrCancel
  try extract_lets
  repeat' first
    | (with_reducible apply Keep.refl)
    | (show (_ ||| _ : Nat) = _; rfl)
    | (with_reducible apply Keep.step keep_cmdCancel)
    | (with_reducible apply Keep.step keep_cmdDevelop)
    | (with_reducible apply Keep.ite_st <;> try extract_lets)

theorem keep_cmdAdmitTo {s : State} {x0 x1} : Keep 0x1c1d82 s (State.cmdAdmitTo s x0 x1).st := by
  unfold State.cmdAdmitTo
  try extract_lets
  repeat' first
    | (with_reducible apply Keep.refl)
    | (show (_ ||| _ : Nat) = _; rfl)
    | (with_reducible apply Keep.step keep_fin)
    | (with_reducible apply Keep.step keep_cmdAdmit)
    | (with_reducible apply Keep.step keep_open_)
    | (with_reducible apply Keep.ite_st <;> try extract_lets)
    | (split <;> try extract_lets)

theorem keep_perform {s : State} {x0 x1 x2} : Keep 0x1ddfda6 s (State.perform s x0 x1 x2).st := by
  unfold State.perform
  try extract_lets
  repeat' first
    | (with_reducible apply Keep.refl)
    | (show (_ ||| _ : Nat) = _; rfl)
    | (with_reducible apply Keep.step keep_fin)
    | (with_reducible apply Keep.step keep_cmdParamWrite)
    | (with_reducible apply Keep.step keep_cmdParamRead)
    | (with_reducible apply Keep.step keep_cmdPlanLoad)
    | (with_reducible apply Keep.step keep_cmdAdmitTo)
    | (with_reducible apply Keep.step keep_cmdDevelopOrCancel)
    | (with_reducible apply Keep.step keep_cmdFix)
    | (with_reducible apply Keep.step keep_cmdClipLoad)
    | (with_reducible apply Keep.step keep_cmdClipPlay)
    | (with_reducible apply Keep.step keep_cmdSafelight)
    | (with_reducible apply Keep.step keep_cmdPairJoin)
    | (with_reducible apply Keep.step keep_cmdPairYield)
    | (with_reducible apply Keep.step keep_timeStep)
    | (with_reducible apply Keep.step keep_timeRate)
    | (with_reducible apply Keep.step keep_cmdLogRead)
    | (with_reducible apply Keep.step keep_cmdSheetDefine)
    | (with_reducible apply Keep.step keep_cmdUpdBegin)
    | (with_reducible apply Keep.step keep_cmdUpdChunk)
    | (with_reducible apply Keep.step keep_cmdUpdCommit)
    | (with_reducible apply Keep.step keep_cmdLifecycle)
    | (split <;> try extract_lets)

theorem keep_runCommand {s : State} {x0 x1 x2} : Keep 0x3ffffbe s (State.runCommand s x0 x1 x2) := by
  unfold State.runCommand
  try extract_lets
  repeat' first
    | (with_reducible apply Keep.refl)
    | (with_reducible apply Keep.step keep_accept)
    | (show (_ ||| _ : Nat) = _; rfl)
    | (with_reducible apply Keep.step keep_precheck)
    | (with_reducible apply Keep.step keep_fin)
    | (with_reducible apply Keep.step keep_perform)
    | (with_reducible apply Keep.step keep_respond)
    | (with_reducible apply Keep.step keep_coldReset)
    | (with_reducible apply Keep.ite <;> try extract_lets)
    | (dsimp only)
    | (split <;> try extract_lets)
    | (dsimp +zetaDelta only; split <;> try extract_lets)

theorem keep_tookTurn {s : State} {x0 x1} : Keep 0x800 s (State.tookTurn s x0 x1) := by
  unfold State.tookTurn
  try extract_lets
  repeat' first
    | (with_reducible apply Keep.refl)
    | (show (_ ||| _ : Nat) = _; rfl)
    | (show Nat.testBit _ _ = true; rfl)
    | (with_reducible apply Keep.ite <;> try extract_lets)
    | (with_reducible apply Keep.set_host)
    | (with_reducible refine Keep.mk_gen ?_ (fun i hi => by unfold State.samePart; split <;> first | rfl | trivial | exact absurd hi (by decide)))
    | (split <;> try extract_lets)
    | (dsimp only)

theorem keep_dispatch {s : State} {x0 x1} : Keep 0x3ffffbe s (State.dispatch s x0 x1) := by
  unfold State.dispatch
  try extract_lets
  repeat' first
    | (with_reducible apply Keep.refl)
    | (with_reducible apply Keep.step keep_tookTurn)
    | (show (_ ||| _ : Nat) = _; rfl)
    | (show Nat.testBit _ _ = true; rfl)
    | (with_reducible apply Keep.step keep_consume)
    | (with_reducible apply Keep.step keep_showBlocked)
    | (with_reducible apply Keep.step keep_runCommand)
    | (split <;> try extract_lets)
    | (dsimp +zetaDelta only; split <;> try extract_lets)
    | (with_reducible apply Keep.set_host)

theorem keep_dispatchNext {s : State} {x0} : Keep 0x3ffffbe s (State.dispatchNext s x0) := by
  unfold State.dispatchNext
  try extract_lets
  repeat' first
    | (with_reducible apply Keep.refl)
    | (show (_ ||| _ : Nat) = _; rfl)
    | (with_reducible apply Keep.step keep_dispatch)
    | (split <;> try extract_lets)

theorem keep_command {s : State} {x0 x1 x2} : Keep 0x3ffffbe s (State.command s x0 x1 x2) := by
  unfold State.command
  try extract_lets
  repeat' first
    | (with_reducible apply Keep.refl)
    | (show (_ ||| _ : Nat) = _; rfl)
    | (with_reducible apply Keep.step keep_dispatchNext)
    | (with_reducible apply Keep.step keep_doorbell)

theorem keep_ringDoorbell {s : State} {x0 x1 x2 x3} : Keep 0x141882 s (State.ringDoorbell s x0 x1 x2 x3) := by
  unfold State.ringDoorbell
  try extract_lets
  repeat' first
    | (with_reducible apply Keep.refl)
    | (show (_ ||| _ : Nat) = _; rfl)
    | (with_reducible apply Keep.step keep_clipGoOn)
    | (with_reducible apply Keep.step keep_bareDoorbell)
    | (with_reducible apply Keep.step keep_doorbell)
    | (with_reducible apply Keep.ite <;> try extract_lets)

theorem keep_spiWrite {s : State} {x0 x1 x2} : Keep 0x3ffffbe s (State.spiWrite s x0 x1 x2) := by
  unfold State.spiWrite
  try extract_lets
  repeat' first
    | (with_reducible apply Keep.refl)
    | (with_reducible apply Keep.step keep_writeBy)
    | (show (_ ||| _ : Nat) = _; rfl)
    | (with_reducible apply Keep.step keep_hostWrite)
    | (with_reducible apply Keep.step keep_windowWrite)
    | (with_reducible apply Keep.step keep_spiPut)
    | (with_reducible apply Keep.ite <;> try extract_lets)

theorem keep_spiWrites {s : State} {x0 x1 x2} : Keep 0x3ffffbe s (State.spiWrites s x0 x1 x2) := by
  induction x2 generalizing s x1 with
  | nil =>
    unfold State.spiWrites
    try extract_lets
    repeat' first
      | (with_reducible apply Keep.refl)
  | cons w t ih =>
    unfold State.spiWrites
    try extract_lets
    repeat' first
      | (with_reducible apply Keep.refl)
      | (show (_ ||| _ : Nat) = _; rfl)
      | (with_reducible apply Keep.step ih)
      | (with_reducible apply Keep.step keep_spiWrite)

theorem keep_spiRead {s : State} {x0 x1} : Keep 0x132 s (State.spiRead s x0 x1).2 := by
  unfold State.spiRead
  try extract_lets
  repeat' first
    | (with_reducible apply Keep.refl)
    | (show (_ ||| _ : Nat) = _; rfl)
    | (with_reducible apply Keep.step keep_open_)
    | (with_reducible apply Keep.step keep_readReg)
    | (with_reducible apply Keep.step keep_windowRead)
    | (with_reducible apply Keep.ite_snd <;> try extract_lets)

theorem keep_spiReads {s : State} {x0 x1 x2} : Keep 0x132 s (State.spiReads s x0 x1 x2).2 := by
  induction x2 generalizing s x1 with
  | zero =>
    unfold State.spiReads
    try extract_lets
    repeat' first
      | (with_reducible apply Keep.refl)
  | succ k ih =>
    unfold State.spiReads
    try extract_lets
    repeat' first
      | (with_reducible apply Keep.refl)
      | (show (_ ||| _ : Nat) = _; rfl)
      | (with_reducible apply Keep.step ih)
      | (with_reducible apply Keep.step keep_spiRead)

theorem keep_spiTransaction {s : State} {x0 x1 x2 x3} : Keep 0x3ffffbe s (State.spiTransaction s x0 x1 x2 x3) := by
  unfold State.spiTransaction
  try extract_lets
  repeat' first
    | (with_reducible apply Keep.refl)
    | (show (_ ||| _ : Nat) = _; rfl)
    | (with_reducible apply Keep.step keep_wr)
    | (with_reducible apply Keep.step keep_spiWrites)
    | (with_reducible apply Keep.step keep_spiReads)
    | (with_reducible apply Keep.step keep_put)
    | (with_reducible apply Keep.ite <;> try extract_lets)

end Sys2Proof.Machine
end

