-- ==== Sys2Proof/Laws/State.lean ====
section
/-!
SUPPORT. Reading a component of the state after an update: what the named operations leave as it was, and what the setters put in place.
-/
set_option Elab.async false
set_option linter.all false
namespace Sys2Proof.Machine

/-! setReg -/
@[simp] theorem setReg_pending {s : State} {x0 x1} : (State.setReg s x0 x1).pending = s.pending := (keep_setReg (s := s)).pending
@[simp] theorem setReg_lat {s : State} {x0 x1} : (State.setReg s x0 x1).lat = s.lat := (keep_setReg (s := s)).lat
@[simp] theorem setReg_snaps {s : State} {x0 x1} : (State.setReg s x0 x1).snaps = s.snaps := (keep_setReg (s := s)).snaps
@[simp] theorem setReg_caps {s : State} {x0 x1} : (State.setReg s x0 x1).caps = s.caps := (keep_setReg (s := s)).caps
@[simp] theorem setReg_areas {s : State} {x0 x1} : (State.setReg s x0 x1).areas = s.areas := (keep_setReg (s := s)).areas
@[simp] theorem setReg_rdata {s : State} {x0 x1} : (State.setReg s x0 x1).rdata = s.rdata := (keep_setReg (s := s)).rdata
@[simp] theorem setReg_out {s : State} {x0 x1} : (State.setReg s x0 x1).out = s.out := (keep_setReg (s := s)).out
@[simp] theorem setReg_free {s : State} {x0 x1} : (State.setReg s x0 x1).free = s.free := (keep_setReg (s := s)).free
@[simp] theorem setReg_ms {s : State} {x0 x1} : (State.setReg s x0 x1).ms = s.ms := (keep_setReg (s := s)).ms
@[simp] theorem setReg_win {s : State} {x0 x1} : (State.setReg s x0 x1).win = s.win := (keep_setReg (s := s)).win
@[simp] theorem setReg_host {s : State} {x0 x1} : (State.setReg s x0 x1).host = s.host := (keep_setReg (s := s)).host
@[simp] theorem setReg_flt {s : State} {x0 x1} : (State.setReg s x0 x1).flt = s.flt := (keep_setReg (s := s)).flt
@[simp] theorem setReg_log {s : State} {x0 x1} : (State.setReg s x0 x1).log = s.log := (keep_setReg (s := s)).log
@[simp] theorem setReg_sec {s : State} {x0 x1} : (State.setReg s x0 x1).sec = s.sec := (keep_setReg (s := s)).sec
@[simp] theorem setReg_flash {s : State} {x0 x1} : (State.setReg s x0 x1).flash = s.flash := (keep_setReg (s := s)).flash
@[simp] theorem setReg_upd {s : State} {x0 x1} : (State.setReg s x0 x1).upd = s.upd := (keep_setReg (s := s)).upd
@[simp] theorem setReg_clusters {s : State} {x0 x1} : (State.setReg s x0 x1).clusters = s.clusters := (keep_setReg (s := s)).clusters
@[simp] theorem setReg_eng {s : State} {x0 x1} : (State.setReg s x0 x1).eng = s.eng := (keep_setReg (s := s)).eng
@[simp] theorem setReg_scn {s : State} {x0 x1} : (State.setReg s x0 x1).scn = s.scn := (keep_setReg (s := s)).scn
@[simp] theorem setReg_pair {s : State} {x0 x1} : (State.setReg s x0 x1).pair = s.pair := (keep_setReg (s := s)).pair
@[simp] theorem setReg_ports {s : State} {x0 x1} : (State.setReg s x0 x1).ports = s.ports := (keep_setReg (s := s)).ports
@[simp] theorem setReg_sl {s : State} {x0 x1} : (State.setReg s x0 x1).sl = s.sl := (keep_setReg (s := s)).sl
@[simp] theorem setReg_net {s : State} {x0 x1} : (State.setReg s x0 x1).net = s.net := (keep_setReg (s := s)).net
@[simp] theorem setReg_clk {s : State} {x0 x1} : (State.setReg s x0 x1).clk = s.clk := (keep_setReg (s := s)).clk
@[simp] theorem setReg_en {s : State} {x0 x1} : (State.setReg s x0 x1).en = s.en := (keep_setReg (s := s)).en

/-! wr -/
@[simp] theorem wr_pending {s : State} {x0 x1} : (State.wr s x0 x1).pending = s.pending := (keep_wr (s := s)).pending
@[simp] theorem wr_lat {s : State} {x0 x1} : (State.wr s x0 x1).lat = s.lat := (keep_wr (s := s)).lat
@[simp] theorem wr_snaps {s : State} {x0 x1} : (State.wr s x0 x1).snaps = s.snaps := (keep_wr (s := s)).snaps
@[simp] theorem wr_caps {s : State} {x0 x1} : (State.wr s x0 x1).caps = s.caps := (keep_wr (s := s)).caps
@[simp] theorem wr_areas {s : State} {x0 x1} : (State.wr s x0 x1).areas = s.areas := (keep_wr (s := s)).areas
@[simp] theorem wr_rdata {s : State} {x0 x1} : (State.wr s x0 x1).rdata = s.rdata := (keep_wr (s := s)).rdata
@[simp] theorem wr_out {s : State} {x0 x1} : (State.wr s x0 x1).out = s.out := (keep_wr (s := s)).out
@[simp] theorem wr_free {s : State} {x0 x1} : (State.wr s x0 x1).free = s.free := (keep_wr (s := s)).free
@[simp] theorem wr_ms {s : State} {x0 x1} : (State.wr s x0 x1).ms = s.ms := (keep_wr (s := s)).ms
@[simp] theorem wr_win {s : State} {x0 x1} : (State.wr s x0 x1).win = s.win := (keep_wr (s := s)).win
@[simp] theorem wr_host {s : State} {x0 x1} : (State.wr s x0 x1).host = s.host := (keep_wr (s := s)).host
@[simp] theorem wr_flt {s : State} {x0 x1} : (State.wr s x0 x1).flt = s.flt := (keep_wr (s := s)).flt
@[simp] theorem wr_log {s : State} {x0 x1} : (State.wr s x0 x1).log = s.log := (keep_wr (s := s)).log
@[simp] theorem wr_sec {s : State} {x0 x1} : (State.wr s x0 x1).sec = s.sec := (keep_wr (s := s)).sec
@[simp] theorem wr_flash {s : State} {x0 x1} : (State.wr s x0 x1).flash = s.flash := (keep_wr (s := s)).flash
@[simp] theorem wr_upd {s : State} {x0 x1} : (State.wr s x0 x1).upd = s.upd := (keep_wr (s := s)).upd
@[simp] theorem wr_clusters {s : State} {x0 x1} : (State.wr s x0 x1).clusters = s.clusters := (keep_wr (s := s)).clusters
@[simp] theorem wr_eng {s : State} {x0 x1} : (State.wr s x0 x1).eng = s.eng := (keep_wr (s := s)).eng
@[simp] theorem wr_scn {s : State} {x0 x1} : (State.wr s x0 x1).scn = s.scn := (keep_wr (s := s)).scn
@[simp] theorem wr_pair {s : State} {x0 x1} : (State.wr s x0 x1).pair = s.pair := (keep_wr (s := s)).pair
@[simp] theorem wr_ports {s : State} {x0 x1} : (State.wr s x0 x1).ports = s.ports := (keep_wr (s := s)).ports
@[simp] theorem wr_sl {s : State} {x0 x1} : (State.wr s x0 x1).sl = s.sl := (keep_wr (s := s)).sl
@[simp] theorem wr_net {s : State} {x0 x1} : (State.wr s x0 x1).net = s.net := (keep_wr (s := s)).net
@[simp] theorem wr_clk {s : State} {x0 x1} : (State.wr s x0 x1).clk = s.clk := (keep_wr (s := s)).clk
@[simp] theorem wr_en {s : State} {x0 x1} : (State.wr s x0 x1).en = s.en := (keep_wr (s := s)).en

/-! wrb -/
@[simp] theorem wrb_pending {s : State} {x0 x1} : (State.wrb s x0 x1).pending = s.pending := (keep_wrb (s := s)).pending
@[simp] theorem wrb_lat {s : State} {x0 x1} : (State.wrb s x0 x1).lat = s.lat := (keep_wrb (s := s)).lat
@[simp] theorem wrb_snaps {s : State} {x0 x1} : (State.wrb s x0 x1).snaps = s.snaps := (keep_wrb (s := s)).snaps
@[simp] theorem wrb_caps {s : State} {x0 x1} : (State.wrb s x0 x1).caps = s.caps := (keep_wrb (s := s)).caps
@[simp] theorem wrb_areas {s : State} {x0 x1} : (State.wrb s x0 x1).areas = s.areas := (keep_wrb (s := s)).areas
@[simp] theorem wrb_rdata {s : State} {x0 x1} : (State.wrb s x0 x1).rdata = s.rdata := (keep_wrb (s := s)).rdata
@[simp] theorem wrb_out {s : State} {x0 x1} : (State.wrb s x0 x1).out = s.out := (keep_wrb (s := s)).out
@[simp] theorem wrb_free {s : State} {x0 x1} : (State.wrb s x0 x1).free = s.free := (keep_wrb (s := s)).free
@[simp] theorem wrb_ms {s : State} {x0 x1} : (State.wrb s x0 x1).ms = s.ms := (keep_wrb (s := s)).ms
@[simp] theorem wrb_win {s : State} {x0 x1} : (State.wrb s x0 x1).win = s.win := (keep_wrb (s := s)).win
@[simp] theorem wrb_host {s : State} {x0 x1} : (State.wrb s x0 x1).host = s.host := (keep_wrb (s := s)).host
@[simp] theorem wrb_flt {s : State} {x0 x1} : (State.wrb s x0 x1).flt = s.flt := (keep_wrb (s := s)).flt
@[simp] theorem wrb_log {s : State} {x0 x1} : (State.wrb s x0 x1).log = s.log := (keep_wrb (s := s)).log
@[simp] theorem wrb_sec {s : State} {x0 x1} : (State.wrb s x0 x1).sec = s.sec := (keep_wrb (s := s)).sec
@[simp] theorem wrb_flash {s : State} {x0 x1} : (State.wrb s x0 x1).flash = s.flash := (keep_wrb (s := s)).flash
@[simp] theorem wrb_upd {s : State} {x0 x1} : (State.wrb s x0 x1).upd = s.upd := (keep_wrb (s := s)).upd
@[simp] theorem wrb_clusters {s : State} {x0 x1} : (State.wrb s x0 x1).clusters = s.clusters := (keep_wrb (s := s)).clusters
@[simp] theorem wrb_eng {s : State} {x0 x1} : (State.wrb s x0 x1).eng = s.eng := (keep_wrb (s := s)).eng
@[simp] theorem wrb_scn {s : State} {x0 x1} : (State.wrb s x0 x1).scn = s.scn := (keep_wrb (s := s)).scn
@[simp] theorem wrb_pair {s : State} {x0 x1} : (State.wrb s x0 x1).pair = s.pair := (keep_wrb (s := s)).pair
@[simp] theorem wrb_ports {s : State} {x0 x1} : (State.wrb s x0 x1).ports = s.ports := (keep_wrb (s := s)).ports
@[simp] theorem wrb_sl {s : State} {x0 x1} : (State.wrb s x0 x1).sl = s.sl := (keep_wrb (s := s)).sl
@[simp] theorem wrb_net {s : State} {x0 x1} : (State.wrb s x0 x1).net = s.net := (keep_wrb (s := s)).net
@[simp] theorem wrb_clk {s : State} {x0 x1} : (State.wrb s x0 x1).clk = s.clk := (keep_wrb (s := s)).clk
@[simp] theorem wrb_en {s : State} {x0 x1} : (State.wrb s x0 x1).en = s.en := (keep_wrb (s := s)).en

/-! wrAll -/
@[simp] theorem wrAll_pending {s : State} {x0} : (State.wrAll s x0).pending = s.pending := (keep_wrAll (s := s)).pending
@[simp] theorem wrAll_lat {s : State} {x0} : (State.wrAll s x0).lat = s.lat := (keep_wrAll (s := s)).lat
@[simp] theorem wrAll_snaps {s : State} {x0} : (State.wrAll s x0).snaps = s.snaps := (keep_wrAll (s := s)).snaps
@[simp] theorem wrAll_caps {s : State} {x0} : (State.wrAll s x0).caps = s.caps := (keep_wrAll (s := s)).caps
@[simp] theorem wrAll_areas {s : State} {x0} : (State.wrAll s x0).areas = s.areas := (keep_wrAll (s := s)).areas
@[simp] theorem wrAll_rdata {s : State} {x0} : (State.wrAll s x0).rdata = s.rdata := (keep_wrAll (s := s)).rdata
@[simp] theorem wrAll_out {s : State} {x0} : (State.wrAll s x0).out = s.out := (keep_wrAll (s := s)).out
@[simp] theorem wrAll_free {s : State} {x0} : (State.wrAll s x0).free = s.free := (keep_wrAll (s := s)).free
@[simp] theorem wrAll_ms {s : State} {x0} : (State.wrAll s x0).ms = s.ms := (keep_wrAll (s := s)).ms
@[simp] theorem wrAll_win {s : State} {x0} : (State.wrAll s x0).win = s.win := (keep_wrAll (s := s)).win
@[simp] theorem wrAll_host {s : State} {x0} : (State.wrAll s x0).host = s.host := (keep_wrAll (s := s)).host
@[simp] theorem wrAll_flt {s : State} {x0} : (State.wrAll s x0).flt = s.flt := (keep_wrAll (s := s)).flt
@[simp] theorem wrAll_log {s : State} {x0} : (State.wrAll s x0).log = s.log := (keep_wrAll (s := s)).log
@[simp] theorem wrAll_sec {s : State} {x0} : (State.wrAll s x0).sec = s.sec := (keep_wrAll (s := s)).sec
@[simp] theorem wrAll_flash {s : State} {x0} : (State.wrAll s x0).flash = s.flash := (keep_wrAll (s := s)).flash
@[simp] theorem wrAll_upd {s : State} {x0} : (State.wrAll s x0).upd = s.upd := (keep_wrAll (s := s)).upd
@[simp] theorem wrAll_clusters {s : State} {x0} : (State.wrAll s x0).clusters = s.clusters := (keep_wrAll (s := s)).clusters
@[simp] theorem wrAll_eng {s : State} {x0} : (State.wrAll s x0).eng = s.eng := (keep_wrAll (s := s)).eng
@[simp] theorem wrAll_scn {s : State} {x0} : (State.wrAll s x0).scn = s.scn := (keep_wrAll (s := s)).scn
@[simp] theorem wrAll_pair {s : State} {x0} : (State.wrAll s x0).pair = s.pair := (keep_wrAll (s := s)).pair
@[simp] theorem wrAll_ports {s : State} {x0} : (State.wrAll s x0).ports = s.ports := (keep_wrAll (s := s)).ports
@[simp] theorem wrAll_sl {s : State} {x0} : (State.wrAll s x0).sl = s.sl := (keep_wrAll (s := s)).sl
@[simp] theorem wrAll_net {s : State} {x0} : (State.wrAll s x0).net = s.net := (keep_wrAll (s := s)).net
@[simp] theorem wrAll_clk {s : State} {x0} : (State.wrAll s x0).clk = s.clk := (keep_wrAll (s := s)).clk
@[simp] theorem wrAll_en {s : State} {x0} : (State.wrAll s x0).en = s.en := (keep_wrAll (s := s)).en

/-! bump -/
@[simp] theorem bump_pending {s : State} {x0} : (State.bump s x0).pending = s.pending := (keep_bump (s := s)).pending
@[simp] theorem bump_lat {s : State} {x0} : (State.bump s x0).lat = s.lat := (keep_bump (s := s)).lat
@[simp] theorem bump_snaps {s : State} {x0} : (State.bump s x0).snaps = s.snaps := (keep_bump (s := s)).snaps
@[simp] theorem bump_caps {s : State} {x0} : (State.bump s x0).caps = s.caps := (keep_bump (s := s)).caps
@[simp] theorem bump_areas {s : State} {x0} : (State.bump s x0).areas = s.areas := (keep_bump (s := s)).areas
@[simp] theorem bump_rdata {s : State} {x0} : (State.bump s x0).rdata = s.rdata := (keep_bump (s := s)).rdata
@[simp] theorem bump_out {s : State} {x0} : (State.bump s x0).out = s.out := (keep_bump (s := s)).out
@[simp] theorem bump_free {s : State} {x0} : (State.bump s x0).free = s.free := (keep_bump (s := s)).free
@[simp] theorem bump_ms {s : State} {x0} : (State.bump s x0).ms = s.ms := (keep_bump (s := s)).ms
@[simp] theorem bump_win {s : State} {x0} : (State.bump s x0).win = s.win := (keep_bump (s := s)).win
@[simp] theorem bump_host {s : State} {x0} : (State.bump s x0).host = s.host := (keep_bump (s := s)).host
@[simp] theorem bump_flt {s : State} {x0} : (State.bump s x0).flt = s.flt := (keep_bump (s := s)).flt
@[simp] theorem bump_log {s : State} {x0} : (State.bump s x0).log = s.log := (keep_bump (s := s)).log
@[simp] theorem bump_sec {s : State} {x0} : (State.bump s x0).sec = s.sec := (keep_bump (s := s)).sec
@[simp] theorem bump_flash {s : State} {x0} : (State.bump s x0).flash = s.flash := (keep_bump (s := s)).flash
@[simp] theorem bump_upd {s : State} {x0} : (State.bump s x0).upd = s.upd := (keep_bump (s := s)).upd
@[simp] theorem bump_clusters {s : State} {x0} : (State.bump s x0).clusters = s.clusters := (keep_bump (s := s)).clusters
@[simp] theorem bump_eng {s : State} {x0} : (State.bump s x0).eng = s.eng := (keep_bump (s := s)).eng
@[simp] theorem bump_scn {s : State} {x0} : (State.bump s x0).scn = s.scn := (keep_bump (s := s)).scn
@[simp] theorem bump_pair {s : State} {x0} : (State.bump s x0).pair = s.pair := (keep_bump (s := s)).pair
@[simp] theorem bump_ports {s : State} {x0} : (State.bump s x0).ports = s.ports := (keep_bump (s := s)).ports
@[simp] theorem bump_sl {s : State} {x0} : (State.bump s x0).sl = s.sl := (keep_bump (s := s)).sl
@[simp] theorem bump_net {s : State} {x0} : (State.bump s x0).net = s.net := (keep_bump (s := s)).net
@[simp] theorem bump_clk {s : State} {x0} : (State.bump s x0).clk = s.clk := (keep_bump (s := s)).clk
@[simp] theorem bump_en {s : State} {x0} : (State.bump s x0).en = s.en := (keep_bump (s := s)).en

/-! bumpBy -/
@[simp] theorem bumpBy_pending {s : State} {x0 x1} : (State.bumpBy s x0 x1).pending = s.pending := (keep_bumpBy (s := s)).pending
@[simp] theorem bumpBy_lat {s : State} {x0 x1} : (State.bumpBy s x0 x1).lat = s.lat := (keep_bumpBy (s := s)).lat
@[simp] theorem bumpBy_snaps {s : State} {x0 x1} : (State.bumpBy s x0 x1).snaps = s.snaps := (keep_bumpBy (s := s)).snaps
@[simp] theorem bumpBy_caps {s : State} {x0 x1} : (State.bumpBy s x0 x1).caps = s.caps := (keep_bumpBy (s := s)).caps
@[simp] theorem bumpBy_areas {s : State} {x0 x1} : (State.bumpBy s x0 x1).areas = s.areas := (keep_bumpBy (s := s)).areas
@[simp] theorem bumpBy_rdata {s : State} {x0 x1} : (State.bumpBy s x0 x1).rdata = s.rdata := (keep_bumpBy (s := s)).rdata
@[simp] theorem bumpBy_out {s : State} {x0 x1} : (State.bumpBy s x0 x1).out = s.out := (keep_bumpBy (s := s)).out
@[simp] theorem bumpBy_free {s : State} {x0 x1} : (State.bumpBy s x0 x1).free = s.free := (keep_bumpBy (s := s)).free
@[simp] theorem bumpBy_ms {s : State} {x0 x1} : (State.bumpBy s x0 x1).ms = s.ms := (keep_bumpBy (s := s)).ms
@[simp] theorem bumpBy_win {s : State} {x0 x1} : (State.bumpBy s x0 x1).win = s.win := (keep_bumpBy (s := s)).win
@[simp] theorem bumpBy_host {s : State} {x0 x1} : (State.bumpBy s x0 x1).host = s.host := (keep_bumpBy (s := s)).host
@[simp] theorem bumpBy_flt {s : State} {x0 x1} : (State.bumpBy s x0 x1).flt = s.flt := (keep_bumpBy (s := s)).flt
@[simp] theorem bumpBy_log {s : State} {x0 x1} : (State.bumpBy s x0 x1).log = s.log := (keep_bumpBy (s := s)).log
@[simp] theorem bumpBy_sec {s : State} {x0 x1} : (State.bumpBy s x0 x1).sec = s.sec := (keep_bumpBy (s := s)).sec
@[simp] theorem bumpBy_flash {s : State} {x0 x1} : (State.bumpBy s x0 x1).flash = s.flash := (keep_bumpBy (s := s)).flash
@[simp] theorem bumpBy_upd {s : State} {x0 x1} : (State.bumpBy s x0 x1).upd = s.upd := (keep_bumpBy (s := s)).upd
@[simp] theorem bumpBy_clusters {s : State} {x0 x1} : (State.bumpBy s x0 x1).clusters = s.clusters := (keep_bumpBy (s := s)).clusters
@[simp] theorem bumpBy_eng {s : State} {x0 x1} : (State.bumpBy s x0 x1).eng = s.eng := (keep_bumpBy (s := s)).eng
@[simp] theorem bumpBy_scn {s : State} {x0 x1} : (State.bumpBy s x0 x1).scn = s.scn := (keep_bumpBy (s := s)).scn
@[simp] theorem bumpBy_pair {s : State} {x0 x1} : (State.bumpBy s x0 x1).pair = s.pair := (keep_bumpBy (s := s)).pair
@[simp] theorem bumpBy_ports {s : State} {x0 x1} : (State.bumpBy s x0 x1).ports = s.ports := (keep_bumpBy (s := s)).ports
@[simp] theorem bumpBy_sl {s : State} {x0 x1} : (State.bumpBy s x0 x1).sl = s.sl := (keep_bumpBy (s := s)).sl
@[simp] theorem bumpBy_net {s : State} {x0 x1} : (State.bumpBy s x0 x1).net = s.net := (keep_bumpBy (s := s)).net
@[simp] theorem bumpBy_clk {s : State} {x0 x1} : (State.bumpBy s x0 x1).clk = s.clk := (keep_bumpBy (s := s)).clk
@[simp] theorem bumpBy_en {s : State} {x0 x1} : (State.bumpBy s x0 x1).en = s.en := (keep_bumpBy (s := s)).en

/-! bumpSat -/
@[simp] theorem bumpSat_pending {s : State} {x0} : (State.bumpSat s x0).pending = s.pending := (keep_bumpSat (s := s)).pending
@[simp] theorem bumpSat_lat {s : State} {x0} : (State.bumpSat s x0).lat = s.lat := (keep_bumpSat (s := s)).lat
@[simp] theorem bumpSat_snaps {s : State} {x0} : (State.bumpSat s x0).snaps = s.snaps := (keep_bumpSat (s := s)).snaps
@[simp] theorem bumpSat_caps {s : State} {x0} : (State.bumpSat s x0).caps = s.caps := (keep_bumpSat (s := s)).caps
@[simp] theorem bumpSat_areas {s : State} {x0} : (State.bumpSat s x0).areas = s.areas := (keep_bumpSat (s := s)).areas
@[simp] theorem bumpSat_rdata {s : State} {x0} : (State.bumpSat s x0).rdata = s.rdata := (keep_bumpSat (s := s)).rdata
@[simp] theorem bumpSat_out {s : State} {x0} : (State.bumpSat s x0).out = s.out := (keep_bumpSat (s := s)).out
@[simp] theorem bumpSat_free {s : State} {x0} : (State.bumpSat s x0).free = s.free := (keep_bumpSat (s := s)).free
@[simp] theorem bumpSat_ms {s : State} {x0} : (State.bumpSat s x0).ms = s.ms := (keep_bumpSat (s := s)).ms
@[simp] theorem bumpSat_win {s : State} {x0} : (State.bumpSat s x0).win = s.win := (keep_bumpSat (s := s)).win
@[simp] theorem bumpSat_host {s : State} {x0} : (State.bumpSat s x0).host = s.host := (keep_bumpSat (s := s)).host
@[simp] theorem bumpSat_flt {s : State} {x0} : (State.bumpSat s x0).flt = s.flt := (keep_bumpSat (s := s)).flt
@[simp] theorem bumpSat_log {s : State} {x0} : (State.bumpSat s x0).log = s.log := (keep_bumpSat (s := s)).log
@[simp] theorem bumpSat_sec {s : State} {x0} : (State.bumpSat s x0).sec = s.sec := (keep_bumpSat (s := s)).sec
@[simp] theorem bumpSat_flash {s : State} {x0} : (State.bumpSat s x0).flash = s.flash := (keep_bumpSat (s := s)).flash
@[simp] theorem bumpSat_upd {s : State} {x0} : (State.bumpSat s x0).upd = s.upd := (keep_bumpSat (s := s)).upd
@[simp] theorem bumpSat_clusters {s : State} {x0} : (State.bumpSat s x0).clusters = s.clusters := (keep_bumpSat (s := s)).clusters
@[simp] theorem bumpSat_eng {s : State} {x0} : (State.bumpSat s x0).eng = s.eng := (keep_bumpSat (s := s)).eng
@[simp] theorem bumpSat_scn {s : State} {x0} : (State.bumpSat s x0).scn = s.scn := (keep_bumpSat (s := s)).scn
@[simp] theorem bumpSat_pair {s : State} {x0} : (State.bumpSat s x0).pair = s.pair := (keep_bumpSat (s := s)).pair
@[simp] theorem bumpSat_ports {s : State} {x0} : (State.bumpSat s x0).ports = s.ports := (keep_bumpSat (s := s)).ports
@[simp] theorem bumpSat_sl {s : State} {x0} : (State.bumpSat s x0).sl = s.sl := (keep_bumpSat (s := s)).sl
@[simp] theorem bumpSat_net {s : State} {x0} : (State.bumpSat s x0).net = s.net := (keep_bumpSat (s := s)).net
@[simp] theorem bumpSat_clk {s : State} {x0} : (State.bumpSat s x0).clk = s.clk := (keep_bumpSat (s := s)).clk
@[simp] theorem bumpSat_en {s : State} {x0} : (State.bumpSat s x0).en = s.en := (keep_bumpSat (s := s)).en

/-! wr64 -/
@[simp] theorem wr64_pending {s : State} {x0 x1 x2} : (State.wr64 s x0 x1 x2).pending = s.pending := (keep_wr64 (s := s)).pending
@[simp] theorem wr64_lat {s : State} {x0 x1 x2} : (State.wr64 s x0 x1 x2).lat = s.lat := (keep_wr64 (s := s)).lat
@[simp] theorem wr64_snaps {s : State} {x0 x1 x2} : (State.wr64 s x0 x1 x2).snaps = s.snaps := (keep_wr64 (s := s)).snaps
@[simp] theorem wr64_caps {s : State} {x0 x1 x2} : (State.wr64 s x0 x1 x2).caps = s.caps := (keep_wr64 (s := s)).caps
@[simp] theorem wr64_areas {s : State} {x0 x1 x2} : (State.wr64 s x0 x1 x2).areas = s.areas := (keep_wr64 (s := s)).areas
@[simp] theorem wr64_rdata {s : State} {x0 x1 x2} : (State.wr64 s x0 x1 x2).rdata = s.rdata := (keep_wr64 (s := s)).rdata
@[simp] theorem wr64_out {s : State} {x0 x1 x2} : (State.wr64 s x0 x1 x2).out = s.out := (keep_wr64 (s := s)).out
@[simp] theorem wr64_free {s : State} {x0 x1 x2} : (State.wr64 s x0 x1 x2).free = s.free := (keep_wr64 (s := s)).free
@[simp] theorem wr64_ms {s : State} {x0 x1 x2} : (State.wr64 s x0 x1 x2).ms = s.ms := (keep_wr64 (s := s)).ms
@[simp] theorem wr64_win {s : State} {x0 x1 x2} : (State.wr64 s x0 x1 x2).win = s.win := (keep_wr64 (s := s)).win
@[simp] theorem wr64_host {s : State} {x0 x1 x2} : (State.wr64 s x0 x1 x2).host = s.host := (keep_wr64 (s := s)).host
@[simp] theorem wr64_flt {s : State} {x0 x1 x2} : (State.wr64 s x0 x1 x2).flt = s.flt := (keep_wr64 (s := s)).flt
@[simp] theorem wr64_log {s : State} {x0 x1 x2} : (State.wr64 s x0 x1 x2).log = s.log := (keep_wr64 (s := s)).log
@[simp] theorem wr64_sec {s : State} {x0 x1 x2} : (State.wr64 s x0 x1 x2).sec = s.sec := (keep_wr64 (s := s)).sec
@[simp] theorem wr64_flash {s : State} {x0 x1 x2} : (State.wr64 s x0 x1 x2).flash = s.flash := (keep_wr64 (s := s)).flash
@[simp] theorem wr64_upd {s : State} {x0 x1 x2} : (State.wr64 s x0 x1 x2).upd = s.upd := (keep_wr64 (s := s)).upd
@[simp] theorem wr64_clusters {s : State} {x0 x1 x2} : (State.wr64 s x0 x1 x2).clusters = s.clusters := (keep_wr64 (s := s)).clusters
@[simp] theorem wr64_eng {s : State} {x0 x1 x2} : (State.wr64 s x0 x1 x2).eng = s.eng := (keep_wr64 (s := s)).eng
@[simp] theorem wr64_scn {s : State} {x0 x1 x2} : (State.wr64 s x0 x1 x2).scn = s.scn := (keep_wr64 (s := s)).scn
@[simp] theorem wr64_pair {s : State} {x0 x1 x2} : (State.wr64 s x0 x1 x2).pair = s.pair := (keep_wr64 (s := s)).pair
@[simp] theorem wr64_ports {s : State} {x0 x1 x2} : (State.wr64 s x0 x1 x2).ports = s.ports := (keep_wr64 (s := s)).ports
@[simp] theorem wr64_sl {s : State} {x0 x1 x2} : (State.wr64 s x0 x1 x2).sl = s.sl := (keep_wr64 (s := s)).sl
@[simp] theorem wr64_net {s : State} {x0 x1 x2} : (State.wr64 s x0 x1 x2).net = s.net := (keep_wr64 (s := s)).net
@[simp] theorem wr64_clk {s : State} {x0 x1 x2} : (State.wr64 s x0 x1 x2).clk = s.clk := (keep_wr64 (s := s)).clk
@[simp] theorem wr64_en {s : State} {x0 x1 x2} : (State.wr64 s x0 x1 x2).en = s.en := (keep_wr64 (s := s)).en

/-! setWin -/
@[simp] theorem setWin_pending {s : State} {x0 x1} : (State.setWin s x0 x1).pending = s.pending := (keep_setWin (s := s)).pending
@[simp] theorem setWin_regs {s : State} {x0 x1} : (State.setWin s x0 x1).regs = s.regs := (keep_setWin (s := s)).regs
@[simp] theorem setWin_lat {s : State} {x0 x1} : (State.setWin s x0 x1).lat = s.lat := (keep_setWin (s := s)).lat
@[simp] theorem setWin_snaps {s : State} {x0 x1} : (State.setWin s x0 x1).snaps = s.snaps := (keep_setWin (s := s)).snaps
@[simp] theorem setWin_caps {s : State} {x0 x1} : (State.setWin s x0 x1).caps = s.caps := (keep_setWin (s := s)).caps
@[simp] theorem setWin_areas {s : State} {x0 x1} : (State.setWin s x0 x1).areas = s.areas := (keep_setWin (s := s)).areas
@[simp] theorem setWin_rdata {s : State} {x0 x1} : (State.setWin s x0 x1).rdata = s.rdata := (keep_setWin (s := s)).rdata
@[simp] theorem setWin_out {s : State} {x0 x1} : (State.setWin s x0 x1).out = s.out := (keep_setWin (s := s)).out
@[simp] theorem setWin_free {s : State} {x0 x1} : (State.setWin s x0 x1).free = s.free := (keep_setWin (s := s)).free
@[simp] theorem setWin_ms {s : State} {x0 x1} : (State.setWin s x0 x1).ms = s.ms := (keep_setWin (s := s)).ms
@[simp] theorem setWin_host {s : State} {x0 x1} : (State.setWin s x0 x1).host = s.host := (keep_setWin (s := s)).host
@[simp] theorem setWin_flt {s : State} {x0 x1} : (State.setWin s x0 x1).flt = s.flt := (keep_setWin (s := s)).flt
@[simp] theorem setWin_log {s : State} {x0 x1} : (State.setWin s x0 x1).log = s.log := (keep_setWin (s := s)).log
@[simp] theorem setWin_sec {s : State} {x0 x1} : (State.setWin s x0 x1).sec = s.sec := (keep_setWin (s := s)).sec
@[simp] theorem setWin_flash {s : State} {x0 x1} : (State.setWin s x0 x1).flash = s.flash := (keep_setWin (s := s)).flash
@[simp] theorem setWin_upd {s : State} {x0 x1} : (State.setWin s x0 x1).upd = s.upd := (keep_setWin (s := s)).upd
@[simp] theorem setWin_clusters {s : State} {x0 x1} : (State.setWin s x0 x1).clusters = s.clusters := (keep_setWin (s := s)).clusters
@[simp] theorem setWin_eng {s : State} {x0 x1} : (State.setWin s x0 x1).eng = s.eng := (keep_setWin (s := s)).eng
@[simp] theorem setWin_scn {s : State} {x0 x1} : (State.setWin s x0 x1).scn = s.scn := (keep_setWin (s := s)).scn
@[simp] theorem setWin_pair {s : State} {x0 x1} : (State.setWin s x0 x1).pair = s.pair := (keep_setWin (s := s)).pair
@[simp] theorem setWin_ports {s : State} {x0 x1} : (State.setWin s x0 x1).ports = s.ports := (keep_setWin (s := s)).ports
@[simp] theorem setWin_sl {s : State} {x0 x1} : (State.setWin s x0 x1).sl = s.sl := (keep_setWin (s := s)).sl
@[simp] theorem setWin_net {s : State} {x0 x1} : (State.setWin s x0 x1).net = s.net := (keep_setWin (s := s)).net
@[simp] theorem setWin_clk {s : State} {x0 x1} : (State.setWin s x0 x1).clk = s.clk := (keep_setWin (s := s)).clk
@[simp] theorem setWin_en {s : State} {x0 x1} : (State.setWin s x0 x1).en = s.en := (keep_setWin (s := s)).en

/-! setWord -/
@[simp] theorem setWord_pending {s : State} {x0 x1} : (State.setWord s x0 x1).pending = s.pending := (keep_setWord (s := s)).pending
@[simp] theorem setWord_regs {s : State} {x0 x1} : (State.setWord s x0 x1).regs = s.regs := (keep_setWord (s := s)).regs
@[simp] theorem setWord_lat {s : State} {x0 x1} : (State.setWord s x0 x1).lat = s.lat := (keep_setWord (s := s)).lat
@[simp] theorem setWord_snaps {s : State} {x0 x1} : (State.setWord s x0 x1).snaps = s.snaps := (keep_setWord (s := s)).snaps
@[simp] theorem setWord_caps {s : State} {x0 x1} : (State.setWord s x0 x1).caps = s.caps := (keep_setWord (s := s)).caps
@[simp] theorem setWord_areas {s : State} {x0 x1} : (State.setWord s x0 x1).areas = s.areas := (keep_setWord (s := s)).areas
@[simp] theorem setWord_rdata {s : State} {x0 x1} : (State.setWord s x0 x1).rdata = s.rdata := (keep_setWord (s := s)).rdata
@[simp] theorem setWord_out {s : State} {x0 x1} : (State.setWord s x0 x1).out = s.out := (keep_setWord (s := s)).out
@[simp] theorem setWord_free {s : State} {x0 x1} : (State.setWord s x0 x1).free = s.free := (keep_setWord (s := s)).free
@[simp] theorem setWord_ms {s : State} {x0 x1} : (State.setWord s x0 x1).ms = s.ms := (keep_setWord (s := s)).ms
@[simp] theorem setWord_host {s : State} {x0 x1} : (State.setWord s x0 x1).host = s.host := (keep_setWord (s := s)).host
@[simp] theorem setWord_flt {s : State} {x0 x1} : (State.setWord s x0 x1).flt = s.flt := (keep_setWord (s := s)).flt
@[simp] theorem setWord_log {s : State} {x0 x1} : (State.setWord s x0 x1).log = s.log := (keep_setWord (s := s)).log
@[simp] theorem setWord_sec {s : State} {x0 x1} : (State.setWord s x0 x1).sec = s.sec := (keep_setWord (s := s)).sec
@[simp] theorem setWord_flash {s : State} {x0 x1} : (State.setWord s x0 x1).flash = s.flash := (keep_setWord (s := s)).flash
@[simp] theorem setWord_upd {s : State} {x0 x1} : (State.setWord s x0 x1).upd = s.upd := (keep_setWord (s := s)).upd
@[simp] theorem setWord_clusters {s : State} {x0 x1} : (State.setWord s x0 x1).clusters = s.clusters := (keep_setWord (s := s)).clusters
@[simp] theorem setWord_eng {s : State} {x0 x1} : (State.setWord s x0 x1).eng = s.eng := (keep_setWord (s := s)).eng
@[simp] theorem setWord_scn {s : State} {x0 x1} : (State.setWord s x0 x1).scn = s.scn := (keep_setWord (s := s)).scn
@[simp] theorem setWord_pair {s : State} {x0 x1} : (State.setWord s x0 x1).pair = s.pair := (keep_setWord (s := s)).pair
@[simp] theorem setWord_ports {s : State} {x0 x1} : (State.setWord s x0 x1).ports = s.ports := (keep_setWord (s := s)).ports
@[simp] theorem setWord_sl {s : State} {x0 x1} : (State.setWord s x0 x1).sl = s.sl := (keep_setWord (s := s)).sl
@[simp] theorem setWord_net {s : State} {x0 x1} : (State.setWord s x0 x1).net = s.net := (keep_setWord (s := s)).net
@[simp] theorem setWord_clk {s : State} {x0 x1} : (State.setWord s x0 x1).clk = s.clk := (keep_setWord (s := s)).clk
@[simp] theorem setWord_en {s : State} {x0 x1} : (State.setWord s x0 x1).en = s.en := (keep_setWord (s := s)).en

/-! put -/
@[simp] theorem put_pending {s : State} {x0} : (State.put s x0).pending = s.pending := (keep_put (s := s)).pending
@[simp] theorem put_regs {s : State} {x0} : (State.put s x0).regs = s.regs := (keep_put (s := s)).regs
@[simp] theorem put_lat {s : State} {x0} : (State.put s x0).lat = s.lat := (keep_put (s := s)).lat
@[simp] theorem put_snaps {s : State} {x0} : (State.put s x0).snaps = s.snaps := (keep_put (s := s)).snaps
@[simp] theorem put_caps {s : State} {x0} : (State.put s x0).caps = s.caps := (keep_put (s := s)).caps
@[simp] theorem put_areas {s : State} {x0} : (State.put s x0).areas = s.areas := (keep_put (s := s)).areas
@[simp] theorem put_rdata {s : State} {x0} : (State.put s x0).rdata = s.rdata := (keep_put (s := s)).rdata
@[simp] theorem put_free {s : State} {x0} : (State.put s x0).free = s.free := (keep_put (s := s)).free
@[simp] theorem put_ms {s : State} {x0} : (State.put s x0).ms = s.ms := (keep_put (s := s)).ms
@[simp] theorem put_win {s : State} {x0} : (State.put s x0).win = s.win := (keep_put (s := s)).win
@[simp] theorem put_host {s : State} {x0} : (State.put s x0).host = s.host := (keep_put (s := s)).host
@[simp] theorem put_flt {s : State} {x0} : (State.put s x0).flt = s.flt := (keep_put (s := s)).flt
@[simp] theorem put_log {s : State} {x0} : (State.put s x0).log = s.log := (keep_put (s := s)).log
@[simp] theorem put_sec {s : State} {x0} : (State.put s x0).sec = s.sec := (keep_put (s := s)).sec
@[simp] theorem put_flash {s : State} {x0} : (State.put s x0).flash = s.flash := (keep_put (s := s)).flash
@[simp] theorem put_upd {s : State} {x0} : (State.put s x0).upd = s.upd := (keep_put (s := s)).upd
@[simp] theorem put_clusters {s : State} {x0} : (State.put s x0).clusters = s.clusters := (keep_put (s := s)).clusters
@[simp] theorem put_eng {s : State} {x0} : (State.put s x0).eng = s.eng := (keep_put (s := s)).eng
@[simp] theorem put_scn {s : State} {x0} : (State.put s x0).scn = s.scn := (keep_put (s := s)).scn
@[simp] theorem put_pair {s : State} {x0} : (State.put s x0).pair = s.pair := (keep_put (s := s)).pair
@[simp] theorem put_ports {s : State} {x0} : (State.put s x0).ports = s.ports := (keep_put (s := s)).ports
@[simp] theorem put_sl {s : State} {x0} : (State.put s x0).sl = s.sl := (keep_put (s := s)).sl
@[simp] theorem put_net {s : State} {x0} : (State.put s x0).net = s.net := (keep_put (s := s)).net
@[simp] theorem put_clk {s : State} {x0} : (State.put s x0).clk = s.clk := (keep_put (s := s)).clk
@[simp] theorem put_en {s : State} {x0} : (State.put s x0).en = s.en := (keep_put (s := s)).en

/-! answer -/
@[simp] theorem answer_pending {s : State} {x0} : (State.answer s x0).pending = s.pending := (keep_answer (s := s)).pending
@[simp] theorem answer_regs {s : State} {x0} : (State.answer s x0).regs = s.regs := (keep_answer (s := s)).regs
@[simp] theorem answer_lat {s : State} {x0} : (State.answer s x0).lat = s.lat := (keep_answer (s := s)).lat
@[simp] theorem answer_snaps {s : State} {x0} : (State.answer s x0).snaps = s.snaps := (keep_answer (s := s)).snaps
@[simp] theorem answer_caps {s : State} {x0} : (State.answer s x0).caps = s.caps := (keep_answer (s := s)).caps
@[simp] theorem answer_areas {s : State} {x0} : (State.answer s x0).areas = s.areas := (keep_answer (s := s)).areas
@[simp] theorem answer_out {s : State} {x0} : (State.answer s x0).out = s.out := (keep_answer (s := s)).out
@[simp] theorem answer_free {s : State} {x0} : (State.answer s x0).free = s.free := (keep_answer (s := s)).free
@[simp] theorem answer_ms {s : State} {x0} : (State.answer s x0).ms = s.ms := (keep_answer (s := s)).ms
@[simp] theorem answer_win {s : State} {x0} : (State.answer s x0).win = s.win := (keep_answer (s := s)).win
@[simp] theorem answer_host {s : State} {x0} : (State.answer s x0).host = s.host := (keep_answer (s := s)).host
@[simp] theorem answer_flt {s : State} {x0} : (State.answer s x0).flt = s.flt := (keep_answer (s := s)).flt
@[simp] theorem answer_log {s : State} {x0} : (State.answer s x0).log = s.log := (keep_answer (s := s)).log
@[simp] theorem answer_sec {s : State} {x0} : (State.answer s x0).sec = s.sec := (keep_answer (s := s)).sec
@[simp] theorem answer_flash {s : State} {x0} : (State.answer s x0).flash = s.flash := (keep_answer (s := s)).flash
@[simp] theorem answer_upd {s : State} {x0} : (State.answer s x0).upd = s.upd := (keep_answer (s := s)).upd
@[simp] theorem answer_clusters {s : State} {x0} : (State.answer s x0).clusters = s.clusters := (keep_answer (s := s)).clusters
@[simp] theorem answer_eng {s : State} {x0} : (State.answer s x0).eng = s.eng := (keep_answer (s := s)).eng
@[simp] theorem answer_scn {s : State} {x0} : (State.answer s x0).scn = s.scn := (keep_answer (s := s)).scn
@[simp] theorem answer_pair {s : State} {x0} : (State.answer s x0).pair = s.pair := (keep_answer (s := s)).pair
@[simp] theorem answer_ports {s : State} {x0} : (State.answer s x0).ports = s.ports := (keep_answer (s := s)).ports
@[simp] theorem answer_sl {s : State} {x0} : (State.answer s x0).sl = s.sl := (keep_answer (s := s)).sl
@[simp] theorem answer_net {s : State} {x0} : (State.answer s x0).net = s.net := (keep_answer (s := s)).net
@[simp] theorem answer_clk {s : State} {x0} : (State.answer s x0).clk = s.clk := (keep_answer (s := s)).clk
@[simp] theorem answer_en {s : State} {x0} : (State.answer s x0).en = s.en := (keep_answer (s := s)).en

/-! edge -/
@[simp] theorem edge_pending {s : State} {x0 x1} : (State.edge s x0 x1).pending = s.pending := (keep_edge (s := s)).pending
@[simp] theorem edge_lat {s : State} {x0 x1} : (State.edge s x0 x1).lat = s.lat := (keep_edge (s := s)).lat
@[simp] theorem edge_snaps {s : State} {x0 x1} : (State.edge s x0 x1).snaps = s.snaps := (keep_edge (s := s)).snaps
@[simp] theorem edge_caps {s : State} {x0 x1} : (State.edge s x0 x1).caps = s.caps := (keep_edge (s := s)).caps
@[simp] theorem edge_areas {s : State} {x0 x1} : (State.edge s x0 x1).areas = s.areas := (keep_edge (s := s)).areas
@[simp] theorem edge_rdata {s : State} {x0 x1} : (State.edge s x0 x1).rdata = s.rdata := (keep_edge (s := s)).rdata
@[simp] theorem edge_out {s : State} {x0 x1} : (State.edge s x0 x1).out = s.out := (keep_edge (s := s)).out
@[simp] theorem edge_free {s : State} {x0 x1} : (State.edge s x0 x1).free = s.free := (keep_edge (s := s)).free
@[simp] theorem edge_ms {s : State} {x0 x1} : (State.edge s x0 x1).ms = s.ms := (keep_edge (s := s)).ms
@[simp] theorem edge_win {s : State} {x0 x1} : (State.edge s x0 x1).win = s.win := (keep_edge (s := s)).win
@[simp] theorem edge_host {s : State} {x0 x1} : (State.edge s x0 x1).host = s.host := (keep_edge (s := s)).host
@[simp] theorem edge_log {s : State} {x0 x1} : (State.edge s x0 x1).log = s.log := (keep_edge (s := s)).log
@[simp] theorem edge_sec {s : State} {x0 x1} : (State.edge s x0 x1).sec = s.sec := (keep_edge (s := s)).sec
@[simp] theorem edge_flash {s : State} {x0 x1} : (State.edge s x0 x1).flash = s.flash := (keep_edge (s := s)).flash
@[simp] theorem edge_upd {s : State} {x0 x1} : (State.edge s x0 x1).upd = s.upd := (keep_edge (s := s)).upd
@[simp] theorem edge_clusters {s : State} {x0 x1} : (State.edge s x0 x1).clusters = s.clusters := (keep_edge (s := s)).clusters
@[simp] theorem edge_eng {s : State} {x0 x1} : (State.edge s x0 x1).eng = s.eng := (keep_edge (s := s)).eng
@[simp] theorem edge_scn {s : State} {x0 x1} : (State.edge s x0 x1).scn = s.scn := (keep_edge (s := s)).scn
@[simp] theorem edge_pair {s : State} {x0 x1} : (State.edge s x0 x1).pair = s.pair := (keep_edge (s := s)).pair
@[simp] theorem edge_ports {s : State} {x0 x1} : (State.edge s x0 x1).ports = s.ports := (keep_edge (s := s)).ports
@[simp] theorem edge_sl {s : State} {x0 x1} : (State.edge s x0 x1).sl = s.sl := (keep_edge (s := s)).sl
@[simp] theorem edge_net {s : State} {x0 x1} : (State.edge s x0 x1).net = s.net := (keep_edge (s := s)).net
@[simp] theorem edge_clk {s : State} {x0 x1} : (State.edge s x0 x1).clk = s.clk := (keep_edge (s := s)).clk
@[simp] theorem edge_en {s : State} {x0 x1} : (State.edge s x0 x1).en = s.en := (keep_edge (s := s)).en

/-! source -/
@[simp] theorem source_pending {s : State} {x0 x1 x2} : (State.source s x0 x1 x2).pending = s.pending := (keep_source (s := s)).pending
@[simp] theorem source_lat {s : State} {x0 x1 x2} : (State.source s x0 x1 x2).lat = s.lat := (keep_source (s := s)).lat
@[simp] theorem source_snaps {s : State} {x0 x1 x2} : (State.source s x0 x1 x2).snaps = s.snaps := (keep_source (s := s)).snaps
@[simp] theorem source_caps {s : State} {x0 x1 x2} : (State.source s x0 x1 x2).caps = s.caps := (keep_source (s := s)).caps
@[simp] theorem source_areas {s : State} {x0 x1 x2} : (State.source s x0 x1 x2).areas = s.areas := (keep_source (s := s)).areas
@[simp] theorem source_rdata {s : State} {x0 x1 x2} : (State.source s x0 x1 x2).rdata = s.rdata := (keep_source (s := s)).rdata
@[simp] theorem source_out {s : State} {x0 x1 x2} : (State.source s x0 x1 x2).out = s.out := (keep_source (s := s)).out
@[simp] theorem source_free {s : State} {x0 x1 x2} : (State.source s x0 x1 x2).free = s.free := (keep_source (s := s)).free
@[simp] theorem source_ms {s : State} {x0 x1 x2} : (State.source s x0 x1 x2).ms = s.ms := (keep_source (s := s)).ms
@[simp] theorem source_win {s : State} {x0 x1 x2} : (State.source s x0 x1 x2).win = s.win := (keep_source (s := s)).win
@[simp] theorem source_host {s : State} {x0 x1 x2} : (State.source s x0 x1 x2).host = s.host := (keep_source (s := s)).host
@[simp] theorem source_log {s : State} {x0 x1 x2} : (State.source s x0 x1 x2).log = s.log := (keep_source (s := s)).log
@[simp] theorem source_sec {s : State} {x0 x1 x2} : (State.source s x0 x1 x2).sec = s.sec := (keep_source (s := s)).sec
@[simp] theorem source_flash {s : State} {x0 x1 x2} : (State.source s x0 x1 x2).flash = s.flash := (keep_source (s := s)).flash
@[simp] theorem source_upd {s : State} {x0 x1 x2} : (State.source s x0 x1 x2).upd = s.upd := (keep_source (s := s)).upd
@[simp] theorem source_clusters {s : State} {x0 x1 x2} : (State.source s x0 x1 x2).clusters = s.clusters := (keep_source (s := s)).clusters
@[simp] theorem source_eng {s : State} {x0 x1 x2} : (State.source s x0 x1 x2).eng = s.eng := (keep_source (s := s)).eng
@[simp] theorem source_scn {s : State} {x0 x1 x2} : (State.source s x0 x1 x2).scn = s.scn := (keep_source (s := s)).scn
@[simp] theorem source_pair {s : State} {x0 x1 x2} : (State.source s x0 x1 x2).pair = s.pair := (keep_source (s := s)).pair
@[simp] theorem source_ports {s : State} {x0 x1 x2} : (State.source s x0 x1 x2).ports = s.ports := (keep_source (s := s)).ports
@[simp] theorem source_sl {s : State} {x0 x1 x2} : (State.source s x0 x1 x2).sl = s.sl := (keep_source (s := s)).sl
@[simp] theorem source_net {s : State} {x0 x1 x2} : (State.source s x0 x1 x2).net = s.net := (keep_source (s := s)).net
@[simp] theorem source_clk {s : State} {x0 x1 x2} : (State.source s x0 x1 x2).clk = s.clk := (keep_source (s := s)).clk
@[simp] theorem source_en {s : State} {x0 x1 x2} : (State.source s x0 x1 x2).en = s.en := (keep_source (s := s)).en

/-! pulse -/
@[simp] theorem pulse_pending {s : State} {x0 x1} : (State.pulse s x0 x1).pending = s.pending := (keep_pulse (s := s)).pending
@[simp] theorem pulse_lat {s : State} {x0 x1} : (State.pulse s x0 x1).lat = s.lat := (keep_pulse (s := s)).lat
@[simp] theorem pulse_snaps {s : State} {x0 x1} : (State.pulse s x0 x1).snaps = s.snaps := (keep_pulse (s := s)).snaps
@[simp] theorem pulse_caps {s : State} {x0 x1} : (State.pulse s x0 x1).caps = s.caps := (keep_pulse (s := s)).caps
@[simp] theorem pulse_areas {s : State} {x0 x1} : (State.pulse s x0 x1).areas = s.areas := (keep_pulse (s := s)).areas
@[simp] theorem pulse_rdata {s : State} {x0 x1} : (State.pulse s x0 x1).rdata = s.rdata := (keep_pulse (s := s)).rdata
@[simp] theorem pulse_out {s : State} {x0 x1} : (State.pulse s x0 x1).out = s.out := (keep_pulse (s := s)).out
@[simp] theorem pulse_free {s : State} {x0 x1} : (State.pulse s x0 x1).free = s.free := (keep_pulse (s := s)).free
@[simp] theorem pulse_ms {s : State} {x0 x1} : (State.pulse s x0 x1).ms = s.ms := (keep_pulse (s := s)).ms
@[simp] theorem pulse_win {s : State} {x0 x1} : (State.pulse s x0 x1).win = s.win := (keep_pulse (s := s)).win
@[simp] theorem pulse_host {s : State} {x0 x1} : (State.pulse s x0 x1).host = s.host := (keep_pulse (s := s)).host
@[simp] theorem pulse_log {s : State} {x0 x1} : (State.pulse s x0 x1).log = s.log := (keep_pulse (s := s)).log
@[simp] theorem pulse_sec {s : State} {x0 x1} : (State.pulse s x0 x1).sec = s.sec := (keep_pulse (s := s)).sec
@[simp] theorem pulse_flash {s : State} {x0 x1} : (State.pulse s x0 x1).flash = s.flash := (keep_pulse (s := s)).flash
@[simp] theorem pulse_upd {s : State} {x0 x1} : (State.pulse s x0 x1).upd = s.upd := (keep_pulse (s := s)).upd
@[simp] theorem pulse_clusters {s : State} {x0 x1} : (State.pulse s x0 x1).clusters = s.clusters := (keep_pulse (s := s)).clusters
@[simp] theorem pulse_eng {s : State} {x0 x1} : (State.pulse s x0 x1).eng = s.eng := (keep_pulse (s := s)).eng
@[simp] theorem pulse_scn {s : State} {x0 x1} : (State.pulse s x0 x1).scn = s.scn := (keep_pulse (s := s)).scn
@[simp] theorem pulse_pair {s : State} {x0 x1} : (State.pulse s x0 x1).pair = s.pair := (keep_pulse (s := s)).pair
@[simp] theorem pulse_ports {s : State} {x0 x1} : (State.pulse s x0 x1).ports = s.ports := (keep_pulse (s := s)).ports
@[simp] theorem pulse_sl {s : State} {x0 x1} : (State.pulse s x0 x1).sl = s.sl := (keep_pulse (s := s)).sl
@[simp] theorem pulse_net {s : State} {x0 x1} : (State.pulse s x0 x1).net = s.net := (keep_pulse (s := s)).net
@[simp] theorem pulse_clk {s : State} {x0 x1} : (State.pulse s x0 x1).clk = s.clk := (keep_pulse (s := s)).clk
@[simp] theorem pulse_en {s : State} {x0 x1} : (State.pulse s x0 x1).en = s.en := (keep_pulse (s := s)).en

/-! idle -/
@[simp] theorem idle_pending {s : State} {x0} : (State.idle s x0).pending = s.pending := (keep_idle (s := s)).pending
@[simp] theorem idle_lat {s : State} {x0} : (State.idle s x0).lat = s.lat := (keep_idle (s := s)).lat
@[simp] theorem idle_snaps {s : State} {x0} : (State.idle s x0).snaps = s.snaps := (keep_idle (s := s)).snaps
@[simp] theorem idle_caps {s : State} {x0} : (State.idle s x0).caps = s.caps := (keep_idle (s := s)).caps
@[simp] theorem idle_areas {s : State} {x0} : (State.idle s x0).areas = s.areas := (keep_idle (s := s)).areas
@[simp] theorem idle_rdata {s : State} {x0} : (State.idle s x0).rdata = s.rdata := (keep_idle (s := s)).rdata
@[simp] theorem idle_out {s : State} {x0} : (State.idle s x0).out = s.out := (keep_idle (s := s)).out
@[simp] theorem idle_free {s : State} {x0} : (State.idle s x0).free = s.free := (keep_idle (s := s)).free
@[simp] theorem idle_ms {s : State} {x0} : (State.idle s x0).ms = s.ms := (keep_idle (s := s)).ms
@[simp] theorem idle_win {s : State} {x0} : (State.idle s x0).win = s.win := (keep_idle (s := s)).win
@[simp] theorem idle_host {s : State} {x0} : (State.idle s x0).host = s.host := (keep_idle (s := s)).host
@[simp] theorem idle_flt {s : State} {x0} : (State.idle s x0).flt = s.flt := (keep_idle (s := s)).flt
@[simp] theorem idle_log {s : State} {x0} : (State.idle s x0).log = s.log := (keep_idle (s := s)).log
@[simp] theorem idle_sec {s : State} {x0} : (State.idle s x0).sec = s.sec := (keep_idle (s := s)).sec
@[simp] theorem idle_flash {s : State} {x0} : (State.idle s x0).flash = s.flash := (keep_idle (s := s)).flash
@[simp] theorem idle_upd {s : State} {x0} : (State.idle s x0).upd = s.upd := (keep_idle (s := s)).upd
@[simp] theorem idle_clusters {s : State} {x0} : (State.idle s x0).clusters = s.clusters := (keep_idle (s := s)).clusters
@[simp] theorem idle_eng {s : State} {x0} : (State.idle s x0).eng = s.eng := (keep_idle (s := s)).eng
@[simp] theorem idle_scn {s : State} {x0} : (State.idle s x0).scn = s.scn := (keep_idle (s := s)).scn
@[simp] theorem idle_pair {s : State} {x0} : (State.idle s x0).pair = s.pair := (keep_idle (s := s)).pair
@[simp] theorem idle_ports {s : State} {x0} : (State.idle s x0).ports = s.ports := (keep_idle (s := s)).ports
@[simp] theorem idle_sl {s : State} {x0} : (State.idle s x0).sl = s.sl := (keep_idle (s := s)).sl
@[simp] theorem idle_net {s : State} {x0} : (State.idle s x0).net = s.net := (keep_idle (s := s)).net
@[simp] theorem idle_clk {s : State} {x0} : (State.idle s x0).clk = s.clk := (keep_idle (s := s)).clk
@[simp] theorem idle_en {s : State} {x0} : (State.idle s x0).en = s.en := (keep_idle (s := s)).en

/-! stageRec -/
@[simp] theorem stageRec_pending {s : State} {x0} : (State.stageRec s x0).pending = s.pending := (keep_stageRec (s := s)).pending
@[simp] theorem stageRec_lat {s : State} {x0} : (State.stageRec s x0).lat = s.lat := (keep_stageRec (s := s)).lat
@[simp] theorem stageRec_snaps {s : State} {x0} : (State.stageRec s x0).snaps = s.snaps := (keep_stageRec (s := s)).snaps
@[simp] theorem stageRec_caps {s : State} {x0} : (State.stageRec s x0).caps = s.caps := (keep_stageRec (s := s)).caps
@[simp] theorem stageRec_areas {s : State} {x0} : (State.stageRec s x0).areas = s.areas := (keep_stageRec (s := s)).areas
@[simp] theorem stageRec_rdata {s : State} {x0} : (State.stageRec s x0).rdata = s.rdata := (keep_stageRec (s := s)).rdata
@[simp] theorem stageRec_out {s : State} {x0} : (State.stageRec s x0).out = s.out := (keep_stageRec (s := s)).out
@[simp] theorem stageRec_free {s : State} {x0} : (State.stageRec s x0).free = s.free := (keep_stageRec (s := s)).free
@[simp] theorem stageRec_ms {s : State} {x0} : (State.stageRec s x0).ms = s.ms := (keep_stageRec (s := s)).ms
@[simp] theorem stageRec_win {s : State} {x0} : (State.stageRec s x0).win = s.win := (keep_stageRec (s := s)).win
@[simp] theorem stageRec_host {s : State} {x0} : (State.stageRec s x0).host = s.host := (keep_stageRec (s := s)).host
@[simp] theorem stageRec_sec {s : State} {x0} : (State.stageRec s x0).sec = s.sec := (keep_stageRec (s := s)).sec
@[simp] theorem stageRec_flash {s : State} {x0} : (State.stageRec s x0).flash = s.flash := (keep_stageRec (s := s)).flash
@[simp] theorem stageRec_upd {s : State} {x0} : (State.stageRec s x0).upd = s.upd := (keep_stageRec (s := s)).upd
@[simp] theorem stageRec_clusters {s : State} {x0} : (State.stageRec s x0).clusters = s.clusters := (keep_stageRec (s := s)).clusters
@[simp] theorem stageRec_eng {s : State} {x0} : (State.stageRec s x0).eng = s.eng := (keep_stageRec (s := s)).eng
@[simp] theorem stageRec_scn {s : State} {x0} : (State.stageRec s x0).scn = s.scn := (keep_stageRec (s := s)).scn
@[simp] theorem stageRec_pair {s : State} {x0} : (State.stageRec s x0).pair = s.pair := (keep_stageRec (s := s)).pair
@[simp] theorem stageRec_ports {s : State} {x0} : (State.stageRec s x0).ports = s.ports := (keep_stageRec (s := s)).ports
@[simp] theorem stageRec_sl {s : State} {x0} : (State.stageRec s x0).sl = s.sl := (keep_stageRec (s := s)).sl
@[simp] theorem stageRec_net {s : State} {x0} : (State.stageRec s x0).net = s.net := (keep_stageRec (s := s)).net
@[simp] theorem stageRec_clk {s : State} {x0} : (State.stageRec s x0).clk = s.clk := (keep_stageRec (s := s)).clk
@[simp] theorem stageRec_en {s : State} {x0} : (State.stageRec s x0).en = s.en := (keep_stageRec (s := s)).en

/-! showLog -/
@[simp] theorem showLog_pending {s : State} : (State.showLog s).pending = s.pending := (keep_showLog (s := s)).pending
@[simp] theorem showLog_lat {s : State} : (State.showLog s).lat = s.lat := (keep_showLog (s := s)).lat
@[simp] theorem showLog_snaps {s : State} : (State.showLog s).snaps = s.snaps := (keep_showLog (s := s)).snaps
@[simp] theorem showLog_caps {s : State} : (State.showLog s).caps = s.caps := (keep_showLog (s := s)).caps
@[simp] theorem showLog_areas {s : State} : (State.showLog s).areas = s.areas := (keep_showLog (s := s)).areas
@[simp] theorem showLog_rdata {s : State} : (State.showLog s).rdata = s.rdata := (keep_showLog (s := s)).rdata
@[simp] theorem showLog_out {s : State} : (State.showLog s).out = s.out := (keep_showLog (s := s)).out
@[simp] theorem showLog_free {s : State} : (State.showLog s).free = s.free := (keep_showLog (s := s)).free
@[simp] theorem showLog_ms {s : State} : (State.showLog s).ms = s.ms := (keep_showLog (s := s)).ms
@[simp] theorem showLog_win {s : State} : (State.showLog s).win = s.win := (keep_showLog (s := s)).win
@[simp] theorem showLog_host {s : State} : (State.showLog s).host = s.host := (keep_showLog (s := s)).host
@[simp] theorem showLog_flt {s : State} : (State.showLog s).flt = s.flt := (keep_showLog (s := s)).flt
@[simp] theorem showLog_log {s : State} : (State.showLog s).log = s.log := (keep_showLog (s := s)).log
@[simp] theorem showLog_sec {s : State} : (State.showLog s).sec = s.sec := (keep_showLog (s := s)).sec
@[simp] theorem showLog_flash {s : State} : (State.showLog s).flash = s.flash := (keep_showLog (s := s)).flash
@[simp] theorem showLog_upd {s : State} : (State.showLog s).upd = s.upd := (keep_showLog (s := s)).upd
@[simp] theorem showLog_clusters {s : State} : (State.showLog s).clusters = s.clusters := (keep_showLog (s := s)).clusters
@[simp] theorem showLog_eng {s : State} : (State.showLog s).eng = s.eng := (keep_showLog (s := s)).eng
@[simp] theorem showLog_scn {s : State} : (State.showLog s).scn = s.scn := (keep_showLog (s := s)).scn
@[simp] theorem showLog_pair {s : State} : (State.showLog s).pair = s.pair := (keep_showLog (s := s)).pair
@[simp] theorem showLog_ports {s : State} : (State.showLog s).ports = s.ports := (keep_showLog (s := s)).ports
@[simp] theorem showLog_sl {s : State} : (State.showLog s).sl = s.sl := (keep_showLog (s := s)).sl
@[simp] theorem showLog_net {s : State} : (State.showLog s).net = s.net := (keep_showLog (s := s)).net
@[simp] theorem showLog_clk {s : State} : (State.showLog s).clk = s.clk := (keep_showLog (s := s)).clk
@[simp] theorem showLog_en {s : State} : (State.showLog s).en = s.en := (keep_showLog (s := s)).en

/-! queueEvent -/
@[simp] theorem queueEvent_pending {s : State} {x0} : (State.queueEvent s x0).pending = s.pending := (keep_queueEvent (s := s)).pending
@[simp] theorem queueEvent_lat {s : State} {x0} : (State.queueEvent s x0).lat = s.lat := (keep_queueEvent (s := s)).lat
@[simp] theorem queueEvent_snaps {s : State} {x0} : (State.queueEvent s x0).snaps = s.snaps := (keep_queueEvent (s := s)).snaps
@[simp] theorem queueEvent_caps {s : State} {x0} : (State.queueEvent s x0).caps = s.caps := (keep_queueEvent (s := s)).caps
@[simp] theorem queueEvent_areas {s : State} {x0} : (State.queueEvent s x0).areas = s.areas := (keep_queueEvent (s := s)).areas
@[simp] theorem queueEvent_rdata {s : State} {x0} : (State.queueEvent s x0).rdata = s.rdata := (keep_queueEvent (s := s)).rdata
@[simp] theorem queueEvent_out {s : State} {x0} : (State.queueEvent s x0).out = s.out := (keep_queueEvent (s := s)).out
@[simp] theorem queueEvent_free {s : State} {x0} : (State.queueEvent s x0).free = s.free := (keep_queueEvent (s := s)).free
@[simp] theorem queueEvent_ms {s : State} {x0} : (State.queueEvent s x0).ms = s.ms := (keep_queueEvent (s := s)).ms
@[simp] theorem queueEvent_win {s : State} {x0} : (State.queueEvent s x0).win = s.win := (keep_queueEvent (s := s)).win
@[simp] theorem queueEvent_log {s : State} {x0} : (State.queueEvent s x0).log = s.log := (keep_queueEvent (s := s)).log
@[simp] theorem queueEvent_sec {s : State} {x0} : (State.queueEvent s x0).sec = s.sec := (keep_queueEvent (s := s)).sec
@[simp] theorem queueEvent_flash {s : State} {x0} : (State.queueEvent s x0).flash = s.flash := (keep_queueEvent (s := s)).flash
@[simp] theorem queueEvent_upd {s : State} {x0} : (State.queueEvent s x0).upd = s.upd := (keep_queueEvent (s := s)).upd
@[simp] theorem queueEvent_clusters {s : State} {x0} : (State.queueEvent s x0).clusters = s.clusters := (keep_queueEvent (s := s)).clusters
@[simp] theorem queueEvent_eng {s : State} {x0} : (State.queueEvent s x0).eng = s.eng := (keep_queueEvent (s := s)).eng
@[simp] theorem queueEvent_scn {s : State} {x0} : (State.queueEvent s x0).scn = s.scn := (keep_queueEvent (s := s)).scn
@[simp] theorem queueEvent_pair {s : State} {x0} : (State.queueEvent s x0).pair = s.pair := (keep_queueEvent (s := s)).pair
@[simp] theorem queueEvent_ports {s : State} {x0} : (State.queueEvent s x0).ports = s.ports := (keep_queueEvent (s := s)).ports
@[simp] theorem queueEvent_sl {s : State} {x0} : (State.queueEvent s x0).sl = s.sl := (keep_queueEvent (s := s)).sl
@[simp] theorem queueEvent_net {s : State} {x0} : (State.queueEvent s x0).net = s.net := (keep_queueEvent (s := s)).net
@[simp] theorem queueEvent_clk {s : State} {x0} : (State.queueEvent s x0).clk = s.clk := (keep_queueEvent (s := s)).clk
@[simp] theorem queueEvent_en {s : State} {x0} : (State.queueEvent s x0).en = s.en := (keep_queueEvent (s := s)).en

/-! record -/
@[simp] theorem record_pending {s : State} {x0 x1 x2 x3 x4} : (State.record s x0 x1 x2 x3 x4).pending = s.pending := (keep_record (s := s)).pending
@[simp] theorem record_lat {s : State} {x0 x1 x2 x3 x4} : (State.record s x0 x1 x2 x3 x4).lat = s.lat := (keep_record (s := s)).lat
@[simp] theorem record_snaps {s : State} {x0 x1 x2 x3 x4} : (State.record s x0 x1 x2 x3 x4).snaps = s.snaps := (keep_record (s := s)).snaps
@[simp] theorem record_caps {s : State} {x0 x1 x2 x3 x4} : (State.record s x0 x1 x2 x3 x4).caps = s.caps := (keep_record (s := s)).caps
@[simp] theorem record_areas {s : State} {x0 x1 x2 x3 x4} : (State.record s x0 x1 x2 x3 x4).areas = s.areas := (keep_record (s := s)).areas
@[simp] theorem record_rdata {s : State} {x0 x1 x2 x3 x4} : (State.record s x0 x1 x2 x3 x4).rdata = s.rdata := (keep_record (s := s)).rdata
@[simp] theorem record_out {s : State} {x0 x1 x2 x3 x4} : (State.record s x0 x1 x2 x3 x4).out = s.out := (keep_record (s := s)).out
@[simp] theorem record_free {s : State} {x0 x1 x2 x3 x4} : (State.record s x0 x1 x2 x3 x4).free = s.free := (keep_record (s := s)).free
@[simp] theorem record_ms {s : State} {x0 x1 x2 x3 x4} : (State.record s x0 x1 x2 x3 x4).ms = s.ms := (keep_record (s := s)).ms
@[simp] theorem record_win {s : State} {x0 x1 x2 x3 x4} : (State.record s x0 x1 x2 x3 x4).win = s.win := (keep_record (s := s)).win
@[simp] theorem record_sec {s : State} {x0 x1 x2 x3 x4} : (State.record s x0 x1 x2 x3 x4).sec = s.sec := (keep_record (s := s)).sec
@[simp] theorem record_flash {s : State} {x0 x1 x2 x3 x4} : (State.record s x0 x1 x2 x3 x4).flash = s.flash := (keep_record (s := s)).flash
@[simp] theorem record_upd {s : State} {x0 x1 x2 x3 x4} : (State.record s x0 x1 x2 x3 x4).upd = s.upd := (keep_record (s := s)).upd
@[simp] theorem record_clusters {s : State} {x0 x1 x2 x3 x4} : (State.record s x0 x1 x2 x3 x4).clusters = s.clusters := (keep_record (s := s)).clusters
@[simp] theorem record_eng {s : State} {x0 x1 x2 x3 x4} : (State.record s x0 x1 x2 x3 x4).eng = s.eng := (keep_record (s := s)).eng
@[simp] theorem record_scn {s : State} {x0 x1 x2 x3 x4} : (State.record s x0 x1 x2 x3 x4).scn = s.scn := (keep_record (s := s)).scn
@[simp] theorem record_pair {s : State} {x0 x1 x2 x3 x4} : (State.record s x0 x1 x2 x3 x4).pair = s.pair := (keep_record (s := s)).pair
@[simp] theorem record_ports {s : State} {x0 x1 x2 x3 x4} : (State.record s x0 x1 x2 x3 x4).ports = s.ports := (keep_record (s := s)).ports
@[simp] theorem record_sl {s : State} {x0 x1 x2 x3 x4} : (State.record s x0 x1 x2 x3 x4).sl = s.sl := (keep_record (s := s)).sl
@[simp] theorem record_net {s : State} {x0 x1 x2 x3 x4} : (State.record s x0 x1 x2 x3 x4).net = s.net := (keep_record (s := s)).net
@[simp] theorem record_clk {s : State} {x0 x1 x2 x3 x4} : (State.record s x0 x1 x2 x3 x4).clk = s.clk := (keep_record (s := s)).clk
@[simp] theorem record_en {s : State} {x0 x1 x2 x3 x4} : (State.record s x0 x1 x2 x3 x4).en = s.en := (keep_record (s := s)).en

/-! sendVec -/
@[simp] theorem sendVec_pending {s : State} {x0} : (State.sendVec s x0).pending = s.pending := (keep_sendVec (s := s)).pending
@[simp] theorem sendVec_lat {s : State} {x0} : (State.sendVec s x0).lat = s.lat := (keep_sendVec (s := s)).lat
@[simp] theorem sendVec_snaps {s : State} {x0} : (State.sendVec s x0).snaps = s.snaps := (keep_sendVec (s := s)).snaps
@[simp] theorem sendVec_caps {s : State} {x0} : (State.sendVec s x0).caps = s.caps := (keep_sendVec (s := s)).caps
@[simp] theorem sendVec_areas {s : State} {x0} : (State.sendVec s x0).areas = s.areas := (keep_sendVec (s := s)).areas
@[simp] theorem sendVec_rdata {s : State} {x0} : (State.sendVec s x0).rdata = s.rdata := (keep_sendVec (s := s)).rdata
@[simp] theorem sendVec_free {s : State} {x0} : (State.sendVec s x0).free = s.free := (keep_sendVec (s := s)).free
@[simp] theorem sendVec_ms {s : State} {x0} : (State.sendVec s x0).ms = s.ms := (keep_sendVec (s := s)).ms
@[simp] theorem sendVec_win {s : State} {x0} : (State.sendVec s x0).win = s.win := (keep_sendVec (s := s)).win
@[simp] theorem sendVec_host {s : State} {x0} : (State.sendVec s x0).host = s.host := (keep_sendVec (s := s)).host
@[simp] theorem sendVec_flt {s : State} {x0} : (State.sendVec s x0).flt = s.flt := (keep_sendVec (s := s)).flt
@[simp] theorem sendVec_log {s : State} {x0} : (State.sendVec s x0).log = s.log := (keep_sendVec (s := s)).log
@[simp] theorem sendVec_sec {s : State} {x0} : (State.sendVec s x0).sec = s.sec := (keep_sendVec (s := s)).sec
@[simp] theorem sendVec_flash {s : State} {x0} : (State.sendVec s x0).flash = s.flash := (keep_sendVec (s := s)).flash
@[simp] theorem sendVec_upd {s : State} {x0} : (State.sendVec s x0).upd = s.upd := (keep_sendVec (s := s)).upd
@[simp] theorem sendVec_clusters {s : State} {x0} : (State.sendVec s x0).clusters = s.clusters := (keep_sendVec (s := s)).clusters
@[simp] theorem sendVec_eng {s : State} {x0} : (State.sendVec s x0).eng = s.eng := (keep_sendVec (s := s)).eng
@[simp] theorem sendVec_scn {s : State} {x0} : (State.sendVec s x0).scn = s.scn := (keep_sendVec (s := s)).scn
@[simp] theorem sendVec_pair {s : State} {x0} : (State.sendVec s x0).pair = s.pair := (keep_sendVec (s := s)).pair
@[simp] theorem sendVec_ports {s : State} {x0} : (State.sendVec s x0).ports = s.ports := (keep_sendVec (s := s)).ports
@[simp] theorem sendVec_sl {s : State} {x0} : (State.sendVec s x0).sl = s.sl := (keep_sendVec (s := s)).sl
@[simp] theorem sendVec_net {s : State} {x0} : (State.sendVec s x0).net = s.net := (keep_sendVec (s := s)).net
@[simp] theorem sendVec_clk {s : State} {x0} : (State.sendVec s x0).clk = s.clk := (keep_sendVec (s := s)).clk
@[simp] theorem sendVec_en {s : State} {x0} : (State.sendVec s x0).en = s.en := (keep_sendVec (s := s)).en

/-! countIrq -/
@[simp] theorem countIrq_pending {s : State} {x0 x1} : (State.countIrq s x0 x1).pending = s.pending := (keep_countIrq (s := s)).pending
@[simp] theorem countIrq_lat {s : State} {x0 x1} : (State.countIrq s x0 x1).lat = s.lat := (keep_countIrq (s := s)).lat
@[simp] theorem countIrq_snaps {s : State} {x0 x1} : (State.countIrq s x0 x1).snaps = s.snaps := (keep_countIrq (s := s)).snaps
@[simp] theorem countIrq_caps {s : State} {x0 x1} : (State.countIrq s x0 x1).caps = s.caps := (keep_countIrq (s := s)).caps
@[simp] theorem countIrq_areas {s : State} {x0 x1} : (State.countIrq s x0 x1).areas = s.areas := (keep_countIrq (s := s)).areas
@[simp] theorem countIrq_rdata {s : State} {x0 x1} : (State.countIrq s x0 x1).rdata = s.rdata := (keep_countIrq (s := s)).rdata
@[simp] theorem countIrq_free {s : State} {x0 x1} : (State.countIrq s x0 x1).free = s.free := (keep_countIrq (s := s)).free
@[simp] theorem countIrq_ms {s : State} {x0 x1} : (State.countIrq s x0 x1).ms = s.ms := (keep_countIrq (s := s)).ms
@[simp] theorem countIrq_win {s : State} {x0 x1} : (State.countIrq s x0 x1).win = s.win := (keep_countIrq (s := s)).win
@[simp] theorem countIrq_flt {s : State} {x0 x1} : (State.countIrq s x0 x1).flt = s.flt := (keep_countIrq (s := s)).flt
@[simp] theorem countIrq_log {s : State} {x0 x1} : (State.countIrq s x0 x1).log = s.log := (keep_countIrq (s := s)).log
@[simp] theorem countIrq_sec {s : State} {x0 x1} : (State.countIrq s x0 x1).sec = s.sec := (keep_countIrq (s := s)).sec
@[simp] theorem countIrq_flash {s : State} {x0 x1} : (State.countIrq s x0 x1).flash = s.flash := (keep_countIrq (s := s)).flash
@[simp] theorem countIrq_upd {s : State} {x0 x1} : (State.countIrq s x0 x1).upd = s.upd := (keep_countIrq (s := s)).upd
@[simp] theorem countIrq_clusters {s : State} {x0 x1} : (State.countIrq s x0 x1).clusters = s.clusters := (keep_countIrq (s := s)).clusters
@[simp] theorem countIrq_eng {s : State} {x0 x1} : (State.countIrq s x0 x1).eng = s.eng := (keep_countIrq (s := s)).eng
@[simp] theorem countIrq_scn {s : State} {x0 x1} : (State.countIrq s x0 x1).scn = s.scn := (keep_countIrq (s := s)).scn
@[simp] theorem countIrq_pair {s : State} {x0 x1} : (State.countIrq s x0 x1).pair = s.pair := (keep_countIrq (s := s)).pair
@[simp] theorem countIrq_ports {s : State} {x0 x1} : (State.countIrq s x0 x1).ports = s.ports := (keep_countIrq (s := s)).ports
@[simp] theorem countIrq_sl {s : State} {x0 x1} : (State.countIrq s x0 x1).sl = s.sl := (keep_countIrq (s := s)).sl
@[simp] theorem countIrq_net {s : State} {x0 x1} : (State.countIrq s x0 x1).net = s.net := (keep_countIrq (s := s)).net
@[simp] theorem countIrq_clk {s : State} {x0 x1} : (State.countIrq s x0 x1).clk = s.clk := (keep_countIrq (s := s)).clk
@[simp] theorem countIrq_en {s : State} {x0 x1} : (State.countIrq s x0 x1).en = s.en := (keep_countIrq (s := s)).en

/-! setQueue -/
@[simp] theorem setQueue_pending {s : State} {x0 x1} : (State.setQueue s x0 x1).pending = s.pending := (keep_setQueue (s := s)).pending
@[simp] theorem setQueue_regs {s : State} {x0 x1} : (State.setQueue s x0 x1).regs = s.regs := (keep_setQueue (s := s)).regs
@[simp] theorem setQueue_lat {s : State} {x0 x1} : (State.setQueue s x0 x1).lat = s.lat := (keep_setQueue (s := s)).lat
@[simp] theorem setQueue_snaps {s : State} {x0 x1} : (State.setQueue s x0 x1).snaps = s.snaps := (keep_setQueue (s := s)).snaps
@[simp] theorem setQueue_caps {s : State} {x0 x1} : (State.setQueue s x0 x1).caps = s.caps := (keep_setQueue (s := s)).caps
@[simp] theorem setQueue_areas {s : State} {x0 x1} : (State.setQueue s x0 x1).areas = s.areas := (keep_setQueue (s := s)).areas
@[simp] theorem setQueue_rdata {s : State} {x0 x1} : (State.setQueue s x0 x1).rdata = s.rdata := (keep_setQueue (s := s)).rdata
@[simp] theorem setQueue_out {s : State} {x0 x1} : (State.setQueue s x0 x1).out = s.out := (keep_setQueue (s := s)).out
@[simp] theorem setQueue_free {s : State} {x0 x1} : (State.setQueue s x0 x1).free = s.free := (keep_setQueue (s := s)).free
@[simp] theorem setQueue_ms {s : State} {x0 x1} : (State.setQueue s x0 x1).ms = s.ms := (keep_setQueue (s := s)).ms
@[simp] theorem setQueue_win {s : State} {x0 x1} : (State.setQueue s x0 x1).win = s.win := (keep_setQueue (s := s)).win
@[simp] theorem setQueue_flt {s : State} {x0 x1} : (State.setQueue s x0 x1).flt = s.flt := (keep_setQueue (s := s)).flt
@[simp] theorem setQueue_log {s : State} {x0 x1} : (State.setQueue s x0 x1).log = s.log := (keep_setQueue (s := s)).log
@[simp] theorem setQueue_sec {s : State} {x0 x1} : (State.setQueue s x0 x1).sec = s.sec := (keep_setQueue (s := s)).sec
@[simp] theorem setQueue_flash {s : State} {x0 x1} : (State.setQueue s x0 x1).flash = s.flash := (keep_setQueue (s := s)).flash
@[simp] theorem setQueue_upd {s : State} {x0 x1} : (State.setQueue s x0 x1).upd = s.upd := (keep_setQueue (s := s)).upd
@[simp] theorem setQueue_clusters {s : State} {x0 x1} : (State.setQueue s x0 x1).clusters = s.clusters := (keep_setQueue (s := s)).clusters
@[simp] theorem setQueue_eng {s : State} {x0 x1} : (State.setQueue s x0 x1).eng = s.eng := (keep_setQueue (s := s)).eng
@[simp] theorem setQueue_scn {s : State} {x0 x1} : (State.setQueue s x0 x1).scn = s.scn := (keep_setQueue (s := s)).scn
@[simp] theorem setQueue_pair {s : State} {x0 x1} : (State.setQueue s x0 x1).pair = s.pair := (keep_setQueue (s := s)).pair
@[simp] theorem setQueue_ports {s : State} {x0 x1} : (State.setQueue s x0 x1).ports = s.ports := (keep_setQueue (s := s)).ports
@[simp] theorem setQueue_sl {s : State} {x0 x1} : (State.setQueue s x0 x1).sl = s.sl := (keep_setQueue (s := s)).sl
@[simp] theorem setQueue_net {s : State} {x0 x1} : (State.setQueue s x0 x1).net = s.net := (keep_setQueue (s := s)).net
@[simp] theorem setQueue_clk {s : State} {x0 x1} : (State.setQueue s x0 x1).clk = s.clk := (keep_setQueue (s := s)).clk
@[simp] theorem setQueue_en {s : State} {x0 x1} : (State.setQueue s x0 x1).en = s.en := (keep_setQueue (s := s)).en

/-! consume -/
@[simp] theorem consume_pending {s : State} {x0} : (State.consume s x0).pending = s.pending := (keep_consume (s := s)).pending
@[simp] theorem consume_lat {s : State} {x0} : (State.consume s x0).lat = s.lat := (keep_consume (s := s)).lat
@[simp] theorem consume_snaps {s : State} {x0} : (State.consume s x0).snaps = s.snaps := (keep_consume (s := s)).snaps
@[simp] theorem consume_caps {s : State} {x0} : (State.consume s x0).caps = s.caps := (keep_consume (s := s)).caps
@[simp] theorem consume_areas {s : State} {x0} : (State.consume s x0).areas = s.areas := (keep_consume (s := s)).areas
@[simp] theorem consume_rdata {s : State} {x0} : (State.consume s x0).rdata = s.rdata := (keep_consume (s := s)).rdata
@[simp] theorem consume_out {s : State} {x0} : (State.consume s x0).out = s.out := (keep_consume (s := s)).out
@[simp] theorem consume_free {s : State} {x0} : (State.consume s x0).free = s.free := (keep_consume (s := s)).free
@[simp] theorem consume_ms {s : State} {x0} : (State.consume s x0).ms = s.ms := (keep_consume (s := s)).ms
@[simp] theorem consume_win {s : State} {x0} : (State.consume s x0).win = s.win := (keep_consume (s := s)).win
@[simp] theorem consume_flt {s : State} {x0} : (State.consume s x0).flt = s.flt := (keep_consume (s := s)).flt
@[simp] theorem consume_log {s : State} {x0} : (State.consume s x0).log = s.log := (keep_consume (s := s)).log
@[simp] theorem consume_sec {s : State} {x0} : (State.consume s x0).sec = s.sec := (keep_consume (s := s)).sec
@[simp] theorem consume_flash {s : State} {x0} : (State.consume s x0).flash = s.flash := (keep_consume (s := s)).flash
@[simp] theorem consume_upd {s : State} {x0} : (State.consume s x0).upd = s.upd := (keep_consume (s := s)).upd
@[simp] theorem consume_clusters {s : State} {x0} : (State.consume s x0).clusters = s.clusters := (keep_consume (s := s)).clusters
@[simp] theorem consume_eng {s : State} {x0} : (State.consume s x0).eng = s.eng := (keep_consume (s := s)).eng
@[simp] theorem consume_scn {s : State} {x0} : (State.consume s x0).scn = s.scn := (keep_consume (s := s)).scn
@[simp] theorem consume_pair {s : State} {x0} : (State.consume s x0).pair = s.pair := (keep_consume (s := s)).pair
@[simp] theorem consume_ports {s : State} {x0} : (State.consume s x0).ports = s.ports := (keep_consume (s := s)).ports
@[simp] theorem consume_sl {s : State} {x0} : (State.consume s x0).sl = s.sl := (keep_consume (s := s)).sl
@[simp] theorem consume_net {s : State} {x0} : (State.consume s x0).net = s.net := (keep_consume (s := s)).net
@[simp] theorem consume_clk {s : State} {x0} : (State.consume s x0).clk = s.clk := (keep_consume (s := s)).clk
@[simp] theorem consume_en {s : State} {x0} : (State.consume s x0).en = s.en := (keep_consume (s := s)).en

/-! spiPut -/
@[simp] theorem spiPut_pending {s : State} {x0 x1} : (State.spiPut s x0 x1).pending = s.pending := (keep_spiPut (s := s)).pending
@[simp] theorem spiPut_regs {s : State} {x0 x1} : (State.spiPut s x0 x1).regs = s.regs := (keep_spiPut (s := s)).regs
@[simp] theorem spiPut_lat {s : State} {x0 x1} : (State.spiPut s x0 x1).lat = s.lat := (keep_spiPut (s := s)).lat
@[simp] theorem spiPut_snaps {s : State} {x0 x1} : (State.spiPut s x0 x1).snaps = s.snaps := (keep_spiPut (s := s)).snaps
@[simp] theorem spiPut_caps {s : State} {x0 x1} : (State.spiPut s x0 x1).caps = s.caps := (keep_spiPut (s := s)).caps
@[simp] theorem spiPut_areas {s : State} {x0 x1} : (State.spiPut s x0 x1).areas = s.areas := (keep_spiPut (s := s)).areas
@[simp] theorem spiPut_rdata {s : State} {x0 x1} : (State.spiPut s x0 x1).rdata = s.rdata := (keep_spiPut (s := s)).rdata
@[simp] theorem spiPut_out {s : State} {x0 x1} : (State.spiPut s x0 x1).out = s.out := (keep_spiPut (s := s)).out
@[simp] theorem spiPut_free {s : State} {x0 x1} : (State.spiPut s x0 x1).free = s.free := (keep_spiPut (s := s)).free
@[simp] theorem spiPut_ms {s : State} {x0 x1} : (State.spiPut s x0 x1).ms = s.ms := (keep_spiPut (s := s)).ms
@[simp] theorem spiPut_win {s : State} {x0 x1} : (State.spiPut s x0 x1).win = s.win := (keep_spiPut (s := s)).win
@[simp] theorem spiPut_flt {s : State} {x0 x1} : (State.spiPut s x0 x1).flt = s.flt := (keep_spiPut (s := s)).flt
@[simp] theorem spiPut_log {s : State} {x0 x1} : (State.spiPut s x0 x1).log = s.log := (keep_spiPut (s := s)).log
@[simp] theorem spiPut_sec {s : State} {x0 x1} : (State.spiPut s x0 x1).sec = s.sec := (keep_spiPut (s := s)).sec
@[simp] theorem spiPut_flash {s : State} {x0 x1} : (State.spiPut s x0 x1).flash = s.flash := (keep_spiPut (s := s)).flash
@[simp] theorem spiPut_upd {s : State} {x0 x1} : (State.spiPut s x0 x1).upd = s.upd := (keep_spiPut (s := s)).upd
@[simp] theorem spiPut_clusters {s : State} {x0 x1} : (State.spiPut s x0 x1).clusters = s.clusters := (keep_spiPut (s := s)).clusters
@[simp] theorem spiPut_eng {s : State} {x0 x1} : (State.spiPut s x0 x1).eng = s.eng := (keep_spiPut (s := s)).eng
@[simp] theorem spiPut_scn {s : State} {x0 x1} : (State.spiPut s x0 x1).scn = s.scn := (keep_spiPut (s := s)).scn
@[simp] theorem spiPut_pair {s : State} {x0 x1} : (State.spiPut s x0 x1).pair = s.pair := (keep_spiPut (s := s)).pair
@[simp] theorem spiPut_ports {s : State} {x0 x1} : (State.spiPut s x0 x1).ports = s.ports := (keep_spiPut (s := s)).ports
@[simp] theorem spiPut_sl {s : State} {x0 x1} : (State.spiPut s x0 x1).sl = s.sl := (keep_spiPut (s := s)).sl
@[simp] theorem spiPut_net {s : State} {x0 x1} : (State.spiPut s x0 x1).net = s.net := (keep_spiPut (s := s)).net
@[simp] theorem spiPut_clk {s : State} {x0 x1} : (State.spiPut s x0 x1).clk = s.clk := (keep_spiPut (s := s)).clk
@[simp] theorem spiPut_en {s : State} {x0 x1} : (State.spiPut s x0 x1).en = s.en := (keep_spiPut (s := s)).en

/-! dmaOut -/
@[simp] theorem dmaOut_pending {s : State} {x0 x1} : (State.dmaOut s x0 x1).pending = s.pending := (keep_dmaOut (s := s)).pending
@[simp] theorem dmaOut_regs {s : State} {x0 x1} : (State.dmaOut s x0 x1).regs = s.regs := (keep_dmaOut (s := s)).regs
@[simp] theorem dmaOut_lat {s : State} {x0 x1} : (State.dmaOut s x0 x1).lat = s.lat := (keep_dmaOut (s := s)).lat
@[simp] theorem dmaOut_snaps {s : State} {x0 x1} : (State.dmaOut s x0 x1).snaps = s.snaps := (keep_dmaOut (s := s)).snaps
@[simp] theorem dmaOut_caps {s : State} {x0 x1} : (State.dmaOut s x0 x1).caps = s.caps := (keep_dmaOut (s := s)).caps
@[simp] theorem dmaOut_areas {s : State} {x0 x1} : (State.dmaOut s x0 x1).areas = s.areas := (keep_dmaOut (s := s)).areas
@[simp] theorem dmaOut_rdata {s : State} {x0 x1} : (State.dmaOut s x0 x1).rdata = s.rdata := (keep_dmaOut (s := s)).rdata
@[simp] theorem dmaOut_free {s : State} {x0 x1} : (State.dmaOut s x0 x1).free = s.free := (keep_dmaOut (s := s)).free
@[simp] theorem dmaOut_ms {s : State} {x0 x1} : (State.dmaOut s x0 x1).ms = s.ms := (keep_dmaOut (s := s)).ms
@[simp] theorem dmaOut_win {s : State} {x0 x1} : (State.dmaOut s x0 x1).win = s.win := (keep_dmaOut (s := s)).win
@[simp] theorem dmaOut_flt {s : State} {x0 x1} : (State.dmaOut s x0 x1).flt = s.flt := (keep_dmaOut (s := s)).flt
@[simp] theorem dmaOut_log {s : State} {x0 x1} : (State.dmaOut s x0 x1).log = s.log := (keep_dmaOut (s := s)).log
@[simp] theorem dmaOut_sec {s : State} {x0 x1} : (State.dmaOut s x0 x1).sec = s.sec := (keep_dmaOut (s := s)).sec
@[simp] theorem dmaOut_flash {s : State} {x0 x1} : (State.dmaOut s x0 x1).flash = s.flash := (keep_dmaOut (s := s)).flash
@[simp] theorem dmaOut_upd {s : State} {x0 x1} : (State.dmaOut s x0 x1).upd = s.upd := (keep_dmaOut (s := s)).upd
@[simp] theorem dmaOut_clusters {s : State} {x0 x1} : (State.dmaOut s x0 x1).clusters = s.clusters := (keep_dmaOut (s := s)).clusters
@[simp] theorem dmaOut_eng {s : State} {x0 x1} : (State.dmaOut s x0 x1).eng = s.eng := (keep_dmaOut (s := s)).eng
@[simp] theorem dmaOut_scn {s : State} {x0 x1} : (State.dmaOut s x0 x1).scn = s.scn := (keep_dmaOut (s := s)).scn
@[simp] theorem dmaOut_pair {s : State} {x0 x1} : (State.dmaOut s x0 x1).pair = s.pair := (keep_dmaOut (s := s)).pair
@[simp] theorem dmaOut_ports {s : State} {x0 x1} : (State.dmaOut s x0 x1).ports = s.ports := (keep_dmaOut (s := s)).ports
@[simp] theorem dmaOut_sl {s : State} {x0 x1} : (State.dmaOut s x0 x1).sl = s.sl := (keep_dmaOut (s := s)).sl
@[simp] theorem dmaOut_net {s : State} {x0 x1} : (State.dmaOut s x0 x1).net = s.net := (keep_dmaOut (s := s)).net
@[simp] theorem dmaOut_clk {s : State} {x0 x1} : (State.dmaOut s x0 x1).clk = s.clk := (keep_dmaOut (s := s)).clk
@[simp] theorem dmaOut_en {s : State} {x0 x1} : (State.dmaOut s x0 x1).en = s.en := (keep_dmaOut (s := s)).en

/-! writeBack -/
@[simp] theorem writeBack_pending {s : State} {x0 x1 x2} : (State.writeBack s x0 x1 x2).pending = s.pending := (keep_writeBack (s := s)).pending
@[simp] theorem writeBack_regs {s : State} {x0 x1 x2} : (State.writeBack s x0 x1 x2).regs = s.regs := (keep_writeBack (s := s)).regs
@[simp] theorem writeBack_lat {s : State} {x0 x1 x2} : (State.writeBack s x0 x1 x2).lat = s.lat := (keep_writeBack (s := s)).lat
@[simp] theorem writeBack_snaps {s : State} {x0 x1 x2} : (State.writeBack s x0 x1 x2).snaps = s.snaps := (keep_writeBack (s := s)).snaps
@[simp] theorem writeBack_caps {s : State} {x0 x1 x2} : (State.writeBack s x0 x1 x2).caps = s.caps := (keep_writeBack (s := s)).caps
@[simp] theorem writeBack_areas {s : State} {x0 x1 x2} : (State.writeBack s x0 x1 x2).areas = s.areas := (keep_writeBack (s := s)).areas
@[simp] theorem writeBack_rdata {s : State} {x0 x1 x2} : (State.writeBack s x0 x1 x2).rdata = s.rdata := (keep_writeBack (s := s)).rdata
@[simp] theorem writeBack_free {s : State} {x0 x1 x2} : (State.writeBack s x0 x1 x2).free = s.free := (keep_writeBack (s := s)).free
@[simp] theorem writeBack_ms {s : State} {x0 x1 x2} : (State.writeBack s x0 x1 x2).ms = s.ms := (keep_writeBack (s := s)).ms
@[simp] theorem writeBack_win {s : State} {x0 x1 x2} : (State.writeBack s x0 x1 x2).win = s.win := (keep_writeBack (s := s)).win
@[simp] theorem writeBack_flt {s : State} {x0 x1 x2} : (State.writeBack s x0 x1 x2).flt = s.flt := (keep_writeBack (s := s)).flt
@[simp] theorem writeBack_log {s : State} {x0 x1 x2} : (State.writeBack s x0 x1 x2).log = s.log := (keep_writeBack (s := s)).log
@[simp] theorem writeBack_sec {s : State} {x0 x1 x2} : (State.writeBack s x0 x1 x2).sec = s.sec := (keep_writeBack (s := s)).sec
@[simp] theorem writeBack_flash {s : State} {x0 x1 x2} : (State.writeBack s x0 x1 x2).flash = s.flash := (keep_writeBack (s := s)).flash
@[simp] theorem writeBack_upd {s : State} {x0 x1 x2} : (State.writeBack s x0 x1 x2).upd = s.upd := (keep_writeBack (s := s)).upd
@[simp] theorem writeBack_clusters {s : State} {x0 x1 x2} : (State.writeBack s x0 x1 x2).clusters = s.clusters := (keep_writeBack (s := s)).clusters
@[simp] theorem writeBack_eng {s : State} {x0 x1 x2} : (State.writeBack s x0 x1 x2).eng = s.eng := (keep_writeBack (s := s)).eng
@[simp] theorem writeBack_scn {s : State} {x0 x1 x2} : (State.writeBack s x0 x1 x2).scn = s.scn := (keep_writeBack (s := s)).scn
@[simp] theorem writeBack_pair {s : State} {x0 x1 x2} : (State.writeBack s x0 x1 x2).pair = s.pair := (keep_writeBack (s := s)).pair
@[simp] theorem writeBack_ports {s : State} {x0 x1 x2} : (State.writeBack s x0 x1 x2).ports = s.ports := (keep_writeBack (s := s)).ports
@[simp] theorem writeBack_sl {s : State} {x0 x1 x2} : (State.writeBack s x0 x1 x2).sl = s.sl := (keep_writeBack (s := s)).sl
@[simp] theorem writeBack_net {s : State} {x0 x1 x2} : (State.writeBack s x0 x1 x2).net = s.net := (keep_writeBack (s := s)).net
@[simp] theorem writeBack_clk {s : State} {x0 x1 x2} : (State.writeBack s x0 x1 x2).clk = s.clk := (keep_writeBack (s := s)).clk
@[simp] theorem writeBack_en {s : State} {x0 x1 x2} : (State.writeBack s x0 x1 x2).en = s.en := (keep_writeBack (s := s)).en

/-! respond -/
@[simp] theorem respond_pending {s : State} {x0 x1 x2 x3 x4} : (State.respond s x0 x1 x2 x3 x4).pending = s.pending := (keep_respond (s := s)).pending
@[simp] theorem respond_lat {s : State} {x0 x1 x2 x3 x4} : (State.respond s x0 x1 x2 x3 x4).lat = s.lat := (keep_respond (s := s)).lat
@[simp] theorem respond_snaps {s : State} {x0 x1 x2 x3 x4} : (State.respond s x0 x1 x2 x3 x4).snaps = s.snaps := (keep_respond (s := s)).snaps
@[simp] theorem respond_caps {s : State} {x0 x1 x2 x3 x4} : (State.respond s x0 x1 x2 x3 x4).caps = s.caps := (keep_respond (s := s)).caps
@[simp] theorem respond_areas {s : State} {x0 x1 x2 x3 x4} : (State.respond s x0 x1 x2 x3 x4).areas = s.areas := (keep_respond (s := s)).areas
@[simp] theorem respond_rdata {s : State} {x0 x1 x2 x3 x4} : (State.respond s x0 x1 x2 x3 x4).rdata = s.rdata := (keep_respond (s := s)).rdata
@[simp] theorem respond_free {s : State} {x0 x1 x2 x3 x4} : (State.respond s x0 x1 x2 x3 x4).free = s.free := (keep_respond (s := s)).free
@[simp] theorem respond_ms {s : State} {x0 x1 x2 x3 x4} : (State.respond s x0 x1 x2 x3 x4).ms = s.ms := (keep_respond (s := s)).ms
@[simp] theorem respond_win {s : State} {x0 x1 x2 x3 x4} : (State.respond s x0 x1 x2 x3 x4).win = s.win := (keep_respond (s := s)).win
@[simp] theorem respond_log {s : State} {x0 x1 x2 x3 x4} : (State.respond s x0 x1 x2 x3 x4).log = s.log := (keep_respond (s := s)).log
@[simp] theorem respond_sec {s : State} {x0 x1 x2 x3 x4} : (State.respond s x0 x1 x2 x3 x4).sec = s.sec := (keep_respond (s := s)).sec
@[simp] theorem respond_flash {s : State} {x0 x1 x2 x3 x4} : (State.respond s x0 x1 x2 x3 x4).flash = s.flash := (keep_respond (s := s)).flash
@[simp] theorem respond_upd {s : State} {x0 x1 x2 x3 x4} : (State.respond s x0 x1 x2 x3 x4).upd = s.upd := (keep_respond (s := s)).upd
@[simp] theorem respond_clusters {s : State} {x0 x1 x2 x3 x4} : (State.respond s x0 x1 x2 x3 x4).clusters = s.clusters := (keep_respond (s := s)).clusters
@[simp] theorem respond_eng {s : State} {x0 x1 x2 x3 x4} : (State.respond s x0 x1 x2 x3 x4).eng = s.eng := (keep_respond (s := s)).eng
@[simp] theorem respond_scn {s : State} {x0 x1 x2 x3 x4} : (State.respond s x0 x1 x2 x3 x4).scn = s.scn := (keep_respond (s := s)).scn
@[simp] theorem respond_pair {s : State} {x0 x1 x2 x3 x4} : (State.respond s x0 x1 x2 x3 x4).pair = s.pair := (keep_respond (s := s)).pair
@[simp] theorem respond_ports {s : State} {x0 x1 x2 x3 x4} : (State.respond s x0 x1 x2 x3 x4).ports = s.ports := (keep_respond (s := s)).ports
@[simp] theorem respond_sl {s : State} {x0 x1 x2 x3 x4} : (State.respond s x0 x1 x2 x3 x4).sl = s.sl := (keep_respond (s := s)).sl
@[simp] theorem respond_net {s : State} {x0 x1 x2 x3 x4} : (State.respond s x0 x1 x2 x3 x4).net = s.net := (keep_respond (s := s)).net
@[simp] theorem respond_clk {s : State} {x0 x1 x2 x3 x4} : (State.respond s x0 x1 x2 x3 x4).clk = s.clk := (keep_respond (s := s)).clk
@[simp] theorem respond_en {s : State} {x0 x1 x2 x3 x4} : (State.respond s x0 x1 x2 x3 x4).en = s.en := (keep_respond (s := s)).en

/-! setLat -/
@[simp] theorem setLat_pending {s : State} {x0 x1} : (State.setLat s x0 x1).pending = s.pending := (keep_setLat (s := s)).pending
@[simp] theorem setLat_regs {s : State} {x0 x1} : (State.setLat s x0 x1).regs = s.regs := (keep_setLat (s := s)).regs
@[simp] theorem setLat_snaps {s : State} {x0 x1} : (State.setLat s x0 x1).snaps = s.snaps := (keep_setLat (s := s)).snaps
@[simp] theorem setLat_caps {s : State} {x0 x1} : (State.setLat s x0 x1).caps = s.caps := (keep_setLat (s := s)).caps
@[simp] theorem setLat_areas {s : State} {x0 x1} : (State.setLat s x0 x1).areas = s.areas := (keep_setLat (s := s)).areas
@[simp] theorem setLat_rdata {s : State} {x0 x1} : (State.setLat s x0 x1).rdata = s.rdata := (keep_setLat (s := s)).rdata
@[simp] theorem setLat_out {s : State} {x0 x1} : (State.setLat s x0 x1).out = s.out := (keep_setLat (s := s)).out
@[simp] theorem setLat_free {s : State} {x0 x1} : (State.setLat s x0 x1).free = s.free := (keep_setLat (s := s)).free
@[simp] theorem setLat_ms {s : State} {x0 x1} : (State.setLat s x0 x1).ms = s.ms := (keep_setLat (s := s)).ms
@[simp] theorem setLat_win {s : State} {x0 x1} : (State.setLat s x0 x1).win = s.win := (keep_setLat (s := s)).win
@[simp] theorem setLat_host {s : State} {x0 x1} : (State.setLat s x0 x1).host = s.host := (keep_setLat (s := s)).host
@[simp] theorem setLat_flt {s : State} {x0 x1} : (State.setLat s x0 x1).flt = s.flt := (keep_setLat (s := s)).flt
@[simp] theorem setLat_log {s : State} {x0 x1} : (State.setLat s x0 x1).log = s.log := (keep_setLat (s := s)).log
@[simp] theorem setLat_sec {s : State} {x0 x1} : (State.setLat s x0 x1).sec = s.sec := (keep_setLat (s := s)).sec
@[simp] theorem setLat_flash {s : State} {x0 x1} : (State.setLat s x0 x1).flash = s.flash := (keep_setLat (s := s)).flash
@[simp] theorem setLat_upd {s : State} {x0 x1} : (State.setLat s x0 x1).upd = s.upd := (keep_setLat (s := s)).upd
@[simp] theorem setLat_clusters {s : State} {x0 x1} : (State.setLat s x0 x1).clusters = s.clusters := (keep_setLat (s := s)).clusters
@[simp] theorem setLat_eng {s : State} {x0 x1} : (State.setLat s x0 x1).eng = s.eng := (keep_setLat (s := s)).eng
@[simp] theorem setLat_scn {s : State} {x0 x1} : (State.setLat s x0 x1).scn = s.scn := (keep_setLat (s := s)).scn
@[simp] theorem setLat_pair {s : State} {x0 x1} : (State.setLat s x0 x1).pair = s.pair := (keep_setLat (s := s)).pair
@[simp] theorem setLat_ports {s : State} {x0 x1} : (State.setLat s x0 x1).ports = s.ports := (keep_setLat (s := s)).ports
@[simp] theorem setLat_sl {s : State} {x0 x1} : (State.setLat s x0 x1).sl = s.sl := (keep_setLat (s := s)).sl
@[simp] theorem setLat_net {s : State} {x0 x1} : (State.setLat s x0 x1).net = s.net := (keep_setLat (s := s)).net
@[simp] theorem setLat_clk {s : State} {x0 x1} : (State.setLat s x0 x1).clk = s.clk := (keep_setLat (s := s)).clk
@[simp] theorem setLat_en {s : State} {x0 x1} : (State.setLat s x0 x1).en = s.en := (keep_setLat (s := s)).en

/-! setCluster -/
@[simp] theorem setCluster_pending {s : State} {x0 x1} : (State.setCluster s x0 x1).pending = s.pending := (keep_setCluster (s := s)).pending
@[simp] theorem setCluster_regs {s : State} {x0 x1} : (State.setCluster s x0 x1).regs = s.regs := (keep_setCluster (s := s)).regs
@[simp] theorem setCluster_lat {s : State} {x0 x1} : (State.setCluster s x0 x1).lat = s.lat := (keep_setCluster (s := s)).lat
@[simp] theorem setCluster_snaps {s : State} {x0 x1} : (State.setCluster s x0 x1).snaps = s.snaps := (keep_setCluster (s := s)).snaps
@[simp] theorem setCluster_caps {s : State} {x0 x1} : (State.setCluster s x0 x1).caps = s.caps := (keep_setCluster (s := s)).caps
@[simp] theorem setCluster_areas {s : State} {x0 x1} : (State.setCluster s x0 x1).areas = s.areas := (keep_setCluster (s := s)).areas
@[simp] theorem setCluster_rdata {s : State} {x0 x1} : (State.setCluster s x0 x1).rdata = s.rdata := (keep_setCluster (s := s)).rdata
@[simp] theorem setCluster_out {s : State} {x0 x1} : (State.setCluster s x0 x1).out = s.out := (keep_setCluster (s := s)).out
@[simp] theorem setCluster_free {s : State} {x0 x1} : (State.setCluster s x0 x1).free = s.free := (keep_setCluster (s := s)).free
@[simp] theorem setCluster_ms {s : State} {x0 x1} : (State.setCluster s x0 x1).ms = s.ms := (keep_setCluster (s := s)).ms
@[simp] theorem setCluster_win {s : State} {x0 x1} : (State.setCluster s x0 x1).win = s.win := (keep_setCluster (s := s)).win
@[simp] theorem setCluster_host {s : State} {x0 x1} : (State.setCluster s x0 x1).host = s.host := (keep_setCluster (s := s)).host
@[simp] theorem setCluster_flt {s : State} {x0 x1} : (State.setCluster s x0 x1).flt = s.flt := (keep_setCluster (s := s)).flt
@[simp] theorem setCluster_log {s : State} {x0 x1} : (State.setCluster s x0 x1).log = s.log := (keep_setCluster (s := s)).log
@[simp] theorem setCluster_sec {s : State} {x0 x1} : (State.setCluster s x0 x1).sec = s.sec := (keep_setCluster (s := s)).sec
@[simp] theorem setCluster_flash {s : State} {x0 x1} : (State.setCluster s x0 x1).flash = s.flash := (keep_setCluster (s := s)).flash
@[simp] theorem setCluster_upd {s : State} {x0 x1} : (State.setCluster s x0 x1).upd = s.upd := (keep_setCluster (s := s)).upd
@[simp] theorem setCluster_eng {s : State} {x0 x1} : (State.setCluster s x0 x1).eng = s.eng := (keep_setCluster (s := s)).eng
@[simp] theorem setCluster_scn {s : State} {x0 x1} : (State.setCluster s x0 x1).scn = s.scn := (keep_setCluster (s := s)).scn
@[simp] theorem setCluster_pair {s : State} {x0 x1} : (State.setCluster s x0 x1).pair = s.pair := (keep_setCluster (s := s)).pair
@[simp] theorem setCluster_ports {s : State} {x0 x1} : (State.setCluster s x0 x1).ports = s.ports := (keep_setCluster (s := s)).ports
@[simp] theorem setCluster_sl {s : State} {x0 x1} : (State.setCluster s x0 x1).sl = s.sl := (keep_setCluster (s := s)).sl
@[simp] theorem setCluster_net {s : State} {x0 x1} : (State.setCluster s x0 x1).net = s.net := (keep_setCluster (s := s)).net
@[simp] theorem setCluster_clk {s : State} {x0 x1} : (State.setCluster s x0 x1).clk = s.clk := (keep_setCluster (s := s)).clk
@[simp] theorem setCluster_en {s : State} {x0 x1} : (State.setCluster s x0 x1).en = s.en := (keep_setCluster (s := s)).en

/-! setInst -/
@[simp] theorem setInst_pending {s : State} {x0 x1} : (State.setInst s x0 x1).pending = s.pending := (keep_setInst (s := s)).pending
@[simp] theorem setInst_regs {s : State} {x0 x1} : (State.setInst s x0 x1).regs = s.regs := (keep_setInst (s := s)).regs
@[simp] theorem setInst_lat {s : State} {x0 x1} : (State.setInst s x0 x1).lat = s.lat := (keep_setInst (s := s)).lat
@[simp] theorem setInst_snaps {s : State} {x0 x1} : (State.setInst s x0 x1).snaps = s.snaps := (keep_setInst (s := s)).snaps
@[simp] theorem setInst_caps {s : State} {x0 x1} : (State.setInst s x0 x1).caps = s.caps := (keep_setInst (s := s)).caps
@[simp] theorem setInst_areas {s : State} {x0 x1} : (State.setInst s x0 x1).areas = s.areas := (keep_setInst (s := s)).areas
@[simp] theorem setInst_rdata {s : State} {x0 x1} : (State.setInst s x0 x1).rdata = s.rdata := (keep_setInst (s := s)).rdata
@[simp] theorem setInst_out {s : State} {x0 x1} : (State.setInst s x0 x1).out = s.out := (keep_setInst (s := s)).out
@[simp] theorem setInst_free {s : State} {x0 x1} : (State.setInst s x0 x1).free = s.free := (keep_setInst (s := s)).free
@[simp] theorem setInst_ms {s : State} {x0 x1} : (State.setInst s x0 x1).ms = s.ms := (keep_setInst (s := s)).ms
@[simp] theorem setInst_win {s : State} {x0 x1} : (State.setInst s x0 x1).win = s.win := (keep_setInst (s := s)).win
@[simp] theorem setInst_host {s : State} {x0 x1} : (State.setInst s x0 x1).host = s.host := (keep_setInst (s := s)).host
@[simp] theorem setInst_flt {s : State} {x0 x1} : (State.setInst s x0 x1).flt = s.flt := (keep_setInst (s := s)).flt
@[simp] theorem setInst_log {s : State} {x0 x1} : (State.setInst s x0 x1).log = s.log := (keep_setInst (s := s)).log
@[simp] theorem setInst_sec {s : State} {x0 x1} : (State.setInst s x0 x1).sec = s.sec := (keep_setInst (s := s)).sec
@[simp] theorem setInst_flash {s : State} {x0 x1} : (State.setInst s x0 x1).flash = s.flash := (keep_setInst (s := s)).flash
@[simp] theorem setInst_upd {s : State} {x0 x1} : (State.setInst s x0 x1).upd = s.upd := (keep_setInst (s := s)).upd
@[simp] theorem setInst_clusters {s : State} {x0 x1} : (State.setInst s x0 x1).clusters = s.clusters := (keep_setInst (s := s)).clusters
@[simp] theorem setInst_scn {s : State} {x0 x1} : (State.setInst s x0 x1).scn = s.scn := (keep_setInst (s := s)).scn
@[simp] theorem setInst_pair {s : State} {x0 x1} : (State.setInst s x0 x1).pair = s.pair := (keep_setInst (s := s)).pair
@[simp] theorem setInst_ports {s : State} {x0 x1} : (State.setInst s x0 x1).ports = s.ports := (keep_setInst (s := s)).ports
@[simp] theorem setInst_sl {s : State} {x0 x1} : (State.setInst s x0 x1).sl = s.sl := (keep_setInst (s := s)).sl
@[simp] theorem setInst_net {s : State} {x0 x1} : (State.setInst s x0 x1).net = s.net := (keep_setInst (s := s)).net
@[simp] theorem setInst_clk {s : State} {x0 x1} : (State.setInst s x0 x1).clk = s.clk := (keep_setInst (s := s)).clk
@[simp] theorem setInst_en {s : State} {x0 x1} : (State.setInst s x0 x1).en = s.en := (keep_setInst (s := s)).en

/-! setBitArr -/
@[simp] theorem setBitArr_pending {s : State} {x0 x1 x2} : (State.setBitArr s x0 x1 x2).pending = s.pending := (keep_setBitArr (s := s)).pending
@[simp] theorem setBitArr_lat {s : State} {x0 x1 x2} : (State.setBitArr s x0 x1 x2).lat = s.lat := (keep_setBitArr (s := s)).lat
@[simp] theorem setBitArr_snaps {s : State} {x0 x1 x2} : (State.setBitArr s x0 x1 x2).snaps = s.snaps := (keep_setBitArr (s := s)).snaps
@[simp] theorem setBitArr_caps {s : State} {x0 x1 x2} : (State.setBitArr s x0 x1 x2).caps = s.caps := (keep_setBitArr (s := s)).caps
@[simp] theorem setBitArr_areas {s : State} {x0 x1 x2} : (State.setBitArr s x0 x1 x2).areas = s.areas := (keep_setBitArr (s := s)).areas
@[simp] theorem setBitArr_rdata {s : State} {x0 x1 x2} : (State.setBitArr s x0 x1 x2).rdata = s.rdata := (keep_setBitArr (s := s)).rdata
@[simp] theorem setBitArr_out {s : State} {x0 x1 x2} : (State.setBitArr s x0 x1 x2).out = s.out := (keep_setBitArr (s := s)).out
@[simp] theorem setBitArr_free {s : State} {x0 x1 x2} : (State.setBitArr s x0 x1 x2).free = s.free := (keep_setBitArr (s := s)).free
@[simp] theorem setBitArr_ms {s : State} {x0 x1 x2} : (State.setBitArr s x0 x1 x2).ms = s.ms := (keep_setBitArr (s := s)).ms
@[simp] theorem setBitArr_win {s : State} {x0 x1 x2} : (State.setBitArr s x0 x1 x2).win = s.win := (keep_setBitArr (s := s)).win
@[simp] theorem setBitArr_host {s : State} {x0 x1 x2} : (State.setBitArr s x0 x1 x2).host = s.host := (keep_setBitArr (s := s)).host
@[simp] theorem setBitArr_flt {s : State} {x0 x1 x2} : (State.setBitArr s x0 x1 x2).flt = s.flt := (keep_setBitArr (s := s)).flt
@[simp] theorem setBitArr_log {s : State} {x0 x1 x2} : (State.setBitArr s x0 x1 x2).log = s.log := (keep_setBitArr (s := s)).log
@[simp] theorem setBitArr_sec {s : State} {x0 x1 x2} : (State.setBitArr s x0 x1 x2).sec = s.sec := (keep_setBitArr (s := s)).sec
@[simp] theorem setBitArr_flash {s : State} {x0 x1 x2} : (State.setBitArr s x0 x1 x2).flash = s.flash := (keep_setBitArr (s := s)).flash
@[simp] theorem setBitArr_upd {s : State} {x0 x1 x2} : (State.setBitArr s x0 x1 x2).upd = s.upd := (keep_setBitArr (s := s)).upd
@[simp] theorem setBitArr_clusters {s : State} {x0 x1 x2} : (State.setBitArr s x0 x1 x2).clusters = s.clusters := (keep_setBitArr (s := s)).clusters
@[simp] theorem setBitArr_eng {s : State} {x0 x1 x2} : (State.setBitArr s x0 x1 x2).eng = s.eng := (keep_setBitArr (s := s)).eng
@[simp] theorem setBitArr_scn {s : State} {x0 x1 x2} : (State.setBitArr s x0 x1 x2).scn = s.scn := (keep_setBitArr (s := s)).scn
@[simp] theorem setBitArr_pair {s : State} {x0 x1 x2} : (State.setBitArr s x0 x1 x2).pair = s.pair := (keep_setBitArr (s := s)).pair
@[simp] theorem setBitArr_ports {s : State} {x0 x1 x2} : (State.setBitArr s x0 x1 x2).ports = s.ports := (keep_setBitArr (s := s)).ports
@[simp] theorem setBitArr_sl {s : State} {x0 x1 x2} : (State.setBitArr s x0 x1 x2).sl = s.sl := (keep_setBitArr (s := s)).sl
@[simp] theorem setBitArr_net {s : State} {x0 x1 x2} : (State.setBitArr s x0 x1 x2).net = s.net := (keep_setBitArr (s := s)).net
@[simp] theorem setBitArr_clk {s : State} {x0 x1 x2} : (State.setBitArr s x0 x1 x2).clk = s.clk := (keep_setBitArr (s := s)).clk
@[simp] theorem setBitArr_en {s : State} {x0 x1 x2} : (State.setBitArr s x0 x1 x2).en = s.en := (keep_setBitArr (s := s)).en

/-! setEng -/
@[simp] theorem setEng_pending {s : State} {x0} : (State.setEng s x0).pending = s.pending := (keep_setEng (s := s)).pending
@[simp] theorem setEng_regs {s : State} {x0} : (State.setEng s x0).regs = s.regs := (keep_setEng (s := s)).regs
@[simp] theorem setEng_lat {s : State} {x0} : (State.setEng s x0).lat = s.lat := (keep_setEng (s := s)).lat
@[simp] theorem setEng_snaps {s : State} {x0} : (State.setEng s x0).snaps = s.snaps := (keep_setEng (s := s)).snaps
@[simp] theorem setEng_caps {s : State} {x0} : (State.setEng s x0).caps = s.caps := (keep_setEng (s := s)).caps
@[simp] theorem setEng_areas {s : State} {x0} : (State.setEng s x0).areas = s.areas := (keep_setEng (s := s)).areas
@[simp] theorem setEng_rdata {s : State} {x0} : (State.setEng s x0).rdata = s.rdata := (keep_setEng (s := s)).rdata
@[simp] theorem setEng_out {s : State} {x0} : (State.setEng s x0).out = s.out := (keep_setEng (s := s)).out
@[simp] theorem setEng_free {s : State} {x0} : (State.setEng s x0).free = s.free := (keep_setEng (s := s)).free
@[simp] theorem setEng_ms {s : State} {x0} : (State.setEng s x0).ms = s.ms := (keep_setEng (s := s)).ms
@[simp] theorem setEng_win {s : State} {x0} : (State.setEng s x0).win = s.win := (keep_setEng (s := s)).win
@[simp] theorem setEng_host {s : State} {x0} : (State.setEng s x0).host = s.host := (keep_setEng (s := s)).host
@[simp] theorem setEng_flt {s : State} {x0} : (State.setEng s x0).flt = s.flt := (keep_setEng (s := s)).flt
@[simp] theorem setEng_log {s : State} {x0} : (State.setEng s x0).log = s.log := (keep_setEng (s := s)).log
@[simp] theorem setEng_sec {s : State} {x0} : (State.setEng s x0).sec = s.sec := (keep_setEng (s := s)).sec
@[simp] theorem setEng_flash {s : State} {x0} : (State.setEng s x0).flash = s.flash := (keep_setEng (s := s)).flash
@[simp] theorem setEng_upd {s : State} {x0} : (State.setEng s x0).upd = s.upd := (keep_setEng (s := s)).upd
@[simp] theorem setEng_clusters {s : State} {x0} : (State.setEng s x0).clusters = s.clusters := (keep_setEng (s := s)).clusters
@[simp] theorem setEng_scn {s : State} {x0} : (State.setEng s x0).scn = s.scn := (keep_setEng (s := s)).scn
@[simp] theorem setEng_pair {s : State} {x0} : (State.setEng s x0).pair = s.pair := (keep_setEng (s := s)).pair
@[simp] theorem setEng_ports {s : State} {x0} : (State.setEng s x0).ports = s.ports := (keep_setEng (s := s)).ports
@[simp] theorem setEng_sl {s : State} {x0} : (State.setEng s x0).sl = s.sl := (keep_setEng (s := s)).sl
@[simp] theorem setEng_net {s : State} {x0} : (State.setEng s x0).net = s.net := (keep_setEng (s := s)).net
@[simp] theorem setEng_clk {s : State} {x0} : (State.setEng s x0).clk = s.clk := (keep_setEng (s := s)).clk
@[simp] theorem setEng_en {s : State} {x0} : (State.setEng s x0).en = s.en := (keep_setEng (s := s)).en
@[simp] theorem setEng_eng {s : State} {x0} : (State.setEng s x0).eng = x0 := rfl

/-! setPair -/
@[simp] theorem setPair_pending {s : State} {x0} : (State.setPair s x0).pending = s.pending := (keep_setPair (s := s)).pending
@[simp] theorem setPair_regs {s : State} {x0} : (State.setPair s x0).regs = s.regs := (keep_setPair (s := s)).regs
@[simp] theorem setPair_lat {s : State} {x0} : (State.setPair s x0).lat = s.lat := (keep_setPair (s := s)).lat
@[simp] theorem setPair_snaps {s : State} {x0} : (State.setPair s x0).snaps = s.snaps := (keep_setPair (s := s)).snaps
@[simp] theorem setPair_caps {s : State} {x0} : (State.setPair s x0).caps = s.caps := (keep_setPair (s := s)).caps
@[simp] theorem setPair_areas {s : State} {x0} : (State.setPair s x0).areas = s.areas := (keep_setPair (s := s)).areas
@[simp] theorem setPair_rdata {s : State} {x0} : (State.setPair s x0).rdata = s.rdata := (keep_setPair (s := s)).rdata
@[simp] theorem setPair_out {s : State} {x0} : (State.setPair s x0).out = s.out := (keep_setPair (s := s)).out
@[simp] theorem setPair_free {s : State} {x0} : (State.setPair s x0).free = s.free := (keep_setPair (s := s)).free
@[simp] theorem setPair_ms {s : State} {x0} : (State.setPair s x0).ms = s.ms := (keep_setPair (s := s)).ms
@[simp] theorem setPair_win {s : State} {x0} : (State.setPair s x0).win = s.win := (keep_setPair (s := s)).win
@[simp] theorem setPair_host {s : State} {x0} : (State.setPair s x0).host = s.host := (keep_setPair (s := s)).host
@[simp] theorem setPair_flt {s : State} {x0} : (State.setPair s x0).flt = s.flt := (keep_setPair (s := s)).flt
@[simp] theorem setPair_log {s : State} {x0} : (State.setPair s x0).log = s.log := (keep_setPair (s := s)).log
@[simp] theorem setPair_sec {s : State} {x0} : (State.setPair s x0).sec = s.sec := (keep_setPair (s := s)).sec
@[simp] theorem setPair_flash {s : State} {x0} : (State.setPair s x0).flash = s.flash := (keep_setPair (s := s)).flash
@[simp] theorem setPair_upd {s : State} {x0} : (State.setPair s x0).upd = s.upd := (keep_setPair (s := s)).upd
@[simp] theorem setPair_clusters {s : State} {x0} : (State.setPair s x0).clusters = s.clusters := (keep_setPair (s := s)).clusters
@[simp] theorem setPair_eng {s : State} {x0} : (State.setPair s x0).eng = s.eng := (keep_setPair (s := s)).eng
@[simp] theorem setPair_scn {s : State} {x0} : (State.setPair s x0).scn = s.scn := (keep_setPair (s := s)).scn
@[simp] theorem setPair_ports {s : State} {x0} : (State.setPair s x0).ports = s.ports := (keep_setPair (s := s)).ports
@[simp] theorem setPair_sl {s : State} {x0} : (State.setPair s x0).sl = s.sl := (keep_setPair (s := s)).sl
@[simp] theorem setPair_net {s : State} {x0} : (State.setPair s x0).net = s.net := (keep_setPair (s := s)).net
@[simp] theorem setPair_clk {s : State} {x0} : (State.setPair s x0).clk = s.clk := (keep_setPair (s := s)).clk
@[simp] theorem setPair_en {s : State} {x0} : (State.setPair s x0).en = s.en := (keep_setPair (s := s)).en
@[simp] theorem setPair_pair {s : State} {x0} : (State.setPair s x0).pair = x0 := rfl

/-! setAin -/
@[simp] theorem setAin_pending {s : State} {x0 x1} : (State.setAin s x0 x1).pending = s.pending := (keep_setAin (s := s)).pending
@[simp] theorem setAin_regs {s : State} {x0 x1} : (State.setAin s x0 x1).regs = s.regs := (keep_setAin (s := s)).regs
@[simp] theorem setAin_lat {s : State} {x0 x1} : (State.setAin s x0 x1).lat = s.lat := (keep_setAin (s := s)).lat
@[simp] theorem setAin_snaps {s : State} {x0 x1} : (State.setAin s x0 x1).snaps = s.snaps := (keep_setAin (s := s)).snaps
@[simp] theorem setAin_caps {s : State} {x0 x1} : (State.setAin s x0 x1).caps = s.caps := (keep_setAin (s := s)).caps
@[simp] theorem setAin_areas {s : State} {x0 x1} : (State.setAin s x0 x1).areas = s.areas := (keep_setAin (s := s)).areas
@[simp] theorem setAin_rdata {s : State} {x0 x1} : (State.setAin s x0 x1).rdata = s.rdata := (keep_setAin (s := s)).rdata
@[simp] theorem setAin_out {s : State} {x0 x1} : (State.setAin s x0 x1).out = s.out := (keep_setAin (s := s)).out
@[simp] theorem setAin_free {s : State} {x0 x1} : (State.setAin s x0 x1).free = s.free := (keep_setAin (s := s)).free
@[simp] theorem setAin_ms {s : State} {x0 x1} : (State.setAin s x0 x1).ms = s.ms := (keep_setAin (s := s)).ms
@[simp] theorem setAin_win {s : State} {x0 x1} : (State.setAin s x0 x1).win = s.win := (keep_setAin (s := s)).win
@[simp] theorem setAin_host {s : State} {x0 x1} : (State.setAin s x0 x1).host = s.host := (keep_setAin (s := s)).host
@[simp] theorem setAin_flt {s : State} {x0 x1} : (State.setAin s x0 x1).flt = s.flt := (keep_setAin (s := s)).flt
@[simp] theorem setAin_log {s : State} {x0 x1} : (State.setAin s x0 x1).log = s.log := (keep_setAin (s := s)).log
@[simp] theorem setAin_sec {s : State} {x0 x1} : (State.setAin s x0 x1).sec = s.sec := (keep_setAin (s := s)).sec
@[simp] theorem setAin_flash {s : State} {x0 x1} : (State.setAin s x0 x1).flash = s.flash := (keep_setAin (s := s)).flash
@[simp] theorem setAin_upd {s : State} {x0 x1} : (State.setAin s x0 x1).upd = s.upd := (keep_setAin (s := s)).upd
@[simp] theorem setAin_clusters {s : State} {x0 x1} : (State.setAin s x0 x1).clusters = s.clusters := (keep_setAin (s := s)).clusters
@[simp] theorem setAin_eng {s : State} {x0 x1} : (State.setAin s x0 x1).eng = s.eng := (keep_setAin (s := s)).eng
@[simp] theorem setAin_scn {s : State} {x0 x1} : (State.setAin s x0 x1).scn = s.scn := (keep_setAin (s := s)).scn
@[simp] theorem setAin_pair {s : State} {x0 x1} : (State.setAin s x0 x1).pair = s.pair := (keep_setAin (s := s)).pair
@[simp] theorem setAin_sl {s : State} {x0 x1} : (State.setAin s x0 x1).sl = s.sl := (keep_setAin (s := s)).sl
@[simp] theorem setAin_net {s : State} {x0 x1} : (State.setAin s x0 x1).net = s.net := (keep_setAin (s := s)).net
@[simp] theorem setAin_clk {s : State} {x0 x1} : (State.setAin s x0 x1).clk = s.clk := (keep_setAin (s := s)).clk
@[simp] theorem setAin_en {s : State} {x0 x1} : (State.setAin s x0 x1).en = s.en := (keep_setAin (s := s)).en

/-! setAout -/
@[simp] theorem setAout_pending {s : State} {x0 x1} : (State.setAout s x0 x1).pending = s.pending := (keep_setAout (s := s)).pending
@[simp] theorem setAout_regs {s : State} {x0 x1} : (State.setAout s x0 x1).regs = s.regs := (keep_setAout (s := s)).regs
@[simp] theorem setAout_lat {s : State} {x0 x1} : (State.setAout s x0 x1).lat = s.lat := (keep_setAout (s := s)).lat
@[simp] theorem setAout_snaps {s : State} {x0 x1} : (State.setAout s x0 x1).snaps = s.snaps := (keep_setAout (s := s)).snaps
@[simp] theorem setAout_caps {s : State} {x0 x1} : (State.setAout s x0 x1).caps = s.caps := (keep_setAout (s := s)).caps
@[simp] theorem setAout_areas {s : State} {x0 x1} : (State.setAout s x0 x1).areas = s.areas := (keep_setAout (s := s)).areas
@[simp] theorem setAout_rdata {s : State} {x0 x1} : (State.setAout s x0 x1).rdata = s.rdata := (keep_setAout (s := s)).rdata
@[simp] theorem setAout_out {s : State} {x0 x1} : (State.setAout s x0 x1).out = s.out := (keep_setAout (s := s)).out
@[simp] theorem setAout_free {s : State} {x0 x1} : (State.setAout s x0 x1).free = s.free := (keep_setAout (s := s)).free
@[simp] theorem setAout_ms {s : State} {x0 x1} : (State.setAout s x0 x1).ms = s.ms := (keep_setAout (s := s)).ms
@[simp] theorem setAout_win {s : State} {x0 x1} : (State.setAout s x0 x1).win = s.win := (keep_setAout (s := s)).win
@[simp] theorem setAout_host {s : State} {x0 x1} : (State.setAout s x0 x1).host = s.host := (keep_setAout (s := s)).host
@[simp] theorem setAout_flt {s : State} {x0 x1} : (State.setAout s x0 x1).flt = s.flt := (keep_setAout (s := s)).flt
@[simp] theorem setAout_log {s : State} {x0 x1} : (State.setAout s x0 x1).log = s.log := (keep_setAout (s := s)).log
@[simp] theorem setAout_sec {s : State} {x0 x1} : (State.setAout s x0 x1).sec = s.sec := (keep_setAout (s := s)).sec
@[simp] theorem setAout_flash {s : State} {x0 x1} : (State.setAout s x0 x1).flash = s.flash := (keep_setAout (s := s)).flash
@[simp] theorem setAout_upd {s : State} {x0 x1} : (State.setAout s x0 x1).upd = s.upd := (keep_setAout (s := s)).upd
@[simp] theorem setAout_clusters {s : State} {x0 x1} : (State.setAout s x0 x1).clusters = s.clusters := (keep_setAout (s := s)).clusters
@[simp] theorem setAout_eng {s : State} {x0 x1} : (State.setAout s x0 x1).eng = s.eng := (keep_setAout (s := s)).eng
@[simp] theorem setAout_scn {s : State} {x0 x1} : (State.setAout s x0 x1).scn = s.scn := (keep_setAout (s := s)).scn
@[simp] theorem setAout_pair {s : State} {x0 x1} : (State.setAout s x0 x1).pair = s.pair := (keep_setAout (s := s)).pair
@[simp] theorem setAout_sl {s : State} {x0 x1} : (State.setAout s x0 x1).sl = s.sl := (keep_setAout (s := s)).sl
@[simp] theorem setAout_net {s : State} {x0 x1} : (State.setAout s x0 x1).net = s.net := (keep_setAout (s := s)).net
@[simp] theorem setAout_clk {s : State} {x0 x1} : (State.setAout s x0 x1).clk = s.clk := (keep_setAout (s := s)).clk
@[simp] theorem setAout_en {s : State} {x0 x1} : (State.setAout s x0 x1).en = s.en := (keep_setAout (s := s)).en

/-! setMerge -/
@[simp] theorem setMerge_pending {s : State} {x0 x1} : (State.setMerge s x0 x1).pending = s.pending := (keep_setMerge (s := s)).pending
@[simp] theorem setMerge_regs {s : State} {x0 x1} : (State.setMerge s x0 x1).regs = s.regs := (keep_setMerge (s := s)).regs
@[simp] theorem setMerge_lat {s : State} {x0 x1} : (State.setMerge s x0 x1).lat = s.lat := (keep_setMerge (s := s)).lat
@[simp] theorem setMerge_snaps {s : State} {x0 x1} : (State.setMerge s x0 x1).snaps = s.snaps := (keep_setMerge (s := s)).snaps
@[simp] theorem setMerge_caps {s : State} {x0 x1} : (State.setMerge s x0 x1).caps = s.caps := (keep_setMerge (s := s)).caps
@[simp] theorem setMerge_areas {s : State} {x0 x1} : (State.setMerge s x0 x1).areas = s.areas := (keep_setMerge (s := s)).areas
@[simp] theorem setMerge_rdata {s : State} {x0 x1} : (State.setMerge s x0 x1).rdata = s.rdata := (keep_setMerge (s := s)).rdata
@[simp] theorem setMerge_out {s : State} {x0 x1} : (State.setMerge s x0 x1).out = s.out := (keep_setMerge (s := s)).out
@[simp] theorem setMerge_free {s : State} {x0 x1} : (State.setMerge s x0 x1).free = s.free := (keep_setMerge (s := s)).free
@[simp] theorem setMerge_ms {s : State} {x0 x1} : (State.setMerge s x0 x1).ms = s.ms := (keep_setMerge (s := s)).ms
@[simp] theorem setMerge_win {s : State} {x0 x1} : (State.setMerge s x0 x1).win = s.win := (keep_setMerge (s := s)).win
@[simp] theorem setMerge_host {s : State} {x0 x1} : (State.setMerge s x0 x1).host = s.host := (keep_setMerge (s := s)).host
@[simp] theorem setMerge_flt {s : State} {x0 x1} : (State.setMerge s x0 x1).flt = s.flt := (keep_setMerge (s := s)).flt
@[simp] theorem setMerge_log {s : State} {x0 x1} : (State.setMerge s x0 x1).log = s.log := (keep_setMerge (s := s)).log
@[simp] theorem setMerge_sec {s : State} {x0 x1} : (State.setMerge s x0 x1).sec = s.sec := (keep_setMerge (s := s)).sec
@[simp] theorem setMerge_flash {s : State} {x0 x1} : (State.setMerge s x0 x1).flash = s.flash := (keep_setMerge (s := s)).flash
@[simp] theorem setMerge_upd {s : State} {x0 x1} : (State.setMerge s x0 x1).upd = s.upd := (keep_setMerge (s := s)).upd
@[simp] theorem setMerge_clusters {s : State} {x0 x1} : (State.setMerge s x0 x1).clusters = s.clusters := (keep_setMerge (s := s)).clusters
@[simp] theorem setMerge_eng {s : State} {x0 x1} : (State.setMerge s x0 x1).eng = s.eng := (keep_setMerge (s := s)).eng
@[simp] theorem setMerge_scn {s : State} {x0 x1} : (State.setMerge s x0 x1).scn = s.scn := (keep_setMerge (s := s)).scn
@[simp] theorem setMerge_pair {s : State} {x0 x1} : (State.setMerge s x0 x1).pair = s.pair := (keep_setMerge (s := s)).pair
@[simp] theorem setMerge_sl {s : State} {x0 x1} : (State.setMerge s x0 x1).sl = s.sl := (keep_setMerge (s := s)).sl
@[simp] theorem setMerge_net {s : State} {x0 x1} : (State.setMerge s x0 x1).net = s.net := (keep_setMerge (s := s)).net
@[simp] theorem setMerge_clk {s : State} {x0 x1} : (State.setMerge s x0 x1).clk = s.clk := (keep_setMerge (s := s)).clk
@[simp] theorem setMerge_en {s : State} {x0 x1} : (State.setMerge s x0 x1).en = s.en := (keep_setMerge (s := s)).en

/-! setTdm -/
@[simp] theorem setTdm_pending {s : State} {x0 x1} : (State.setTdm s x0 x1).pending = s.pending := (keep_setTdm (s := s)).pending
@[simp] theorem setTdm_regs {s : State} {x0 x1} : (State.setTdm s x0 x1).regs = s.regs := (keep_setTdm (s := s)).regs
@[simp] theorem setTdm_lat {s : State} {x0 x1} : (State.setTdm s x0 x1).lat = s.lat := (keep_setTdm (s := s)).lat
@[simp] theorem setTdm_snaps {s : State} {x0 x1} : (State.setTdm s x0 x1).snaps = s.snaps := (keep_setTdm (s := s)).snaps
@[simp] theorem setTdm_caps {s : State} {x0 x1} : (State.setTdm s x0 x1).caps = s.caps := (keep_setTdm (s := s)).caps
@[simp] theorem setTdm_areas {s : State} {x0 x1} : (State.setTdm s x0 x1).areas = s.areas := (keep_setTdm (s := s)).areas
@[simp] theorem setTdm_rdata {s : State} {x0 x1} : (State.setTdm s x0 x1).rdata = s.rdata := (keep_setTdm (s := s)).rdata
@[simp] theorem setTdm_out {s : State} {x0 x1} : (State.setTdm s x0 x1).out = s.out := (keep_setTdm (s := s)).out
@[simp] theorem setTdm_free {s : State} {x0 x1} : (State.setTdm s x0 x1).free = s.free := (keep_setTdm (s := s)).free
@[simp] theorem setTdm_ms {s : State} {x0 x1} : (State.setTdm s x0 x1).ms = s.ms := (keep_setTdm (s := s)).ms
@[simp] theorem setTdm_win {s : State} {x0 x1} : (State.setTdm s x0 x1).win = s.win := (keep_setTdm (s := s)).win
@[simp] theorem setTdm_host {s : State} {x0 x1} : (State.setTdm s x0 x1).host = s.host := (keep_setTdm (s := s)).host
@[simp] theorem setTdm_flt {s : State} {x0 x1} : (State.setTdm s x0 x1).flt = s.flt := (keep_setTdm (s := s)).flt
@[simp] theorem setTdm_log {s : State} {x0 x1} : (State.setTdm s x0 x1).log = s.log := (keep_setTdm (s := s)).log
@[simp] theorem setTdm_sec {s : State} {x0 x1} : (State.setTdm s x0 x1).sec = s.sec := (keep_setTdm (s := s)).sec
@[simp] theorem setTdm_flash {s : State} {x0 x1} : (State.setTdm s x0 x1).flash = s.flash := (keep_setTdm (s := s)).flash
@[simp] theorem setTdm_upd {s : State} {x0 x1} : (State.setTdm s x0 x1).upd = s.upd := (keep_setTdm (s := s)).upd
@[simp] theorem setTdm_clusters {s : State} {x0 x1} : (State.setTdm s x0 x1).clusters = s.clusters := (keep_setTdm (s := s)).clusters
@[simp] theorem setTdm_eng {s : State} {x0 x1} : (State.setTdm s x0 x1).eng = s.eng := (keep_setTdm (s := s)).eng
@[simp] theorem setTdm_scn {s : State} {x0 x1} : (State.setTdm s x0 x1).scn = s.scn := (keep_setTdm (s := s)).scn
@[simp] theorem setTdm_pair {s : State} {x0 x1} : (State.setTdm s x0 x1).pair = s.pair := (keep_setTdm (s := s)).pair
@[simp] theorem setTdm_sl {s : State} {x0 x1} : (State.setTdm s x0 x1).sl = s.sl := (keep_setTdm (s := s)).sl
@[simp] theorem setTdm_net {s : State} {x0 x1} : (State.setTdm s x0 x1).net = s.net := (keep_setTdm (s := s)).net
@[simp] theorem setTdm_clk {s : State} {x0 x1} : (State.setTdm s x0 x1).clk = s.clk := (keep_setTdm (s := s)).clk
@[simp] theorem setTdm_en {s : State} {x0 x1} : (State.setTdm s x0 x1).en = s.en := (keep_setTdm (s := s)).en

/-! setRoll -/
@[simp] theorem setRoll_pending {s : State} {x0 x1} : (State.setRoll s x0 x1).pending = s.pending := (keep_setRoll (s := s)).pending
@[simp] theorem setRoll_regs {s : State} {x0 x1} : (State.setRoll s x0 x1).regs = s.regs := (keep_setRoll (s := s)).regs
@[simp] theorem setRoll_lat {s : State} {x0 x1} : (State.setRoll s x0 x1).lat = s.lat := (keep_setRoll (s := s)).lat
@[simp] theorem setRoll_snaps {s : State} {x0 x1} : (State.setRoll s x0 x1).snaps = s.snaps := (keep_setRoll (s := s)).snaps
@[simp] theorem setRoll_caps {s : State} {x0 x1} : (State.setRoll s x0 x1).caps = s.caps := (keep_setRoll (s := s)).caps
@[simp] theorem setRoll_areas {s : State} {x0 x1} : (State.setRoll s x0 x1).areas = s.areas := (keep_setRoll (s := s)).areas
@[simp] theorem setRoll_rdata {s : State} {x0 x1} : (State.setRoll s x0 x1).rdata = s.rdata := (keep_setRoll (s := s)).rdata
@[simp] theorem setRoll_out {s : State} {x0 x1} : (State.setRoll s x0 x1).out = s.out := (keep_setRoll (s := s)).out
@[simp] theorem setRoll_free {s : State} {x0 x1} : (State.setRoll s x0 x1).free = s.free := (keep_setRoll (s := s)).free
@[simp] theorem setRoll_ms {s : State} {x0 x1} : (State.setRoll s x0 x1).ms = s.ms := (keep_setRoll (s := s)).ms
@[simp] theorem setRoll_win {s : State} {x0 x1} : (State.setRoll s x0 x1).win = s.win := (keep_setRoll (s := s)).win
@[simp] theorem setRoll_host {s : State} {x0 x1} : (State.setRoll s x0 x1).host = s.host := (keep_setRoll (s := s)).host
@[simp] theorem setRoll_flt {s : State} {x0 x1} : (State.setRoll s x0 x1).flt = s.flt := (keep_setRoll (s := s)).flt
@[simp] theorem setRoll_log {s : State} {x0 x1} : (State.setRoll s x0 x1).log = s.log := (keep_setRoll (s := s)).log
@[simp] theorem setRoll_sec {s : State} {x0 x1} : (State.setRoll s x0 x1).sec = s.sec := (keep_setRoll (s := s)).sec
@[simp] theorem setRoll_flash {s : State} {x0 x1} : (State.setRoll s x0 x1).flash = s.flash := (keep_setRoll (s := s)).flash
@[simp] theorem setRoll_upd {s : State} {x0 x1} : (State.setRoll s x0 x1).upd = s.upd := (keep_setRoll (s := s)).upd
@[simp] theorem setRoll_clusters {s : State} {x0 x1} : (State.setRoll s x0 x1).clusters = s.clusters := (keep_setRoll (s := s)).clusters
@[simp] theorem setRoll_eng {s : State} {x0 x1} : (State.setRoll s x0 x1).eng = s.eng := (keep_setRoll (s := s)).eng
@[simp] theorem setRoll_scn {s : State} {x0 x1} : (State.setRoll s x0 x1).scn = s.scn := (keep_setRoll (s := s)).scn
@[simp] theorem setRoll_pair {s : State} {x0 x1} : (State.setRoll s x0 x1).pair = s.pair := (keep_setRoll (s := s)).pair
@[simp] theorem setRoll_sl {s : State} {x0 x1} : (State.setRoll s x0 x1).sl = s.sl := (keep_setRoll (s := s)).sl
@[simp] theorem setRoll_net {s : State} {x0 x1} : (State.setRoll s x0 x1).net = s.net := (keep_setRoll (s := s)).net
@[simp] theorem setRoll_clk {s : State} {x0 x1} : (State.setRoll s x0 x1).clk = s.clk := (keep_setRoll (s := s)).clk
@[simp] theorem setRoll_en {s : State} {x0 x1} : (State.setRoll s x0 x1).en = s.en := (keep_setRoll (s := s)).en

/-! setZone -/
@[simp] theorem setZone_pending {s : State} {x0} : (State.setZone s x0).pending = s.pending := (keep_setZone (s := s)).pending
@[simp] theorem setZone_regs {s : State} {x0} : (State.setZone s x0).regs = s.regs := (keep_setZone (s := s)).regs
@[simp] theorem setZone_lat {s : State} {x0} : (State.setZone s x0).lat = s.lat := (keep_setZone (s := s)).lat
@[simp] theorem setZone_snaps {s : State} {x0} : (State.setZone s x0).snaps = s.snaps := (keep_setZone (s := s)).snaps
@[simp] theorem setZone_caps {s : State} {x0} : (State.setZone s x0).caps = s.caps := (keep_setZone (s := s)).caps
@[simp] theorem setZone_areas {s : State} {x0} : (State.setZone s x0).areas = s.areas := (keep_setZone (s := s)).areas
@[simp] theorem setZone_rdata {s : State} {x0} : (State.setZone s x0).rdata = s.rdata := (keep_setZone (s := s)).rdata
@[simp] theorem setZone_out {s : State} {x0} : (State.setZone s x0).out = s.out := (keep_setZone (s := s)).out
@[simp] theorem setZone_free {s : State} {x0} : (State.setZone s x0).free = s.free := (keep_setZone (s := s)).free
@[simp] theorem setZone_ms {s : State} {x0} : (State.setZone s x0).ms = s.ms := (keep_setZone (s := s)).ms
@[simp] theorem setZone_win {s : State} {x0} : (State.setZone s x0).win = s.win := (keep_setZone (s := s)).win
@[simp] theorem setZone_host {s : State} {x0} : (State.setZone s x0).host = s.host := (keep_setZone (s := s)).host
@[simp] theorem setZone_flt {s : State} {x0} : (State.setZone s x0).flt = s.flt := (keep_setZone (s := s)).flt
@[simp] theorem setZone_log {s : State} {x0} : (State.setZone s x0).log = s.log := (keep_setZone (s := s)).log
@[simp] theorem setZone_sec {s : State} {x0} : (State.setZone s x0).sec = s.sec := (keep_setZone (s := s)).sec
@[simp] theorem setZone_flash {s : State} {x0} : (State.setZone s x0).flash = s.flash := (keep_setZone (s := s)).flash
@[simp] theorem setZone_upd {s : State} {x0} : (State.setZone s x0).upd = s.upd := (keep_setZone (s := s)).upd
@[simp] theorem setZone_clusters {s : State} {x0} : (State.setZone s x0).clusters = s.clusters := (keep_setZone (s := s)).clusters
@[simp] theorem setZone_eng {s : State} {x0} : (State.setZone s x0).eng = s.eng := (keep_setZone (s := s)).eng
@[simp] theorem setZone_scn {s : State} {x0} : (State.setZone s x0).scn = s.scn := (keep_setZone (s := s)).scn
@[simp] theorem setZone_pair {s : State} {x0} : (State.setZone s x0).pair = s.pair := (keep_setZone (s := s)).pair
@[simp] theorem setZone_ports {s : State} {x0} : (State.setZone s x0).ports = s.ports := (keep_setZone (s := s)).ports
@[simp] theorem setZone_net {s : State} {x0} : (State.setZone s x0).net = s.net := (keep_setZone (s := s)).net
@[simp] theorem setZone_clk {s : State} {x0} : (State.setZone s x0).clk = s.clk := (keep_setZone (s := s)).clk
@[simp] theorem setZone_en {s : State} {x0} : (State.setZone s x0).en = s.en := (keep_setZone (s := s)).en

/-! setLineBits -/
@[simp] theorem setLineBits_pending {s : State} {x0 x1 x2 x3 x4} : (State.setLineBits s x0 x1 x2 x3 x4).pending = s.pending := (keep_setLineBits (s := s)).pending
@[simp] theorem setLineBits_regs {s : State} {x0 x1 x2 x3 x4} : (State.setLineBits s x0 x1 x2 x3 x4).regs = s.regs := (keep_setLineBits (s := s)).regs
@[simp] theorem setLineBits_lat {s : State} {x0 x1 x2 x3 x4} : (State.setLineBits s x0 x1 x2 x3 x4).lat = s.lat := (keep_setLineBits (s := s)).lat
@[simp] theorem setLineBits_snaps {s : State} {x0 x1 x2 x3 x4} : (State.setLineBits s x0 x1 x2 x3 x4).snaps = s.snaps := (keep_setLineBits (s := s)).snaps
@[simp] theorem setLineBits_caps {s : State} {x0 x1 x2 x3 x4} : (State.setLineBits s x0 x1 x2 x3 x4).caps = s.caps := (keep_setLineBits (s := s)).caps
@[simp] theorem setLineBits_areas {s : State} {x0 x1 x2 x3 x4} : (State.setLineBits s x0 x1 x2 x3 x4).areas = s.areas := (keep_setLineBits (s := s)).areas
@[simp] theorem setLineBits_rdata {s : State} {x0 x1 x2 x3 x4} : (State.setLineBits s x0 x1 x2 x3 x4).rdata = s.rdata := (keep_setLineBits (s := s)).rdata
@[simp] theorem setLineBits_free {s : State} {x0 x1 x2 x3 x4} : (State.setLineBits s x0 x1 x2 x3 x4).free = s.free := (keep_setLineBits (s := s)).free
@[simp] theorem setLineBits_ms {s : State} {x0 x1 x2 x3 x4} : (State.setLineBits s x0 x1 x2 x3 x4).ms = s.ms := (keep_setLineBits (s := s)).ms
@[simp] theorem setLineBits_host {s : State} {x0 x1 x2 x3 x4} : (State.setLineBits s x0 x1 x2 x3 x4).host = s.host := (keep_setLineBits (s := s)).host
@[simp] theorem setLineBits_flt {s : State} {x0 x1 x2 x3 x4} : (State.setLineBits s x0 x1 x2 x3 x4).flt = s.flt := (keep_setLineBits (s := s)).flt
@[simp] theorem setLineBits_log {s : State} {x0 x1 x2 x3 x4} : (State.setLineBits s x0 x1 x2 x3 x4).log = s.log := (keep_setLineBits (s := s)).log
@[simp] theorem setLineBits_sec {s : State} {x0 x1 x2 x3 x4} : (State.setLineBits s x0 x1 x2 x3 x4).sec = s.sec := (keep_setLineBits (s := s)).sec
@[simp] theorem setLineBits_flash {s : State} {x0 x1 x2 x3 x4} : (State.setLineBits s x0 x1 x2 x3 x4).flash = s.flash := (keep_setLineBits (s := s)).flash
@[simp] theorem setLineBits_upd {s : State} {x0 x1 x2 x3 x4} : (State.setLineBits s x0 x1 x2 x3 x4).upd = s.upd := (keep_setLineBits (s := s)).upd
@[simp] theorem setLineBits_clusters {s : State} {x0 x1 x2 x3 x4} : (State.setLineBits s x0 x1 x2 x3 x4).clusters = s.clusters := (keep_setLineBits (s := s)).clusters
@[simp] theorem setLineBits_eng {s : State} {x0 x1 x2 x3 x4} : (State.setLineBits s x0 x1 x2 x3 x4).eng = s.eng := (keep_setLineBits (s := s)).eng
@[simp] theorem setLineBits_scn {s : State} {x0 x1 x2 x3 x4} : (State.setLineBits s x0 x1 x2 x3 x4).scn = s.scn := (keep_setLineBits (s := s)).scn
@[simp] theorem setLineBits_pair {s : State} {x0 x1 x2 x3 x4} : (State.setLineBits s x0 x1 x2 x3 x4).pair = s.pair := (keep_setLineBits (s := s)).pair
@[simp] theorem setLineBits_ports {s : State} {x0 x1 x2 x3 x4} : (State.setLineBits s x0 x1 x2 x3 x4).ports = s.ports := (keep_setLineBits (s := s)).ports
@[simp] theorem setLineBits_sl {s : State} {x0 x1 x2 x3 x4} : (State.setLineBits s x0 x1 x2 x3 x4).sl = s.sl := (keep_setLineBits (s := s)).sl
@[simp] theorem setLineBits_net {s : State} {x0 x1 x2 x3 x4} : (State.setLineBits s x0 x1 x2 x3 x4).net = s.net := (keep_setLineBits (s := s)).net
@[simp] theorem setLineBits_clk {s : State} {x0 x1 x2 x3 x4} : (State.setLineBits s x0 x1 x2 x3 x4).clk = s.clk := (keep_setLineBits (s := s)).clk
@[simp] theorem setLineBits_en {s : State} {x0 x1 x2 x3 x4} : (State.setLineBits s x0 x1 x2 x3 x4).en = s.en := (keep_setLineBits (s := s)).en

/-! setLineSt -/
@[simp] theorem setLineSt_pending {s : State} {x0 x1} : (State.setLineSt s x0 x1).pending = s.pending := (keep_setLineSt (s := s)).pending
@[simp] theorem setLineSt_regs {s : State} {x0 x1} : (State.setLineSt s x0 x1).regs = s.regs := (keep_setLineSt (s := s)).regs
@[simp] theorem setLineSt_lat {s : State} {x0 x1} : (State.setLineSt s x0 x1).lat = s.lat := (keep_setLineSt (s := s)).lat
@[simp] theorem setLineSt_snaps {s : State} {x0 x1} : (State.setLineSt s x0 x1).snaps = s.snaps := (keep_setLineSt (s := s)).snaps
@[simp] theorem setLineSt_caps {s : State} {x0 x1} : (State.setLineSt s x0 x1).caps = s.caps := (keep_setLineSt (s := s)).caps
@[simp] theorem setLineSt_areas {s : State} {x0 x1} : (State.setLineSt s x0 x1).areas = s.areas := (keep_setLineSt (s := s)).areas
@[simp] theorem setLineSt_rdata {s : State} {x0 x1} : (State.setLineSt s x0 x1).rdata = s.rdata := (keep_setLineSt (s := s)).rdata
@[simp] theorem setLineSt_out {s : State} {x0 x1} : (State.setLineSt s x0 x1).out = s.out := (keep_setLineSt (s := s)).out
@[simp] theorem setLineSt_free {s : State} {x0 x1} : (State.setLineSt s x0 x1).free = s.free := (keep_setLineSt (s := s)).free
@[simp] theorem setLineSt_ms {s : State} {x0 x1} : (State.setLineSt s x0 x1).ms = s.ms := (keep_setLineSt (s := s)).ms
@[simp] theorem setLineSt_win {s : State} {x0 x1} : (State.setLineSt s x0 x1).win = s.win := (keep_setLineSt (s := s)).win
@[simp] theorem setLineSt_host {s : State} {x0 x1} : (State.setLineSt s x0 x1).host = s.host := (keep_setLineSt (s := s)).host
@[simp] theorem setLineSt_flt {s : State} {x0 x1} : (State.setLineSt s x0 x1).flt = s.flt := (keep_setLineSt (s := s)).flt
@[simp] theorem setLineSt_log {s : State} {x0 x1} : (State.setLineSt s x0 x1).log = s.log := (keep_setLineSt (s := s)).log
@[simp] theorem setLineSt_sec {s : State} {x0 x1} : (State.setLineSt s x0 x1).sec = s.sec := (keep_setLineSt (s := s)).sec
@[simp] theorem setLineSt_flash {s : State} {x0 x1} : (State.setLineSt s x0 x1).flash = s.flash := (keep_setLineSt (s := s)).flash
@[simp] theorem setLineSt_upd {s : State} {x0 x1} : (State.setLineSt s x0 x1).upd = s.upd := (keep_setLineSt (s := s)).upd
@[simp] theorem setLineSt_clusters {s : State} {x0 x1} : (State.setLineSt s x0 x1).clusters = s.clusters := (keep_setLineSt (s := s)).clusters
@[simp] theorem setLineSt_eng {s : State} {x0 x1} : (State.setLineSt s x0 x1).eng = s.eng := (keep_setLineSt (s := s)).eng
@[simp] theorem setLineSt_scn {s : State} {x0 x1} : (State.setLineSt s x0 x1).scn = s.scn := (keep_setLineSt (s := s)).scn
@[simp] theorem setLineSt_pair {s : State} {x0 x1} : (State.setLineSt s x0 x1).pair = s.pair := (keep_setLineSt (s := s)).pair
@[simp] theorem setLineSt_ports {s : State} {x0 x1} : (State.setLineSt s x0 x1).ports = s.ports := (keep_setLineSt (s := s)).ports
@[simp] theorem setLineSt_net {s : State} {x0 x1} : (State.setLineSt s x0 x1).net = s.net := (keep_setLineSt (s := s)).net
@[simp] theorem setLineSt_clk {s : State} {x0 x1} : (State.setLineSt s x0 x1).clk = s.clk := (keep_setLineSt (s := s)).clk
@[simp] theorem setLineSt_en {s : State} {x0 x1} : (State.setLineSt s x0 x1).en = s.en := (keep_setLineSt (s := s)).en

/-! setScn -/
@[simp] theorem setScn_pending {s : State} {x0} : (State.setScn s x0).pending = s.pending := (keep_setScn (s := s)).pending
@[simp] theorem setScn_regs {s : State} {x0} : (State.setScn s x0).regs = s.regs := (keep_setScn (s := s)).regs
@[simp] theorem setScn_lat {s : State} {x0} : (State.setScn s x0).lat = s.lat := (keep_setScn (s := s)).lat
@[simp] theorem setScn_snaps {s : State} {x0} : (State.setScn s x0).snaps = s.snaps := (keep_setScn (s := s)).snaps
@[simp] theorem setScn_caps {s : State} {x0} : (State.setScn s x0).caps = s.caps := (keep_setScn (s := s)).caps
@[simp] theorem setScn_areas {s : State} {x0} : (State.setScn s x0).areas = s.areas := (keep_setScn (s := s)).areas
@[simp] theorem setScn_rdata {s : State} {x0} : (State.setScn s x0).rdata = s.rdata := (keep_setScn (s := s)).rdata
@[simp] theorem setScn_out {s : State} {x0} : (State.setScn s x0).out = s.out := (keep_setScn (s := s)).out
@[simp] theorem setScn_free {s : State} {x0} : (State.setScn s x0).free = s.free := (keep_setScn (s := s)).free
@[simp] theorem setScn_ms {s : State} {x0} : (State.setScn s x0).ms = s.ms := (keep_setScn (s := s)).ms
@[simp] theorem setScn_win {s : State} {x0} : (State.setScn s x0).win = s.win := (keep_setScn (s := s)).win
@[simp] theorem setScn_host {s : State} {x0} : (State.setScn s x0).host = s.host := (keep_setScn (s := s)).host
@[simp] theorem setScn_flt {s : State} {x0} : (State.setScn s x0).flt = s.flt := (keep_setScn (s := s)).flt
@[simp] theorem setScn_log {s : State} {x0} : (State.setScn s x0).log = s.log := (keep_setScn (s := s)).log
@[simp] theorem setScn_sec {s : State} {x0} : (State.setScn s x0).sec = s.sec := (keep_setScn (s := s)).sec
@[simp] theorem setScn_flash {s : State} {x0} : (State.setScn s x0).flash = s.flash := (keep_setScn (s := s)).flash
@[simp] theorem setScn_upd {s : State} {x0} : (State.setScn s x0).upd = s.upd := (keep_setScn (s := s)).upd
@[simp] theorem setScn_clusters {s : State} {x0} : (State.setScn s x0).clusters = s.clusters := (keep_setScn (s := s)).clusters
@[simp] theorem setScn_eng {s : State} {x0} : (State.setScn s x0).eng = s.eng := (keep_setScn (s := s)).eng
@[simp] theorem setScn_pair {s : State} {x0} : (State.setScn s x0).pair = s.pair := (keep_setScn (s := s)).pair
@[simp] theorem setScn_ports {s : State} {x0} : (State.setScn s x0).ports = s.ports := (keep_setScn (s := s)).ports
@[simp] theorem setScn_sl {s : State} {x0} : (State.setScn s x0).sl = s.sl := (keep_setScn (s := s)).sl
@[simp] theorem setScn_net {s : State} {x0} : (State.setScn s x0).net = s.net := (keep_setScn (s := s)).net
@[simp] theorem setScn_clk {s : State} {x0} : (State.setScn s x0).clk = s.clk := (keep_setScn (s := s)).clk
@[simp] theorem setScn_en {s : State} {x0} : (State.setScn s x0).en = s.en := (keep_setScn (s := s)).en
@[simp] theorem setScn_scn {s : State} {x0} : (State.setScn s x0).scn = x0 := rfl

/-! setSlot -/
@[simp] theorem setSlot_pending {s : State} {x0 x1} : (State.setSlot s x0 x1).pending = s.pending := (keep_setSlot (s := s)).pending
@[simp] theorem setSlot_regs {s : State} {x0 x1} : (State.setSlot s x0 x1).regs = s.regs := (keep_setSlot (s := s)).regs
@[simp] theorem setSlot_lat {s : State} {x0 x1} : (State.setSlot s x0 x1).lat = s.lat := (keep_setSlot (s := s)).lat
@[simp] theorem setSlot_snaps {s : State} {x0 x1} : (State.setSlot s x0 x1).snaps = s.snaps := (keep_setSlot (s := s)).snaps
@[simp] theorem setSlot_caps {s : State} {x0 x1} : (State.setSlot s x0 x1).caps = s.caps := (keep_setSlot (s := s)).caps
@[simp] theorem setSlot_areas {s : State} {x0 x1} : (State.setSlot s x0 x1).areas = s.areas := (keep_setSlot (s := s)).areas
@[simp] theorem setSlot_rdata {s : State} {x0 x1} : (State.setSlot s x0 x1).rdata = s.rdata := (keep_setSlot (s := s)).rdata
@[simp] theorem setSlot_out {s : State} {x0 x1} : (State.setSlot s x0 x1).out = s.out := (keep_setSlot (s := s)).out
@[simp] theorem setSlot_free {s : State} {x0 x1} : (State.setSlot s x0 x1).free = s.free := (keep_setSlot (s := s)).free
@[simp] theorem setSlot_ms {s : State} {x0 x1} : (State.setSlot s x0 x1).ms = s.ms := (keep_setSlot (s := s)).ms
@[simp] theorem setSlot_win {s : State} {x0 x1} : (State.setSlot s x0 x1).win = s.win := (keep_setSlot (s := s)).win
@[simp] theorem setSlot_host {s : State} {x0 x1} : (State.setSlot s x0 x1).host = s.host := (keep_setSlot (s := s)).host
@[simp] theorem setSlot_flt {s : State} {x0 x1} : (State.setSlot s x0 x1).flt = s.flt := (keep_setSlot (s := s)).flt
@[simp] theorem setSlot_log {s : State} {x0 x1} : (State.setSlot s x0 x1).log = s.log := (keep_setSlot (s := s)).log
@[simp] theorem setSlot_sec {s : State} {x0 x1} : (State.setSlot s x0 x1).sec = s.sec := (keep_setSlot (s := s)).sec
@[simp] theorem setSlot_flash {s : State} {x0 x1} : (State.setSlot s x0 x1).flash = s.flash := (keep_setSlot (s := s)).flash
@[simp] theorem setSlot_upd {s : State} {x0 x1} : (State.setSlot s x0 x1).upd = s.upd := (keep_setSlot (s := s)).upd
@[simp] theorem setSlot_clusters {s : State} {x0 x1} : (State.setSlot s x0 x1).clusters = s.clusters := (keep_setSlot (s := s)).clusters
@[simp] theorem setSlot_eng {s : State} {x0 x1} : (State.setSlot s x0 x1).eng = s.eng := (keep_setSlot (s := s)).eng
@[simp] theorem setSlot_pair {s : State} {x0 x1} : (State.setSlot s x0 x1).pair = s.pair := (keep_setSlot (s := s)).pair
@[simp] theorem setSlot_ports {s : State} {x0 x1} : (State.setSlot s x0 x1).ports = s.ports := (keep_setSlot (s := s)).ports
@[simp] theorem setSlot_sl {s : State} {x0 x1} : (State.setSlot s x0 x1).sl = s.sl := (keep_setSlot (s := s)).sl
@[simp] theorem setSlot_net {s : State} {x0 x1} : (State.setSlot s x0 x1).net = s.net := (keep_setSlot (s := s)).net
@[simp] theorem setSlot_clk {s : State} {x0 x1} : (State.setSlot s x0 x1).clk = s.clk := (keep_setSlot (s := s)).clk
@[simp] theorem setSlot_en {s : State} {x0 x1} : (State.setSlot s x0 x1).en = s.en := (keep_setSlot (s := s)).en

/-! setClk -/
@[simp] theorem setClk_pending {s : State} {x0} : (State.setClk s x0).pending = s.pending := (keep_setClk (s := s)).pending
@[simp] theorem setClk_regs {s : State} {x0} : (State.setClk s x0).regs = s.regs := (keep_setClk (s := s)).regs
@[simp] theorem setClk_lat {s : State} {x0} : (State.setClk s x0).lat = s.lat := (keep_setClk (s := s)).lat
@[simp] theorem setClk_snaps {s : State} {x0} : (State.setClk s x0).snaps = s.snaps := (keep_setClk (s := s)).snaps
@[simp] theorem setClk_caps {s : State} {x0} : (State.setClk s x0).caps = s.caps := (keep_setClk (s := s)).caps
@[simp] theorem setClk_areas {s : State} {x0} : (State.setClk s x0).areas = s.areas := (keep_setClk (s := s)).areas
@[simp] theorem setClk_rdata {s : State} {x0} : (State.setClk s x0).rdata = s.rdata := (keep_setClk (s := s)).rdata
@[simp] theorem setClk_out {s : State} {x0} : (State.setClk s x0).out = s.out := (keep_setClk (s := s)).out
@[simp] theorem setClk_free {s : State} {x0} : (State.setClk s x0).free = s.free := (keep_setClk (s := s)).free
@[simp] theorem setClk_ms {s : State} {x0} : (State.setClk s x0).ms = s.ms := (keep_setClk (s := s)).ms
@[simp] theorem setClk_win {s : State} {x0} : (State.setClk s x0).win = s.win := (keep_setClk (s := s)).win
@[simp] theorem setClk_host {s : State} {x0} : (State.setClk s x0).host = s.host := (keep_setClk (s := s)).host
@[simp] theorem setClk_flt {s : State} {x0} : (State.setClk s x0).flt = s.flt := (keep_setClk (s := s)).flt
@[simp] theorem setClk_log {s : State} {x0} : (State.setClk s x0).log = s.log := (keep_setClk (s := s)).log
@[simp] theorem setClk_sec {s : State} {x0} : (State.setClk s x0).sec = s.sec := (keep_setClk (s := s)).sec
@[simp] theorem setClk_flash {s : State} {x0} : (State.setClk s x0).flash = s.flash := (keep_setClk (s := s)).flash
@[simp] theorem setClk_upd {s : State} {x0} : (State.setClk s x0).upd = s.upd := (keep_setClk (s := s)).upd
@[simp] theorem setClk_clusters {s : State} {x0} : (State.setClk s x0).clusters = s.clusters := (keep_setClk (s := s)).clusters
@[simp] theorem setClk_eng {s : State} {x0} : (State.setClk s x0).eng = s.eng := (keep_setClk (s := s)).eng
@[simp] theorem setClk_scn {s : State} {x0} : (State.setClk s x0).scn = s.scn := (keep_setClk (s := s)).scn
@[simp] theorem setClk_pair {s : State} {x0} : (State.setClk s x0).pair = s.pair := (keep_setClk (s := s)).pair
@[simp] theorem setClk_ports {s : State} {x0} : (State.setClk s x0).ports = s.ports := (keep_setClk (s := s)).ports
@[simp] theorem setClk_sl {s : State} {x0} : (State.setClk s x0).sl = s.sl := (keep_setClk (s := s)).sl
@[simp] theorem setClk_net {s : State} {x0} : (State.setClk s x0).net = s.net := (keep_setClk (s := s)).net
@[simp] theorem setClk_en {s : State} {x0} : (State.setClk s x0).en = s.en := (keep_setClk (s := s)).en
@[simp] theorem setClk_clk {s : State} {x0} : (State.setClk s x0).clk = x0 := rfl

/-! setCand -/
@[simp] theorem setCand_pending {s : State} {x0 x1} : (State.setCand s x0 x1).pending = s.pending := (keep_setCand (s := s)).pending
@[simp] theorem setCand_regs {s : State} {x0 x1} : (State.setCand s x0 x1).regs = s.regs := (keep_setCand (s := s)).regs
@[simp] theorem setCand_lat {s : State} {x0 x1} : (State.setCand s x0 x1).lat = s.lat := (keep_setCand (s := s)).lat
@[simp] theorem setCand_snaps {s : State} {x0 x1} : (State.setCand s x0 x1).snaps = s.snaps := (keep_setCand (s := s)).snaps
@[simp] theorem setCand_caps {s : State} {x0 x1} : (State.setCand s x0 x1).caps = s.caps := (keep_setCand (s := s)).caps
@[simp] theorem setCand_areas {s : State} {x0 x1} : (State.setCand s x0 x1).areas = s.areas := (keep_setCand (s := s)).areas
@[simp] theorem setCand_rdata {s : State} {x0 x1} : (State.setCand s x0 x1).rdata = s.rdata := (keep_setCand (s := s)).rdata
@[simp] theorem setCand_out {s : State} {x0 x1} : (State.setCand s x0 x1).out = s.out := (keep_setCand (s := s)).out
@[simp] theorem setCand_free {s : State} {x0 x1} : (State.setCand s x0 x1).free = s.free := (keep_setCand (s := s)).free
@[simp] theorem setCand_ms {s : State} {x0 x1} : (State.setCand s x0 x1).ms = s.ms := (keep_setCand (s := s)).ms
@[simp] theorem setCand_win {s : State} {x0 x1} : (State.setCand s x0 x1).win = s.win := (keep_setCand (s := s)).win
@[simp] theorem setCand_host {s : State} {x0 x1} : (State.setCand s x0 x1).host = s.host := (keep_setCand (s := s)).host
@[simp] theorem setCand_flt {s : State} {x0 x1} : (State.setCand s x0 x1).flt = s.flt := (keep_setCand (s := s)).flt
@[simp] theorem setCand_log {s : State} {x0 x1} : (State.setCand s x0 x1).log = s.log := (keep_setCand (s := s)).log
@[simp] theorem setCand_sec {s : State} {x0 x1} : (State.setCand s x0 x1).sec = s.sec := (keep_setCand (s := s)).sec
@[simp] theorem setCand_flash {s : State} {x0 x1} : (State.setCand s x0 x1).flash = s.flash := (keep_setCand (s := s)).flash
@[simp] theorem setCand_upd {s : State} {x0 x1} : (State.setCand s x0 x1).upd = s.upd := (keep_setCand (s := s)).upd
@[simp] theorem setCand_clusters {s : State} {x0 x1} : (State.setCand s x0 x1).clusters = s.clusters := (keep_setCand (s := s)).clusters
@[simp] theorem setCand_eng {s : State} {x0 x1} : (State.setCand s x0 x1).eng = s.eng := (keep_setCand (s := s)).eng
@[simp] theorem setCand_scn {s : State} {x0 x1} : (State.setCand s x0 x1).scn = s.scn := (keep_setCand (s := s)).scn
@[simp] theorem setCand_pair {s : State} {x0 x1} : (State.setCand s x0 x1).pair = s.pair := (keep_setCand (s := s)).pair
@[simp] theorem setCand_ports {s : State} {x0 x1} : (State.setCand s x0 x1).ports = s.ports := (keep_setCand (s := s)).ports
@[simp] theorem setCand_sl {s : State} {x0 x1} : (State.setCand s x0 x1).sl = s.sl := (keep_setCand (s := s)).sl
@[simp] theorem setCand_net {s : State} {x0 x1} : (State.setCand s x0 x1).net = s.net := (keep_setCand (s := s)).net
@[simp] theorem setCand_en {s : State} {x0 x1} : (State.setCand s x0 x1).en = s.en := (keep_setCand (s := s)).en

/-! setNco -/
@[simp] theorem setNco_pending {s : State} {x0} : (State.setNco s x0).pending = s.pending := (keep_setNco (s := s)).pending
@[simp] theorem setNco_lat {s : State} {x0} : (State.setNco s x0).lat = s.lat := (keep_setNco (s := s)).lat
@[simp] theorem setNco_snaps {s : State} {x0} : (State.setNco s x0).snaps = s.snaps := (keep_setNco (s := s)).snaps
@[simp] theorem setNco_caps {s : State} {x0} : (State.setNco s x0).caps = s.caps := (keep_setNco (s := s)).caps
@[simp] theorem setNco_areas {s : State} {x0} : (State.setNco s x0).areas = s.areas := (keep_setNco (s := s)).areas
@[simp] theorem setNco_rdata {s : State} {x0} : (State.setNco s x0).rdata = s.rdata := (keep_setNco (s := s)).rdata
@[simp] theorem setNco_out {s : State} {x0} : (State.setNco s x0).out = s.out := (keep_setNco (s := s)).out
@[simp] theorem setNco_free {s : State} {x0} : (State.setNco s x0).free = s.free := (keep_setNco (s := s)).free
@[simp] theorem setNco_ms {s : State} {x0} : (State.setNco s x0).ms = s.ms := (keep_setNco (s := s)).ms
@[simp] theorem setNco_win {s : State} {x0} : (State.setNco s x0).win = s.win := (keep_setNco (s := s)).win
@[simp] theorem setNco_host {s : State} {x0} : (State.setNco s x0).host = s.host := (keep_setNco (s := s)).host
@[simp] theorem setNco_flt {s : State} {x0} : (State.setNco s x0).flt = s.flt := (keep_setNco (s := s)).flt
@[simp] theorem setNco_log {s : State} {x0} : (State.setNco s x0).log = s.log := (keep_setNco (s := s)).log
@[simp] theorem setNco_sec {s : State} {x0} : (State.setNco s x0).sec = s.sec := (keep_setNco (s := s)).sec
@[simp] theorem setNco_flash {s : State} {x0} : (State.setNco s x0).flash = s.flash := (keep_setNco (s := s)).flash
@[simp] theorem setNco_upd {s : State} {x0} : (State.setNco s x0).upd = s.upd := (keep_setNco (s := s)).upd
@[simp] theorem setNco_clusters {s : State} {x0} : (State.setNco s x0).clusters = s.clusters := (keep_setNco (s := s)).clusters
@[simp] theorem setNco_eng {s : State} {x0} : (State.setNco s x0).eng = s.eng := (keep_setNco (s := s)).eng
@[simp] theorem setNco_scn {s : State} {x0} : (State.setNco s x0).scn = s.scn := (keep_setNco (s := s)).scn
@[simp] theorem setNco_pair {s : State} {x0} : (State.setNco s x0).pair = s.pair := (keep_setNco (s := s)).pair
@[simp] theorem setNco_ports {s : State} {x0} : (State.setNco s x0).ports = s.ports := (keep_setNco (s := s)).ports
@[simp] theorem setNco_sl {s : State} {x0} : (State.setNco s x0).sl = s.sl := (keep_setNco (s := s)).sl
@[simp] theorem setNco_net {s : State} {x0} : (State.setNco s x0).net = s.net := (keep_setNco (s := s)).net
@[simp] theorem setNco_clk {s : State} {x0} : (State.setNco s x0).clk = s.clk := (keep_setNco (s := s)).clk
@[simp] theorem setNco_en {s : State} {x0} : (State.setNco s x0).en = s.en := (keep_setNco (s := s)).en

/-! setNet -/
@[simp] theorem setNet_pending {s : State} {x0} : (State.setNet s x0).pending = s.pending := (keep_setNet (s := s)).pending
@[simp] theorem setNet_regs {s : State} {x0} : (State.setNet s x0).regs = s.regs := (keep_setNet (s := s)).regs
@[simp] theorem setNet_lat {s : State} {x0} : (State.setNet s x0).lat = s.lat := (keep_setNet (s := s)).lat
@[simp] theorem setNet_snaps {s : State} {x0} : (State.setNet s x0).snaps = s.snaps := (keep_setNet (s := s)).snaps
@[simp] theorem setNet_caps {s : State} {x0} : (State.setNet s x0).caps = s.caps := (keep_setNet (s := s)).caps
@[simp] theorem setNet_areas {s : State} {x0} : (State.setNet s x0).areas = s.areas := (keep_setNet (s := s)).areas
@[simp] theorem setNet_rdata {s : State} {x0} : (State.setNet s x0).rdata = s.rdata := (keep_setNet (s := s)).rdata
@[simp] theorem setNet_out {s : State} {x0} : (State.setNet s x0).out = s.out := (keep_setNet (s := s)).out
@[simp] theorem setNet_free {s : State} {x0} : (State.setNet s x0).free = s.free := (keep_setNet (s := s)).free
@[simp] theorem setNet_ms {s : State} {x0} : (State.setNet s x0).ms = s.ms := (keep_setNet (s := s)).ms
@[simp] theorem setNet_win {s : State} {x0} : (State.setNet s x0).win = s.win := (keep_setNet (s := s)).win
@[simp] theorem setNet_host {s : State} {x0} : (State.setNet s x0).host = s.host := (keep_setNet (s := s)).host
@[simp] theorem setNet_flt {s : State} {x0} : (State.setNet s x0).flt = s.flt := (keep_setNet (s := s)).flt
@[simp] theorem setNet_log {s : State} {x0} : (State.setNet s x0).log = s.log := (keep_setNet (s := s)).log
@[simp] theorem setNet_sec {s : State} {x0} : (State.setNet s x0).sec = s.sec := (keep_setNet (s := s)).sec
@[simp] theorem setNet_flash {s : State} {x0} : (State.setNet s x0).flash = s.flash := (keep_setNet (s := s)).flash
@[simp] theorem setNet_upd {s : State} {x0} : (State.setNet s x0).upd = s.upd := (keep_setNet (s := s)).upd
@[simp] theorem setNet_clusters {s : State} {x0} : (State.setNet s x0).clusters = s.clusters := (keep_setNet (s := s)).clusters
@[simp] theorem setNet_eng {s : State} {x0} : (State.setNet s x0).eng = s.eng := (keep_setNet (s := s)).eng
@[simp] theorem setNet_scn {s : State} {x0} : (State.setNet s x0).scn = s.scn := (keep_setNet (s := s)).scn
@[simp] theorem setNet_pair {s : State} {x0} : (State.setNet s x0).pair = s.pair := (keep_setNet (s := s)).pair
@[simp] theorem setNet_ports {s : State} {x0} : (State.setNet s x0).ports = s.ports := (keep_setNet (s := s)).ports
@[simp] theorem setNet_sl {s : State} {x0} : (State.setNet s x0).sl = s.sl := (keep_setNet (s := s)).sl
@[simp] theorem setNet_clk {s : State} {x0} : (State.setNet s x0).clk = s.clk := (keep_setNet (s := s)).clk
@[simp] theorem setNet_en {s : State} {x0} : (State.setNet s x0).en = s.en := (keep_setNet (s := s)).en
@[simp] theorem setNet_net {s : State} {x0} : (State.setNet s x0).net = x0 := rfl

/-! setTd -/
@[simp] theorem setTd_pending {s : State} {x0 x1} : (State.setTd s x0 x1).pending = s.pending := (keep_setTd (s := s)).pending
@[simp] theorem setTd_regs {s : State} {x0 x1} : (State.setTd s x0 x1).regs = s.regs := (keep_setTd (s := s)).regs
@[simp] theorem setTd_lat {s : State} {x0 x1} : (State.setTd s x0 x1).lat = s.lat := (keep_setTd (s := s)).lat
@[simp] theorem setTd_snaps {s : State} {x0 x1} : (State.setTd s x0 x1).snaps = s.snaps := (keep_setTd (s := s)).snaps
@[simp] theorem setTd_caps {s : State} {x0 x1} : (State.setTd s x0 x1).caps = s.caps := (keep_setTd (s := s)).caps
@[simp] theorem setTd_areas {s : State} {x0 x1} : (State.setTd s x0 x1).areas = s.areas := (keep_setTd (s := s)).areas
@[simp] theorem setTd_rdata {s : State} {x0 x1} : (State.setTd s x0 x1).rdata = s.rdata := (keep_setTd (s := s)).rdata
@[simp] theorem setTd_out {s : State} {x0 x1} : (State.setTd s x0 x1).out = s.out := (keep_setTd (s := s)).out
@[simp] theorem setTd_free {s : State} {x0 x1} : (State.setTd s x0 x1).free = s.free := (keep_setTd (s := s)).free
@[simp] theorem setTd_ms {s : State} {x0 x1} : (State.setTd s x0 x1).ms = s.ms := (keep_setTd (s := s)).ms
@[simp] theorem setTd_win {s : State} {x0 x1} : (State.setTd s x0 x1).win = s.win := (keep_setTd (s := s)).win
@[simp] theorem setTd_host {s : State} {x0 x1} : (State.setTd s x0 x1).host = s.host := (keep_setTd (s := s)).host
@[simp] theorem setTd_flt {s : State} {x0 x1} : (State.setTd s x0 x1).flt = s.flt := (keep_setTd (s := s)).flt
@[simp] theorem setTd_log {s : State} {x0 x1} : (State.setTd s x0 x1).log = s.log := (keep_setTd (s := s)).log
@[simp] theorem setTd_sec {s : State} {x0 x1} : (State.setTd s x0 x1).sec = s.sec := (keep_setTd (s := s)).sec
@[simp] theorem setTd_flash {s : State} {x0 x1} : (State.setTd s x0 x1).flash = s.flash := (keep_setTd (s := s)).flash
@[simp] theorem setTd_upd {s : State} {x0 x1} : (State.setTd s x0 x1).upd = s.upd := (keep_setTd (s := s)).upd
@[simp] theorem setTd_clusters {s : State} {x0 x1} : (State.setTd s x0 x1).clusters = s.clusters := (keep_setTd (s := s)).clusters
@[simp] theorem setTd_eng {s : State} {x0 x1} : (State.setTd s x0 x1).eng = s.eng := (keep_setTd (s := s)).eng
@[simp] theorem setTd_scn {s : State} {x0 x1} : (State.setTd s x0 x1).scn = s.scn := (keep_setTd (s := s)).scn
@[simp] theorem setTd_pair {s : State} {x0 x1} : (State.setTd s x0 x1).pair = s.pair := (keep_setTd (s := s)).pair
@[simp] theorem setTd_ports {s : State} {x0 x1} : (State.setTd s x0 x1).ports = s.ports := (keep_setTd (s := s)).ports
@[simp] theorem setTd_sl {s : State} {x0 x1} : (State.setTd s x0 x1).sl = s.sl := (keep_setTd (s := s)).sl
@[simp] theorem setTd_clk {s : State} {x0 x1} : (State.setTd s x0 x1).clk = s.clk := (keep_setTd (s := s)).clk
@[simp] theorem setTd_en {s : State} {x0 x1} : (State.setTd s x0 x1).en = s.en := (keep_setTd (s := s)).en

/-! setAnchor -/
@[simp] theorem setAnchor_pending {s : State} {x0 x1} : (State.setAnchor s x0 x1).pending = s.pending := (keep_setAnchor (s := s)).pending
@[simp] theorem setAnchor_lat {s : State} {x0 x1} : (State.setAnchor s x0 x1).lat = s.lat := (keep_setAnchor (s := s)).lat
@[simp] theorem setAnchor_snaps {s : State} {x0 x1} : (State.setAnchor s x0 x1).snaps = s.snaps := (keep_setAnchor (s := s)).snaps
@[simp] theorem setAnchor_caps {s : State} {x0 x1} : (State.setAnchor s x0 x1).caps = s.caps := (keep_setAnchor (s := s)).caps
@[simp] theorem setAnchor_areas {s : State} {x0 x1} : (State.setAnchor s x0 x1).areas = s.areas := (keep_setAnchor (s := s)).areas
@[simp] theorem setAnchor_rdata {s : State} {x0 x1} : (State.setAnchor s x0 x1).rdata = s.rdata := (keep_setAnchor (s := s)).rdata
@[simp] theorem setAnchor_out {s : State} {x0 x1} : (State.setAnchor s x0 x1).out = s.out := (keep_setAnchor (s := s)).out
@[simp] theorem setAnchor_free {s : State} {x0 x1} : (State.setAnchor s x0 x1).free = s.free := (keep_setAnchor (s := s)).free
@[simp] theorem setAnchor_ms {s : State} {x0 x1} : (State.setAnchor s x0 x1).ms = s.ms := (keep_setAnchor (s := s)).ms
@[simp] theorem setAnchor_win {s : State} {x0 x1} : (State.setAnchor s x0 x1).win = s.win := (keep_setAnchor (s := s)).win
@[simp] theorem setAnchor_host {s : State} {x0 x1} : (State.setAnchor s x0 x1).host = s.host := (keep_setAnchor (s := s)).host
@[simp] theorem setAnchor_flt {s : State} {x0 x1} : (State.setAnchor s x0 x1).flt = s.flt := (keep_setAnchor (s := s)).flt
@[simp] theorem setAnchor_log {s : State} {x0 x1} : (State.setAnchor s x0 x1).log = s.log := (keep_setAnchor (s := s)).log
@[simp] theorem setAnchor_sec {s : State} {x0 x1} : (State.setAnchor s x0 x1).sec = s.sec := (keep_setAnchor (s := s)).sec
@[simp] theorem setAnchor_flash {s : State} {x0 x1} : (State.setAnchor s x0 x1).flash = s.flash := (keep_setAnchor (s := s)).flash
@[simp] theorem setAnchor_upd {s : State} {x0 x1} : (State.setAnchor s x0 x1).upd = s.upd := (keep_setAnchor (s := s)).upd
@[simp] theorem setAnchor_clusters {s : State} {x0 x1} : (State.setAnchor s x0 x1).clusters = s.clusters := (keep_setAnchor (s := s)).clusters
@[simp] theorem setAnchor_eng {s : State} {x0 x1} : (State.setAnchor s x0 x1).eng = s.eng := (keep_setAnchor (s := s)).eng
@[simp] theorem setAnchor_scn {s : State} {x0 x1} : (State.setAnchor s x0 x1).scn = s.scn := (keep_setAnchor (s := s)).scn
@[simp] theorem setAnchor_pair {s : State} {x0 x1} : (State.setAnchor s x0 x1).pair = s.pair := (keep_setAnchor (s := s)).pair
@[simp] theorem setAnchor_ports {s : State} {x0 x1} : (State.setAnchor s x0 x1).ports = s.ports := (keep_setAnchor (s := s)).ports
@[simp] theorem setAnchor_sl {s : State} {x0 x1} : (State.setAnchor s x0 x1).sl = s.sl := (keep_setAnchor (s := s)).sl
@[simp] theorem setAnchor_net {s : State} {x0 x1} : (State.setAnchor s x0 x1).net = s.net := (keep_setAnchor (s := s)).net
@[simp] theorem setAnchor_clk {s : State} {x0 x1} : (State.setAnchor s x0 x1).clk = s.clk := (keep_setAnchor (s := s)).clk
@[simp] theorem setAnchor_en {s : State} {x0 x1} : (State.setAnchor s x0 x1).en = s.en := (keep_setAnchor (s := s)).en

/-! setMac -/
@[simp] theorem setMac_pending {s : State} {x0 x1} : (State.setMac s x0 x1).pending = s.pending := (keep_setMac (s := s)).pending
@[simp] theorem setMac_regs {s : State} {x0 x1} : (State.setMac s x0 x1).regs = s.regs := (keep_setMac (s := s)).regs
@[simp] theorem setMac_lat {s : State} {x0 x1} : (State.setMac s x0 x1).lat = s.lat := (keep_setMac (s := s)).lat
@[simp] theorem setMac_snaps {s : State} {x0 x1} : (State.setMac s x0 x1).snaps = s.snaps := (keep_setMac (s := s)).snaps
@[simp] theorem setMac_caps {s : State} {x0 x1} : (State.setMac s x0 x1).caps = s.caps := (keep_setMac (s := s)).caps
@[simp] theorem setMac_areas {s : State} {x0 x1} : (State.setMac s x0 x1).areas = s.areas := (keep_setMac (s := s)).areas
@[simp] theorem setMac_rdata {s : State} {x0 x1} : (State.setMac s x0 x1).rdata = s.rdata := (keep_setMac (s := s)).rdata
@[simp] theorem setMac_out {s : State} {x0 x1} : (State.setMac s x0 x1).out = s.out := (keep_setMac (s := s)).out
@[simp] theorem setMac_free {s : State} {x0 x1} : (State.setMac s x0 x1).free = s.free := (keep_setMac (s := s)).free
@[simp] theorem setMac_ms {s : State} {x0 x1} : (State.setMac s x0 x1).ms = s.ms := (keep_setMac (s := s)).ms
@[simp] theorem setMac_win {s : State} {x0 x1} : (State.setMac s x0 x1).win = s.win := (keep_setMac (s := s)).win
@[simp] theorem setMac_host {s : State} {x0 x1} : (State.setMac s x0 x1).host = s.host := (keep_setMac (s := s)).host
@[simp] theorem setMac_flt {s : State} {x0 x1} : (State.setMac s x0 x1).flt = s.flt := (keep_setMac (s := s)).flt
@[simp] theorem setMac_log {s : State} {x0 x1} : (State.setMac s x0 x1).log = s.log := (keep_setMac (s := s)).log
@[simp] theorem setMac_sec {s : State} {x0 x1} : (State.setMac s x0 x1).sec = s.sec := (keep_setMac (s := s)).sec
@[simp] theorem setMac_flash {s : State} {x0 x1} : (State.setMac s x0 x1).flash = s.flash := (keep_setMac (s := s)).flash
@[simp] theorem setMac_upd {s : State} {x0 x1} : (State.setMac s x0 x1).upd = s.upd := (keep_setMac (s := s)).upd
@[simp] theorem setMac_clusters {s : State} {x0 x1} : (State.setMac s x0 x1).clusters = s.clusters := (keep_setMac (s := s)).clusters
@[simp] theorem setMac_eng {s : State} {x0 x1} : (State.setMac s x0 x1).eng = s.eng := (keep_setMac (s := s)).eng
@[simp] theorem setMac_scn {s : State} {x0 x1} : (State.setMac s x0 x1).scn = s.scn := (keep_setMac (s := s)).scn
@[simp] theorem setMac_pair {s : State} {x0 x1} : (State.setMac s x0 x1).pair = s.pair := (keep_setMac (s := s)).pair
@[simp] theorem setMac_ports {s : State} {x0 x1} : (State.setMac s x0 x1).ports = s.ports := (keep_setMac (s := s)).ports
@[simp] theorem setMac_sl {s : State} {x0 x1} : (State.setMac s x0 x1).sl = s.sl := (keep_setMac (s := s)).sl
@[simp] theorem setMac_clk {s : State} {x0 x1} : (State.setMac s x0 x1).clk = s.clk := (keep_setMac (s := s)).clk
@[simp] theorem setMac_en {s : State} {x0 x1} : (State.setMac s x0 x1).en = s.en := (keep_setMac (s := s)).en

/-! setTx -/
@[simp] theorem setTx_pending {s : State} {x0 x1} : (State.setTx s x0 x1).pending = s.pending := (keep_setTx (s := s)).pending
@[simp] theorem setTx_regs {s : State} {x0 x1} : (State.setTx s x0 x1).regs = s.regs := (keep_setTx (s := s)).regs
@[simp] theorem setTx_lat {s : State} {x0 x1} : (State.setTx s x0 x1).lat = s.lat := (keep_setTx (s := s)).lat
@[simp] theorem setTx_snaps {s : State} {x0 x1} : (State.setTx s x0 x1).snaps = s.snaps := (keep_setTx (s := s)).snaps
@[simp] theorem setTx_caps {s : State} {x0 x1} : (State.setTx s x0 x1).caps = s.caps := (keep_setTx (s := s)).caps
@[simp] theorem setTx_areas {s : State} {x0 x1} : (State.setTx s x0 x1).areas = s.areas := (keep_setTx (s := s)).areas
@[simp] theorem setTx_rdata {s : State} {x0 x1} : (State.setTx s x0 x1).rdata = s.rdata := (keep_setTx (s := s)).rdata
@[simp] theorem setTx_out {s : State} {x0 x1} : (State.setTx s x0 x1).out = s.out := (keep_setTx (s := s)).out
@[simp] theorem setTx_free {s : State} {x0 x1} : (State.setTx s x0 x1).free = s.free := (keep_setTx (s := s)).free
@[simp] theorem setTx_ms {s : State} {x0 x1} : (State.setTx s x0 x1).ms = s.ms := (keep_setTx (s := s)).ms
@[simp] theorem setTx_win {s : State} {x0 x1} : (State.setTx s x0 x1).win = s.win := (keep_setTx (s := s)).win
@[simp] theorem setTx_host {s : State} {x0 x1} : (State.setTx s x0 x1).host = s.host := (keep_setTx (s := s)).host
@[simp] theorem setTx_flt {s : State} {x0 x1} : (State.setTx s x0 x1).flt = s.flt := (keep_setTx (s := s)).flt
@[simp] theorem setTx_log {s : State} {x0 x1} : (State.setTx s x0 x1).log = s.log := (keep_setTx (s := s)).log
@[simp] theorem setTx_sec {s : State} {x0 x1} : (State.setTx s x0 x1).sec = s.sec := (keep_setTx (s := s)).sec
@[simp] theorem setTx_flash {s : State} {x0 x1} : (State.setTx s x0 x1).flash = s.flash := (keep_setTx (s := s)).flash
@[simp] theorem setTx_upd {s : State} {x0 x1} : (State.setTx s x0 x1).upd = s.upd := (keep_setTx (s := s)).upd
@[simp] theorem setTx_clusters {s : State} {x0 x1} : (State.setTx s x0 x1).clusters = s.clusters := (keep_setTx (s := s)).clusters
@[simp] theorem setTx_eng {s : State} {x0 x1} : (State.setTx s x0 x1).eng = s.eng := (keep_setTx (s := s)).eng
@[simp] theorem setTx_scn {s : State} {x0 x1} : (State.setTx s x0 x1).scn = s.scn := (keep_setTx (s := s)).scn
@[simp] theorem setTx_pair {s : State} {x0 x1} : (State.setTx s x0 x1).pair = s.pair := (keep_setTx (s := s)).pair
@[simp] theorem setTx_ports {s : State} {x0 x1} : (State.setTx s x0 x1).ports = s.ports := (keep_setTx (s := s)).ports
@[simp] theorem setTx_sl {s : State} {x0 x1} : (State.setTx s x0 x1).sl = s.sl := (keep_setTx (s := s)).sl
@[simp] theorem setTx_clk {s : State} {x0 x1} : (State.setTx s x0 x1).clk = s.clk := (keep_setTx (s := s)).clk
@[simp] theorem setTx_en {s : State} {x0 x1} : (State.setTx s x0 x1).en = s.en := (keep_setTx (s := s)).en

/-! setRx -/
@[simp] theorem setRx_pending {s : State} {x0 x1} : (State.setRx s x0 x1).pending = s.pending := (keep_setRx (s := s)).pending
@[simp] theorem setRx_regs {s : State} {x0 x1} : (State.setRx s x0 x1).regs = s.regs := (keep_setRx (s := s)).regs
@[simp] theorem setRx_lat {s : State} {x0 x1} : (State.setRx s x0 x1).lat = s.lat := (keep_setRx (s := s)).lat
@[simp] theorem setRx_snaps {s : State} {x0 x1} : (State.setRx s x0 x1).snaps = s.snaps := (keep_setRx (s := s)).snaps
@[simp] theorem setRx_caps {s : State} {x0 x1} : (State.setRx s x0 x1).caps = s.caps := (keep_setRx (s := s)).caps
@[simp] theorem setRx_areas {s : State} {x0 x1} : (State.setRx s x0 x1).areas = s.areas := (keep_setRx (s := s)).areas
@[simp] theorem setRx_rdata {s : State} {x0 x1} : (State.setRx s x0 x1).rdata = s.rdata := (keep_setRx (s := s)).rdata
@[simp] theorem setRx_out {s : State} {x0 x1} : (State.setRx s x0 x1).out = s.out := (keep_setRx (s := s)).out
@[simp] theorem setRx_free {s : State} {x0 x1} : (State.setRx s x0 x1).free = s.free := (keep_setRx (s := s)).free
@[simp] theorem setRx_ms {s : State} {x0 x1} : (State.setRx s x0 x1).ms = s.ms := (keep_setRx (s := s)).ms
@[simp] theorem setRx_win {s : State} {x0 x1} : (State.setRx s x0 x1).win = s.win := (keep_setRx (s := s)).win
@[simp] theorem setRx_host {s : State} {x0 x1} : (State.setRx s x0 x1).host = s.host := (keep_setRx (s := s)).host
@[simp] theorem setRx_flt {s : State} {x0 x1} : (State.setRx s x0 x1).flt = s.flt := (keep_setRx (s := s)).flt
@[simp] theorem setRx_log {s : State} {x0 x1} : (State.setRx s x0 x1).log = s.log := (keep_setRx (s := s)).log
@[simp] theorem setRx_sec {s : State} {x0 x1} : (State.setRx s x0 x1).sec = s.sec := (keep_setRx (s := s)).sec
@[simp] theorem setRx_flash {s : State} {x0 x1} : (State.setRx s x0 x1).flash = s.flash := (keep_setRx (s := s)).flash
@[simp] theorem setRx_upd {s : State} {x0 x1} : (State.setRx s x0 x1).upd = s.upd := (keep_setRx (s := s)).upd
@[simp] theorem setRx_clusters {s : State} {x0 x1} : (State.setRx s x0 x1).clusters = s.clusters := (keep_setRx (s := s)).clusters
@[simp] theorem setRx_eng {s : State} {x0 x1} : (State.setRx s x0 x1).eng = s.eng := (keep_setRx (s := s)).eng
@[simp] theorem setRx_scn {s : State} {x0 x1} : (State.setRx s x0 x1).scn = s.scn := (keep_setRx (s := s)).scn
@[simp] theorem setRx_pair {s : State} {x0 x1} : (State.setRx s x0 x1).pair = s.pair := (keep_setRx (s := s)).pair
@[simp] theorem setRx_ports {s : State} {x0 x1} : (State.setRx s x0 x1).ports = s.ports := (keep_setRx (s := s)).ports
@[simp] theorem setRx_sl {s : State} {x0 x1} : (State.setRx s x0 x1).sl = s.sl := (keep_setRx (s := s)).sl
@[simp] theorem setRx_clk {s : State} {x0 x1} : (State.setRx s x0 x1).clk = s.clk := (keep_setRx (s := s)).clk
@[simp] theorem setRx_en {s : State} {x0 x1} : (State.setRx s x0 x1).en = s.en := (keep_setRx (s := s)).en

/-! setRec -/
@[simp] theorem setRec_pending {s : State} {x0} : (State.setRec s x0).pending = s.pending := (keep_setRec (s := s)).pending
@[simp] theorem setRec_regs {s : State} {x0} : (State.setRec s x0).regs = s.regs := (keep_setRec (s := s)).regs
@[simp] theorem setRec_lat {s : State} {x0} : (State.setRec s x0).lat = s.lat := (keep_setRec (s := s)).lat
@[simp] theorem setRec_snaps {s : State} {x0} : (State.setRec s x0).snaps = s.snaps := (keep_setRec (s := s)).snaps
@[simp] theorem setRec_caps {s : State} {x0} : (State.setRec s x0).caps = s.caps := (keep_setRec (s := s)).caps
@[simp] theorem setRec_areas {s : State} {x0} : (State.setRec s x0).areas = s.areas := (keep_setRec (s := s)).areas
@[simp] theorem setRec_rdata {s : State} {x0} : (State.setRec s x0).rdata = s.rdata := (keep_setRec (s := s)).rdata
@[simp] theorem setRec_out {s : State} {x0} : (State.setRec s x0).out = s.out := (keep_setRec (s := s)).out
@[simp] theorem setRec_free {s : State} {x0} : (State.setRec s x0).free = s.free := (keep_setRec (s := s)).free
@[simp] theorem setRec_ms {s : State} {x0} : (State.setRec s x0).ms = s.ms := (keep_setRec (s := s)).ms
@[simp] theorem setRec_win {s : State} {x0} : (State.setRec s x0).win = s.win := (keep_setRec (s := s)).win
@[simp] theorem setRec_host {s : State} {x0} : (State.setRec s x0).host = s.host := (keep_setRec (s := s)).host
@[simp] theorem setRec_flt {s : State} {x0} : (State.setRec s x0).flt = s.flt := (keep_setRec (s := s)).flt
@[simp] theorem setRec_log {s : State} {x0} : (State.setRec s x0).log = s.log := (keep_setRec (s := s)).log
@[simp] theorem setRec_sec {s : State} {x0} : (State.setRec s x0).sec = s.sec := (keep_setRec (s := s)).sec
@[simp] theorem setRec_flash {s : State} {x0} : (State.setRec s x0).flash = s.flash := (keep_setRec (s := s)).flash
@[simp] theorem setRec_upd {s : State} {x0} : (State.setRec s x0).upd = s.upd := (keep_setRec (s := s)).upd
@[simp] theorem setRec_clusters {s : State} {x0} : (State.setRec s x0).clusters = s.clusters := (keep_setRec (s := s)).clusters
@[simp] theorem setRec_scn {s : State} {x0} : (State.setRec s x0).scn = s.scn := (keep_setRec (s := s)).scn
@[simp] theorem setRec_pair {s : State} {x0} : (State.setRec s x0).pair = s.pair := (keep_setRec (s := s)).pair
@[simp] theorem setRec_ports {s : State} {x0} : (State.setRec s x0).ports = s.ports := (keep_setRec (s := s)).ports
@[simp] theorem setRec_sl {s : State} {x0} : (State.setRec s x0).sl = s.sl := (keep_setRec (s := s)).sl
@[simp] theorem setRec_net {s : State} {x0} : (State.setRec s x0).net = s.net := (keep_setRec (s := s)).net
@[simp] theorem setRec_clk {s : State} {x0} : (State.setRec s x0).clk = s.clk := (keep_setRec (s := s)).clk
@[simp] theorem setRec_en {s : State} {x0} : (State.setRec s x0).en = s.en := (keep_setRec (s := s)).en

/-! setTrig -/
@[simp] theorem setTrig_pending {s : State} {x0 x1} : (State.setTrig s x0 x1).pending = s.pending := (keep_setTrig (s := s)).pending
@[simp] theorem setTrig_regs {s : State} {x0 x1} : (State.setTrig s x0 x1).regs = s.regs := (keep_setTrig (s := s)).regs
@[simp] theorem setTrig_lat {s : State} {x0 x1} : (State.setTrig s x0 x1).lat = s.lat := (keep_setTrig (s := s)).lat
@[simp] theorem setTrig_snaps {s : State} {x0 x1} : (State.setTrig s x0 x1).snaps = s.snaps := (keep_setTrig (s := s)).snaps
@[simp] theorem setTrig_caps {s : State} {x0 x1} : (State.setTrig s x0 x1).caps = s.caps := (keep_setTrig (s := s)).caps
@[simp] theorem setTrig_areas {s : State} {x0 x1} : (State.setTrig s x0 x1).areas = s.areas := (keep_setTrig (s := s)).areas
@[simp] theorem setTrig_rdata {s : State} {x0 x1} : (State.setTrig s x0 x1).rdata = s.rdata := (keep_setTrig (s := s)).rdata
@[simp] theorem setTrig_out {s : State} {x0 x1} : (State.setTrig s x0 x1).out = s.out := (keep_setTrig (s := s)).out
@[simp] theorem setTrig_free {s : State} {x0 x1} : (State.setTrig s x0 x1).free = s.free := (keep_setTrig (s := s)).free
@[simp] theorem setTrig_ms {s : State} {x0 x1} : (State.setTrig s x0 x1).ms = s.ms := (keep_setTrig (s := s)).ms
@[simp] theorem setTrig_win {s : State} {x0 x1} : (State.setTrig s x0 x1).win = s.win := (keep_setTrig (s := s)).win
@[simp] theorem setTrig_host {s : State} {x0 x1} : (State.setTrig s x0 x1).host = s.host := (keep_setTrig (s := s)).host
@[simp] theorem setTrig_flt {s : State} {x0 x1} : (State.setTrig s x0 x1).flt = s.flt := (keep_setTrig (s := s)).flt
@[simp] theorem setTrig_log {s : State} {x0 x1} : (State.setTrig s x0 x1).log = s.log := (keep_setTrig (s := s)).log
@[simp] theorem setTrig_sec {s : State} {x0 x1} : (State.setTrig s x0 x1).sec = s.sec := (keep_setTrig (s := s)).sec
@[simp] theorem setTrig_flash {s : State} {x0 x1} : (State.setTrig s x0 x1).flash = s.flash := (keep_setTrig (s := s)).flash
@[simp] theorem setTrig_upd {s : State} {x0 x1} : (State.setTrig s x0 x1).upd = s.upd := (keep_setTrig (s := s)).upd
@[simp] theorem setTrig_clusters {s : State} {x0 x1} : (State.setTrig s x0 x1).clusters = s.clusters := (keep_setTrig (s := s)).clusters
@[simp] theorem setTrig_scn {s : State} {x0 x1} : (State.setTrig s x0 x1).scn = s.scn := (keep_setTrig (s := s)).scn
@[simp] theorem setTrig_pair {s : State} {x0 x1} : (State.setTrig s x0 x1).pair = s.pair := (keep_setTrig (s := s)).pair
@[simp] theorem setTrig_ports {s : State} {x0 x1} : (State.setTrig s x0 x1).ports = s.ports := (keep_setTrig (s := s)).ports
@[simp] theorem setTrig_sl {s : State} {x0 x1} : (State.setTrig s x0 x1).sl = s.sl := (keep_setTrig (s := s)).sl
@[simp] theorem setTrig_net {s : State} {x0 x1} : (State.setTrig s x0 x1).net = s.net := (keep_setTrig (s := s)).net
@[simp] theorem setTrig_clk {s : State} {x0 x1} : (State.setTrig s x0 x1).clk = s.clk := (keep_setTrig (s := s)).clk
@[simp] theorem setTrig_en {s : State} {x0 x1} : (State.setTrig s x0 x1).en = s.en := (keep_setTrig (s := s)).en

/-! setInputBit -/
@[simp] theorem setInputBit_pending {s : State} {x0 x1 x2} : (State.setInputBit s x0 x1 x2).pending = s.pending := (keep_setInputBit (s := s)).pending
@[simp] theorem setInputBit_lat {s : State} {x0 x1 x2} : (State.setInputBit s x0 x1 x2).lat = s.lat := (keep_setInputBit (s := s)).lat
@[simp] theorem setInputBit_snaps {s : State} {x0 x1 x2} : (State.setInputBit s x0 x1 x2).snaps = s.snaps := (keep_setInputBit (s := s)).snaps
@[simp] theorem setInputBit_caps {s : State} {x0 x1 x2} : (State.setInputBit s x0 x1 x2).caps = s.caps := (keep_setInputBit (s := s)).caps
@[simp] theorem setInputBit_areas {s : State} {x0 x1 x2} : (State.setInputBit s x0 x1 x2).areas = s.areas := (keep_setInputBit (s := s)).areas
@[simp] theorem setInputBit_rdata {s : State} {x0 x1 x2} : (State.setInputBit s x0 x1 x2).rdata = s.rdata := (keep_setInputBit (s := s)).rdata
@[simp] theorem setInputBit_out {s : State} {x0 x1 x2} : (State.setInputBit s x0 x1 x2).out = s.out := (keep_setInputBit (s := s)).out
@[simp] theorem setInputBit_free {s : State} {x0 x1 x2} : (State.setInputBit s x0 x1 x2).free = s.free := (keep_setInputBit (s := s)).free
@[simp] theorem setInputBit_ms {s : State} {x0 x1 x2} : (State.setInputBit s x0 x1 x2).ms = s.ms := (keep_setInputBit (s := s)).ms
@[simp] theorem setInputBit_win {s : State} {x0 x1 x2} : (State.setInputBit s x0 x1 x2).win = s.win := (keep_setInputBit (s := s)).win
@[simp] theorem setInputBit_host {s : State} {x0 x1 x2} : (State.setInputBit s x0 x1 x2).host = s.host := (keep_setInputBit (s := s)).host
@[simp] theorem setInputBit_flt {s : State} {x0 x1 x2} : (State.setInputBit s x0 x1 x2).flt = s.flt := (keep_setInputBit (s := s)).flt
@[simp] theorem setInputBit_log {s : State} {x0 x1 x2} : (State.setInputBit s x0 x1 x2).log = s.log := (keep_setInputBit (s := s)).log
@[simp] theorem setInputBit_sec {s : State} {x0 x1 x2} : (State.setInputBit s x0 x1 x2).sec = s.sec := (keep_setInputBit (s := s)).sec
@[simp] theorem setInputBit_flash {s : State} {x0 x1 x2} : (State.setInputBit s x0 x1 x2).flash = s.flash := (keep_setInputBit (s := s)).flash
@[simp] theorem setInputBit_upd {s : State} {x0 x1 x2} : (State.setInputBit s x0 x1 x2).upd = s.upd := (keep_setInputBit (s := s)).upd
@[simp] theorem setInputBit_clusters {s : State} {x0 x1 x2} : (State.setInputBit s x0 x1 x2).clusters = s.clusters := (keep_setInputBit (s := s)).clusters
@[simp] theorem setInputBit_eng {s : State} {x0 x1 x2} : (State.setInputBit s x0 x1 x2).eng = s.eng := (keep_setInputBit (s := s)).eng
@[simp] theorem setInputBit_scn {s : State} {x0 x1 x2} : (State.setInputBit s x0 x1 x2).scn = s.scn := (keep_setInputBit (s := s)).scn
@[simp] theorem setInputBit_pair {s : State} {x0 x1 x2} : (State.setInputBit s x0 x1 x2).pair = s.pair := (keep_setInputBit (s := s)).pair
@[simp] theorem setInputBit_ports {s : State} {x0 x1 x2} : (State.setInputBit s x0 x1 x2).ports = s.ports := (keep_setInputBit (s := s)).ports
@[simp] theorem setInputBit_sl {s : State} {x0 x1 x2} : (State.setInputBit s x0 x1 x2).sl = s.sl := (keep_setInputBit (s := s)).sl
@[simp] theorem setInputBit_net {s : State} {x0 x1 x2} : (State.setInputBit s x0 x1 x2).net = s.net := (keep_setInputBit (s := s)).net
@[simp] theorem setInputBit_clk {s : State} {x0 x1 x2} : (State.setInputBit s x0 x1 x2).clk = s.clk := (keep_setInputBit (s := s)).clk
@[simp] theorem setInputBit_en {s : State} {x0 x1 x2} : (State.setInputBit s x0 x1 x2).en = s.en := (keep_setInputBit (s := s)).en

/-! setLane -/
@[simp] theorem setLane_pending {s : State} {x0 x1} : (State.setLane s x0 x1).pending = s.pending := (keep_setLane (s := s)).pending
@[simp] theorem setLane_regs {s : State} {x0 x1} : (State.setLane s x0 x1).regs = s.regs := (keep_setLane (s := s)).regs
@[simp] theorem setLane_lat {s : State} {x0 x1} : (State.setLane s x0 x1).lat = s.lat := (keep_setLane (s := s)).lat
@[simp] theorem setLane_snaps {s : State} {x0 x1} : (State.setLane s x0 x1).snaps = s.snaps := (keep_setLane (s := s)).snaps
@[simp] theorem setLane_caps {s : State} {x0 x1} : (State.setLane s x0 x1).caps = s.caps := (keep_setLane (s := s)).caps
@[simp] theorem setLane_areas {s : State} {x0 x1} : (State.setLane s x0 x1).areas = s.areas := (keep_setLane (s := s)).areas
@[simp] theorem setLane_rdata {s : State} {x0 x1} : (State.setLane s x0 x1).rdata = s.rdata := (keep_setLane (s := s)).rdata
@[simp] theorem setLane_out {s : State} {x0 x1} : (State.setLane s x0 x1).out = s.out := (keep_setLane (s := s)).out
@[simp] theorem setLane_free {s : State} {x0 x1} : (State.setLane s x0 x1).free = s.free := (keep_setLane (s := s)).free
@[simp] theorem setLane_ms {s : State} {x0 x1} : (State.setLane s x0 x1).ms = s.ms := (keep_setLane (s := s)).ms
@[simp] theorem setLane_win {s : State} {x0 x1} : (State.setLane s x0 x1).win = s.win := (keep_setLane (s := s)).win
@[simp] theorem setLane_host {s : State} {x0 x1} : (State.setLane s x0 x1).host = s.host := (keep_setLane (s := s)).host
@[simp] theorem setLane_flt {s : State} {x0 x1} : (State.setLane s x0 x1).flt = s.flt := (keep_setLane (s := s)).flt
@[simp] theorem setLane_log {s : State} {x0 x1} : (State.setLane s x0 x1).log = s.log := (keep_setLane (s := s)).log
@[simp] theorem setLane_sec {s : State} {x0 x1} : (State.setLane s x0 x1).sec = s.sec := (keep_setLane (s := s)).sec
@[simp] theorem setLane_flash {s : State} {x0 x1} : (State.setLane s x0 x1).flash = s.flash := (keep_setLane (s := s)).flash
@[simp] theorem setLane_upd {s : State} {x0 x1} : (State.setLane s x0 x1).upd = s.upd := (keep_setLane (s := s)).upd
@[simp] theorem setLane_clusters {s : State} {x0 x1} : (State.setLane s x0 x1).clusters = s.clusters := (keep_setLane (s := s)).clusters
@[simp] theorem setLane_eng {s : State} {x0 x1} : (State.setLane s x0 x1).eng = s.eng := (keep_setLane (s := s)).eng
@[simp] theorem setLane_scn {s : State} {x0 x1} : (State.setLane s x0 x1).scn = s.scn := (keep_setLane (s := s)).scn
@[simp] theorem setLane_pair {s : State} {x0 x1} : (State.setLane s x0 x1).pair = s.pair := (keep_setLane (s := s)).pair
@[simp] theorem setLane_ports {s : State} {x0 x1} : (State.setLane s x0 x1).ports = s.ports := (keep_setLane (s := s)).ports
@[simp] theorem setLane_sl {s : State} {x0 x1} : (State.setLane s x0 x1).sl = s.sl := (keep_setLane (s := s)).sl
@[simp] theorem setLane_clk {s : State} {x0 x1} : (State.setLane s x0 x1).clk = s.clk := (keep_setLane (s := s)).clk
@[simp] theorem setLane_en {s : State} {x0 x1} : (State.setLane s x0 x1).en = s.en := (keep_setLane (s := s)).en

/-! setFlt -/
@[simp] theorem setFlt_pending {s : State} {x0} : (State.setFlt s x0).pending = s.pending := (keep_setFlt (s := s)).pending
@[simp] theorem setFlt_regs {s : State} {x0} : (State.setFlt s x0).regs = s.regs := (keep_setFlt (s := s)).regs
@[simp] theorem setFlt_lat {s : State} {x0} : (State.setFlt s x0).lat = s.lat := (keep_setFlt (s := s)).lat
@[simp] theorem setFlt_snaps {s : State} {x0} : (State.setFlt s x0).snaps = s.snaps := (keep_setFlt (s := s)).snaps
@[simp] theorem setFlt_caps {s : State} {x0} : (State.setFlt s x0).caps = s.caps := (keep_setFlt (s := s)).caps
@[simp] theorem setFlt_areas {s : State} {x0} : (State.setFlt s x0).areas = s.areas := (keep_setFlt (s := s)).areas
@[simp] theorem setFlt_rdata {s : State} {x0} : (State.setFlt s x0).rdata = s.rdata := (keep_setFlt (s := s)).rdata
@[simp] theorem setFlt_out {s : State} {x0} : (State.setFlt s x0).out = s.out := (keep_setFlt (s := s)).out
@[simp] theorem setFlt_free {s : State} {x0} : (State.setFlt s x0).free = s.free := (keep_setFlt (s := s)).free
@[simp] theorem setFlt_ms {s : State} {x0} : (State.setFlt s x0).ms = s.ms := (keep_setFlt (s := s)).ms
@[simp] theorem setFlt_win {s : State} {x0} : (State.setFlt s x0).win = s.win := (keep_setFlt (s := s)).win
@[simp] theorem setFlt_host {s : State} {x0} : (State.setFlt s x0).host = s.host := (keep_setFlt (s := s)).host
@[simp] theorem setFlt_log {s : State} {x0} : (State.setFlt s x0).log = s.log := (keep_setFlt (s := s)).log
@[simp] theorem setFlt_sec {s : State} {x0} : (State.setFlt s x0).sec = s.sec := (keep_setFlt (s := s)).sec
@[simp] theorem setFlt_flash {s : State} {x0} : (State.setFlt s x0).flash = s.flash := (keep_setFlt (s := s)).flash
@[simp] theorem setFlt_upd {s : State} {x0} : (State.setFlt s x0).upd = s.upd := (keep_setFlt (s := s)).upd
@[simp] theorem setFlt_clusters {s : State} {x0} : (State.setFlt s x0).clusters = s.clusters := (keep_setFlt (s := s)).clusters
@[simp] theorem setFlt_eng {s : State} {x0} : (State.setFlt s x0).eng = s.eng := (keep_setFlt (s := s)).eng
@[simp] theorem setFlt_scn {s : State} {x0} : (State.setFlt s x0).scn = s.scn := (keep_setFlt (s := s)).scn
@[simp] theorem setFlt_pair {s : State} {x0} : (State.setFlt s x0).pair = s.pair := (keep_setFlt (s := s)).pair
@[simp] theorem setFlt_ports {s : State} {x0} : (State.setFlt s x0).ports = s.ports := (keep_setFlt (s := s)).ports
@[simp] theorem setFlt_sl {s : State} {x0} : (State.setFlt s x0).sl = s.sl := (keep_setFlt (s := s)).sl
@[simp] theorem setFlt_net {s : State} {x0} : (State.setFlt s x0).net = s.net := (keep_setFlt (s := s)).net
@[simp] theorem setFlt_clk {s : State} {x0} : (State.setFlt s x0).clk = s.clk := (keep_setFlt (s := s)).clk
@[simp] theorem setFlt_en {s : State} {x0} : (State.setFlt s x0).en = s.en := (keep_setFlt (s := s)).en
@[simp] theorem setFlt_flt {s : State} {x0} : (State.setFlt s x0).flt = x0 := rfl

/-! setSec -/
@[simp] theorem setSec_pending {s : State} {x0} : (State.setSec s x0).pending = s.pending := (keep_setSec (s := s)).pending
@[simp] theorem setSec_regs {s : State} {x0} : (State.setSec s x0).regs = s.regs := (keep_setSec (s := s)).regs
@[simp] theorem setSec_lat {s : State} {x0} : (State.setSec s x0).lat = s.lat := (keep_setSec (s := s)).lat
@[simp] theorem setSec_snaps {s : State} {x0} : (State.setSec s x0).snaps = s.snaps := (keep_setSec (s := s)).snaps
@[simp] theorem setSec_caps {s : State} {x0} : (State.setSec s x0).caps = s.caps := (keep_setSec (s := s)).caps
@[simp] theorem setSec_areas {s : State} {x0} : (State.setSec s x0).areas = s.areas := (keep_setSec (s := s)).areas
@[simp] theorem setSec_rdata {s : State} {x0} : (State.setSec s x0).rdata = s.rdata := (keep_setSec (s := s)).rdata
@[simp] theorem setSec_out {s : State} {x0} : (State.setSec s x0).out = s.out := (keep_setSec (s := s)).out
@[simp] theorem setSec_free {s : State} {x0} : (State.setSec s x0).free = s.free := (keep_setSec (s := s)).free
@[simp] theorem setSec_ms {s : State} {x0} : (State.setSec s x0).ms = s.ms := (keep_setSec (s := s)).ms
@[simp] theorem setSec_win {s : State} {x0} : (State.setSec s x0).win = s.win := (keep_setSec (s := s)).win
@[simp] theorem setSec_host {s : State} {x0} : (State.setSec s x0).host = s.host := (keep_setSec (s := s)).host
@[simp] theorem setSec_flt {s : State} {x0} : (State.setSec s x0).flt = s.flt := (keep_setSec (s := s)).flt
@[simp] theorem setSec_log {s : State} {x0} : (State.setSec s x0).log = s.log := (keep_setSec (s := s)).log
@[simp] theorem setSec_flash {s : State} {x0} : (State.setSec s x0).flash = s.flash := (keep_setSec (s := s)).flash
@[simp] theorem setSec_upd {s : State} {x0} : (State.setSec s x0).upd = s.upd := (keep_setSec (s := s)).upd
@[simp] theorem setSec_clusters {s : State} {x0} : (State.setSec s x0).clusters = s.clusters := (keep_setSec (s := s)).clusters
@[simp] theorem setSec_eng {s : State} {x0} : (State.setSec s x0).eng = s.eng := (keep_setSec (s := s)).eng
@[simp] theorem setSec_scn {s : State} {x0} : (State.setSec s x0).scn = s.scn := (keep_setSec (s := s)).scn
@[simp] theorem setSec_pair {s : State} {x0} : (State.setSec s x0).pair = s.pair := (keep_setSec (s := s)).pair
@[simp] theorem setSec_ports {s : State} {x0} : (State.setSec s x0).ports = s.ports := (keep_setSec (s := s)).ports
@[simp] theorem setSec_sl {s : State} {x0} : (State.setSec s x0).sl = s.sl := (keep_setSec (s := s)).sl
@[simp] theorem setSec_net {s : State} {x0} : (State.setSec s x0).net = s.net := (keep_setSec (s := s)).net
@[simp] theorem setSec_clk {s : State} {x0} : (State.setSec s x0).clk = s.clk := (keep_setSec (s := s)).clk
@[simp] theorem setSec_en {s : State} {x0} : (State.setSec s x0).en = s.en := (keep_setSec (s := s)).en
@[simp] theorem setSec_sec {s : State} {x0} : (State.setSec s x0).sec = x0 := rfl

/-! setFlash -/
@[simp] theorem setFlash_pending {s : State} {x0} : (State.setFlash s x0).pending = s.pending := (keep_setFlash (s := s)).pending
@[simp] theorem setFlash_regs {s : State} {x0} : (State.setFlash s x0).regs = s.regs := (keep_setFlash (s := s)).regs
@[simp] theorem setFlash_lat {s : State} {x0} : (State.setFlash s x0).lat = s.lat := (keep_setFlash (s := s)).lat
@[simp] theorem setFlash_snaps {s : State} {x0} : (State.setFlash s x0).snaps = s.snaps := (keep_setFlash (s := s)).snaps
@[simp] theorem setFlash_caps {s : State} {x0} : (State.setFlash s x0).caps = s.caps := (keep_setFlash (s := s)).caps
@[simp] theorem setFlash_areas {s : State} {x0} : (State.setFlash s x0).areas = s.areas := (keep_setFlash (s := s)).areas
@[simp] theorem setFlash_rdata {s : State} {x0} : (State.setFlash s x0).rdata = s.rdata := (keep_setFlash (s := s)).rdata
@[simp] theorem setFlash_out {s : State} {x0} : (State.setFlash s x0).out = s.out := (keep_setFlash (s := s)).out
@[simp] theorem setFlash_free {s : State} {x0} : (State.setFlash s x0).free = s.free := (keep_setFlash (s := s)).free
@[simp] theorem setFlash_ms {s : State} {x0} : (State.setFlash s x0).ms = s.ms := (keep_setFlash (s := s)).ms
@[simp] theorem setFlash_win {s : State} {x0} : (State.setFlash s x0).win = s.win := (keep_setFlash (s := s)).win
@[simp] theorem setFlash_host {s : State} {x0} : (State.setFlash s x0).host = s.host := (keep_setFlash (s := s)).host
@[simp] theorem setFlash_flt {s : State} {x0} : (State.setFlash s x0).flt = s.flt := (keep_setFlash (s := s)).flt
@[simp] theorem setFlash_log {s : State} {x0} : (State.setFlash s x0).log = s.log := (keep_setFlash (s := s)).log
@[simp] theorem setFlash_sec {s : State} {x0} : (State.setFlash s x0).sec = s.sec := (keep_setFlash (s := s)).sec
@[simp] theorem setFlash_upd {s : State} {x0} : (State.setFlash s x0).upd = s.upd := (keep_setFlash (s := s)).upd
@[simp] theorem setFlash_clusters {s : State} {x0} : (State.setFlash s x0).clusters = s.clusters := (keep_setFlash (s := s)).clusters
@[simp] theorem setFlash_eng {s : State} {x0} : (State.setFlash s x0).eng = s.eng := (keep_setFlash (s := s)).eng
@[simp] theorem setFlash_scn {s : State} {x0} : (State.setFlash s x0).scn = s.scn := (keep_setFlash (s := s)).scn
@[simp] theorem setFlash_pair {s : State} {x0} : (State.setFlash s x0).pair = s.pair := (keep_setFlash (s := s)).pair
@[simp] theorem setFlash_ports {s : State} {x0} : (State.setFlash s x0).ports = s.ports := (keep_setFlash (s := s)).ports
@[simp] theorem setFlash_sl {s : State} {x0} : (State.setFlash s x0).sl = s.sl := (keep_setFlash (s := s)).sl
@[simp] theorem setFlash_net {s : State} {x0} : (State.setFlash s x0).net = s.net := (keep_setFlash (s := s)).net
@[simp] theorem setFlash_clk {s : State} {x0} : (State.setFlash s x0).clk = s.clk := (keep_setFlash (s := s)).clk
@[simp] theorem setFlash_en {s : State} {x0} : (State.setFlash s x0).en = s.en := (keep_setFlash (s := s)).en
@[simp] theorem setFlash_flash {s : State} {x0} : (State.setFlash s x0).flash = x0 := rfl

/-! setEn -/
@[simp] theorem setEn_pending {s : State} {x0} : (State.setEn s x0).pending = s.pending := (keep_setEn (s := s)).pending
@[simp] theorem setEn_regs {s : State} {x0} : (State.setEn s x0).regs = s.regs := (keep_setEn (s := s)).regs
@[simp] theorem setEn_lat {s : State} {x0} : (State.setEn s x0).lat = s.lat := (keep_setEn (s := s)).lat
@[simp] theorem setEn_snaps {s : State} {x0} : (State.setEn s x0).snaps = s.snaps := (keep_setEn (s := s)).snaps
@[simp] theorem setEn_caps {s : State} {x0} : (State.setEn s x0).caps = s.caps := (keep_setEn (s := s)).caps
@[simp] theorem setEn_areas {s : State} {x0} : (State.setEn s x0).areas = s.areas := (keep_setEn (s := s)).areas
@[simp] theorem setEn_rdata {s : State} {x0} : (State.setEn s x0).rdata = s.rdata := (keep_setEn (s := s)).rdata
@[simp] theorem setEn_out {s : State} {x0} : (State.setEn s x0).out = s.out := (keep_setEn (s := s)).out
@[simp] theorem setEn_free {s : State} {x0} : (State.setEn s x0).free = s.free := (keep_setEn (s := s)).free
@[simp] theorem setEn_ms {s : State} {x0} : (State.setEn s x0).ms = s.ms := (keep_setEn (s := s)).ms
@[simp] theorem setEn_win {s : State} {x0} : (State.setEn s x0).win = s.win := (keep_setEn (s := s)).win
@[simp] theorem setEn_host {s : State} {x0} : (State.setEn s x0).host = s.host := (keep_setEn (s := s)).host
@[simp] theorem setEn_flt {s : State} {x0} : (State.setEn s x0).flt = s.flt := (keep_setEn (s := s)).flt
@[simp] theorem setEn_log {s : State} {x0} : (State.setEn s x0).log = s.log := (keep_setEn (s := s)).log
@[simp] theorem setEn_sec {s : State} {x0} : (State.setEn s x0).sec = s.sec := (keep_setEn (s := s)).sec
@[simp] theorem setEn_flash {s : State} {x0} : (State.setEn s x0).flash = s.flash := (keep_setEn (s := s)).flash
@[simp] theorem setEn_upd {s : State} {x0} : (State.setEn s x0).upd = s.upd := (keep_setEn (s := s)).upd
@[simp] theorem setEn_clusters {s : State} {x0} : (State.setEn s x0).clusters = s.clusters := (keep_setEn (s := s)).clusters
@[simp] theorem setEn_eng {s : State} {x0} : (State.setEn s x0).eng = s.eng := (keep_setEn (s := s)).eng
@[simp] theorem setEn_scn {s : State} {x0} : (State.setEn s x0).scn = s.scn := (keep_setEn (s := s)).scn
@[simp] theorem setEn_pair {s : State} {x0} : (State.setEn s x0).pair = s.pair := (keep_setEn (s := s)).pair
@[simp] theorem setEn_ports {s : State} {x0} : (State.setEn s x0).ports = s.ports := (keep_setEn (s := s)).ports
@[simp] theorem setEn_sl {s : State} {x0} : (State.setEn s x0).sl = s.sl := (keep_setEn (s := s)).sl
@[simp] theorem setEn_net {s : State} {x0} : (State.setEn s x0).net = s.net := (keep_setEn (s := s)).net
@[simp] theorem setEn_clk {s : State} {x0} : (State.setEn s x0).clk = s.clk := (keep_setEn (s := s)).clk
@[simp] theorem setEn_en {s : State} {x0} : (State.setEn s x0).en = x0 := rfl

/-! setSheets -/
@[simp] theorem setSheets_pending {s : State} {x0} : (State.setSheets s x0).pending = s.pending := (keep_setSheets (s := s)).pending
@[simp] theorem setSheets_regs {s : State} {x0} : (State.setSheets s x0).regs = s.regs := (keep_setSheets (s := s)).regs
@[simp] theorem setSheets_lat {s : State} {x0} : (State.setSheets s x0).lat = s.lat := (keep_setSheets (s := s)).lat
@[simp] theorem setSheets_snaps {s : State} {x0} : (State.setSheets s x0).snaps = s.snaps := (keep_setSheets (s := s)).snaps
@[simp] theorem setSheets_caps {s : State} {x0} : (State.setSheets s x0).caps = s.caps := (keep_setSheets (s := s)).caps
@[simp] theorem setSheets_areas {s : State} {x0} : (State.setSheets s x0).areas = s.areas := (keep_setSheets (s := s)).areas
@[simp] theorem setSheets_rdata {s : State} {x0} : (State.setSheets s x0).rdata = s.rdata := (keep_setSheets (s := s)).rdata
@[simp] theorem setSheets_out {s : State} {x0} : (State.setSheets s x0).out = s.out := (keep_setSheets (s := s)).out
@[simp] theorem setSheets_free {s : State} {x0} : (State.setSheets s x0).free = s.free := (keep_setSheets (s := s)).free
@[simp] theorem setSheets_ms {s : State} {x0} : (State.setSheets s x0).ms = s.ms := (keep_setSheets (s := s)).ms
@[simp] theorem setSheets_win {s : State} {x0} : (State.setSheets s x0).win = s.win := (keep_setSheets (s := s)).win
@[simp] theorem setSheets_flt {s : State} {x0} : (State.setSheets s x0).flt = s.flt := (keep_setSheets (s := s)).flt
@[simp] theorem setSheets_log {s : State} {x0} : (State.setSheets s x0).log = s.log := (keep_setSheets (s := s)).log
@[simp] theorem setSheets_sec {s : State} {x0} : (State.setSheets s x0).sec = s.sec := (keep_setSheets (s := s)).sec
@[simp] theorem setSheets_flash {s : State} {x0} : (State.setSheets s x0).flash = s.flash := (keep_setSheets (s := s)).flash
@[simp] theorem setSheets_upd {s : State} {x0} : (State.setSheets s x0).upd = s.upd := (keep_setSheets (s := s)).upd
@[simp] theorem setSheets_clusters {s : State} {x0} : (State.setSheets s x0).clusters = s.clusters := (keep_setSheets (s := s)).clusters
@[simp] theorem setSheets_eng {s : State} {x0} : (State.setSheets s x0).eng = s.eng := (keep_setSheets (s := s)).eng
@[simp] theorem setSheets_scn {s : State} {x0} : (State.setSheets s x0).scn = s.scn := (keep_setSheets (s := s)).scn
@[simp] theorem setSheets_pair {s : State} {x0} : (State.setSheets s x0).pair = s.pair := (keep_setSheets (s := s)).pair
@[simp] theorem setSheets_ports {s : State} {x0} : (State.setSheets s x0).ports = s.ports := (keep_setSheets (s := s)).ports
@[simp] theorem setSheets_sl {s : State} {x0} : (State.setSheets s x0).sl = s.sl := (keep_setSheets (s := s)).sl
@[simp] theorem setSheets_net {s : State} {x0} : (State.setSheets s x0).net = s.net := (keep_setSheets (s := s)).net
@[simp] theorem setSheets_clk {s : State} {x0} : (State.setSheets s x0).clk = s.clk := (keep_setSheets (s := s)).clk
@[simp] theorem setSheets_en {s : State} {x0} : (State.setSheets s x0).en = s.en := (keep_setSheets (s := s)).en

end Sys2Proof.Machine
end

