-- ==== Sys2Proof/Laws/Regs.lean ====
section
/-!
SUPPORT. Registers and their fields: what a read after a write gives, for every field that lies in its word, and which registers the shared
operations touch.
-/
set_option Elab.async false
set_option linter.all false
namespace Sys2Proof.Machine

/-- A field lies in its word. -/
def Fld.ok (f : Fld) : Bool := decide (f.lo ≤ f.hi) && decide (f.hi < 32)

/-- Two fields share no bit. -/
def Fld.apart (f g : Fld) : Bool := decide (f.addr ≠ g.addr) || decide (f.hi < g.lo) || decide (g.hi < f.lo)

theorem State.canonical_regs {s : State} (h : s.canonical = true) : Sparse.wf RegDir.reset s.regs = true := by
  simp only [State.canonical, Bool.and_eq_true] at h
  exact h.1.1

theorem State.canonical_lat {s : State} (h : s.canonical = true) : Sparse.wf RegDir.reset s.lat = true := by
  simp only [State.canonical, Bool.and_eq_true] at h
  exact h.1.2

theorem State.canonical_win {s : State} (h : s.canonical = true) : Sparse.wf winDefault s.win = true := by
  simp only [State.canonical, Bool.and_eq_true] at h
  exact h.2

/-- A register reads as the word last written to it. -/
theorem reg_setReg_same {s : State} {a : Nat} {w : Word} (h : s.canonical = true) : (s.setReg a w).reg a = w :=
  Sparse.get_set_same (State.canonical_regs h)

/-- The others read as before. -/
theorem reg_setReg_ne {s : State} {a b : Nat} {w : Word} (h : b ≠ a) : (s.setReg a w).reg b = s.reg b := Sparse.get_set_ne h

theorem reg_congr {s t : State} (h : t.regs = s.regs) (a : Nat) : t.reg a = s.reg a := by rw [State.reg, State.reg, h]

theorem rd_congr {s t : State} (h : t.regs = s.regs) (f : Fld) : t.rd f = s.rd f := by rw [State.rd, State.rd, reg_congr h]

theorem reg_ite {c : Prop} [Decidable c] {x y : State} {a : Nat} {w : Word} (h1 : x.reg a = w) (h2 : y.reg a = w) :
    (if c then x else y).reg a = w := by
  split <;> assumption

/-- A state put together reads its registers from the component `regs`. -/
theorem reg_mk {x0 x1 x2 x3 x4 x5 x6 x7 x8 x9 x10 x11 x12 x13 x14 x15 x16 x17 x18 x19 x20 x21 x22 x23 x24 x25} {a : Nat} : (State.mk x0 x1 x2 x3 x4 x5 x6 x7 x8 x9 x10 x11 x12 x13 x14 x15 x16 x17 x18 x19 x20 x21 x22 x23 x24 x25).reg a = Sparse.get (RegDir.reset a) x1 a := rfl

theorem mask_bit {f : Fld} (hf : f.ok = true) (i : Nat) :
    f.mask.getLsbD i = (decide (f.lo ≤ i) && decide (i ≤ f.hi)) := by
  simp only [Fld.ok, Bool.and_eq_true, decide_eq_true_eq] at hf
  rw [Fld.mask, BitVec.getLsbD_shiftLeft, BitVec.getLsbD_ofNat, Nat.testBit_two_pow_sub_one]
  rw [Bool.eq_iff_iff]
  simp only [Bool.and_eq_true, decide_eq_true_eq, Bool.not_eq_true', decide_eq_false_iff_not]
  unfold Fld.width
  omega

/-- The bits of a word with a field replaced. -/
theorem put_bit {f : Fld} (hf : f.ok = true) (w : Word) (v i : Nat) (hi : i < 32) :
    (f.put w v).getLsbD i = if f.lo ≤ i ∧ i ≤ f.hi then v.testBit (i - f.lo) else w.getLsbD i := by
  have hf' := hf
  simp only [Fld.ok, Bool.and_eq_true, decide_eq_true_eq] at hf'
  rw [Fld.put, BitVec.getLsbD_or, BitVec.getLsbD_and, BitVec.getLsbD_and, BitVec.getLsbD_not, mask_bit hf, BitVec.getLsbD_shiftLeft,
    BitVec.getLsbD_ofNat]
  by_cases h1 : f.lo ≤ i <;> by_cases h2 : i ≤ f.hi <;> simp [h1, h2, hi]
  · have a : i - f.lo < 32 := by omega
    have b : ¬ i < f.lo := by omega
    simp [a, b]

theorem bitsOf_bit (n hi lo j : Nat) : (bitsOf n hi lo).testBit j = (decide (j < hi + 1 - lo) && n.testBit (lo + j)) := by
  rw [bitsOf, Nat.testBit_mod_two_pow, Nat.testBit_div_two_pow, Nat.add_comm j lo]

/-- A field of a word reads as the value put into it, its low bits where the value is too wide. -/
theorem bits_put_same {f : Fld} (hf : f.ok = true) (w : Word) (v : Nat) :
    bitsOf (f.put w v).toNat f.hi f.lo = v % 2 ^ f.width := by
  have hf' := hf
  simp only [Fld.ok, Bool.and_eq_true, decide_eq_true_eq] at hf'
  refine Nat.eq_of_testBit_eq fun j => ?_
  rw [bitsOf_bit, Nat.testBit_mod_two_pow, Fld.width]
  by_cases hj : j < f.hi + 1 - f.lo
  · have hb := put_bit hf w v (f.lo + j) (by omega)
    rw [BitVec.getLsbD] at hb
    rw [hb, if_pos (by omega), Nat.add_sub_cancel_left]
  · simp [hj]

/-- A field apart from it reads as before. -/
theorem bits_put_apart {f : Fld} {hi lo : Nat} (hf : f.ok = true) (w : Word) (v : Nat) (h : f.hi < lo ∨ hi < f.lo) (hh : hi < 32) :
    bitsOf (f.put w v).toNat hi lo = bitsOf w.toNat hi lo := by
  refine Nat.eq_of_testBit_eq fun j => ?_
  rw [bitsOf_bit, bitsOf_bit]
  by_cases hj : j < hi + 1 - lo
  · have hb := put_bit hf w v (lo + j) (by omega)
    rw [BitVec.getLsbD, if_neg (by omega)] at hb
    rw [hb, BitVec.getLsbD]
  · simp [hj]

/-- A field reads as the value written to it. -/
theorem rd_wr_same {s : State} {f : Fld} {v : Nat} (h : s.canonical = true) (hf : f.ok = true) : (s.wr f v).rd f = v % 2 ^ f.width := by
  rw [State.rd, State.wr, reg_setReg_same h, bits_put_same hf]

/-- A field reads as before after a write to one apart from it. -/
theorem rd_wr_apart {s : State} {f g : Fld} {v : Nat} (h : s.canonical = true) (hf : f.ok = true) (hg : g.ok = true)
    (ha : g.apart f = true) : (s.wr f v).rd g = s.rd g := by
  by_cases hadr : g.addr = f.addr
  · simp only [Fld.apart, hadr, ne_eq, not_true_eq_false, decide_false, Bool.false_or, Bool.or_eq_true, decide_eq_true_eq] at ha
    simp only [Fld.ok, Bool.and_eq_true, decide_eq_true_eq] at hg
    rw [State.rd, State.wr, hadr, reg_setReg_same h, bits_put_apart hf _ _ (by omega) hg.2, State.rd, hadr]
  · rw [State.rd, State.wr, reg_setReg_ne hadr, State.rd]

/-- A field of another register reads as before. -/
theorem rd_wr_ne {s : State} {f g : Fld} {v : Nat} (ha : g.addr ≠ f.addr) : (s.wr f v).rd g = s.rd g := by
  rw [State.rd, State.wr, reg_setReg_ne ha, State.rd]

theorem reg_bump_ne {s : State} {f : Fld} {a : Nat} (ha : a ≠ f.addr) : (s.bump f).reg a = s.reg a := by
  unfold State.bump State.wr
  exact reg_setReg_ne ha

theorem reg_wr_ne {s : State} {f : Fld} {v a : Nat} (ha : a ≠ f.addr) : (s.wr f v).reg a = s.reg a := reg_setReg_ne ha

@[simp] theorem canonical_setReg {s : State} {a : Nat} {w : Word} (h : s.canonical = true) : (s.setReg a w).canonical = true := keep_setReg.canon h
@[simp] theorem canonical_wr {s : State} {f : Fld} {v : Nat} (h : s.canonical = true) : (s.wr f v).canonical = true := keep_wr.canon h

@[simp] theorem wrAll_nil {s : State} : s.wrAll [] = s := rfl
@[simp] theorem wrAll_cons {s : State} {p : Fld × Nat} {l : List (Fld × Nat)} : s.wrAll (p :: l) = (s.wr p.1 p.2).wrAll l := rfl

/-- Fields written in turn: a register that none of them names reads as before. -/
theorem reg_wrAll {s : State} {l : List (Fld × Nat)} {a : Nat} (h : ∀ p ∈ l, p.1.addr ≠ a) : (s.wrAll l).reg a = s.reg a := by
  induction l generalizing s with
  | nil => rfl
  | cons p l ih =>
    rw [wrAll_cons, ih (fun q hq => h q (List.mem_cons_of_mem _ hq)), reg_wr_ne (Ne.symm (h p List.mem_cons_self))]

/-- An update applied over a list leaves a register alone that it leaves alone each time. -/
theorem reg_each {α : Type} {s : State} {l : List α} {f : State → α → State} {a : Nat} (h : ∀ t x, x ∈ l → (f t x).reg a = t.reg a) :
    (s.each l f).reg a = s.reg a := by
  unfold State.each
  induction l generalizing s with
  | nil => rfl
  | cons x l ih =>
    rw [List.foldl_cons, ih (fun t y hy => h t y (List.mem_cons_of_mem _ hy)), h s x List.mem_cons_self]

/-! The registers of a fault source (R26): RAW, LATCH and EVT_COUNT of its page. -/

theorem reg_edge {s : State} {p n a : Nat} (h1 : a ≠ (F.FLT_LATCH.pg p).addr) (h2 : a ≠ (F.EVT_COUNT.pg p).addr) :
    (s.edge p n).reg a = s.reg a := by
  have e : ∀ v, ((s.wr (F.FLT_LATCH.pg p) v).bump (F.EVT_COUNT.pg p)).reg a = s.reg a := fun v => by
    rw [reg_bump_ne h2, reg_wr_ne h1]
  unfold State.edge
  dsimp only
  with_reducible apply reg_ite
  · with_reducible exact e _
  · rw [reg_mk]
    exact e _

theorem reg_source {s : State} {p n a : Nat} {v : Bool} (h0 : a ≠ (F.FLT_RAW.pg p).addr) (h1 : a ≠ (F.FLT_LATCH.pg p).addr)
    (h2 : a ≠ (F.EVT_COUNT.pg p).addr) : (s.source p n v).reg a = s.reg a := by
  unfold State.source
  extract_lets lv s1
  have e : s1.reg a = s.reg a := reg_wr_ne h0
  clear_value s1
  with_reducible apply reg_ite
  · rw [reg_edge h1 h2, e]
  · exact e

theorem reg_pulse {s : State} {p n a : Nat} (h0 : a ≠ (F.FLT_RAW.pg p).addr) (h1 : a ≠ (F.FLT_LATCH.pg p).addr)
    (h2 : a ≠ (F.EVT_COUNT.pg p).addr) : (s.pulse p n).reg a = s.reg a := by
  unfold State.pulse
  split
  · rfl
  · rw [reg_source h0 h1 h2, reg_source h0 h1 h2]

/-! Register frames. -/

namespace RB

theorem refl {s : State} {l : List Nat} : s.regsBut l s := fun _ _ => rfl
theorem trans {s t u : State} {l : List Nat} (h : s.regsBut l t) (h' : t.regsBut l u) : s.regsBut l u := fun a ha => (h' a ha).trans (h a ha)
theorem mono {s t : State} {l m : List Nat} (h : s.regsBut l t) (hl : ∀ a ∈ l, a ∈ m) : s.regsBut m t := fun a ha => h a fun x => ha (hl a x)
theorem setReg {s : State} {l : List Nat} {a : Nat} {w : Word} (h : a ∈ l) : s.regsBut l (s.setReg a w) :=
  fun b hb => reg_setReg_ne fun e => hb (e ▸ h)
theorem wr {s : State} {l : List Nat} {f : Fld} {v : Nat} (h : f.addr ∈ l) : s.regsBut l (s.wr f v) := setReg h
theorem wrb {s : State} {l : List Nat} {f : Fld} {v : Bool} (h : f.addr ∈ l) : s.regsBut l (s.wrb f v) := setReg h
theorem bump {s : State} {l : List Nat} {f : Fld} (h : f.addr ∈ l) : s.regsBut l (s.bump f) := setReg h
theorem bumpBy {s : State} {l : List Nat} {f : Fld} {n : Nat} (h : f.addr ∈ l) : s.regsBut l (s.bumpBy f n) := setReg h
theorem ite {s t u : State} {l : List Nat} {c : Prop} [Decidable c] (h : s.regsBut l t) (h' : s.regsBut l u) : s.regsBut l (if c then t else u) := by
  split <;> assumption
theorem bumpSat {s : State} {l : List Nat} {f : Fld} (h : f.addr ∈ l) : s.regsBut l (s.bumpSat f) := ite (wr h) refl
theorem wrAll {s : State} {l : List Nat} {x : List (Fld × Nat)} (h : ∀ p ∈ x, p.1.addr ∈ l) : s.regsBut l (s.wrAll x) :=
  fun a ha => reg_wrAll fun p hp e => ha (e ▸ h p hp)
theorem wr64 {s : State} {l : List Nat} {f g : Fld} {v : Nat} (h : f.addr ∈ l) (h' : g.addr ∈ l) : s.regsBut l (s.wr64 f g v) := trans (wr h) (wr h')
theorem same {s t : State} {l : List Nat} (h : t.regs = s.regs) : s.regsBut l t := fun a _ => reg_congr h a
theorem keep {k : Nat} {s t : State} {l : List Nat} (h : Keep k s t) (hk : k.testBit 1 = false := by decide) : s.regsBut l t := same (h.regs hk)
theorem source {s : State} {l : List Nat} {p n : Nat} {v : Bool} (h : ∀ a ∈ srcRegs p, a ∈ l) : s.regsBut l (s.source p n v) :=
  fun a ha => reg_source (fun e => ha (h a (by rw [e]; simp [srcRegs]))) (fun e => ha (h a (by rw [e]; simp [srcRegs])))
    (fun e => ha (h a (by rw [e]; simp [srcRegs])))
theorem pulse {s : State} {l : List Nat} {p n : Nat} (h : ∀ a ∈ srcRegs p, a ∈ l) : s.regsBut l (s.pulse p n) :=
  fun a ha => reg_pulse (fun e => ha (h a (by rw [e]; simp [srcRegs]))) (fun e => ha (h a (by rw [e]; simp [srcRegs])))
    (fun e => ha (h a (by rw [e]; simp [srcRegs])))
theorem each {α : Type} {s : State} {l : List Nat} {x : List α} {f : State → α → State} (h : ∀ t : State, ∀ y ∈ x, t.regsBut l (f t y)) : s.regsBut l (s.each x f) :=
  fun a ha => reg_each fun t y hy => h t y hy a ha
theorem rd {s t : State} {l : List Nat} {f : Fld} (h : s.regsBut l t) (hf : f.addr ∉ l) : t.rd f = s.rd f := by
  rw [State.rd, State.rd, h f.addr hf]
theorem on {s t : State} {l : List Nat} {f : Fld} (h : s.regsBut l t) (hf : f.addr ∉ l) : t.on f = s.on f := by
  rw [State.on, State.on, rd h hf]

end RB

end Sys2Proof.Machine
end

