-- ==== Sys2Proof/Laws/RegFrames.lean ====
section
/-!
SUPPORT. Single bits of registers, bit arrays, and the registers that a fault source drives: what reads after a write.
-/
set_option Elab.async false
set_option linter.all false
namespace Sys2Proof.Machine

theorem bitOf_eq_testBit {v n : Nat} : bitOf v n = v.testBit n := by
  rw [Nat.testBit_eq_decide_div_mod_eq, bitOf]; rfl

theorem putBit_eq {v n : Nat} {b : Bool} : putBit v n b = 2 ^ n * (2 * (v / 2 ^ n / 2) + b.toNat) + v % 2 ^ n := by
  have h1 := Nat.div_add_mod v (2 ^ n)
  have h2 := Nat.div_add_mod (v / 2 ^ n) 2
  have h3 : 0 < 2 ^ n := Nat.two_pow_pos n
  unfold putBit bitOf
  generalize v / 2 ^ n = q at h1 h2 ⊢
  have h4 : q % 2 = 0 ∨ q % 2 = 1 := by omega
  have e0 : ∀ m, 2 ^ n * (m + 1) = 2 ^ n * m + 2 ^ n := fun m => Nat.mul_succ _ _
  rcases h4 with h4 | h4 <;> cases b <;> simp only [h4, Bool.toNat_false, Bool.toNat_true, Nat.add_zero] <;>
    rw [h4] at h2
  · rw [if_pos (by decide)]; rw [Nat.add_zero] at h2; rw [h2]; exact h1.symm
  · rw [if_neg (by decide), if_pos (by decide), e0]; rw [Nat.add_zero] at h2; rw [h2]; omega
  · rw [if_neg (by decide), if_neg (by decide)]; rw [← h2, e0] at h1; omega
  · rw [if_pos (by decide), h2]; exact h1.symm

theorem putBit_testBit {v n i : Nat} {b : Bool} : (putBit v n b).testBit i = if i = n then b else v.testBit i := by
  have h3 : v % 2 ^ n < 2 ^ n := Nat.mod_lt _ (Nat.two_pow_pos n)
  rw [putBit_eq, Nat.testBit_two_pow_mul_add _ h3]
  by_cases h : i < n
  · rw [if_pos h, if_neg (by omega), Nat.testBit_mod_two_pow]; simp [h]
  · rw [if_neg h]
    by_cases e : i = n
    · rw [if_pos e, e, Nat.sub_self, Nat.testBit_zero]
      cases b <;> simp
    · rw [if_neg e]
      have e1 : i - n = (i - n - 1) + 1 := by omega
      rw [e1, Nat.testBit_succ]
      have : (2 * (v / 2 ^ n / 2) + b.toNat) / 2 = v / 2 ^ n / 2 := by
        have := Bool.toNat_le b; omega
      rw [this, ← Nat.testBit_succ]
      show (v / 2 ^ n).testBit (i - n - 1 + 1) = _
      rw [← e1, Nat.testBit_div_two_pow]
      congr 1; omega

theorem putBit_lt {v n w : Nat} {b : Bool} (hv : v < 2 ^ w) (hn : n < w) : putBit v n b < 2 ^ w := by
  apply Nat.lt_pow_two_of_testBit
  intro i hi
  rw [putBit_testBit, if_neg (by omega)]
  exact Nat.testBit_lt_two_pow (Nat.lt_of_lt_of_le hv (Nat.pow_le_pow_right (by decide) hi))

/-- A bit of an array of registers after a write of one of its bits. -/
theorem bitArr_setBitArr {s : State} {f : Fld} {n m : Nat} {b : Bool} (h : s.canonical = true) :
    (s.setBitArr f n b).bitArr f m = if m = n then b else s.bitArr f m := by
  unfold State.bitArr State.setBitArr
  dsimp only
  by_cases ha : m / 32 = n / 32
  · rw [ha, reg_setReg_same h, bitOf_eq_testBit, BitVec.toNat_ofNat, Nat.testBit_mod_two_pow, putBit_testBit, bitOf_eq_testBit]
    have hm : m % 32 < 32 := Nat.mod_lt _ (by decide)
    rw [decide_eq_true hm, Bool.true_and]
    by_cases e : m = n
    · rw [if_pos e, if_pos (by omega)]
    · rw [if_neg e, if_neg (by omega)]
  · rw [reg_setReg_ne (by omega), if_neg (by omega)]

theorem RB.setBitArr {s : State} {l : List Nat} {f : Fld} {n : Nat} {b : Bool} (h : f.addr + 4 * (n / 32) ∈ l) : s.regsBut l (s.setBitArr f n b) :=
  RB.setReg h

theorem RB.wrs {s : State} {l : List Nat} {x : List (Fld × Nat)} (h : (x.all fun p => l.contains p.1.addr) = true) : s.regsBut l (s.wrAll x) :=
  RB.wrAll fun p hp => by simpa using List.all_eq_true.1 h p hp

theorem bitArr_rb {s t : State} {l : List Nat} {f : Fld} {n : Nat} (h : s.regsBut l t) (hf : f.addr + 4 * (n / 32) ∉ l) : t.bitArr f n = s.bitArr f n := by
  rw [State.bitArr, State.bitArr, h _ hf]

theorem tick_rb {s t : State} {l : List Nat} (h : s.regsBut l t) (h1 : F.TICK_NUM_LO.addr ∉ l) (h2 : F.TICK_NUM_HI.addr ∉ l) : t.tick = s.tick := by
  rw [State.tick, State.tick, State.rd64, State.rd64, RB.rd h h1, RB.rd h h2]

/-- A one-bit field read as a truth value. -/
theorem on_iff {s : State} {f : Fld} : s.on f = true ↔ s.rd f ≠ 0 := by simp [State.on]
theorem on_false {s : State} {f : Fld} : s.on f = false ↔ s.rd f = 0 := by simp [State.on]

theorem mem_srcRegs {a p : Nat} (h : a ∈ srcRegs p) : a = 0x10 + 4096 * p ∨ a = 0x18 + 4096 * p ∨ a = 0x2C + 4096 * p := by
  simpa [srcRegs, Fld.pg, F.FLT_RAW, F.FLT_LATCH, F.EVT_COUNT] using h

/-- A completed command from its arm. -/
theorem Does.of {i : Instr} {s t : State} {P : State → Prop} (he : exec i s = .next t) (h : P t) : Does i s P := ⟨t, he, h⟩

/-! The registers of a source after it is driven. -/

theorem raw_wr {s : State} {p n m : Nat} {b : Bool} (h : s.canonical = true) (hn : n < 16) :
    (s.wr (F.FLT_RAW.pg p) (putBit (s.rd (F.FLT_RAW.pg p)) n b)).raw p m = if m = n then b else s.raw p m := by
  have hlt : s.rd (F.FLT_RAW.pg p) < 2 ^ 16 := Nat.mod_lt _ (Nat.two_pow_pos 16)
  unfold State.raw
  rw [rd_wr_same h (by rfl), bitOf_eq_testBit, bitOf_eq_testBit]
  show (putBit (s.rd (F.FLT_RAW.pg p)) n b % 2 ^ 16).testBit m = _
  rw [Nat.mod_eq_of_lt (putBit_lt hlt hn), putBit_testBit]

theorem raw_rb {s t : State} {l : List Nat} {p n : Nat} (h : s.regsBut l t) (hp : (F.FLT_RAW.pg p).addr ∉ l) : t.raw p n = s.raw p n := by
  rw [State.raw, State.raw, RB.rd h hp]

theorem latch_bump {s : State} {p v : Nat} (h : s.canonical = true) :
    ((s.wr (F.FLT_LATCH.pg p) v).bump (F.EVT_COUNT.pg p)).rd (F.FLT_LATCH.pg p) = v % 2 ^ 16 := by
  refine (RB.rd (RB.bump (l := [(F.EVT_COUNT.pg p).addr]) List.mem_cons_self) ?_).trans (rd_wr_same h (by rfl))
  simp [Fld.pg, F.FLT_LATCH, F.EVT_COUNT]

theorem evt_bump {s : State} {p v : Nat} (h : s.canonical = true) :
    ((s.wr (F.FLT_LATCH.pg p) v).bump (F.EVT_COUNT.pg p)).rd (F.EVT_COUNT.pg p) = (s.rd (F.EVT_COUNT.pg p) + 1) % 2 ^ 32 := by
  refine (rd_wr_same (canonical_wr h) (by rfl)).trans ?_
  rw [rd_wr_ne (by simp [Fld.pg, F.FLT_LATCH, F.EVT_COUNT])]; rfl

theorem lor_bit {a n : Nat} (hn : n < 16) : (Nat.lor a (2 ^ n) % 2 ^ 16).testBit n = true := by
  rw [Nat.testBit_mod_two_pow, show Nat.lor a (2 ^ n) = a ||| 2 ^ n from rfl, Nat.testBit_or, Nat.testBit_two_pow_self]
  simp [hn]

theorem rd_flt {u : State} {x : FaultSt} {f : Fld} : ({ u with flt := x } : State).rd f = u.rd f := rd_congr rfl f

/-- The edge of a source: LATCH, EVT_COUNT, the collector's queue. -/
theorem raised_edge {s : State} {p n : Nat} (h : s.canonical = true) (hn : n < 16) : s.raised p n (s.edge p n) := by
  have e1 := latch_bump (s := s) (p := p) (v := Nat.lor (s.rd (F.FLT_LATCH.pg p)) (2 ^ n)) h
  have e2 := evt_bump (s := s) (p := p) (v := Nat.lor (s.rd (F.FLT_LATCH.pg p)) (2 ^ n)) h
  have e3 : ((s.wr (F.FLT_LATCH.pg p) (Nat.lor (s.rd (F.FLT_LATCH.pg p)) (2 ^ n))).bump (F.EVT_COUNT.pg p)).flt = s.flt := by
    rw [keep_bump.flt, keep_wr.flt]
  have hb := lor_bit (a := s.rd (F.FLT_LATCH.pg p)) hn
  unfold State.edge
  dsimp only
  generalize (s.wr (F.FLT_LATCH.pg p) (Nat.lor (s.rd (F.FLT_LATCH.pg p)) (2 ^ n))).bump (F.EVT_COUNT.pg p) = u at e1 e2 e3 ⊢
  rw [bitOf_eq_testBit]
  by_cases hm : (s.rd (F.FLT_MASK.pg p)).testBit n = true
  · rw [if_pos hm]
    exact ⟨by rw [e1]; exact hb, e2, by rw [if_pos hm, e3]⟩
  · rw [if_neg hm]
    refine ⟨?_, ?_, ?_⟩
    · rw [rd_flt, e1]; exact hb
    · rw [rd_flt]; exact e2
    · rw [if_neg hm, ← e3]

theorem broken_flt {s t : State} {p n : Nat} (h : t.flt.broken = s.flt.broken) : t.broken p n = s.broken p n := by
  rw [State.broken, State.broken, h]

theorem edge_broken {s : State} {p n q m : Nat} : (s.edge p n).broken q m = s.broken q m := by
  unfold State.edge
  dsimp only
  split <;> exact broken_flt rfl

theorem enabled_rb {s t : State} {l : List Nat} {p : Nat} (h : s.regsBut l t) (hp : (F.PAGE_CTRL_EN.pg (homePage p)).addr ∉ l) : t.enabled p = s.enabled p := by
  rw [State.enabled, State.enabled, RB.on h hp]

theorem ctrl_far {p q : Nat} : (F.PAGE_CTRL_EN.pg q).addr ∉ srcRegs p := by
  intro z
  have := mem_srcRegs z
  simp only [Fld.pg, F.PAGE_CTRL_EN] at this
  omega

/-- A quiet source driven active and back: one edge. -/
theorem raised_pulse {s : State} {p n : Nat} (h : s.canonical = true) (hq : s.quiet p n) : s.raised p n (s.pulse p n) := by
  obtain ⟨hn, he, hr, hb⟩ := hq
  have e0 : s.pulse p n = (s.source p n true).source p n false := if_neg (by rw [hr]; decide)
  have e1 : s.source p n true = (s.wr (F.FLT_RAW.pg p) (putBit (s.rd (F.FLT_RAW.pg p)) n true)).edge p n := by
    unfold State.source
    dsimp only
    rw [he, hr, hb]
    exact if_pos (by decide)
  have hc1 : (s.wr (F.FLT_RAW.pg p) (putBit (s.rd (F.FLT_RAW.pg p)) n true)).canonical = true := canonical_wr h
  have r1 := raised_edge (s := s.wr (F.FLT_RAW.pg p) (putBit (s.rd (F.FLT_RAW.pg p)) n true)) (p := p) (n := n) hc1 hn
  rw [← e1] at r1
  have e2 : (s.source p n true).source p n false = (s.source p n true).wr (F.FLT_RAW.pg p) (putBit ((s.source p n true).rd (F.FLT_RAW.pg p)) n false) := by
    have hb1 : (s.source p n true).broken p n = false := by
      rw [e1, edge_broken]; exact hb
    generalize s.source p n true = u at hb1
    unfold State.source
    dsimp only
    rw [hb1, Bool.false_and, Bool.or_false, Bool.false_and, if_neg Bool.false_ne_true]
  rw [e0, e2]
  obtain ⟨a1, a2, a3⟩ := r1
  have n1 : (F.FLT_LATCH.pg p).addr ≠ (F.FLT_RAW.pg p).addr := by simp [Fld.pg, F.FLT_LATCH, F.FLT_RAW]
  have n2 : (F.EVT_COUNT.pg p).addr ≠ (F.FLT_RAW.pg p).addr := by simp [Fld.pg, F.EVT_COUNT, F.FLT_RAW]
  have n3 : (F.FLT_MASK.pg p).addr ≠ (F.FLT_RAW.pg p).addr := by simp [Fld.pg, F.FLT_MASK, F.FLT_RAW]
  refine ⟨?_, ?_, ?_⟩
  · rw [rd_wr_ne n1]; exact a1
  · rw [rd_wr_ne n2, a2, rd_wr_ne n2]
  · rw [keep_wr.flt, a3, rd_wr_ne n3, keep_wr.flt]

/-- An edge is the same edge where only other registers were written before. -/
theorem raised_from {s t u : State} {l : List Nat} {p n : Nat} (h : s.regsBut l t) (h1 : (F.EVT_COUNT.pg p).addr ∉ l) (h2 : (F.FLT_MASK.pg p).addr ∉ l)
    (hf : t.flt.edges = s.flt.edges) (hr : t.raised p n u) : s.raised p n u := by
  obtain ⟨a, b, c⟩ := hr
  refine ⟨a, ?_, ?_⟩
  · rw [b, RB.rd h h1]
  · rw [c, RB.rd h h2, hf]

/-- … and other registers written behind. -/
theorem raised_then {s t u : State} {l : List Nat} {p n : Nat} (h : t.regsBut l u) (h1 : (F.EVT_COUNT.pg p).addr ∉ l) (h2 : (F.FLT_LATCH.pg p).addr ∉ l)
    (hf : u.flt.edges = t.flt.edges) (hr : s.raised p n t) : s.raised p n u := by
  obtain ⟨a, b, c⟩ := hr
  refine ⟨?_, ?_, ?_⟩
  · rw [RB.rd h h2]; exact a
  · rw [RB.rd h h1, b]
  · rw [hf, c]

theorem quiet_rb {s t : State} {l : List Nat} {p n : Nat} (h : s.regsBut l t) (h1 : (F.FLT_RAW.pg p).addr ∉ l) (h2 : (F.PAGE_CTRL_EN.pg (homePage p)).addr ∉ l)
    (hf : t.flt.broken = s.flt.broken) (hq : s.quiet p n) : t.quiet p n := by
  obtain ⟨a, b, c, d⟩ := hq
  exact ⟨a, by rw [enabled_rb h h2]; exact b, by rw [raw_rb h h1]; exact c, by rw [broken_flt hf]; exact d⟩

theorem far {p a : Nat} (h : a ≠ 0x10 + 4096 * p) (h1 : a ≠ 0x18 + 4096 * p) (h2 : a ≠ 0x2C + 4096 * p) : a ∉ srcRegs p := fun z => by
  rcases mem_srcRegs z with e | e | e
  · exact h e
  · exact h1 e
  · exact h2 e

theorem latch_source {s : State} {p n m : Nat} {v : Bool} (h : s.canonical = true) (hl : (s.rd (F.FLT_LATCH.pg p)).testBit m = true) :
    ((s.source p n v).rd (F.FLT_LATCH.pg p)).testBit m = true := by
  have hm : m < 16 := by
    apply Nat.lt_of_not_le; intro hm
    have hlt : s.rd (F.FLT_LATCH.pg p) < 2 ^ 16 := Nat.mod_lt _ (Nat.two_pow_pos 16)
    rw [Nat.testBit_lt_two_pow (Nat.lt_of_lt_of_le hlt (Nat.pow_le_pow_right (by decide) hm))] at hl
    exact Bool.noConfusion hl
  have e1 : ∀ x, (s.wr (F.FLT_RAW.pg p) x).rd (F.FLT_LATCH.pg p) = s.rd (F.FLT_LATCH.pg p) := fun x => rd_wr_ne (by simp [Fld.pg, F.FLT_LATCH, F.FLT_RAW])
  unfold State.source
  dsimp only
  split
  · generalize hu : s.wr (F.FLT_RAW.pg p) (putBit (s.rd (F.FLT_RAW.pg p)) n (v && s.enabled p || s.broken p n)) = u
    have hu1 : u.rd (F.FLT_LATCH.pg p) = s.rd (F.FLT_LATCH.pg p) := by rw [← hu]; exact e1 _
    have hc : u.canonical = true := by rw [← hu]; exact canonical_wr h
    have e := latch_bump (s := u) (p := p) (v := Nat.lor (u.rd (F.FLT_LATCH.pg p)) (2 ^ n)) hc
    have e2 : (u.edge p n).rd (F.FLT_LATCH.pg p) = Nat.lor (u.rd (F.FLT_LATCH.pg p)) (2 ^ n) % 2 ^ 16 := by
      unfold State.edge
      dsimp only
      split
      · exact e
      · rw [rd_flt]; exact e
    rw [e2, hu1, Nat.testBit_mod_two_pow, show Nat.lor (s.rd (F.FLT_LATCH.pg p)) (2 ^ n) = s.rd (F.FLT_LATCH.pg p) ||| 2 ^ n from rfl, Nat.testBit_or, hl]
    simp [hm]
  · rw [e1]; exact hl

theorem latch_pulse {s : State} {p n m : Nat} (h : s.canonical = true) (hl : (s.rd (F.FLT_LATCH.pg p)).testBit m = true) :
    ((s.pulse p n).rd (F.FLT_LATCH.pg p)).testBit m = true := by
  unfold State.pulse
  split
  · exact hl
  · exact latch_source (keep_source.canon h) (latch_source h hl)

/-! The fault collector: what other operations leave of it but new edges at the end of its queue (R442). -/

/-- The collector differs at most by edges behind those it had. -/
def Edges (s t : State) : Prop := ∃ e, t.flt = { s.flt with edges := s.flt.edges ++ e }

namespace Edges

theorem refl {s : State} : Edges s s := ⟨[], by rw [List.append_nil]⟩
theorem trans {s t u : State} (h : Edges s t) (h' : Edges t u) : Edges s u := by
  obtain ⟨e, he⟩ := h
  obtain ⟨f, hf⟩ := h'
  exact ⟨e ++ f, by rw [hf, he, List.append_assoc]⟩
theorem same {s t : State} (h : t.flt = s.flt) : Edges s t := ⟨[], by rw [h, List.append_nil]⟩
theorem keep {k : Nat} {s t : State} (h : Keep k s t) (hk : k.testBit 12 = false := by decide) : Edges s t := same (h.flt hk)
theorem ite {s t u : State} {c : Prop} [Decidable c] (h : Edges s t) (h' : Edges s u) : Edges s (if c then t else u) := by
  split <;> assumption
theorem edge {s : State} {p n : Nat} : Edges s (s.edge p n) := by
  unfold State.edge
  dsimp only
  generalize hu : (s.wr (F.FLT_LATCH.pg p) (Nat.lor (s.rd (F.FLT_LATCH.pg p)) (2 ^ n))).bump (F.EVT_COUNT.pg p) = u
  have h : u.flt = s.flt := by rw [← hu, keep_bump.flt, keep_wr.flt]
  split
  · exact same h
  · exact ⟨[(p, n)], by rw [← h]⟩
theorem source {s : State} {p n : Nat} {v : Bool} : Edges s (s.source p n v) := by
  unfold State.source
  dsimp only
  exact ite (trans (keep keep_wr) edge) (keep keep_wr)
theorem pulse {s : State} {p n : Nat} : Edges s (s.pulse p n) := by
  unfold State.pulse
  exact ite refl (trans source source)
theorem queueEvent {s : State} {r : LogRec} : Edges s (s.queueEvent r) := by
  unfold State.queueEvent
  dsimp only
  exact ite (same rfl) (trans (keep keep_bumpSat) pulse)
theorem stageRec {s : State} {r : LogRec} : Edges s (s.stageRec r) := by
  unfold State.stageRec
  split
  · exact same keep_showLog.flt
  · refine trans (same ?_) pulse
    exact keep_bump.flt
theorem record {s : State} {a b c d : Nat} {p : List Byte} : Edges s (s.record a b c d p) := by
  unfold State.record
  dsimp only
  refine trans (trans ?_ stageRec) queueEvent
  exact ite (trans (same rfl) stageRec) refl

theorem entries {s t : State} (h : Edges s t) : t.flt.entries = s.flt.entries := by obtain ⟨e, h⟩ := h; rw [h]
theorem next {s t : State} (h : Edges s t) : t.flt.next = s.flt.next := by obtain ⟨e, h⟩ := h; rw [h]
theorem broken {s t : State} (h : Edges s t) : t.flt.broken = s.flt.broken := by obtain ⟨e, h⟩ := h; rw [h]
theorem katOn {s t : State} (h : Edges s t) : t.flt.katOn = s.flt.katOn := by obtain ⟨e, h⟩ := h; rw [h]
theorem shortOn {s t : State} (h : Edges s t) : t.flt.shortOn = s.flt.shortOn := by obtain ⟨e, h⟩ := h; rw [h]
theorem corrupt {s t : State} (h : Edges s t) : t.flt.corrupt = s.flt.corrupt := by obtain ⟨e, h⟩ := h; rw [h]

end Edges

/-! The registers that an event record touches (R44, R491, R493). -/

theorem RB.showLog {s : State} : s.regsBut recRegs s.showLog := by
  unfold State.showLog
  exact RB.wrs (by rfl)

theorem RB.stageRec {s : State} {r : LogRec} : s.regsBut recRegs (s.stageRec r) := by
  unfold State.stageRec
  split
  · exact RB.trans (RB.same rfl) RB.showLog
  · refine RB.trans (RB.trans (RB.same rfl) (RB.bump (by decide))) (RB.pulse (by decide))

theorem route_lt {s : State} {r : LogRec} : s.routeOf r < 32 := by
  unfold State.routeOf
  dsimp only
  split
  · omega
  · split
    · omega
    · split <;> omega

theorem RB.queueEvent {s : State} {r : LogRec} : s.regsBut recRegs (s.queueEvent r) := by
  unfold State.queueEvent
  dsimp only
  refine RB.ite (RB.same rfl) (RB.trans (RB.bumpSat ?_) (RB.pulse (by decide)))
  exact List.mem_append_right _ (List.mem_map.2 ⟨_, List.mem_range.2 route_lt, rfl⟩)

theorem RB.record {s : State} {a b c d : Nat} {p : List Byte} : s.regsBut recRegs (s.record a b c d p) := by
  unfold State.record
  dsimp only
  refine RB.trans (RB.trans ?_ RB.stageRec) RB.queueEvent
  exact RB.ite (RB.trans (RB.same rfl) RB.stageRec) RB.refl

end Sys2Proof.Machine
end

