-- ==== Sys2Proof/Laws/Events.lean ====
section
/-!
SUPPORT. What reference switches, role changes and fault records leave of the fault collector; the bits of a mask.
-/
set_option Elab.async false
set_option linter.all false
namespace Sys2Proof.Machine

theorem maskOf_lt {p : Nat → Bool} {n : Nat} : maskOf p n < 2 ^ n := by
  induction n with
  | zero => exact Nat.one_pos
  | succ n ih =>
    rw [maskOf, Nat.pow_succ]
    split <;> omega

/-- A bit of a mask is its predicate. -/
theorem maskOf_testBit {p : Nat → Bool} {n i : Nat} : (maskOf p n).testBit i = (decide (i < n) && p i) := by
  induction n with
  | zero => simp [maskOf]
  | succ n ih =>
    have e : maskOf p (n + 1) = 2 ^ n * (p n).toNat + maskOf p n := by
      rw [maskOf]; cases p n <;> simp [Nat.add_comm]
    rw [e, Nat.testBit_two_pow_mul_add _ maskOf_lt]
    by_cases h : i < n
    · rw [if_pos h, ih, decide_eq_true h, decide_eq_true (Nat.lt_succ_of_lt h)]
    · rw [if_neg h]
      by_cases h2 : i = n
      · rw [h2, Nat.sub_self, Nat.testBit_zero, decide_eq_true (Nat.lt_succ_self n)]
        cases p n <;> rfl
      · have h3 : ¬ i < n + 1 := by omega
        rw [decide_eq_false h3, Bool.false_and]
        refine Nat.testBit_lt_two_pow (Nat.lt_of_lt_of_le (Nat.lt_succ_of_le (Bool.toNat_le _)) ?_)
        have := Nat.pow_le_pow_right (n := 2) (by decide) (show 1 ≤ i - n by omega)
        omega

namespace Edges

theorem dpllTo {s : State} {a b : Nat} {c : Bool} : Edges s (s.dpllTo a b c) := by
  unfold State.dpllTo
  dsimp only
  have h : Edges s (s.wrAll [(F.REF_STAT_STATE, a), (F.REF_STAT_STEP, b), (F.REF_STAT_SLEWING, c.toNat)]) := keep keep_wrAll
  generalize s.wrAll [(F.REF_STAT_STATE, a), (F.REF_STAT_STEP, b), (F.REF_STAT_SLEWING, c.toNat)] = u at h
  have h2 : Edges s (if a = 2 then u.setClk { u.clk with wasLocked := true } else u) := ite (trans h (keep keep_setClk)) h
  generalize (if a = 2 then u.setClk { u.clk with wasLocked := true } else u) = v at h2
  with_reducible exact trans (trans h2 source) source

theorem toHoldover {s : State} : Edges s s.toHoldover := by
  unfold State.toHoldover
  dsimp only
  with_reducible exact ite dpllTo (trans (keep keep_setReg) dpllTo)
theorem switchTo {s : State} {d : Option Nat} {c : Nat} : Edges s (s.switchTo d c) := by
  unfold State.switchTo
  dsimp only
  generalize hs1 : s.wrAll [(F.REF_LAST_CAUSE, c), (F.REF_LAST_FROM, s.rd F.REF_STAT_SEL), (F.REF_LAST_TO, d.getD 8), (F.REF_STAT_SEL, d.getD 8)] = s1
  have h1 : Edges s s1 := hs1 ▸ keep keep_wrAll
  generalize hs2 : s1.setClk { s1.clk with toSwitch := none } = s2
  have h2 : Edges s s2 := by rw [← hs2]; exact Edges.trans h1 (keep keep_setClk)
  have h3 : Edges s ((s2.bump F.REF_SWITCH_CNT).pulse 0x70 4).buildOut := trans h2 (trans (trans (keep keep_bump) pulse) (keep keep_buildOut))
  generalize ((s2.bump F.REF_SWITCH_CNT).pulse 0x70 4).buildOut = s3 at h3
  cases d with
  | none => with_reducible exact ite h2 (trans h2 toHoldover)
  | some x => with_reducible exact ite h3 (ite (trans h3 dpllTo) (trans h3 dpllTo))
theorem refRole {s : State} : Edges s s.refRole := by
  unfold State.refRole
  dsimp only
  have h : Edges s ((s.showCand 7 false false).setCand 7 { steady := false, usable := false }) := trans (keep keep_showCand) (keep keep_setCand)
  generalize (s.showCand 7 false false).setCand 7 { steady := false, usable := false } = u at h
  with_reducible exact ite refl (ite (trans h switchTo) h)
theorem toRole {s : State} {r : Role} {c : Nat} : Edges s (s.toRole r c) := by
  unfold State.toRole
  dsimp only
  have h : Edges s ((((s.setPair { s.pair with role := r }).wr F.PAIR_LAST c).wr64 F.PAIR_LAST_TICK_LO F.PAIR_LAST_TICK_HI s.tick).showClaim) :=
    trans (trans (trans (keep keep_setPair) (keep keep_wr)) (keep keep_wr64)) (keep keep_showClaim)
  generalize (((s.setPair { s.pair with role := r }).wr F.PAIR_LAST c).wr64 F.PAIR_LAST_TICK_LO F.PAIR_LAST_TICK_HI s.tick).showClaim = u at h
  with_reducible exact ite refl (trans h record)
theorem yieldUnit {s : State} {c : Nat} : Edges s (s.yieldUnit c) := by
  unfold State.yieldUnit
  with_reducible exact trans (trans toRole refRole) (keep keep_showClaim)
theorem f4Action {s : State} : Edges s s.f4Action := by
  unfold State.f4Action
  dsimp only
  have h1 : Edges s ((s.setPair { s.pair with dark := true, darkSent := false }).yieldUnit 7) := by
    with_reducible exact trans (keep keep_setPair) yieldUnit
  generalize (s.setPair { s.pair with dark := true, darkSent := false }).yieldUnit 7 = u at h1
  have h2 : Edges u (({ u with eng := { u.eng with halting := true } } : State).bump F.FLT_F4_CNT) := same keep_bump.flt
  generalize ({ u with eng := { u.eng with halting := true } } : State).bump F.FLT_F4_CNT = v at h2
  with_reducible exact ite refl (trans (trans (trans h1 h2) (keep keep_wr)) (keep keep_showClaim))
theorem faultRecord {s : State} {a b c d e f g : Nat} : Edges s (s.faultRecord a b c d e f g) := by
  unfold State.faultRecord
  dsimp only
  with_reducible exact record
theorem reached {s : State} {x : FltEntry} : Edges s (s.reached x) := by
  unfold State.reached
  with_reducible exact ite (trans f4Action faultRecord) refl
end Edges

end Sys2Proof.Machine
end

