-- ==== Sys2Proof/Laws/KeepEngine.lean ====
section
/-!
SUPPORT. What each operation of Machine/Engine.lean leaves alone (Laws/Keep.lean).
-/
set_option Elab.async false
set_option linter.all false
namespace Sys2Proof.Machine

theorem keep_eccErrors {s : State} {x0 x1} : Keep 0x401002 s (State.eccErrors s x0 x1) := by
  unfold State.eccErrors
  try extract_lets
  repeat' first
    | (with_reducible apply Keep.refl)
    | (show (_ ||| _ : Nat) = _; rfl)
    | (with_reducible apply Keep.step keep_sramError)
    | (with_reducible apply Keep.each <;> try intro s x <;> try extract_lets)

theorem keep_stripLevel {s : State} {x0 x1} : Keep 0x40000 s (State.stripLevel s x0 x1).2 := by
  unfold State.stripLevel
  try extract_lets
  repeat' first
    | (with_reducible apply Keep.refl)
    | (show Nat.testBit _ _ = true; rfl)
    | (with_reducible apply Keep.ite_snd <;> try extract_lets)
    | (dsimp only)
    | (with_reducible apply Keep.set_eng)

theorem keep_strip {s : State} {x0 x1 x2 x3 x4} : Keep 0x61002 s (State.strip s x0 x1 x2 x3 x4).2 := by
  unfold State.strip
  try extract_lets
  repeat' first
    | (with_reducible apply Keep.refl)
    | (with_reducible apply Keep.step keep_tapeZeros)
    | (show (_ ||| _ : Nat) = _; rfl)
    | (show Nat.testBit _ _ = true; rfl)
    | (with_reducible apply Keep.step keep_runStrip)
    | (with_reducible apply Keep.step keep_stripLevel)
    | (with_reducible apply Keep.ite_snd <;> try extract_lets)
    | (dsimp only)
    | (with_reducible apply Keep.set_eng)

theorem keep_phaseA {s : State} {x0 x1 x2} : Keep 0x61002 s (State.phaseA s x0 x1 x2) := by
  unfold State.phaseA
  try extract_lets
  repeat' first
    | (with_reducible apply Keep.refl)
    | (show (_ ||| _ : Nat) = _; rfl)
    | (show Nat.testBit _ _ = true; rfl)
    | (with_reducible apply Keep.step keep_strip)
    | (with_reducible apply Keep.set_eng)

theorem keep_runB {s : State} {x0 x1 x2} : Keep 0x441002 s (State.runB s x0 x1 x2) := by
  unfold State.runB
  try extract_lets
  repeat' first
    | (with_reducible apply Keep.refl)
    | (show (_ ||| _ : Nat) = _; rfl)
    | (show Nat.testBit _ _ = true; rfl)
    | (with_reducible apply Keep.step keep_eccErrors)
    | (with_reducible apply Keep.step keep_phaseB)
    | (with_reducible apply Keep.ite <;> try extract_lets)
    | (with_reducible apply Keep.set_eng)

theorem keep_clustersAt {s : State} {x0} : Keep 0x2 s (State.clustersAt s x0) := by
  unfold State.clustersAt
  try extract_lets
  repeat' first
    | (with_reducible apply Keep.refl)
    | (show (_ ||| _ : Nat) = _; rfl)
    | (show Nat.testBit _ _ = true; rfl)
    | (with_reducible apply Keep.step keep_wr)
    | (with_reducible apply Keep.ite <;> try extract_lets)
    | (with_reducible apply Keep.each <;> try intro s x <;> try extract_lets)
    | (split <;> try extract_lets)
    | (dsimp only)

theorem keep_runC {s : State} {x0 x1 x2 x3} : Keep 0x461002 s (State.runC s x0 x1 x2 x3) := by
  unfold State.runC
  try extract_lets
  repeat' first
    | (with_reducible apply Keep.refl)
    | (show (_ ||| _ : Nat) = _; rfl)
    | (show Nat.testBit _ _ = true; rfl)
    | (with_reducible apply Keep.step keep_eccErrors)
    | (with_reducible apply Keep.step keep_strip)
    | (with_reducible apply Keep.ite <;> try extract_lets)
    | (with_reducible apply Keep.set_eng)

theorem keep_runD {s : State} {x0 x1 x2} : Keep 0x441002 s (State.runD s x0 x1 x2) := by
  unfold State.runD
  try extract_lets
  repeat' first
    | (with_reducible apply Keep.refl)
    | (show (_ ||| _ : Nat) = _; rfl)
    | (show Nat.testBit _ _ = true; rfl)
    | (with_reducible apply Keep.step keep_eccErrors)
    | (with_reducible apply Keep.step keep_noteBusy)
    | (with_reducible apply Keep.step keep_phaseD)
    | (with_reducible apply Keep.ite <;> try extract_lets)
    | (with_reducible apply Keep.set_eng)

theorem keep_sendRecords {s : State} : Keep 0x80 s (State.sendRecords s) := by
  unfold State.sendRecords
  try extract_lets
  repeat' first
    | (with_reducible apply Keep.refl)
    | (show (_ ||| _ : Nat) = _; rfl)
    | (show Nat.testBit _ _ = true; rfl)
    | (with_reducible apply Keep.step keep_send)
    | (with_reducible apply Keep.ite <;> try extract_lets)
    | (split <;> try extract_lets)
    | (dsimp only)

theorem keep_runE {s : State} {x0 x1 x2 x3} : Keep 0x2461082 s (State.runE s x0 x1 x2 x3) := by
  unfold State.runE
  try extract_lets
  repeat' first
    | (with_reducible apply Keep.refl)
    | (with_reducible apply Keep.step keep_sendRecords)
    | (with_reducible apply Keep.step keep_clustersAt)
    | (show (_ ||| _ : Nat) = _; rfl)
    | (with_reducible apply Keep.step keep_eccErrors)
    | (with_reducible apply Keep.step keep_strip)
    | (with_reducible apply Keep.step keep_setEng)
    | (with_reducible apply Keep.step keep_silence)
    | (with_reducible apply Keep.step keep_shareTick)
    | (with_reducible apply Keep.ite <;> try extract_lets)

theorem keep_tickOvr {s : State} {x0} : Keep 0x41002 s (State.tickOvr s x0) := by
  unfold State.tickOvr
  try extract_lets
  repeat' first
    | (with_reducible apply Keep.refl)
    | (show (_ ||| _ : Nat) = _; rfl)
    | (with_reducible apply Keep.step keep_setEng)
    | (with_reducible apply Keep.step keep_pulse)
    | (with_reducible apply Keep.step keep_bump)
    | (with_reducible apply Keep.ite <;> try extract_lets)

theorem keep_budgetOut {s : State} {x0} : Keep 0x61002 s (State.budgetOut s x0) := by
  unfold State.budgetOut
  try extract_lets
  repeat' first
    | (with_reducible apply Keep.refl)
    | (with_reducible apply Keep.step keep_kernelStop)
    | (show (_ ||| _ : Nat) = _; rfl)
    | (with_reducible apply Keep.step keep_afterIssue)
    | (with_reducible apply Keep.step keep_kernelOvr)
    | (with_reducible apply Keep.step keep_setInst)
    | (with_reducible apply Keep.step keep_setCluster)
    | (with_reducible apply Keep.step keep_stopInst)
    | (with_reducible apply Keep.ite <;> try extract_lets)
    | (dsimp only)
    | (split <;> try extract_lets)

theorem keep_resetStopped {s : State} : Keep 0x60000 s (State.resetStopped s) := by
  unfold State.resetStopped
  try extract_lets
  repeat' first
    | (with_reducible apply Keep.refl)
    | (show (_ ||| _ : Nat) = _; rfl)
    | (with_reducible apply Keep.step keep_setInst)
    | (with_reducible apply Keep.step keep_kernelRest)
    | (with_reducible apply Keep.ite <;> try extract_lets)
    | (with_reducible apply Keep.each <;> try intro s x <;> try extract_lets)
    | (split <;> try extract_lets)

theorem keep_concealInputs {s : State} : Keep 0x40000 s (State.concealInputs s) := by
  unfold State.concealInputs
  try extract_lets
  repeat' first
    | (with_reducible apply Keep.refl)
    | (show Nat.testBit _ _ = true; rfl)
    | (with_reducible apply Keep.each <;> try intro s x <;> try extract_lets)
    | (with_reducible apply Keep.set_eng)

theorem keep_tickEntry {s : State} {x0 x1 x2} : Keep 0xc63d82 s (State.tickEntry s x0 x1 x2) := by
  unfold State.tickEntry
  try extract_lets
  repeat' first
    | (with_reducible apply Keep.refl)
    | (with_reducible apply Keep.step keep_clustersAt)
    | (with_reducible apply Keep.step keep_hearMics)
    | (with_reducible apply Keep.step keep_putCopies)
    | (show (_ ||| _ : Nat) = _; rfl)
    | (show Nat.testBit _ _ = true; rfl)
    | (with_reducible apply Keep.step keep_streamsOut)
    | (with_reducible apply Keep.step keep_put)
    | (with_reducible apply Keep.step keep_resetStopped)
    | (with_reducible apply Keep.step keep_setCluster)
    | (with_reducible apply Keep.step keep_eccErrors)
    | (with_reducible apply Keep.step keep_streamsIn)
    | (with_reducible apply Keep.step keep_takeStarts)
    | (with_reducible apply Keep.step keep_startInsts)
    | (with_reducible apply Keep.step keep_concealInputs)
    | (with_reducible apply Keep.step keep_gate)
    | (with_reducible apply Keep.step keep_phaseA)
    | (with_reducible apply Keep.ite <;> try extract_lets)
    | (with_reducible apply Keep.each <;> try intro s x <;> try extract_lets)
    | (with_reducible apply Keep.set_eng)

theorem keep_keepSigs {s : State} : Keep 0x100000 s (State.keepSigs s) := by
  unfold State.keepSigs
  try extract_lets
  repeat' first
    | (with_reducible apply Keep.refl)
    | (show (_ ||| _ : Nat) = _; rfl)
    | (with_reducible apply Keep.step keep_setPair)

theorem keep_clusterTick {s : State} {x0 x1} : Keep 0x20002 s (State.clusterTick s x0 x1) := by
  unfold State.clusterTick
  try extract_lets
  repeat' first
    | (with_reducible apply Keep.refl)
    | (show (_ ||| _ : Nat) = _; rfl)
    | (show Nat.testBit _ _ = true; rfl)
    | (with_reducible apply Keep.step keep_setCluster)
    | (with_reducible apply Keep.step keep_wrAll)
    | (with_reducible apply Keep.ite <;> try extract_lets)
    | (split <;> try extract_lets)
    | (dsimp only)

theorem keep_tickEnd {s : State} {x0 x1} : Keep 0x2761982 s (State.tickEnd s x0 x1) := by
  unfold State.tickEnd
  try extract_lets
  repeat' first
    | (with_reducible apply Keep.refl)
    | (show (_ ||| _ : Nat) = _; rfl)
    | (show Nat.testBit _ _ = true; rfl)
    | (with_reducible apply Keep.step keep_clusterTick)
    | (with_reducible apply Keep.step keep_keepSigs)
    | (with_reducible apply Keep.step keep_tickOvr)
    | (with_reducible apply Keep.step keep_sendRecords)
    | (with_reducible apply Keep.step keep_clustersAt)
    | (with_reducible apply Keep.step keep_gatherSheets)
    | (with_reducible apply Keep.step keep_energyTick)
    | (with_reducible apply Keep.step keep_recorderTick)
    | (with_reducible apply Keep.step keep_hearOutputs)
    | (with_reducible apply Keep.step keep_portsTick)
    | (with_reducible apply Keep.step keep_pdmIn)
    | (with_reducible apply Keep.step keep_setPair)
    | (with_reducible apply Keep.step keep_wr64)
    | (with_reducible apply Keep.ite <;> try extract_lets)
    | (with_reducible apply Keep.each <;> try intro s x <;> try extract_lets)
    | (split <;> try extract_lets)
    | (dsimp only)

theorem keep_tickNumber {s : State} : Keep 0x2 s (State.tickNumber s) := by
  unfold State.tickNumber
  try extract_lets
  repeat' first
    | (with_reducible apply Keep.refl)
    | (show (_ ||| _ : Nat) = _; rfl)
    | (with_reducible apply Keep.step keep_wr64)
    | (with_reducible apply Keep.step keep_wr)
    | (with_reducible apply Keep.ite <;> try extract_lets)

theorem keep_loadRecord {s : State} {x0} : Keep 0x60000 s (State.loadRecord s x0) := by
  unfold State.loadRecord
  split
  · exact Keep.refl
  · exact Keep.step keep_setInst rfl Keep.refl
  · exact Keep.step keep_setInst rfl Keep.refl
  · exact Keep.set_eng Keep.refl rfl
  · split
    · exact Keep.step keep_setCluster rfl Keep.refl
    · exact Keep.refl

theorem keep_loadRecords {s : State} : Keep 0x160000 s (State.loadRecords s) := by
  unfold State.loadRecords
  try extract_lets
  repeat' first
    | (with_reducible apply Keep.refl)
    | (with_reducible apply Keep.step keep_loadRecord)
    | (show (_ ||| _ : Nat) = _; rfl)
    | (with_reducible apply Keep.step keep_setPair)
    | (with_reducible apply Keep.step keep_setInst)
    | (with_reducible apply Keep.each <;> try intro s x <;> try extract_lets)
    | (split <;> try extract_lets)

theorem keep_levelTick {s : State} : Keep 0x140002 s (State.levelTick s) := by
  unfold State.levelTick
  try extract_lets
  repeat' first
    | (with_reducible apply Keep.refl)
    | (show (_ ||| _ : Nat) = _; rfl)
    | (with_reducible apply Keep.step keep_setEng)
    | (with_reducible apply Keep.step keep_setPair)
    | (with_reducible apply Keep.step keep_wr)
    | (with_reducible apply Keep.ite <;> try extract_lets)
    | (dsimp +zetaDelta only; split <;> try extract_lets)

theorem keep_rotate {s : State} : Keep 0x140000 s (State.rotate s) := by
  unfold State.rotate
  try extract_lets
  repeat' first
    | (with_reducible apply Keep.refl)
    | (show (_ ||| _ : Nat) = _; rfl)
    | (with_reducible apply Keep.step keep_setPair)
    | (with_reducible apply Keep.step keep_setEng)

theorem keep_peerTick {s : State} : Keep 0x100002 s (State.peerTick s) := by
  unfold State.peerTick
  try extract_lets
  repeat' first
    | (with_reducible apply Keep.refl)
    | (show (_ ||| _ : Nat) = _; rfl)
    | (with_reducible apply Keep.step keep_wrAll)
    | (with_reducible apply Keep.step keep_setPair)

theorem keep_claimTick {s : State} : Keep 0x1103882 s (State.claimTick s) := by
  unfold State.claimTick
  try extract_lets
  repeat' first
    | (with_reducible apply Keep.refl)
    | (show (_ ||| _ : Nat) = _; rfl)
    | (with_reducible apply Keep.step keep_yieldUnit)
    | (with_reducible apply Keep.step keep_setPair)
    | (with_reducible apply Keep.step keep_claimUpdate)
    | (with_reducible apply Keep.step keep_put)
    | (with_reducible apply Keep.ite <;> try extract_lets)
    | (dsimp +zetaDelta only; split <;> try extract_lets)

theorem keep_sendTick {s : State} : Keep 0x182 s (State.sendTick s) := by
  unfold State.sendTick
  try extract_lets
  repeat' first
    | (with_reducible apply Keep.refl)
    | (show (_ ||| _ : Nat) = _; rfl)
    | (with_reducible apply Keep.step keep_wrAll)
    | (with_reducible apply Keep.step keep_send)
    | (with_reducible apply Keep.step keep_open_)
    | (with_reducible apply Keep.ite <;> try extract_lets)

theorem keep_matchTick {s : State} : Keep 0x40082 s (State.matchTick s) := by
  unfold State.matchTick
  try extract_lets
  repeat' first
    | (with_reducible apply Keep.refl)
    | (show (_ ||| _ : Nat) = _; rfl)
    | (with_reducible apply Keep.step keep_setEng)
    | (with_reducible apply Keep.step keep_sendVec)
    | (with_reducible apply Keep.ite <;> try extract_lets)

theorem keep_clockTick {s : State} {x0} : Keep 0x1002 s (State.clockTick s x0) := by
  unfold State.clockTick
  try extract_lets
  repeat' first
    | (with_reducible apply Keep.refl)
    | (show (_ ||| _ : Nat) = _; rfl)
    | (with_reducible apply Keep.step keep_wrAll)
    | (with_reducible apply Keep.step keep_source)
    | (with_reducible apply Keep.step keep_wr)
    | (with_reducible apply Keep.ite <;> try extract_lets)

theorem keep_tickStart {s : State} {x0 x1 x2 x3 x4 x5} : Keep 0x3f63d82 s (State.tickStart s x0 x1 x2 x3 x4 x5) := by
  unfold State.tickStart
  try extract_lets
  repeat' first
    | (with_reducible apply Keep.refl)
    | (with_reducible apply Keep.step keep_clustersAt)
    | (with_reducible apply Keep.step keep_startLearn)
    | (show (_ ||| _ : Nat) = _; rfl)
    | (with_reducible apply Keep.step keep_loadRecords)
    | (with_reducible apply Keep.step keep_tickNumber)
    | (with_reducible apply Keep.step keep_tickEnd)
    | (with_reducible apply Keep.step keep_takeOver)
    | (with_reducible apply Keep.step keep_refPeriods)
    | (with_reducible apply Keep.step keep_rotate)
    | (with_reducible apply Keep.step keep_levelTick)
    | (with_reducible apply Keep.step keep_takeShed)
    | (with_reducible apply Keep.step keep_sampleTriggers)
    | (with_reducible apply Keep.step keep_claimTick)
    | (with_reducible apply Keep.step keep_peerTick)
    | (with_reducible apply Keep.step keep_streamsTick)
    | (with_reducible apply Keep.step keep_anchorTick)
    | (with_reducible apply Keep.step keep_matchTick)
    | (with_reducible apply Keep.step keep_lanesTick)
    | (with_reducible apply Keep.step keep_clockTick)
    | (with_reducible apply Keep.step keep_sendTick)
    | (with_reducible apply Keep.ite <;> try extract_lets)
    | (dsimp +zetaDelta only; split <;> try extract_lets)

theorem keep_pathDone {s : State} {x0} : Keep 0x403c82 s (State.pathDone s x0) := by
  unfold State.pathDone
  try extract_lets
  repeat' first
    | (with_reducible apply Keep.refl)
    | (show (_ ||| _ : Nat) = _; rfl)
    | (show Nat.testBit _ _ = true; rfl)
    | (with_reducible apply Keep.step keep_pathResult)
    | (with_reducible apply Keep.ite <;> try extract_lets)
    | (split <;> try extract_lets)
    | (dsimp only)

end Sys2Proof.Machine
end

