-- ==== Sys2Proof/Laws/Tick.lean ====
section
/-!
SUPPORT. The tick number under the operations of a tick start (R12, R19): `TK s t` says that the registers of TICK_NUM and TICK_STAT are the same.
-/
set_option Elab.async false
set_option linter.all false
namespace Sys2Proof.Machine

/-- The registers of TICK_NUM and TICK_STAT are the same. -/
def TK (s t : State) : Prop := t.reg 0x1040 = s.reg 0x1040 ∧ t.reg 0x1044 = s.reg 0x1044 ∧ t.reg 0x104C = s.reg 0x104C

theorem TK.refl {s : State} : TK s s := ⟨rfl, rfl, rfl⟩
theorem TK.step {s t u : State} (h : TK t u) (h0 : TK s t) : TK s u := ⟨h.1.trans h0.1, h.2.1.trans h0.2.1, h.2.2.trans h0.2.2⟩
theorem TK.same {s t u : State} (h : u.regs = t.regs) (h0 : TK s t) : TK s u := TK.step ⟨reg_congr h _, reg_congr h _, reg_congr h _⟩ h0
theorem TK.keep {a : Nat} {s t u : State} (h : Keep a t u) (ha : a.testBit 1 = false) (h0 : TK s t) : TK s u := TK.same (h.regs ha) h0
theorem TK.ite {p : Prop} [Decidable p] {s a b : State} (ha : TK s a) (hb : TK s b) : TK s (if p then a else b) := by split <;> assumption
theorem TK.of_mk {s t : State} (h : TK s t) {x0 x2 x3 x4 x5 x6 x7 x8 x9 x10 x11 x12 x13 x14 x15 x16 x17 x18 x19 x20 x21 x22 x23 x24 x25} : TK s (State.mk x0 t.regs x2 x3 x4 x5 x6 x7 x8 x9 x10 x11 x12 x13 x14 x15 x16 x17 x18 x19 x20 x21 x22 x23 x24 x25) :=
  TK.same (t := t) rfl h
theorem TK.each {α : Type} {f : State → α → State} {l : List α} {s0 s : State} (h : TK s0 s) (hf : ∀ s x, TK s (f s x)) : TK s0 (s.each l f) := by
  unfold State.each
  induction l generalizing s with
  | nil => exact h
  | cons x l ih => exact ih (TK.step (hf s x) h)
theorem TK.rb {s t u : State} {l : List Nat} (h : t.regsBut l u) (h1 : 0x1040 ∉ l) (h2 : 0x1044 ∉ l) (h3 : 0x104C ∉ l) (h0 : TK s t) : TK s u := TK.step ⟨h _ h1, h _ h2, h _ h3⟩ h0
theorem TK.setReg {s t : State} {a : Nat} {w : Word} (h : TK s t) (ha : a ≠ 0x1040 ∧ a ≠ 0x1044 ∧ a ≠ 0x104C) : TK s (t.setReg a w) :=
  TK.step ⟨reg_setReg_ne ha.1.symm, reg_setReg_ne ha.2.1.symm, reg_setReg_ne ha.2.2.symm⟩ h
theorem TK.wr {s t : State} {f : Fld} {v : Nat} (h : TK s t) (ha : f.addr ≠ 0x1040 ∧ f.addr ≠ 0x1044 ∧ f.addr ≠ 0x104C) : TK s (t.wr f v) := TK.setReg h ha
theorem TK.wrb {s t : State} {f : Fld} {b : Bool} (h : TK s t) (ha : f.addr ≠ 0x1040 ∧ f.addr ≠ 0x1044 ∧ f.addr ≠ 0x104C) : TK s (t.wrb f b) := TK.wr h ha
theorem TK.bump {s t : State} {f : Fld} (h : TK s t) (ha : f.addr ≠ 0x1040 ∧ f.addr ≠ 0x1044 ∧ f.addr ≠ 0x104C) : TK s (t.bump f) := TK.setReg h ha
theorem TK.bumpBy {s t : State} {f : Fld} {n : Nat} (h : TK s t) (ha : f.addr ≠ 0x1040 ∧ f.addr ≠ 0x1044 ∧ f.addr ≠ 0x104C) : TK s (t.bumpBy f n) := TK.setReg h ha
theorem TK.bumpSat {s t : State} {f : Fld} (h : TK s t) (ha : f.addr ≠ 0x1040 ∧ f.addr ≠ 0x1044 ∧ f.addr ≠ 0x104C) : TK s (t.bumpSat f) := TK.ite (TK.wr h ha) h
theorem TK.wr64 {s t : State} {f g : Fld} {v : Nat} (h : TK s t) (ha : f.addr ≠ 0x1040 ∧ f.addr ≠ 0x1044 ∧ f.addr ≠ 0x104C) (hb : g.addr ≠ 0x1040 ∧ g.addr ≠ 0x1044 ∧ g.addr ≠ 0x104C) :
    TK s (t.wr64 f g v) := TK.wr (TK.wr h ha) hb
theorem TK.setBitArr {s t : State} {f : Fld} {n : Nat} {b : Bool} (h : TK s t) (ha : f.addr + 4 * (n / 32) ≠ 0x1040 ∧ f.addr + 4 * (n / 32) ≠ 0x1044 ∧ f.addr + 4 * (n / 32) ≠ 0x104C) : TK s (t.setBitArr f n b) :=
  TK.setReg h ha
theorem TK.source {s t : State} {p n : Nat} {v : Bool} (h : TK s t) : TK s (t.source p n v) :=
  TK.rb (RB.source fun _ h => h) (far (by omega) (by omega) (by omega)) (far (by omega) (by omega) (by omega)) (far (by omega) (by omega) (by omega)) h
theorem TK.pulse {s t : State} {p n : Nat} (h : TK s t) : TK s (t.pulse p n) :=
  TK.rb (RB.pulse fun _ h => h) (far (by omega) (by omega) (by omega)) (far (by omega) (by omega) (by omega)) (far (by omega) (by omega) (by omega)) h
theorem TK.edge {s t : State} {p n : Nat} (h : TK s t) : TK s (t.edge p n) := by
  refine TK.step ⟨reg_edge ?_ ?_, reg_edge ?_ ?_, reg_edge ?_ ?_⟩ h <;> simp only [Fld.pg, F.FLT_LATCH, F.EVT_COUNT] <;> omega
theorem TK.setInputBit {s t : State} {f : Fld} {n : Nat} {b : Bool} (h : TK s t) (ha : f.addr ≠ 0x1040 ∧ f.addr ≠ 0x1044 ∧ f.addr ≠ 0x104C) : TK s (t.setInputBit f n b) := TK.setReg h ha
theorem TK.laneWr {s t : State} {f : Fld} {n v : Nat} (h : TK s t) (ha : (f.pg n).addr ≠ 0x1040 ∧ (f.pg n).addr ≠ 0x1044 ∧ (f.pg n).addr ≠ 0x104C) : TK s (t.laneWr n f v) := TK.setReg h ha
theorem TK.wrAll {s t : State} {x : List (Fld × Nat)} (h : TK s t) (ha : ∀ p ∈ x, p.1.addr ≠ 0x1040 ∧ p.1.addr ≠ 0x1044 ∧ p.1.addr ≠ 0x104C) : TK s (t.wrAll x) :=
  TK.step ⟨reg_wrAll fun p hp => (ha p hp).1, reg_wrAll fun p hp => (ha p hp).2.1, reg_wrAll fun p hp => (ha p hp).2.2⟩ h
theorem TK.fold {α : Type} {f : State → α → State} {l : List α} {s0 s : State} (h : TK s0 s) (hf : ∀ s x, TK s (f s x)) : TK s0 (l.foldl f s) := TK.each h hf
theorem TK.ite_snd {α : Type} {p : Prop} [Decidable p] {s : State} {a b : α × State} (ha : TK s a.2) (hb : TK s b.2) : TK s (if p then a else b).2 := by split <;> assumption
theorem TK.tick {s t : State} (h : TK s t) : t.tick = s.tick := by
  unfold State.tick State.rd64 State.rd
  rw [show F.TICK_NUM_LO.addr = 0x1040 from rfl, show F.TICK_NUM_HI.addr = 0x1044 from rfl, h.1, h.2.1]
theorem TK.run {s t : State} (h : TK s t) : t.rd F.TICK_STAT_RUNNING = s.rd F.TICK_STAT_RUNNING := by
  unfold State.rd
  rw [show F.TICK_STAT_RUNNING.addr = 0x104C from rfl, h.2.2]

theorem tk_queueEvent {s : State} {x0} : TK s (State.queueEvent s x0) := by
  unfold State.queueEvent
  try extract_lets
  repeat' first
    | (with_reducible apply TK.refl)
    | ((with_reducible refine TK.bumpSat ?_ (by first | decide | (simp only [Fld.pg, Fld.ix, Fld.ring, Fld.rx, Fld.tx, pbaAddr, F.RING_STAT_DROP]; omega))))
    | ((with_reducible refine TK.pulse ?_))
    | (show Nat.testBit _ _ = false; rfl)
    | (with_reducible apply TK.ite <;> try extract_lets)
    | (dsimp only)
    | (split <;> try extract_lets)
    | (dsimp +zetaDelta only; split <;> try extract_lets)
    | (with_reducible apply TK.of_mk)

theorem tk_showLog {s : State} : TK s (State.showLog s) := by
  unfold State.showLog
  try extract_lets
  repeat' first
    | (with_reducible apply TK.refl)
    | ((with_reducible refine TK.wrAll ?_ (by simp only [List.mem_cons, List.not_mem_nil, or_false, forall_eq_or_imp, forall_eq, Fld.pg, Fld.ix, Fld.ring, F.LOG_HEAD, F.LOG_OLDEST, F.LOG_STAT_STAGED]; omega)))
    | (show Nat.testBit _ _ = false; rfl)
    | (with_reducible apply TK.ite <;> try extract_lets)
    | (dsimp only)
    | (split <;> try extract_lets)
    | (dsimp +zetaDelta only; split <;> try extract_lets)
    | (with_reducible apply TK.of_mk)

theorem tk_stageRec {s : State} {x0} : TK s (State.stageRec s x0) := by
  unfold State.stageRec
  try extract_lets
  repeat' first
    | (with_reducible apply TK.refl)
    | ((with_reducible refine TK.bump ?_ (by first | decide | (simp only [Fld.pg, Fld.ix, Fld.ring, Fld.rx, Fld.tx, pbaAddr, F.LOG_DROP]; omega))))
    | ((with_reducible refine TK.pulse ?_))
    | (with_reducible apply TK.step tk_showLog)
    | (show Nat.testBit _ _ = false; rfl)
    | (with_reducible apply TK.ite <;> try extract_lets)
    | (dsimp only)
    | (split <;> try extract_lets)
    | (dsimp +zetaDelta only; split <;> try extract_lets)
    | (with_reducible apply TK.of_mk)

theorem tk_record {s : State} {x0 x1 x2 x3 x4} : TK s (State.record s x0 x1 x2 x3 x4) := by
  unfold State.record
  try extract_lets
  repeat' first
    | (with_reducible apply TK.refl)
    | (with_reducible apply TK.step tk_stageRec)
    | (with_reducible apply TK.step tk_queueEvent)
    | (show Nat.testBit _ _ = false; rfl)
    | (with_reducible apply TK.ite <;> try extract_lets)
    | (dsimp only)
    | (split <;> try extract_lets)
    | (dsimp +zetaDelta only; split <;> try extract_lets)
    | (with_reducible apply TK.of_mk)

theorem tk_sendVec {s : State} {x0} : TK s (State.sendVec s x0) := by
  unfold State.sendVec
  try extract_lets
  repeat' first
    | (with_reducible apply TK.refl)
    | ((with_reducible refine TK.setReg ?_ (by first | decide | (simp only [Fld.pg, Fld.ix, Fld.ring, Fld.rx, Fld.tx, pbaAddr, F.HOST_CTRL_RING_OWNER]; omega))))
    | (with_reducible apply TK.keep keep_put)
    | (show Nat.testBit _ _ = false; rfl)
    | (with_reducible apply TK.ite <;> try extract_lets)
    | (dsimp only)
    | (split <;> try extract_lets)
    | (dsimp +zetaDelta only; split <;> try extract_lets)
    | (with_reducible apply TK.of_mk)

theorem tk_showClaim {s : State} : TK s (State.showClaim s) := by
  unfold State.showClaim
  try extract_lets
  repeat' first
    | (with_reducible apply TK.refl)
    | ((with_reducible refine TK.wr ?_ (by first | decide | (simp only [Fld.pg, Fld.ix, Fld.ring, Fld.rx, Fld.tx, pbaAddr, F.PAIR_CLAIM_OWN]; omega))))
    | (show Nat.testBit _ _ = false; rfl)
    | (with_reducible apply TK.ite <;> try extract_lets)
    | (dsimp only)
    | (split <;> try extract_lets)
    | (dsimp +zetaDelta only; split <;> try extract_lets)
    | (with_reducible apply TK.of_mk)

theorem tk_toRole {s : State} {x0 x1} : TK s (State.toRole s x0 x1) := by
  unfold State.toRole
  try extract_lets
  repeat' first
    | (with_reducible apply TK.refl)
    | ((with_reducible refine TK.wr ?_ (by first | decide | (simp only [Fld.pg, Fld.ix, Fld.ring, Fld.rx, Fld.tx, pbaAddr, F.PAIR_CLAIM_PEER, F.PAIR_LAST, F.PAIR_LAST_TICK_HI, F.PAIR_LAST_TICK_LO]; omega))))
    | ((with_reducible refine TK.wr64 ?_ (by first | decide | (simp only [Fld.pg, Fld.ix, Fld.ring, Fld.rx, Fld.tx, pbaAddr, F.PAIR_CLAIM_PEER, F.PAIR_LAST, F.PAIR_LAST_TICK_HI, F.PAIR_LAST_TICK_LO]; omega)) (by first | decide | (simp only [Fld.pg, Fld.ix, Fld.ring, Fld.rx, Fld.tx, pbaAddr, F.PAIR_CLAIM_PEER, F.PAIR_LAST, F.PAIR_LAST_TICK_HI, F.PAIR_LAST_TICK_LO]; omega))))
    | (with_reducible apply TK.step tk_showClaim)
    | (with_reducible apply TK.keep keep_setPair)
    | (with_reducible apply TK.step tk_record)
    | (show Nat.testBit _ _ = false; rfl)
    | (with_reducible apply TK.ite <;> try extract_lets)
    | (dsimp only)
    | (split <;> try extract_lets)
    | (dsimp +zetaDelta only; split <;> try extract_lets)
    | (with_reducible apply TK.of_mk)

theorem tk_mergeFrame {s : State} {x0 x1 x2} : TK s (State.mergeFrame s x0 x1 x2) := by
  unfold State.mergeFrame
  try extract_lets
  repeat' first
    | (with_reducible apply TK.refl)
    | ((with_reducible refine TK.wr ?_ (by first | decide | (simp only [Fld.pg, Fld.ix, Fld.ring, Fld.rx, Fld.tx, pbaAddr, F.CLM_GAP_CNT, F.CLM_MERGE, F.CLM_MSEL_TDM_MUTED, F.CLM_MSEL_TDM_SEL, F.CLM_MTDM_PRIMARY, F.CLM_MUTE_CNT, F.CLM_SWITCH_CNT, F.TDM_CHMAP_IN_BASE]; omega))))
    | ((with_reducible refine TK.bump ?_ (by first | decide | (simp only [Fld.pg, Fld.ix, Fld.ring, Fld.rx, Fld.tx, pbaAddr, F.CLM_GAP_CNT, F.CLM_MERGE, F.CLM_MSEL_TDM_MUTED, F.CLM_MSEL_TDM_SEL, F.CLM_MTDM_PRIMARY, F.CLM_MUTE_CNT, F.CLM_SWITCH_CNT, F.TDM_CHMAP_IN_BASE]; omega))))
    | ((with_reducible refine TK.pulse ?_))
    | (with_reducible apply TK.keep keep_setMerge)
    | (with_reducible apply TK.keep keep_captureAll)
    | (show Nat.testBit _ _ = false; rfl)
    | (with_reducible apply TK.ite <;> try extract_lets)
    | (dsimp only)
    | (split <;> try extract_lets)
    | (dsimp +zetaDelta only; split <;> try extract_lets)
    | (with_reducible apply TK.of_mk)

theorem tk_mergeUpTo {s : State} {x0 x1 x2} : TK s (State.mergeUpTo s x0 x1 x2) := by
  induction x1 generalizing s with
  | zero => exact TK.refl
  | succ k ih =>
    unfold State.mergeUpTo
    dsimp only
    with_reducible exact TK.ite TK.refl (TK.step ih tk_mergeFrame)

theorem tk_portsTick {s : State} : TK s (State.portsTick s) := by
  unfold State.portsTick
  try extract_lets
  repeat' first
    | (with_reducible apply TK.refl)
    | ((with_reducible refine TK.bumpSat ?_ (by first | decide | (simp only [Fld.pg, Fld.ix, Fld.ring, Fld.rx, Fld.tx, pbaAddr, F.CLM_MTDM_EN, F.TDM_CTRL_ASRC, F.TDM_CTRL_DIR, F.TDM_CTRL_MASTER, F.TDM_SLIP_CNT_IN, F.TDM_SLIP_CNT_OUT, F.TDM_STAT_STATE]; omega))))
    | ((with_reducible refine TK.pulse ?_))
    | (with_reducible apply TK.keep keep_aoutTick)
    | (with_reducible apply TK.keep keep_asrcIn)
    | (with_reducible apply TK.keep keep_setAin)
    | (with_reducible apply TK.step tk_mergeUpTo)
    | (with_reducible apply TK.keep keep_setMerge)
    | (with_reducible apply TK.keep keep_setTdm)
    | (show Nat.testBit _ _ = false; rfl)
    | (with_reducible apply TK.ite <;> try extract_lets)
    | (with_reducible apply TK.each <;> try intro s x <;> try extract_lets)
    | (dsimp only)
    | (split <;> try extract_lets)
    | (dsimp +zetaDelta only; split <;> try extract_lets)
    | (with_reducible apply TK.of_mk)

theorem tk_slRecord {s : State} {x0 x1 x2} : TK s (State.slRecord s x0 x1 x2) := by
  unfold State.slRecord
  try extract_lets
  repeat' first
    | (with_reducible apply TK.refl)
    | (with_reducible apply TK.step tk_record)
    | (show Nat.testBit _ _ = false; rfl)
    | (with_reducible apply TK.ite <;> try extract_lets)
    | (dsimp only)
    | (split <;> try extract_lets)
    | (dsimp +zetaDelta only; split <;> try extract_lets)
    | (with_reducible apply TK.of_mk)

theorem tk_showLines {s : State} : TK s (State.showLines s) := by
  unfold State.showLines
  try extract_lets
  repeat' first
    | (with_reducible apply TK.refl)
    | ((with_reducible refine TK.wrAll ?_ (by simp only [List.mem_cons, List.not_mem_nil, or_false, forall_eq_or_imp, forall_eq, Fld.pg, Fld.ix, Fld.ring, F.SL_LINES_OK, F.SL_LINES_VALID, F.SL_STAT_LINES_FAULTED]; omega)))
    | ((with_reducible refine TK.source ?_))
    | (show Nat.testBit _ _ = false; rfl)
    | (with_reducible apply TK.ite <;> try extract_lets)
    | (with_reducible apply TK.each <;> try intro s x <;> try extract_lets)
    | (dsimp only)
    | (split <;> try extract_lets)
    | (dsimp +zetaDelta only; split <;> try extract_lets)
    | (with_reducible apply TK.of_mk)

theorem tk_lineTo {s : State} {x0 x1 x2 x3 x4} : TK s (State.lineTo s x0 x1 x2 x3 x4) := by
  unfold State.lineTo
  try extract_lets
  repeat' first
    | (with_reducible apply TK.refl)
    | (with_reducible apply TK.step tk_showLines)
    | (with_reducible apply TK.step tk_slRecord)
    | (with_reducible apply TK.keep keep_setLineBits)
    | (show Nat.testBit _ _ = false; rfl)
    | (with_reducible apply TK.ite <;> try extract_lets)
    | (dsimp only)
    | (split <;> try extract_lets)
    | (dsimp +zetaDelta only; split <;> try extract_lets)
    | (with_reducible apply TK.of_mk)

theorem tk_lineMove {s : State} {x0 x1} : TK s (State.lineMove s x0 x1) := by
  unfold State.lineMove
  try extract_lets
  repeat' first
    | (with_reducible apply TK.refl)
    | (with_reducible apply TK.step tk_lineTo)
    | (with_reducible apply TK.keep keep_open_)
    | (show Nat.testBit _ _ = false; rfl)
    | (with_reducible apply TK.ite <;> try extract_lets)
    | (dsimp only)
    | (split <;> try extract_lets)
    | (dsimp +zetaDelta only; split <;> try extract_lets)
    | (with_reducible apply TK.of_mk)

theorem tk_startLearn {s : State} : TK s (State.startLearn s) := by
  unfold State.startLearn
  try extract_lets
  repeat' first
    | (with_reducible apply TK.refl)
    | (with_reducible apply TK.step tk_lineMove)
    | (with_reducible apply TK.keep keep_setLineSt)
    | (show Nat.testBit _ _ = false; rfl)
    | (with_reducible apply TK.ite <;> try extract_lets)
    | (with_reducible apply TK.each <;> try intro s x <;> try extract_lets)
    | (dsimp only)
    | (split <;> try extract_lets)
    | (dsimp +zetaDelta only; split <;> try extract_lets)
    | (with_reducible apply TK.of_mk)

theorem tk_showCand {s : State} {x0 x1 x2} : TK s (State.showCand s x0 x1 x2) := by
  unfold State.showCand
  try extract_lets
  repeat' first
    | (with_reducible apply TK.refl)
    | ((with_reducible refine TK.wrAll ?_ (by simp only [List.mem_cons, List.not_mem_nil, or_false, forall_eq_or_imp, forall_eq, Fld.pg, Fld.ix, Fld.ring, F.REF_MEAS_QUALIFIED, F.REF_MEAS_USABLE, F.REF_QUAL_QUALIFIED, F.REF_QUAL_USABLE]; omega)))
    | (show Nat.testBit _ _ = false; rfl)
    | (with_reducible apply TK.ite <;> try extract_lets)
    | (dsimp only)
    | (split <;> try extract_lets)
    | (dsimp +zetaDelta only; split <;> try extract_lets)
    | (with_reducible apply TK.of_mk)

theorem tk_dpllTo {s : State} {x0 x1 x2} : TK s (State.dpllTo s x0 x1 x2) := by
  unfold State.dpllTo
  try extract_lets
  repeat' first
    | (with_reducible apply TK.refl)
    | ((with_reducible refine TK.wrAll ?_ (by simp only [List.mem_cons, List.not_mem_nil, or_false, forall_eq_or_imp, forall_eq, Fld.pg, Fld.ix, Fld.ring, F.REF_STAT_SLEWING, F.REF_STAT_STATE, F.REF_STAT_STEP]; omega)))
    | ((with_reducible refine TK.source ?_))
    | (with_reducible apply TK.keep keep_setClk)
    | (show Nat.testBit _ _ = false; rfl)
    | (with_reducible apply TK.ite <;> try extract_lets)
    | (dsimp only)
    | (split <;> try extract_lets)
    | (dsimp +zetaDelta only; split <;> try extract_lets)
    | (with_reducible apply TK.of_mk)

theorem tk_buildOut {s : State} : TK s (State.buildOut s) := by
  unfold State.buildOut
  try extract_lets
  repeat' first
    | (with_reducible apply TK.refl)
    | ((with_reducible refine TK.wr ?_ (by first | decide | (simp only [Fld.pg, Fld.ix, Fld.ring, Fld.rx, Fld.tx, pbaAddr, F.REF_PD]; omega))))
    | (show Nat.testBit _ _ = false; rfl)
    | (with_reducible apply TK.ite <;> try extract_lets)
    | (dsimp only)
    | (split <;> try extract_lets)
    | (dsimp +zetaDelta only; split <;> try extract_lets)
    | (with_reducible apply TK.of_mk)

theorem tk_toHoldover {s : State} : TK s (State.toHoldover s) := by
  unfold State.toHoldover
  try extract_lets
  repeat' first
    | (with_reducible apply TK.refl)
    | ((with_reducible refine TK.setReg ?_ (by first | decide | (simp only [Fld.pg, Fld.ix, Fld.ring, Fld.rx, Fld.tx, pbaAddr, F.REF_CTRL1_HOLD_AVG, F.REF_HOLD]; omega))))
    | (with_reducible apply TK.step tk_dpllTo)
    | (show Nat.testBit _ _ = false; rfl)
    | (with_reducible apply TK.ite <;> try extract_lets)
    | (dsimp only)
    | (split <;> try extract_lets)
    | (dsimp +zetaDelta only; split <;> try extract_lets)
    | (with_reducible apply TK.of_mk)

theorem tk_switchTo {s : State} {x0 x1} : TK s (State.switchTo s x0 x1) := by
  unfold State.switchTo
  cases x0 <;> dsimp only <;> repeat' first
    | (with_reducible apply TK.refl)
    | ((with_reducible refine TK.bump ?_ (by first | decide | (simp only [Fld.pg, Fld.ix, Fld.ring, Fld.rx, Fld.tx, pbaAddr, F.REF_LAST_CAUSE, F.REF_LAST_FROM, F.REF_LAST_TO, F.REF_STAT_SEL, F.REF_STAT_STATE, F.REF_STAT_STEP, F.REF_SWITCH_CNT]; omega))))
    | ((with_reducible refine TK.pulse ?_))
    | ((with_reducible refine TK.wrAll ?_ (by simp only [List.mem_cons, List.not_mem_nil, or_false, forall_eq_or_imp, forall_eq, Fld.pg, Fld.ix, Fld.ring, F.REF_LAST_CAUSE, F.REF_LAST_FROM, F.REF_LAST_TO, F.REF_STAT_SEL, F.REF_STAT_STATE, F.REF_STAT_STEP, F.REF_SWITCH_CNT]; omega)))
    | (with_reducible apply TK.keep keep_setClk)
    | (with_reducible apply TK.step tk_toHoldover)
    | (with_reducible apply TK.step tk_buildOut)
    | (with_reducible apply TK.step tk_dpllTo)
    | ((show Nat.testBit _ _ = false; rfl))
    | (with_reducible apply TK.ite <;> try extract_lets)
    | (dsimp only)
    | (with_reducible apply TK.of_mk)

theorem tk_refRole {s : State} : TK s (State.refRole s) := by
  unfold State.refRole
  try extract_lets
  repeat' first
    | (with_reducible apply TK.refl)
    | (with_reducible apply TK.step tk_switchTo)
    | (with_reducible apply TK.step tk_showCand)
    | (with_reducible apply TK.keep keep_setCand)
    | (show Nat.testBit _ _ = false; rfl)
    | (with_reducible apply TK.ite <;> try extract_lets)
    | (dsimp only)
    | (split <;> try extract_lets)
    | (dsimp +zetaDelta only; split <;> try extract_lets)
    | (with_reducible apply TK.of_mk)

theorem tk_showTime {s : State} {x0} : TK s (State.showTime s x0) := by
  unfold State.showTime
  try extract_lets
  repeat' first
    | (with_reducible apply TK.refl)
    | ((with_reducible refine TK.wrAll ?_ (by simp only [List.mem_cons, List.not_mem_nil, or_false, forall_eq_or_imp, forall_eq, Fld.pg, Fld.ix, Fld.ring, F.TD_FRAC, F.TD_NS, F.TD_SEC_HI, F.TD_SEC_LO]; omega)))
    | (show Nat.testBit _ _ = false; rfl)
    | (with_reducible apply TK.ite <;> try extract_lets)
    | (dsimp only)
    | (split <;> try extract_lets)
    | (dsimp +zetaDelta only; split <;> try extract_lets)
    | (with_reducible apply TK.of_mk)

theorem tk_refPeriods {s : State} {x0} : TK s (State.refPeriods s x0) := by
  unfold State.refPeriods
  try extract_lets
  repeat' first
    | (with_reducible apply TK.refl)
    | ((with_reducible refine TK.wr64 ?_ (by first | decide | (simp only [Fld.pg, Fld.ix, Fld.ring, Fld.rx, Fld.tx, pbaAddr, F.TDC_CNT_HI, F.TDC_CNT_LO, F.TDC_INC, F.TD_RATE]; omega)) (by first | decide | (simp only [Fld.pg, Fld.ix, Fld.ring, Fld.rx, Fld.tx, pbaAddr, F.TDC_CNT_HI, F.TDC_CNT_LO, F.TDC_INC, F.TD_RATE]; omega))))
    | (with_reducible apply TK.step tk_showTime)
    | (with_reducible apply TK.keep keep_setTd)
    | (with_reducible apply TK.keep keep_setNet)
    | (show Nat.testBit _ _ = false; rfl)
    | (with_reducible apply TK.ite <;> try extract_lets)
    | (with_reducible apply TK.each <;> try intro s x <;> try extract_lets)
    | (dsimp only)
    | (split <;> try extract_lets)
    | (dsimp +zetaDelta only; split <;> try extract_lets)
    | (with_reducible apply TK.of_mk)

theorem tk_setAnchor {s : State} {x0 x1} : TK s (State.setAnchor s x0 x1) := by
  unfold State.setAnchor
  try extract_lets
  repeat' first
    | (with_reducible apply TK.refl)
    | ((with_reducible refine TK.wr ?_ (by first | decide | (simp only [Fld.pg, Fld.ix, Fld.ring, Fld.rx, Fld.tx, pbaAddr, F.TD_ANCHOR_HI, F.TD_ANCHOR_LO, F.TD_STAT_ANCHORED]; omega))))
    | ((with_reducible refine TK.wr64 ?_ (by first | decide | (simp only [Fld.pg, Fld.ix, Fld.ring, Fld.rx, Fld.tx, pbaAddr, F.TD_ANCHOR_HI, F.TD_ANCHOR_LO, F.TD_STAT_ANCHORED]; omega)) (by first | decide | (simp only [Fld.pg, Fld.ix, Fld.ring, Fld.rx, Fld.tx, pbaAddr, F.TD_ANCHOR_HI, F.TD_ANCHOR_LO, F.TD_STAT_ANCHORED]; omega))))
    | (show Nat.testBit _ _ = false; rfl)
    | (with_reducible apply TK.ite <;> try extract_lets)
    | (dsimp only)
    | (split <;> try extract_lets)
    | (dsimp +zetaDelta only; split <;> try extract_lets)
    | (with_reducible apply TK.of_mk)

theorem tk_anchorTick {s : State} : TK s (State.anchorTick s) := by
  unfold State.anchorTick
  try extract_lets
  repeat' first
    | (with_reducible apply TK.refl)
    | (with_reducible apply TK.step tk_setAnchor)
    | (with_reducible apply TK.keep keep_setTd)
    | (with_reducible apply TK.keep keep_mirrorWrite)
    | (show Nat.testBit _ _ = false; rfl)
    | (with_reducible apply TK.ite <;> try extract_lets)
    | (with_reducible apply TK.each <;> try intro s x <;> try extract_lets)
    | (dsimp only)
    | (split <;> try extract_lets)
    | (dsimp +zetaDelta only; split <;> try extract_lets)
    | (with_reducible apply TK.of_mk)

theorem tk_streamsTick {s : State} : TK s (State.streamsTick s) := by
  unfold State.streamsTick
  try extract_lets
  repeat' first
    | (with_reducible apply TK.refl)
    | ((with_reducible refine TK.setBitArr ?_ (by first | decide | (simp only [Fld.pg, Fld.ix, Fld.ring, Fld.rx, Fld.tx, pbaAddr, F.STR_RX_ACT]; omega))))
    | (with_reducible apply TK.keep keep_setRx)
    | (show Nat.testBit _ _ = false; rfl)
    | (with_reducible apply TK.ite <;> try extract_lets)
    | (with_reducible apply TK.each <;> try intro s x <;> try extract_lets)
    | (dsimp only)
    | (split <;> try extract_lets)
    | (dsimp +zetaDelta only; split <;> try extract_lets)
    | (with_reducible apply TK.of_mk)

theorem tk_showDiss {s : State} : TK s (State.showDiss s) := by
  unfold State.showDiss
  try extract_lets
  repeat' first
    | (with_reducible apply TK.refl)
    | ((with_reducible refine TK.wrAll ?_ (by simp only [List.mem_cons, List.not_mem_nil, or_false, forall_eq_or_imp, forall_eq, Fld.pg, Fld.ix, Fld.ring, F.BANK_STAT_DISSOLVING, F.SCN_DISS_CNT_ACTIVE, F.SCN_DISS_CNT_WAITING, F.SCN_STAT_DISSOLVING]; omega)))
    | (show Nat.testBit _ _ = false; rfl)
    | (with_reducible apply TK.ite <;> try extract_lets)
    | (dsimp only)
    | (split <;> try extract_lets)
    | (dsimp +zetaDelta only; split <;> try extract_lets)
    | (with_reducible apply TK.of_mk)

theorem tk_changeInst {s : State} {x0 x1 x2 x3 x4} : TK s (State.changeInst s x0 x1 x2 x3 x4) := by
  unfold State.changeInst
  try extract_lets
  repeat' first
    | (with_reducible apply TK.refl)
    | ((with_reducible refine TK.bump ?_ (by first | decide | (simp only [Fld.pg, Fld.ix, Fld.ring, Fld.rx, Fld.tx, pbaAddr, F.DISS_WAIT]; omega))))
    | ((with_reducible refine TK.pulse ?_))
    | (with_reducible apply TK.step tk_showDiss)
    | (with_reducible apply TK.keep keep_setInst)
    | (show Nat.testBit _ _ = false; rfl)
    | (with_reducible apply TK.ite <;> try extract_lets)
    | (dsimp only)
    | (split <;> try extract_lets)
    | (dsimp +zetaDelta only; split <;> try extract_lets)
    | (with_reducible apply TK.of_mk)

theorem tk_applyInsts {s : State} {x0 x1 x2 x3} : TK s (State.applyInsts s x0 x1 x2 x3) := by
  unfold State.applyInsts
  try extract_lets
  repeat' first
    | (with_reducible apply TK.refl)
    | (with_reducible apply TK.step tk_changeInst)
    | (show Nat.testBit _ _ = false; rfl)
    | (with_reducible apply TK.ite <;> try extract_lets)
    | (with_reducible apply TK.each <;> try intro s x <;> try extract_lets)
    | (dsimp only)
    | (split <;> try extract_lets)
    | (dsimp +zetaDelta only; split <;> try extract_lets)
    | (with_reducible apply TK.of_mk)

theorem tk_takeOver {s : State} : TK s (State.takeOver s) := by
  unfold State.takeOver
  try extract_lets
  repeat' first
    | (with_reducible apply TK.refl)
    | (with_reducible apply TK.step tk_applyInsts)
    | (with_reducible apply TK.keep keep_loadCluster)
    | (with_reducible apply TK.step tk_showDiss)
    | (show Nat.testBit _ _ = false; rfl)
    | (with_reducible apply TK.ite <;> try extract_lets)
    | (with_reducible apply TK.each <;> try intro s x <;> try extract_lets)
    | (dsimp only)
    | (split <;> try extract_lets)
    | (dsimp +zetaDelta only; split <;> try extract_lets)
    | (with_reducible apply TK.of_mk)

theorem tk_sampleInput {s : State} {x0 x1 x2} : TK s (State.sampleInput s x0 x1 x2) := by
  unfold State.sampleInput
  try extract_lets
  repeat' first
    | (with_reducible apply TK.refl)
    | ((with_reducible refine TK.setInputBit ?_ (by first | decide | (simp only [Fld.pg, Fld.ix, Fld.ring, Fld.rx, Fld.tx, pbaAddr, F.TRIG_CFG_EN, F.TRIG_CFG_INVERT, F.TRIG_STAT_LVL_N, F.TRIG_STAT_LVL_P]; omega))))
    | (with_reducible apply TK.keep keep_setTrig)
    | (show Nat.testBit _ _ = false; rfl)
    | (with_reducible apply TK.ite <;> try extract_lets)
    | (dsimp only)
    | (split <;> try extract_lets)
    | (dsimp +zetaDelta only; split <;> try extract_lets)
    | (with_reducible apply TK.of_mk)

theorem tk_sampleTriggers {s : State} {x0 x1} : TK s (State.sampleTriggers s x0 x1) := by
  unfold State.sampleTriggers
  try extract_lets
  repeat' first
    | (with_reducible apply TK.refl)
    | (with_reducible apply TK.step tk_sampleInput)
    | (show Nat.testBit _ _ = false; rfl)
    | (with_reducible apply TK.ite <;> try extract_lets)
    | (with_reducible apply TK.each <;> try intro s x <;> try extract_lets)
    | (dsimp only)
    | (split <;> try extract_lets)
    | (dsimp +zetaDelta only; split <;> try extract_lets)
    | (with_reducible apply TK.of_mk)

theorem tk_claimUpdate {s : State} : TK s (State.claimUpdate s) := by
  unfold State.claimUpdate
  try extract_lets
  repeat' first
    | (with_reducible apply TK.refl)
    | ((with_reducible refine TK.wr ?_ (by first | decide | (simp only [Fld.pg, Fld.ix, Fld.ring, Fld.rx, Fld.tx, pbaAddr, F.DEV_STAT_ROLE, F.STR_CONC]; omega))))
    | (with_reducible apply TK.step tk_showClaim)
    | (with_reducible apply TK.keep keep_setPair)
    | (show Nat.testBit _ _ = false; rfl)
    | (with_reducible apply TK.ite <;> try extract_lets)
    | (dsimp only)
    | (split <;> try extract_lets)
    | (dsimp +zetaDelta only; split <;> try extract_lets)
    | (with_reducible apply TK.of_mk)

theorem tk_yieldUnit {s : State} {x0} : TK s (State.yieldUnit s x0) := by
  unfold State.yieldUnit
  try extract_lets
  repeat' first
    | (with_reducible apply TK.refl)
    | (with_reducible apply TK.step tk_refRole)
    | (with_reducible apply TK.step tk_toRole)
    | (with_reducible apply TK.step tk_showClaim)
    | (show Nat.testBit _ _ = false; rfl)
    | (with_reducible apply TK.ite <;> try extract_lets)
    | (dsimp only)
    | (split <;> try extract_lets)
    | (dsimp +zetaDelta only; split <;> try extract_lets)
    | (with_reducible apply TK.of_mk)

theorem tk_macLink {s : State} {x0 x1} : TK s (State.macLink s x0 x1) := by
  unfold State.macLink
  extract_lets
  refine TK.source (TK.ite ?_ ?_)
  · (with_reducible refine TK.wrAll ?_ (by simp only [List.mem_cons, List.not_mem_nil, or_false, forall_eq_or_imp, forall_eq, Fld.pg, Fld.ix, Fld.ring, F.LANE_STAT_ALIGNED, F.LANE_STAT_CDR_LOCK, F.LANE_STAT_RATE, F.LANE_STAT_STATE, F.LANE_STAT_UP, F.PB_STAT_LANES_UP, F.PB_STAT_STATE, F.PB_STAT_RATE, F.PB_LANE0_STAT_UP, F.PB_LANE0_STAT_ALIGNED, F.PB_LANE0_STAT_DESKEW_OK, F.MAC_STAT_LINK, F.MAC_STAT_FEC_LOCK, F.MAC_STAT_SPEED_ACT, F.MAC_STAT_FULL]; omega))
    (with_reducible refine TK.wrAll ?_ (by simp only [List.mem_cons, List.not_mem_nil, or_false, forall_eq_or_imp, forall_eq, Fld.pg, Fld.ix, Fld.ring, F.LANE_STAT_ALIGNED, F.LANE_STAT_CDR_LOCK, F.LANE_STAT_RATE, F.LANE_STAT_STATE, F.LANE_STAT_UP, F.PB_STAT_LANES_UP, F.PB_STAT_STATE, F.PB_STAT_RATE, F.PB_LANE0_STAT_UP, F.PB_LANE0_STAT_ALIGNED, F.PB_LANE0_STAT_DESKEW_OK, F.MAC_STAT_LINK, F.MAC_STAT_FEC_LOCK, F.MAC_STAT_SPEED_ACT, F.MAC_STAT_FULL]; omega))
    exact TK.refl
  · (with_reducible refine TK.wrAll ?_ (by simp only [List.mem_cons, List.not_mem_nil, or_false, forall_eq_or_imp, forall_eq, Fld.pg, Fld.ix, Fld.ring, F.LANE_STAT_ALIGNED, F.LANE_STAT_CDR_LOCK, F.LANE_STAT_RATE, F.LANE_STAT_STATE, F.LANE_STAT_UP, F.PB_STAT_LANES_UP, F.PB_STAT_STATE, F.PB_STAT_RATE, F.PB_LANE0_STAT_UP, F.PB_LANE0_STAT_ALIGNED, F.PB_LANE0_STAT_DESKEW_OK, F.MAC_STAT_LINK, F.MAC_STAT_FEC_LOCK, F.MAC_STAT_SPEED_ACT, F.MAC_STAT_FULL]; omega))
    exact TK.refl

theorem tk_ownerDown {s : State} {x0} : TK s (State.ownerDown s x0) := by
  unfold State.ownerDown
  extract_lets
  refine TK.ite (TK.ite tk_macLink TK.refl) (TK.ite ?_ ?_)
  · (with_reducible refine TK.wrAll ?_ (by simp only [List.mem_cons, List.not_mem_nil, or_false, forall_eq_or_imp, forall_eq, Fld.pg, Fld.ix, Fld.ring, F.LANE_STAT_ALIGNED, F.LANE_STAT_CDR_LOCK, F.LANE_STAT_RATE, F.LANE_STAT_STATE, F.LANE_STAT_UP, F.PB_STAT_LANES_UP, F.PB_STAT_STATE, F.PB_STAT_RATE, F.PB_LANE0_STAT_UP, F.PB_LANE0_STAT_ALIGNED, F.PB_LANE0_STAT_DESKEW_OK, F.MAC_STAT_LINK, F.MAC_STAT_FEC_LOCK, F.MAC_STAT_SPEED_ACT, F.MAC_STAT_FULL]; omega))
    (with_reducible refine TK.wrAll ?_ (by simp only [List.mem_cons, List.not_mem_nil, or_false, forall_eq_or_imp, forall_eq, Fld.pg, Fld.ix, Fld.ring, F.LANE_STAT_ALIGNED, F.LANE_STAT_CDR_LOCK, F.LANE_STAT_RATE, F.LANE_STAT_STATE, F.LANE_STAT_UP, F.PB_STAT_LANES_UP, F.PB_STAT_STATE, F.PB_STAT_RATE, F.PB_LANE0_STAT_UP, F.PB_LANE0_STAT_ALIGNED, F.PB_LANE0_STAT_DESKEW_OK, F.MAC_STAT_LINK, F.MAC_STAT_FEC_LOCK, F.MAC_STAT_SPEED_ACT, F.MAC_STAT_FULL]; omega))
    exact TK.refl
  · (with_reducible refine TK.wrAll ?_ (by simp only [List.mem_cons, List.not_mem_nil, or_false, forall_eq_or_imp, forall_eq, Fld.pg, Fld.ix, Fld.ring, F.LANE_STAT_ALIGNED, F.LANE_STAT_CDR_LOCK, F.LANE_STAT_RATE, F.LANE_STAT_STATE, F.LANE_STAT_UP, F.PB_STAT_LANES_UP, F.PB_STAT_STATE, F.PB_STAT_RATE, F.PB_LANE0_STAT_UP, F.PB_LANE0_STAT_ALIGNED, F.PB_LANE0_STAT_DESKEW_OK, F.MAC_STAT_LINK, F.MAC_STAT_FEC_LOCK, F.MAC_STAT_SPEED_ACT, F.MAC_STAT_FULL]; omega))
    exact TK.refl

theorem tk_laneRest {s : State} {x0 x1} : TK s (State.laneRest s x0 x1) := by
  unfold State.laneRest
  extract_lets
  refine TK.ite (TK.step tk_ownerDown ?_) ?_
  all_goals
    (with_reducible refine TK.wrAll ?_ (by simp only [List.mem_cons, List.not_mem_nil, or_false, forall_eq_or_imp, forall_eq, Fld.pg, Fld.ix, Fld.ring, F.LANE_STAT_ALIGNED, F.LANE_STAT_CDR_LOCK, F.LANE_STAT_RATE, F.LANE_STAT_STATE, F.LANE_STAT_UP, F.PB_STAT_LANES_UP, F.PB_STAT_STATE, F.PB_STAT_RATE, F.PB_LANE0_STAT_UP, F.PB_LANE0_STAT_ALIGNED, F.PB_LANE0_STAT_DESKEW_OK, F.MAC_STAT_LINK, F.MAC_STAT_FEC_LOCK, F.MAC_STAT_SPEED_ACT, F.MAC_STAT_FULL]; omega))
    exact TK.refl

theorem tk_laneRequest {s : State} {x0} : TK s (State.laneRequest s x0) := by
  unfold State.laneRequest
  try extract_lets
  repeat' first
    | (with_reducible apply TK.refl)
    | ((with_reducible refine TK.laneWr ?_ (by first | decide | (simp only [Fld.pg, Fld.ix, Fld.ring, Fld.rx, Fld.tx, pbaAddr, F.LANE_STAT_ALIGNED, F.LANE_STAT_CDR_LOCK, F.LANE_STAT_RATE, F.LANE_STAT_STATE, F.LANE_STAT_UP]; omega))))
    | ((with_reducible refine TK.wrAll ?_ (by simp only [List.mem_cons, List.not_mem_nil, or_false, forall_eq_or_imp, forall_eq, Fld.pg, Fld.ix, Fld.ring, F.LANE_STAT_ALIGNED, F.LANE_STAT_CDR_LOCK, F.LANE_STAT_RATE, F.LANE_STAT_STATE, F.LANE_STAT_UP]; omega)))
    | (with_reducible apply TK.step tk_laneRest)
    | (show Nat.testBit _ _ = false; rfl)
    | (with_reducible apply TK.ite <;> try extract_lets)
    | (dsimp only)
    | (split <;> try extract_lets)
    | (dsimp +zetaDelta only; split <;> try extract_lets)
    | (with_reducible apply TK.of_mk)

theorem tk_lanesTick {s : State} : TK s (State.lanesTick s) := by
  unfold State.lanesTick
  try extract_lets
  repeat' first
    | (with_reducible apply TK.refl)
    | (with_reducible apply TK.step tk_laneRequest)
    | (show Nat.testBit _ _ = false; rfl)
    | (with_reducible apply TK.ite <;> try extract_lets)
    | (with_reducible apply TK.each <;> try intro s x <;> try extract_lets)
    | (dsimp only)
    | (split <;> try extract_lets)
    | (dsimp +zetaDelta only; split <;> try extract_lets)
    | (with_reducible apply TK.of_mk)

theorem tk_energyTick {s : State} : TK s (State.energyTick s) := by
  unfold State.energyTick
  try extract_lets
  repeat' first
    | (with_reducible apply TK.refl)
    | ((with_reducible refine TK.wr ?_ (by first | decide | (simp only [Fld.pg, Fld.ix, Fld.ring, Fld.rx, Fld.tx, pbaAddr, F.CL_TICK_CYC, F.EN_CAL, F.EN_CLUSTER_UJ, F.EN_DRAM_UJ, F.EN_OTHER_UJ, F.EN_STATIC_EXP_MW, F.EN_TICK, F.EN_XPT_UJ]; omega))))
    | ((with_reducible refine TK.wrAll ?_ (by simp only [List.mem_cons, List.not_mem_nil, or_false, forall_eq_or_imp, forall_eq, Fld.pg, Fld.ix, Fld.ring, F.CL_TICK_CYC, F.EN_CAL, F.EN_CLUSTER_UJ, F.EN_DRAM_UJ, F.EN_OTHER_UJ, F.EN_STATIC_EXP_MW, F.EN_TICK, F.EN_XPT_UJ]; omega)))
    | (with_reducible apply TK.keep keep_setEn)
    | (show Nat.testBit _ _ = false; rfl)
    | (with_reducible apply TK.ite <;> try extract_lets)
    | (with_reducible apply TK.each <;> try intro s x <;> try extract_lets)
    | (dsimp only)
    | (split <;> try extract_lets)
    | (dsimp +zetaDelta only; split <;> try extract_lets)
    | (with_reducible apply TK.of_mk)

theorem tk_clustersAt {s : State} {x0} : TK s (State.clustersAt s x0) := by
  unfold State.clustersAt
  try extract_lets
  repeat' first
    | (with_reducible apply TK.refl)
    | ((with_reducible refine TK.wr ?_ (by first | decide | (simp only [Fld.pg, Fld.ix, Fld.ring, Fld.rx, Fld.tx, pbaAddr, F.CL_STAT_PHASE]; omega))))
    | (show Nat.testBit _ _ = false; rfl)
    | (with_reducible apply TK.ite <;> try extract_lets)
    | (with_reducible apply TK.each <;> try intro s x <;> try extract_lets)
    | (dsimp only)
    | (split <;> try extract_lets)
    | (dsimp +zetaDelta only; split <;> try extract_lets)
    | (with_reducible apply TK.of_mk)

theorem tk_tickOvr {s : State} {x0} : TK s (State.tickOvr s x0) := by
  unfold State.tickOvr
  try extract_lets
  repeat' first
    | (with_reducible apply TK.refl)
    | ((with_reducible refine TK.bump ?_ (by first | decide | (simp only [Fld.pg, Fld.ix, Fld.ring, Fld.rx, Fld.tx, pbaAddr, F.TICKOVR_COUNT, F.XPT_DIM1]; omega))))
    | ((with_reducible refine TK.pulse ?_))
    | (with_reducible apply TK.keep keep_setEng)
    | (show Nat.testBit _ _ = false; rfl)
    | (with_reducible apply TK.ite <;> try extract_lets)
    | (dsimp only)
    | (split <;> try extract_lets)
    | (dsimp +zetaDelta only; split <;> try extract_lets)
    | (with_reducible apply TK.of_mk)

theorem tk_clusterTick {s : State} {x0 x1} : TK s (State.clusterTick s x0 x1) := by
  unfold State.clusterTick
  try extract_lets
  repeat' first
    | (with_reducible apply TK.refl)
    | ((with_reducible refine TK.wrAll ?_ (by simp only [List.mem_cons, List.not_mem_nil, or_false, forall_eq_or_imp, forall_eq, Fld.pg, Fld.ix, Fld.ring, F.CL_CSTAT_TICK, F.CL_PEAK_CYC, F.CL_SLOT_PROMO, F.CL_STALL_CYC, F.CL_TICK_CYC]; omega)))
    | (with_reducible apply TK.keep keep_setCluster)
    | (show Nat.testBit _ _ = false; rfl)
    | (with_reducible apply TK.ite <;> try extract_lets)
    | (dsimp only)
    | (split <;> try extract_lets)
    | (dsimp +zetaDelta only; split <;> try extract_lets)
    | (with_reducible apply TK.of_mk)

theorem tk_tickEnd {s : State} {x0 x1} : TK s (State.tickEnd s x0 x1) := by
  unfold State.tickEnd
  try extract_lets
  repeat' first
    | (with_reducible apply TK.refl)
    | ((with_reducible refine TK.wr64 ?_ (by first | decide | (simp only [Fld.pg, Fld.ix, Fld.ring, Fld.rx, Fld.tx, pbaAddr, F.PAIR_DIGEST_HI, F.PAIR_DIGEST_LO, F.XPT_DIM1]; omega)) (by first | decide | (simp only [Fld.pg, Fld.ix, Fld.ring, Fld.rx, Fld.tx, pbaAddr, F.PAIR_DIGEST_HI, F.PAIR_DIGEST_LO, F.XPT_DIM1]; omega))))
    | (with_reducible apply TK.step tk_clusterTick)
    | (with_reducible apply TK.keep keep_keepSigs)
    | (with_reducible apply TK.step tk_tickOvr)
    | (with_reducible apply TK.keep keep_sendRecords)
    | (with_reducible apply TK.step tk_clustersAt)
    | (with_reducible apply TK.keep keep_gatherSheets)
    | (with_reducible apply TK.step tk_energyTick)
    | (with_reducible apply TK.keep keep_recorderTick)
    | (with_reducible apply TK.keep keep_hearOutputs)
    | (with_reducible apply TK.step tk_portsTick)
    | (with_reducible apply TK.keep keep_pdmIn)
    | (with_reducible apply TK.keep keep_setPair)
    | (show Nat.testBit _ _ = false; rfl)
    | (with_reducible apply TK.ite <;> try extract_lets)
    | (with_reducible apply TK.each <;> try intro s x <;> try extract_lets)
    | (dsimp only)
    | (split <;> try extract_lets)
    | (dsimp +zetaDelta only; split <;> try extract_lets)
    | (with_reducible apply TK.of_mk)

theorem tk_levelTick {s : State} : TK s (State.levelTick s) := by
  unfold State.levelTick
  try extract_lets
  repeat' first
    | (with_reducible apply TK.refl)
    | ((with_reducible refine TK.wr ?_ (by first | decide | (simp only [Fld.pg, Fld.ix, Fld.ring, Fld.rx, Fld.tx, pbaAddr, F.DEV_STAT_ENGINE]; omega))))
    | (with_reducible apply TK.keep keep_setPair)
    | (with_reducible apply TK.keep keep_setEng)
    | (show Nat.testBit _ _ = false; rfl)
    | (with_reducible apply TK.ite <;> try extract_lets)
    | (dsimp only)
    | (split <;> try extract_lets)
    | (dsimp +zetaDelta only; split <;> try extract_lets)
    | (with_reducible apply TK.of_mk)

theorem tk_peerTick {s : State} : TK s (State.peerTick s) := by
  unfold State.peerTick
  try extract_lets
  repeat' first
    | (with_reducible apply TK.refl)
    | ((with_reducible refine TK.wrAll ?_ (by simp only [List.mem_cons, List.not_mem_nil, or_false, forall_eq_or_imp, forall_eq, Fld.pg, Fld.ix, Fld.ring, F.CLM_PINS_VALID, F.PAIR_STAT_PEER_LINK, F.PAIR_STAT_PEER_PINS]; omega)))
    | (with_reducible apply TK.keep keep_setPair)
    | (show Nat.testBit _ _ = false; rfl)
    | (with_reducible apply TK.ite <;> try extract_lets)
    | (dsimp only)
    | (split <;> try extract_lets)
    | (dsimp +zetaDelta only; split <;> try extract_lets)
    | (with_reducible apply TK.of_mk)

theorem tk_claimTick {s : State} : TK s (State.claimTick s) := by
  unfold State.claimTick
  try extract_lets
  repeat' first
    | (with_reducible apply TK.refl)
    | (with_reducible apply TK.step tk_yieldUnit)
    | (with_reducible apply TK.step tk_claimUpdate)
    | (with_reducible apply TK.keep keep_setPair)
    | (with_reducible apply TK.keep keep_put)
    | (show Nat.testBit _ _ = false; rfl)
    | (with_reducible apply TK.ite <;> try extract_lets)
    | (dsimp only)
    | (split <;> try extract_lets)
    | (dsimp +zetaDelta only; split <;> try extract_lets)
    | (with_reducible apply TK.of_mk)

theorem tk_sendTick {s : State} : TK s (State.sendTick s) := by
  unfold State.sendTick
  try extract_lets
  repeat' first
    | (with_reducible apply TK.refl)
    | ((with_reducible refine TK.wrAll ?_ (by simp only [List.mem_cons, List.not_mem_nil, or_false, forall_eq_or_imp, forall_eq, Fld.pg, Fld.ix, Fld.ring, F.PAIR_MIRROR, F.PB_RX_TICK, F.PB_TX_TICK]; omega)))
    | (with_reducible apply TK.keep keep_send)
    | (with_reducible apply TK.keep keep_open_)
    | (show Nat.testBit _ _ = false; rfl)
    | (with_reducible apply TK.ite <;> try extract_lets)
    | (dsimp only)
    | (split <;> try extract_lets)
    | (dsimp +zetaDelta only; split <;> try extract_lets)
    | (with_reducible apply TK.of_mk)

theorem tk_matchTick {s : State} : TK s (State.matchTick s) := by
  unfold State.matchTick
  try extract_lets
  repeat' first
    | (with_reducible apply TK.refl)
    | (with_reducible apply TK.keep keep_setEng)
    | (with_reducible apply TK.step tk_sendVec)
    | (show Nat.testBit _ _ = false; rfl)
    | (with_reducible apply TK.ite <;> try extract_lets)
    | (dsimp only)
    | (split <;> try extract_lets)
    | (dsimp +zetaDelta only; split <;> try extract_lets)
    | (with_reducible apply TK.of_mk)


end Sys2Proof.Machine
end

