-- ==== Sys2Proof/Laws/Commands.lean ====
section
/-!
SUPPORT. A command on an idle ring: its doorbell announces it, and it is the one dispatched (R42 to R44).
-/
set_option Elab.async false
set_option linter.all false
namespace Sys2Proof.Machine

theorem tail_step {t n : Nat} (h : t < n) (h2 : 2 ≤ n) : ((t + 1) % n + n - t) % n = 1 := by
  by_cases e : t + 1 < n
  · rw [Nat.mod_eq_of_lt e, show t + 1 + n - t = 1 + n by omega, Nat.add_mod_right, Nat.mod_eq_of_lt (by omega)]
  · have : t + 1 = n := by omega
    rw [this, Nat.mod_self, show 0 + n - t = 1 by omega, Nat.mod_eq_of_lt (by omega)]

theorem get_set_self {α : Type} [DecidableEq α] {d : α} {k : Nat} {v : α} (hv : v ≠ d) : ∀ {m : Sparse α}, Sparse.get d (Sparse.set d m k v) k = v
  | [] => by simp [Sparse.set, hv, Sparse.get]
  | (a, w) :: t => by
    unfold Sparse.set
    by_cases h : k < a
    · simp [h, hv, Sparse.get]
    · by_cases h2 : a = k
      · simp [h2, hv, Sparse.get]
      · simp [h, h2, Sparse.get, get_set_self hv (m := t)]

theorem queueOf_set {s : State} {r q : Nat} {l : List Desc} (h : l ≠ []) : (s.setQueue r l).queueOf q = if q = r then l else s.queueOf q := by
  unfold State.queueOf State.setQueue
  by_cases e : q = r
  · rw [if_pos e, e]; exact get_set_self h
  · rw [if_neg e]; exact Sparse.get_set_ne e

theorem rb_showBlocked {s : State} {r : Nat} : s.regsBut [(F.RING_STAT_BLOCKED.ring r).addr] (s.showBlocked r) := by
  unfold State.showBlocked
  exact RB.ite (RB.wrb List.mem_cons_self) RB.refl

theorem ringRuns_rb {s t : State} {l : List Nat} {r : Nat} (h : s.regsBut l t) (h1 : (F.RING_CTRL_EN.ring r).addr ∉ l) (h2 : (F.RING_STAT_STOPPED.ring r).addr ∉ l)
    (h3 : F.HOST_CTRL_RING_OWNER.addr ∉ l) : t.ringRuns r = s.ringRuns r := by
  unfold State.ringRuns State.ringExists
  rw [RB.on h h1, RB.on h h2, RB.on h h3]

/-- The doorbell of one command on an idle ring. -/
theorem doorbell_one {s : State} {ring : Fin 16} {d : Desc} (hr : s.ringRuns ring = true) (hq : s.queueOf ring = [])
    (ht : s.rd (F.RING_TAIL.ring ring) < s.ringSize ring) (h2 : 2 ≤ s.ringSize ring) :
    s.doorbell ring ((s.rd (F.RING_TAIL.ring ring) + 1) % s.ringSize ring) (fun _ => d) true =
      ((s.wr (F.RING_TAIL.ring ring) ((s.rd (F.RING_TAIL.ring ring) + 1) % s.ringSize ring)).setQueue ring [d]).showBlocked ring := by
  unfold State.doorbell
  dsimp only
  have hm := Nat.mod_lt (s.rd (F.RING_TAIL.ring ring) + 1) (show 0 < s.ringSize ring by omega)
  rw [if_neg (by omega), if_neg (by rw [hr]; decide), if_neg (by decide), tail_step ht h2]
  unfold State.showRing
  rw [if_pos ring.isLt]
  congr 2
  show Sparse.get _ _ _ ++ _ = _
  rw [keep_wr.host]
  show s.queueOf ring ++ [d] = [d]
  rw [hq]; rfl

/-- Every command ring stands in each round-robin. -/
theorem mem_turn {s : State} {k r : Nat} : r ∈ s.turn k ↔ r < 16 := by
  unfold State.turn
  rw [List.mem_map]
  constructor
  · rintro ⟨i, -, rfl⟩; exact Nat.mod_lt _ (by decide)
  · intro h
    refine ⟨(r + 16 * (s.host.last.getD k 0 + 1) - (s.host.last.getD k 0 + 1)) % 16, List.mem_range.2 (Nat.mod_lt _ (by decide)), ?_⟩
    omega

/-- The one ring that passes is the best. -/
theorem bestOf_only {s : State} {k r : Nat} {ok : Nat → Bool} (hr : r < 16) (h : ok r = true) (h1 : ∀ x, x < 16 → ok x = true → x = r) :
    s.bestOf k ok = some r := by
  unfold State.bestOf
  by_cases h0 : ok 0 = true
  · rw [if_pos h0, h1 0 (by decide) h0]
  · rw [if_neg h0]
    have hf : ∀ p, s.rd (F.RING_CTRL_PRIO.ring r) = p → ((s.turn (p + k)).find? fun r => ok r && s.rd (F.RING_CTRL_PRIO.ring r) == p) = some r := by
      intro p hp
      cases hq : (s.turn (p + k)).find? fun r => ok r && s.rd (F.RING_CTRL_PRIO.ring r) == p with
      | none => exact absurd (List.find?_eq_none.1 hq r (mem_turn.2 hr)) (by simp [h, hp])
      | some x =>
        have hx := List.find?_some hq
        rw [Bool.and_eq_true] at hx
        rw [h1 x (mem_turn.1 (List.mem_of_find?_eq_some hq)) hx.1]
    have hn : ∀ p, s.rd (F.RING_CTRL_PRIO.ring r) ≠ p → ((s.turn (p + k)).find? fun r => ok r && s.rd (F.RING_CTRL_PRIO.ring r) == p) = none := by
      intro p hp
      refine List.find?_eq_none.2 fun x hx hy => ?_
      rw [Bool.and_eq_true, beq_iff_eq] at hy
      rw [h1 x (mem_turn.1 hx) hy.1] at hy
      exact hp hy.2
    have hlt : s.rd (F.RING_CTRL_PRIO.ring r) < 2 ^ 2 := Nat.mod_lt _ (Nat.two_pow_pos 2)
    have h4 : s.rd (F.RING_CTRL_PRIO.ring r) = 3 ∨ s.rd (F.RING_CTRL_PRIO.ring r) = 2 ∨ s.rd (F.RING_CTRL_PRIO.ring r) = 1 ∨ s.rd (F.RING_CTRL_PRIO.ring r) = 0 := by omega
    rcases h4 with e | e | e | e
    · rw [List.findSome?_cons, hf 3 e]
    · rw [List.findSome?_cons, hn 3 (by omega)]; dsimp only
      rw [List.findSome?_cons, hf 2 e]
    · rw [List.findSome?_cons, hn 3 (by omega)]; dsimp only
      rw [List.findSome?_cons, hn 2 (by omega)]; dsimp only
      rw [List.findSome?_cons, hf 1 e]
    · rw [List.findSome?_cons, hn 3 (by omega)]; dsimp only
      rw [List.findSome?_cons, hn 2 (by omega)]; dsimp only
      rw [List.findSome?_cons, hn 1 (by omega)]; dsimp only
      rw [List.findSome?_cons, hf 0 e]

theorem bestOf_none {s : State} {k : Nat} {ok : Nat → Bool} (h : ∀ x, x < 16 → ok x = false) : s.bestOf k ok = none := by
  unfold State.bestOf
  rw [if_neg (by rw [h 0 (by decide)]; decide)]
  refine List.findSome?_eq_none_iff.2 fun p _ => List.find?_eq_none.2 fun x hx => ?_
  rw [h x (mem_turn.1 hx)]; simp

theorem command_taken {s : State} {ring : Fin 16} {d : Desc} {peer : Option Bool} (hc : s.canonical = true) (h : s.ready ring = true) :
    s.command ring d peer = ((s.taken ring d).runCommand ring d peer).showBlocked ring := by
  unfold State.ready at h
  simp only [Bool.and_eq_true, decide_eq_true_eq] at h
  obtain ⟨⟨⟨⟨ht, hr⟩, hm⟩, hq⟩, htl, h2⟩ := h
  have hqs : ∀ r, r < 16 → s.queueOf r = [] := by
    intro r hlt
    have := List.all_eq_true.1 hq r (List.mem_range.2 hlt)
    simpa using this
  have hlt := ring.isLt
  have hd := doorbell_one (d := d) hr (hqs _ ring.isLt) htl h2
  unfold State.command State.taken
  dsimp only
  generalize hs1 : s.wr (F.RING_TAIL.ring ring) ((s.rd (F.RING_TAIL.ring ring) + 1) % s.ringSize ring) = s1 at hd
  generalize hs2 : s1.setQueue ring [d] = s2 at hd
  generalize s.doorbell ring ((s.rd (F.RING_TAIL.ring ring) + 1) % s.ringSize ring) (fun _ => d) true = s0 at hd
  have r1 : s.regsBut [(F.RING_TAIL.ring ring).addr] s1 := by rw [← hs1]; exact RB.wr List.mem_cons_self
  have k1 : Keep 0x2 s s1 := by rw [← hs1]; exact keep_wr
  have k2 : Keep 0x800 s1 s2 := by rw [← hs2]; exact keep_setQueue
  have r2 : s.regsBut [(F.RING_TAIL.ring ring).addr] s2 := RB.trans r1 (RB.keep k2)
  have k3 : Keep 0x2 s2 s0 := by rw [hd]; exact keep_showBlocked
  have r0 : s.regsBut [(F.RING_TAIL.ring ring).addr, (F.RING_STAT_BLOCKED.ring ring).addr] s0 := by
    rw [hd]; exact RB.trans (RB.mono r2 (by simp)) (RB.mono rb_showBlocked (by simp))
  have q0 : ∀ q, s0.queueOf q = if q = ring.val then [d] else s.queueOf q := by
    intro q
    have e1 : s0.queueOf q = s2.queueOf q := by rw [State.queueOf, State.queueOf, k3.host]
    rw [e1, ← hs2, queueOf_set (by simp)]
    rw [State.queueOf, k1.host]; rfl
  have take0 : ∀ q, s0.takesCommands q = s.takesCommands q := by
    intro q
    unfold State.takesCommands State.inRecovery
    rw [k3.flt, k2.flt, k1.flt, k3.flash, k2.flash, k1.flash, RB.on r0 ?_, RB.rd r0 ?_]
    all_goals (simp only [List.mem_cons, List.not_mem_nil, or_false, Fld.ring, F.DEV_STAT_MGMT_READY, F.MB_BOOT_STAGE, F.RING_TAIL, F.RING_STAT_BLOCKED]; omega)
  have run16 : s0.ringRuns (16 + ring) = s.ringRuns (16 + ring) := by
    refine ringRuns_rb r0 ?_ ?_ ?_ <;> simp only [List.mem_cons, List.not_mem_nil, or_false, Fld.ring, F.RING_CTRL_EN, F.RING_STAT_STOPPED, F.HOST_CTRL_RING_OWNER, F.RING_TAIL, F.RING_STAT_BLOCKED] <;> omega
  have run0 : s0.ringRuns ring = true := by
    have a2 : s2.ringRuns ring = s.ringRuns ring := by
      refine ringRuns_rb r2 ?_ ?_ ?_ <;> simp only [List.mem_cons, List.not_mem_nil, or_false, Fld.ring, F.RING_CTRL_EN, F.RING_STAT_STOPPED, F.HOST_CTRL_RING_OWNER, F.RING_TAIL] <;> omega
    have c2 := k2.canon (k1.canon hc)
    rw [← a2] at hr
    rw [hd]
    unfold State.showBlocked
    rw [if_pos hlt]
    unfold State.ringRuns State.ringExists at hr ⊢
    have b1 : ∀ b : Bool, (s2.wrb (F.RING_STAT_BLOCKED.ring ring) b).on (F.RING_CTRL_EN.ring ring) = s2.on (F.RING_CTRL_EN.ring ring) := by
      intro b
      refine RB.on (RB.wrb List.mem_cons_self) (l := [(F.RING_STAT_BLOCKED.ring ring).addr]) ?_
      simp only [List.mem_cons, List.not_mem_nil, or_false, Fld.ring, F.RING_CTRL_EN, F.RING_STAT_BLOCKED]; omega
    have b2 : ∀ b : Bool, (s2.wrb (F.RING_STAT_BLOCKED.ring ring) b).on (F.RING_STAT_STOPPED.ring ring) = s2.on (F.RING_STAT_STOPPED.ring ring) := by
      intro b
      unfold State.on
      rw [show (s2.wrb (F.RING_STAT_BLOCKED.ring ring) b).rd (F.RING_STAT_STOPPED.ring ring) = s2.rd (F.RING_STAT_STOPPED.ring ring) from rd_wr_apart c2 (by rfl) (by rfl) (by simp [Fld.apart, Fld.ring, F.RING_STAT_STOPPED, F.RING_STAT_BLOCKED])]
    have b3 : ∀ b : Bool, (s2.wrb (F.RING_STAT_BLOCKED.ring ring) b).on F.HOST_CTRL_RING_OWNER = s2.on F.HOST_CTRL_RING_OWNER := by
      intro b
      refine RB.on (RB.wrb List.mem_cons_self) (l := [(F.RING_STAT_BLOCKED.ring ring).addr]) ?_
      simp only [List.mem_cons, List.not_mem_nil, or_false, Fld.ring, F.HOST_CTRL_RING_OWNER, F.RING_STAT_BLOCKED]; omega
    rw [b1, b2, b3]
    exact hr
  have out0 : s0.outstanding ring = s.outstanding ring := by
    unfold State.outstanding
    have hh : s0.host.clipWait = s.host.clipWait := by rw [k3.host, ← hs2]; show s1.host.clipWait = _; rw [k1.host]
    rw [k3.scn, k2.scn, k1.scn, k3.pair, k2.pair, k1.pair, k3.sl, k2.sl, k1.sl, k3.sec, k2.sec, k1.sec, hh]
  have room0 : s0.hasRoom ring = true := by
    unfold State.hasRoom at hm ⊢
    rw [run16, out0, q0, if_neg (by omega)]
    exact hm
  have can0 : s0.canDispatch ring = true := by
    unfold State.canDispatch
    rw [take0, ht, run0, room0, q0, if_pos rfl]
    rfl
  have cant0 : ∀ r, r < 16 → r ≠ ring.val → s0.canDispatch r = false := by
    intro r hr1 hr2
    unfold State.canDispatch
    rw [q0, if_neg hr2, hqs r hr1]
    simp
  have only : ∀ x, x < 16 → s0.canDispatch x = true → x = ring.val := fun x hx hy => by
    by_cases e : x = ring.val
    · exact e
    · rw [cant0 x hx e] at hy; exact Bool.noConfusion hy
  have hnext : s0.nextRing = some ring.val := by
    unfold State.nextRing
    by_cases hl : s0.headIsLs ring.val = true
    · rw [bestOf_only (ok := fun r => s0.canDispatch r && s0.headIsLs r) hlt (by rw [can0, hl]; rfl)
        fun x hx hy => only x hx (Bool.and_eq_true _ _ ▸ hy).1]
    · rw [bestOf_none (ok := fun r => s0.canDispatch r && s0.headIsLs r) fun x hx => by
        cases hy : s0.canDispatch x with
        | false => rfl
        | true => rw [only x hx hy]; simpa using hl]
      exact bestOf_only hlt can0 only
  unfold State.dispatchNext
  rw [hnext]
  dsimp only
  unfold State.dispatch
  rw [q0, if_pos rfl]

/-- A command that completes at once. -/
theorem command_now {s v r : State} {ring : Fin 16} {d : Desc} {peer : Option Bool} {st de re len : Nat} (hc : s.canonical = true) (h : s.passes ring d v)
    (hp : v.perform (Sys2Proof.Machine.Desc.ticket d ring) d peer = ⟨r, some (st, de, re, len)⟩) (ho : d.op.toNat ≠ Op.updCommit) :
    s.command ring d peer = r.replies ring d st de re len := by
  rw [command_taken hc h.1]
  unfold State.runCommand
  dsimp only
  rw [h.2]
  dsimp only
  rw [hp]
  dsimp only
  rw [if_neg fun z => ho z.2.1]
  rfl

/-- A command that completes later. -/
theorem command_later {s v r : State} {ring : Fin 16} {d : Desc} {peer : Option Bool} (hc : s.canonical = true) (h : s.passes ring d v)
    (hp : v.perform (Sys2Proof.Machine.Desc.ticket d ring) d peer = ⟨r, none⟩) : s.command ring d peer = (r.accept d St.ok).showBlocked ring := by
  rw [command_taken hc h.1]
  unfold State.runCommand
  dsimp only
  rw [h.2]
  dsimp only
  rw [hp]

/-- A command turned away by the common checks. -/
theorem command_refused {s v : State} {ring : Fin 16} {d : Desc} {peer : Option Bool} {e : Nat} (hc : s.canonical = true) (h : s.ready ring = true)
    (hp : (s.taken ring d).precheck ring d = (some e, v)) (he : e ≠ St.ok) : s.command ring d peer = v.replies ring d e 0 0 0 := by
  rw [command_taken hc h]
  unfold State.runCommand
  dsimp only
  rw [hp]
  dsimp only [State.fin]
  rw [if_neg fun z => he z.2.2]
  rfl

/-- The common checks, passed, touch no component but the registers and the rings' queues. -/
theorem passes_keep {s v : State} {ring : Nat} {d : Desc} (h : s.passes ring d v) : Keep 0x1882 s v := by
  obtain ⟨-, h⟩ := h
  have k1 : Keep 0x1882 s (s.taken ring d) := by
    unfold State.taken
    have h0 : Keep 0x1882 s ((s.doorbell ring ((s.rd (F.RING_TAIL.ring ring) + 1) % s.ringSize ring) (fun _ => d) true).consume ring) :=
      Keep.step keep_consume (by decide) (Keep.mono keep_doorbell (by decide))
    generalize (s.doorbell ring ((s.rd (F.RING_TAIL.ring ring) + 1) % s.ringSize ring) (fun _ => d) true).consume ring = u at h0
    exact Keep.step keep_tookTurn (by decide) h0
  have k2 : Keep 0x1882 (s.taken ring d) ((s.taken ring d).precheck ring d).2 := Keep.mono keep_precheck (by decide)
  rw [h] at k2
  exact Keep.step k2 (by decide) k1

end Sys2Proof.Machine
end

