-- ==== Sys2Proof/Laws/KeepSlots.lean ====
section
/-!
SUPPORT. What each operation of Machine/Slots.lean leaves alone (Laws/Keep.lean).
-/
set_option Elab.async false
set_option linter.all false
namespace Sys2Proof.Machine

theorem keep_issueBundle {s : State} {x0 x1} : Keep 0x61002 s (State.issueBundle s x0 x1) := by
  unfold State.issueBundle
  try extract_lets
  repeat' first
    | (with_reducible apply Keep.refl)
    | (show (_ ||| _ : Nat) = _; rfl)
    | (show Nat.testBit _ _ = true; rfl)
    | (with_reducible apply Keep.step keep_kernelStop)
    | (with_reducible apply Keep.step keep_afterIssue)
    | (with_reducible apply Keep.ite <;> try extract_lets)
    | (split <;> try extract_lets)
    | (dsimp only)

theorem keep_mOp {s : State} {x0 x1 x2 x3 x4 x5 x6} : Keep 0x61002 s (State.mOp s x0 x1 x2 x3 x4 x5 x6) := by
  unfold State.mOp
  try extract_lets
  repeat' first
    | (with_reducible apply Keep.refl)
    | (show (_ ||| _ : Nat) = _; rfl)
    | (with_reducible apply Keep.step keep_issueBundle)

theorem keep_aOp {s : State} {x0 x1 x2 x3 x4 x5} : Keep 0x61002 s (State.aOp s x0 x1 x2 x3 x4 x5) := by
  unfold State.aOp
  try extract_lets
  repeat' first
    | (with_reducible apply Keep.refl)
    | (show (_ ||| _ : Nat) = _; rfl)
    | (with_reducible apply Keep.step keep_issueBundle)

theorem keep_aDual {s : State} {x0 x1 x2 x3 x4 x5 x6 x7} : Keep 0x61002 s (State.aDual s x0 x1 x2 x3 x4 x5 x6 x7) := by
  unfold State.aDual
  try extract_lets
  repeat' first
    | (with_reducible apply Keep.refl)
    | (show (_ ||| _ : Nat) = _; rfl)
    | (with_reducible apply Keep.step keep_aOp)

theorem keep_cOp {s : State} {x0 x1 x2} : Keep 0x61002 s (State.cOp s x0 x1 x2) := by
  unfold State.cOp
  try extract_lets
  repeat' first
    | (with_reducible apply Keep.refl)
    | (show (_ ||| _ : Nat) = _; rfl)
    | (with_reducible apply Keep.step keep_issueBundle)

theorem keep_loadReturn {s : State} {x0} : Keep 0x20000 s (State.loadReturn s x0) := by
  unfold State.loadReturn
  try extract_lets
  repeat' first
    | (with_reducible apply Keep.refl)
    | (show (_ ||| _ : Nat) = _; rfl)
    | (with_reducible apply Keep.step keep_setCluster)

end Sys2Proof.Machine
end

