-- ==== Sys2Proof/Laws/Life.lean ====
section
/-!
SUPPORT. The life cycle under every operation that touches it: `Life s t` says that `t` keeps the rules of SecSt.legal where `s` does, and that
the life-cycle state of `t` is no earlier one. What leaves the component `sec` alone (Laws/Keep.lean) is Life at once.
-/
set_option Elab.async false
set_option linter.all false
namespace Sys2Proof.Machine

/-- The life cycle goes on by its rules, and never back. -/
structure Life (s t : State) : Prop where
  legal : s.sec.legal = true → t.sec.legal = true
  mono : s.sec.state ≤ t.sec.state

theorem Life.refl {s : State} : Life s s := ⟨id, Nat.le_refl _⟩

theorem Life.step {s t u : State} (h : Life t u) (h0 : Life s t) : Life s u := ⟨fun x => h.legal (h0.legal x), Nat.le_trans h0.mono h.mono⟩

theorem Life.of_sec {s t u : State} (h : u.sec = t.sec) (h0 : Life s t) : Life s u := ⟨fun x => h ▸ h0.legal x, h ▸ h0.mono⟩

theorem Life.keep {a : Nat} {s t u : State} (h : Keep a t u) (ha : a.testBit 14 = false) (h0 : Life s t) : Life s u := h0.of_sec (h.sec ha)

theorem Life.ite {p : Prop} [Decidable p] {s a b : State} (ha : Life s a) (hb : Life s b) : Life s (if p then a else b) := by
  split <;> assumption

theorem Life.ite_st {p : Prop} [Decidable p] {s : State} {a b : CmdRes} (ha : Life s a.st) (hb : Life s b.st) :
    Life s (if p then a else b).st := by
  split <;> assumption

theorem Life.each {α : Type} {f : State → α → State} {l : List α} {s0 s : State} (h : Life s0 s)
    (hf : ∀ s x, Life s (f s x)) : Life s0 (s.each l f) := by
  unfold State.each
  induction l generalizing s with
  | nil => exact h
  | cons x l ih => exact ih (Life.step (hf s x) h)

/-- Other components replaced. -/
theorem Life.of_mk {s t : State} (h : Life s t) {x0 x1 x2 x3 x4 x5 x6 x7 x8 x9 x10 x11 x12 x13 x15 x16 x17 x18 x19 x20 x21 x22 x23 x24 x25} : Life s (State.mk x0 x1 x2 x3 x4 x5 x6 x7 x8 x9 x10 x11 x12 x13 t.sec x15 x16 x17 x18 x19 x20 x21 x22 x23 x24 x25) :=
  Life.of_sec (t := t) rfl h

theorem SecSt.legal_iff {x : SecSt} : x.legal = true ↔ x.state ≤ 4 ∧ (x.adv = none ∨ x.state ≤ 3) ∧ (x.state = 4 → x.keyKill = true) ∧
    (x.keyKill = true → x.keys = []) := by
  unfold SecSt.legal
  cases x.keyKill <;> cases x.adv <;> by_cases h : x.state = 4 <;> simp [h, and_assoc]

/-! One field of the component replaced. -/

theorem Life.set {s t : State} {x : SecSt} (h : Life s t) (hl : t.sec.legal = true → x.legal = true) (hm : t.sec.state ≤ x.state) :
    Life s (t.setSec x) := ⟨fun y => hl (h.legal y), Nat.le_trans h.mono hm⟩

theorem Life.set_keys {s t : State} (h : Life s t) : Life s (t.setSec { t.sec with keys := [] }) :=
  h.set (fun y => by rw [SecSt.legal_iff] at y ⊢; exact ⟨y.1, y.2.1, y.2.2.1, fun _ => rfl⟩) (Nat.le_refl _)
theorem Life.set_adv {s t : State} (h : Life s t) : Life s (t.setSec { t.sec with adv := none }) :=
  h.set (fun y => by rw [SecSt.legal_iff] at y ⊢; exact ⟨y.1, .inl rfl, y.2.2⟩) (Nat.le_refl _)
theorem Life.of_adv {s t u : State} (h : Life s t) (e : u.sec = { t.sec with adv := none }) : Life s u :=
  ⟨fun y => by
    have z := h.legal y
    rw [SecSt.legal_iff] at z ⊢
    rw [e]
    exact ⟨z.1, .inl rfl, z.2.2⟩, by rw [e]; exact h.mono⟩
theorem Life.set_tampered {s t : State} (h : Life s t) {x} : Life s (t.setSec { t.sec with tampered := x }) := h.set id (Nat.le_refl _)
theorem Life.set_svn {s t : State} (h : Life s t) {x} : Life s (t.setSec { t.sec with svn := x }) := h.set id (Nat.le_refl _)
theorem Life.set_stored {s t : State} (h : Life s t) {x} : Life s (t.setSec { t.sec with stored := x }) := h.set id (Nat.le_refl _)
theorem Life.set_duk {s t : State} (h : Life s t) {x} : Life s (t.setSec { t.sec with duk := x }) := h.set id (Nat.le_refl _)

/-! The operations. -/

theorem life_zeroise {s : State} : Life s (State.zeroise s) := by
  unfold State.zeroise
  try extract_lets
  repeat' first
    | (with_reducible apply Life.refl)
    | (show Nat.testBit _ _ = false; rfl)
    | (with_reducible apply Life.set_keys)
    | (with_reducible apply Life.keep keep_showKeys)
    | (with_reducible apply Life.keep keep_wrAll)

theorem life_cmdLifecycle {s : State} {x0 x1 x2} : Life s (State.cmdLifecycle s x0 x1 x2).st := by
  have ok : ∀ a b c, Life s (s.fin a).st ∧ Life s (s.finWith a b c 0).st := fun _ _ _ => ⟨Life.refl, Life.refl⟩
  unfold State.cmdLifecycle
  extract_lets st zeros
  refine Life.ite_st (ok _ 0 0).1 ?_
  split
  · exact (ok _ 0 0).1
  · rename_i hst
    refine Life.ite_st (ok _ 0 0).1 (Life.ite_st (ok _ 0 0).1 ?_)
    refine Life.keep keep_later rfl (Life.step life_zeroise (Life.keep keep_wr rfl (Life.refl.set (fun y => ?_) (Nat.le_refl _))))
    rw [SecSt.legal_iff] at y ⊢
    refine ⟨y.1, .inr ?_, y.2.2⟩
    simp only [not_or, Decidable.not_not] at hst
    have hs : st = s.sec.state := rfl
    show s.sec.state ≤ 3
    omega

theorem life_loadKeys {s : State} : Life s (State.loadKeys s) := by
  unfold State.loadKeys
  split
  · exact Life.keep keep_showKeys rfl (Life.set_keys Life.refl)
  · rename_i hk
    refine Life.keep keep_showKeys rfl (Life.keep keep_wr rfl (Life.refl.set (fun y => ?_) (Nat.le_refl _)))
    rw [SecSt.legal_iff] at y ⊢
    exact ⟨y.1, y.2.1, y.2.2.1, fun h => absurd (Or.inl h) hk⟩

theorem life_cmdUpdCommit {s : State} : Life s (State.cmdUpdCommit s).st := by
  unfold State.cmdUpdCommit
  try extract_lets
  repeat' first
    | (with_reducible apply Life.refl)
    | (show Nat.testBit _ _ = false; rfl)
    | (with_reducible apply Life.set_stored)
    | (with_reducible apply Life.keep keep_fin)
    | (with_reducible apply Life.keep keep_finWith)
    | (with_reducible apply Life.keep keep_showSlots)
    | (with_reducible apply Life.keep keep_setFlash)
    | (with_reducible apply Life.keep keep_record)
    | (with_reducible apply Life.keep keep_wr)
    | (with_reducible apply Life.step life_loadKeys)
    | (with_reducible apply Life.ite_st <;> try extract_lets)
    | (dsimp only)
    | (split <;> try extract_lets)
    | (with_reducible apply Life.of_mk)

theorem life_eraseAll {s : State} : Life s (State.eraseAll s) := by
  unfold State.eraseAll
  extract_lets src s1 s2 s3
  refine Life.keep keep_showKeys rfl (Life.of_sec (t := s1) rfl (Life.set Life.refl (fun y => ?_) (Nat.le_refl _)))
  rw [SecSt.legal_iff] at y ⊢
  exact ⟨y.1, y.2.1, fun _ => rfl, fun _ => rfl⟩

theorem life_fwConfirm {s : State} : Life s (State.fwConfirm s) := by
  unfold State.fwConfirm
  try extract_lets
  repeat' first
    | (with_reducible apply Life.refl)
    | (show Nat.testBit _ _ = false; rfl)
    | (with_reducible apply Life.set_svn)
    | (with_reducible apply Life.keep keep_setFlash)
    | (with_reducible apply Life.keep keep_wrAll)
    | (with_reducible apply Life.ite <;> try extract_lets)

/-- The fuse of a transition: from a state below Decommissioned. -/
theorem life_fuse {s : State} {t} (h3 : s.sec.state ≤ 3) : Life s (s.lifeAfter t) := by
  unfold State.lifeAfter
  extract_lets old src s1 s2 s3
  have e1 : s1.sec = { s.sec with state := s.sec.state + 1, adv := none } := keep_injectEnd.sec
  have h2 : Life s s2 := by
    show Life s (if old = 3 then s1.eraseAll else s1.loadKeys)
    split
    · rename_i ho
      have e2 : s1.eraseAll.sec = { s1.sec with keyKill := true, stored := [], keys := [] } := by
        unfold State.eraseAll; exact keep_showKeys.sec
      refine ⟨fun y => ?_, ?_⟩
      · rw [SecSt.legal_iff] at y ⊢
        rw [e2, e1]
        exact ⟨by simp only; omega, .inl rfl, fun _ => rfl, fun _ => rfl⟩
      · rw [e2, e1]; exact Nat.le_succ _
    · rename_i ho
      refine Life.step life_loadKeys ⟨fun y => ?_, ?_⟩
      · rw [SecSt.legal_iff] at y ⊢
        rw [e1]
        have ho' : s.sec.state ≠ 3 := ho
        exact ⟨by simp only; omega, .inl rfl, fun h => by simp only at h; omega, y.2.2.2⟩
      · rw [e1]; exact Nat.le_succ _
  refine Life.keep keep_respond rfl (Life.keep keep_pulse rfl (Life.keep keep_record rfl (Life.keep keep_wr rfl
    (Life.keep keep_showLife rfl (Life.each h2 fun s x => Life.keep keep_unmaskFatal rfl Life.refl)))))

theorem lifeAfter_state {s : State} {t} : s.sec.state ≤ (s.lifeAfter t).sec.state := by
  unfold State.lifeAfter
  extract_lets old src s1 s2 s3
  have e1 : s1.sec = { s.sec with state := s.sec.state + 1, adv := none } := keep_injectEnd.sec
  have h2 : s1.sec.state ≤ s2.sec.state := by
    show s1.sec.state ≤ (if old = 3 then s1.eraseAll else s1.loadKeys).sec.state
    split
    · exact life_eraseAll.mono
    · exact life_loadKeys.mono
  have h3 : Life s2 s3 := Life.keep keep_showLife rfl (Life.each Life.refl fun s x => Life.keep keep_unmaskFatal rfl Life.refl)
  have h4 := (Life.keep (keep_respond (s := _) (x0 := t) (x1 := St.ok) (x2 := 0) (x3 := 0) (x4 := 0)) rfl (Life.keep (keep_pulse (x0 := 0x9B) (x1 := 2)) rfl
    (Life.keep (keep_record (x0 := 4) (x1 := 0) (x2 := 0x9B) (x3 := 2) (x4 := [2#8, BitVec.ofNat 8 old, BitVec.ofNat 8 (old + 1)])) rfl (Life.keep (keep_wr (x0 := F.LC_STATE_BUSY) (x1 := 0)) rfl h3)))).mono
  refine Nat.le_trans ?_ (Nat.le_trans h2 h4)
  rw [e1]; exact Nat.le_succ _

theorem life_lifeBefore {s : State} {x0} : Life s (State.lifeBefore s x0) := by
  unfold State.lifeBefore
  split
  · split
    · exact Life.refl
    · exact Life.set_duk (Life.keep keep_openBytes rfl Life.refl)
  · exact Life.keep keep_setFlash rfl (Life.set_stored Life.refl)
  · exact Life.keep keep_showClaim rfl (Life.of_sec (t := s) rfl Life.refl)
  · exact Life.refl

theorem lifeBefore_state {s : State} {b} : (s.lifeBefore b).sec.state = s.sec.state := by
  unfold State.lifeBefore
  split
  · split
    · rfl
    · show (s.openBytes 32).2.sec.state = s.sec.state
      rw [(keep_openBytes (s := s) (x0 := 32)).sec]
  · rfl
  · rw [keep_showClaim.sec]; rfl
  · rfl

theorem life_tamper {s : State} {x0} : Life s (State.tamper s x0) := by
  unfold State.tamper
  try extract_lets
  repeat' first
    | (with_reducible apply Life.refl)
    | (show Nat.testBit _ _ = false; rfl)
    | (with_reducible apply Life.set_tampered)
    | (with_reducible apply Life.set_stored)
    | (with_reducible apply Life.step life_zeroise)
    | (with_reducible apply Life.keep keep_wrAll)
    | (with_reducible apply Life.keep keep_record)
    | (with_reducible apply Life.keep keep_pulse)
    | (with_reducible apply Life.keep keep_showKeys)
    | (with_reducible apply Life.ite <;> try extract_lets)

theorem life_zeroiseDone {s : State} : Life s (State.zeroiseDone s) := by
  unfold State.zeroiseDone
  split
  · exact Life.refl
  · extract_lets s1
    have h1 : Keep 0x1002 s s1 := Keep.step keep_pulse rfl (Keep.step keep_bump rfl (Keep.step keep_wrAll rfl Keep.refl))
    split
    · rename_i t b hadv
      refine ⟨fun y => ?_, ?_⟩
      · rw [h1.sec] at hadv
        have h3 : s.sec.state ≤ 3 := by
          have z := SecSt.legal_iff.1 y
          rcases z.2.1 with h | h
          · rw [h] at hadv; exact nomatch hadv
          · exact h
        have hb : (s1.lifeBefore b).sec.state ≤ 3 := by rw [lifeBefore_state, h1.sec]; exact h3
        exact (Life.step (life_fuse hb) (Life.step life_lifeBefore (Life.keep h1 rfl Life.refl))).legal y
      · refine Nat.le_trans ?_ lifeAfter_state
        exact Nat.le_of_eq (by simp only [lifeBefore_state, h1.sec])
    · exact Life.keep h1 rfl Life.refl

theorem life_bootHost {s : State} {x0} : Life s (State.bootHost s x0) := by
  unfold State.bootHost
  try extract_lets
  repeat' first
    | (with_reducible apply Life.refl)
    | (show Nat.testBit _ _ = false; rfl)
    | (with_reducible apply Life.set_keys)
    | (with_reducible apply Life.step life_eraseAll)
    | (with_reducible apply Life.step life_loadKeys)
    | (with_reducible apply Life.keep keep_pulse)
    | (with_reducible apply Life.keep keep_showKeys)
    | (with_reducible apply Life.keep keep_wrAll)
    | (with_reducible apply Life.keep keep_enablePages)
    | (with_reducible apply Life.keep keep_newNonce)
    | (with_reducible apply Life.ite <;> try extract_lets)

theorem life_coldReset {s : State} {x0} : Life s (State.coldReset s x0) := by
  unfold State.coldReset
  dsimp only
  refine Life.keep keep_wr rfl (Life.keep keep_updCut rfl (Life.keep keep_fixCut rfl ⟨fun y => ?_, Nat.le_refl _⟩))
  rw [SecSt.legal_iff] at y ⊢
  exact ⟨y.1, .inl rfl, y.2.2.1, fun _ => rfl⟩

theorem life_recovery {s : State} : Life s (State.recovery s) := by
  unfold State.recovery
  try extract_lets
  repeat' first
    | (with_reducible apply Life.refl)
    | (show Nat.testBit _ _ = false; rfl)
    | (with_reducible apply Life.keep keep_wr)
    | (with_reducible apply Life.keep keep_newNonce)
    | (with_reducible apply Life.step life_loadKeys)

theorem life_coldStart {s : State} {x0} : Life s (State.coldStart s x0) := by
  unfold State.coldStart
  try extract_lets
  repeat' first
    | (with_reducible apply Life.refl)
    | (show Nat.testBit _ _ = false; rfl)
    | (with_reducible apply Life.keep keep_bootLog)
    | (with_reducible apply Life.keep keep_sensed)
    | (with_reducible apply Life.step life_recovery)
    | (with_reducible apply Life.keep keep_bootMarch)
    | (with_reducible apply Life.keep keep_pulse)
    | (with_reducible refine Life.keep (keep_bootFirmware (by assumption)) ?_ ?_)
    | (with_reducible apply Life.keep keep_bootDone)
    | (with_reducible apply Life.keep keep_bootSafelight)
    | (with_reducible apply Life.keep keep_bootConfig)
    | (with_reducible apply Life.keep keep_enablePages)
    | (with_reducible apply Life.keep keep_bootDram)
    | (with_reducible apply Life.step life_bootHost)
    | (with_reducible apply Life.ite <;> try extract_lets)
    | (split <;> try extract_lets)

theorem life_discardTickets {s : State} : Life s (State.discardTickets s) := 
  ⟨fun y => by
    rw [SecSt.legal_iff] at y ⊢
    refine ⟨y.1, ?_, y.2.2⟩
    rcases y.2.1 with h | h
    · exact .inl (by simp [State.discardTickets, h])
    · exact .inr h, Nat.le_refl _⟩

theorem life_hostReset {s : State} {x0} : Life s (State.hostReset s x0) := by
  unfold State.hostReset
  try extract_lets
  repeat' first
    | (with_reducible apply Life.refl)
    | (show Nat.testBit _ _ = false; rfl)
    | (with_reducible apply Life.keep keep_resetRegs)
    | (with_reducible apply Life.step life_discardTickets)
    | (with_reducible apply Life.keep keep_wr)
    | (with_reducible apply Life.each <;> try intro s x <;> try extract_lets)
    | (dsimp +zetaDelta only; split <;> try extract_lets)
    | (with_reducible apply Life.of_mk)

theorem life_warmReset {s : State} {x0} : Life s (State.warmReset s x0) := by
  unfold State.warmReset
  extract_lets s0 s1 src s2 s3 src1 host src2 src3 s4 s5
  have h0 : Life s s0 := by
    show Life s (match s.eng.restart with
      | some x => (s.startPlan x).takeOver
      | none => s.takeOver)
    split
    · exact Life.keep keep_takeOver rfl (Life.keep keep_startPlan rfl Life.refl)
    · exact Life.keep keep_takeOver rfl Life.refl
  clear_value s0
  have h1 : Life s s1 := by
    show Life s (match s0.scn.armed with
      | some d => s0.cancelArmed d
      | none => s0.releaseHeld)
    split
    · exact Life.keep keep_cancelArmed rfl h0
    · exact Life.keep keep_releaseHeld rfl h0
  clear_value s1
  have h3 : Life s s3 := Life.keep keep_resetRegs rfl (Life.keep keep_fixCut rfl (Life.keep keep_setScn rfl h1))
  have h4 : Life s s4 := h3.of_adv rfl
  exact Life.keep keep_showDirty rfl (Life.keep keep_showLog rfl (Life.keep keep_wrAll rfl (Life.keep keep_wr64 rfl (Life.keep keep_updCut rfl h4))))

theorem life_mgmtRestart {s : State} {x0} : Life s (State.mgmtRestart s x0) := by
  unfold State.mgmtRestart
  try extract_lets
  repeat' first
    | (with_reducible apply Life.refl)
    | (show Nat.testBit _ _ = false; rfl)
    | (with_reducible apply Life.set_adv)
    | (with_reducible apply Life.keep keep_wr)
    | (with_reducible apply Life.keep keep_showLife)
    | (with_reducible apply Life.keep keep_newNonce)
    | (with_reducible apply Life.step life_hostReset)
    | (with_reducible apply Life.keep keep_updCut)
    | (with_reducible apply Life.keep keep_fixDone)
    | (with_reducible apply Life.keep keep_fixCut)
    | (with_reducible refine Life.keep (keep_bootFirmware (by assumption)) ?_ ?_)
    | (with_reducible apply Life.step life_recovery)
    | (with_reducible apply Life.step life_coldReset)
    | (with_reducible apply Life.ite <;> try extract_lets)
    | (split <;> try extract_lets)

theorem life_mbReset {s : State} {x0 x1} : Life s (State.mbReset s x0 x1) := by
  unfold State.mbReset
  try extract_lets
  repeat' first
    | (with_reducible apply Life.refl)
    | (with_reducible apply Life.step life_warmReset)
    | (with_reducible apply Life.step life_coldReset)
    | (with_reducible apply Life.step life_mgmtRestart)
    | (with_reducible apply Life.ite <;> try extract_lets)

theorem life_mgmtWdt {s : State} {x0} : Life s (State.mgmtWdt s x0) := by
  unfold State.mgmtWdt
  try extract_lets
  repeat' first
    | (with_reducible apply Life.refl)
    | (show Nat.testBit _ _ = false; rfl)
    | (with_reducible apply Life.step life_mgmtRestart)
    | (with_reducible apply Life.keep keep_pulse)
    | (with_reducible apply Life.ite <;> try extract_lets)

theorem life_pcieReset {s : State} {x0} : Life s (State.pcieReset s x0) := by
  unfold State.pcieReset
  try extract_lets
  repeat' first
    | (with_reducible apply Life.refl)
    | (show Nat.testBit _ _ = false; rfl)
    | (with_reducible apply Life.keep keep_wrAll)
    | (with_reducible apply Life.step life_hostReset)
    | (with_reducible apply Life.keep keep_pcieDown)
    | (with_reducible apply Life.ite <;> try extract_lets)

theorem life_pfailRestart {s : State} {x0} : Life s (State.pfailRestart s x0) := by
  unfold State.pfailRestart
  try extract_lets
  repeat' first
    | (with_reducible apply Life.refl)
    | (with_reducible apply Life.step life_coldStart)
    | (with_reducible apply Life.step life_coldReset)
    | (with_reducible apply Life.ite <;> try extract_lets)

theorem life_porRelease {s : State} {x0} : Life s (State.porRelease s x0) := by
  unfold State.porRelease
  try extract_lets
  repeat' first
    | (with_reducible apply Life.refl)
    | (with_reducible apply Life.step life_coldStart)
    | (with_reducible apply Life.ite <;> try extract_lets)

theorem life_warmStart {s : State} {x0} : Life s (State.warmStart s x0) := by
  unfold State.warmStart
  try extract_lets
  repeat' first
    | (with_reducible apply Life.refl)
    | (show Nat.testBit _ _ = false; rfl)
    | (with_reducible apply Life.step life_coldStart)
    | (with_reducible apply Life.step life_coldReset)
    | (with_reducible refine Life.keep (keep_bootFirmware (by assumption)) ?_ ?_)
    | (with_reducible apply Life.keep keep_sensed)
    | (with_reducible apply Life.step life_recovery)
    | (with_reducible apply Life.keep keep_wrAll)
    | (with_reducible apply Life.keep keep_newNonce)
    | (with_reducible apply Life.keep keep_resumePlan)
    | (with_reducible apply Life.keep keep_showSlot)
    | (with_reducible apply Life.keep keep_bootDram)
    | (with_reducible apply Life.keep keep_bootDone)
    | (with_reducible apply Life.keep keep_wr64)
    | (with_reducible apply Life.ite <;> try extract_lets)
    | (dsimp only)
    | (split <;> try extract_lets)

theorem life_resetRelease {s : State} {x0 x1} : Life s (State.resetRelease s x0 x1) := by
  unfold State.resetRelease
  try extract_lets
  repeat' first
    | (with_reducible apply Life.refl)
    | (with_reducible apply Life.step life_coldStart)
    | (with_reducible apply Life.step life_coldReset)
    | (with_reducible apply Life.step life_warmStart)
    | (with_reducible apply Life.ite <;> try extract_lets)

theorem life_trialTimeout {s : State} {x0} : Life s (State.trialTimeout s x0) := by
  unfold State.trialTimeout
  try extract_lets
  repeat' first
    | (with_reducible apply Life.refl)
    | (with_reducible apply Life.step life_coldStart)
    | (with_reducible apply Life.step life_coldReset)
    | (with_reducible apply Life.ite <;> try extract_lets)

theorem life_takeReg {s : State} {x0 x1} : Life s (State.takeReg s x0 x1) := by
  unfold State.takeReg
  try extract_lets
  repeat' first
    | (with_reducible apply Life.refl)
    | (show Nat.testBit _ _ = false; rfl)
    | (with_reducible apply Life.keep keep_headerWrite)
    | (with_reducible apply Life.keep keep_rwsWrite)
    | (with_reducible apply Life.keep keep_hostPageWrite)
    | (with_reducible apply Life.keep keep_ringWrite)
    | (with_reducible apply Life.keep keep_matchArm)
    | (with_reducible apply Life.keep keep_plainStore)
    | (with_reducible apply Life.keep keep_capWrite)
    | (with_reducible apply Life.keep keep_wr)
    | (with_reducible apply Life.keep keep_setReg)
    | (with_reducible apply Life.keep keep_showEff)
    | (with_reducible apply Life.keep keep_aoutCommit)
    | (with_reducible apply Life.keep keep_tdWrite)
    | (with_reducible apply Life.keep keep_tdcLoad)
    | (with_reducible apply Life.keep keep_refWrite)
    | (with_reducible apply Life.keep keep_laneWrite)
    | (with_reducible apply Life.keep keep_scrubWrite)
    | (with_reducible apply Life.keep keep_storeBits)
    | (with_reducible apply Life.keep keep_marchWrite)
    | (with_reducible apply Life.keep keep_ack)
    | (with_reducible apply Life.keep keep_inject)
    | (with_reducible apply Life.step life_mbReset)
    | (with_reducible apply Life.ite <;> try extract_lets)

theorem life_clockReturn {s : State} {x0} : Life s (State.clockReturn s x0) := by
  unfold State.clockReturn
  try extract_lets
  repeat' first
    | (with_reducible apply Life.refl)
    | (show Nat.testBit _ _ = false; rfl)
    | (with_reducible apply Life.keep keep_setClk)
    | (with_reducible apply Life.keep keep_wr)
    | (with_reducible apply Life.keep keep_source)
    | (with_reducible apply Life.step life_takeReg)
    | (with_reducible apply Life.ite <;> try extract_lets)
    | (with_reducible apply Life.each <;> try intro s x <;> try extract_lets)
    | (dsimp +zetaDelta only; split <;> try extract_lets)

theorem life_hostWrite {s : State} {x0 x1} : Life s (State.hostWrite s x0 x1) := by
  unfold State.hostWrite
  try extract_lets
  repeat' first
    | (with_reducible apply Life.refl)
    | (show Nat.testBit _ _ = false; rfl)
    | (with_reducible apply Life.keep keep_unallocated)
    | (with_reducible apply Life.keep keep_wrAll)
    | (with_reducible apply Life.keep keep_bump)
    | (with_reducible apply Life.keep keep_pulse)
    | (with_reducible apply Life.keep keep_setClk)
    | (with_reducible apply Life.step life_takeReg)
    | (with_reducible apply Life.keep keep_mirrorWrite)
    | (with_reducible apply Life.ite <;> try extract_lets)

theorem life_mirrorTake {s : State} {x0} : Life s (State.mirrorTake s x0) := by
  unfold State.mirrorTake
  try extract_lets
  repeat' first
    | (with_reducible apply Life.refl)
    | (show Nat.testBit _ _ = false; rfl)
    | (with_reducible apply Life.keep keep_setClk)
    | (with_reducible apply Life.step life_takeReg)
    | (with_reducible apply Life.keep keep_storeJournal)
    | (with_reducible apply Life.keep keep_windowStore)
    | (with_reducible apply Life.keep keep_publish)
    | (with_reducible apply Life.keep keep_peerShape)
    | (with_reducible apply Life.keep keep_peerRestart)
    | (with_reducible apply Life.keep keep_setAnchor)
    | (with_reducible apply Life.keep keep_setTd)
    | (with_reducible apply Life.ite <;> try extract_lets)
    | (dsimp only)
    | (split <;> try extract_lets)

theorem life_paramRx {s : State} {x0 x1} : Life s (State.paramRx s x0 x1) := by
  unfold State.paramRx
  try extract_lets
  repeat' first
    | (with_reducible apply Life.refl)
    | (show Nat.testBit _ _ = false; rfl)
    | (with_reducible apply Life.keep keep_ackMsg)
    | (with_reducible apply Life.step life_mirrorTake)
    | (with_reducible apply Life.ite <;> try extract_lets)
    | (with_reducible apply Life.each <;> try intro s x <;> try extract_lets)

theorem life_fieldWrite {s : State} {x0 x1} : Life s (State.fieldWrite s x0 x1) := by
  unfold State.fieldWrite
  try extract_lets
  repeat' first
    | (with_reducible apply Life.refl)
    | (with_reducible apply Life.step life_hostWrite)

theorem life_perform {s : State} {x0 x1 x2} : Life s (State.perform s x0 x1 x2).st := by
  unfold State.perform
  try extract_lets
  repeat' first
    | (with_reducible apply Life.refl)
    | (show Nat.testBit _ _ = false; rfl)
    | (with_reducible apply Life.keep keep_fin)
    | (with_reducible apply Life.keep keep_cmdParamWrite)
    | (with_reducible apply Life.keep keep_cmdParamRead)
    | (with_reducible apply Life.keep keep_cmdPlanLoad)
    | (with_reducible apply Life.keep keep_cmdAdmitTo)
    | (with_reducible apply Life.keep keep_cmdDevelopOrCancel)
    | (with_reducible apply Life.keep keep_cmdFix)
    | (with_reducible apply Life.keep keep_cmdClipLoad)
    | (with_reducible apply Life.keep keep_cmdClipPlay)
    | (with_reducible apply Life.keep keep_cmdSafelight)
    | (with_reducible apply Life.keep keep_cmdPairJoin)
    | (with_reducible apply Life.keep keep_cmdPairYield)
    | (with_reducible apply Life.keep keep_timeStep)
    | (with_reducible apply Life.keep keep_timeRate)
    | (with_reducible apply Life.keep keep_cmdLogRead)
    | (with_reducible apply Life.keep keep_cmdSheetDefine)
    | (with_reducible apply Life.keep keep_cmdUpdBegin)
    | (with_reducible apply Life.keep keep_cmdUpdChunk)
    | (with_reducible apply Life.step life_cmdUpdCommit)
    | (with_reducible apply Life.step life_cmdLifecycle)
    | (split <;> try extract_lets)

theorem life_runCommand {s : State} {x0 x1 x2} : Life s (State.runCommand s x0 x1 x2) := by
  unfold State.runCommand
  try extract_lets
  repeat' first
    | (with_reducible apply Life.refl)
    | (show Nat.testBit _ _ = false; rfl)
    | (with_reducible apply Life.keep keep_precheck)
    | (with_reducible apply Life.keep keep_fin)
    | (with_reducible apply Life.step life_perform)
    | (with_reducible apply Life.keep keep_respond)
    | (with_reducible apply Life.keep keep_accept)
    | (with_reducible apply Life.step life_coldReset)
    | (with_reducible apply Life.ite <;> try extract_lets)
    | (dsimp only)
    | (split <;> try extract_lets)
    | (dsimp +zetaDelta only; split <;> try extract_lets)

theorem life_dispatch {s : State} {x0 x1} : Life s (State.dispatch s x0 x1) := by
  unfold State.dispatch
  try extract_lets
  repeat' first
    | (with_reducible apply Life.refl)
    | (show Nat.testBit _ _ = false; rfl)
    | (with_reducible apply Life.keep keep_consume)
    | (with_reducible apply Life.keep keep_tookTurn)
    | (with_reducible apply Life.keep keep_showBlocked)
    | (with_reducible apply Life.step life_runCommand)
    | (split <;> try extract_lets)
    | (dsimp +zetaDelta only; split <;> try extract_lets)
    | (with_reducible apply Life.of_mk)

theorem life_dispatchNext {s : State} {x0} : Life s (State.dispatchNext s x0) := by
  unfold State.dispatchNext
  try extract_lets
  repeat' first
    | (with_reducible apply Life.refl)
    | (with_reducible apply Life.step life_dispatch)
    | (split <;> try extract_lets)

theorem life_command {s : State} {x0 x1 x2} : Life s (State.command s x0 x1 x2) := by
  unfold State.command
  try extract_lets
  repeat' first
    | (with_reducible apply Life.refl)
    | (show Nat.testBit _ _ = false; rfl)
    | (with_reducible apply Life.step life_dispatchNext)
    | (with_reducible apply Life.keep keep_doorbell)

theorem life_writeBy {s : State} {x0 x1 x2} : Life s (State.writeBy s x0 x1 x2) := Life.ite Life.refl life_hostWrite

theorem life_spiWrite {s : State} {x0 x1 x2} : Life s (State.spiWrite s x0 x1 x2) := by
  unfold State.spiWrite
  try extract_lets
  repeat' first
    | (with_reducible apply Life.refl)
    | (show Nat.testBit _ _ = false; rfl)
    | (with_reducible apply Life.step life_writeBy)
    | (with_reducible apply Life.keep keep_windowWrite)
    | (with_reducible apply Life.keep keep_spiPut)
    | (with_reducible apply Life.ite <;> try extract_lets)

theorem life_spiWrites {s : State} {x0 x1 x2} : Life s (State.spiWrites s x0 x1 x2) := by
  induction x2 generalizing s x1 with
  | nil =>
    unfold State.spiWrites
    try extract_lets
    repeat' first
      | (with_reducible apply Life.refl)
  | cons w t ih =>
    unfold State.spiWrites
    try extract_lets
    repeat' first
      | (with_reducible apply Life.refl)
      | (with_reducible apply Life.step ih)
      | (with_reducible apply Life.step life_spiWrite)

theorem life_spiTransaction {s : State} {x0 x1 x2 x3} : Life s (State.spiTransaction s x0 x1 x2 x3) := by
  unfold State.spiTransaction
  try extract_lets
  repeat' first
    | (with_reducible apply Life.refl)
    | (show Nat.testBit _ _ = false; rfl)
    | (with_reducible apply Life.keep keep_wr)
    | (with_reducible apply Life.step life_spiWrites)
    | (with_reducible apply Life.keep keep_spiReads)
    | (with_reducible apply Life.keep keep_put)
    | (with_reducible apply Life.ite <;> try extract_lets)

end Sys2Proof.Machine
end

