-- ==== Sys2Proof/Laws/PerInstr.lean ====
section
/-!
SUPPORT. Statements about every command, made per constructor. NoWord: no word of the opcode table spells the command, since the table gives no row
bits (Decode.lean).
-/
set_option Elab.async false
set_option linter.all false
namespace Sys2Proof.Laws.NoWord

/-- No word spells the command. -/
def Statement (i : Instr) : Prop := ∀ nbits w, decodeTableWord nbits w ≠ some i

theorem any (i : Instr) : Statement i := fun _ _ h => nomatch h

theorem nop {x0 x1} : Statement (.nop x0 x1) := any _
theorem paramWrite {x0 x1} : Statement (.paramWrite x0 x1) := any _
theorem paramRead {x0 x1} : Statement (.paramRead x0 x1) := any _
theorem planLoad {x0 x1} : Statement (.planLoad x0 x1) := any _
theorem admitPlan {x0 x1 x2} : Statement (.admitPlan x0 x1 x2) := any _
theorem develop {x0 x1} : Statement (.develop x0 x1) := any _
theorem developCancel {x0 x1} : Statement (.developCancel x0 x1) := any _
theorem fix {x0 x1} : Statement (.fix x0 x1) := any _
theorem clipLoad {x0 x1} : Statement (.clipLoad x0 x1) := any _
theorem clipPlay {x0 x1} : Statement (.clipPlay x0 x1) := any _
theorem clipStop {x0 x1} : Statement (.clipStop x0 x1) := any _
theorem verify {x0 x1} : Statement (.verify x0 x1) := any _
theorem capture {x0 x1} : Statement (.capture x0 x1) := any _
theorem learnLines {x0 x1} : Statement (.learnLines x0 x1) := any _
theorem store {x0 x1} : Statement (.store x0 x1) := any _
theorem abort {x0 x1} : Statement (.abort x0 x1) := any _
theorem pairJoin {x0 x1} : Statement (.pairJoin x0 x1) := any _
theorem pairYield {x0 x1} : Statement (.pairYield x0 x1) := any _
theorem timeStep {x0 x1} : Statement (.timeStep x0 x1) := any _
theorem timeRate {x0 x1} : Statement (.timeRate x0 x1) := any _
theorem logRead {x0 x1} : Statement (.logRead x0 x1) := any _
theorem sheetDefine {x0 x1} : Statement (.sheetDefine x0 x1) := any _
theorem updateBegin {x0 x1} : Statement (.updateBegin x0 x1) := any _
theorem updateChunk {x0 x1} : Statement (.updateChunk x0 x1) := any _
theorem updateCommit {x0 x1} : Statement (.updateCommit x0 x1) := any _
theorem lifecycleAdvance {x0 x1} : Statement (.lifecycleAdvance x0 x1) := any _
theorem ringDoorbell {x0 x1 x2 x3} : Statement (.ringDoorbell x0 x1 x2 x3) := any _
theorem ringEnable {x0 x1} : Statement (.ringEnable x0 x1) := any _
theorem ringIrqTimeout {x0} : Statement (.ringIrqTimeout x0) := any _
theorem eventDelivery {x0} : Statement (.eventDelivery x0) := any _
theorem contactSheetEmit {x0} : Statement (.contactSheetEmit x0) := any _
theorem spiTransaction {x0 x1 x2 x3} : Statement (.spiTransaction x0 x1 x2 x3) := any _
theorem pcieLinkReset {x0} : Statement (.pcieLinkReset x0) := any _
theorem registerWrite {x0 x1 x2} : Statement (.registerWrite x0 x1 x2) := any _
theorem unallocatedPageAccess {x0} : Statement (.unallocatedPageAccess x0) := any _
theorem paramWindowWrite {x0 x1} : Statement (.paramWindowWrite x0 x1) := any _
theorem pageStatRead {x0} : Statement (.pageStatRead x0) := any _
theorem loHiCaptureRead {x0} : Statement (.loHiCaptureRead x0) := any _
theorem tdSecHiRead {x0 x1} : Statement (.tdSecHiRead x0 x1) := any _
theorem objectAreaCapture {x0} : Statement (.objectAreaCapture x0) := any _
theorem ainCsSeqRead {x0} : Statement (.ainCsSeqRead x0) := any _
theorem refPdSeqRead : Statement (.refPdSeqRead) := any _
theorem fltTopRead {x0} : Statement (.fltTopRead x0) := any _
theorem pbLaneStatRead {x0} : Statement (.pbLaneStatRead x0) := any _
theorem srst {x0} : Statement (.srst x0) := any _
theorem freeze {x0 x1} : Statement (.freeze x0 x1) := any _
theorem pageEnWrite {x0 x1} : Statement (.pageEnWrite x0 x1) := any _
theorem fltLatchClear {x0 x1} : Statement (.fltLatchClear x0 x1) := any _
theorem fltClassWrite {x0 x1 x2} : Statement (.fltClassWrite x0 x1 x2) := any _
theorem fltMaskWrite {x0 x1} : Statement (.fltMaskWrite x0 x1) := any _
theorem fltAck {x0 x1 x2} : Statement (.fltAck x0 x1 x2) := any _
theorem mnop {x0} : Statement (.mnop x0) := any _
theorem mpy {x0 x1 x2 x3} : Statement (.mpy x0 x1 x2 x3) := any _
theorem mac {x0 x1 x2 x3} : Statement (.mac x0 x1 x2 x3) := any _
theorem msu {x0 x1 x2 x3} : Statement (.msu x0 x1 x2 x3) := any _
theorem macs {x0 x1 x2 x3} : Statement (.macs x0 x1 x2 x3) := any _
theorem msus {x0 x1 x2 x3} : Statement (.msus x0 x1 x2 x3) := any _
theorem aclr {x0 x1} : Statement (.aclr x0 x1) := any _
theorem amov {x0 x1 x2} : Statement (.amov x0 x1 x2) := any _
theorem aadd {x0 x1 x2} : Statement (.aadd x0 x1 x2) := any _
theorem aldv {x0 x1 x2 x3} : Statement (.aldv x0 x1 x2 x3) := any _
theorem cvt {x0 x1 x2 x3} : Statement (.cvt x0 x1 x2 x3) := any _
theorem anorm {x0 x1 x2 x3} : Statement (.anorm x0 x1 x2 x3) := any _
theorem aexp {x0 x1 x2} : Statement (.aexp x0 x1 x2) := any _
theorem aexpm {x0 x1 x2} : Statement (.aexpm x0 x1 x2) := any _
theorem vadd {x0 x1 x2 x3} : Statement (.vadd x0 x1 x2 x3) := any _
theorem vsub {x0 x1 x2 x3} : Statement (.vsub x0 x1 x2 x3) := any _
theorem vneg {x0 x1 x2} : Statement (.vneg x0 x1 x2) := any _
theorem vabs {x0 x1 x2} : Statement (.vabs x0 x1 x2) := any _
theorem vmin {x0 x1 x2 x3} : Statement (.vmin x0 x1 x2 x3) := any _
theorem vmax {x0 x1 x2 x3} : Statement (.vmax x0 x1 x2 x3) := any _
theorem vand {x0 x1 x2 x3} : Statement (.vand x0 x1 x2 x3) := any _
theorem vor {x0 x1 x2 x3} : Statement (.vor x0 x1 x2 x3) := any _
theorem vxor {x0 x1 x2 x3} : Statement (.vxor x0 x1 x2 x3) := any _
theorem vmov {x0 x1 x2} : Statement (.vmov x0 x1 x2) := any _
theorem vspl {x0 x1 x2} : Statement (.vspl x0 x1 x2) := any _
theorem vmul {x0 x1 x2 x3 x4} : Statement (.vmul x0 x1 x2 x3 x4) := any _
theorem norm {x0 x1 x2 x3 x4} : Statement (.norm x0 x1 x2 x3 x4) := any _
theorem exp {x0 x1 x2} : Statement (.exp x0 x1 x2) := any _
theorem expm {x0 x1 x2} : Statement (.expm x0 x1 x2) := any _
theorem vcmplt {x0 x1 x2} : Statement (.vcmplt x0 x1 x2) := any _
theorem vcmple {x0 x1 x2} : Statement (.vcmple x0 x1 x2) := any _
theorem vcmpeq {x0 x1 x2} : Statement (.vcmpeq x0 x1 x2) := any _
theorem vsel {x0 x1 x2 x3} : Statement (.vsel x0 x1 x2 x3) := any _
theorem sadd {x0 x1 x2 x3} : Statement (.sadd x0 x1 x2 x3) := any _
theorem ssub {x0 x1 x2 x3} : Statement (.ssub x0 x1 x2 x3) := any _
theorem saddi {x0 x1 x2 x3} : Statement (.saddi x0 x1 x2 x3) := any _
theorem sand {x0 x1 x2 x3} : Statement (.sand x0 x1 x2 x3) := any _
theorem sor {x0 x1 x2 x3} : Statement (.sor x0 x1 x2 x3) := any _
theorem sshl {x0 x1 x2 x3} : Statement (.sshl x0 x1 x2 x3) := any _
theorem sshr {x0 x1 x2 x3} : Statement (.sshr x0 x1 x2 x3) := any _
theorem smul {x0 x1 x2 x3} : Statement (.smul x0 x1 x2 x3) := any _
theorem scmplt {x0 x1 x2} : Statement (.scmplt x0 x1 x2) := any _
theorem anop {x0} : Statement (.anop x0) := any _
theorem ldv {x0 x1 x2 x3} : Statement (.ldv x0 x1 x2 x3) := any _
theorem stv {x0 x1 x2 x3} : Statement (.stv x0 x1 x2 x3) := any _
theorem ldb {x0 x1 x2 x3} : Statement (.ldb x0 x1 x2 x3) := any _
theorem lds {x0 x1 x2 x3} : Statement (.lds x0 x1 x2 x3) := any _
theorem sts {x0 x1 x2 x3} : Statement (.sts x0 x1 x2 x3) := any _
theorem stc {x0 x1 x2 x3 x4} : Statement (.stc x0 x1 x2 x3 x4) := any _
theorem ldap {x0 x1 x2 x3 x4} : Statement (.ldap x0 x1 x2 x3 x4) := any _
theorem stap {x0 x1 x2 x3 x4} : Statement (.stap x0 x1 x2 x3 x4) := any _
theorem ldv2 {x0 x1 x2 x3 x4 x5 x6} : Statement (.ldv2 x0 x1 x2 x3 x4 x5 x6) := any _
theorem ldvb {x0 x1 x2 x3 x4 x5 x6} : Statement (.ldvb x0 x1 x2 x3 x4 x5 x6) := any _
theorem ldst {x0 x1 x2 x3 x4 x5 x6} : Statement (.ldst x0 x1 x2 x3 x4 x5 x6) := any _
theorem aupd {x0 x1 x2} : Statement (.aupd x0 x1 x2) := any _
theorem setm {x0 x1 x2} : Statement (.setm x0 x1 x2) := any _
theorem mvp {x0 x1 x2} : Statement (.mvp x0 x1 x2) := any _
theorem mvm {x0 x1 x2} : Statement (.mvm x0 x1 x2) := any _
theorem mvl {x0 x1 x2} : Statement (.mvl x0 x1 x2) := any _
theorem mvb {x0 x1 x2} : Statement (.mvb x0 x1 x2) := any _
theorem rdp {x0 x1 x2} : Statement (.rdp x0 x1 x2) := any _
theorem paddi {x0 x1 x2} : Statement (.paddi x0 x1 x2) := any _
theorem loadWriteback {x0} : Statement (.loadWriteback x0) := any _
theorem cnop {x0} : Statement (.cnop x0) := any _
theorem swapEnd {x0} : Statement (.swapEnd x0) := any _
theorem br {x0 x1} : Statement (.br x0 x1) := any _
theorem brc {x0 x1 x2} : Statement (.brc x0 x1 x2) := any _
theorem loop {x0 x1 x2} : Statement (.loop x0 x1 x2) := any _
theorem setlc {x0 x1 x2} : Statement (.setlc x0 x1 x2) := any _
theorem mvlc {x0 x1 x2} : Statement (.mvlc x0 x1 x2) := any _
theorem smov {x0 x1 x2} : Statement (.smov x0 x1 x2) := any _
theorem sldi {x0 x1 x2} : Statement (.sldi x0 x1 x2) := any _
theorem vext {x0 x1 x2 x3} : Statement (.vext x0 x1 x2 x3) := any _
theorem vins {x0 x1 x2 x3} : Statement (.vins x0 x1 x2 x3) := any _
theorem rdcs {x0 x1} : Statement (.rdcs x0 x1) := any _
theorem tickStart {x0 x1 x2 x3 x4 x5} : Statement (.tickStart x0 x1 x2 x3 x4 x5) := any _
theorem tickEntry {x0 x1 x2} : Statement (.tickEntry x0 x1 x2) := any _
theorem phaseB {x0 x1 x2} : Statement (.phaseB x0 x1 x2) := any _
theorem phaseC {x0 x1 x2 x3} : Statement (.phaseC x0 x1 x2 x3) := any _
theorem phaseD {x0 x1 x2} : Statement (.phaseD x0 x1 x2) := any _
theorem phaseE {x0 x1 x2 x3} : Statement (.phaseE x0 x1 x2 x3) := any _
theorem kernelBudgetExhausted {x0} : Statement (.kernelBudgetExhausted x0) := any _
theorem tickOvr {x0} : Statement (.tickOvr x0) := any _
theorem lineJudge {x0} : Statement (.lineJudge x0) := any _
theorem ambientBlock {x0} : Statement (.ambientBlock x0) := any _
theorem probeSynthesisDone {x0} : Statement (.probeSynthesisDone x0) := any _
theorem probeStart {x0} : Statement (.probeStart x0) := any _
theorem probePeriod {x0 x1 x2} : Statement (.probePeriod x0 x1 x2) := any _
theorem probeYield {x0} : Statement (.probeYield x0) := any _
theorem probeOutputEnd {x0} : Statement (.probeOutputEnd x0) := any _
theorem pathResult {x0} : Statement (.pathResult x0) := any _
theorem safelightStoreDone {x0} : Statement (.safelightStoreDone x0) := any _
theorem tdmInputFrame {x0 x1 x2 x3 x4 x5} : Statement (.tdmInputFrame x0 x1 x2 x3 x4 x5) := any _
theorem tdmOutputFrame {x0} : Statement (.tdmOutputFrame x0) := any _
theorem tdmBclkLoss {x0} : Statement (.tdmBclkLoss x0) := any _
theorem tdmLossExit {x0} : Statement (.tdmLossExit x0) := any _
theorem preRollEnd {x0} : Statement (.preRollEnd x0) := any _
theorem postRollEnd {x0} : Statement (.postRollEnd x0) := any _
theorem aes3RxFrame {x0 x1 x2 x3 x4 x5 x6 x7 x8 x9} : Statement (.aes3RxFrame x0 x1 x2 x3 x4 x5 x6 x7 x8 x9) := any _
theorem aes3CsBlockRx {x0 x1 x2 x3 x4} : Statement (.aes3CsBlockRx x0 x1 x2 x3 x4) := any _
theorem aes3TxBlockStart {x0 x1} : Statement (.aes3TxBlockStart x0 x1) := any _
theorem aoutCsCommit {x0 x1} : Statement (.aoutCsCommit x0 x1) := any _
theorem pdmClockLoss : Statement (.pdmClockLoss) := any _
theorem pdmLossExit : Statement (.pdmLossExit) := any _
theorem micStuck {x0} : Statement (.micStuck x0) := any _
theorem micStuckEnd {x0} : Statement (.micStuckEnd x0) := any _
theorem asrcLock {x0 x1} : Statement (.asrcLock x0 x1) := any _
theorem asrcUnlock {x0 x1} : Statement (.asrcUnlock x0 x1) := any _
theorem macFrameRx {x0 x1} : Statement (.macFrameRx x0 x1) := any _
theorem pauseExpiry {x0} : Statement (.pauseExpiry x0) := any _
theorem macFrameTx {x0 x1} : Statement (.macFrameTx x0 x1) := any _
theorem collision {x0} : Statement (.collision x0) := any _
theorem backoffExpiry : Statement (.backoffExpiry) := any _
theorem arpRetryTimer {x0} : Statement (.arpRetryTimer x0) := any _
theorem arpRefreshTimer {x0} : Statement (.arpRefreshTimer x0) := any _
theorem noArp {x0} : Statement (.noArp x0) := any _
theorem prpSupervisionTimer : Statement (.prpSupervisionTimer) := any _
theorem prpNodeAgeout {x0} : Statement (.prpNodeAgeout x0) := any _
theorem prpPartnerTimeout {x0 x1} : Statement (.prpPartnerTimeout x0 x1) := any _
theorem oneLan {x0 x1} : Statement (.oneLan x0 x1) := any _
theorem streamPacketRx {x0} : Statement (.streamPacketRx x0) := any _
theorem streamPacketTx {x0 x1} : Statement (.streamPacketTx x0 x1) := any _
theorem ptpMessageRx {x0} : Statement (.ptpMessageRx x0) := any _
theorem ptpSyncInterval {x0 x1 x2 x3} : Statement (.ptpSyncInterval x0 x1 x2 x3) := any _
theorem ptpAnnounceTimeout {x0} : Statement (.ptpAnnounceTimeout x0) := any _
theorem ptpCfgApply {x0} : Statement (.ptpCfgApply x0) := any _
theorem anchorSlip {x0} : Statement (.anchorSlip x0) := any _
theorem macmLinkChange {x0} : Statement (.macmLinkChange x0) := any _
theorem clockLoss {x0 x1} : Statement (.clockLoss x0 x1) := any _
theorem clkFreq {x0} : Statement (.clkFreq x0) := any _
theorem cdcTimeout {x0} : Statement (.cdcTimeout x0) := any _
theorem ncoUpdate {x0 x1} : Statement (.ncoUpdate x0 x1) := any _
theorem candidateMeasurement {x0 x1} : Statement (.candidateMeasurement x0 x1) := any _
theorem candidateQualified {x0} : Statement (.candidateQualified x0) := any _
theorem candidateUnusable {x0} : Statement (.candidateUnusable x0) := any _
theorem referenceSwitch : Statement (.referenceSwitch) := any _
theorem referenceRevert {x0} : Statement (.referenceRevert x0) := any _
theorem dpllSlewEnd : Statement (.dpllSlewEnd) := any _
theorem dpllLock : Statement (.dpllLock) := any _
theorem dpllLockStep {x0} : Statement (.dpllLockStep x0) := any _
theorem dpllPhaseAlarm : Statement (.dpllPhaseAlarm) := any _
theorem outputRealign {x0 x1} : Statement (.outputRealign x0 x1) := any _
theorem meterHoldWrite {x0 x1} : Statement (.meterHoldWrite x0 x1) := any _
theorem recFreeze : Statement (.recFreeze) := any _
theorem recResume : Statement (.recResume) := any _
theorem recDrain {x0} : Statement (.recDrain x0) := any _
theorem recorderDrainBuffer : Statement (.recorderDrainBuffer) := any _
theorem recorderAutoFreeze : Statement (.recorderAutoFreeze) := any _
theorem deferredColumnStart {x0 x1} : Statement (.deferredColumnStart x0 x1) := any _
theorem developArmed : Statement (.developArmed) := any _
theorem developCommit : Statement (.developCommit) := any _
theorem disruptivePlanStart : Statement (.disruptivePlanStart) := any _
theorem mediaGlideEnd : Statement (.mediaGlideEnd) := any _
theorem dissolveWaitStart {x0} : Statement (.dissolveWaitStart x0) := any _
theorem dissolveEnd {x0} : Statement (.dissolveEnd x0) := any _
theorem chainedChangeStart {x0} : Statement (.chainedChangeStart x0) := any _
theorem fixSnapshot : Statement (.fixSnapshot) := any _
theorem fixPhaseDone {x0} : Statement (.fixPhaseDone x0) := any _
theorem clipStart {x0} : Statement (.clipStart x0) := any _
theorem clipEnd {x0} : Statement (.clipEnd x0) := any _
theorem triggerDetection {x0} : Statement (.triggerDetection x0) := any _
theorem lineFault {x0} : Statement (.lineFault x0) := any _
theorem lineFaultClear {x0} : Statement (.lineFaultClear x0) := any _
theorem triggerFire {x0} : Statement (.triggerFire x0) := any _
theorem fltInjForceRaw {x0 x1} : Statement (.fltInjForceRaw x0 x1) := any _
theorem fltInjRailsHigh {x0 x1} : Statement (.fltInjRailsHigh x0 x1) := any _
theorem fltInjRailsLow {x0 x1} : Statement (.fltInjRailsLow x0 x1) := any _
theorem fltInjFlipOne {x0} : Statement (.fltInjFlipOne x0) := any _
theorem fltInjFlipTwo {x0} : Statement (.fltInjFlipTwo x0) := any _
theorem fltInjCorruptSignature {x0} : Statement (.fltInjCorruptSignature x0) := any _
theorem fltInjCollectorDisagree {x0} : Statement (.fltInjCollectorDisagree x0) := any _
theorem fltInjStop : Statement (.fltInjStop) := any _
theorem marchGo : Statement (.marchGo) := any _
theorem marchAbort : Statement (.marchAbort) := any _
theorem reacquire {x0} : Statement (.reacquire x0) := any _
theorem tdcLoad : Statement (.tdcLoad) := any _
theorem refOpen {x0} : Statement (.refOpen x0) := any _
theorem refNcoWrite {x0} : Statement (.refNcoWrite x0) := any _
theorem align {x0} : Statement (.align x0) := any _
theorem tickMatchArm {x0} : Statement (.tickMatchArm x0) := any _
theorem enCapWrite {x0} : Statement (.enCapWrite x0) := any _
theorem laneLoopback {x0 x1} : Statement (.laneLoopback x0 x1) := any _
theorem laneTxPattern {x0 x1} : Statement (.laneTxPattern x0 x1) := any _
theorem laneRxChecker {x0 x1} : Statement (.laneRxChecker x0 x1) := any _
theorem laneInjOne {x0} : Statement (.laneInjOne x0) := any _
theorem lanePllLock {x0} : Statement (.lanePllLock x0) := any _
theorem laneSignalDetect {x0} : Statement (.laneSignalDetect x0) := any _
theorem laneCdrLock {x0} : Statement (.laneCdrLock x0) := any _
theorem laneAdaptEnd {x0 x1 x2 x3 x4} : Statement (.laneAdaptEnd x0 x1 x2 x3 x4) := any _
theorem laneAlignedEv {x0 x1} : Statement (.laneAlignedEv x0 x1) := any _
theorem laneStateTimeout {x0} : Statement (.laneStateTimeout x0) := any _
theorem laneDown {x0 x1} : Statement (.laneDown x0 x1) := any _
theorem lowFom {x0 x1 x2} : Statement (.lowFom x0 x1 x2) := any _
theorem prbsCheckerSync {x0 x1 x2 x3} : Statement (.prbsCheckerSync x0 x1 x2 x3) := any _
theorem laneInjPeriodic {x0} : Statement (.laneInjPeriodic x0) := any _
theorem pcieLinkUp {x0 x1} : Statement (.pcieLinkUp x0 x1) := any _
theorem katRoundStart : Statement (.katRoundStart) := any _
theorem katRoundDone {x0} : Statement (.katRoundDone x0) := any _
theorem katLate : Statement (.katLate) := any _
theorem faultEdgeCollect : Statement (.faultEdgeCollect) := any _
theorem railBroken {x0 x1} : Statement (.railBroken x0 x1) := any _
theorem faultTimerExpiry {x0 x1} : Statement (.faultTimerExpiry x0 x1) := any _
theorem firmwareAutoAck {x0 x1} : Statement (.firmwareAutoAck x0 x1) := any _
theorem collector : Statement (.collector) := any _
theorem sensorSample {x0} : Statement (.sensorSample x0) := any _
theorem railMonitorReading {x0 x1 x2} : Statement (.railMonitorReading x0 x1 x2) := any _
theorem scrubPassEnd {x0 x1} : Statement (.scrubPassEnd x0 x1) := any _
theorem dramTempPoll {x0 x1} : Statement (.dramTempPoll x0 x1) := any _
theorem marchSegmentDone {x0 x1} : Statement (.marchSegmentDone x0 x1) := any _
theorem fabricAgePromotion {x0 x1 x2 x3} : Statement (.fabricAgePromotion x0 x1 x2 x3) := any _
theorem lockTimeout : Statement (.lockTimeout) := any _
theorem noPath {x0 x1} : Statement (.noPath x0 x1) := any _
theorem logFlush {x0} : Statement (.logFlush x0) := any _
theorem clusterWake {x0} : Statement (.clusterWake x0) := any _
theorem clusterImageReloadDone {x0 x1} : Statement (.clusterImageReloadDone x0 x1) := any _
theorem groupIdle {x0} : Statement (.groupIdle x0) := any _
theorem energyWindowEnd : Statement (.energyWindowEnd) := any _
theorem shedCommit : Statement (.shedCommit) := any _
theorem pmbusCalibrationRead {x0} : Statement (.pmbusCalibrationRead x0) := any _
theorem zeroise : Statement (.zeroise) := any _
theorem zeroiseDone : Statement (.zeroiseDone) := any _
theorem tamper {x0} : Statement (.tamper x0) := any _
theorem mbResetWarm {x0 x1} : Statement (.mbResetWarm x0 x1) := any _
theorem mbResetCold {x0 x1} : Statement (.mbResetCold x0 x1) := any _
theorem mbResetMgmt {x0 x1} : Statement (.mbResetMgmt x0 x1) := any _
theorem mgmtWdt {x0} : Statement (.mgmtWdt x0) := any _
theorem porNAssert : Statement (.porNAssert) := any _
theorem porNRelease {x0} : Statement (.porNRelease x0) := any _
theorem resetNAssert : Statement (.resetNAssert) := any _
theorem resetNRelease {x0 x1} : Statement (.resetNRelease x0 x1) := any _
theorem firmwareConfirm : Statement (.firmwareConfirm) := any _
theorem trialBootTimeout {x0} : Statement (.trialBootTimeout x0) := any _
theorem updateProgramDone {x0} : Statement (.updateProgramDone x0) := any _
theorem pfailNLow : Statement (.pfailNLow) := any _
theorem pfailRecoveryRestart {x0} : Statement (.pfailRecoveryRestart x0) := any _
theorem cdcClockReturn {x0} : Statement (.cdcClockReturn x0) := any _
theorem deskewMarkerRx {x0 x1 x2} : Statement (.deskewMarkerRx x0 x1 x2) := any _
theorem porbuodRateStep {x0} : Statement (.porbuodRateStep x0) := any _
theorem tickMessageRx {x0 x1 x2 x3 x4 x5} : Statement (.tickMessageRx x0 x1 x2 x3 x4 x5) := any _
theorem inputMessageRx {x0 x1 x2} : Statement (.inputMessageRx x0 x1 x2) := any _
theorem stateMessageRx {x0 x1} : Statement (.stateMessageRx x0 x1) := any _
theorem paramMessageRx {x0 x1 x2} : Statement (.paramMessageRx x0 x1 x2) := any _
theorem armMessageRx {x0 x1 x2} : Statement (.armMessageRx x0 x1 x2) := any _
theorem ackMessageRx {x0 x1} : Statement (.ackMessageRx x0 x1) := any _
theorem confirmMessageRx {x0 x1 x2} : Statement (.confirmMessageRx x0 x1 x2) := any _
theorem confirmDeadline : Statement (.confirmDeadline) := any _
theorem bulkMessageRx {x0 x1 x2} : Statement (.bulkMessageRx x0 x1 x2) := any _
theorem ctrlMessageRx {x0 x1 x2} : Statement (.ctrlMessageRx x0 x1 x2) := any _
theorem pbRetransmit {x0} : Statement (.pbRetransmit x0) := any _
theorem heartbeatMiss : Statement (.heartbeatMiss) := any _
theorem clmiWordRx {x0} : Statement (.clmiWordRx x0) := any _
theorem clmiLost : Statement (.clmiLost) := any _
theorem promotion : Statement (.promotion) := any _
theorem election : Statement (.election) := any _
theorem pairWaitExpiry : Statement (.pairWaitExpiry) := any _
theorem pairLinkTimeout : Statement (.pairLinkTimeout) := any _
theorem stateTransferDone : Statement (.stateTransferDone) := any _
theorem pairVerifyDone : Statement (.pairVerifyDone) := any _
theorem excuseWindowClose : Statement (.excuseWindowClose) := any _
theorem handover : Statement (.handover) := any _
theorem handoverComplete : Statement (.handoverComplete) := any _

end Sys2Proof.Laws.NoWord
end

