-- ==== Sys2Proof/Laws/Ram.lean ====
section
/-!
SUPPORT. The clusters' memories under every operation that touches a cluster: `Ram s t` says that they are in their canonical forms in `t`
where they are in `s`. What leaves the component `clusters` alone (Laws/Keep.lean) is Ram at once.
-/
set_option Elab.async false
set_option linter.all false
namespace Sys2Proof.Machine

/-- The five maps of a cluster that have a canonical form. -/
theorem canonical_iff {k : Cluster} : k.canonical = true ↔ Sparse.wf (fun _ => 0) k.mem = true ∧ Sparse.wf (fun _ => 0) k.pmem = true ∧
    Sparse.wf (fun _ => 0) k.memBad = true ∧ Sparse.wf (fun _ => 0) k.pmemBad = true ∧ Sparse.wf (fun _ => 0) k.flips = true := by
  simp only [Cluster.canonical, Bool.and_eq_true, and_assoc]

theorem canonical_of_mems {k k' : Cluster} (h : k.canonical = true) (h1 : k'.mem = k.mem) (h2 : k'.pmem = k.pmem) (h3 : k'.memBad = k.memBad)
    (h4 : k'.pmemBad = k.pmemBad) (h5 : k'.flips = k.flips) : k'.canonical = true := by
  unfold Cluster.canonical at *; rw [h1, h2, h3, h4, h5]; exact h

theorem canonical_pmem {k : Cluster} {m : Sparse (BitVec 64)} (h : k.canonical = true) (hm : Sparse.wf (fun _ => 0) k.pmem = true → Sparse.wf (fun _ => 0) m = true) :
    ({ k with pmem := m } : Cluster).canonical = true := by
  rw [canonical_iff] at *
  exact ⟨h.1, hm h.2.1, h.2.2⟩

theorem wf_ite {α : Type} [DecidableEq α] {d : Nat → α} {p : Prop} [Decidable p] {a b : Sparse α} (ha : Sparse.wf d a = true) (hb : Sparse.wf d b = true) :
    Sparse.wf d (if p then a else b) = true := by
  split <;> assumption

theorem canonical_putBytes {k : Cluster} {a : Nat} {b : List Byte} (h : k.canonical = true) : (k.putBytes a b).canonical = true := by
  rw [canonical_iff] at *
  have hf : Sparse.wf (fun _ => 0) (k.memBad.filter fun x => decide (x.1 + 4 ≤ a) || decide (a + b.length ≤ x.1)) = true := Sparse.wf_filter h.2.2.1
  exact ⟨wf_memBytes h.1, h.2.1, wf_ite hf (Sparse.wf_set (d := fun _ => 0) hf), h.2.2.2.1, wf_ite h.2.2.2.2 (Sparse.wf_set (d := fun _ => 0) h.2.2.2.2)⟩

theorem canonical_codeWritten {k : Cluster} {a n : Nat} (h : k.canonical = true) : (k.codeWritten a n).canonical = true := by
  rw [canonical_iff] at *
  have hf : Sparse.wf (fun _ => 0) (k.pmemBad.filter fun x => decide (x.1 < a) || decide (a + n ≤ x.1)) = true := Sparse.wf_filter h.2.2.2.1
  exact ⟨h.1, h.2.1, h.2.2.1, wf_ite hf (Sparse.wf_set (d := fun _ => 0) hf), wf_ite h.2.2.2.2 (Sparse.wf_set (d := fun _ => 0) h.2.2.2.2)⟩

theorem canonical_setWord {k : Cluster} {a : Nat} {w : Word} (h : k.canonical = true) : (k.setWord a w).canonical = true := by
  rw [canonical_iff] at *
  exact ⟨Sparse.wf_set (d := fun _ => 0) (Sparse.wf_set (d := fun _ => 0) (Sparse.wf_set (d := fun _ => 0) (Sparse.wf_set (d := fun _ => 0) h.1))),
    h.2.1, Sparse.wf_set (d := fun _ => 0) h.2.2.1, h.2.2.2.1, Sparse.wf_set (d := fun _ => 0) h.2.2.2.2⟩

theorem canonical_scrubbed {k : Cluster} {ev : List ClEvent} (h : k.canonical = true) : (k.scrubbed ev).canonical = true := by
  rw [canonical_iff] at *
  refine ⟨h.1, h.2.1, ?_, h.2.2.2.1, h.2.2.2.2⟩
  show Sparse.wf (fun _ => 0) (ev.foldl _ k.memBad) = true
  generalize k.memBad = m at h
  induction ev generalizing m with
  | nil => exact h.2.2.1
  | cons e t ih =>
    have hm := h.2.2.1
    refine ih _ ⟨h.1, h.2.1, ?_, h.2.2.2⟩
    dsimp only
    split
    · exact wf_ite (Sparse.wf_set (d := fun _ => 0) hm) hm
    · exact hm

theorem canonical_storeAll {l : List (Nat × Word)} : ∀ {k : Cluster}, k.canonical = true → (k.storeAll l).canonical = true := by
  unfold Cluster.storeAll
  induction l with
  | nil => exact fun h => h
  | cons x l ih => exact fun h => ih (canonical_setWord h)

theorem canonical_put {k : Cluster} {x : RegWrite} (h : k.canonical = true) : (k.put x).canonical = true := by
  cases x <;> exact h

theorem canonical_putAll {l : List RegWrite} {k : Cluster} (h : k.canonical = true) : (k.putAll l).canonical = true := by
  unfold Cluster.putAll
  generalize standing [] l = m
  induction m generalizing k with
  | nil => exact h
  | cons x m ih => exact ih (canonical_put h)

theorem canonical_advance {k : Cluster} {x : Control} {lc : Option (Fin 2 × BitVec 16)} (h : k.canonical = true) : (k.advance x lc).canonical = true := by
  unfold Cluster.advance; extract_lets l; clear_value l
  cases x with
  | loop a n => dsimp only; split <;> exact h
  | branch t => exact h
  | seq => exact h
  | swap => exact h

theorem canonical_stop {k : Cluster} {n : Nat} (h : k.canonical = true) : (k.count.stop n).canonical = true := h

theorem canonical_issue {k : Cluster} {b : Bundle} (h : k.canonical = true) : (k.issue b).c.canonical = true := by
  unfold Cluster.issue
  extract_lets m a x sticky st stat c0 c1
  split
  · exact h
  · split
    · exact h
    · have h0 : c0.canonical = true := canonical_storeAll (k := { k with cstat := stat }) h
      split
      · exact canonical_of_mems (canonical_putAll h0) rfl rfl rfl rfl rfl
      · exact canonical_of_mems (canonical_scrubbed (ev := a.events) (canonical_advance (x := x.ctl) (lc := x.lc) (canonical_putAll h0))) rfl rfl rfl rfl rfl

theorem canonical_exec {k : Cluster} {b : Bundle} (h : k.canonical = true) : (k.exec b).c.canonical = true := by
  have h1 := canonical_issue (b := b) h
  unfold Cluster.exec
  split
  · exact h
  · extract_lets r
    split
    · split
      · exact h1
      · exact canonical_of_mems (canonical_putAll (k := r.c) h1) rfl rfl rfl rfl rfl
    · exact h1

theorem canonical_runKernel : ∀ {n : Nat} {k : Cluster} {ev : List ClEvent}, k.canonical = true → (Cluster.runKernel n k ev).c.canonical = true
  | 0, _, _, h => h
  | n + 1, k, ev, h => by
    unfold Cluster.runKernel
    split
    · exact h
    · split
      · exact h
      · extract_lets one ev1 r
        have h1 : r.c.canonical = true := by
          refine canonical_exec ?_
          split
          · rw [canonical_iff] at *
            exact ⟨h.1, h.2.1, h.2.2.1, Sparse.wf_set (d := fun _ => 0) h.2.2.2.1, h.2.2.2.2⟩
          · exact h
        split
        · exact canonical_runKernel h1
        · exact h1

/-- The clusters' memories stay in their canonical forms. -/
def Ram (s t : State) : Prop := s.ram = true → t.ram = true

theorem ram_iff {s : State} : s.ram = true ↔ ∀ c : Fin 16, s.clusters[c].canonical = true := by
  unfold State.ram
  rw [List.all_eq_true]
  exact ⟨fun h c => h c (List.mem_finRange c), fun h c _ => h c⟩

theorem Ram.refl {s : State} : Ram s s := id
theorem Ram.step {s t u : State} (h : Ram t u) (h0 : Ram s t) : Ram s u := fun x => h (h0 x)
theorem Ram.of_clusters {s t u : State} (h : u.clusters = t.clusters) (h0 : Ram s t) : Ram s u := fun x => by
  have := h0 x
  unfold State.ram at *
  rw [h]
  exact this
theorem Ram.keep {a : Nat} {s t u : State} (h : Keep a t u) (ha : a.testBit 17 = false) (h0 : Ram s t) : Ram s u := h0.of_clusters (h.clusters ha)

theorem Ram.ite {p : Prop} [Decidable p] {s a b : State} (ha : Ram s a) (hb : Ram s b) : Ram s (if p then a else b) := by
  split <;> assumption
theorem Ram.ite_st {p : Prop} [Decidable p] {s : State} {a b : CmdRes} (ha : Ram s a.st) (hb : Ram s b.st) : Ram s (if p then a else b).st := by
  split <;> assumption
theorem Ram.ite_snd {α : Type} {p : Prop} [Decidable p] {s : State} {a b : α × State} (ha : Ram s a.2) (hb : Ram s b.2) :
    Ram s (if p then a else b).2 := by
  split <;> assumption

theorem Ram.fold {α : Type} {f : State → α → State} {l : List α} {s0 s : State} (h : Ram s0 s) (hf : ∀ s x, Ram s (f s x)) :
    Ram s0 (l.foldl f s) := by
  induction l generalizing s with
  | nil => exact h
  | cons x l ih => exact ih (Ram.step (hf s x) h)

theorem Ram.each {α : Type} {f : State → α → State} {l : List α} {s0 s : State} (h : Ram s0 s)
    (hf : ∀ s x, Ram s (f s x)) : Ram s0 (s.each l f) := Ram.fold h hf

theorem Ram.fold_snd {α β : Type} {f : β × State → α → β × State} {l : List α} {s0 : State} {p : β × State} (h : Ram s0 p.2)
    (hf : ∀ p x, Ram p.2 (f p x).2) : Ram s0 (l.foldl f p).2 := by
  induction l generalizing p with
  | nil => exact h
  | cons x l ih => exact ih (Ram.step (hf p x) h)

/-- Other components replaced. -/
theorem Ram.of_mk {s t : State} (h : Ram s t) {x0 x1 x2 x3 x4 x5 x6 x7 x8 x9 x10 x11 x12 x13 x14 x15 x16 x18 x19 x20 x21 x22 x23 x24 x25} : Ram s (State.mk x0 x1 x2 x3 x4 x5 x6 x7 x8 x9 x10 x11 x12 x13 x14 x15 x16 t.clusters x18 x19 x20 x21 x22 x23 x24 x25) :=
  Ram.of_clusters (t := t) rfl h

theorem Ram.set {s t : State} {c : Fin 16} {k : Cluster} (h : Ram s t) (hk : t.ram = true → k.canonical = true) : Ram s (t.setCluster c k) := fun x => by
  rw [ram_iff]
  intro d
  by_cases e : d = c
  · subst e
    have : (t.setCluster d k).clusters[d] = k := Vector.getElem_set_self _
    rw [this]; exact hk (h x)
  · have : (t.setCluster c k).clusters[d] = t.clusters[d] := Vector.getElem_set_ne c.isLt d.isLt (fun z => e (Fin.ext z.symm))
    rw [this]; exact ram_iff.1 (h x) d

/-- A cluster written after changes to other components, computed from the state before them. -/
theorem Ram.set_of {s t : State} {c : Fin 16} {k : Cluster} (h : t.clusters = s.clusters) (hk : s.ram = true → k.canonical = true) :
    Ram s (t.setCluster c k) :=
  (Ram.of_clusters (t := s) h Ram.refl).set fun x => hk (by unfold State.ram at x ⊢; rw [h] at x; exact x)

theorem Ram.put_bytes {s t : State} {c d : Fin 16} {a : Nat} {b : List Byte} (h : Ram s t) : Ram s (t.setCluster c (t.clusters[d].putBytes a b)) :=
  h.set fun x => canonical_putBytes (ram_iff.1 x d)

theorem Ram.zero {s t : State} {c : Fin 16} (h : Ram s t) : Ram s (t.setCluster c .zero) := h.set fun _ => rfl

theorem Ram.same_mem {s t : State} {c d : Fin 16} {n : Nat} (h : Ram s t) : Ram s (t.setCluster c { t.clusters[d] with issued := n }) :=
  h.set fun x => ram_iff.1 x d

/-! The operations. -/

theorem ram_afterIssue {s : State} {c old r own} (h : s.ram = true → r.c.canonical = true) : Ram s (State.afterIssue s c old r own) := by
  unfold State.afterIssue
  extract_lets hd aovf left src s1 s2
  have h1 : Ram s s1 := Ram.set Ram.refl fun x => by
    split
    · exact h x
    · exact canonical_of_mems (h x) rfl rfl rfl rfl rfl
  have h2 : Ram s s2 := Ram.each h1 fun s x => Ram.keep keep_clEvent rfl Ram.refl
  split
  · exact h2
  · exact Ram.keep keep_kernelEnded rfl h2

theorem ram_kernelStop {s : State} {x0 x1 x2} : Ram s (State.kernelStop s x0 x1 x2) := by
  unfold State.kernelStop
  extract_lets s1
  have h1 : Ram s s1 := by
    show Ram s (match s.eng.insts[x1.handle]? with
      | none => s
      | some i => _)
    split
    · exact Ram.refl
    · exact Ram.keep keep_stopInst rfl (Ram.keep keep_setInst rfl (Ram.put_bytes Ram.refl))
  exact Ram.ite (Ram.keep keep_kernelOvr rfl h1) h1

theorem ram_kernelRest {s : State} {x0} : Ram s (State.kernelRest s x0) := by
  unfold State.kernelRest
  split
  · split
    · exact Ram.put_bytes Ram.refl
    · exact Ram.refl
  · exact Ram.refl

theorem canonical_copiesIn {s : State} {a : Admitted} {h : Nat} {i : Inst} {k : Cluster} (hk : k.canonical = true) : (s.copiesIn a h i k).canonical = true := by
  unfold State.copiesIn
  dsimp only
  split
  · exact canonical_putBytes hk
  · exact canonical_putBytes (canonical_putBytes hk)

theorem ram_putCopies {s : State} {x0} : Ram s (State.putCopies s x0) := by
  unfold State.putCopies
  split
  · exact Ram.ite Ram.refl (Ram.set Ram.refl fun x => canonical_copiesIn (ram_iff.1 x _))
  · exact Ram.refl

theorem ram_runKernelInst {s : State} {x0 x1 x2 x3} : Ram s (State.runKernelInst s x0 x1 x2 x3).2 := by
  unfold State.runKernelInst
  split
  · extract_lets i c strip budget code base cl2 next cl3 s1 r src s2 cl f stopped ys0 left ys1 ys2 es ys3 fd fin now i1 s3 s4
    have c3 : s.ram = true → cl3.canonical = true := fun x =>
      canonical_of_mems (canonical_putBytes (canonical_copiesIn (ram_iff.1 x _))) rfl rfl rfl rfl rfl
    have h1 : Keep 0x2 s s1 := keep_wrAll
    have e1 : s1.ram = true → s.ram = true := fun x => by
      unfold State.ram at *; rw [h1.clusters] at x; exact x
    have h2 : Ram s s2 := Ram.step (ram_afterIssue fun x => canonical_runKernel (c3 (e1 x))) (Ram.keep h1 rfl Ram.refl)
    have h3 : Ram s s3 := by
      have h2' : Ram s (s2.setInst x0 i1) := Ram.keep keep_setInst rfl h2
      refine Ram.set h2' fun x => canonical_putBytes (ram_iff.1 ?_ c)
      unfold State.ram at x ⊢
      rw [(keep_setInst (s := s2)).clusters] at x
      exact x
    have h4 : Ram s s4 := by
      show Ram s (if stopped then s3.stopInst x0 else s3)
      exact Ram.ite (Ram.keep keep_stopInst rfl h3) h3
    show Ram s (if r.fate = .budget then s4.kernelOvr _ _ else s4)
    exact Ram.ite (Ram.keep keep_kernelOvr rfl h4) h4
  · exact Ram.refl

theorem ram_builtinRun {s : State} {x0 x1 x2} : Ram s (State.builtinRun s x0 x1 x2) := by
  unfold State.builtinRun
  split
  · exact Ram.refl
  · exact Ram.set_of keep_wrAll.clusters fun x => canonical_putBytes (ram_iff.1 x _)

theorem ram_runInst {s : State} {x0 x1 x2 x3} : Ram s (State.runInst s x0 x1 x2 x3).2 := by
  unfold State.runInst
  try extract_lets
  repeat' first
    | (with_reducible apply Ram.refl)
    | (show Nat.testBit _ _ = false; rfl)
    | (with_reducible apply Ram.keep keep_tapsReplaced)
    | (with_reducible apply Ram.keep keep_dramDouble)
    | (with_reducible apply Ram.keep keep_clipConceal)
    | (with_reducible apply Ram.step ram_builtinRun)
    | (with_reducible apply Ram.step ram_runKernelInst)
    | (with_reducible apply Ram.keep keep_setInst)
    | (with_reducible apply Ram.ite <;> try extract_lets)
    | (with_reducible apply Ram.ite_snd <;> try extract_lets)
    | (with_reducible apply Ram.put_bytes)
    | (with_reducible apply Ram.zero)
    | (dsimp only)
    | (split <;> try extract_lets)
    | (dsimp +zetaDelta only; split <;> try extract_lets)
    | (with_reducible apply Ram.of_mk)

theorem ram_runStrip {s : State} {x0 x1 x2 x3 x4} : Ram s (State.runStrip s x0 x1 x2 x3 x4).2 := by
  unfold State.runStrip
  try extract_lets
  repeat' first
    | (with_reducible apply Ram.refl)
    | (show Nat.testBit _ _ = false; rfl)
    | (with_reducible apply Ram.step ram_runInst)
    | (with_reducible apply Ram.ite <;> try extract_lets)
    | (with_reducible apply Ram.ite_snd <;> try extract_lets)
    | (with_reducible apply Ram.put_bytes)
    | (with_reducible apply Ram.zero)
    | (with_reducible apply Ram.fold <;> try intro s x <;> try extract_lets)
    | (with_reducible apply Ram.fold_snd <;> try intro p x <;> try extract_lets)
    | (dsimp only)
    | (split <;> try extract_lets)
    | (dsimp +zetaDelta only; split <;> try extract_lets)
    | (with_reducible apply Ram.of_mk)

theorem ram_loadCluster {s : State} {x0 x1 x2 x3} : Ram s (State.loadCluster s x0 x1 x2 x3) := by
  unfold State.loadCluster
  extract_lets k0 code pm k1 mine k2
  refine Ram.set Ram.refl fun x => ?_
  have h0 : k0.canonical = true := ram_iff.1 x _
  have hp : ∀ (l : List (Nat × KernRec)) (m : Sparse (BitVec 64)), Sparse.wf (fun _ => 0) m = true → Sparse.wf (fun _ => 0)
      (l.foldl (fun m x => (indexed x.2.code).foldl (fun m b => Sparse.set 0 m (codeAt x1 x3.val x.1 + b.1) b.2) m) m) = true := by
    intro l
    induction l with
    | nil => exact fun m h => h
    | cons y l ih =>
      refine fun m h => ih _ ?_
      show Sparse.wf (fun _ => 0) (List.foldl _ m (indexed y.2.code)) = true
      generalize indexed y.2.code = cs
      clear ih
      induction cs generalizing m with
      | nil => exact h
      | cons z cs ih2 => exact ih2 _ (Sparse.wf_set (d := fun _ => 0) h)
  have hw : ∀ (l : List (Nat × KernRec)) (k : Cluster), k.canonical = true →
      (l.foldl (fun k x => k.codeWritten (codeAt x1 x3.val x.1) x.2.code.length) k).canonical = true := by
    intro l
    induction l with
    | nil => exact fun k h => h
    | cons y l ih => exact fun k h => ih _ (canonical_codeWritten h)
  have h1 : k1.canonical = true := hw _ _ (canonical_pmem h0 fun h => hp _ _ h)
  clear_value k1
  show (mine.foldl _ k1).canonical = true
  clear_value mine
  induction mine generalizing k1 with
  | nil => exact h1
  | cons y l ih =>
    refine ih _ ?_
    dsimp only
    split
    · exact canonical_putBytes h1
    · exact canonical_putBytes h1
    · exact h1

theorem ram_takeOver {s : State} : Ram s (State.takeOver s) := by
  unfold State.takeOver
  try extract_lets
  repeat' first
    | (with_reducible apply Ram.refl)
    | (show Nat.testBit _ _ = false; rfl)
    | (with_reducible apply Ram.keep keep_applyInsts)
    | (with_reducible apply Ram.step ram_loadCluster)
    | (with_reducible apply Ram.keep keep_showDiss)
    | (with_reducible apply Ram.ite <;> try extract_lets)
    | (with_reducible apply Ram.put_bytes)
    | (with_reducible apply Ram.zero)
    | (with_reducible apply Ram.each <;> try intro s x <;> try extract_lets)
    | (dsimp only)
    | (split <;> try extract_lets)
    | (dsimp +zetaDelta only; split <;> try extract_lets)
    | (with_reducible apply Ram.of_mk)

theorem ram_flipCluster {s : State} {x0 x1} : Ram s (State.flipCluster s x0 x1) := by
  have put : ∀ (c : Fin 16) (k : Nat), Ram s { s with clusters := s.clusters.set c { s.clusters[c] with flips := Sparse.set 0 s.clusters[c].flips k x1 } } :=
    fun c k => Ram.set (c := c) Ram.refl fun x => by
      have h := ram_iff.1 x c
      rw [canonical_iff] at *
      exact ⟨h.1, h.2.1, h.2.2.1, h.2.2.2.1, Sparse.wf_set (d := fun _ => 0) h.2.2.2.2⟩
  unfold State.flipCluster
  dsimp only
  exact Ram.ite (put _ _) (Ram.ite (put _ _) Ram.refl)

theorem ram_inject {s : State} {x0 x1 x2} : Ram s (State.inject s x0 x1 x2) := by
  unfold State.inject
  refine Ram.ite Ram.refl (Ram.ite (Ram.keep keep_wrAll rfl Ram.refl) (Ram.ite Ram.refl ?_))
  dsimp only
  generalize hs : s.wrAll _ = s1
  have hk : Ram s s1 := hs ▸ Ram.keep keep_wrAll rfl Ram.refl
  clear hs
  split
  · exact Ram.ite hk (Ram.keep keep_wr rfl (Ram.keep keep_edge rfl (Ram.keep keep_wr rfl hk)))
  · exact Ram.keep keep_railBroken rfl hk
  · exact Ram.keep keep_railBroken rfl hk
  · exact Ram.step ram_flipCluster (Ram.keep keep_setFlt rfl hk)
  · exact Ram.step ram_flipCluster (Ram.keep keep_setFlt rfl hk)
  · exact Ram.keep keep_setFlt rfl hk
  · exact Ram.keep keep_collectorFault rfl hk

theorem ram_injectEnd {s : State} : Ram s (State.injectEnd s) := by
  unfold State.injectEnd
  refine Ram.keep keep_setReg rfl fun x => ?_
  rw [ram_iff] at *
  intro c
  have h := x c
  have e : (s.clusters.map fun k : Cluster => { k with flips := [] })[c] = ({ s.clusters[c] with flips := [] } : Cluster) := Vector.getElem_map _ _
  show (s.clusters.map fun k : Cluster => { k with flips := [] })[c].canonical = true
  rw [e]
  rw [canonical_iff] at *
  exact ⟨h.1, h.2.1, h.2.2.1, h.2.2.2.1, rfl⟩

theorem ram_scrambled {s : State} {x0} : Ram s (State.scrambled s x0) := by
  unfold State.scrambled
  refine Ram.ite ?_ (Ram.ite ?_ (Ram.ite ?_ Ram.refl))
  · exact Ram.keep keep_setWin rfl (Ram.keep keep_setWin rfl (Ram.keep keep_openBytes rfl (Ram.keep keep_openBytes rfl Ram.refl)))
  · exact Ram.put_bytes (Ram.keep keep_openBytes rfl Ram.refl)
  · extract_lets c k pm
    refine Ram.set (Ram.of_mk Ram.refl) fun x => canonical_pmem (k := k) (ram_iff.1 x c) fun h => ?_
    show Sparse.wf (fun _ => 0) (List.foldl _ k.pmem _) = true
    generalize List.range 16384 = l
    generalize k.pmem = m at h
    induction l generalizing m with
    | nil => exact h
    | cons y l ih => exact ih _ (Sparse.wf_set (d := fun _ => 0) h)

theorem ram_marchEnd {s : State} {x0} : Ram s (State.marchEnd s x0) := by
  unfold State.marchEnd
  try extract_lets
  repeat' first
    | (with_reducible apply Ram.refl)
    | (show Nat.testBit _ _ = false; rfl)
    | (with_reducible apply Ram.step ram_scrambled)
    | (with_reducible apply Ram.keep keep_wrAll)
    | (with_reducible apply Ram.ite <;> try extract_lets)
    | (with_reducible apply Ram.put_bytes)
    | (with_reducible apply Ram.zero)
    | (dsimp only)
    | (split <;> try extract_lets)
    | (dsimp +zetaDelta only; split <;> try extract_lets)
    | (with_reducible apply Ram.of_mk)

theorem ram_marchSegment {s : State} {x0 x1} : Ram s (State.marchSegment s x0 x1) := by
  unfold State.marchSegment
  try extract_lets
  repeat' first
    | (with_reducible apply Ram.refl)
    | (show Nat.testBit _ _ = false; rfl)
    | (with_reducible apply Ram.step ram_marchEnd)
    | (with_reducible apply Ram.keep keep_pulse)
    | (with_reducible apply Ram.keep keep_bump)
    | (with_reducible apply Ram.keep keep_wr)
    | (with_reducible apply Ram.ite <;> try extract_lets)
    | (with_reducible apply Ram.put_bytes)
    | (with_reducible apply Ram.zero)
    | (dsimp only)
    | (split <;> try extract_lets)
    | (dsimp +zetaDelta only; split <;> try extract_lets)
    | (with_reducible apply Ram.of_mk)

theorem ram_lifeAfter {s : State} {x0} : Ram s (State.lifeAfter s x0) := by
  unfold State.lifeAfter
  try extract_lets
  repeat' first
    | (with_reducible apply Ram.refl)
    | (show Nat.testBit _ _ = false; rfl)
    | (with_reducible apply Ram.keep keep_eraseAll)
    | (with_reducible apply Ram.keep keep_loadKeys)
    | (with_reducible apply Ram.keep keep_unmaskFatal)
    | (with_reducible apply Ram.keep keep_showLife)
    | (with_reducible apply Ram.keep keep_setSec)
    | (with_reducible apply Ram.step ram_injectEnd)
    | (with_reducible apply Ram.keep keep_respond)
    | (with_reducible apply Ram.keep keep_record)
    | (with_reducible apply Ram.keep keep_pulse)
    | (with_reducible apply Ram.keep keep_wr)
    | (with_reducible apply Ram.ite <;> try extract_lets)
    | (with_reducible apply Ram.put_bytes)
    | (with_reducible apply Ram.zero)
    | (with_reducible apply Ram.each <;> try intro s x <;> try extract_lets)
    | (dsimp only)
    | (split <;> try extract_lets)
    | (dsimp +zetaDelta only; split <;> try extract_lets)
    | (with_reducible apply Ram.of_mk)

theorem ram_zeroiseDone {s : State} : Ram s (State.zeroiseDone s) := by
  unfold State.zeroiseDone
  try extract_lets
  repeat' first
    | (with_reducible apply Ram.refl)
    | (show Nat.testBit _ _ = false; rfl)
    | (with_reducible apply Ram.step ram_lifeAfter)
    | (with_reducible apply Ram.keep keep_lifeBefore)
    | (with_reducible apply Ram.keep keep_pulse)
    | (with_reducible apply Ram.keep keep_wrAll)
    | (with_reducible apply Ram.keep keep_bump)
    | (with_reducible apply Ram.ite <;> try extract_lets)
    | (with_reducible apply Ram.put_bytes)
    | (with_reducible apply Ram.zero)
    | (dsimp only)
    | (split <;> try extract_lets)
    | (dsimp +zetaDelta only; split <;> try extract_lets)
    | (with_reducible apply Ram.of_mk)

theorem ram_coldReset {s : State} {x0} : Ram s (State.coldReset s x0) := by
  unfold State.coldReset
  dsimp only
  exact Ram.keep keep_wr rfl (Ram.keep keep_updCut rfl (Ram.keep keep_fixCut rfl fun _ => show State.reset.ram = true by decide))

theorem ram_warmReset {s : State} {x0} : Ram s (State.warmReset s x0) := by
  unfold State.warmReset
  extract_lets s0 s1 src s2 s3 src1 host src2 src3 s4 s5
  have h0 : Ram s s0 := by
    show Ram s (match s.eng.restart with
      | some x => (s.startPlan x).takeOver
      | none => s.takeOver)
    split
    · exact Ram.step ram_takeOver (Ram.keep keep_startPlan rfl Ram.refl)
    · exact Ram.step ram_takeOver Ram.refl
  clear_value s0
  have h1 : Ram s s1 := by
    show Ram s (match s0.scn.armed with
      | some d => s0.cancelArmed d
      | none => s0.releaseHeld)
    split
    · exact Ram.keep keep_cancelArmed rfl h0
    · exact Ram.keep keep_releaseHeld rfl h0
  clear_value s1
  have h3 : Ram s s3 := Ram.keep keep_resetRegs rfl (Ram.keep keep_fixCut rfl (Ram.keep keep_setScn rfl h1))
  have h4 : Ram s s4 := fun x => by
    rw [ram_iff]
    intro c
    have e : s4.clusters[c] = { s3.clusters[c] with run := none, loads := [], loops := [], sticky := 0, issued := 0 } := Vector.getElem_map _ _
    rw [e]
    exact ram_iff.1 (h3 x) c
  exact Ram.keep keep_showDirty rfl (Ram.keep keep_showLog rfl (Ram.keep keep_wrAll rfl (Ram.keep keep_wr64 rfl (Ram.keep keep_updCut rfl h4))))

theorem ram_warmStart {s : State} {x0} : Ram s (State.warmStart s x0) := by
  unfold State.warmStart
  refine Ram.ite (Ram.keep keep_coldStart rfl (Ram.step ram_coldReset Ram.refl)) ?_
  have h1 : Ram s (s.sensed x0) := Ram.keep keep_sensed rfl Ram.refl
  split
  · exact Ram.keep keep_recovery rfl h1
  · rename_i h
    exact Ram.keep keep_bootDone rfl (Ram.keep keep_wr64 rfl (Ram.keep keep_resumePlan rfl (Ram.keep keep_showSlot rfl (Ram.keep keep_bootDram rfl
      (Ram.keep keep_wrAll rfl (Ram.keep keep_newNonce rfl (Ram.keep (keep_bootFirmware h) rfl h1)))))))

theorem ram_resetRelease {s : State} {x0 x1} : Ram s (State.resetRelease s x0 x1) := by
  unfold State.resetRelease
  try extract_lets
  repeat' first
    | (with_reducible apply Ram.refl)
    | (show Nat.testBit _ _ = false; rfl)
    | (with_reducible apply Ram.step ram_warmStart)
    | (with_reducible apply Ram.keep keep_coldStart)
    | (with_reducible apply Ram.step ram_coldReset)
    | (with_reducible apply Ram.ite <;> try extract_lets)
    | (with_reducible apply Ram.put_bytes)
    | (with_reducible apply Ram.zero)
    | (dsimp only)
    | (split <;> try extract_lets)
    | (dsimp +zetaDelta only; split <;> try extract_lets)
    | (with_reducible apply Ram.of_mk)

theorem ram_mgmtRestart {s : State} {x0} : Ram s (State.mgmtRestart s x0) := by
  unfold State.mgmtRestart
  extract_lets upd s1 src s2 s3 s4
  have h2 : Ram s s2 := Ram.keep keep_wr rfl (Ram.keep keep_setSec rfl (Ram.keep keep_wr rfl (Ram.keep keep_showLife rfl (Ram.keep keep_newNonce rfl
    (Ram.keep keep_hostReset rfl Ram.refl)))))
  have h3 : Ram s s3 := Ram.keep keep_updCut rfl h2
  have h4 : Ram s s4 := Ram.ite (Ram.keep keep_fixDone rfl (Ram.keep keep_fixCut rfl h3)) h3
  refine Ram.ite h4 (Ram.ite (Ram.step ram_coldReset h4) ?_)
  split
  · rename_i h
    exact Ram.keep (keep_bootFirmware h) rfl h4
  · exact Ram.keep keep_recovery rfl h4

theorem ram_mbReset {s : State} {x0 x1} : Ram s (State.mbReset s x0 x1) := by
  unfold State.mbReset
  try extract_lets
  repeat' first
    | (with_reducible apply Ram.refl)
    | (show Nat.testBit _ _ = false; rfl)
    | (with_reducible apply Ram.step ram_mgmtRestart)
    | (with_reducible apply Ram.step ram_warmReset)
    | (with_reducible apply Ram.step ram_coldReset)
    | (with_reducible apply Ram.ite <;> try extract_lets)
    | (with_reducible apply Ram.put_bytes)
    | (with_reducible apply Ram.zero)
    | (dsimp only)
    | (split <;> try extract_lets)
    | (dsimp +zetaDelta only; split <;> try extract_lets)
    | (with_reducible apply Ram.of_mk)

theorem ram_trialTimeout {s : State} {x0} : Ram s (State.trialTimeout s x0) := by
  unfold State.trialTimeout
  try extract_lets
  repeat' first
    | (with_reducible apply Ram.refl)
    | (show Nat.testBit _ _ = false; rfl)
    | (with_reducible apply Ram.keep keep_coldStart)
    | (with_reducible apply Ram.step ram_coldReset)
    | (with_reducible apply Ram.ite <;> try extract_lets)
    | (with_reducible apply Ram.put_bytes)
    | (with_reducible apply Ram.zero)
    | (dsimp only)
    | (split <;> try extract_lets)
    | (dsimp +zetaDelta only; split <;> try extract_lets)
    | (with_reducible apply Ram.of_mk)

theorem ram_pfailRestart {s : State} {x0} : Ram s (State.pfailRestart s x0) := by
  unfold State.pfailRestart
  try extract_lets
  repeat' first
    | (with_reducible apply Ram.refl)
    | (show Nat.testBit _ _ = false; rfl)
    | (with_reducible apply Ram.keep keep_coldStart)
    | (with_reducible apply Ram.step ram_coldReset)
    | (with_reducible apply Ram.ite <;> try extract_lets)
    | (with_reducible apply Ram.put_bytes)
    | (with_reducible apply Ram.zero)
    | (dsimp only)
    | (split <;> try extract_lets)
    | (dsimp +zetaDelta only; split <;> try extract_lets)
    | (with_reducible apply Ram.of_mk)

theorem ram_restInst {s : State} {x0} : Ram s (State.restInst s x0) := by
  unfold State.restInst
  try extract_lets
  repeat' first
    | (with_reducible apply Ram.refl)
    | (show Nat.testBit _ _ = false; rfl)
    | (with_reducible apply Ram.step ram_kernelRest)
    | (with_reducible apply Ram.keep keep_setInst)
    | (with_reducible apply Ram.ite <;> try extract_lets)
    | (with_reducible apply Ram.put_bytes)
    | (with_reducible apply Ram.zero)
    | (dsimp only)
    | (split <;> try extract_lets)
    | (dsimp +zetaDelta only; split <;> try extract_lets)
    | (with_reducible apply Ram.of_mk)

theorem ram_takeShed {s : State} : Ram s (State.takeShed s) := by
  unfold State.takeShed
  try extract_lets
  repeat' first
    | (with_reducible apply Ram.refl)
    | (show Nat.testBit _ _ = false; rfl)
    | (with_reducible apply Ram.step ram_restInst)
    | (with_reducible apply Ram.keep keep_setEn)
    | (with_reducible apply Ram.ite <;> try extract_lets)
    | (with_reducible apply Ram.put_bytes)
    | (with_reducible apply Ram.zero)
    | (with_reducible apply Ram.each <;> try intro s x <;> try extract_lets)
    | (dsimp only)
    | (split <;> try extract_lets)
    | (dsimp +zetaDelta only; split <;> try extract_lets)
    | (with_reducible apply Ram.of_mk)

theorem ram_reloaded {s : State} {x0 x1} : Ram s (State.reloaded s x0 x1) := by
  unfold State.reloaded
  try extract_lets
  repeat' first
    | (with_reducible apply Ram.refl)
    | (show Nat.testBit _ _ = false; rfl)
    | (with_reducible apply Ram.keep keep_awake)
    | (with_reducible apply Ram.keep keep_open_)
    | (with_reducible apply Ram.keep keep_dramDouble)
    | (with_reducible apply Ram.step ram_restInst)
    | (with_reducible apply Ram.keep keep_pulse)
    | (with_reducible apply Ram.keep keep_wr)
    | (with_reducible apply Ram.ite <;> try extract_lets)
    | (with_reducible apply Ram.put_bytes)
    | (with_reducible apply Ram.zero)
    | (with_reducible apply Ram.each <;> try intro s x <;> try extract_lets)
    | (dsimp only)
    | (split <;> try extract_lets)
    | (dsimp +zetaDelta only; split <;> try extract_lets)
    | (with_reducible apply Ram.of_mk)

theorem ram_blockRest {s : State} {x0} : Ram s (State.blockRest s x0) := by
  unfold State.blockRest
  refine Ram.ite (Ram.zero Ram.refl) (Ram.ite (Ram.keep keep_setTdm rfl Ram.refl) (Ram.ite (Ram.keep keep_setAin rfl Ram.refl)
    (Ram.ite (Ram.keep keep_setRoll rfl (Ram.keep keep_setAout rfl Ram.refl)) (Ram.ite (Ram.keep keep_setMac rfl Ram.refl)
      (Ram.ite (Ram.keep keep_setTd rfl Ram.refl) (Ram.ite (Ram.keep keep_setLane rfl Ram.refl) ?_))))))
  split
  · exact Ram.of_mk Ram.refl
  · exact Ram.keep keep_setEn rfl Ram.refl
  · exact Ram.keep keep_showForce rfl (Ram.keep keep_showEff rfl (Ram.of_mk Ram.refl))
  · exact Ram.keep keep_showDirty rfl (Ram.keep keep_showSlot rfl (Ram.keep keep_setScn rfl Ram.refl))
  · exact Ram.of_mk Ram.refl
  · exact Ram.of_mk Ram.refl
  · exact Ram.of_mk Ram.refl
  · exact Ram.keep keep_setNet rfl Ram.refl
  · exact Ram.keep keep_setNet rfl Ram.refl
  · exact Ram.keep keep_setClk rfl Ram.refl
  · exact Ram.keep keep_showClaim rfl (Ram.keep keep_setPair rfl Ram.refl)
  · exact Ram.of_mk Ram.refl
  · exact Ram.keep keep_showFaults rfl (Ram.keep keep_setFlt rfl Ram.refl)
  · exact Ram.keep keep_showLog rfl Ram.refl
  · exact Ram.keep keep_showLife rfl Ram.refl
  · exact Ram.refl

theorem ram_srst {s : State} {x0} : Ram s (State.srst s x0) := by
  unfold State.srst
  try extract_lets
  repeat' first
    | (with_reducible apply Ram.refl)
    | (show Nat.testBit _ _ = false; rfl)
    | (with_reducible apply Ram.step ram_blockRest)
    | (with_reducible apply Ram.keep keep_setClk)
    | (with_reducible apply Ram.keep keep_bumpBy)
    | (with_reducible apply Ram.keep keep_wr)
    | (with_reducible apply Ram.keep keep_setReg)
    | (with_reducible apply Ram.ite <;> try extract_lets)
    | (with_reducible apply Ram.put_bytes)
    | (with_reducible apply Ram.zero)
    | (with_reducible apply Ram.each <;> try intro s x <;> try extract_lets)
    | (dsimp only)
    | (split <;> try extract_lets)
    | (dsimp +zetaDelta only; split <;> try extract_lets)
    | (with_reducible apply Ram.of_mk)

theorem ram_pageCtrlWrite {s : State} {x0 x1} : Ram s (State.pageCtrlWrite s x0 x1) := by
  unfold State.pageCtrlWrite
  try extract_lets
  repeat' first
    | (with_reducible apply Ram.refl)
    | (show Nat.testBit _ _ = false; rfl)
    | (with_reducible apply Ram.keep keep_freezeWrite)
    | (with_reducible apply Ram.keep keep_enWrite)
    | (with_reducible apply Ram.keep keep_ctrlRefused)
    | (with_reducible apply Ram.step ram_srst)
    | (with_reducible apply Ram.keep keep_wr)
    | (with_reducible apply Ram.ite <;> try extract_lets)
    | (with_reducible apply Ram.put_bytes)
    | (with_reducible apply Ram.zero)
    | (dsimp only)
    | (split <;> try extract_lets)
    | (dsimp +zetaDelta only; split <;> try extract_lets)
    | (with_reducible apply Ram.of_mk)

theorem ram_headerWrite {s : State} {x0 x1 x2} : Ram s (State.headerWrite s x0 x1 x2) := by
  unfold State.headerWrite
  try extract_lets
  repeat' first
    | (with_reducible apply Ram.refl)
    | (show Nat.testBit _ _ = false; rfl)
    | (with_reducible apply Ram.keep keep_classWrite)
    | (with_reducible apply Ram.keep keep_latchWrite)
    | (with_reducible apply Ram.keep keep_maskWrite)
    | (with_reducible apply Ram.step ram_pageCtrlWrite)
    | (with_reducible apply Ram.keep keep_wr)
    | (with_reducible apply Ram.ite <;> try extract_lets)
    | (with_reducible apply Ram.put_bytes)
    | (with_reducible apply Ram.zero)
    | (dsimp only)
    | (split <;> try extract_lets)
    | (dsimp +zetaDelta only; split <;> try extract_lets)
    | (with_reducible apply Ram.of_mk)

theorem ram_takeReg {s : State} {x0 x1} : Ram s (State.takeReg s x0 x1) := by
  unfold State.takeReg
  try extract_lets
  repeat' first
    | (with_reducible apply Ram.refl)
    | (show Nat.testBit _ _ = false; rfl)
    | (with_reducible apply Ram.keep keep_marchWrite)
    | (with_reducible apply Ram.keep keep_scrubWrite)
    | (with_reducible apply Ram.keep keep_refWrite)
    | (with_reducible apply Ram.keep keep_tdWrite)
    | (with_reducible apply Ram.keep keep_laneWrite)
    | (with_reducible apply Ram.keep keep_matchArm)
    | (with_reducible apply Ram.keep keep_hostPageWrite)
    | (with_reducible apply Ram.keep keep_ringWrite)
    | (with_reducible apply Ram.step ram_headerWrite)
    | (with_reducible apply Ram.keep keep_rwsWrite)
    | (with_reducible apply Ram.keep keep_storeBits)
    | (with_reducible apply Ram.keep keep_plainStore)
    | (with_reducible apply Ram.keep keep_capWrite)
    | (with_reducible apply Ram.step ram_mbReset)
    | (with_reducible apply Ram.step ram_inject)
    | (with_reducible apply Ram.keep keep_ack)
    | (with_reducible apply Ram.keep keep_tdcLoad)
    | (with_reducible apply Ram.keep keep_aoutCommit)
    | (with_reducible apply Ram.keep keep_showEff)
    | (with_reducible apply Ram.keep keep_wr)
    | (with_reducible apply Ram.keep keep_setReg)
    | (with_reducible apply Ram.ite <;> try extract_lets)
    | (with_reducible apply Ram.put_bytes)
    | (with_reducible apply Ram.zero)
    | (dsimp only)
    | (split <;> try extract_lets)
    | (dsimp +zetaDelta only; split <;> try extract_lets)
    | (with_reducible apply Ram.of_mk)

theorem ram_hostWrite {s : State} {x0 x1} : Ram s (State.hostWrite s x0 x1) := by
  unfold State.hostWrite
  try extract_lets
  repeat' first
    | (with_reducible apply Ram.refl)
    | (show Nat.testBit _ _ = false; rfl)
    | (with_reducible apply Ram.keep keep_unallocated)
    | (with_reducible apply Ram.step ram_takeReg)
    | (with_reducible apply Ram.keep keep_setClk)
    | (with_reducible apply Ram.keep keep_mirrorWrite)
    | (with_reducible apply Ram.keep keep_pulse)
    | (with_reducible apply Ram.keep keep_wrAll)
    | (with_reducible apply Ram.keep keep_bump)
    | (with_reducible apply Ram.ite <;> try extract_lets)
    | (with_reducible apply Ram.put_bytes)
    | (with_reducible apply Ram.zero)
    | (dsimp only)
    | (split <;> try extract_lets)
    | (dsimp +zetaDelta only; split <;> try extract_lets)
    | (with_reducible apply Ram.of_mk)

theorem ram_writeBy {s : State} {x0 x1 x2} : Ram s (State.writeBy s x0 x1 x2) := by
  unfold State.writeBy
  try extract_lets
  repeat' first
    | (with_reducible apply Ram.refl)
    | (show Nat.testBit _ _ = false; rfl)
    | (with_reducible apply Ram.step ram_hostWrite)
    | (with_reducible apply Ram.ite <;> try extract_lets)
    | (with_reducible apply Ram.put_bytes)
    | (with_reducible apply Ram.zero)
    | (dsimp only)
    | (split <;> try extract_lets)
    | (dsimp +zetaDelta only; split <;> try extract_lets)
    | (with_reducible apply Ram.of_mk)

theorem ram_clockReturn {s : State} {x0} : Ram s (State.clockReturn s x0) := by
  unfold State.clockReturn
  try extract_lets
  repeat' first
    | (with_reducible apply Ram.refl)
    | (show Nat.testBit _ _ = false; rfl)
    | (with_reducible apply Ram.step ram_takeReg)
    | (with_reducible apply Ram.keep keep_setClk)
    | (with_reducible apply Ram.keep keep_source)
    | (with_reducible apply Ram.keep keep_wr)
    | (with_reducible apply Ram.ite <;> try extract_lets)
    | (with_reducible apply Ram.put_bytes)
    | (with_reducible apply Ram.zero)
    | (with_reducible apply Ram.each <;> try intro s x <;> try extract_lets)
    | (dsimp only)
    | (split <;> try extract_lets)
    | (dsimp +zetaDelta only; split <;> try extract_lets)
    | (with_reducible apply Ram.of_mk)

theorem ram_mirrorTake {s : State} {x0} : Ram s (State.mirrorTake s x0) := by
  unfold State.mirrorTake
  try extract_lets
  repeat' first
    | (with_reducible apply Ram.refl)
    | (show Nat.testBit _ _ = false; rfl)
    | (with_reducible apply Ram.keep keep_storeJournal)
    | (with_reducible apply Ram.keep keep_windowStore)
    | (with_reducible apply Ram.step ram_takeReg)
    | (with_reducible apply Ram.keep keep_setAnchor)
    | (with_reducible apply Ram.keep keep_setTd)
    | (with_reducible apply Ram.keep keep_setClk)
    | (with_reducible apply Ram.keep keep_peerRestart)
    | (with_reducible apply Ram.keep keep_peerShape)
    | (with_reducible apply Ram.keep keep_publish)
    | (with_reducible apply Ram.ite <;> try extract_lets)
    | (with_reducible apply Ram.put_bytes)
    | (with_reducible apply Ram.zero)
    | (dsimp only)
    | (split <;> try extract_lets)
    | (dsimp +zetaDelta only; split <;> try extract_lets)
    | (with_reducible apply Ram.of_mk)

theorem ram_paramRx {s : State} {x0 x1} : Ram s (State.paramRx s x0 x1) := by
  unfold State.paramRx
  try extract_lets
  repeat' first
    | (with_reducible apply Ram.refl)
    | (show Nat.testBit _ _ = false; rfl)
    | (with_reducible apply Ram.step ram_mirrorTake)
    | (with_reducible apply Ram.keep keep_ackMsg)
    | (with_reducible apply Ram.ite <;> try extract_lets)
    | (with_reducible apply Ram.put_bytes)
    | (with_reducible apply Ram.zero)
    | (with_reducible apply Ram.each <;> try intro s x <;> try extract_lets)
    | (dsimp only)
    | (split <;> try extract_lets)
    | (dsimp +zetaDelta only; split <;> try extract_lets)
    | (with_reducible apply Ram.of_mk)

theorem ram_bulkTake {s : State} {x0} : Ram s (State.bulkTake s x0) := by
  cases x0 <;> dsimp only [State.bulkTake]
  · exact Ram.keep keep_clearConfig rfl Ram.refl
  · exact Ram.of_mk Ram.refl
  · exact Ram.keep keep_wrAll rfl (Ram.of_mk Ram.refl)
  · exact by
      rename_i a
      have h : Ram s (s.planIn a) := Ram.keep keep_planIn rfl Ram.refl
      exact Ram.step ram_takeOver (Ram.of_mk h)
  · exact Ram.keep keep_wr rfl (Ram.keep keep_setScn rfl Ram.refl)
  · exact Ram.keep keep_setWin rfl Ram.refl
  · exact Ram.ite (Ram.keep keep_setLat rfl (Ram.keep keep_setReg rfl Ram.refl)) (Ram.keep keep_setReg rfl Ram.refl)
  · exact Ram.keep keep_markLine rfl Ram.refl
  · exact Ram.keep keep_markReg rfl Ram.refl
  · exact Ram.keep keep_setScn rfl Ram.refl
  · exact Ram.keep keep_putClip rfl Ram.refl
  · exact Ram.of_mk Ram.refl
  · exact by
      split
      · exact Ram.keep keep_setInst rfl Ram.refl
      · exact Ram.refl
  · exact Ram.of_mk Ram.refl
  · exact Ram.keep keep_showForce rfl (Ram.keep keep_showEff rfl (Ram.of_mk Ram.refl))
  · exact Ram.each Ram.refl fun s x => Ram.keep keep_setTrig rfl Ram.refl
  · exact Ram.put_bytes Ram.refl
  · exact Ram.of_mk Ram.refl
  · exact Ram.of_mk Ram.refl
  · exact Ram.of_mk Ram.refl
  · exact Ram.keep keep_confirmChange rfl (Ram.keep keep_armedChange rfl Ram.refl)
  · exact Ram.keep keep_setAnchor rfl Ram.refl

theorem ram_bulkRx {s : State} {x0 x1} : Ram s (State.bulkRx s x0 x1) := by
  unfold State.bulkRx
  have h : Ram s (s.ackMsg x0) := Ram.keep keep_ackMsg rfl Ram.refl
  exact Ram.ite (Ram.each h fun _ _ => ram_bulkTake) h

theorem ram_fieldWrite {s : State} {x0 x1} : Ram s (State.fieldWrite s x0 x1) := by
  unfold State.fieldWrite
  try extract_lets
  repeat' first
    | (with_reducible apply Ram.refl)
    | (show Nat.testBit _ _ = false; rfl)
    | (with_reducible apply Ram.step ram_hostWrite)
    | (with_reducible apply Ram.ite <;> try extract_lets)
    | (with_reducible apply Ram.put_bytes)
    | (with_reducible apply Ram.zero)
    | (dsimp only)
    | (split <;> try extract_lets)
    | (dsimp +zetaDelta only; split <;> try extract_lets)
    | (with_reducible apply Ram.of_mk)

theorem ram_runCommand {s : State} {x0 x1 x2} : Ram s (State.runCommand s x0 x1 x2) := by
  unfold State.runCommand
  try extract_lets
  repeat' first
    | (with_reducible apply Ram.refl)
    | (show Nat.testBit _ _ = false; rfl)
    | (with_reducible apply Ram.keep keep_perform)
    | (with_reducible apply Ram.keep keep_accept)
    | (with_reducible apply Ram.keep keep_precheck)
    | (with_reducible apply Ram.step ram_coldReset)
    | (with_reducible apply Ram.keep keep_fin)
    | (with_reducible apply Ram.keep keep_respond)
    | (with_reducible apply Ram.ite <;> try extract_lets)
    | (with_reducible apply Ram.put_bytes)
    | (with_reducible apply Ram.zero)
    | (dsimp only)
    | (split <;> try extract_lets)
    | (dsimp +zetaDelta only; split <;> try extract_lets)
    | (with_reducible apply Ram.of_mk)

theorem ram_dispatch {s : State} {x0 x1} : Ram s (State.dispatch s x0 x1) := by
  unfold State.dispatch
  try extract_lets
  repeat' first
    | (with_reducible apply Ram.refl)
    | (show Nat.testBit _ _ = false; rfl)
    | (with_reducible apply Ram.keep keep_tookTurn)
    | (with_reducible apply Ram.step ram_runCommand)
    | (with_reducible apply Ram.keep keep_showBlocked)
    | (with_reducible apply Ram.keep keep_consume)
    | (with_reducible apply Ram.ite <;> try extract_lets)
    | (with_reducible apply Ram.put_bytes)
    | (with_reducible apply Ram.zero)
    | (dsimp only)
    | (split <;> try extract_lets)
    | (dsimp +zetaDelta only; split <;> try extract_lets)
    | (with_reducible apply Ram.of_mk)

theorem ram_dispatchNext {s : State} {x0} : Ram s (State.dispatchNext s x0) := by
  unfold State.dispatchNext
  try extract_lets
  repeat' first
    | (with_reducible apply Ram.refl)
    | (show Nat.testBit _ _ = false; rfl)
    | (with_reducible apply Ram.step ram_dispatch)
    | (with_reducible apply Ram.ite <;> try extract_lets)
    | (with_reducible apply Ram.put_bytes)
    | (with_reducible apply Ram.zero)
    | (dsimp only)
    | (split <;> try extract_lets)
    | (dsimp +zetaDelta only; split <;> try extract_lets)
    | (with_reducible apply Ram.of_mk)

theorem ram_command {s : State} {x0 x1 x2} : Ram s (State.command s x0 x1 x2) := by
  unfold State.command
  try extract_lets
  repeat' first
    | (with_reducible apply Ram.refl)
    | (show Nat.testBit _ _ = false; rfl)
    | (with_reducible apply Ram.step ram_dispatchNext)
    | (with_reducible apply Ram.keep keep_doorbell)
    | (with_reducible apply Ram.ite <;> try extract_lets)
    | (with_reducible apply Ram.put_bytes)
    | (with_reducible apply Ram.zero)
    | (dsimp only)
    | (split <;> try extract_lets)
    | (dsimp +zetaDelta only; split <;> try extract_lets)
    | (with_reducible apply Ram.of_mk)

theorem ram_spiWrite {s : State} {x0 x1 x2} : Ram s (State.spiWrite s x0 x1 x2) := by
  unfold State.spiWrite
  try extract_lets
  repeat' first
    | (with_reducible apply Ram.refl)
    | (show Nat.testBit _ _ = false; rfl)
    | (with_reducible apply Ram.keep keep_windowWrite)
    | (with_reducible apply Ram.step ram_writeBy)
    | (with_reducible apply Ram.keep keep_spiPut)
    | (with_reducible apply Ram.ite <;> try extract_lets)
    | (with_reducible apply Ram.put_bytes)
    | (with_reducible apply Ram.zero)
    | (dsimp only)
    | (split <;> try extract_lets)
    | (dsimp +zetaDelta only; split <;> try extract_lets)
    | (with_reducible apply Ram.of_mk)

theorem ram_spiWrites {s : State} {x0 x1 x2} : Ram s (State.spiWrites s x0 x1 x2) := by
  induction x2 generalizing s x1 with
  | nil =>
    unfold State.spiWrites
    try extract_lets
    repeat' first
      | (with_reducible apply Ram.refl)
      | (show Nat.testBit _ _ = false; rfl)
      | (with_reducible apply Ram.step ih)
      | (with_reducible apply Ram.step ram_spiWrite)
      | (dsimp only)
      | (split <;> try extract_lets)
      | (dsimp +zetaDelta only; split <;> try extract_lets)
      | (with_reducible apply Ram.of_mk)
  | cons w t ih =>
    unfold State.spiWrites
    try extract_lets
    repeat' first
      | (with_reducible apply Ram.refl)
      | (show Nat.testBit _ _ = false; rfl)
      | (with_reducible apply Ram.step ih)
      | (with_reducible apply Ram.step ram_spiWrite)
      | (dsimp only)
      | (split <;> try extract_lets)
      | (dsimp +zetaDelta only; split <;> try extract_lets)
      | (with_reducible apply Ram.of_mk)

theorem ram_spiTransaction {s : State} {x0 x1 x2 x3} : Ram s (State.spiTransaction s x0 x1 x2 x3) := by
  unfold State.spiTransaction
  try extract_lets
  repeat' first
    | (with_reducible apply Ram.refl)
    | (show Nat.testBit _ _ = false; rfl)
    | (with_reducible apply Ram.keep keep_spiReads)
    | (with_reducible apply Ram.step ram_spiWrites)
    | (with_reducible apply Ram.keep keep_put)
    | (with_reducible apply Ram.keep keep_wr)
    | (with_reducible apply Ram.ite <;> try extract_lets)
    | (with_reducible apply Ram.put_bytes)
    | (with_reducible apply Ram.zero)
    | (dsimp only)
    | (split <;> try extract_lets)
    | (dsimp +zetaDelta only; split <;> try extract_lets)
    | (with_reducible apply Ram.of_mk)

theorem ram_issueBundle {s : State} {x0 x1} : Ram s (State.issueBundle s x0 x1) := by
  unfold State.issueBundle
  extract_lets k r t
  have h1 : Ram s t := ram_afterIssue fun x => canonical_exec (ram_iff.1 x x0)
  split
  · exact Ram.ite h1 (Ram.step ram_kernelStop h1)
  · exact h1

theorem ram_mOp {s : State} {x0 x1 x2 x3 x4 x5 x6} : Ram s (State.mOp s x0 x1 x2 x3 x4 x5 x6) := by
  unfold State.mOp
  try extract_lets
  repeat' first
    | (with_reducible apply Ram.refl)
    | (show Nat.testBit _ _ = false; rfl)
    | (with_reducible apply Ram.step ram_issueBundle)
    | (with_reducible apply Ram.ite <;> try extract_lets)
    | (with_reducible apply Ram.put_bytes)
    | (with_reducible apply Ram.zero)
    | (dsimp only)
    | (split <;> try extract_lets)
    | (dsimp +zetaDelta only; split <;> try extract_lets)
    | (with_reducible apply Ram.of_mk)

theorem ram_aOp {s : State} {x0 x1 x2 x3 x4 x5} : Ram s (State.aOp s x0 x1 x2 x3 x4 x5) := by
  unfold State.aOp
  try extract_lets
  repeat' first
    | (with_reducible apply Ram.refl)
    | (show Nat.testBit _ _ = false; rfl)
    | (with_reducible apply Ram.step ram_issueBundle)
    | (with_reducible apply Ram.ite <;> try extract_lets)
    | (with_reducible apply Ram.put_bytes)
    | (with_reducible apply Ram.zero)
    | (dsimp only)
    | (split <;> try extract_lets)
    | (dsimp +zetaDelta only; split <;> try extract_lets)
    | (with_reducible apply Ram.of_mk)

theorem ram_aDual {s : State} {x0 x1 x2 x3 x4 x5 x6 x7} : Ram s (State.aDual s x0 x1 x2 x3 x4 x5 x6 x7) := by
  unfold State.aDual
  try extract_lets
  repeat' first
    | (with_reducible apply Ram.refl)
    | (show Nat.testBit _ _ = false; rfl)
    | (with_reducible apply Ram.step ram_aOp)
    | (with_reducible apply Ram.ite <;> try extract_lets)
    | (with_reducible apply Ram.put_bytes)
    | (with_reducible apply Ram.zero)
    | (dsimp only)
    | (split <;> try extract_lets)
    | (dsimp +zetaDelta only; split <;> try extract_lets)
    | (with_reducible apply Ram.of_mk)

theorem ram_cOp {s : State} {x0 x1 x2} : Ram s (State.cOp s x0 x1 x2) := by
  unfold State.cOp
  try extract_lets
  repeat' first
    | (with_reducible apply Ram.refl)
    | (show Nat.testBit _ _ = false; rfl)
    | (with_reducible apply Ram.step ram_issueBundle)
    | (with_reducible apply Ram.ite <;> try extract_lets)
    | (with_reducible apply Ram.put_bytes)
    | (with_reducible apply Ram.zero)
    | (dsimp only)
    | (split <;> try extract_lets)
    | (dsimp +zetaDelta only; split <;> try extract_lets)
    | (with_reducible apply Ram.of_mk)

theorem ram_loadReturn {s : State} {x0} : Ram s (State.loadReturn s x0) := by
  unfold State.loadReturn
  exact Ram.set Ram.refl fun x => canonical_putAll (k := s.clusters[x0]) (ram_iff.1 x _)

theorem ram_strip {s : State} {x0 x1 x2 x3 x4} : Ram s (State.strip s x0 x1 x2 x3 x4).2 := by
  unfold State.strip
  try extract_lets
  repeat' first
    | (with_reducible apply Ram.refl)
    | (show Nat.testBit _ _ = false; rfl)
    | (with_reducible apply Ram.keep keep_stripLevel)
    | (with_reducible apply Ram.step ram_runStrip)
    | (with_reducible apply Ram.keep keep_tapeZeros)
    | (with_reducible apply Ram.ite <;> try extract_lets)
    | (with_reducible apply Ram.ite_snd <;> try extract_lets)
    | (with_reducible apply Ram.put_bytes)
    | (with_reducible apply Ram.zero)
    | (dsimp only)
    | (split <;> try extract_lets)
    | (dsimp +zetaDelta only; split <;> try extract_lets)
    | (with_reducible apply Ram.of_mk)

theorem ram_phaseA {s : State} {x0 x1 x2} : Ram s (State.phaseA s x0 x1 x2) := by
  unfold State.phaseA
  try extract_lets
  repeat' first
    | (with_reducible apply Ram.refl)
    | (show Nat.testBit _ _ = false; rfl)
    | (with_reducible apply Ram.step ram_strip)
    | (with_reducible apply Ram.ite <;> try extract_lets)
    | (with_reducible apply Ram.put_bytes)
    | (with_reducible apply Ram.zero)
    | (dsimp only)
    | (split <;> try extract_lets)
    | (dsimp +zetaDelta only; split <;> try extract_lets)
    | (with_reducible apply Ram.of_mk)

theorem ram_runC {s : State} {x0 x1 x2 x3} : Ram s (State.runC s x0 x1 x2 x3) := by
  unfold State.runC
  try extract_lets
  repeat' first
    | (with_reducible apply Ram.refl)
    | (show Nat.testBit _ _ = false; rfl)
    | (with_reducible apply Ram.step ram_strip)
    | (with_reducible apply Ram.keep keep_eccErrors)
    | (with_reducible apply Ram.ite <;> try extract_lets)
    | (with_reducible apply Ram.put_bytes)
    | (with_reducible apply Ram.zero)
    | (dsimp only)
    | (split <;> try extract_lets)
    | (dsimp +zetaDelta only; split <;> try extract_lets)
    | (with_reducible apply Ram.of_mk)

theorem ram_runE {s : State} {x0 x1 x2 x3} : Ram s (State.runE s x0 x1 x2 x3) := by
  unfold State.runE
  try extract_lets
  repeat' first
    | (with_reducible apply Ram.refl)
    | (show Nat.testBit _ _ = false; rfl)
    | (with_reducible apply Ram.keep keep_sendRecords)
    | (with_reducible apply Ram.keep keep_clustersAt)
    | (with_reducible apply Ram.step ram_strip)
    | (with_reducible apply Ram.keep keep_eccErrors)
    | (with_reducible apply Ram.keep keep_silence)
    | (with_reducible apply Ram.keep keep_shareTick)
    | (with_reducible apply Ram.keep keep_setEng)
    | (with_reducible apply Ram.ite <;> try extract_lets)
    | (with_reducible apply Ram.put_bytes)
    | (with_reducible apply Ram.zero)
    | (dsimp only)
    | (split <;> try extract_lets)
    | (dsimp +zetaDelta only; split <;> try extract_lets)
    | (with_reducible apply Ram.of_mk)

theorem ram_budgetOut {s : State} {x0} : Ram s (State.budgetOut s x0) := by
  unfold State.budgetOut
  extract_lets k
  split
  · exact Ram.refl
  · exact Ram.ite Ram.refl (Ram.step ram_kernelStop (ram_afterIssue fun x => canonical_stop (ram_iff.1 x _)))

theorem ram_resetStopped {s : State} : Ram s (State.resetStopped s) := by
  unfold State.resetStopped
  try extract_lets
  repeat' first
    | (with_reducible apply Ram.refl)
    | (show Nat.testBit _ _ = false; rfl)
    | (with_reducible apply Ram.step ram_kernelRest)
    | (with_reducible apply Ram.keep keep_setInst)
    | (with_reducible apply Ram.ite <;> try extract_lets)
    | (with_reducible apply Ram.put_bytes)
    | (with_reducible apply Ram.zero)
    | (with_reducible apply Ram.each <;> try intro s x <;> try extract_lets)
    | (dsimp only)
    | (split <;> try extract_lets)
    | (dsimp +zetaDelta only; split <;> try extract_lets)
    | (with_reducible apply Ram.of_mk)

theorem ram_tickEntry {s : State} {x0 x1 x2} : Ram s (State.tickEntry s x0 x1 x2) := by
  unfold State.tickEntry
  refine Ram.ite Ram.refl ?_
  extract_lets s1 s2 s3 src s4 s5 s6 s7 src1
  have h1 : Ram s s1 := Ram.keep keep_streamsOut rfl (Ram.keep keep_put rfl Ram.refl)
  have h2 : Ram s s2 := Ram.each (Ram.step ram_resetStopped h1) fun t c => Ram.set Ram.refl fun x => canonical_of_mems (ram_iff.1 x c) rfl rfl rfl rfl rfl
  have h3 : Ram s s3 := Ram.keep keep_eccErrors rfl (Ram.keep keep_streamsIn rfl h2)
  have h4 : Ram s s4 := Ram.of_clusters (t := s3) rfl h3
  have h5 : Ram s s5 := Ram.each (Ram.keep keep_takeStarts rfl (Ram.keep keep_startInsts rfl (Ram.keep keep_hearMics rfl (Ram.keep keep_concealInputs rfl h4))))
    fun t n => Ram.step ram_putCopies Ram.refl
  have h6 : Ram s s6 := Ram.each h5 fun t n => Ram.keep keep_gate rfl Ram.refl
  have h7 : Ram s s7 := Ram.each h6 fun t g => Ram.step ram_phaseA Ram.refl
  exact Ram.keep keep_clustersAt rfl (Ram.of_clusters (t := s7) rfl h7)

theorem ram_clusterTick {s : State} {x0 x1} : Ram s (State.clusterTick s x0 x1) := by
  unfold State.clusterTick
  exact Ram.set_of keep_wrAll.clusters fun x => canonical_of_mems (ram_iff.1 x x0) rfl rfl rfl rfl rfl

theorem ram_tickEnd {s : State} {x0 x1} : Ram s (State.tickEnd s x0 x1) := by
  unfold State.tickEnd
  try extract_lets
  repeat' first
    | (with_reducible apply Ram.refl)
    | (show Nat.testBit _ _ = false; rfl)
    | (with_reducible apply Ram.step ram_clusterTick)
    | (with_reducible apply Ram.keep keep_keepSigs)
    | (with_reducible apply Ram.keep keep_tickOvr)
    | (with_reducible apply Ram.keep keep_sendRecords)
    | (with_reducible apply Ram.keep keep_clustersAt)
    | (with_reducible apply Ram.keep keep_gatherSheets)
    | (with_reducible apply Ram.keep keep_energyTick)
    | (with_reducible apply Ram.keep keep_recorderTick)
    | (with_reducible apply Ram.keep keep_hearOutputs)
    | (with_reducible apply Ram.keep keep_portsTick)
    | (with_reducible apply Ram.keep keep_pdmIn)
    | (with_reducible apply Ram.keep keep_setPair)
    | (with_reducible apply Ram.keep keep_wr64)
    | (with_reducible apply Ram.ite <;> try extract_lets)
    | (with_reducible apply Ram.put_bytes)
    | (with_reducible apply Ram.zero)
    | (with_reducible apply Ram.each <;> try intro s x <;> try extract_lets)
    | (dsimp only)
    | (split <;> try extract_lets)
    | (dsimp +zetaDelta only; split <;> try extract_lets)
    | (with_reducible apply Ram.of_mk)

theorem ram_loadRecord {s : State} {x0} : Ram s (State.loadRecord s x0) := by
  unfold State.loadRecord
  split
  · exact Ram.refl
  · exact Ram.keep keep_setInst rfl Ram.refl
  · exact Ram.keep keep_setInst rfl Ram.refl
  · exact Ram.of_mk Ram.refl
  · split
    · exact Ram.put_bytes Ram.refl
    · exact Ram.refl

theorem ram_loadRecords {s : State} : Ram s (State.loadRecords s) := by
  unfold State.loadRecords
  try extract_lets
  repeat' first
    | (with_reducible apply Ram.refl)
    | (show Nat.testBit _ _ = false; rfl)
    | (with_reducible apply Ram.step ram_loadRecord)
    | (with_reducible apply Ram.keep keep_setPair)
    | (with_reducible apply Ram.ite <;> try extract_lets)
    | (with_reducible apply Ram.put_bytes)
    | (with_reducible apply Ram.zero)
    | (with_reducible apply Ram.each <;> try intro s x <;> try extract_lets)
    | (dsimp only)
    | (split <;> try extract_lets)
    | (dsimp +zetaDelta only; split <;> try extract_lets)
    | (with_reducible apply Ram.of_mk)

theorem ram_tickStart {s : State} {x0 x1 x2 x3 x4 x5} : Ram s (State.tickStart s x0 x1 x2 x3 x4 x5) := by
  unfold State.tickStart
  try extract_lets
  repeat' first
    | (with_reducible apply Ram.refl)
    | (show Nat.testBit _ _ = false; rfl)
    | (with_reducible apply Ram.keep keep_clockTick)
    | (with_reducible apply Ram.keep keep_matchTick)
    | (with_reducible apply Ram.keep keep_sendTick)
    | (with_reducible apply Ram.keep keep_claimTick)
    | (with_reducible apply Ram.keep keep_peerTick)
    | (with_reducible apply Ram.keep keep_rotate)
    | (with_reducible apply Ram.keep keep_levelTick)
    | (with_reducible apply Ram.step ram_loadRecords)
    | (with_reducible apply Ram.keep keep_tickNumber)
    | (with_reducible apply Ram.step ram_tickEnd)
    | (with_reducible apply Ram.keep keep_clustersAt)
    | (with_reducible apply Ram.step ram_takeShed)
    | (with_reducible apply Ram.keep keep_lanesTick)
    | (with_reducible apply Ram.keep keep_sampleTriggers)
    | (with_reducible apply Ram.step ram_takeOver)
    | (with_reducible apply Ram.keep keep_streamsTick)
    | (with_reducible apply Ram.keep keep_anchorTick)
    | (with_reducible apply Ram.keep keep_refPeriods)
    | (with_reducible apply Ram.keep keep_startLearn)
    | (with_reducible apply Ram.ite <;> try extract_lets)
    | (with_reducible apply Ram.put_bytes)
    | (with_reducible apply Ram.zero)
    | (dsimp only)
    | (split <;> try extract_lets)
    | (dsimp +zetaDelta only; split <;> try extract_lets)
    | (with_reducible apply Ram.of_mk)


end Sys2Proof.Machine
end

