-- ==== Sys2Proof/Laws/RegWrites.lean ====
section
/-!
SUPPORT. A host write that reaches its block: what it leaves is what the block does with it, and in a pair a message to the partner (R290).
-/
set_option Elab.async false
set_option linter.all false
namespace Sys2Proof.Machine

/-- A host write is the block's own work, but for the pair's message. -/
theorem hostWrite_takes {s : State} {a : Nat} {w : Word} (h : s.takes a = true) : Keep 0x100080 (s.takeReg a w) (s.hostWrite a w) := by
  unfold State.takes at h
  simp only [Bool.and_eq_true] at h
  obtain ⟨⟨⟨⟨h1, h2⟩, ha⟩, h3⟩, h4⟩ := h
  have ha := of_decide_eq_true ha
  unfold State.hostWrite
  dsimp only
  rw [if_neg (by rw [Option.isNone_iff_eq_none]; exact Option.isSome_iff_ne_none.1 h1), if_neg (by rw [h2]; decide), if_neg (fun z => z ha), if_neg (by
    rintro ⟨x, y, z⟩
    rw [x, y] at h3
    cases hu : unitOwned a with
    | true => exact z hu
    | false => rw [hu] at h3; simp at h3)]
  rw [Bool.not_eq_true'] at h4
  simp only [h4, Bool.false_eq_true, ↓reduceIte]
  split
  · exact keep_mirrorWrite
  · exact Keep.refl

/-- A register after a host write that reaches its block. -/
theorem reg_takes {s : State} {a b : Nat} {w : Word} (h : s.takes a = true) : (s.hostWrite a w).reg b = (s.takeReg a w).reg b :=
  reg_congr (hostWrite_takes h).regs b

theorem rd_takes {s : State} {a : Nat} {f : Fld} {w : Word} (h : s.takes a = true) : (s.hostWrite a w).rd f = (s.takeReg a w).rd f :=
  rd_congr (hostWrite_takes h).regs f

/-- The bits of a field, put into the register's word and read back. -/
theorem bits_put_at {s : State} {f : Fld} {v : Nat} (hf : f.ok = true) : bitsOf (f.put (s.reg f.addr) v).toNat f.hi f.lo = v % 2 ^ f.width :=
  bits_put_same hf _ _

end Sys2Proof.Machine
end

