-- ==== Sys2Proof/Laws/Slots.lean ====
section
/-!
SUPPORT. What issuing one slot's operation on a cluster does (R217 to R225), said once: the registers it leaves, CSTAT's bits, and where control
goes.
-/
set_option Elab.async false
set_option linter.all false
namespace Sys2Proof.Machine

theorem foldl_append_put (c : Cluster) (l : List RegWrite) (w : RegWrite) : (l ++ [w]).foldl Cluster.put c = (l.foldl Cluster.put c).put w := by
  simp

theorem standing_mem : ∀ {seen l : List RegWrite} {x}, x ∈ standing seen l → x ∈ l
  | _, [], _, h => h
  | seen, w :: t, x, h => by
    unfold standing at h
    split at h
    · exact List.mem_cons_of_mem _ (standing_mem h)
    · rcases List.mem_cons.1 h with h | h
      · exact h ▸ List.mem_cons_self
      · exact List.mem_cons_of_mem _ (standing_mem h)

theorem standing_last : ∀ {seen l : List RegWrite} {w}, (∀ x ∈ seen, w.same x = false) → (∀ x ∈ l, w.same x = false) →
    standing seen (l ++ [w]) = standing seen l ++ [w]
  | seen, [], w, h, _ => by
    have : seen.any (RegWrite.same w) = false := by
      rw [List.any_eq_false]; intro x hx; rw [h x hx]; exact Bool.false_ne_true
    simp [standing, this]
  | seen, y :: t, w, h, h' => by
    rw [List.cons_append, standing, standing]
    split
    · exact standing_last h fun x hx => h' x (List.mem_cons_of_mem _ hx)
    · rw [List.cons_append, standing_last _ fun x hx => h' x (List.mem_cons_of_mem _ hx)]
      intro x hx
      rcases List.mem_cons.1 hx with e | e
      · rw [e]; exact h' y List.mem_cons_self
      · exact h x e

theorem putAll_last {c : Cluster} {l : List RegWrite} {w : RegWrite} (h : ∀ x ∈ l, w.same x = false) :
    c.putAll (l ++ [w]) = (c.putAll l).put w := by
  rw [Cluster.putAll, standing_last (fun _ h => absurd h List.not_mem_nil) h, foldl_append_put]; rfl


/-! What a write leaves in the registers it does not name. -/

theorem putAll_induct {P : Cluster → Prop} {l : List RegWrite} (hp : ∀ c x, x ∈ l → P c → P (c.put x)) {c : Cluster} (h : P c) : P (c.putAll l) := by
  unfold Cluster.putAll
  have g : ∀ x ∈ standing [] l, x ∈ l := fun x => standing_mem
  generalize standing [] l = m at g
  induction m generalizing c with
  | nil => exact h
  | cons y m ih => exact ih (hp c y (g y List.mem_cons_self) h) fun x hx => g x (List.mem_cons_of_mem _ hx)

theorem put_v_same {c : Cluster} {d : Fin 16} {q : Quad} : (c.put (.v d q)).fg.v[d] = q := by
  simp [Cluster.put]

theorem put_v_ne {c : Cluster} {d : Fin 16} {q : Quad} {x : RegWrite} (h : (RegWrite.v d q).same x = false) : (c.put x).fg.v[d] = c.fg.v[d] := by
  cases x <;> simp [RegWrite.same] at h <;> simp only [Cluster.put] <;>
    (try exact Vector.getElem_set_ne (by omega) (by omega) (fun e => h (Fin.ext e.symm)))

theorem putAll_v_ne {c : Cluster} {d : Fin 16} {q : Quad} {l : List RegWrite} (h : ∀ x ∈ l, (RegWrite.v d q).same x = false) :
    (c.putAll l).fg.v[d] = c.fg.v[d] :=
  putAll_induct (P := fun e => e.fg.v[d] = c.fg.v[d]) (fun _ x hx e => (put_v_ne (h x hx)).trans e) rfl

theorem put_acc_same {c : Cluster} {d : Fin 8} {q : AccQuad} : (c.put (.acc d q)).fg.acc[d] = q := by
  simp [Cluster.put]

theorem put_acc_ne {c : Cluster} {d : Fin 8} {q : AccQuad} {x : RegWrite} (h : (RegWrite.acc d q).same x = false) : (c.put x).fg.acc[d] = c.fg.acc[d] := by
  cases x <;> simp [RegWrite.same] at h <;> simp only [Cluster.put] <;>
    (try exact Vector.getElem_set_ne (by omega) (by omega) (fun e => h (Fin.ext e.symm)))

theorem putAll_acc_ne {c : Cluster} {d : Fin 8} {q : AccQuad} {l : List RegWrite} (h : ∀ x ∈ l, (RegWrite.acc d q).same x = false) :
    (c.putAll l).fg.acc[d] = c.fg.acc[d] :=
  putAll_induct (P := fun e => e.fg.acc[d] = c.fg.acc[d]) (fun _ x hx e => (put_acc_ne (h x hx)).trans e) rfl

theorem put_p_same {c : Cluster} {d : Fin 8} {q : BitVec 19} : (c.put (.p d q)).fg.p[d] = q := by
  simp [Cluster.put]

theorem put_p_ne {c : Cluster} {d : Fin 8} {q : BitVec 19} {x : RegWrite} (h : (RegWrite.p d q).same x = false) : (c.put x).fg.p[d] = c.fg.p[d] := by
  cases x <;> simp [RegWrite.same] at h <;> simp only [Cluster.put] <;>
    (try exact Vector.getElem_set_ne (by omega) (by omega) (fun e => h (Fin.ext e.symm)))

theorem putAll_p_ne {c : Cluster} {d : Fin 8} {q : BitVec 19} {l : List RegWrite} (h : ∀ x ∈ l, (RegWrite.p d q).same x = false) :
    (c.putAll l).fg.p[d] = c.fg.p[d] :=
  putAll_induct (P := fun e => e.fg.p[d] = c.fg.p[d]) (fun _ x hx e => (put_p_ne (h x hx)).trans e) rfl

theorem put_m_same {c : Cluster} {d : Fin 8} {q : BitVec 20} : (c.put (.m d q)).fg.m[d] = q := by
  simp [Cluster.put]

theorem put_m_ne {c : Cluster} {d : Fin 8} {q : BitVec 20} {x : RegWrite} (h : (RegWrite.m d q).same x = false) : (c.put x).fg.m[d] = c.fg.m[d] := by
  cases x <;> simp [RegWrite.same] at h <;> simp only [Cluster.put] <;>
    (try exact Vector.getElem_set_ne (by omega) (by omega) (fun e => h (Fin.ext e.symm)))

theorem putAll_m_ne {c : Cluster} {d : Fin 8} {q : BitVec 20} {l : List RegWrite} (h : ∀ x ∈ l, (RegWrite.m d q).same x = false) :
    (c.putAll l).fg.m[d] = c.fg.m[d] :=
  putAll_induct (P := fun e => e.fg.m[d] = c.fg.m[d]) (fun _ x hx e => (put_m_ne (h x hx)).trans e) rfl

theorem put_l_same {c : Cluster} {d : Fin 8} {q : BitVec 19} : (c.put (.l d q)).l[d] = q := by
  simp [Cluster.put]

theorem put_l_ne {c : Cluster} {d : Fin 8} {q : BitVec 19} {x : RegWrite} (h : (RegWrite.l d q).same x = false) : (c.put x).l[d] = c.l[d] := by
  cases x <;> simp [RegWrite.same] at h <;> simp only [Cluster.put] <;>
    (try exact Vector.getElem_set_ne (by omega) (by omega) (fun e => h (Fin.ext e.symm)))

theorem putAll_l_ne {c : Cluster} {d : Fin 8} {q : BitVec 19} {l : List RegWrite} (h : ∀ x ∈ l, (RegWrite.l d q).same x = false) :
    (c.putAll l).l[d] = c.l[d] :=
  putAll_induct (P := fun e => e.l[d] = c.l[d]) (fun _ x hx e => (put_l_ne (h x hx)).trans e) rfl

theorem put_b_same {c : Cluster} {d : Fin 8} {q : BitVec 19} : (c.put (.b d q)).b[d] = q := by
  simp [Cluster.put]

theorem put_b_ne {c : Cluster} {d : Fin 8} {q : BitVec 19} {x : RegWrite} (h : (RegWrite.b d q).same x = false) : (c.put x).b[d] = c.b[d] := by
  cases x <;> simp [RegWrite.same] at h <;> simp only [Cluster.put] <;>
    (try exact Vector.getElem_set_ne (by omega) (by omega) (fun e => h (Fin.ext e.symm)))

theorem putAll_b_ne {c : Cluster} {d : Fin 8} {q : BitVec 19} {l : List RegWrite} (h : ∀ x ∈ l, (RegWrite.b d q).same x = false) :
    (c.putAll l).b[d] = c.b[d] :=
  putAll_induct (P := fun e => e.b[d] = c.b[d]) (fun _ x hx e => (put_b_ne (h x hx)).trans e) rfl

theorem put_s_same {c : Cluster} {d : Fin 8} {q : Word} : (c.put (.s d q)).fg.s[d] = q := by
  simp [Cluster.put]

theorem put_s_ne {c : Cluster} {d : Fin 8} {q : Word} {x : RegWrite} (h : (RegWrite.s d q).same x = false) : (c.put x).fg.s[d] = c.fg.s[d] := by
  cases x <;> simp [RegWrite.same] at h <;> simp only [Cluster.put] <;>
    (try exact Vector.getElem_set_ne (by omega) (by omega) (fun e => h (Fin.ext e.symm)))

theorem putAll_s_ne {c : Cluster} {d : Fin 8} {q : Word} {l : List RegWrite} (h : ∀ x ∈ l, (RegWrite.s d q).same x = false) :
    (c.putAll l).fg.s[d] = c.fg.s[d] :=
  putAll_induct (P := fun e => e.fg.s[d] = c.fg.s[d]) (fun _ x hx e => (put_s_ne (h x hx)).trans e) rfl

/-! What issuing a bundle does (R218, R224, R225): a bundle that is not the ending one, neither illegal nor outside the windows, whose branch, if it
holds one, is not taken. -/

/-- CSTAT as such a bundle leaves it, before DEPTH. -/
def statAfter (c : Cluster) (m : SlotRes) (a : ARes) : Word :=
  orCstat (match m.cmp with
    | some x => cmpCstat c.cstat x
    | none => c.cstat)
  (Nat.lor (m.sat + 16 * m.aovf) (Nat.lor a.sat ((if a.mis then 0x800 else 0) + (if a.events.contains .circ then 0x400 else 0))))

theorem exec_bundle {c : Cluster} {b : Bundle} (h1 : c.spent = false) (h2 : b.isEnd = false) (hm : (mSlot c.fg c.cstat b.m).illegal = false)
    (ha : (aSlot c true b.a).illegal = false) (hw : (aSlot c true b.a).win = none) (hc : (cSlot c b.c).illegal = false)
    (ht : (cSlot c b.c).ctl.taken = false) :
    c.exec b = ⟨{ (((({ c with cstat := statAfter c (mSlot c.fg c.cstat b.m) (aSlot c true b.a) }.storeAll (aSlot c true b.a).stores).count.putAll
      (c.loads ++ (mSlot c.fg c.cstat b.m).writes ++ (aSlot c true b.a).writes ++ (cSlot c b.c).writes)).advance (cSlot c b.c).ctl (cSlot c b.c).lc).scrubbed (aSlot c true b.a).events)
      with loads := (aSlot c true b.a).loads }, (aSlot c true b.a).events, .running⟩ := by
  unfold Cluster.exec Cluster.issue
  simp only [h1, h2, hm, ha, hw, hc, ht, Bool.not_false, Bool.false_and, Bool.false_or, Bool.or_false, Bool.false_eq_true, if_false, and_false]
  rfl

theorem afterIssue_running {s : State} {c : Fin 16} {old : Cluster} {r : Issued} {own : Nat} (h : r.fate = .running) :
    s.afterIssue c old r own = (s.setCluster c r.c).each r.events fun s e => s.clEvent c.val old.handle e := by
  unfold State.afterIssue
  simp only [h, true_or, if_true]

theorem clusters_afterIssue {s : State} {c : Fin 16} {old : Cluster} {r : Issued} {own : Nat} (h : r.fate = .running) :
    (s.afterIssue c old r own).clusters[c] = r.c := by
  have e : Keep 0x1002 (s.setCluster c r.c) ((s.setCluster c r.c).each r.events fun s e => s.clEvent c.val old.handle e) :=
    Keep.each Keep.refl fun s x => keep_clEvent
  rw [← afterIssue_running h] at e
  have g : (s.afterIssue c old r own).clusters = (s.setCluster c r.c).clusters := e.part 17 rfl
  exact (congrArg (fun x : Vector Cluster 16 => x[c]) g).trans (Vector.getElem_set_self _)

/-- A bundle with no access leaves the rest of the device alone. -/
theorem afterIssue_quiet {s : State} {c : Fin 16} {old : Cluster} {r : Issued} {own : Nat} (h : r.fate = .running) (he : r.events = []) :
    s.afterIssue c old r own = s.setCluster c r.c := by
  rw [afterIssue_running h, he]; rfl

/-- A bundle after which the cluster runs on. -/
theorem issueBundle_running {s : State} {c : Fin 16} {b : Bundle} (h : (s.clusters[c].exec b).fate = .running) :
    s.issueBundle c b = s.afterIssue c s.clusters[c] (s.clusters[c].exec b) (ownSticky s.clusters[c] b .running) := by
  unfold State.issueBundle
  dsimp only
  rw [h]
  split
  · exact if_pos (.inl rfl)
  · rfl

@[simp] theorem aSlot_nop {c : Cluster} {p : Bool} : aSlot c p .nop = .none := rfl
@[simp] theorem cSlot_nop {c : Cluster} : cSlot c .nop = .none := rfl
@[simp] theorem mSlot_nop {k : RegSet} {w : Word} : mSlot k w .nop = .none := rfl

@[simp] theorem advance_fg {c : Cluster} {x : Control} {lc : Option (Fin 2 × BitVec 16)} : (c.advance x lc).fg = c.fg := by
  unfold Cluster.advance; extract_lets l; clear_value l; cases x <;> first | rfl | (dsimp only; split <;> rfl)
@[simp] theorem advance_l {c : Cluster} {x : Control} {lc : Option (Fin 2 × BitVec 16)} : (c.advance x lc).l = c.l := by
  unfold Cluster.advance; extract_lets l; clear_value l; cases x <;> first | rfl | (dsimp only; split <;> rfl)
@[simp] theorem advance_b {c : Cluster} {x : Control} {lc : Option (Fin 2 × BitVec 16)} : (c.advance x lc).b = c.b := by
  unfold Cluster.advance; extract_lets l; clear_value l; cases x <;> first | rfl | (dsimp only; split <;> rfl)
@[simp] theorem advance_mem {c : Cluster} {x : Control} {lc : Option (Fin 2 × BitVec 16)} : (c.advance x lc).mem = c.mem := by
  unfold Cluster.advance; extract_lets l; clear_value l; cases x <;> first | rfl | (dsimp only; split <;> rfl)

/-- The bits of CSTAT other than DEPTH stay as the slots left them. -/
theorem advance_cstat {c : Cluster} {x : Control} {lc : Option (Fin 2 × BitVec 16)} {i : Nat} (h : i < 32) (h' : i ≠ 24 ∧ i ≠ 25) :
    (c.advance x lc).cstat.getLsbD i = c.cstat.getLsbD i := by
  have g : ∀ d : Cluster, d.setDepth.cstat.getLsbD i = d.cstat.getLsbD i := fun d => by
    have hn : (d.loops.length % 4 * 2 ^ 24).testBit i = false := by
      rw [Nat.mul_comm, Nat.testBit_two_pow_mul]
      by_cases e : 24 ≤ i
      · have : (d.loops.length % 4).testBit (i - 24) = false := by
          apply Nat.testBit_lt_two_pow
          calc d.loops.length % 4 < 2 ^ 2 := Nat.mod_lt _ (by decide)
            _ ≤ 2 ^ (i - 24) := Nat.pow_le_pow_right (by decide) (by omega)
        simp [this]
      · simp [e]
    have hm : (0xFCFFFFFF#32).getLsbD i = true := by
      have : ∀ j : Fin 32, j.val ≠ 24 ∧ j.val ≠ 25 → (0xFCFFFFFF#32).getLsbD j.val = true := by decide
      exact this ⟨i, h⟩ h'
    have hz : (BitVec.ofNat 32 (d.loops.length % 4 * 2 ^ 24)).getLsbD i = false := by
      rw [BitVec.getLsbD_ofNat, hn, Bool.and_false]
    rw [Cluster.setDepth, BitVec.getLsbD_or, BitVec.getLsbD_and, hz, hm, Bool.and_true, Bool.or_false]
  unfold Cluster.advance; extract_lets l; clear_value l; cases x with
  | loop k n => dsimp only; split <;> exact g _
  | branch t => exact g _
  | seq => exact g _
  | swap => exact g _

@[simp] theorem putAll_cstat {c : Cluster} {l : List RegWrite} : (c.putAll l).cstat = c.cstat :=
  putAll_induct (P := fun e => e.cstat = c.cstat) (fun d x _ e => by cases x <;> exact e) rfl
@[simp] theorem putAll_mem {c : Cluster} {l : List RegWrite} : (c.putAll l).mem = c.mem :=
  putAll_induct (P := fun e => e.mem = c.mem) (fun d x _ e => by cases x <;> exact e) rfl

@[simp] theorem low3_w8 {d : Fin 8} : low3 (w8 d) = d := Fin.ext (Nat.mod_eq_of_lt d.isLt)
@[simp] theorem w8_val {d : Fin 8} : (w8 d).val = d.val := rfl

/-- An M-slot operation that is not illegal (R218, R221). -/
theorem mOp_eq {s : State} {c : Fin 16} {op : Nat} {d a b : Fin 16} {sh : Fin 8} {imm : BitVec 7} {r : SlotRes}
    (h : s.clusters[c].spent = false) (hr : mSlot s.clusters[c].fg s.clusters[c].cstat ⟨op, d, a, b, sh, imm⟩ = r) (hi : r.illegal = false) :
    s.mOp c op d a b sh imm = s.setCluster c { (({ s.clusters[c] with cstat := statAfter s.clusters[c] r .none }.count.putAll
      (s.clusters[c].loads ++ r.writes)).advance .seq none) with loads := [] } := by
  subst hr
  have e := exec_bundle (c := s.clusters[c]) (b := ⟨⟨op, d, a, b, sh, imm⟩, .nop, .nop⟩) h rfl hi rfl rfl rfl rfl
  have hf : (s.clusters[c].exec ⟨⟨op, d, a, b, sh, imm⟩, .nop, .nop⟩).fate = .running := by rw [e]
  have hv : (s.clusters[c].exec ⟨⟨op, d, a, b, sh, imm⟩, .nop, .nop⟩).events = [] := by rw [e]; rfl
  rw [State.mOp, issueBundle_running hf, afterIssue_quiet hf hv, e]
  simp only [aSlot_nop, cSlot_nop, ARes.none, CRes.none, List.append_nil]
  rfl

theorem cluster_set {s : State} {c : Fin 16} {k : Cluster} : (s.setCluster c k).clusters[c] = k := Vector.getElem_set_self _

theorem mem_noLoad {k : Cluster} {w x : RegWrite} (h : k.noLoad w = true) (hx : x ∈ k.loads) : w.same x = false := by
  have := List.all_eq_true.1 h x hx
  simpa using this

/-- The bits that the slots set in CSTAT. -/
theorem orCstat_bit {w : Word} {n i : Nat} (hi : i < 32) : (orCstat w n).getLsbD i = (w.getLsbD i || n.testBit i) := by
  rw [orCstat, BitVec.getLsbD_or, BitVec.getLsbD_ofNat]; simp [hi]

theorem laneMask_bit {f : Fin 4 → Bool} {l : Fin 4} : (laneMask f).testBit l.val = f l := by
  have h : ∀ a b c d : Bool, ∀ l : Fin 4, (a.toNat + 2 * b.toNat + 4 * c.toNat + 8 * d.toNat).testBit l.val =
      (if l = 0 then a else if l = 1 then b else if l = 2 then c else d) := by decide
  rw [laneMask, h]
  rcases l with ⟨_ | _ | _ | _ | n, hl⟩
  all_goals first | rfl | omega

theorem laneMask_lt {f : Fin 4 → Bool} : laneMask f < 16 := by
  have h : ∀ a b c d : Bool, a.toNat + 2 * b.toNat + 4 * c.toNat + 8 * d.toNat < 16 := by decide
  exact h _ _ _ _

theorem shl_testBit {n i k : Nat} : (2 ^ k * n).testBit i = (decide (k ≤ i) && n.testBit (i - k)) := by
  rw [Nat.testBit_two_pow_mul]

theorem add16_bit {a b i : Nat} (ha : a < 16) (hi : i < 4) : (a + 16 * b).testBit (4 + i) = b.testBit i ∧ (a + 16 * b).testBit i = a.testBit i := by
  have e : a + 16 * b = 2 ^ 4 * b ||| a := by rw [Nat.add_comm]; exact Nat.two_pow_add_eq_or_of_lt (i := 4) ha b
  have ha' : a.testBit (4 + i) = false := Nat.testBit_lt_two_pow (Nat.lt_of_lt_of_le ha (by
    have : 2 ^ (4 + i) = 16 * 2 ^ i := by rw [Nat.pow_add]
    have := Nat.one_le_two_pow (n := i); omega))
  rw [e, Nat.testBit_or, Nat.testBit_or, Nat.testBit_two_pow_mul, Nat.testBit_two_pow_mul, ha']
  constructor
  · simp
  · simp [Nat.not_le.2 hi]

theorem sat72_toInt {v : Int} : (sat72 v).toInt = max (-(2 ^ 71)) (min (2 ^ 71 - 1) v) := by
  rw [sat72, BitVec.toInt_ofInt, Int.bmod_def]
  split <;> omega

theorem satWord_toInt {v : Int} : (satWord v).toInt = max (-(2 ^ 31)) (min (2 ^ 31 - 1) v) := by
  rw [satWord, sat32, BitVec.toInt_ofInt, Int.bmod_def]
  split <;> omega

/-! What the operations of one shape leave in the registers. -/

variable {s : State} {c : Fin 16} {k : RegSet}

theorem statAfter_bit {k : Cluster} {r : SlotRes} {i : Nat} (hi : i < 32) (hc : r.cmp = none) :
    (statAfter k r .none).getLsbD i = (k.cstat.getLsbD i || (r.sat + 16 * r.aovf).testBit i) := by
  rw [statAfter, orCstat_bit hi, hc]
  show (_ || Nat.testBit ((r.sat + 16 * r.aovf) ||| (0 ||| (0 + 0))) i) = _
  simp

/-- fg and cstat after mOp -/
theorem mOp_regs {op : Nat} {d a b : Fin 16} {sh : Fin 8} {imm : BitVec 7} {r : SlotRes}
    (h : s.clusters[c].spent = false) (hr : mSlot s.clusters[c].fg s.clusters[c].cstat ⟨op, d, a, b, sh, imm⟩ = r) (hi : r.illegal = false) :
    ((s.mOp c op d a b sh imm).clusters[c].fg = (({ s.clusters[c] with cstat := statAfter s.clusters[c] r .none }.count.putAll
      (s.clusters[c].loads ++ r.writes))).fg) ∧ (∀ i < 32, i ≠ 24 ∧ i ≠ 25 → (s.mOp c op d a b sh imm).clusters[c].cstat.getLsbD i = (statAfter s.clusters[c] r .none).getLsbD i) := by
  have e := congrArg (fun x : State => x.clusters[c]) (mOp_eq h hr hi)
  simp only [cluster_set] at e
  constructor
  · rw [e]; exact advance_fg
  · intro i h1 h2
    rw [e]
    exact (advance_cstat h1 h2).trans (by rw [putAll_cstat]; rfl)

theorem noLoad_acc {k : Cluster} {d : Fin 8} {q q' : AccQuad} (h : k.noLoad (.acc d q) = true) {x} (hx : x ∈ k.loads) : (RegWrite.acc d q').same x = false := by
  have := mem_noLoad h hx
  cases x <;> exact this
theorem noLoad_v {k : Cluster} {d : Fin 16} {q q' : Quad} (h : k.noLoad (.v d q) = true) {x} (hx : x ∈ k.loads) : (RegWrite.v d q').same x = false := by
  have := mem_noLoad h hx
  cases x <;> exact this
theorem noLoad_s {k : Cluster} {d : Fin 8} {q q' : Word} (h : k.noLoad (.s d q) = true) {x} (hx : x ∈ k.loads) : (RegWrite.s d q').same x = false := by
  have := mem_noLoad h hx
  cases x <;> exact this

theorem lanes_getElem {α} {f : Fin 4 → α} {l : Fin 4} : (lanes f)[l] = f l := by simp [lanes]

theorem over72_eq {v : Int} : over72 v = decide (v < -(2 ^ 71) ∨ 2 ^ 71 - 1 < v) := by simp [over72]
theorem over32_eq {v : Int} : over32 v = decide (v < -(2 ^ 31) ∨ 2 ^ 31 - 1 < v) := by simp [over32]

theorem AccGets.of_mOp {i : Instr} {d : Fin 8} {f g : Fin 4 → Int} {op : Nat} {D a b : Fin 16} {sh : Fin 8} {imm : BitVec 7}
    (hx : exec i s = .next (s.mOp c op D a b sh imm)) (hD : low3 D = d)
    (h : s.clusters[c].spent = false) (hn : s.clusters[c].noLoad (.acc d (.replicate 4 0)) = true)
    (hr : mSlot s.clusters[c].fg s.clusters[c].cstat ⟨op, D, a, b, sh, imm⟩ = accRes D f) (hf : ∀ l, f l = g l) : AccGets i s c d g := by
  refine ⟨_, hx, fun l => ?_⟩
  obtain ⟨h1, h2⟩ := mOp_regs h hr rfl
  have hf' : f = g := funext hf
  subst hf' hD
  constructor
  · rw [h1, accRes, putAll_last (fun x hx => noLoad_acc hn hx), put_acc_same, lanes_getElem, sat72_toInt]
  · rw [h2 _ (by omega) (by omega), statAfter_bit (by omega) rfl]
    congr 1
    show Nat.testBit (0 + 16 * laneMask fun i => over72 (f i)) _ = _
    rw [(add16_bit (by decide) l.isLt).1, laneMask_bit, over72_eq]

theorem VecGets.of_mOp {i : Instr} {d : Fin 16} {f g : Fin 4 → Int} {op : Nat} {a b : Fin 16} {sh : Fin 8} {imm : BitVec 7}
    (hx : exec i s = .next (s.mOp c op d a b sh imm)) 
    (h : s.clusters[c].spent = false) (hn : s.clusters[c].noLoad (.v d (.replicate 4 0)) = true)
    (hr : mSlot s.clusters[c].fg s.clusters[c].cstat ⟨op, d, a, b, sh, imm⟩ = vRes d f) (hf : ∀ l, f l = g l) : VecGets i s c d g := by
  refine ⟨_, hx, fun l => ?_⟩
  obtain ⟨h1, h2⟩ := mOp_regs h hr rfl
  have hf' : f = g := funext hf
  subst hf'
  constructor
  · rw [h1, vRes, putAll_last (fun x hx => noLoad_v hn hx), put_v_same, lanes_getElem, satWord_toInt]
  · rw [h2 _ (by omega) (by omega), statAfter_bit (by omega) rfl]
    congr 1
    show Nat.testBit ((laneMask fun i => over32 (f i)) + 16 * 0) _ = _
    rw [(add16_bit laneMask_lt l.isLt).2, laneMask_bit, over32_eq]

theorem mOp_scalar {d : Fin 8} {op : Nat} {D a b : Fin 16} {sh : Fin 8} {imm : BitVec 7} {w : Word}
    (hD : low3 D = d)
    (h : s.clusters[c].spent = false) (hn : s.clusters[c].noLoad (.s d 0) = true)
    (hr : mSlot s.clusters[c].fg s.clusters[c].cstat ⟨op, D, a, b, sh, imm⟩ = sRes D w) : (s.mOp c op D a b sh imm).clusters[c].fg.s[d] = w := by
  obtain ⟨h1, h2⟩ := mOp_regs h hr rfl
  subst hD
  rw [h1, sRes, putAll_last (fun x hx => noLoad_s hn hx), put_s_same]

theorem val_lt_eight (d : Fin 8) : d.val < 8 := d.isLt

theorem prod_eq {a b : Word} : prod a b = 2 * (a.toInt * b.toInt) := by rw [prod, Int.mul_comm]

theorem NormCount.some {k : RegSet} {b : Fin 8} {imm : BitVec 7} {n : Int} {op : Nat} {d a : Fin 16} (h : NormCount k b imm n) :
    normCount k ⟨op, d, a, w8 b, 0, imm⟩ = some n := by
  obtain ⟨h1, h2, h3⟩ := h
  unfold normCount
  rcases h3 with h3 | ⟨h3, h4⟩
  · simp [h3, h1, h2]
  · have e : BitVec.toInt (k.s[b.val]'b.isLt) = n := h4
    simp [h3, e, h1, h2, val_lt_eight]

theorem normShift_eq {v n : Int} : normShift v n = normed v n := by
  unfold normShift normed roundShift
  split
  · rfl
  · rw [if_neg (by omega)]

theorem mSlot_ok {k : RegSet} {w : Word} {f : MSlot} {r : SlotRes} (h : mFieldsOk f = true) (e : mFieldsOk f = true → mSlot k w f = r) : mSlot k w f = r := e h

theorem signBits_spec {w : Nat} {v : Int} (hw : 2 ≤ w) (h1 : -(2 ^ (w - 1)) ≤ v) (h2 : v < 2 ^ (w - 1)) : SignBits w v (signBits w v) := by
  unfold signBits SignBits
  extract_lets m
  have hm : (m : Int) = if v < 0 then -v - 1 else v := by
    show (((if v < 0 then (-v - 1).toNat else v.toNat : Nat)) : Int) = _
    split <;> omega
  by_cases h0 : m = 0
  · rw [if_pos h0, Nat.sub_zero, Nat.sub_self]
    rw [h0] at hm
    refine ⟨by omega, ?_, ?_, fun h => by omega⟩ <;> split at hm <;> simp <;> omega
  · rw [if_neg h0]
    have hl1 : 2 ^ m.log2 ≤ m := Nat.log2_self_le h0
    have hl2 : m < 2 ^ (m.log2 + 1) := Nat.lt_log2_self
    have hb : m < 2 ^ (w - 1) := by
      have : (m : Int) < 2 ^ (w - 1) := by rw [hm]; split <;> omega
      exact_mod_cast this
    have hlw : m.log2 < w - 1 := by
      apply Nat.lt_of_not_le
      intro hge
      have := Nat.pow_le_pow_right (n := 2) (by decide) hge
      omega
    have e1 : w - 1 - (w - 1 - (m.log2 + 1)) = m.log2 + 1 := by omega
    have e2 : w - 2 - (w - 1 - (m.log2 + 1)) = m.log2 := by omega
    rw [e1, e2]
    have i1 : (2 : Int) ^ m.log2 ≤ m := by exact_mod_cast hl1
    have i2 : (m : Int) < 2 ^ (m.log2 + 1) := by exact_mod_cast hl2
    generalize (2 : Int) ^ m.log2 = A at *
    generalize (2 : Int) ^ (m.log2 + 1) = B at *
    refine ⟨by omega, ?_, ?_, fun _ => ?_⟩ <;> split at hm <;> omega

theorem signBits_le {w : Nat} {v : Int} : signBits w v ≤ w - 1 := by unfold signBits; extract_lets m; omega

theorem SignBits.unique {w : Nat} {v : Int} {a b : Nat} (hw : 2 ≤ w) (ha : SignBits w v a) (hb : SignBits w v b) : a = b := by
  have key : ∀ a b, SignBits w v a → SignBits w v b → ¬ a < b := by
    intro a b ⟨a1, a2, a3, a4⟩ ⟨b1, b2, b3, b4⟩ h
    have e : (2 : Int) ^ (w - 1 - b) ≤ 2 ^ (w - 2 - a) := by exact_mod_cast Nat.pow_le_pow_right (n := 2) (by decide) (by omega)
    rcases a4 (by omega) with x | x <;> omega
  have := key a b ha hb; have := key b a hb ha; omega

theorem acc_bounds (x : BitVec 72) : -(2 ^ 71) ≤ x.toInt ∧ x.toInt < 2 ^ 71 := ⟨BitVec.le_toInt x, BitVec.toInt_lt⟩
theorem word_bounds (x : Word) : -(2 ^ 31) ≤ x.toInt ∧ x.toInt < 2 ^ 31 := ⟨BitVec.le_toInt x, BitVec.toInt_lt⟩

theorem mOp_vector {d : Fin 16} {f : Fin 4 → Int} {op : Nat} {a b : Fin 16} {sh : Fin 8} {imm : BitVec 7} {l : Fin 4}
    (h : s.clusters[c].spent = false) (hn : s.clusters[c].noLoad (.v d (.replicate 4 0)) = true)
    (hr : mSlot s.clusters[c].fg s.clusters[c].cstat ⟨op, d, a, b, sh, imm⟩ = vRes d f) : (s.mOp c op d a b sh imm).clusters[c].fg.v[d][l] = satWord (f l) := by
  obtain ⟨h1, h2⟩ := mOp_regs h hr rfl
  rw [h1, vRes, putAll_last (fun x hx => noLoad_v hn hx), put_v_same, lanes_getElem]

theorem signBits_word {w : Nat} {v : Int} (hw : w ≤ 72) : (satWord (signBits w v)).toNat = signBits w v := by
  have := @signBits_le w v
  have e := @satWord_toInt (signBits w v)
  rw [BitVec.toInt_eq_toNat_cond] at e
  have := (satWord (signBits w v)).isLt
  split at e <;> omega

theorem bitOf_testBit {v n : Nat} : bitOf v n = v.testBit n := by
  rw [Nat.testBit_eq_decide_div_mod_eq, bitOf]; rfl

theorem cOp_cluster {op imm : Nat} (h : s.clusters[c].spent = false) (he : (⟨.nop, .nop, ⟨op, BitVec.ofNat 10 imm⟩⟩ : Bundle).isEnd = false)
    (hi : (cSlot s.clusters[c] ⟨op, BitVec.ofNat 10 imm⟩).illegal = false)
    (ht : (cSlot s.clusters[c] ⟨op, BitVec.ofNat 10 imm⟩).ctl.taken = false) :
    (s.cOp c op imm).clusters[c] = { (({ s.clusters[c] with cstat := statAfter s.clusters[c] .none .none }.count.putAll
      (s.clusters[c].loads ++ (cSlot s.clusters[c] ⟨op, BitVec.ofNat 10 imm⟩).writes)).advance (cSlot s.clusters[c] ⟨op, BitVec.ofNat 10 imm⟩).ctl (cSlot s.clusters[c] ⟨op, BitVec.ofNat 10 imm⟩).lc) with loads := [] } := by
  have e := exec_bundle (c := s.clusters[c]) (b := ⟨.nop, .nop, ⟨op, BitVec.ofNat 10 imm⟩⟩) h he rfl rfl rfl hi ht
  have hf : (s.clusters[c].exec ⟨.nop, .nop, ⟨op, BitVec.ofNat 10 imm⟩⟩).fate = .running := by rw [e]
  rw [State.cOp, issueBundle_running hf, clusters_afterIssue hf, e]
  simp only [aSlot_nop, mSlot_nop, ARes.none, SlotRes.none, List.append_nil]
  rfl

theorem cOp_fg {op imm : Nat} (h : s.clusters[c].spent = false) (he : (⟨.nop, .nop, ⟨op, BitVec.ofNat 10 imm⟩⟩ : Bundle).isEnd = false)
    (hi : (cSlot s.clusters[c] ⟨op, BitVec.ofNat 10 imm⟩).illegal = false)
    (ht : (cSlot s.clusters[c] ⟨op, BitVec.ofNat 10 imm⟩).ctl.taken = false) :
    (s.cOp c op imm).clusters[c].fg = ({ s.clusters[c] with cstat := statAfter s.clusters[c] .none .none }.count.putAll
      (s.clusters[c].loads ++ (cSlot s.clusters[c] ⟨op, BitVec.ofNat 10 imm⟩).writes)).fg := by
  rw [cOp_cluster h he hi ht]; exact advance_fg

theorem imm10_toNat {n : Nat} (h : n < 1024) : (BitVec.ofNat 10 n).toNat = n := by simp; omega

theorem cSlot_vins {k : Cluster} {d : Fin 8} {a : Fin 16} {l : Fin 4} : cSlot k ⟨0xA, BitVec.ofNat 10 (128 * d.val + 8 * a.val + l.val)⟩ =
    { CRes.none with writes := [.v a (k.fg.v[a].set l k.fg.s[d])] } := by
  have hi := imm10_toNat (n := 128 * d.val + 8 * a.val + l.val) (by omega)
  have e1 : (128 * d.val + 8 * a.val + l.val) / 128 % 8 = d.val := by omega
  have e2 : (128 * d.val + 8 * a.val + l.val) / 8 % 16 = a.val := by omega
  have e3 : (128 * d.val + 8 * a.val + l.val) % 4 = l.val := by omega
  have e4 : bitOf (128 * d.val + 8 * a.val + l.val) 2 = false := by
    unfold bitOf; simp; omega
  unfold cSlot
  simp only [hi, e1, e2, e3, e4]
  rfl

theorem cSlot_smov {k : Cluster} {d a : Fin 8} : cSlot k ⟨7, BitVec.ofNat 10 (8 * d.val + a.val)⟩ = { CRes.none with writes := [.s d k.fg.s[a]] } := by
  have hi := imm10_toNat (n := 8 * d.val + a.val) (by omega)
  have e1 : (8 * d.val + a.val) / 8 % 8 = d.val := by omega
  have e2 : (8 * d.val + a.val) / 64 = 0 := by omega
  have e3 : (8 * d.val + a.val) % 8 = a.val := by omega
  unfold cSlot
  simp only [hi, e1, e2, e3]
  rfl

theorem cSlot_sldi {k : Cluster} {d : Fin 8} {imm : BitVec 7} : cSlot k ⟨8, BitVec.ofNat 10 (128 * d.val + imm.toNat)⟩ =
    { CRes.none with writes := [.s d (imm.signExtend 32)] } := by
  have hlt := imm.isLt
  have hi := imm10_toNat (n := 128 * d.val + imm.toNat) (by omega)
  have e1 : (128 * d.val + imm.toNat) / 128 % 8 = d.val := by omega
  have e2 : signed (128 * d.val + imm.toNat) 7 = imm.toInt := by
    unfold signed; rw [BitVec.toInt_eq_toNat_cond]; simp only [Nat.reducePow]; (try split) <;> (try split) <;> omega
  unfold cSlot
  simp only [hi, e1, e2]
  rfl

theorem cSlot_vext {k : Cluster} {d : Fin 8} {a : Fin 16} {l : Fin 4} : cSlot k ⟨9, BitVec.ofNat 10 (128 * d.val + 8 * a.val + l.val)⟩ =
    { CRes.none with writes := [.s d k.fg.v[a][l]] } := by
  have hi := imm10_toNat (n := 128 * d.val + 8 * a.val + l.val) (by omega)
  have e1 : (128 * d.val + 8 * a.val + l.val) / 128 % 8 = d.val := by omega
  have e2 : (128 * d.val + 8 * a.val + l.val) / 8 % 16 = a.val := by omega
  have e3 : (128 * d.val + 8 * a.val + l.val) % 4 = l.val := by omega
  have e4 : bitOf (128 * d.val + 8 * a.val + l.val) 2 = false := by
    unfold bitOf; simp; omega
  unfold cSlot
  simp only [hi, e1, e2, e3, e4]
  rfl

theorem cSlot_rdcs {k : Cluster} {d : Fin 8} : cSlot k ⟨0xB, BitVec.ofNat 10 (128 * d.val)⟩ = { CRes.none with writes := [.s d k.cstat] } := by
  have hi := imm10_toNat (n := 128 * d.val) (by omega)
  have e1 : (128 * d.val) / 128 % 8 = d.val := by omega
  have e2 : (128 * d.val) % 128 = 0 := by omega
  unfold cSlot
  simp only [hi, e1, e2]
  rfl

theorem aOp_cluster {op : Nat} {pn : Fin 8} {reg : Fin 16} {am : Fin 4} {imm : BitVec 8} {r : ARes} (h : s.clusters[c].spent = false)
    (hr : aSlot s.clusters[c] true ⟨op, pn, reg, am, imm⟩ = r) (hi : r.illegal = false) (hw : r.win = none) :
    (s.aOp c op pn reg am imm).clusters[c] = { (((({ s.clusters[c] with cstat := statAfter s.clusters[c] .none r }.storeAll r.stores).count.putAll
      (s.clusters[c].loads ++ r.writes)).advance .seq none).scrubbed r.events) with loads := r.loads } := by
  subst hr
  have e := exec_bundle (c := s.clusters[c]) (b := ⟨.nop, ⟨op, pn, reg, am, imm⟩, .nop⟩) h rfl rfl hi hw rfl rfl
  have hf : (s.clusters[c].exec ⟨.nop, ⟨op, pn, reg, am, imm⟩, .nop⟩).fate = .running := by rw [e]
  rw [State.aOp, issueBundle_running hf, clusters_afterIssue hf, e]
  simp only [cSlot_nop, mSlot_nop, CRes.none, SlotRes.none, List.append_nil]

theorem aOp_fg {op : Nat} {pn : Fin 8} {reg : Fin 16} {am : Fin 4} {imm : BitVec 8} {r : ARes} (h : s.clusters[c].spent = false)
    (hr : aSlot s.clusters[c] true ⟨op, pn, reg, am, imm⟩ = r) (hi : r.illegal = false) (hw : r.win = none) :
    (s.aOp c op pn reg am imm).clusters[c].fg = ((({ s.clusters[c] with cstat := statAfter s.clusters[c] .none r }.storeAll r.stores).count.putAll
      (s.clusters[c].loads ++ r.writes))).fg := by
  rw [aOp_cluster h hr hi hw]; exact advance_fg

theorem ScalarGets.of_cOp {i : Instr} {d : Fin 8} {w : Word} {op imm : Nat} (hx : exec i s = .next (s.cOp c op imm)) (h : s.clusters[c].spent = false)
    (hn : s.clusters[c].noLoad (.s d 0) = true) (he : (⟨.nop, .nop, ⟨op, BitVec.ofNat 10 imm⟩⟩ : Bundle).isEnd = false)
    (hr : cSlot s.clusters[c] ⟨op, BitVec.ofNat 10 imm⟩ = { CRes.none with writes := [.s d w] }) : ScalarGets i s c d w := by
  refine ⟨_, hx, ?_⟩
  rw [cOp_fg h he (by rw [hr]; rfl) (by rw [hr]; rfl), hr]
  dsimp only
  rw [putAll_last (fun x hx => noLoad_s hn hx), put_s_same]

theorem lane4Min_spec {f : Fin 4 → Nat} : (∃ l, lane4Min f = f l) ∧ ∀ l, lane4Min f ≤ f l := by
  unfold lane4Min
  constructor
  · have : ∃ l, l = 0 ∨ l = 1 ∨ l = (2 : Fin 4) ∨ l = (3 : Fin 4) := ⟨0, .inl rfl⟩
    rcases Nat.le_total (f 0) (f 1) with h1 | h1 <;> rcases Nat.le_total (f 2) (f 3) with h2 | h2
    · rcases Nat.le_total (f 0) (f 2) with h3 | h3
      · exact ⟨0, by omega⟩
      · exact ⟨2, by omega⟩
    · rcases Nat.le_total (f 0) (f 3) with h3 | h3
      · exact ⟨0, by omega⟩
      · exact ⟨3, by omega⟩
    · rcases Nat.le_total (f 1) (f 2) with h3 | h3
      · exact ⟨1, by omega⟩
      · exact ⟨2, by omega⟩
    · rcases Nat.le_total (f 1) (f 3) with h3 | h3
      · exact ⟨1, by omega⟩
      · exact ⟨3, by omega⟩
  · rintro ⟨_ | _ | _ | _ | n, hl⟩
    · show _ ≤ f 0; omega
    · show _ ≤ f 1; omega
    · show _ ≤ f 2; omega
    · show _ ≤ f 3; omega
    · omega

theorem ScalarGets.of_mOp {i : Instr} {d : Fin 8} {op : Nat} {D a b : Fin 16} {sh : Fin 8} {imm : BitVec 7} {w : Word}
    (hx : exec i s = .next (s.mOp c op D a b sh imm)) (hD : low3 D = d)
    (h : s.clusters[c].spent = false) (hn : s.clusters[c].noLoad (.s d 0) = true)
    (hr : mSlot s.clusters[c].fg s.clusters[c].cstat ⟨op, D, a, b, sh, imm⟩ = sRes D w) : ScalarGets i s c d w := ⟨_, hx, mOp_scalar hD h hn hr⟩

theorem signBits_min {w : Nat} (hw : 2 ≤ w) (hw' : w ≤ 72) {v : Fin 4 → Int} (hv : ∀ l, -(2 ^ (w - 1)) ≤ v l ∧ v l < 2 ^ (w - 1)) {x : Word}
    (hx : x = BitVec.ofNat 32 (lane4Min fun i => signBits w (v i))) :
    (∃ l : Fin 4, SignBits w (v l) x.toNat) ∧ ∀ (l : Fin 4) n, SignBits w (v l) n → x.toNat ≤ n := by
  obtain ⟨⟨l, e⟩, h⟩ := lane4Min_spec (f := fun i => signBits w (v i))
  have hb : signBits w (v l) ≤ w - 1 := signBits_le
  have e' : x.toNat = signBits w (v l) := by rw [hx, e, BitVec.toNat_ofNat, Nat.mod_eq_of_lt (by omega)]
  refine ⟨⟨l, e' ▸ signBits_spec hw (hv l).1 (hv l).2⟩, fun j n hn => ?_⟩
  rw [SignBits.unique hw hn (signBits_spec hw (hv j).1 (hv j).2), e', ← e]
  exact h j

theorem mOp_compare {s : State} {c : Fin 16} {op : Nat} {a b : Fin 16} {p : Fin 4 → Bool}
    (h : s.clusters[c].spent = false) (hr : mSlot s.clusters[c].fg s.clusters[c].cstat ⟨op, 0, a, b, 0, 0⟩ = cmpRes (laneMask p)) :
   (∀ l : Fin 4, (s.mOp c op 0 a b 0 0).clusters[c].cstat.getLsbD (28 + l.val) = p l) ∧
    (s.mOp c op 0 a b 0 0).clusters[c].cstat.getLsbD 27 = (p 0 || p 1 || p 2 || p 3) ∧ (s.mOp c op 0 a b 0 0).clusters[c].cstat.getLsbD 26 = (p 0 && p 1 && p 2 && p 3) := by
  obtain ⟨-, h2⟩ := mOp_regs h hr rfl
  have key : ∀ i, i < 32 → (statAfter s.clusters[c] (cmpRes (laneMask p)) .none).getLsbD i = (cmpCstat s.clusters[c].cstat (laneMask p)).getLsbD i := by
    intro i hi
    rw [statAfter, orCstat_bit hi]
    show (_ || Nat.testBit ((0 + 16 * 0) ||| (0 ||| (0 + 0))) i) = _
    simp [cmpRes]
  have fin : ∀ i, 26 ≤ i → i < 32 → (cmpCstat s.clusters[c].cstat (laneMask p)).getLsbD i =
      (laneMask p * 2 ^ 28 + (if laneMask p = 0 then 0 else 2 ^ 27) + (if laneMask p = 15 then 2 ^ 26 else 0)).testBit i := by
    intro i h1 h2
    rw [cmpCstat, BitVec.getLsbD_or, BitVec.getLsbD_and]
    have : (0x03FFFFFF#32).getLsbD i = false := by
      have : ∀ j : Fin 32, 26 ≤ j.val → (0x03FFFFFF#32).getLsbD j.val = false := by decide
      exact this ⟨i, h2⟩ h1
    rw [this, BitVec.getLsbD_ofNat]
    simp [h2]
  have tab : ∀ a b c d : Bool, ∀ i : Fin 6, (let m := a.toNat + 2 * b.toNat + 4 * c.toNat + 8 * d.toNat; (m * 2 ^ 28 + (if m = 0 then 0 else 2 ^ 27) + (if m = 15 then 2 ^ 26 else 0)).testBit (26 + i.val)) =
      (if i = 0 then a && b && c && d else if i = 1 then a || b || c || d else if i = 2 then a else if i = 3 then b else if i = 4 then c else d) := by decide
  have t2 := fun i => tab (p 0) (p 1) (p 2) (p 3) i
  refine ⟨fun l => ?_, ?_, ?_⟩
  · rw [h2 _ (by omega) (by omega), key _ (by omega), fin _ (by omega) (by omega)]
    rcases l with ⟨_ | _ | _ | _ | n, hl⟩
    · exact t2 2
    · exact t2 3
    · exact t2 4
    · exact t2 5
    · omega
  · rw [h2 _ (by omega) (by omega), key _ (by omega), fin _ (by omega) (by omega)]
    exact t2 1
  · rw [h2 _ (by omega) (by omega), key _ (by omega), fin _ (by omega) (by omega)]
    exact t2 0

/-! A command's bundle issued: its registers, the other clusters, what stops it. -/

theorem keep_after_set {old : Cluster} {r : Issued} {own : Nat} :
    Keep 0x1002 (s.setCluster c (if r.fate = .running then r.c else { r.c with run := none })) (s.afterIssue c old r own) := by
  unfold State.afterIssue
  dsimp only
  with_reducible apply Keep.ite
  · exact Keep.each Keep.refl fun s x => keep_clEvent
  · exact Keep.step keep_kernelEnded rfl (Keep.each Keep.refl fun s x => keep_clEvent)

theorem clusters_afterIssue' {old : Cluster} {r : Issued} {own : Nat} :
    (s.afterIssue c old r own).clusters[c] = if r.fate = .running then r.c else { r.c with run := none } :=
  (congrArg (fun x : Vector Cluster 16 => x[c]) (keep_after_set.clusters rfl)).trans (Vector.getElem_set_self _)

/-- Registers below the cluster pages stay when bundles are issued. -/
theorem reg_clEvent {n h a : Nat} {e : ClEvent} (ha : a < 0x10000) : (s.clEvent n h e).reg a = s.reg a := by
  have p : ∀ {t : State} {k : Nat}, (t.pulse (0x10 + n) k).reg a = t.reg a := fun {t k} =>
    reg_pulse (by simp only [Fld.pg, F.FLT_RAW]; omega) (by simp only [Fld.pg, F.FLT_LATCH]; omega) (by simp only [Fld.pg, F.EVT_COUNT]; omega)
  have b : ∀ {t : State} {f : Fld}, 0x10000 ≤ f.addr → (t.bumpSat f).reg a = t.reg a := fun {t f} hf => by
    unfold State.bumpSat; split
    · exact reg_setReg_ne (by omega)
    · rfl
  cases e with
  | circ => exact reg_bump_ne (by simp only [Fld.pg, F.CL_CIRC_CNT]; omega)
  | window w => exact p.trans (reg_wrAll (by simp only [List.mem_cons, List.not_mem_nil, or_false, forall_eq_or_imp, forall_eq, Fld.pg, F.CL_WIN_LAST_HANDLE, F.CL_WIN_LAST_WORD]; omega))
  | illegal => exact p
  | sbe w => exact p.trans (b (by simp only [Fld.pg, F.CL_DM_ECC_SBE]; omega))
  | dbe w => exact p.trans ((reg_setReg_ne (by simp only [Fld.pg, F.CL_DM_ECC_ADDR]; omega)).trans (b (by simp only [Fld.pg, F.CL_DM_ECC_DBE]; omega)))
  | pmSbe => exact p.trans (b (by simp only [Fld.pg, F.CL_PM_ECC_SBE]; omega))
  | pmDbe => exact p.trans (b (by simp only [Fld.pg, F.CL_PM_ECC_DBE]; omega))

theorem reg_afterIssue {old : Cluster} {r : Issued} {own a : Nat} (ha : a < 0x10000) : (s.afterIssue c old r own).reg a = s.reg a := by
  unfold State.afterIssue
  extract_lets hd aovf left src s1 s2
  have h2 : s2.reg a = s.reg a := by
    show (s1.each r.events _).reg a = s1.reg a
    generalize r.events = l
    clear_value s1
    unfold State.each
    induction l generalizing s1 with
    | nil => rfl
    | cons e l ih => exact (ih _).trans (reg_clEvent ha)
  clear_value s2
  split
  · exact h2
  · unfold State.kernelEnded
    extract_lets t1 t2
    have e1 : t1.reg a = s.reg a := (reg_setReg_ne (by simp only [Fld.pg, F.CL_STAT_IN_KERNEL]; omega)).trans
      ((reg_setReg_ne (by simp only [Fld.pg, F.CL_BUDGET_LEFT]; omega)).trans h2)
    have e2 : t2.reg a = s.reg a := by
      show (if _ then _ else _ : State).reg a = _
      split
      · exact (reg_bump_ne (by simp only [Fld.pg, F.CL_STOP_CNT]; omega)).trans e1
      · exact e1
    split
    · exact (reg_pulse (by simp only [Fld.pg, F.FLT_RAW]; omega) (by simp only [Fld.pg, F.FLT_LATCH]; omega) (by simp only [Fld.pg, F.EVT_COUNT]; omega)).trans e2
    · exact e2

theorem F_afterIssue {old : Cluster} {r : Issued} {own : Nat} : (s.afterIssue c old r own).F = s.F := by
  unfold State.F State.rd
  rw [reg_afterIssue (by decide)]

/-- What a stop leaves beside the cluster's registers: at most the strip buffer of its kernel is written (R78, R213). -/
theorem kernelStop_clusters {k : KernelRun} {b : Bool} : (s.kernelStop c k b).clusters = s.clusters ∨
    ∃ l : List Byte, l.length = 16 * s.F ∧ (s.kernelStop c k b).clusters = s.clusters.set c (s.clusters[c].putBytes k.strip l) := by
  unfold State.kernelStop
  extract_lets s1
  have h1 : s1.clusters = s.clusters ∨ ∃ l : List Byte, l.length = 16 * s.F ∧ s1.clusters = s.clusters.set c (s.clusters[c].putBytes k.strip l) := by
    show (match s.eng.insts[k.handle]? with
      | none => s
      | some i => _ : State).clusters = _ ∨ _
    cases hi : s.eng.insts[k.handle]? with
    | none => exact .inl rfl
    | some i =>
      refine .inr ⟨quadBytes (holdRamp i.last i.ovr s.F), ?_, ?_⟩
      · have hq : ∀ l : List Quad, (quadBytes l).length = 16 * l.length := fun l => by
          induction l with
          | nil => rfl
          | cons q l ih => rw [quadBytes, List.flatMap_cons, List.length_append, ← quadBytes, ih, List.length_cons]; show 16 + 16 * l.length = 16 * (l.length + 1); omega
        rw [hq, holdRamp, List.length_map, List.length_range]
      · show (match s.eng.insts[k.handle]? with
          | none => s
          | some i => _ : State).clusters = _
        rw [hi]
        exact (keep_stopInst.clusters rfl).trans (keep_setInst.clusters rfl)
  have h2 : (if b = true then s1.kernelOvr c.val k.handle else s1).clusters = s1.clusters := by
    split
    · exact keep_kernelOvr.clusters rfl
    · rfl
  rw [h2]; exact h1

theorem get_memBytes_far {d : Nat → Byte} {e : Byte} : ∀ {l : List Byte} {m : Mem} {o a : Nat}, a < o ∨ o + l.length ≤ a →
    Sparse.get e (memBytes d m o l) a = Sparse.get e m a
  | [], _, _, _, _ => rfl
  | b :: t, m, o, a, h => by
    have h' : a < o + 1 ∨ o + 1 + t.length ≤ a := by rw [List.length_cons] at h; omega
    refine (get_memBytes_far (l := t) (m := memSet d m o b) (o := o + 1) h').trans (Sparse.get_set_ne ?_)
    rw [List.length_cons] at h; omega

/-- A stop written as its bundle's outcome, the substitute in the strip buffer beside it. -/
theorem issueBundle_stops {b : Bundle} {m : Nat} (hf : ¬((s.clusters[c].exec b).fate = .running ∨ (s.clusters[c].exec b).fate = .ended))
    (h : Stopped s.F s.clusters[c] m { (s.clusters[c].exec b).c with run := none }) : Stopped s.F s.clusters[c] m (s.issueBundle c b).clusters[c] := by
  have hr : ¬(s.clusters[c].exec b).fate = .running := fun z => hf (.inl z)
  unfold State.issueBundle
  extract_lets k r t
  have ht : t.clusters[c] = { r.c with run := none } := clusters_afterIssue'.trans (if_neg hr)
  have hF : t.F = s.F := F_afterIssue
  cases hrun : k.run with
  | none => dsimp only; rw [ht]; exact h
  | some x =>
    dsimp only
    rw [if_neg hf]
    rcases kernelStop_clusters (s := t) (c := c) (k := x) (b := r.fate == .budget) with e | ⟨l, hl, e⟩
    · rw [show (t.kernelStop c x (r.fate == .budget)).clusters[c] = t.clusters[c] from congrArg (fun v : Vector Cluster 16 => v[c]) e, ht]; exact h
    · have e' : (t.kernelStop c x (r.fate == .budget)).clusters[c] = t.clusters[c].putBytes x.strip l := by
        exact (congrArg (fun v : Vector Cluster 16 => v[c]) e).trans (Vector.getElem_set_self _)
      rw [e', ht]
      obtain ⟨h1, h2, h3, h4⟩ := h
      refine ⟨h1, h2, fun a ha => (get_memBytes_far ?_).trans (h3 a ha), h4⟩
      have := ha x hrun
      rw [hl, hF]; exact this

/-- The other clusters stay as they are. -/
theorem clusters_issueBundle_ne {b : Bundle} {d : Fin 16} (h : d ≠ c) : (s.issueBundle c b).clusters[d] = s.clusters[d] := by
  have ne : ∀ (v : Vector Cluster 16) (k : Cluster), (v.set c k)[d] = v[d] := fun v k => Vector.getElem_set_ne c.isLt d.isLt (fun z => h (Fin.ext z.symm))
  unfold State.issueBundle
  extract_lets k r t
  have ht : t.clusters[d] = s.clusters[d] :=
    (congrArg (fun x : Vector Cluster 16 => x[d]) (keep_after_set.clusters rfl)).trans (ne _ _)
  split
  · split
    · exact ht
    · rename_i x _ _
      rcases kernelStop_clusters (s := t) (c := c) (k := x) (b := r.fate == .budget) with e | ⟨l, hl, e⟩
      · exact (congrArg (fun v : Vector Cluster 16 => v[d]) e).trans ht
      · exact (congrArg (fun v : Vector Cluster 16 => v[d]) e).trans ((ne _ _).trans ht)
  · exact ht

theorem slotBundle_exec {i : Instr} {b : Bundle} (h : slotBundle i = some (c, b)) : exec i s = .next (s.issueBundle c b) := by
  cases i
  all_goals first
    | (injection h with h; injection h with h1 h2; subst h1 h2; rfl)
    | exact nomatch h

/-- A stopped bundle: what is left of the cluster. -/
theorem exec_illegal {k : Cluster} {b : Bundle} (h : k.spent = false) (hi : ((mSlot k.fg k.cstat b.m).illegal || (aSlot k (!b.isEnd) b.a).illegal || (cSlot k b.c).illegal) = true) :
    k.exec b = ⟨k.count.stop 0x2000, [.illegal], .illegal⟩ := by
  unfold Cluster.exec Cluster.issue
  simp only [h, hi, Bool.false_and, Bool.false_eq_true, if_false, if_true]
  rfl

theorem exec_window {k : Cluster} {b : Bundle} {w : Nat} (h : k.spent = false) (hi : ((mSlot k.fg k.cstat b.m).illegal || (aSlot k (!b.isEnd) b.a).illegal || (cSlot k b.c).illegal) = false)
    (hw : (aSlot k (!b.isEnd) b.a).win = some w) : k.exec b = ⟨k.count.stop 0x1000, [.window w], .window w⟩ := by
  unfold Cluster.exec Cluster.issue
  simp only [h, hi, hw, Bool.false_and, Bool.false_eq_true, if_false]
  rfl

theorem stop_stopped {k : Cluster} {f n m : Nat} (hn : m < 32) (hm : stickyMask.testBit m = true) (hb : n.testBit m = true) :
    Stopped f k m { k.count.stop n with run := none } := by
  refine ⟨rfl, rfl, fun _ _ => rfl, rfl, rfl, rfl, rfl, ?_⟩
  show Nat.testBit (Nat.lor k.sticky (Nat.land (orCstat k.cstat n).toNat stickyMask)) m = true
  have e : (orCstat k.cstat n).toNat.testBit m = (orCstat k.cstat n).getLsbD m := rfl
  show Nat.testBit (k.sticky ||| ((orCstat k.cstat n).toNat &&& stickyMask)) m = true
  rw [Nat.testBit_or, Nat.testBit_and, hm, e, orCstat_bit hn, hb]
  simp

theorem Leaves.illegal {i : Instr} {b : Bundle} {k : Cluster} (hb : slotBundle i = some (c, b)) (hk : s.clusters[c] = k) (h : k.spent = false)
    (hi : ((mSlot k.fg k.cstat b.m).illegal || (aSlot k (!b.isEnd) b.a).illegal || (cSlot k b.c).illegal) = true) : Leaves i s c (Stopped s.F k 13) := by
  subst hk
  have e := exec_illegal h hi
  refine ⟨_, slotBundle_exec hb, issueBundle_stops (by rw [e]; rintro (z | z) <;> exact nomatch z) ?_⟩
  rw [e]
  exact stop_stopped (by decide) (by decide) (by decide)

theorem Leaves.window {i : Instr} {b : Bundle} {k : Cluster} {w : Nat} (hb : slotBundle i = some (c, b)) (hk : s.clusters[c] = k) (h : k.spent = false)
    (hi : ((mSlot k.fg k.cstat b.m).illegal || (aSlot k (!b.isEnd) b.a).illegal || (cSlot k b.c).illegal) = false)
    (hw : (aSlot k (!b.isEnd) b.a).win = some w) : Leaves i s c (Stopped s.F k 12) := by
  subst hk
  have e := exec_window h hi hw
  refine ⟨_, slotBundle_exec hb, issueBundle_stops (by rw [e]; rintro (z | z) <;> exact nomatch z) ?_⟩
  rw [e]
  exact stop_stopped (by decide) (by decide) (by decide)

/-- The registers that writes reach depend on nothing else of the cluster. -/
theorem putAll_regs {c d : Cluster} {l : List RegWrite} (h : c.fg = d.fg ∧ c.l = d.l ∧ c.b = d.b) :
    (c.putAll l).fg = (d.putAll l).fg ∧ (c.putAll l).l = (d.putAll l).l ∧ (c.putAll l).b = (d.putAll l).b := by
  unfold Cluster.putAll
  generalize standing [] l = m
  induction m generalizing c d with
  | nil => exact h
  | cons x m ih =>
    refine ih ?_
    obtain ⟨h1, h2, h3⟩ := h
    cases x <;> simp [Cluster.put, h1, h2, h3]

theorem storeAll_regs {l : List (Nat × Word)} : ∀ {c : Cluster}, (c.storeAll l).fg = c.fg ∧ (c.storeAll l).l = c.l ∧ (c.storeAll l).b = c.b ∧ (c.storeAll l).pmem = c.pmem := by
  unfold Cluster.storeAll
  induction l with
  | nil => exact ⟨rfl, rfl, rfl, rfl⟩
  | cons x l ih => intro c; exact ih (c := c.setWord x.1 x.2)

@[simp] theorem advance_pmem {c : Cluster} {x : Control} {lc : Option (Fin 2 × BitVec 16)} : (c.advance x lc).pmem = c.pmem := by
  unfold Cluster.advance; extract_lets l; clear_value l; cases x <;> first | rfl | (dsimp only; split <;> rfl)

theorem putAll_pmem {c : Cluster} {l : List RegWrite} : (c.putAll l).pmem = c.pmem :=
  putAll_induct (P := fun e => e.pmem = c.pmem) (fun d x _ e => by cases x <;> exact e) rfl

theorem issue_pmem {k : Cluster} {b : Bundle} : (k.issue b).c.pmem = k.pmem := by
  unfold Cluster.issue
  extract_lets m a x sticky st stat c0 c1
  have h0 : c0.pmem = k.pmem := storeAll_regs.2.2.2
  split
  · rfl
  · split
    · rfl
    · split
      · exact putAll_pmem.trans h0
      · exact advance_pmem.trans (putAll_pmem.trans h0)

theorem exec_pmem {k : Cluster} {b : Bundle} : (k.exec b).c.pmem = k.pmem := by
  unfold Cluster.exec
  split
  · rfl
  · extract_lets r
    have h1 : r.c.pmem = k.pmem := issue_pmem
    split
    · split
      · exact h1
      · exact putAll_pmem.trans h1
    · exact h1

/-- A bundle that goes on to the next: its registers and stores (R218). A taken branch whose bundle loads nothing. -/
theorem exec_running {k : Cluster} {b : Bundle} (hf : (k.exec b).fate = .running)
    (hl : (cSlot k b.c).ctl.taken = true → (aSlot k (!b.isEnd) b.a).loads = []) :
    let ws := k.loads ++ (mSlot k.fg k.cstat b.m).writes ++ (aSlot k (!b.isEnd) b.a).writes ++ (cSlot k b.c).writes
    (k.exec b).c.fg = (k.putAll ws).fg ∧ (k.exec b).c.l = (k.putAll ws).l ∧ (k.exec b).c.b = (k.putAll ws).b ∧
    ((aSlot k (!b.isEnd) b.a).stores = [] → (k.exec b).c.mem = k.mem) := by
  have hi : (k.issue b).fate = .running → 
    let ws := k.loads ++ (mSlot k.fg k.cstat b.m).writes ++ (aSlot k (!b.isEnd) b.a).writes ++ (cSlot k b.c).writes
    (k.issue b).c.fg = (k.putAll ws).fg ∧ (k.issue b).c.l = (k.putAll ws).l ∧ (k.issue b).c.b = (k.putAll ws).b ∧
    ((aSlot k (!b.isEnd) b.a).stores = [] → (k.issue b).c.mem = k.mem) ∧ (k.issue b).c.loads = (aSlot k (!b.isEnd) b.a).loads := by
    unfold Cluster.issue
    extract_lets m a x sticky st stat c0 c1 src ws
    have hs : c0.fg = k.fg ∧ c0.l = k.l ∧ c0.b = k.b := ⟨storeAll_regs.1, storeAll_regs.2.1, storeAll_regs.2.2.1⟩
    split
    · intro z; exact nomatch z
    · split
      · intro z; exact nomatch z
      · split
        · intro z; exact nomatch z
        · intro _
          have p := putAll_regs (l := ws) hs
          refine ⟨advance_fg.trans p.1, advance_l.trans p.2.1, advance_b.trans p.2.2, fun hst => ?_, rfl⟩
          refine advance_mem.trans (putAll_mem.trans ?_)
          show (Cluster.storeAll _ a.stores).mem = k.mem
          rw [show a.stores = [] from hst]; rfl
  intro ws
  unfold Cluster.exec at hf ⊢
  split at hf
  · exact nomatch hf
  · rename_i h0
    rw [if_neg h0] 
    extract_lets r at hf ⊢
    split at hf
    · rename_i ht
      rw [if_pos ht]
      have g := hi ht.1
      have hld := g.2.2.2.2.trans (hl ht.2)
      split at hf
      · exact nomatch hf
      · rename_i h3
        rw [if_neg h3]
        have e : r.c.bubble = { r.c.count with loads := [] } := by unfold Cluster.bubble; rw [show r.c.loads = [] from hld]; rfl
        simp only [e]
        exact ⟨g.1, g.2.1, g.2.2.1, g.2.2.2.1⟩
    · rename_i ht
      rw [if_neg ht]
      have g := hi hf
      exact ⟨g.1, g.2.1, g.2.2.1, g.2.2.2.1⟩

/-- The writes `l` name no registers but those of `d`. -/
def Named (l d : List RegWrite) : Prop := ∀ w ∈ l, ∃ x ∈ d, ∀ y, RegWrite.same y w = RegWrite.same y x

theorem named_nil {d : List RegWrite} : Named [] d := fun w h => absurd h List.not_mem_nil
theorem named_one {w x : RegWrite} {d : List RegWrite} (h : x ∈ d) (e : ∀ y, RegWrite.same y w = RegWrite.same y x) : Named [w] d := fun v hv => by
  rw [List.mem_singleton.1 hv]; exact ⟨x, h, e⟩
theorem named_append {l m d : List RegWrite} (h : Named l d) (h' : Named m d) : Named (l ++ m) d := fun w hw => by
  rcases List.mem_append.1 hw with z | z
  · exact h w z
  · exact h' w z

theorem same_acc {d : Fin 8} {q q' : AccQuad} {D : Fin 16} (h : low3 D = d) (y : RegWrite) : RegWrite.same y (.acc (low3 D) q) = RegWrite.same y (.acc d q') := by
  subst h; cases y <;> rfl
theorem same_v {d : Fin 16} {q q' : Quad} (y : RegWrite) : RegWrite.same y (.v d q) = RegWrite.same y (.v d q') := by cases y <;> rfl
theorem same_s {d : Fin 8} {q q' : Word} {D : Fin 16} (h : low3 D = d) (y : RegWrite) : RegWrite.same y (.s (low3 D) q) = RegWrite.same y (.s d q') := by
  subst h; cases y <;> rfl
theorem same_s' {d : Fin 8} {q q' : Word} (y : RegWrite) : RegWrite.same y (.s d q) = RegWrite.same y (.s d q') := by cases y <;> rfl
theorem same_p {d : Fin 8} {q q' : BitVec 19} (y : RegWrite) : RegWrite.same y (.p d q) = RegWrite.same y (.p d q') := by cases y <;> rfl
theorem same_m {d : Fin 8} {q q' : BitVec 20} (y : RegWrite) : RegWrite.same y (.m d q) = RegWrite.same y (.m d q') := by cases y <;> rfl
theorem same_l {d : Fin 8} {q q' : BitVec 19} (y : RegWrite) : RegWrite.same y (.l d q) = RegWrite.same y (.l d q') := by cases y <;> rfl
theorem same_b {d : Fin 8} {q q' : BitVec 19} (y : RegWrite) : RegWrite.same y (.b d q) = RegWrite.same y (.b d q') := by cases y <;> rfl

theorem named_ite {c : Prop} [Decidable c] {a b : SlotRes} {d} (h1 : Named a.writes d) (h2 : Named b.writes d) : Named (if c then a else b).writes d := by
  split <;> assumption
theorem named_ite_c {c : Prop} [Decidable c] {a b : CRes} {d} (h1 : Named a.writes d) (h2 : Named b.writes d) : Named (if c then a else b).writes d := by
  split <;> assumption
theorem named_ite_a {c : Prop} [Decidable c] {a b : ARes} {d} (h1 : Named a.writes d) (h2 : Named b.writes d) : Named (if c then a else b).writes d := by
  split <;> assumption

theorem named_ptr {p : Fin 8} {x : Addressed} {d : List RegWrite} (h : .p p 0 ∈ d) : Named (ptrWrite p x) d := by
  unfold ptrWrite
  split
  · exact named_one h same_p
  · exact named_nil

theorem pb_val {pb : Fin 8} {rb : Fin 16} {ub : Bool} {op : Nat} {pa : Fin 8} {ra : Fin 16} {am : Fin 4} :
    (ASlot.pb ⟨op, pa, ra, am, BitVec.ofNat 8 (32 * pb.val + 2 * rb.val + ub.toNat)⟩) = pb ∧
    (ASlot.regb ⟨op, pa, ra, am, BitVec.ofNat 8 (32 * pb.val + 2 * rb.val + ub.toNat)⟩) = rb ∧
    (ASlot.ub ⟨op, pa, ra, am, BitVec.ofNat 8 (32 * pb.val + 2 * rb.val + ub.toNat)⟩) = ub := by
  have hu : ub.toNat ≤ 1 := Bool.toNat_le ub
  have h1 : (BitVec.ofNat 8 (32 * pb.val + 2 * rb.val + ub.toNat)).toNat = 32 * pb.val + 2 * rb.val + ub.toNat := by
    rw [BitVec.toNat_ofNat]; omega
  refine ⟨Fin.ext ?_, Fin.ext ?_, ?_⟩
  · simp only [ASlot.pb, h1]; omega
  · simp only [ASlot.regb, h1]; omega
  · simp only [ASlot.ub, h1]
    cases ub <;> simp <;> omega

/-- What a slot command's bundle writes: its destinations. -/
theorem slotWrites {i : Instr} {b : Bundle} {k : Cluster} (h : slotBundle i = some (c, b)) (he : b.isEnd = false) :
    Named ((mSlot k.fg k.cstat b.m).writes ++ (aSlot k true b.a).writes ++ (cSlot k b.c).writes) (slotDests i) := by
  cases i
  case mnop c =>
    injection h with h; injection h with h1 h2; subst h1; subst h2
    refine named_append (named_append ?_ named_nil) named_nil
    unfold mSlot; refine named_ite named_nil ?_
    exact named_nil
  case mpy c d a b =>
    injection h with h; injection h with h1 h2; subst h1; subst h2
    refine named_append (named_append ?_ named_nil) named_nil
    unfold mSlot; refine named_ite named_nil ?_
    exact named_one List.mem_cons_self (same_acc low3_w8)
  case mac c d a b =>
    injection h with h; injection h with h1 h2; subst h1; subst h2
    refine named_append (named_append ?_ named_nil) named_nil
    unfold mSlot; refine named_ite named_nil ?_
    exact named_one List.mem_cons_self (same_acc low3_w8)
  case msu c d a b =>
    injection h with h; injection h with h1 h2; subst h1; subst h2
    refine named_append (named_append ?_ named_nil) named_nil
    unfold mSlot; refine named_ite named_nil ?_
    exact named_one List.mem_cons_self (same_acc low3_w8)
  case macs c d a b =>
    injection h with h; injection h with h1 h2; subst h1; subst h2
    refine named_append (named_append ?_ named_nil) named_nil
    unfold mSlot; refine named_ite named_nil ?_
    exact named_one List.mem_cons_self (same_acc low3_w8)
  case msus c d a b =>
    injection h with h; injection h with h1 h2; subst h1; subst h2
    refine named_append (named_append ?_ named_nil) named_nil
    unfold mSlot; refine named_ite named_nil ?_
    exact named_one List.mem_cons_self (same_acc low3_w8)
  case aclr c d =>
    injection h with h; injection h with h1 h2; subst h1; subst h2
    refine named_append (named_append ?_ named_nil) named_nil
    unfold mSlot; refine named_ite named_nil ?_
    exact named_one List.mem_cons_self (same_acc low3_w8)
  case amov c d a =>
    injection h with h; injection h with h1 h2; subst h1; subst h2
    refine named_append (named_append ?_ named_nil) named_nil
    unfold mSlot; refine named_ite named_nil ?_
    exact named_one List.mem_cons_self (same_acc low3_w8)
  case aadd c d a =>
    injection h with h; injection h with h1 h2; subst h1; subst h2
    refine named_append (named_append ?_ named_nil) named_nil
    unfold mSlot; refine named_ite named_nil ?_
    exact named_one List.mem_cons_self (same_acc low3_w8)
  case aldv c d a sh =>
    injection h with h; injection h with h1 h2; subst h1; subst h2
    refine named_append (named_append ?_ named_nil) named_nil
    unfold mSlot; refine named_ite named_nil ?_
    exact named_one List.mem_cons_self (same_acc low3_w8)
  case cvt c d a sh =>
    injection h with h; injection h with h1 h2; subst h1; subst h2
    refine named_append (named_append ?_ named_nil) named_nil
    unfold mSlot; refine named_ite named_nil ?_
    exact named_one List.mem_cons_self same_v
  case anorm c d b imm =>
    injection h with h; injection h with h1 h2; subst h1; subst h2
    refine named_append (named_append ?_ named_nil) named_nil
    unfold mSlot; refine named_ite named_nil ?_
    cases hn : normCount k.fg ⟨11, w8 d, 0, w8 b, 0, imm⟩
    · simp only [hn]; exact named_nil
    · simp only [hn]
      exact named_one List.mem_cons_self (same_acc low3_w8)
  case aexp c d a =>
    injection h with h; injection h with h1 h2; subst h1; subst h2
    refine named_append (named_append ?_ named_nil) named_nil
    unfold mSlot; refine named_ite named_nil ?_
    exact named_one List.mem_cons_self same_v
  case aexpm c d a =>
    injection h with h; injection h with h1 h2; subst h1; subst h2
    refine named_append (named_append ?_ named_nil) named_nil
    unfold mSlot; refine named_ite named_nil ?_
    exact named_one List.mem_cons_self (same_s low3_w8)
  case vadd c d a b =>
    injection h with h; injection h with h1 h2; subst h1; subst h2
    refine named_append (named_append ?_ named_nil) named_nil
    unfold mSlot; refine named_ite named_nil ?_
    exact named_one List.mem_cons_self same_v
  case vsub c d a b =>
    injection h with h; injection h with h1 h2; subst h1; subst h2
    refine named_append (named_append ?_ named_nil) named_nil
    unfold mSlot; refine named_ite named_nil ?_
    exact named_one List.mem_cons_self same_v
  case vneg c d a =>
    injection h with h; injection h with h1 h2; subst h1; subst h2
    refine named_append (named_append ?_ named_nil) named_nil
    unfold mSlot; refine named_ite named_nil ?_
    exact named_one List.mem_cons_self same_v
  case vabs c d a =>
    injection h with h; injection h with h1 h2; subst h1; subst h2
    refine named_append (named_append ?_ named_nil) named_nil
    unfold mSlot; refine named_ite named_nil ?_
    exact named_one List.mem_cons_self same_v
  case vmin c d a b =>
    injection h with h; injection h with h1 h2; subst h1; subst h2
    refine named_append (named_append ?_ named_nil) named_nil
    unfold mSlot; refine named_ite named_nil ?_
    exact named_one List.mem_cons_self same_v
  case vmax c d a b =>
    injection h with h; injection h with h1 h2; subst h1; subst h2
    refine named_append (named_append ?_ named_nil) named_nil
    unfold mSlot; refine named_ite named_nil ?_
    exact named_one List.mem_cons_self same_v
  case vand c d a b =>
    injection h with h; injection h with h1 h2; subst h1; subst h2
    refine named_append (named_append ?_ named_nil) named_nil
    unfold mSlot; refine named_ite named_nil ?_
    exact named_one List.mem_cons_self same_v
  case vor c d a b =>
    injection h with h; injection h with h1 h2; subst h1; subst h2
    refine named_append (named_append ?_ named_nil) named_nil
    unfold mSlot; refine named_ite named_nil ?_
    exact named_one List.mem_cons_self same_v
  case vxor c d a b =>
    injection h with h; injection h with h1 h2; subst h1; subst h2
    refine named_append (named_append ?_ named_nil) named_nil
    unfold mSlot; refine named_ite named_nil ?_
    exact named_one List.mem_cons_self same_v
  case vmov c d a =>
    injection h with h; injection h with h1 h2; subst h1; subst h2
    refine named_append (named_append ?_ named_nil) named_nil
    unfold mSlot; refine named_ite named_nil ?_
    exact named_one List.mem_cons_self same_v
  case vspl c d a =>
    injection h with h; injection h with h1 h2; subst h1; subst h2
    refine named_append (named_append ?_ named_nil) named_nil
    unfold mSlot; refine named_ite named_nil ?_
    exact named_one List.mem_cons_self same_v
  case vmul c d a b sh =>
    injection h with h; injection h with h1 h2; subst h1; subst h2
    refine named_append (named_append ?_ named_nil) named_nil
    unfold mSlot; refine named_ite named_nil ?_
    exact named_one List.mem_cons_self same_v
  case norm c d a b imm =>
    injection h with h; injection h with h1 h2; subst h1; subst h2
    refine named_append (named_append ?_ named_nil) named_nil
    unfold mSlot; refine named_ite named_nil ?_
    cases hn : normCount k.fg ⟨28, d, a, w8 b, 0, imm⟩
    · simp only [hn]; exact named_nil
    · simp only [hn]
      exact named_one List.mem_cons_self same_v
  case exp c d a =>
    injection h with h; injection h with h1 h2; subst h1; subst h2
    refine named_append (named_append ?_ named_nil) named_nil
    unfold mSlot; refine named_ite named_nil ?_
    exact named_one List.mem_cons_self same_v
  case expm c d a =>
    injection h with h; injection h with h1 h2; subst h1; subst h2
    refine named_append (named_append ?_ named_nil) named_nil
    unfold mSlot; refine named_ite named_nil ?_
    exact named_one List.mem_cons_self (same_s low3_w8)
  case vcmplt c a b =>
    injection h with h; injection h with h1 h2; subst h1; subst h2
    refine named_append (named_append ?_ named_nil) named_nil
    unfold mSlot; refine named_ite named_nil ?_
    exact named_nil
  case vcmple c a b =>
    injection h with h; injection h with h1 h2; subst h1; subst h2
    refine named_append (named_append ?_ named_nil) named_nil
    unfold mSlot; refine named_ite named_nil ?_
    exact named_nil
  case vcmpeq c a b =>
    injection h with h; injection h with h1 h2; subst h1; subst h2
    refine named_append (named_append ?_ named_nil) named_nil
    unfold mSlot; refine named_ite named_nil ?_
    exact named_nil
  case vsel c d a b =>
    injection h with h; injection h with h1 h2; subst h1; subst h2
    refine named_append (named_append ?_ named_nil) named_nil
    unfold mSlot; refine named_ite named_nil ?_
    exact named_one List.mem_cons_self same_v
  case sadd c d a b =>
    injection h with h; injection h with h1 h2; subst h1; subst h2
    refine named_append (named_append ?_ named_nil) named_nil
    unfold mSlot; refine named_ite named_nil ?_
    exact named_one List.mem_cons_self (same_s low3_w8)
  case ssub c d a b =>
    injection h with h; injection h with h1 h2; subst h1; subst h2
    refine named_append (named_append ?_ named_nil) named_nil
    unfold mSlot; refine named_ite named_nil ?_
    exact named_one List.mem_cons_self (same_s low3_w8)
  case saddi c d a imm =>
    injection h with h; injection h with h1 h2; subst h1; subst h2
    refine named_append (named_append ?_ named_nil) named_nil
    unfold mSlot; refine named_ite named_nil ?_
    exact named_one List.mem_cons_self (same_s low3_w8)
  case sand c d a b =>
    injection h with h; injection h with h1 h2; subst h1; subst h2
    refine named_append (named_append ?_ named_nil) named_nil
    unfold mSlot; refine named_ite named_nil ?_
    exact named_one List.mem_cons_self (same_s low3_w8)
  case sor c d a b =>
    injection h with h; injection h with h1 h2; subst h1; subst h2
    refine named_append (named_append ?_ named_nil) named_nil
    unfold mSlot; refine named_ite named_nil ?_
    exact named_one List.mem_cons_self (same_s low3_w8)
  case sshl c d a n =>
    injection h with h; injection h with h1 h2; subst h1; subst h2
    refine named_append (named_append ?_ named_nil) named_nil
    unfold mSlot; refine named_ite named_nil ?_
    exact named_one List.mem_cons_self (same_s low3_w8)
  case sshr c d a n =>
    injection h with h; injection h with h1 h2; subst h1; subst h2
    refine named_append (named_append ?_ named_nil) named_nil
    unfold mSlot; refine named_ite named_nil ?_
    exact named_one List.mem_cons_self (same_s low3_w8)
  case smul c d a b =>
    injection h with h; injection h with h1 h2; subst h1; subst h2
    refine named_append (named_append ?_ named_nil) named_nil
    unfold mSlot; refine named_ite named_nil ?_
    exact named_one List.mem_cons_self (same_s low3_w8)
  case scmplt c a b =>
    injection h with h; injection h with h1 h2; subst h1; subst h2
    refine named_append (named_append ?_ named_nil) named_nil
    unfold mSlot; refine named_ite named_nil ?_
    exact named_nil
  case anop c =>
    injection h with h; injection h with h1 h2; subst h1; subst h2
    refine named_append (named_append named_nil ?_) named_nil
    exact named_nil
  case ldv c r p am =>
    injection h with h; injection h with h1 h2; subst h1; subst h2
    refine named_append (named_append named_nil ?_) named_nil
    unfold aSlot; dsimp only
    exact named_ptr List.mem_cons_self
  case stv c r p am =>
    injection h with h; injection h with h1 h2; subst h1; subst h2
    refine named_append (named_append named_nil ?_) named_nil
    unfold aSlot; dsimp only
    exact named_ptr List.mem_cons_self
  case ldb c r p am =>
    injection h with h; injection h with h1 h2; subst h1; subst h2
    refine named_append (named_append named_nil ?_) named_nil
    unfold aSlot; dsimp only
    exact named_ptr List.mem_cons_self
  case lds c r p am =>
    injection h with h; injection h with h1 h2; subst h1; subst h2
    refine named_append (named_append named_nil ?_) named_nil
    unfold aSlot; dsimp only
    refine named_ite_a ?_ named_nil
    exact named_ptr List.mem_cons_self
  case sts c r p am =>
    injection h with h; injection h with h1 h2; subst h1; subst h2
    refine named_append (named_append named_nil ?_) named_nil
    unfold aSlot; dsimp only
    refine named_ite_a ?_ named_nil
    exact named_ptr List.mem_cons_self
  case stc c r p am sh =>
    injection h with h; injection h with h1 h2; subst h1; subst h2
    refine named_append (named_append named_nil ?_) named_nil
    unfold aSlot; dsimp only
    refine named_ite_a ?_ named_nil
    exact named_ptr List.mem_cons_self
  case ldap c r part p am =>
    injection h with h; injection h with h1 h2; subst h1; subst h2
    refine named_append (named_append named_nil ?_) named_nil
    unfold aSlot; dsimp only
    refine named_ite_a ?_ named_nil
    exact named_ptr List.mem_cons_self
  case stap c r part p am =>
    injection h with h; injection h with h1 h2; subst h1; subst h2
    refine named_append (named_append named_nil ?_) named_nil
    unfold aSlot; dsimp only
    refine named_ite_a ?_ named_nil
    exact named_ptr List.mem_cons_self
  case ldv2 c ra pa am rb pb ub =>
    injection h with h; injection h with h1 h2; subst h1; subst h2
    refine named_append (named_append named_nil ?_) named_nil
    unfold aSlot; dsimp only; refine named_ite_a named_nil ?_
    dsimp only [pb_val.1]
    rw [pb_val.1]
    exact named_append (named_ptr List.mem_cons_self) (named_ptr (List.mem_cons_of_mem _ List.mem_cons_self))
  case ldvb c ra pa am rb pb ub =>
    injection h with h; injection h with h1 h2; subst h1; subst h2
    refine named_append (named_append named_nil ?_) named_nil
    unfold aSlot; dsimp only; refine named_ite_a named_nil ?_
    dsimp only [pb_val.1]
    rw [pb_val.1]
    exact named_append (named_ptr List.mem_cons_self) (named_ptr (List.mem_cons_of_mem _ List.mem_cons_self))
  case ldst c ra pa am rb pb ub =>
    injection h with h; injection h with h1 h2; subst h1; subst h2
    refine named_append (named_append named_nil ?_) named_nil
    unfold aSlot; dsimp only; refine named_ite_a named_nil ?_
    dsimp only [pb_val.1]
    rw [pb_val.1]
    exact named_append (named_ptr List.mem_cons_self) (named_ptr (List.mem_cons_of_mem _ List.mem_cons_self))
  case aupd c p am =>
    injection h with h; injection h with h1 h2; subst h1; subst h2
    refine named_append (named_append named_nil ?_) named_nil
    unfold aSlot; dsimp only
    refine named_ite_a ?_ named_nil
    exact named_ptr List.mem_cons_self
  case setm c m imm =>
    injection h with h; injection h with h1 h2; subst h1; subst h2
    refine named_append (named_append named_nil ?_) named_nil
    unfold aSlot; dsimp only
    exact named_one List.mem_cons_self same_m
  case mvp c p r =>
    injection h with h; injection h with h1 h2; subst h1; subst h2
    refine named_append (named_append named_nil ?_) named_nil
    unfold aSlot; dsimp only
    refine named_ite_a ?_ named_nil
    exact named_one List.mem_cons_self same_p
  case mvm c m r =>
    injection h with h; injection h with h1 h2; subst h1; subst h2
    refine named_append (named_append named_nil ?_) named_nil
    unfold aSlot; dsimp only
    refine named_ite_a ?_ named_nil
    exact named_one List.mem_cons_self same_m
  case mvl c l r =>
    injection h with h; injection h with h1 h2; subst h1; subst h2
    refine named_append (named_append named_nil ?_) named_nil
    unfold aSlot; dsimp only
    refine named_ite_a ?_ named_nil
    exact named_one List.mem_cons_self same_l
  case mvb c b r =>
    injection h with h; injection h with h1 h2; subst h1; subst h2
    refine named_append (named_append named_nil ?_) named_nil
    unfold aSlot; dsimp only
    refine named_ite_a ?_ named_nil
    exact named_one List.mem_cons_self same_b
  case rdp c r p =>
    injection h with h; injection h with h1 h2; subst h1; subst h2
    refine named_append (named_append named_nil ?_) named_nil
    unfold aSlot; dsimp only
    refine named_ite_a ?_ named_nil
    exact named_one List.mem_cons_self (same_s low3_w8)
  case paddi c p imm =>
    injection h with h; injection h with h1 h2; subst h1; subst h2
    refine named_append (named_append named_nil ?_) named_nil
    unfold aSlot; dsimp only
    exact named_one List.mem_cons_self same_p
  case cnop c =>
    injection h with h; injection h with h1 h2; subst h1; subst h2
    refine named_append (named_append named_nil named_nil) ?_
    exact named_nil
  case swapEnd c =>
    injection h with h; injection h with h1 h2; subst h1; subst h2
    exact absurd he (by decide)
  case br c rel =>
    injection h with h; injection h with h1 h2; subst h1; subst h2
    refine named_append (named_append named_nil named_nil) ?_
    unfold cSlot; dsimp only; (try unfold branchTo); repeat' (first | exact named_nil | refine named_ite_c ?_ ?_)
  case brc c cond rel =>
    injection h with h; injection h with h1 h2; subst h1; subst h2
    refine named_append (named_append named_nil named_nil) ?_
    unfold cSlot; dsimp only; (try unfold branchTo); repeat' (first | exact named_nil | refine named_ite_c ?_ ?_)
  case loop c k n =>
    injection h with h; injection h with h1 h2; subst h1; subst h2
    refine named_append (named_append named_nil named_nil) ?_
    unfold cSlot; dsimp only; (try unfold branchTo); repeat' (first | exact named_nil | refine named_ite_c ?_ ?_)
  case setlc c k imm =>
    injection h with h; injection h with h1 h2; subst h1; subst h2
    refine named_append (named_append named_nil named_nil) ?_
    unfold cSlot; dsimp only; (try unfold branchTo); repeat' (first | exact named_nil | refine named_ite_c ?_ ?_)
  case mvlc c k a =>
    injection h with h; injection h with h1 h2; subst h1; subst h2
    refine named_append (named_append named_nil named_nil) ?_
    unfold cSlot; dsimp only; (try unfold branchTo); repeat' (first | exact named_nil | refine named_ite_c ?_ ?_)
  case smov c d a =>
    injection h with h; injection h with h1 h2; subst h1; subst h2
    refine named_append (named_append named_nil named_nil) ?_
    rw [cSlot_smov]; exact named_one List.mem_cons_self same_s'
  case sldi c d imm =>
    injection h with h; injection h with h1 h2; subst h1; subst h2
    refine named_append (named_append named_nil named_nil) ?_
    rw [cSlot_sldi]; exact named_one List.mem_cons_self same_s'
  case vext c d a l =>
    injection h with h; injection h with h1 h2; subst h1; subst h2
    refine named_append (named_append named_nil named_nil) ?_
    rw [cSlot_vext]; exact named_one List.mem_cons_self same_s'
  case vins c a l d =>
    injection h with h; injection h with h1 h2; subst h1; subst h2
    refine named_append (named_append named_nil named_nil) ?_
    rw [cSlot_vins]; exact named_one List.mem_cons_self same_v
  case rdcs c d =>
    injection h with h; injection h with h1 h2; subst h1; subst h2
    refine named_append (named_append named_nil named_nil) ?_
    rw [cSlot_rdcs]; exact named_one List.mem_cons_self same_s'
  all_goals exact nomatch h

theorem cSlot_taken {i : Instr} {b : Bundle} {k : Cluster} {p : Bool} (h : slotBundle i = some (c, b)) (ht : (cSlot k b.c).ctl.taken = true) :
    (aSlot k p b.a).loads = [] := by
  cases i
  all_goals first
    | (injection h with h; injection h with h1 h2; subst h1; subst h2; first | rfl | exact Bool.noConfusion (show false = true from ht))
    | exact nomatch h

theorem normCount_none {k : RegSet} {f : MSlot} {b : Fin 8} (hb : f.b = w8 b) (h : f.imm.toInt < -31 ∧ f.imm.toInt ≠ -64 ∨ 31 < f.imm.toInt ∨ f.imm.toInt = -64 ∧ (k.s[b].toInt < -31 ∨ 31 < k.s[b].toInt)) :
    normCount k f = none := by
  unfold normCount
  extract_lets i
  have hi : i = f.imm.toInt := rfl
  rw [if_neg (by omega)]
  split
  · have hlt : f.b.val < 8 := by rw [hb]; exact b.isLt
    rw [dif_pos hlt]
    have e : (k.s[f.b.val]'hlt).toInt = k.s[b].toInt := by
      have : f.b.val = b.val := by rw [hb]; rfl
      simp only [this]; rfl
    simp only [e]
    rw [if_neg (by omega)]
  · rfl

theorem addr_illegal {op : Nat} (hop : op = 9 ∨ op = 10 ∨ op = 11) {k : Cluster} {p : Bool} {pa : Fin 8} {ra rb : Fin 16} {am : Fin 4} {ub : Bool} :
    (aSlot k p ⟨op, pa, ra, am, BitVec.ofNat 8 (32 * pa.val + 2 * rb.val + ub.toNat)⟩) = .bad := by
  have hpb : (ASlot.pb ⟨op, pa, ra, am, BitVec.ofNat 8 (32 * pa.val + 2 * rb.val + ub.toNat)⟩) = pa := by
    apply Fin.ext
    have : ub.toNat ≤ 1 := Bool.toNat_le ub
    simp [ASlot.pb]; omega
  unfold aSlot
  extract_lets r8 regS xa aa la dual
  have e : ∀ n, dual n = .bad := by
    intro n
    show (if _ then _ else _) = _
    rw [if_pos hpb.symm]
  rcases hop with rfl | rfl | rfl <;> exact e _

theorem dualBundle_illegal {k : Cluster} {op : Nat} (hop : op = 9 ∨ op = 10 ∨ op = 11) {pa : Fin 8} {ra rb : Fin 16} {am : Fin 4} {ub : Bool} :
   let b : Bundle := ⟨.nop, ⟨op, pa, ra, am, BitVec.ofNat 8 (32 * pa.val + 2 * rb.val + ub.toNat)⟩, .nop⟩
   ((mSlot k.fg k.cstat b.m).illegal || (aSlot k (!b.isEnd) b.a).illegal || (cSlot k b.c).illegal) = true := by
  intro b
  rw [show aSlot k (!b.isEnd) b.a = .bad from addr_illegal hop]; rfl

theorem lcIndex_eq {j : Fin 2} {n : Nat} {w : BitVec 10} (hn : n < 512) (h : w.toNat = 512 * j.val + n) : lcIndex w = j := by
  unfold lcIndex
  rw [h, bitOf]
  rcases j with ⟨_ | _ | j, hj⟩
  · have : ((512 * 0 + n) / 2 ^ 9 % 2 == 1) = false := by simp; omega
    simp only [this]; rfl
  · have : ((512 * 1 + n) / 2 ^ 9 % 2 == 1) = true := by simp; omega
    simp only [this]; rfl
  · omega

theorem branchTo_bad {k : Cluster} {rel : Int} (h : rel = 0 ∨ atBodyEnd k = true ∨ (k.pc + rel : Int) < codeBase k ∨ (codeEnd k : Int) ≤ k.pc + rel) :
    branchTo k rel = .bad := by
  unfold branchTo; exact if_pos h


end Sys2Proof.Machine
end

