-- ==== Sys2Proof/Laws/SlotAccess.lean ====
section
/-!
SUPPORT. The A slot's accesses to data memory (R190, R195, R201, R222, R223, R227): what a load brings at its return, and which bytes a store
changes.
-/
set_option Elab.async false
set_option linter.all false
namespace Sys2Proof.Machine

variable {s : State} {c : Fin 16}

theorem noLoad_of {k : Cluster} {w w' : RegWrite} (e : ∀ y, w'.same y = w.same y) (h : k.noLoad w = true) {x} (hx : x ∈ k.loads) : w'.same x = false := by
  rw [e]; exact mem_noLoad h hx

/-- A load whose access lies in the windows (R201, R227). -/
theorem singleLoad_ok {k : Cluster} {f : ASlot} {e : Nat} {ld : Nat → List RegWrite} (hw : inWindow k ((addressOf k f.pn f.am e).addr / e * e) e false = true) :
    (singleLoad k f e true ld).win = none ∧ (singleLoad k f e true ld).loads = ld ((addressOf k f.pn f.am e).addr / e * e) ∧
    (singleLoad k f e true ld).illegal = false ∧ (singleLoad k f e true ld).stores = [] ∧
    (singleLoad k f e true ld).writes = ptrWrite f.pn (addressOf k f.pn f.am e) := by
  simp [singleLoad, accessAt, hw]

theorem singleStore_ok {k : Cluster} {f : ASlot} {e sat : Nat} {st : Nat → List (Nat × Word)} (hw : inWindow k ((addressOf k f.pn f.am e).addr / e * e) e true = true) :
    (singleStore k f e st sat).win = none ∧ (singleStore k f e st sat).stores = st ((addressOf k f.pn f.am e).addr / e * e) ∧
    (singleStore k f e st sat).illegal = false ∧ (singleStore k f e st sat).loads = [] ∧
    (singleStore k f e st sat).writes = ptrWrite f.pn (addressOf k f.pn f.am e) := by
  simp [singleStore, accessAt, hw]

theorem loadReturn_cluster : (s.loadReturn c).clusters[c] = s.clusters[c].writeback := cluster_set

/-- The registers after an A-slot operation, and the loads it leaves on their way. -/
theorem aOp_loads {op : Nat} {pn : Fin 8} {reg : Fin 16} {am : Fin 4} {imm : BitVec 8} {r : ARes} (h : s.clusters[c].spent = false)
    (hr : aSlot s.clusters[c] true ⟨op, pn, reg, am, imm⟩ = r) (hi : r.illegal = false) (hw : r.win = none) :
    (s.aOp c op pn reg am imm).clusters[c].fg = (s.clusters[c].putAll (s.clusters[c].loads ++ r.writes)).fg ∧
    (s.aOp c op pn reg am imm).clusters[c].loads = r.loads := by
  constructor
  · rw [aOp_fg h hr hi hw]
    have g := storeAll_regs (c := { s.clusters[c] with cstat := statAfter s.clusters[c] .none r }) (l := r.stores)
    refine (putAll_regs (d := s.clusters[c]) ⟨?_, ?_, ?_⟩).1
    · exact g.1
    · exact g.2.1
    · exact g.2.2.1
  · rw [aOp_cluster h hr hi hw]

theorem ptr_ne {p : Fin 8} {x : Addressed} {w : RegWrite} (hw : ∀ q, w.same (.p p q) = false) : ∀ y ∈ ptrWrite p x, w.same y = false := fun y hy => by
  unfold ptrWrite at hy
  split at hy
  · rw [List.mem_singleton.1 hy]; exact hw _
  · exact absurd hy List.not_mem_nil

theorem writeback_one {k : Cluster} {w : RegWrite} (h : k.loads = [w]) : k.writeback.fg = (k.put w).fg := by
  unfold Cluster.writeback Cluster.putAll
  rw [h]; rfl

/-- A single load, from its bundle to its return. -/
theorem Loads.of_single {i : Instr} {op : Nat} {pn : Fin 8} {reg : Fin 16} {am : Fin 4} {imm : BitVec 8} {r : ARes} {w : RegWrite} {P : Cluster → Cluster → Prop}
    (hx : exec i s = .next (s.aOp c op pn reg am imm)) (h : s.clusters[c].spent = false)
    (hr : aSlot s.clusters[c] true ⟨op, pn, reg, am, imm⟩ = r) (hi : r.illegal = false) (hw : r.win = none) (hl : r.loads = [w])
    (hp : ∀ t u : Cluster, t.fg = (s.clusters[c].putAll (s.clusters[c].loads ++ r.writes)).fg → u.fg = (t.put w).fg → P t u) : Loads i s c P := by
  obtain ⟨h1, h2⟩ := aOp_loads h hr hi hw
  refine ⟨_, _, hx, rfl, hp _ _ h1 ?_⟩
  rw [loadReturn_cluster]
  exact writeback_one (h2.trans hl)

theorem before_v {k : Cluster} {r : Fin 16} {p : Fin 8} {x : Addressed} (h : k.noLoad (.v r (.replicate 4 0)) = true) :
    (k.putAll (k.loads ++ ptrWrite p x)).fg.v[r] = k.fg.v[r] := by
  refine putAll_v_ne (q := .replicate 4 0) fun y hy => ?_
  rcases List.mem_append.1 hy with z | z
  · exact mem_noLoad h z
  · exact ptr_ne (fun _ => rfl) y z
theorem before_s {k : Cluster} {r : Fin 8} {p : Fin 8} {x : Addressed} (h : k.noLoad (.s r 0) = true) :
    (k.putAll (k.loads ++ ptrWrite p x)).fg.s[r] = k.fg.s[r] := by
  refine putAll_s_ne (q := 0) fun y hy => ?_
  rcases List.mem_append.1 hy with z | z
  · exact mem_noLoad h z
  · exact ptr_ne (fun _ => rfl) y z
theorem before_acc {k : Cluster} {r : Fin 8} {p : Fin 8} {x : Addressed} (h : k.noLoad (.acc r (.replicate 4 0)) = true) :
    (k.putAll (k.loads ++ ptrWrite p x)).fg.acc[r] = k.fg.acc[r] := by
  refine putAll_acc_ne (q := .replicate 4 0) fun y hy => ?_
  rcases List.mem_append.1 hy with z | z
  · exact mem_noLoad h z
  · exact ptr_ne (fun _ => rfl) y z

theorem accPart_bit {q : AccQuad} {n : Nat} {w : Quad} {l : Fin 4} {j : Nat} (hn : n < 3) (hj : j < 72) :
    (putAccPart q n w)[l].getLsbD j = if j / 32 = n then w[l].getLsbD (j % 32) else q[l].getLsbD j := by
  rw [putAccPart, lanes_getElem]
  have h3 : n = 0 ∨ n = 1 ∨ n = 2 := by omega
  rcases h3 with rfl | rfl | rfl
  · rw [if_pos rfl, BitVec.getLsbD_append]
    by_cases hb : j < 32
    · have e1 : j / 32 = 0 := by omega
      have e2 : j % 32 = j := by omega
      simp [hb, e1, e2]
    · have e1 : j / 32 ≠ 0 := by omega
      have e2 : j - 32 < 40 := by omega
      have e3 : 32 + (j - 32) = j := by omega
      simp [hb, e1, e2, e3]
  · rw [if_neg (by decide), if_pos rfl, BitVec.getLsbD_setWidth, BitVec.getLsbD_append, BitVec.getLsbD_append]
    by_cases hb : j < 32
    · have e1 : j / 32 ≠ 1 := by omega
      simp [hb, hj, e1]
    · by_cases hc : j < 64
      · have e1 : j / 32 = 1 := by omega
        have e2 : j % 32 = j - 32 := by omega
        have e3 : j - 32 < 32 := by omega
        simp [hb, hj, e1, e2, e3]
      · have e1 : j / 32 ≠ 1 := by omega
        have e2 : ¬ j - 32 < 32 := by omega
        have e3 : j - 32 - 32 < 8 := by omega
        have e4 : 64 + (j - 32 - 32) = j := by omega
        simp [hb, hj, e1, e2, e3, e4]
  · rw [if_neg (by decide), if_neg (by decide), BitVec.getLsbD_setWidth, BitVec.getLsbD_append]
    by_cases hc : j < 64
    · have e1 : j / 32 ≠ 2 := by omega
      simp [hc, hj, e1]
    · have e1 : j / 32 = 2 := by omega
      have e2 : j % 32 = j - 64 := by omega
      have e3 : j - 64 < 8 := by omega
      simp [hc, hj, e1, e2, e3]

theorem loadPut_v {k : Cluster} {d : Fin 16} {q : Quad} : (k.put (.v d q)).fg.v[d] = q := put_v_same
theorem dual_ok {op : Nat} (hop : op = 9 ∨ op = 10 ∨ op = 11) {k : Cluster} {pa pb : Fin 8} {ra rb : Fin 16} {am : Fin 4} {ub : Bool} (hp : pa ≠ pb)
    (ha : inWindow k ((addressOf k pa am 16).addr / 16 * 16) 16 false = true)
    (hb : inWindow k ((addressOf k pb (if ub then 1 else 0) (if op = 10 then 4 else 16)).addr / (if op = 10 then 4 else 16) * (if op = 10 then 4 else 16)) (if op = 10 then 4 else 16) (op == 11) = true) :
    let r := aSlot k true ⟨op, pa, ra, am, BitVec.ofNat 8 (32 * pb.val + 2 * rb.val + ub.toNat)⟩
    let a := (addressOf k pa am 16).addr / 16 * 16
    let b := (addressOf k pb (if ub then 1 else 0) (if op = 10 then 4 else 16)).addr / (if op = 10 then 4 else 16) * (if op = 10 then 4 else 16)
    let la : List RegWrite := [.v ra (k.quad a)]
    let lb : List RegWrite := if op = 9 then [.v rb (k.quad b)] else if op = 10 then [.v rb (lanes fun _ => k.word b)] else []
    r.illegal = false ∧ r.win = none ∧ r.loads = (if ra = rb ∧ Config.loadTie op (BitVec.ofNat 8 (32 * pb.val + 2 * rb.val + ub.toNat)).toNat then lb ++ la else la ++ lb) ∧
    r.stores = (if op = 11 then quadStores k.fg.v[rb] b else []) ∧
    r.writes = ptrWrite pa (addressOf k pa am 16) ++ ptrWrite pb (addressOf k pb (if ub then 1 else 0) (if op = 10 then 4 else 16)) := by
  obtain ⟨e1, e2, e3⟩ := @pb_val pb rb ub op pa ra am
  rcases hop with rfl | rfl | rfl
  all_goals
    unfold aSlot
    simp only [e1, e2, e3, if_neg hp, accessAt, ha, hb]
    simp [ha]
    try (simp at hb; simp [hb])


theorem writeback_two {k : Cluster} {a b : Fin 16} {A B : Quad} (h : k.loads = [.v a A, .v b B]) :
    k.writeback.fg.v[a] = A ∧ (a ≠ b → k.writeback.fg.v[b] = B) := by
  have e : k.writeback.fg = (k.putAll [.v a A, .v b B]).fg := by unfold Cluster.writeback; rw [h]
  by_cases hab : b = a
  · have e2 : k.putAll [.v a A, .v b B] = k.put (.v a A) := by
      unfold Cluster.putAll; simp [standing, RegWrite.same, hab]
    rw [e, e2]
    exact ⟨put_v_same, fun z => absurd hab.symm z⟩
  · have e2 : k.putAll [.v a A, .v b B] = (k.put (.v a A)).put (.v b B) := by
      unfold Cluster.putAll; simp [standing, RegWrite.same, hab]
    rw [e, e2]
    refine ⟨?_, fun _ => put_v_same⟩
    rw [put_v_ne (q := A) (by simp [RegWrite.same]; exact fun z => hab z.symm)]
    exact put_v_same

theorem dual_loads {t u : State} {ra rb : Fin 16} {A B : Quad} {tie : Prop} [Decidable tie] (hu : u.clusters[c] = t.clusters[c].writeback)
    (hl : t.clusters[c].loads = (if ra = rb ∧ tie then [RegWrite.v rb B] ++ [.v ra A] else [.v ra A] ++ [.v rb B])) {X Y : Fin 4 → Word}
    (hA : ∀ l : Fin 4, A[l] = X l) (hB : ∀ l : Fin 4, B[l] = Y l) :
    OneOrBoth (ra = rb) (∀ l : Fin 4, u.clusters[c].fg.v[ra][l] = X l) (∀ l : Fin 4, u.clusters[c].fg.v[rb][l] = Y l) := by
  rw [hu]
  constructor
  · intro e
    by_cases ht : tie
    · rw [if_pos ⟨e, ht⟩] at hl
      exact .inr fun l => by rw [(writeback_two hl).1]; exact hB l
    · rw [if_neg (fun z => ht z.2)] at hl
      exact .inl fun l => by rw [(writeback_two hl).1]; exact hA l
  · intro e
    rw [if_neg (fun z => e z.1)] at hl
    obtain ⟨p, q⟩ := writeback_two hl
    exact ⟨fun l => by rw [p]; exact hA l, fun l => by rw [q e]; exact hB l⟩


theorem word_of_bytes (w : Word) : BitVec.ofNat 32 (leNat [w.extractLsb' 0 8, w.extractLsb' 8 8, w.extractLsb' 16 8, w.extractLsb' 24 8]) = w := by
  apply BitVec.eq_of_toNat_eq
  have := w.isLt
  simp [leNat, BitVec.extractLsb'_toNat, Nat.shiftRight_eq_div_pow]
  omega

theorem setWord_byte_ne {k : Cluster} {a x : Nat} {w : Word} (h : x < a ∨ a + 4 ≤ x) : (k.setWord a w).byte x = k.byte x := by
  unfold Cluster.setWord Cluster.byte
  dsimp only
  rw [Sparse.get_set_ne (by omega), Sparse.get_set_ne (by omega), Sparse.get_set_ne (by omega), Sparse.get_set_ne (by omega)]

theorem noDouble_setWord {k : Cluster} {a : Nat} {w : Word} (h : k.canonical = true) (hk : k.noDouble) : (k.setWord a w).noDouble := fun x => by
  have hf := (canonical_iff.1 h).2.2.2.2
  show Sparse.get 0 (Sparse.set 0 k.flips (a / 65536) 0) x ≠ 2
  by_cases e : x = a / 65536
  · rw [e, Sparse.get_set_same (d' := fun _ => 0) hf]; decide
  · rw [Sparse.get_set_ne e]; exact hk x

theorem setWord_word_same {k : Cluster} {a : Nat} {w : Word} (h : k.canonical = true) (hk : k.noDouble) : (k.setWord a w).word a = w := by
  have hm := (canonical_iff.1 h).1
  have w0 : ∀ {m : Mem} {j : Nat} {v : Byte}, Sparse.wf (fun _ => (0 : Byte)) m = true → Sparse.wf (fun _ => (0 : Byte)) (Sparse.set 0 m j v) = true :=
    fun z => Sparse.wf_set (d := fun _ => (0 : Byte)) z
  have g : ∀ {m : Mem} {j : Nat} {v : Byte}, Sparse.wf (fun _ => (0 : Byte)) m = true → Sparse.get 0 (Sparse.set 0 m j v) j = v :=
    fun z => Sparse.get_set_same (d' := fun _ => (0 : Byte)) z
  have gb : Sparse.get 0 (Sparse.set 0 k.memBad a (Sparse.get 0 k.flips (a / 65536))) a = Sparse.get 0 k.flips (a / 65536) :=
    Sparse.get_set_same (d' := fun _ => 0) (canonical_iff.1 h).2.2.1
  unfold Cluster.word Cluster.byte Cluster.setWord
  dsimp only
  rw [gb, if_neg (hk _)]
  rw [Sparse.get_set_ne (by omega), Sparse.get_set_ne (by omega), Sparse.get_set_ne (by omega), g hm]
  rw [Sparse.get_set_ne (by omega), Sparse.get_set_ne (by omega), g (w0 hm)]
  rw [Sparse.get_set_ne (by omega), g (w0 (w0 hm)), g (w0 (w0 (w0 hm)))]
  exact word_of_bytes w

theorem setWord_word_ne {k : Cluster} {a b : Nat} {w : Word} (h : b + 4 ≤ a ∨ a + 4 ≤ b) : (k.setWord a w).word b = k.word b := by
  unfold Cluster.word
  rw [setWord_byte_ne (by omega), setWord_byte_ne (by omega), setWord_byte_ne (by omega), setWord_byte_ne (by omega)]
  have : Sparse.get 0 (k.setWord a w).memBad b = Sparse.get 0 k.memBad b := Sparse.get_set_ne (by omega)
  rw [this]

/-- A vector stored (R190): its four lane words, and nothing else. -/
theorem storeAll_quad {k : Cluster} {a : Nat} {q : Quad} (h : k.canonical = true) (hk : k.noDouble) :
    (∀ l : Nat, ∀ hl : l < 4, (k.storeAll (quadStores q a)).word (a + 4 * l) = q[l]) ∧
    ∀ x, x < a ∨ a + 16 ≤ x → (k.storeAll (quadStores q a)).byte x = k.byte x := by
  have e : k.storeAll (quadStores q a) = (((k.setWord a q[0]).setWord (a + 4) q[1]).setWord (a + 8) q[2]).setWord (a + 12) q[3] := rfl
  rw [e]
  have k1 := noDouble_setWord (a := a) (w := q[0]) h hk
  have h1 := canonical_setWord (a := a) (w := q[0]) h
  have k2 := noDouble_setWord (a := a + 4) (w := q[1]) h1 k1
  have h2 := canonical_setWord (a := a + 4) (w := q[1]) h1
  have k3 := noDouble_setWord (a := a + 8) (w := q[2]) h2 k2
  have h3 := canonical_setWord (a := a + 8) (w := q[2]) h2
  constructor
  · intro l hl
    rcases l with _ | _ | _ | _ | l
    · show Cluster.word _ a = _
      rw [setWord_word_ne (by omega), setWord_word_ne (by omega), setWord_word_ne (by omega), setWord_word_same h hk]
    · show Cluster.word _ (a + 4) = _
      rw [setWord_word_ne (by omega), setWord_word_ne (by omega), setWord_word_same h1 k1]
    · show Cluster.word _ (a + 8) = _
      rw [setWord_word_ne (by omega), setWord_word_same h2 k2]
    · show Cluster.word _ (a + 12) = _
      rw [setWord_word_same h3 k3]
    · omega
  · intro x hx
    rw [setWord_byte_ne (by omega), setWord_byte_ne (by omega), setWord_byte_ne (by omega), setWord_byte_ne (by omega)]

/-- The write back of a corrected bit leaves the double-bit errors (R195). -/
theorem scrubbed_double {k : Cluster} {ev : List ClEvent} {x : Nat} (hw : Sparse.wf (fun _ => 0) k.memBad = true) : Sparse.get 0 (k.scrubbed ev).memBad x = 2 ↔ Sparse.get 0 k.memBad x = 2 := by
  show Sparse.get 0 (ev.foldl _ k.memBad) x = 2 ↔ _
  generalize k.memBad = m at hw
  induction ev generalizing m with
  | nil => exact Iff.rfl
  | cons e l ih =>
    refine (ih _ ?_).trans ?_
    · dsimp only
      split
      · exact wf_ite (Sparse.wf_set (d := fun _ => 0) hw) hw
      · exact hw
    dsimp only
    split
    · rename_i a
      split
      · rename_i h1
        by_cases hx : x = a
        · subst hx
          rw [h1, Sparse.get_set_same (d' := fun _ => 0) hw]; decide
        · rw [Sparse.get_set_ne hx]
      · exact Iff.rfl
    · exact Iff.rfl

theorem aOp_mem {op : Nat} {pn : Fin 8} {reg : Fin 16} {am : Fin 4} {imm : BitVec 8} {r : ARes} (h : s.clusters[c].spent = false)
    (hr : aSlot s.clusters[c] true ⟨op, pn, reg, am, imm⟩ = r) (hi : r.illegal = false) (hw : r.win = none) (hk : s.clusters[c].canonical = true) :
    (s.aOp c op pn reg am imm).clusters[c].mem = (s.clusters[c].storeAll r.stores).mem ∧
    ∀ x, Sparse.get 0 (s.aOp c op pn reg am imm).clusters[c].memBad x = 2 ↔ Sparse.get 0 (s.clusters[c].storeAll r.stores).memBad x = 2 := by
  have key : ∀ (l : List (Nat × Word)) (x y : Cluster), x.mem = y.mem ∧ x.memBad = y.memBad ∧ x.flips = y.flips →
      (x.storeAll l).mem = (y.storeAll l).mem ∧ (x.storeAll l).memBad = (y.storeAll l).memBad ∧ (x.storeAll l).flips = (y.storeAll l).flips := by
    intro l
    unfold Cluster.storeAll
    induction l with
    | nil => exact fun x y a => a
    | cons z l ih => exact fun x y a => ih _ _ ⟨by simp only [Cluster.setWord, a.1], by simp only [Cluster.setWord, a.2.1, a.2.2], by simp only [Cluster.setWord, a.2.2]⟩
  have pb : ∀ (k : Cluster) l, (k.putAll l).memBad = k.memBad := fun k l => putAll_induct (P := fun e => e.memBad = k.memBad) (fun d x _ e => by cases x <;> exact e) rfl
  have ab : ∀ (k : Cluster) x lc, (k.advance x lc).memBad = k.memBad := fun k x lc => by
    unfold Cluster.advance; extract_lets l; clear_value l; cases x <;> first | rfl | (dsimp only; split <;> rfl)
  rw [aOp_cluster h hr hi hw]
  have g := key r.stores { s.clusters[c] with cstat := statAfter s.clusters[c] .none r } s.clusters[c] ⟨rfl, rfl, rfl⟩
  refine ⟨advance_mem.trans (putAll_mem.trans g.1), fun x => ?_⟩
  have hc : Sparse.wf (fun _ => 0) (Cluster.storeAll { s.clusters[c] with cstat := statAfter s.clusters[c] .none r } r.stores).memBad = true :=
    (canonical_iff.1 (canonical_storeAll (l := r.stores) (k := { s.clusters[c] with cstat := statAfter s.clusters[c] .none r }) hk)).2.2.1
  refine (scrubbed_double (x := x) (by rw [ab, pb]; exact hc)).trans ?_
  rw [ab, pb]
  exact iff_of_eq (congrArg (fun m => Sparse.get 0 m x = 2) g.2.1)

theorem byte_congr {a b : Cluster} (h : a.mem = b.mem) (x : Nat) : a.byte x = b.byte x := by unfold Cluster.byte; rw [h]
theorem word_congr {a b : Cluster} (h : a.mem = b.mem) (h' : ∀ x, Sparse.get 0 a.memBad x = 2 ↔ Sparse.get 0 b.memBad x = 2) (x : Nat) : a.word x = b.word x := by
  unfold Cluster.word; simp only [h']; rw [byte_congr h, byte_congr h, byte_congr h, byte_congr h]

theorem Stores.of_quad {i : Instr} {op : Nat} {pn : Fin 8} {reg : Fin 16} {am : Fin 4} {imm : BitVec 8} {r : ARes} {q : Quad} {a : Nat} {w : Nat → Word}
    (hx : exec i s = .next (s.aOp c op pn reg am imm)) (h : s.clusters[c].spent = false) (hk : s.clusters[c].canonical = true) (hn : s.clusters[c].noDouble)
    (hr : aSlot s.clusters[c] true ⟨op, pn, reg, am, imm⟩ = r) (hi : r.illegal = false) (hw : r.win = none) (hs : r.stores = quadStores q a)
    (he : ∀ l (hl : l < 4), q[l] = w l) : Stores i s c a 4 w := by
  obtain ⟨m1, m2⟩ := aOp_mem h hr hi hw hk
  rw [hs] at m1 m2
  obtain ⟨g1, g2⟩ := storeAll_quad (q := q) (a := a) hk hn
  refine ⟨_, hx, fun l hl => ?_, fun x hx => ?_⟩
  · rw [word_congr m1 m2, g1 l hl, he]
  · rw [byte_congr m1, g2 x hx]

/-! Pointer updates (R197, R198, R200). -/

theorem linear_toNat {p : BitVec 19} {m : Int} : ((BitVec.ofInt 19 (p.toNat + m)).toNat : Int) = (p.toNat + m) % 2 ^ 19 := by
  rw [BitVec.toNat_ofInt]
  exact Int.toNat_of_nonneg (Int.emod_nonneg _ (by decide))

theorem base_sub (b : BitVec 19) : (b - b).toNat = 0 := by simp

theorem off_sub {b : BitVec 19} {q : Int} (h0 : 0 ≤ q) (h1 : q < 2 ^ 19) : ((b + BitVec.ofInt 19 q - b).toNat : Int) = q := by
  have : b + BitVec.ofInt 19 q - b = BitVec.ofInt 19 q := by
    rw [BitVec.add_comm, BitVec.add_sub_cancel]
  rw [this, BitVec.toNat_ofInt, Int.toNat_of_nonneg (Int.emod_nonneg _ (by decide))]
  exact Int.emod_eq_of_lt h0 h1

/-- A circular update ends in its buffer (R198). -/
theorem updateLinCirc_in {p l b : BitVec 19} {m : BitVec 20} (h : l ≠ 0) : ((updateLinCirc p l b m).1 - b).toNat < l.toNat := by
  have hl : 0 < l.toNat := by
    apply Nat.pos_of_ne_zero; intro z; exact h (BitVec.eq_of_toNat_eq (by rw [z]; rfl))
  have hlt := l.isLt
  unfold updateLinCirc
  rw [if_neg h]
  extract_lets o o1 q q1
  split
  · simpa using hl
  · split
    · simpa using hl
    · rename_i h1 h2
      have e := @off_sub b q1 (by omega) (by omega)
      show (b + BitVec.ofInt 19 q1 - b).toNat < l.toNat
      omega

/-- A pointer in its buffer with a modifier no longer than it moves by that modifier, modulo the length. -/
theorem updateLinCirc_move {p l b : BitVec 19} {m : BitVec 20} (h : (p - b).toNat < l.toNat) (h1 : -(l.toNat : Int) ≤ m.toInt) (h2 : m.toInt ≤ l.toNat) :
    (((updateLinCirc p l b m).1 - b).toNat : Int) = ((p - b).toNat + m.toInt) % l.toNat ∧ (updateLinCirc p l b m).2 = false := by
  have hne : l ≠ 0 := by intro z; rw [z] at h; exact absurd h (by simp)
  have hlt := l.isLt
  unfold updateLinCirc
  rw [if_neg hne]
  extract_lets o o1 q q1
  have ho : o = (p - b).toNat := rfl
  have e1 : o1 = o := if_neg (by omega)
  have hq : q = (o : Int) + m.toInt := by show (o1 : Int) + m.toInt = _; rw [e1]
  have hq1 : q1 = if (l.toNat : Int) ≤ q then q - l.toNat else if q < 0 then q + l.toNat else q := rfl
  have hr : 0 ≤ q1 ∧ q1 < l.toNat ∧ q1 = q % l.toNat := by
    rw [hq1]
    split
    · refine ⟨by omega, by omega, ?_⟩
      rw [← Int.sub_emod_right, Int.emod_eq_of_lt (by omega) (by omega)]
    · split
      · refine ⟨by omega, by omega, ?_⟩
        rw [← Int.add_emod_right, Int.emod_eq_of_lt (by omega) (by omega)]
      · refine ⟨by omega, by omega, ?_⟩
        rw [Int.emod_eq_of_lt (by omega) (by omega)]
  rw [if_neg (by omega), if_neg (by omega)]
  refine ⟨?_, rfl⟩
  rw [off_sub hr.1 (by omega), hr.2.2, hq]

/-- A pointer two lengths out returns to its base (R198, step 2). -/
theorem updateLinCirc_out {p l b : BitVec 19} {m : BitVec 20} (h : l ≠ 0) (h1 : 2 * l.toNat ≤ (p - b).toNat) : updateLinCirc p l b m = (b, true) := by
  unfold updateLinCirc
  rw [if_neg h]
  extract_lets o o1 q q1
  have ho : o = (p - b).toNat := rfl
  have e1 : o1 = o - l.toNat := if_pos (by omega)
  rw [if_pos (by omega)]

theorem revBits_lt : ∀ {n v : Nat}, revBits n v < 2 ^ n
  | 0, _ => by simp [revBits]
  | n + 1, v => by
    have := @revBits_lt n (v / 2)
    rw [revBits, Nat.pow_succ]
    have h : v % 2 = 0 ∨ v % 2 = 1 := by omega
    rcases h with h | h <;> rw [h] <;> omega

theorem isPow2_iff {n : Nat} : isPow2 n = true ↔ ∃ k, n = 2 ^ k := by
  unfold isPow2
  constructor
  · intro h; simp at h; exact ⟨_, h.2⟩
  · rintro ⟨k, rfl⟩
    simp

/-- A bit-reversed update ends in its buffer, too (R200). -/
theorem updateBitRev_in {p l b : BitVec 19} {m : BitVec 20} {e : Nat} (he : e = 4 ∨ e = 16) (h : l ≠ 0) : ((updateBitRev p l b m e).1 - b).toNat < l.toNat := by
  have hl : 0 < l.toNat := by
    apply Nat.pos_of_ne_zero; intro z; exact h (BitVec.eq_of_toNat_eq (by rw [z]; rfl))
  have hlt := l.isLt
  unfold updateBitRev
  extract_lets ln mi o o1 w f
  split
  · simpa using hl
  · rename_i h0
    split
    · simpa using hl
    · have hp : isPow2 ln = true := by
        cases z : isPow2 ln
        · exact absurd (Or.inl (by simp [z])) h0
        · rfl
      obtain ⟨k, hk⟩ := isPow2_iff.1 hp
      have hge : 256 ≤ ln / e := by
        apply Nat.le_of_not_lt; intro z; exact h0 (.inr (.inl z))
      have hf : f < 2 ^ w := revBits_lt
      have hk16 : e.log2 = 2 ∧ e = 2 ^ 2 ∨ e.log2 = 4 ∧ e = 2 ^ 4 := by
        rcases he with rfl | rfl
        · exact .inl ⟨by decide, rfl⟩
        · exact .inr ⟨by decide, rfl⟩
      have hw : w = k - e.log2 := by
        show ln.log2 - e.log2 = _
        rw [hk, Nat.log2_two_pow]
      have hkk : e.log2 ≤ k := by
        apply Nat.le_of_not_lt; intro z
        have := Nat.pow_lt_pow_right (a := 2) (by decide) z
        have h2 : 2 ^ e.log2 = e := by rcases hk16 with ⟨a, b⟩ | ⟨a, b⟩ <;> rw [a, b]
        rw [h2, ← hk] at this
        have : ln / e = 0 := Nat.div_eq_of_lt this
        omega
      have hm : f * e < ln := by
        have h2 : 2 ^ e.log2 = e := by rcases hk16 with ⟨a, b⟩ | ⟨a, b⟩ <;> rw [a, b]
        have h3 : 2 ^ w * e = ln := by
          rw [hw, hk]
          conv => lhs; rhs; rw [← h2]
          rw [← Nat.pow_add, Nat.sub_add_cancel hkk]
        rw [← h3]
        exact Nat.mul_lt_mul_of_pos_right hf (by rcases he with rfl | rfl <;> decide)
      show (b + BitVec.ofNat 19 (f * e) - b).toNat < l.toNat
      rw [BitVec.add_comm, BitVec.add_sub_cancel, BitVec.toNat_ofNat]
      have hll : ln = l.toNat := rfl
      rw [Nat.mod_eq_of_lt (by omega)]
      exact hm

theorem updateBitRev_bad {p l b : BitVec 19} {m : BitVec 20} {e : Nat} (h : ∀ n, l.toNat ≠ 2 ^ n) : updateBitRev p l b m e = (b, true) := by
  unfold updateBitRev
  extract_lets ln mi o o1 w f
  refine if_pos (.inl ?_)
  intro z
  obtain ⟨k, hk⟩ := isPow2_iff.1 z
  exact h k hk

theorem noLoad_p {k : Cluster} {d : Fin 8} {q q' : BitVec 19} (h : k.noLoad (.p d q) = true) {x} (hx : x ∈ k.loads) : (RegWrite.p d q').same x = false := by
  have := mem_noLoad h hx; cases x <;> exact this
theorem noLoad_m {k : Cluster} {d : Fin 8} {q q' : BitVec 20} (h : k.noLoad (.m d q) = true) {x} (hx : x ∈ k.loads) : (RegWrite.m d q').same x = false := by
  have := mem_noLoad h hx; cases x <;> exact this
theorem noLoad_l {k : Cluster} {d : Fin 8} {q q' : BitVec 19} (h : k.noLoad (.l d q) = true) {x} (hx : x ∈ k.loads) : (RegWrite.l d q').same x = false := by
  have := mem_noLoad h hx; cases x <;> exact this
theorem noLoad_b {k : Cluster} {d : Fin 8} {q q' : BitVec 19} (h : k.noLoad (.b d q) = true) {x} (hx : x ∈ k.loads) : (RegWrite.b d q').same x = false := by
  have := mem_noLoad h hx; cases x <;> exact this

/-- An A-slot operation without an access: what it writes, and CSTAT. -/
theorem aOp_plain {op : Nat} {pn : Fin 8} {reg : Fin 16} {am : Fin 4} {imm : BitVec 8} {w : RegWrite} {ev : List ClEvent} (h : s.clusters[c].spent = false)
    (hr : aSlot s.clusters[c] true ⟨op, pn, reg, am, imm⟩ = { ARes.none with writes := [w], events := ev }) (hw : ∀ x ∈ s.clusters[c].loads, w.same x = false) :
    (s.aOp c op pn reg am imm).clusters[c].fg = ((s.clusters[c].putAll s.clusters[c].loads).put w).fg ∧
    (s.aOp c op pn reg am imm).clusters[c].l = ((s.clusters[c].putAll s.clusters[c].loads).put w).l ∧
    (s.aOp c op pn reg am imm).clusters[c].b = ((s.clusters[c].putAll s.clusters[c].loads).put w).b ∧
    (s.aOp c op pn reg am imm).clusters[c].cstat.getLsbD 10 = (s.clusters[c].cstat.getLsbD 10 || ev.contains .circ) := by
  have e := aOp_cluster h hr rfl rfl
  have g := putAll_regs (c := { s.clusters[c] with cstat := statAfter s.clusters[c] .none { ARes.none with writes := [w], events := ev } }.count) (d := s.clusters[c]) (l := s.clusters[c].loads ++ [w]) ⟨rfl, rfl, rfl⟩
  rw [putAll_last (c := s.clusters[c]) hw] at g
  rw [e]
  refine ⟨advance_fg.trans g.1, advance_l.trans g.2.1, advance_b.trans g.2.2, ?_⟩
  refine (advance_cstat (by decide) (by decide)).trans ?_
  rw [putAll_cstat]
  show (statAfter s.clusters[c] .none { ARes.none with writes := [w], events := ev }).getLsbD 10 = _
  rw [statAfter, orCstat_bit (by decide)]
  congr 1
  show Nat.testBit ((0 + 16 * 0) ||| (0 ||| (0 + if ev.contains .circ then 0x400 else 0))) 10 = _
  cases ev.contains ClEvent.circ <;> decide

end Sys2Proof.Machine
end

