-- ==== Sys2Proof/Laws/SlotControl.lean ====
section
/-!
SUPPORT. Where control goes after a bundle (R218, R224, R225): what a C-slot operation leaves of the pc, the loops and their counters.
-/
set_option Elab.async false
set_option linter.all false
namespace Sys2Proof.Machine

variable {s : State} {c : Fin 16}

theorem put_ctl {k : Cluster} {x : RegWrite} : (k.put x).pc = k.pc ∧ (k.put x).loops = k.loops ∧ (k.put x).lc = k.lc ∧ (k.put x).run = k.run ∧ (k.put x).issued = k.issued ∧ (k.put x).sh = k.sh := by
  cases x <;> exact ⟨rfl, rfl, rfl, rfl, rfl, rfl⟩

theorem putAll_ctl {k : Cluster} {l : List RegWrite} : (k.putAll l).pc = k.pc ∧ (k.putAll l).loops = k.loops ∧ (k.putAll l).lc = k.lc ∧
    (k.putAll l).run = k.run ∧ (k.putAll l).issued = k.issued ∧ (k.putAll l).sh = k.sh :=
  putAll_induct (P := fun e => e.pc = k.pc ∧ e.loops = k.loops ∧ e.lc = k.lc ∧ e.run = k.run ∧ e.issued = k.issued ∧ e.sh = k.sh)
    (fun d x _ ⟨e1, e2, e3, e4, e5, e6⟩ => ⟨(put_ctl).1.trans e1, put_ctl.2.1.trans e2, put_ctl.2.2.1.trans e3, put_ctl.2.2.2.1.trans e4, put_ctl.2.2.2.2.1.trans e5, put_ctl.2.2.2.2.2.trans e6⟩)
    ⟨rfl, rfl, rfl, rfl, rfl, rfl⟩

theorem statAfter_quiet {k : Cluster} : statAfter k .none .none = k.cstat := by
  show orCstat k.cstat 0 = k.cstat
  unfold orCstat; simp

/-- A bundle whose C slot alone may act, and does not branch. -/
theorem cBundle_exec {k : Cluster} {x : CSlot} (h : k.spent = false) (he : (⟨.nop, .nop, x⟩ : Bundle).isEnd = false) (hi : (cSlot k x).illegal = false)
    (ht : (cSlot k x).ctl.taken = false) : k.exec ⟨.nop, .nop, x⟩ =
      ⟨{ ((k.count.putAll (k.loads ++ (cSlot k x).writes)).advance (cSlot k x).ctl (cSlot k x).lc) with loads := [] }, [], .running⟩ := by
  rw [exec_bundle h he rfl rfl rfl hi ht]
  simp only [mSlot_nop, aSlot_nop]
  rw [statAfter_quiet]
  simp only [SlotRes.none, ARes.none, List.append_nil]
  rfl

theorem loopEnd_out {pc : Nat} {l : List LoopFrame} {lc : Vector (BitVec 16) 2} {j : Fin 2} (h : ∀ f ∈ l, f.k ≠ j) : (loopEnd pc l lc).2.2[j] = lc[j] := by
  induction l generalizing lc with
  | nil => rfl
  | cons f t ih =>
    have hf : f.k ≠ j := h f List.mem_cons_self
    have hv : f.k.val ≠ j.val := fun z => hf (Fin.ext z)
    unfold loopEnd
    split
    · split
      · exact Vector.getElem_set_ne f.k.isLt j.isLt hv
      · exact (ih fun x hx => h x (List.mem_cons_of_mem _ hx)).trans (Vector.getElem_set_ne f.k.isLt j.isLt hv)
    · rfl

theorem setDepth_depth {k : Cluster} : k.setDepth.cstat.extractLsb' 24 2 = BitVec.ofNat 2 k.loops.length := by
  apply BitVec.eq_of_getLsbD_eq; intro i hi
  have h2 : i = 0 ∨ i = 1 := by omega
  have hm : (0xFCFFFFFF#32).getLsbD (24 + i) = false := by rcases h2 with rfl | rfl <;> decide
  rw [BitVec.getLsbD_extractLsb', Cluster.setDepth]
  dsimp only
  rw [BitVec.getLsbD_or, BitVec.getLsbD_and, hm, Bool.and_false, Bool.false_or, BitVec.getLsbD_ofNat, BitVec.getLsbD_ofNat,
    Nat.mul_comm, Nat.testBit_two_pow_mul]
  have e1 : 24 + i < 32 := by omega
  have e2 : 24 + i - 24 = i := by omega
  simp only [hi, e1, e2, decide_true, Bool.true_and, Nat.le_add_right]
  show (k.loops.length % 2 ^ 2).testBit i = _
  rw [Nat.testBit_mod_two_pow]; simp [hi]

theorem branchTo_ok {k : Cluster} {rel : Int} (h0 : rel ≠ 0) (h1 : atBodyEnd k = false) (h2 : (codeBase k : Int) ≤ k.pc + rel) (h3 : (k.pc + rel : Int) < codeEnd k) :
    branchTo k rel = { CRes.none with ctl := .branch (k.pc + rel) } := by
  unfold branchTo
  refine if_neg ?_
  rintro (z | z | z | z)
  · exact h0 z
  · rw [h1] at z; exact Bool.noConfusion z
  · omega
  · omega

/-- A taken branch: the loads return with the bundle, then the empty bundle takes its cycle (R224). -/
theorem cBundle_branch {k : Cluster} {x : CSlot} {t : Int} (h : k.spent = false) (he : (⟨.nop, .nop, x⟩ : Bundle).isEnd = false) (hr : cSlot k x = { CRes.none with ctl := .branch t }) :
    let d : Cluster := { ((k.count.putAll k.loads).advance (.branch t) none) with loads := [] }
    k.exec ⟨.nop, .nop, x⟩ = if d.spent then ⟨d.count.stop 0, [], .budget⟩ else ⟨d.bubble, [], .running⟩ := by
  intro d
  have hi : k.issue ⟨.nop, .nop, x⟩ = ⟨d, [], .running⟩ := by
    unfold Cluster.issue
    simp only [mSlot_nop, aSlot_nop, hr, he]
    show (⟨_, _, _⟩ : Issued) = _
    have e := statAfter_quiet (k := k)
    unfold statAfter at e
    simp only [Cluster.storeAll, List.foldl_nil, SlotRes.none, ARes.none, CRes.none, List.append_nil] at e ⊢
    rw [e]
    rfl
  unfold Cluster.exec
  simp only [h, hi, hr, Bool.false_and, Bool.false_eq_true, if_false, Control.taken, and_self, if_true]

theorem quiet_leaves {i : Instr} {x : CSlot} {P : Cluster → Prop} (hb : slotBundle i = some (c, ⟨.nop, .nop, x⟩)) (hk : s.clusters[c] = k) (h : k.spent = false)
    (he : (⟨.nop, .nop, x⟩ : Bundle).isEnd = false) (hi : (cSlot k x).illegal = false) (ht : (cSlot k x).ctl.taken = false)
    (hp : P { ((k.count.putAll (k.loads ++ (cSlot k x).writes)).advance (cSlot k x).ctl (cSlot k x).lc) with loads := [] }) : Leaves i s c P := by
  refine ⟨_, slotBundle_exec hb, ?_⟩
  subst hk
  have e := cBundle_exec h he hi ht
  have hf : (s.clusters[c].exec ⟨.nop, .nop, x⟩).fate = .running := by rw [e]
  rw [issueBundle_running hf, clusters_afterIssue hf, e]
  exact hp

theorem seq_ctl {k : Cluster} {l : List RegWrite} {v : Option (Fin 2 × BitVec 16)} :
    let lc := match v with
      | some (j, w) => k.lc.set j w
      | none => k.lc
    ((k.count.putAll l).advance .seq v).pc = (loopEnd k.pc k.loops lc).1 ∧ ((k.count.putAll l).advance .seq v).loops = (loopEnd k.pc k.loops lc).2.1 ∧
    ((k.count.putAll l).advance .seq v).lc = (loopEnd k.pc k.loops lc).2.2 := by
  obtain ⟨e1, e2, e3, -⟩ := putAll_ctl (k := k.count) (l := l)
  unfold Cluster.advance
  cases v with
  | none => dsimp only [Cluster.setDepth]; rw [e1, e2, e3]; exact ⟨rfl, rfl, rfl⟩
  | some v => obtain ⟨j, w⟩ := v; dsimp only [Cluster.setDepth]; rw [e1, e2, e3]; exact ⟨rfl, rfl, rfl⟩

/-- A taken branch's cluster: stopped by the budget in the empty bundle, or at its target. -/
theorem branch_parts {k : Cluster} {t : Int} (ht : 0 ≤ t) :
    let d : Cluster := { ((k.count.putAll k.loads).advance (.branch t) none) with loads := [] }
    let r : Issued := if d.spent then ⟨d.count.stop 0, [], .budget⟩ else ⟨d.bubble, [], .running⟩
    let u : Cluster := if r.fate = .running then r.c else { r.c with run := none }
    (∀ r, k.run = some r → r.left = 2 → u.fg = k.sh) ∧ ((∀ r, k.run = some r → 2 < r.left) →
      (u.pc : Int) = t ∧ u.issued = k.issued + 2 ∧ u.loops = k.loops.filter fun f => decide ((f.first : Int) ≤ t ∧ t ≤ f.last)) := by
  intro d r u
  obtain ⟨p1, p2, p3, p4, p5, p6⟩ := putAll_ctl (k := k.count) (l := k.loads)
  have dr : d.run = k.run.map fun x => { x with left := x.left - 1 } := p4
  have ds : d.sh = k.sh := p6
  have dp : d.pc = t.toNat := rfl
  have di : d.issued = k.issued + 1 := p5
  have dl : d.loops = k.loops.filter fun f => decide (f.first ≤ t.toNat ∧ t.toNat ≤ f.last) := by
    show (k.count.putAll k.loads).loops.filter _ = _
    rw [p2]; rfl
  constructor
  · intro x hx hl
    have hs : d.spent = true := by unfold Cluster.spent; rw [dr, hx]; simp [hl]
    have hr : r = ⟨d.count.stop 0, [], .budget⟩ := if_pos hs
    have hu : u = { d.count.stop 0 with run := none } := by
      show (if r.fate = .running then r.c else { r.c with run := none }) = _
      rw [hr]; exact if_neg (by intro z; exact nomatch z)
    rw [hu]; exact ds
  · intro hx
    have hs : d.spent = false := by
      unfold Cluster.spent; rw [dr]
      cases hk : k.run with
      | none => rfl
      | some x => have := hx x hk; simp; omega
    have hr : r = ⟨d.bubble, [], .running⟩ := if_neg (by rw [hs]; exact Bool.false_ne_true)
    have hu : u = d.bubble := by
      show (if r.fate = .running then r.c else { r.c with run := none }) = _
      rw [hr]; exact if_pos rfl
    rw [hu]
    obtain ⟨q1, q2, q3, q4, q5, q6⟩ := putAll_ctl (k := d) (l := d.loads)
    refine ⟨?_, ?_, ?_⟩
    · show ((d.putAll d.loads).pc : Int) = t
      rw [q1, dp]; omega
    · show (d.putAll d.loads).issued + 1 = _
      rw [q5, di]
    · show (d.putAll d.loads).loops = _
      rw [q2, dl]
      congr 1; funext f
      congr 1
      apply propext
      omega

end Sys2Proof.Machine
end

