-- ==== Sys2Proof/WellFormed.lean ====
section
/-!
DEFINITION. Which commands the environment can send: what the types of the operands leave open. An ill-formed command has an effect in
the model too (the device answers a bundle with reserved fields, an unaligned access, a short buffer), so no meaning reads this check.
-/
namespace Sys2Proof

/-- A buffer the device can reach holds as many bytes as its descriptor says (R46). -/
def Desc.wf (d : Desc) : Bool := !d.reach || decide (d.buf.length = d.bufLen.toNat)

/-- An RTP header extension is a profile, a length and its words (R364). -/
def NetFrame.wf (f : NetFrame) : Bool :=
  match f.body with
  | .rtp p => (match p.ext with
    | some e => decide (4 ≤ e.length ∧ e.length % 4 = 0)
    | none => true)
  | _ => true

/-- The count of a normalisation: a constant from −31 to +31, or −64 for a scalar register (R221). -/
def normImm (imm : BitVec 7) : Bool := decide (-31 ≤ imm.toInt ∧ imm.toInt ≤ 31) || decide (imm.toInt = -64)

/-- Whether a command is well formed. -/
def Instr.wf : Instr → Bool
  | .nop _ d | .paramWrite _ d | .paramRead _ d | .planLoad _ d | .admitPlan _ d _ | .develop _ d | .developCancel _ d
  | .fix _ d | .clipLoad _ d | .clipPlay _ d | .clipStop _ d | .verify _ d | .capture _ d | .learnLines _ d | .store _ d
  | .abort _ d | .pairJoin _ d | .pairYield _ d | .timeStep _ d | .timeRate _ d | .logRead _ d | .sheetDefine _ d
  | .updateBegin _ d | .updateChunk _ d | .updateCommit _ d | .lifecycleAdvance _ d => d.wf
  | .ringDoorbell _ _ l _ => l.all Sys2Proof.Desc.wf
  | .registerWrite a _ _ => decide (a.toNat % 4 = 0)
  | .unallocatedPageAccess a => decide (a.toNat % 4 = 0) && (Machine.RegDir.page? (a.toNat / 4096)).isNone
  | .paramWindowWrite o _ => decide (o.toNat % 4 = 0)
  | .loHiCaptureRead a => decide (a.toNat % 4 = 0)
  | .anorm _ _ _ imm => normImm imm
  | .norm _ _ _ _ imm => normImm imm
  | .ldap _ _ part _ _ => decide (part.val ≤ 2)
  | .stap _ _ part _ _ => decide (part.val ≤ 2)
  | .ldv2 _ _ pa _ _ pb _ => decide (pa ≠ pb)
  | .ldvb _ _ pa _ _ pb _ => decide (pa ≠ pb)
  | .ldst _ _ pa _ _ pb _ => decide (pa ≠ pb)
  | .aupd _ _ am => decide (am.val = 1 ∨ am.val = 2)
  | .br _ rel => decide (rel ≠ 0)
  | .brc _ _ rel => decide (rel ≠ 0)
  | .loop _ _ n => decide (n ≠ 0)
  | .tickStart _ _ _ _ cycles _ => decide (cycles.length ≤ 16)
  | .tdmInputFrame _ slots _ _ _ _ => decide (slots.length ≤ 32)
  | .aes3CsBlockRx _ a b c d => decide (a.length = 24 ∧ b.length = 24 ∧ c.length = 24 ∧ d.length = 24)
  | .macFrameRx _ f => f.wf
  | .prbsCheckerSync _ _ bits errs => decide (errs ≤ bits)
  | .ringEnable .. | .ringIrqTimeout .. | .eventDelivery .. | .contactSheetEmit .. | .spiTransaction .. | .pcieLinkReset ..
  | .pageStatRead .. | .tdSecHiRead .. | .objectAreaCapture .. | .ainCsSeqRead .. | .refPdSeqRead .. | .fltTopRead ..
  | .pbLaneStatRead .. | .srst .. | .freeze .. | .pageEnWrite .. | .fltLatchClear .. | .fltClassWrite .. | .fltMaskWrite ..
  | .fltAck .. | .mnop .. | .mpy .. | .mac .. | .msu .. | .macs .. | .msus .. | .aclr .. | .amov .. | .aadd .. | .aldv ..
  | .cvt .. | .aexp .. | .aexpm .. | .vadd .. | .vsub .. | .vneg .. | .vabs .. | .vmin .. | .vmax .. | .vand .. | .vor ..
  | .vxor .. | .vmov .. | .vspl .. | .vmul .. | .exp .. | .expm .. | .vcmplt .. | .vcmple .. | .vcmpeq .. | .vsel ..
  | .sadd .. | .ssub .. | .saddi .. | .sand .. | .sor .. | .sshl .. | .sshr .. | .smul .. | .scmplt .. | .anop .. | .ldv ..
  | .stv .. | .ldb .. | .lds .. | .sts .. | .stc .. | .setm .. | .mvp .. | .mvm .. | .mvl .. | .mvb .. | .rdp .. | .paddi ..
  | .loadWriteback .. | .cnop .. | .swapEnd .. | .setlc .. | .mvlc .. | .smov .. | .sldi .. | .vext .. | .vins .. | .rdcs ..
  | .tickEntry .. | .phaseB .. | .phaseC .. | .phaseD .. | .phaseE .. | .kernelBudgetExhausted .. | .tickOvr ..
  | .pathResult .. | .lineJudge .. | .ambientBlock .. | .probeSynthesisDone .. | .probeStart .. | .probePeriod .. | .probeYield ..
  | .probeOutputEnd .. | .safelightStoreDone .. | .tdmOutputFrame .. | .tdmBclkLoss .. | .tdmLossExit .. | .preRollEnd ..
  | .postRollEnd .. | .aes3RxFrame .. | .aes3TxBlockStart .. | .aoutCsCommit .. | .pdmClockLoss .. | .pdmLossExit ..
  | .micStuck .. | .micStuckEnd .. | .asrcLock .. | .asrcUnlock .. | .pauseExpiry .. | .macFrameTx .. | .collision ..
  | .backoffExpiry .. | .arpRetryTimer .. | .arpRefreshTimer .. | .noArp .. | .prpSupervisionTimer .. | .prpNodeAgeout ..
  | .prpPartnerTimeout .. | .oneLan .. | .streamPacketRx .. | .streamPacketTx .. | .ptpMessageRx .. | .ptpSyncInterval ..
  | .ptpAnnounceTimeout .. | .ptpCfgApply .. | .anchorSlip .. | .macmLinkChange .. | .clockLoss .. | .clkFreq ..
  | .cdcTimeout .. | .ncoUpdate .. | .candidateMeasurement .. | .candidateQualified .. | .candidateUnusable ..
  | .referenceSwitch .. | .referenceRevert .. | .dpllSlewEnd .. | .dpllLock .. | .dpllLockStep .. | .dpllPhaseAlarm ..
  | .outputRealign .. | .meterHoldWrite .. | .recFreeze .. | .recResume .. | .recDrain .. | .recorderDrainBuffer ..
  | .recorderAutoFreeze .. | .deferredColumnStart .. | .developArmed .. | .developCommit .. | .disruptivePlanStart ..
  | .mediaGlideEnd .. | .dissolveWaitStart .. | .dissolveEnd .. | .chainedChangeStart .. | .fixSnapshot ..
  | .fixPhaseDone .. | .clipStart .. | .clipEnd .. | .triggerDetection .. | .lineFault .. | .lineFaultClear ..
  | .triggerFire .. | .fltInjForceRaw .. | .fltInjRailsHigh .. | .fltInjRailsLow .. | .fltInjFlipOne .. | .fltInjFlipTwo ..
  | .fltInjCorruptSignature .. | .fltInjCollectorDisagree .. | .fltInjStop .. | .marchGo .. | .marchAbort .. | .reacquire ..
  | .tdcLoad .. | .refOpen .. | .refNcoWrite .. | .align .. | .tickMatchArm .. | .enCapWrite .. | .laneLoopback ..
  | .laneTxPattern .. | .laneRxChecker .. | .laneInjOne .. | .lanePllLock .. | .laneSignalDetect .. | .laneCdrLock ..
  | .laneAdaptEnd .. | .laneAlignedEv .. | .laneStateTimeout .. | .laneDown .. | .lowFom .. | .laneInjPeriodic ..
  | .pcieLinkUp .. | .katRoundStart .. | .katRoundDone .. | .katLate .. | .faultEdgeCollect .. | .railBroken ..
  | .faultTimerExpiry .. | .firmwareAutoAck .. | .collector .. | .sensorSample .. | .railMonitorReading ..
  | .scrubPassEnd .. | .dramTempPoll .. | .marchSegmentDone .. | .fabricAgePromotion .. | .lockTimeout .. | .noPath ..
  | .logFlush .. | .clusterWake .. | .clusterImageReloadDone .. | .groupIdle .. | .energyWindowEnd .. | .shedCommit ..
  | .pmbusCalibrationRead .. | .zeroise .. | .zeroiseDone .. | .tamper .. | .mbResetWarm .. | .mbResetCold ..
  | .mbResetMgmt .. | .mgmtWdt .. | .porNAssert .. | .porNRelease .. | .resetNAssert .. | .resetNRelease ..
  | .firmwareConfirm .. | .trialBootTimeout .. | .updateProgramDone .. | .pfailNLow .. | .pfailRecoveryRestart ..
  | .cdcClockReturn .. | .deskewMarkerRx .. | .porbuodRateStep .. | .tickMessageRx .. | .inputMessageRx ..
  | .stateMessageRx .. | .paramMessageRx .. | .armMessageRx .. | .ackMessageRx .. | .confirmMessageRx ..
  | .confirmDeadline .. | .bulkMessageRx .. | .ctrlMessageRx .. | .pbRetransmit .. | .heartbeatMiss .. | .clmiWordRx ..
  | .clmiLost .. | .promotion .. | .election .. | .pairWaitExpiry .. | .pairLinkTimeout .. | .stateTransferDone ..
  | .pairVerifyDone .. | .excuseWindowClose .. | .handover .. | .handoverComplete .. => true

end Sys2Proof
end

