-- ==== Sys2Proof/Tests/Slice0.lean ====
section
/-!
SUPPORT. Tests of the model on small values: the ill-formed commands that WellFormed refuses; for every statement that has hypotheses, a state
and operands that meet them; single steps whose outcome the spec gives.
-/
namespace Sys2Proof.Tests
open Sys2Proof Sys2Proof.Machine

/-! One theorem after the other: many kernel evaluations at once take a thread each. -/
set_option Elab.async false

/-! What the tests are built from. -/

/-- A device after reset whose listed pages are READY and enabled, with fields set. -/
def up (ps : List Nat) (l : List (Fld × Nat)) : State :=
  ({ State.reset with regs := ps.map fun p => (p * 4096 + 0x00C, 1#32) } : State).wrAll ((ps.map fun p => (F.PAGE_CTRL_EN.pg p, 1)) ++ l)

/-- Whether a command gives a next state that passes a check. -/
def gives (i : Instr) (s : State) (p : State → Bool) : Bool := match exec i s with
  | .next t => p t
  | _ => false

/-- A descriptor whose buffer holds `b`. -/
def desc (b : List Byte) : Desc := ⟨0, 0, 3, 77, 0, BitVec.ofNat 32 b.length, 0, 0, 9, b, true, true⟩

/-! WellFormed: an ill-formed command of each check. -/

theorem test_wf_buffer : Instr.wf (.nop 0 { desc [1, 2] with bufLen := 3 }) = false ∧ Instr.wf (.nop 0 (desc [1, 2])) = true := by decide
theorem test_wf_doorbell_list : Instr.wf (.ringDoorbell 0 0 [desc [], { desc [1] with bufLen := 4 }] false) = false := by decide
theorem test_wf_register_address : Instr.wf (.registerWrite 0x00042 0 true) = false ∧ Instr.wf (.registerWrite 0x00044 0 true) = true := by decide
theorem test_wf_unallocated_page : Instr.wf (.unallocatedPageAccess 0x00000) = false ∧ Instr.wf (.unallocatedPageAccess 0xFF000) = true ∧
    Instr.wf (.unallocatedPageAccess 0xFF002) = false := by decide +kernel
theorem test_wf_window_offset : Instr.wf (.paramWindowWrite 0x2 0) = false ∧ Instr.wf (.paramWindowWrite 0x4 0) = true := by decide
theorem test_wf_capture_address : Instr.wf (.loHiCaptureRead 0x01043) = false := by decide
theorem test_wf_anorm_count : Instr.wf (.anorm 0 0 0 (BitVec.ofInt 7 (-32))) = false ∧ Instr.wf (.anorm 0 0 0 (BitVec.ofInt 7 (-31))) = true ∧
    Instr.wf (.anorm 0 0 0 (BitVec.ofInt 7 (-64))) = true := by decide
theorem test_wf_norm_count : Instr.wf (.norm 0 0 0 0 32) = false ∧ Instr.wf (.norm 0 0 0 0 31) = true := by decide
theorem test_wf_accumulator_part : Instr.wf (.ldap 0 0 3 0 0) = false ∧ Instr.wf (.stap 0 0 3 0 0) = false ∧ Instr.wf (.stap 0 0 2 0 0) = true := by decide
theorem test_wf_dual_pointers : Instr.wf (.ldv2 0 0 4 0 1 4 true) = false ∧ Instr.wf (.ldvb 0 0 4 0 1 4 true) = false ∧
    Instr.wf (.ldst 0 0 4 0 1 4 true) = false ∧ Instr.wf (.ldst 0 0 4 0 1 5 true) = true := by decide
theorem test_wf_update_mode : Instr.wf (.aupd 0 0 0) = false ∧ Instr.wf (.aupd 0 0 3) = false ∧ Instr.wf (.aupd 0 0 2) = true := by decide
theorem test_wf_branch : Instr.wf (.br 0 0) = false ∧ Instr.wf (.brc 0 0 0) = false ∧ Instr.wf (.br 0 1) = true := by decide
theorem test_wf_loop : Instr.wf (.loop 0 0 0) = false ∧ Instr.wf (.loop 0 0 1) = true := by decide
theorem test_wf_tick_cycles : Instr.wf (.tickStart 0 0 0 0 (List.replicate 17 (0, 0, 0)) []) = false := by decide
theorem test_wf_slots : Instr.wf (.tdmInputFrame 0 (List.replicate 33 0) false false 0 0) = false := by decide
theorem test_wf_channel_status : Instr.wf (.aes3CsBlockRx 0 (List.replicate 23 0) (List.replicate 24 0) (List.replicate 24 0) (List.replicate 24 0)) = false := by decide
theorem test_wf_checker : Instr.wf (.prbsCheckerSync 0 false 3 4) = false ∧ Instr.wf (.prbsCheckerSync 0 false 4 4) = true := by decide
/-- A frame with an RTP header extension of these bytes. -/
def rtpFrame (e : List Byte) : NetFrame := ⟨true, 0, none, none, .rtp ⟨0, 5004, true, 2, 97, 1, 1, 0, some e, []⟩⟩
theorem test_wf_header_extension : Instr.wf (.macFrameRx 0 (rtpFrame [0xBE, 0xDE, 0])) = false ∧
    Instr.wf (.macFrameRx 0 (rtpFrame [0xBE, 0xDE, 0, 1, 0, 0])) = false ∧ Instr.wf (.macFrameRx 0 (rtpFrame [0xBE, 0xDE, 0, 0])) = true := by decide

/-! The slot operations. Each witness meets the hypotheses of the statement whose name it bears. -/

/-- A kernel with a budget of `n` cycles: code of 64 bundles, a window of 4,096 bytes whose first 2,048 may be written. -/
def kernel (n : Nat) : KernelRun := ⟨0, 0, 64, 0, 4096, 2048, 0x2000, n⟩
/-- Its registers. -/
def coreRegs : RegSet :=
  { v := (RegSet.zero.v.set 1 #v[0x7FFFFFFF, 0x80000000, 3, 0xFFFFFFFE]).set 2 #v[1, 0x80000000, 5, 7]
    acc := RegSet.zero.acc
    p := ((RegSet.zero.p.set 1 0x7F0).set 2 0x7F8).set 3 0xFFC
    m := (RegSet.zero.m.set 1 16).set 2 4
    s := (RegSet.zero.s.set 1 0xFFFFFFE1).set 2 32 }
/-- A cluster that runs it. -/
def core (n : Nat) : Cluster := { Cluster.zero with fg := coreRegs, run := some (kernel n), pc := 5, lc := #v[3, 0] }
/-- The device with that cluster 0. -/
def withCore (k : Cluster) : State := { State.reset with clusters := State.reset.clusters.set 0 k }
/-- Its state after a slot command. -/
def slot (i : Instr) (k : Cluster) (p : Cluster → Bool) : Bool := gives i (withCore k) fun t => p t.clusters[0]

theorem witness_AccumulatorOps : (withCore (core 9)).clusters[0].fg = (core 9).fg ∧ (withCore (core 9)).clusters[0].spent = false ∧
    (withCore (core 9)).clusters[0].noLoad (.acc 7 (.replicate 4 0)) = true ∧ (-31 : Int) ≤ -31 ∧ ((BitVec.ofInt 7 (-31)).toInt = -31) ∧
    (BitVec.toInt 64#7 = -64 ∧ (core 9).fg.s[1].toInt = -31) := by decide +kernel
theorem witness_VectorOps : (withCore (core 2)).clusters[0].spent = false ∧ (withCore (core 2)).clusters[0].noLoad (.v 15 (.replicate 4 0)) = true ∧
    (BitVec.toInt 31#7 = 31) := by decide +kernel
theorem witness_ScalarOps : (withCore (core 2)).clusters[0].spent = false ∧
    (withCore { core 2 with loads := [.s 1 5, .v 3 (.replicate 4 0)] }).clusters[0].noLoad (.s 0 0) = true := by decide +kernel
theorem witness_CompareOps : (withCore (core 2)).clusters[0].fg = (core 2).fg ∧ (withCore (core 2)).clusters[0].spent = false := by decide +kernel
theorem witness_LoadOps : (withCore (core 2)).clusters[0] = core 2 ∧ (core 2).spent = false ∧
    ((addressOf (core 2) 3 0 16).addr / 16 * 16 = 0xFF0 ∧ inWindow (core 2) 0xFF0 16 false = true) ∧
    ((addressOf (core 2) 3 0 4).addr / 4 * 4 = 0xFFC ∧ inWindow (core 2) 0xFFC 4 false = true) ∧
    inWindow (core 2) ((addressOf (core 2) 1 1 16).addr / 16 * 16) 16 false = true ∧ (core 2).noLoad (.acc 7 (.replicate 4 0)) = true ∧
    (core 2).noLoad (.v 0 (.replicate 4 0)) = true ∧ (core 2).noLoad (.s 0 0) = true ∧ (1 : Fin 8) ≠ 3 ∧ (2 : Fin 4) ≠ 3 := by decide +kernel
theorem witness_StoreOps : (withCore (core 2)).clusters[0] = core 2 ∧ (core 2).spent = false ∧ (core 2).canonical = true ∧
    ((addressOf (core 2) 1 0 16).addr / 16 * 16 = 0x7F0 ∧ inWindow (core 2) 0x7F0 16 true = true) ∧
    ((addressOf (core 2) 2 3 4).addr / 4 * 4 = 0x7FC ∧ inWindow (core 2) 0x7FC 4 true = true) ∧
    inWindow (core 2) ((addressOf (core 2) 3 0 16).addr / 16 * 16) 16 false = true := by decide +kernel
theorem witness_StoreOps_noDouble : (core 2).noDouble := fun _ => by simp [core, Cluster.zero, Sparse.get]
/-- A circular buffer of pointer 1, one whose pointer lies beyond it, and a load on its way elsewhere. -/
def ring : Cluster := { core 2 with l := ((Cluster.zero.l.set 1 0x20).set 2 0x10).set 3 0x30, b := (Cluster.zero.b.set 1 0x7E0).set 2 0x100, loads := [.s 1 5] }
theorem witness_LoadOps_returning : ring.loads = [.s 1 5] ∧ { ring with loads := [.v 15 (.replicate 4 7)] }.loads = [.v 15 (.replicate 4 7)] ∧
    (core 2).loads = [] := by decide +kernel
theorem witness_PointerOps : ring.spent = false ∧ ring.noLoad (.p 1 0) = true ∧ ring.noLoad (.m 7 0) = true ∧ ring.noLoad (.l 7 0) = true ∧
    ring.noLoad (.b 7 0) = true ∧ ring.l[0] = 0 ∧
    ((ring.fg.p[1] - ring.b[1]).toNat < ring.l[1].toNat ∧ -(ring.l[1].toNat : Int) ≤ ring.fg.m[1].toInt ∧ ring.fg.m[1].toInt ≤ ring.l[1].toNat) ∧
    2 * ring.l[2].toNat ≤ (ring.fg.p[2] - ring.b[2]).toNat := by decide +kernel
theorem ring_length : ring.l[(3 : Fin 8)].toNat = 48 := by decide +kernel
theorem no_power_of_48 : ∀ n < 6, 48 ≠ 2 ^ n := by decide
theorem witness_PointerOps_no_power (n : Nat) : ring.l[(3 : Fin 8)].toNat ≠ 2 ^ n := by
  rw [ring_length]
  rcases Nat.lt_or_ge n 6 with h6 | h6
  · exact no_power_of_48 n h6
  · have := Nat.pow_le_pow_right (n := 2) (by decide) h6
    omega
/-- A loop about to turn, one about to end, one in the middle of its body. -/
def looping (k : Fin 2) (last : Nat) : Cluster := { core 9 with loops := [⟨k, 3, last⟩] }
theorem witness_ControlOps : (core 3).spent = false ∧ (core 3).loops = [] ∧
    ((looping 0 7).loops = ⟨0, 3, 7⟩ :: [] ∧ (7 : Nat) ≠ (looping 0 7).pc) ∧ ((looping 0 5).pc = 5 ∧ 1 < (looping 0 5).lc[(0 : Fin 2)].toNat) ∧
    ((looping 1 5).pc = 5 ∧ (looping 1 5).lc[(1 : Fin 2)].toNat ≤ 1) ∧
    (atBodyEnd (core 3) = false ∧ (codeBase (core 3) : Int) ≤ (core 3).pc + (BitVec.ofInt 10 (-5)).toInt ∧
      ((core 3).pc + (58#10).toInt : Int) < codeEnd (core 3) ∧ (core 3).run = some (kernel 3) ∧ 2 < (kernel 3).left) ∧
    ((core 3).loops.length < 2 ∧ (core 3).pc + 58 < codeEnd (core 3)) ∧ (∀ f ∈ (looping 0 7).loops, f.k ≠ 1 ∧ (looping 0 7).pc + 2 ≤ f.last) ∧
    (kernel 2).left = 2 := by decide +kernel
theorem witness_SlotFrame : slotBundle (.vadd 0 1 2 2) = some (0, ⟨⟨16, 1, 2, 2, 0, 0⟩, .nop, .nop⟩) ∧
    ((withCore (core 9)).clusters[0].exec ⟨⟨16, 1, 2, 2, 0, 0⟩, .nop, .nop⟩).fate = .running ∧
    (∀ w ∈ (withCore (core 9)).clusters[0].loads ++ slotDests (.vadd 0 1 2 2), (RegWrite.v 2 (.replicate 4 0)).same w = false) ∧
    (∀ w ∈ (withCore (core 9)).clusters[0].loads ++ slotDests (.vadd 0 1 2 2), (RegWrite.acc 7 (.replicate 4 0)).same w = false) := by decide +kernel
theorem witness_StoppedBundles : (withCore (core 1)).clusters[0].run = some (kernel 1) ∧ (kernel 1).left ≤ 1 ∧ (core 2).spent = false ∧
    ((32#7).toInt = 32 ∧ (BitVec.ofInt 7 (-32)).toInt = -32) ∧ ((64#7).toInt = -64 ∧ (31 : Int) < (core 2).fg.s[2].toInt) ∧
    ((core 2).pc + (BitVec.ofInt 10 (-6)).toInt : Int) < codeBase (core 2) ∧ (codeEnd (core 2) : Int) ≤ (core 2).pc + (59#10).toInt ∧
    atBodyEnd (looping 0 5) = true ∧ codeEnd (core 2) ≤ (core 2).pc + 59 ∧ (∃ f ∈ (looping 0 7).loops, f.k = 0 ∧ f.last < (looping 0 7).pc + 3) ∧
    inWindow (core 2) 0x1000 16 false = false ∧ inWindow (core 2) 0x800 16 true = false ∧ inWindow (core 2) 0x800 4 true = false := by decide +kernel

/-- Lanes saturate at both ends and set their SAT bits (R205). -/
theorem test_vadd_saturates : slot (.vadd 0 3 1 2) (core 9) (fun k =>
    k.fg.v[3] == #v[0x7FFFFFFF, 0x80000000, 8, 5] && k.cstat.toNat % 16 == 3) = true := by decide +kernel
/-- −2^31 times itself, doubled, is 2^63: exact in an accumulator (R202). -/
theorem test_mpy_exact : slot (.mpy 0 0 1 2) (core 9) (fun k => k.fg.acc[0][1].toInt == 2 ^ 63 && k.fg.acc[0][0].toInt == 2 * (2 ^ 31 - 1)) = true := by
  decide +kernel
/-- A load reaches its register at the end of the bundle after its own (R218). -/
theorem test_ldv_late : slot (.ldv 0 4 1 0) { core 9 with mem := [(0x7F0, 0xAB)] } (fun k =>
    k.fg.v[4] == .replicate 4 0 && slot (.mnop 0) k fun u => u.fg.v[4][0] == 0xAB) = true := by decide +kernel
/-- A store's bytes, least significant first (R190), and the window it may not leave (R213). -/
theorem test_sts : slot (.sts 0 1 2 3) (core 9) (fun k => k.mem == [(0x7FC, 0xE1), (0x7FD, 0xFF), (0x7FE, 0xFF), (0x7FF, 0xFF)]) = true ∧
    slot (.sts 0 1 3 0) (core 9) (fun k => k.mem == [] && k.run == none) = true := by decide +kernel
/-- A taken branch costs a second cycle (R224). -/
theorem test_br : slot (.br 0 4) (core 9) (fun k => k.pc == 9 && k.issued == 2 && k.run == some (kernel 7)) = true := by decide +kernel
/-- The last bundle of a loop's body goes back to its first (R225). -/
theorem test_loop_turns : slot (.cnop 0) (looping 0 5) (fun k => k.pc == 3 && k.lc[0] == 2) = true := by decide +kernel

/-! The register map and the fault collector. -/

/-- Ready pages: DEVICE, ADMIT, POWER, a TDM port, the collector and its neighbours. -/
def unit (l : List (Fld × Nat)) : State := up [0x00, 0x02, 0x03, 0x30, 0x88, 0x89, 0x8B, 0x8C, 0x90, 0x99, 0x9A] l

theorem witness_RegisterWrites : (unit []).canonical = true ∧ (RegDir.page? 0xFF).isNone = true ∧
    ((unit []).takes F.DEV_STAT_ENGINE.addr = true ∧ F.DEV_STAT_ENGINE.addr / 4096 = 0 ∧ 0x40 ≤ F.DEV_STAT_ENGINE.addr ∧
      ((RegDir.row? F.DEV_STAT_ENGINE.addr).any fun r => r.fields.all fun f => f.acc == .ro) = true) ∧ (unit []).takes F.DEV_SCRATCH.addr = true ∧
    ((unit []).takes 0x30040 = true ∧ (unit []).admitted 0x30 = false ∧ (unit [(F.PAGE_STAT_ADMITTED.pg 0x30, 1)]).admitted 0x30 = true ∧
      ((RegDir.row? 0x30040).any fun r => (r.fields.all fun f => f.acc == .ro || f.acc == .rwa) && r.fields.any fun f => f.acc == .rwa) = true) := by
  decide +kernel
theorem witness_RegisterWrites_unaligned : (RegDir.page? (F.DEV_SCRATCH.addr / 4096)).isSome = true ∧
    (unit []).on (F.PAGE_STAT_READY.pg (F.DEV_SCRATCH.addr / 4096)) = true ∧ (F.DEV_SCRATCH.addr + 2) / 4096 = F.DEV_SCRATCH.addr / 4096 ∧
    (F.DEV_SCRATCH.addr + 2) % 4 ≠ 0 := by decide +kernel
theorem witness_PageControl : (unit []).canonical = true ∧ (unit []).takes (0x30 * 4096 + 0x008) = true ∧ homePage 0x30 = 0x30 ∧
    (unit []).on (F.PAGE_CTRL_FREEZE.pg 0x30) = false ∧ (unit []).enabled 0x30 = true ∧ enFixed 0x30 = false ∧ (unit []).admitted 0x30 = false ∧
    (unit [(F.PAGE_STAT_ADMITTED.pg 0x30, 1)]).admitted 0x30 = true ∧ (unit []).raw 0x02 3 = false ∧ (unit []).broken 0x02 3 = false ∧
    (unit []).enabled 0x02 = true := by decide +kernel
/-- A block without derived registers, and page 0x20, which has them (R26, R144, R145). -/
theorem witness_PageControl_derived : (unit []).derivedRegs 0x30 = [] ∧ (up [0x20] []).derivedRegs 0x20 ≠ [] ∧ (up [0x20] []).enabled 0x20 = true ∧
    (up [0x20] []).canonical = true := by decide +kernel
theorem witness_FaultRegisters : (unit []).canonical = true ∧ (unit []).takes (0x30 * 4096 + 0x018) = true ∧
    (unit []).takes (0x30 * 4096 + 0x01C + 4 * 1) = true ∧ (unit []).takes (0x30 * 4096 + 0x014) = true := by decide +kernel
theorem witness_ClassWrites : (unit []).canonical = true ∧ (unit []).takes (0x90 * 4096 + 0x01C) = true ∧ 0 < nsrc 0x90 := by decide +kernel
/-- The collector with an edge waiting, with an entry of effect `e` open. -/
def edged (p n : Nat) (l : List (Fld × Nat)) : State := { unit l with flt := { (unit l).flt with edges := [(p, n)] } }
def opened (e : Nat) (l : List (Fld × Nat)) : State := { unit l with flt := { (unit l).flt with entries := [⟨0x30, 1, e, 1, 0x105⟩] } }
/-- Class 2 for source 1 of page 0x30, and a class for source 0. -/
def class2 : List (Fld × Nat) := [(⟨(F.FLT_CLASS0.pg 0x30).addr, 5, 3⟩, 2)]
theorem witness_FaultEntries : (edged 0x30 1 class2).canonical = true ∧ (unit []).flt.edges = [] ∧
    ((edged 0x30 1 class2).flt.edges = (0x30, 1) :: [] ∧ (edged 0x30 1 class2).classOf 0x30 1 = 2 ∧ (edged 0x30 1 class2).entry 0x30 1 = none) ∧
    ((edged 0x30 1 [(⟨(F.FLT_CLASS0.pg 0x30).addr, 5, 3⟩, 0)]).classOf 0x30 1 = 0 ∧ (edged 0x30 1 [(⟨(F.FLT_CLASS0.pg 0x30).addr, 5, 3⟩, 0)]).entry 0x30 1 = none) ∧
    ((opened 3 []).entry 0x30 1 = some ⟨0x30, 1, 3, 1, 0x105⟩ ∧ (opened 1 []).entry 0x30 1 = some ⟨0x30, 1, 1, 1, 0x105⟩) ∧
    ((opened 1 []).takes F.FLT_ACK_SEQ.addr = true ∧ 0x105 % 256 = (5#8).toNat ∧ 0x105 % 256 ≠ (6#8).toNat) ∧
    ((unit []).enabled 0x90 = true ∧ (unit []).raw 0x90 6 = false ∧ (unit []).broken 0x90 6 = false ∧ (unit []).raw 0x90 4 = false) ∧
    (opened 2 [(F.FLT_AUTO_F2, 1)]).on F.FLT_AUTO_F2 = true ∧ (opened 1 [(F.FLT_AUTO_F1, 1)]).on F.FLT_AUTO_F1 = true ∧
    (unit []).on F.DEV_STAT_F4_STOP = false := by decide +kernel
/-- The device in life-cycle state Factory test, and in a round of known answers. -/
def lab : State := { unit [] with sec := { (unit []).sec with state := 1 } }
def inRound (l : List (Fld × Nat)) : State := { unit l with flt := { (unit l).flt with katOn := true } }
theorem witness_FaultInjection : lab.canonical = true ∧ lab.takes F.FLT_INJ_MODE.addr = true ∧ lab.lc = 1 ∧ (unit []).lc ≠ 1 ∧ 1 < nsrc 0x30 ∧
    nsrc 0x30 ≤ 15 ∧ lab.broken 0x30 1 = false ∧ lab.raw 0x30 1 = false ∧ (499#9).toNat < 500 ∧ 500 ≤ (500#9).toNat ∧ (16#9).toNat ≤ 16 ∧
    16 < (17#9).toNat ∧ (1#9).toNat ≤ 1 ∧ 1 < (2#9).toNat ∧
    (lab.enabled 0x90 = true ∧ lab.raw 0x90 4 = false ∧ lab.raw 0x90 2 = false ∧ lab.raw 0x90 1 = false ∧ lab.broken 0x90 1 = false) ∧
    ((inRound []).flt.katOn = true ∧ (inRound []).flt.shortOn = false ∧ (inRound []).flt.corrupt = [] ∧ lab.flt.katOn = false) ∧
    (inRound [(F.PWR_STATE_CUR.pg 0x11, 3)]).rd (F.PWR_STATE_CUR.pg 0x11) ≠ 0 := by decide +kernel
theorem witness_SensorsMemoryAndFabric_sensors : (unit []).canonical = true ∧ (unit []).enabled 0x99 = true ∧
    (∀ n : Fin 5, (unit []).broken 0x99 n.val = false) ∧ (∀ i : Fin 8, ((Vector.replicate 8 0x6900#16)[i]).toInt ≤ 0x6900) ∧
    ((Vector.replicate 8 0x6900#16)[(7 : Fin 8)]).toInt = 0x6900 := by decide +kernel
/-- A device that scrubs; one with a march on request under way. -/
def scrubs (l : List (Fld × Nat)) : State := unit (l ++ [(F.SR_SCRUB_EN, 1), (F.DR_STAT_UP.pg 0, 1)])
def march (l : List (Fld × Nat)) : State := unit ([(F.MR_CTRL_GO, 1), (F.MR_CTRL_PRESERVE, 1)] ++ l)
theorem witness_SensorsMemoryAndFabric_memory : (scrubs []).canonical = true ∧ (scrubs []).on F.SR_SCRUB_EN = true ∧
    (unit [(F.SR_SCRUB_EN, 0)]).on F.SR_SCRUB_EN = false ∧ (scrubs []).enabled 0x88 = true ∧
    (∀ n : Fin 16, (scrubs []).broken 0x88 n.val = false ∧ (scrubs []).raw 0x88 n.val = false) ∧
    ((unit []).on (F.DR_STAT_UP.pg 0) = false ∧ (scrubs []).on (F.DR_STAT_UP.pg 0) = true ∧ (scrubs []).enabled 0x89 = true) ∧
    ((unit []).takes F.MR_CTRL_GO.addr = true ∧ (unit []).on F.MR_CTRL_GO = false ∧ (unit []).on F.MR_CTRL_ABORT = false ∧
      (unit []).on F.MR_CTRL_TARGET = false) ∧
    ((unit [(F.MR_BANK, 191)]).rd F.MR_BANK < 192 ∧ (unit []).admitted 0x20 = false ∧ (up [0x20] [(F.PAGE_STAT_ADMITTED.pg 0x20, 1)]).admitted 0x20 = true) ∧
    ((unit [(F.MR_BANK, 500)]).rd F.MR_BANK = 500 ∧ (unit [(F.MR_BANK, 499)]).rd F.MR_BANK = 499 ∧ (unit [(F.MR_BANK, 496)]).rd F.MR_BANK = 496) ∧
    ((march []).on F.MR_CTRL_GO = true ∧ (march []).on F.MR_CTRL_TARGET = false ∧ (march []).on F.MR_CTRL_PRESERVE = true) ∧
    ((march [(F.MR_SEG_DONE, 14)]).rd F.MR_SEG_DONE < 15 ∧ (march [(F.MR_SEG_DONE, 15)]).rd F.MR_SEG_DONE = 15 ∧
      (march [(F.MR_SEG_DONE, 14), (F.MR_CTRL_ABORT, 1)]).on F.MR_CTRL_ABORT = true) ∧
    ((march []).enabled 0x8B = true ∧ (march []).raw 0x8B 0 = false ∧ (march []).broken 0x8B 0 = false) := by decide +kernel
theorem witness_SensorsMemoryAndFabric_fabric : (unit []).canonical = true ∧ (∃ m g : Fin 12, (fabricPaths m.val).contains g.val = true) ∧
    (∃ m g : Fin 12, (fabricPaths m.val).contains g.val = false) ∧
    (∀ n ∈ [0, 1, 2, 3], (unit []).raw 0x8C n = false ∧ (unit []).broken 0x8C n = false) ∧ (unit []).enabled 0x8C = true ∧
    (unit []).log.staged = [] ∧ ({ unit [] with log := ⟨[⟨1, 1, 2, 3, 4, 5, []⟩], [], 2, 0⟩ } : State).log.staged ≠ [] ∧
    (unit []).enabled 0x9A = true ∧ (unit []).raw 0x9A 1 = false ∧ (unit []).broken 0x9A 1 = false := by decide +kernel
/-- A device at tick 10, with a window of the power account, and with a step of shedding pending. -/
def atTick (n : Nat) (s : State) : State := s.wrAll [(F.TICK_NUM_LO, n % 2 ^ 32), (F.TICK_NUM_HI, n / 2 ^ 32)]
def powered (sum ticks : Nat) (p : Option (Nat × Nat × Bool)) (l : List (Fld × Nat)) : State :=
  { atTick 10 (unit l) with en := { (unit l).en with sum := sum, ticks := ticks, pending := p } }
/-- With regulator 7 listed, and some energy modelled since its last reading. -/
def calibrating : State :=
  let s := unit [(F.EN_CTRL, 1), (F.EN_PMB_EN.ix 7, 1)]
  { s with en := { s.en with calSum := 5, calTicks := 7 } }
theorem witness_PowerAccount : (unit []).canonical = true ∧ (unit []).enabled 0x03 = true ∧ (∀ n : Fin 5, (unit []).broken 0x03 n.val = false) ∧
    ((unit []).takes F.EN_CAP.addr = true ∧ (unit []).eng.run = none ∧ (unit []).raw 0x03 4 = false) ∧ (unit []).en.ticks = 0 ∧
    ((powered 1000000 7 none []).en.ticks ≠ 0 ∧ (powered 1000000 7 none []).on F.EN_STAT_MODE = false) ∧
    ((powered 1000000 7 none [(F.EN_STAT_MODE, 1), (F.EN_CAP, 50)]).on F.EN_STAT_MODE = true ∧ (unit []).isStandby = false ∧
      (powered 1000000 7 none []).en.pending = none ∧ (unit []).rd F.EN_STAT_SHED_LEVEL = 0 ∧ (unit [(F.EN_CAP, 50)]).rd F.EN_CAP ≠ 2 ^ 24 - 1) ∧
    ((powered 0 0 (some (1, 10, true)) []).en.pending = some (1, 10, true) ∧ (powered 0 0 (some (1, 10, true)) []).tick = 10 ∧
      (powered 0 0 (some (3, 11, false)) []).tick ≠ 11) ∧
    ((unit [(F.EN_CTRL, 0)]).rd F.EN_CTRL = 0 ∧ (∀ i : Fin 8, (unit []).on (F.EN_PMB_EN.ix i.val) = false)) ∧
    ((unit [(F.EN_CTRL, 1), (F.EN_PMB_EN.ix 7, 1)]).rd F.EN_CTRL ≠ 0 ∧ (unit [(F.EN_CTRL, 1), (F.EN_PMB_EN.ix 7, 1)]).on (F.EN_PMB_EN.ix 7) = true) ∧
    (calibrating.rd F.EN_CTRL ≠ 0 ∧ calibrating.en.calSum ≠ 0 ∧ 0 < calibrating.fs) := by
  decide +kernel
/-- R464: a DRAM delay's 4 bundles and 32 bytes cost 1.68 nJ; 15,625 of them are 26.25 µJ, 26,880 in Q22.10. -/
theorem test_energy_delay : energyUj 4 48000 (2 ^ 14) (4 * 15625) 0 (32 * 15625) 0 = 26880 := by decide +kernel

/-- An instance of type `typ`, phase `ph`, group 0, on cluster 1, of Life-safety class where `ls`, in wake group 6. -/
def instOf (typ ph : Nat) (ls : Bool) : Inst :=
  { info := ⟨typ, 0, ph, 0, 0, 0, if ls then 3 else 0, false, false, 6, 0⟩, cluster := 1, now := ⟨0, [], []⟩
    st := ⟨[], [], [], [], [7, 7, 7, 7], [], [], [], 0, 0⟩, clamped := false, ramps := [], fade := none, chained := none, env := none
    waiting := none, glide := none, word := 0, placed := true, dissolving := false, side := 0, last := [], ovr := 0, stopped := false
    fadeIn := 0, invalid := 0 }
/-- The device with that instance, whose group has been quiet for `n` ticks. -/
def quietFor (n : Nat) (l : List (Fld × Nat)) : State :=
  { unit l with eng := { (unit l).eng with insts := [instOf 0x09 1 false] }, en := { (unit l).en with quiet := [(6, n)] } }
theorem witness_WakeGroups : (quietFor 0 []).canonical = true ∧ (instOf 0x09 1 false).info.wake = 6 ∧ (instOf 0x09 1 true).info.cls = 3 ∧
    Sparse.get 0 (quietFor 0 [(F.EN_SIL_HOLD, 1)]).en.quiet 6 * (quietFor 0 []).F * 10 < (quietFor 0 [(F.EN_SIL_HOLD, 1)]).rd F.EN_SIL_HOLD * (quietFor 0 []).fs ∧
    ((quietFor 1000000 []).groupIdle 6 = false ∧
      (quietFor 1000000 []).rd F.EN_SIL_HOLD * (quietFor 1000000 []).fs ≤ Sparse.get 0 (quietFor 1000000 []).en.quiet 6 * (quietFor 1000000 []).F * 10) ∧
    ((quietFor 0 []).rd (F.PWR_STATE_CUR.pg 0x11) = 0 ∧ (quietFor 0 [(F.PWR_STATE_CUR.pg 0x11, 3)]).rd (F.PWR_STATE_CUR.pg 0x11) = 3 ∧
      (quietFor 0 []).on (F.PWR_STATE_WAKING.pg 0x11) = false ∧ (quietFor 0 []).groupIdle (instOf 0x09 1 false).info.wake = false) ∧
    ((quietFor 0 [(F.PWR_STATE_WAKING.pg 0x11, 1)]).on (F.PWR_STATE_WAKING.pg 0x11) = true ∧ (quietFor 0 []).raw 0x88 5 = false ∧
      (quietFor 0 []).broken 0x88 5 = false ∧ (quietFor 0 []).enabled 0x88 = true) := by decide +kernel
theorem witness_CapturingReads : (up [0x01, 0x03, 0x30, 0x40, 0x60, 0x70, 0x90] []).canonical = true ∧ (unit []).reads (0x30 * 4096 + 0x00C) = true ∧
    (∀ f ∈ [F.DEV_SERIAL_LO, F.OVR_TICK_LO], (unit []).reads f.addr = true) ∧ (up [0x01] []).reads F.TICK_NUM_LO.addr = true ∧
    (up [0x40] []).reads (F.AIN_CS_SEQ.pg 0).addr = true ∧ (up [0x47] []).reads (F.AIN_CS_SEQ.pg 7).addr = true ∧
    (up [F.REF_PD_SEQ.addr / 4096] []).reads F.REF_PD_SEQ.addr = true ∧ (up [F.PB_LANE1_STAT_BLOCK_ERR.addr / 4096] []).reads F.PB_LANE1_STAT_BLOCK_ERR.addr = true ∧
    (opened 4 []).reads F.FLT_TOP_SEQ.addr = true ∧ (opened 4 []).flt.entries = [⟨0x30, 1, 4, 1, 0x105⟩] ∧ (unit []).flt.entries = [] ∧
    (quietFor 0 []).eng.insts[(0xFFFF#16).toNat]? = none := by decide +kernel
/-- A device whose crosspoint has 100 inputs, 50 buses and 60 outputs. -/
def xpt (l : List (Fld × Nat)) : State := up [0x00, 0x02, 0x08, 0x20, 0x24, 0x28, 0x80] ([(F.XPT_DIM0_S, 100), (F.XPT_DIM0_BU, 50), (F.XPT_DIM1, 60)] ++ l)
/-- As the standby of a pair; with a Develop armed; in life-cycle state Secured, which makes authentication mandatory. -/
def standby (s : State) : State := { s with pair := { s.pair with formed := true, role := .standby } }
def dev (t : Nat) : Develop := { seq := 5, tick := t, lr := 0, ld := 0, classes := 15, lines := [], regs := [], withPlan := false, ls := false, armed := false, ticket := some ⟨0, 1, 2, 3, false⟩, pages := 0, confirmed := false }
def armed (d : Develop) (s : State) : State := { s with scn := { s.scn with armed := some d } }
def inState (n : Nat) (s : State) : State := { s with sec := { s.sec with state := n, keys := [[5], [6], [7]] } }
theorem witness_WindowWrites : (xpt []).canonical = true ∧ (2 % 4 ≠ 0) ∧ (standby (xpt [])).isStandby = true ∧ (xpt []).isStandby = false ∧
    (∀ x ∈ [(0x80, 7), (0x24, 0), (0x20, 1)], (xpt []).enabled x.1 = true ∧ (xpt []).raw x.1 x.2 = false ∧ (xpt []).broken x.1 x.2 = false) ∧
    ((xpt []).nodeIn 0 = true ∧ (xpt []).nodeIn (49 * 8192 + 4 * 99) = true ∧ (xpt []).mustAuth = false ∧ (xpt []).lsNode 0 = false) ∧
    ((inState 3 (xpt [(F.XPT_LS_BUS, 1)])).mustAuth = true ∧ (inState 3 (xpt [(F.XPT_LS_BUS, 1)])).lsNode 0 = true) ∧
    ((xpt []).scn.armed = none ∧ (armed (dev 10) (xpt [])).scn.armed ≠ none ∧ (armed (dev 10) (xpt [])).scn.held.length < 4096) ∧
    (0x1A01FFC % 4 = 0 ∧ 0x1A01FFC < 0x1A02000 ∧ 0x30401FC % 4 = 0 ∧ 0x30401FC < 0x3040200) := by decide +kernel
theorem witness_WindowWrites_active : (standby (xpt [])).isStandby = true ∧ 0xFFFFFC % 4 = 0 ∧ 0xFFFFFC < 0x1000000 ∧ 0x1FFFFFC % 4 = 0 ∧ 0x1FFFFFC < 0x2000000 ∧
    (∀ x ∈ [(0x80, 7), (0x24, 0)], (standby (xpt [])).enabled x.1 = true ∧ (standby (xpt [])).raw x.1 x.2 = false ∧ (standby (xpt [])).broken x.1 x.2 = false) := by
  decide +kernel
/-- A device with management ready whose rings 0, 1, 16, 17 and 32 run with four places each. -/
def host (l : List (Fld × Nat)) : State :=
  up [0x00, 0x02, 0x08, 0x09, 0x0A, 0x20, 0x24, 0x28, 0x68, 0x80] ((F.DEV_STAT_MGMT_READY, 1) ::
    (([0, 1, 16, 17, 32] : List Nat).flatMap fun r => [(F.RING_CTRL_LOG2_SIZE.ring r, 2), (F.RING_CTRL_EN.ring r, 1)]) ++ l)
/-- With buffers posted on rings 16 and 17, and on ring 32. -/
def posted (l : List (Fld × Nat)) : State := [16, 17, 32].foldl (fun s r => s.setQueue r [desc (List.replicate 64 0), desc (List.replicate 64 0)]) (host l)
theorem witness_RingOperations : (posted []).canonical = true ∧ (posted []).maps = true ∧ (posted []).on F.HOST_CTRL_RING_OWNER = false ∧
    (posted []).host.clipWait = none ∧ (host []).ringSize 0 = 4 ∧ (host []).ringRuns 0 = true ∧ (host []).ringRuns 2 = false ∧
    (∀ n ∈ [1, 2, 3], (host []).raw 0x08 n = false ∧ (host []).broken 0x08 n = false) ∧ (host []).enabled 0x08 = true ∧
    ((host []).takes (F.RING_CTRL_EN.ring 2).addr = true ∧ (host []).on (F.RING_CTRL_EN.ring 2) = false) ∧
    Sparse.get 0 (host []).host.unsignalled 16 = 0 ∧
    (Sparse.get 0 ({ host [] with host := { (host []).host with unsignalled := [(16, 2)] } } : State).host.unsignalled 16 ≠ 0 ∧
      (host [(F.RING_IRQ_VEC.ring 16, 63)]).rd (F.RING_IRQ_VEC.ring 16) = 63) ∧
    ((posted []).posted 32 = some (desc (List.replicate 64 0)) ∧ (desc (List.replicate 64 0)).reach = true ∧ 64 ≤ (desc (List.replicate 64 0)).bufLen.toNat ∧
      (posted []).outstanding 16 < ((posted []).queueOf 32).length ∧ (host []).posted 32 = none) ∧
    ({ posted [] with host := { (posted []).host with events := [(32, [⟨1, 1, 2, 3, 4, 5, []⟩])] } } : State).maps = true ∧
    ({ posted [] with host := { (posted []).host with due := [(32, [1, 2, 3])] } } : State).host.due = (32, [1, 2, 3]) :: [] := by decide +kernel
/-- With an event that waits on ring 17, its buffer as `d`. -/
def eventOn17 (d : Desc) : State :=
  let s := (host []).setQueue 17 [d, d]
  { s with host := { s.host with events := [(17, [⟨1, 1, 2, 3, 4, 5, []⟩])] } }
theorem witness_RingOperations_events : (∀ d ∈ [desc [], { desc [] with reach := false }, { desc [] with dest := false }],
      (eventOn17 d).canonical = true ∧ (eventOn17 d).maps = true ∧ Sparse.get [] (eventOn17 d).host.events 17 = ⟨1, 1, 2, 3, 4, 5, []⟩ :: [] ∧
      (eventOn17 d).posted 17 = some d ∧ (eventOn17 d).outstanding (17 - 16) < ((eventOn17 d).queueOf 17).length) ∧
    ((eventOn17 (desc [])).enabled 0x08 = true ∧ (eventOn17 (desc [])).raw 0x08 1 = false ∧ (eventOn17 (desc [])).broken 0x08 1 = false) ∧
    ((desc []).reach = true ∧ (desc []).dest = true) := by decide +kernel
theorem witness_SpiTransactions : (host []).canonical = true ∧ (host []).on F.SPI_CTRL = false ∧ (host [(F.SPI_CTRL, 1)]).on F.SPI_CTRL = true ∧
    ((0x0FFFFFFC#32).toNat < 2 ^ 28 ∧ (0x0FFFFFFC#32).toNat % 4 = 0) ∧ (2 ^ 28 ≤ (0x10000000#32).toNat ∧ (0x1FFFFFFC#32).toNat < 2 ^ 29) ∧
    (2 ^ 29 ≤ (0x20000000#32).toNat ∧ (0x2000FFFC#32).toNat < 2 ^ 29 + 2 ^ 16) ∧ 3 * 2 ^ 28 ≤ (0x30000000#32).toNat ∧
    (2 ≤ [0#8, 0, 0, 0, 7, 9].length ∧ [0#8, 0, 0, 0, 7, 9].drop 4 ≠ beBytes 2 (crc16 (0x02 :: beBytes 4 0 ++ [0, 0, 0, 0]))) ∧
    ((host []).reads 0x40 = true ∧ capturesOf 0x40 = []) := by decide +kernel
theorem witness_SpiTransactions_rings : (let a := (F.RING_TAIL.ring 31).addr
     runsRing a = true ∧ a < 2 ^ 28 ∧ a % 4 = 0 ∧ (host []).on (F.PAGE_STAT_READY.pg (a / 4096)) = true) ∧ runsRing 0x40 = false ∧
    (host []).on F.HOST_CTRL_RING_OWNER = false ∧ (host [(F.HOST_CTRL_RING_OWNER, 1)]).on F.HOST_CTRL_RING_OWNER = true := by decide +kernel
/-- A descriptor by opcode and body. -/
def cmd (op : Nat) (b : List Byte) : Desc := { desc b with op := BitVec.ofNat 16 op }
theorem witness_CommandChecks : hostDesc (.nop 1 (cmd 0 [])) = some (1, cmd 0 []) ∧ (posted []).canonical = true ∧ (posted []).maps = true ∧
    (posted []).ready 0 = true ∧ (posted []).ready 1 = true ∧ adminOnly 0 = false ∧ adminOnly 0x90 = true ∧
    ((cmd 0 [1]).auth = false ∧ lenOk 0 (posted []).lc 1 = false ∧ lenOk 0 (posted []).lc 0 = true) ∧
    ({ cmd 0 [] with flags := 1 }.auth = true ∧ { cmd 0 [] with flags := 1 }.bufLen.toNat < 16) ∧
    ({ cmd 0x11 [0, 0, 0, 0] with reach := false }.reach = false ∧ { cmd 0x11 [0, 0, 0, 0] with reach := false }.bufLen ≠ 0) ∧
    ((inState 3 (posted [])).mustAuth = true ∧ (cmd 0 []).role.toNat = 3 ∧ 2 ≤ (inState 3 (posted [])).lc) ∧
    ((inState 3 (posted [])).sec.tampered = false ∧ (inState 3 (posted [])).sec.keys.getD 2 [] ≠ []) ∧
    ((posted []).mustAuth = false ∧ minRole 0x10 = some 1 ∧ minRole 0x20 = some 2 ∧ (4#8).toNat > 3) ∧
    ((posted [(F.MB_BOOT_STAGE, 7)]).inRecovery = true ∧ (∃ op ∈ List.range 64, recoveryTakes op = false) ∧ (posted []).inRecovery = false) ∧
    ((standby (posted [])).isStandby = true ∧ (∃ op ∈ List.range 64, standbyTakes op = false) ∧ (posted []).lc ≠ 4) ∧
    ((posted []).posted 16 = some (desc (List.replicate 64 0)) ∧ (posted []).raw 0x08 3 = false) := by decide +kernel
theorem witness_CommandChecks_seq : (posted []).rd (seqField 3) < (cmd 0 []).seq.toNat ∧ { cmd 0 [] with seq := 0 }.seq.toNat ≤ (posted []).rd (seqField 3) ∧
    (1 ≤ (cmd 0 []).role.toNat ∧ (cmd 0 []).role.toNat ≤ 3) ∧ (desc (List.replicate 64 0)).dest = true ∧ ((posted []).posted (16 + 0)).all (·.dest) = true := by decide +kernel
/-- A response buffer that cannot be written, on the response ring of ring 1. -/
theorem witness_CommandChecks_unwritable : (let s := (host []).setQueue 17 [{ desc [] with dest := false }]
     s.canonical = true ∧ s.maps = true ∧ s.posted (16 + 1) = some { desc [] with dest := false } ∧ s.ringRuns 1 = true ∧ s.enabled 0x08 = true ∧
       s.raw 0x08 1 = false ∧ s.broken 0x08 1 = false) := by decide +kernel

/-! Develops, plans, the recorder, clips, triggers, secure memory and resets. -/

/-- Every page that the events below use, ready and enabled, at tick 10. -/
def box (l : List (Fld × Nat)) : State :=
  atTick 10 (up [0x00, 0x01, 0x02, 0x08, 0x20, 0x24, 0x28, 0x40, 0x48, 0x50, 0x58, 0x60, 0x68, 0x70, 0x71, 0x72, 0x78, 0x7F, 0x80, 0x81, 0x83, 0x88, 0x90, 0x98, 0xA0] l)
/-- A plan as admitted; disruptive where `d`. -/
def adm (d : Bool) : Admitted :=
  { plan := ⟨0, 0, 1, 1, 1, false, [], [], [], [], []⟩, allowance := 0, place := [], kept := [], coef := [], disruptive := d, places := [],
    rB := 4, rD := 4, path := [], pathRes := [], tB := 0, tD := 0, worstMw := 0, expMw := 0, dramMbps := 0, latency := [] }
def arming (d : Develop) (s : State) : State := { s with scn := { s.scn with arming := some d } }
def planned (a : Admitted) (s : State) : State := { s with eng := { s.eng with pend := some a, run := some (adm false) } }
def oneLine (l : Nat) (w c : Bool) : Develop := { dev 10 with lines := [(l, List.replicate 64 3)], ticket := none, armed := true, withPlan := w, confirmed := c }
theorem witness_Develops : (box []).canonical = true ∧ (box []).tick = 10 ∧ (box []).scn.arming = none ∧ (box []).scn.armed = none ∧
    (box []).scn.held = [] ∧ (dev 14).ticket ≠ none ∧
    ((arming (dev 14) (box [])).scn.arming = some (dev 14) ∧ (box []).tick + 4 ≤ (dev 14).tick ∧ (dev 14).tick < 2 ^ 64) ∧
    (dev 13).tick < (box []).tick + 4 ∧ (armed (dev 11) (box [])).scn.armed = some (dev 11) ∧ (dev 11).tick ≠ (box []).tick ∧
    ((standby (box [])).isStandby = true ∧ (dev 10).confirmed = false ∧ (dev 10).tick = (box []).tick) ∧ (box []).isStandby = false ∧
    ((oneLine (2 ^ 18 - 1) false true).withPlan = false ∧ (oneLine 0 false true).lines = [(0, List.replicate 64 3)] ∧
      (List.replicate 64 (3 : Byte)).length = 64 ∧ (2 ^ 18 - 1) < 2 ^ 18 ∧ (oneLine 0 false true).regs = [] ∧ (oneLine 0 false true).seq < 2 ^ 32) ∧
    ((oneLine 0 true false).withPlan = true ∧ (planned (adm true) (armed (oneLine 0 true false) (box []))).eng.pend = some (adm true) ∧
      (adm true).disruptive = true ∧ (adm false).disruptive = false) := by decide +kernel
theorem witness_Develops_journal : (let s := arming (dev 14) (box [(F.JRNL_SIZE, 4096)])
     s.canonical = true ∧ s.scn.arming = some (dev 14) ∧ s.flt.pfailSeq = false ∧ s.journalFits (.develop (dev 14) (s.planOf (dev 14))) = true) ∧
    (let s := arming (dev 14) (box [])
     s.journalFits (.develop (dev 14) (s.planOf (dev 14))) = false ∧ ({ s with flt := { s.flt with pfailSeq := true } } : State).flt.pfailSeq = true) := by decide +kernel
theorem witness_Develops_nodes : lineClass 0 = 0 ∧ lineClass (2 ^ 18 - 1) ≠ 0 ∧ (box [(F.XPT_DIM0_S, 1), (F.XPT_DIM0_BU, 1)]).nodeIn 0 = true ∧
    (box [(F.XPT_DIM0_S, 1), (F.XPT_DIM0_BU, 1)]).nodeIn 4 = false := by decide +kernel

/-- A restart that starts at tick `n`; the one instance `i`. -/
def restarts (n : Nat) : State := { box [] with eng := { (box []).eng with restart := some ⟨5, n, adm true, dev 10⟩ } }
def holds (l : List Inst) (s : State) : State := { s with eng := { s.eng with insts := l } }
def waits (r : Bool) : Inst := { instOf 1 0 false with waiting := some ⟨5, 3, ⟨0, [], []⟩, 2 ^ 40, r⟩, placed := false }
/-- A running plan whose clusters have four places each. -/
def roomy (s : State) : State := { s with eng := { s.eng with proc := some { adm false with places := List.replicate 16 4, place := [0, 0, 0] } } }
theorem witness_PlanStartsAndDissolves : (box []).canonical = true ∧ (box []).eng.restart = none ∧
    ((restarts 11).eng.restart = some ⟨5, 11, adm true, dev 10⟩ ∧ (restarts 11).tick < 11 ∧ 10 ≤ (restarts 10).tick) ∧
    (box []).on F.CG_STAT_GLIDING = false ∧ (box [(F.CG_STAT_GLIDING, 1)]).on F.CG_STAT_GLIDING = true ∧
    ((roomy (holds [waits false] (box []))).eng.insts[(0#16).toNat]? = some (waits false) ∧ (roomy (holds [waits false] (box []))).frame < 2 ^ 40 ∧
      (∀ j < 5, ∀ x, [waits false][j]? = some x → j ≠ 0 → x.waiting = none) ∧ 0 < (roomy (holds [waits false] (box []))).freePlaces 1) ∧
    (holds [waits false] (box [])).freePlaces 1 = 0 ∧
    ((instOf 1 0 false).ramps = [] ∧ (instOf 1 0 false).fade = none ∧ (instOf 1 0 false).chained = none ∧ (instOf 1 0 false).waiting = none ∧
      (instOf 1 0 false).dissolving = false ∧ ({ instOf 1 0 false with dissolving := true } : Inst).dissolving = true) ∧
    ({ instOf 1 0 false with chained := some (⟨1, [], []⟩, 64) } : Inst).chained = some (⟨1, [], []⟩, 64) := by decide +kernel

/-- A FIX under way in slot 0; a recorder. -/
def fixing (ph : Nat) : State :=
  { box [(F.FIX_STAT_PHASE, ph)] with scn := { (box []).scn with fix := some ⟨none, [], [], [], 5, [], 9⟩, slots := [⟨none, []⟩, ⟨none, []⟩], slot := 1 } }
def records (r : Recorder) (s : State) : State := { s with eng := { s.eng with recorder := r } }
def frozen (n : Nat) : Recorder := { Recorder.rest with frozen := true, draining := true, ring := 56, from_ := 1, freezeTick := n, fill := 3, tape := [⟨3, 0, [1, 2]⟩] }
def onRing56 : State := (box [(F.RING_CTRL_LOG2_SIZE.ring 56, 2), (F.RING_CTRL_EN.ring 56, 1)]).setQueue 56 [desc (List.replicate 64 0)]
theorem witness_FixAndRecorder : (box []).canonical = true ∧ (box [(F.FIX_STAT_PHASE, 1)]).rd F.FIX_STAT_PHASE = 1 ∧ (box []).rd F.FIX_STAT_PHASE ≠ 1 ∧
    (box []).scn.fix = none ∧ (fixing 1).rd F.FIX_STAT_PHASE = 1 ∧ (fixing 2).rd F.FIX_STAT_PHASE = 2 ∧ ((fixing 3).scn.fix = some ⟨none, [], [], [], 5, [], 9⟩ ∧ (fixing 3).scn.slots.length = 2 ∧ (fixing 3).scn.slot ≤ 1 ∧
      (fixing 3).rd F.FIX_STAT_PHASE = 3 ∧ (fixing 6).rd F.FIX_STAT_PHASE = 6 ∧ (fixing 6).scn.fixTicket = none ∧ (fixing 6).isStandby = false) ∧
    ((fixing 3).enabled 0x24 = true ∧ (fixing 3).raw 0x24 2 = false ∧ (fixing 3).broken 0x24 2 = false) ∧
    (records (frozen 4) (box [])).canonical = true ∧ (frozen 4).frozen = true ∧ (frozen 4).draining = true ∧ (Recorder.rest.draining = false) ∧
    ({ frozen 4 with draining := false } : Recorder).draining = false ∧ (records (frozen 4) (box [])).posted 56 = none ∧
    (records (frozen 4) (box [])).frozenTicks = [(3, [1, 2])] ∧ (frozen 4).autoAt ≤ (box []).ms ∧ (box []).ms < ({ frozen 4 with autoAt := 1 } : Recorder).autoAt ∧ (records { frozen 4 with from_ := 9 } (box [])).frozenTicks = [] ∧
    ((records (frozen 4) onRing56).posted 56 = some (desc (List.replicate 64 0)) ∧ 16 + 4 * [1#32, 2].length ≤ (desc (List.replicate 64 0)).bufLen.toNat) ∧
    Recorder.rest.autoPending = false ∧ ({ Recorder.rest with autoPending := true } : Recorder).autoPending = true ∧
    (instOf 0x09 0 false).info.typ = 0x09 ∧ (holds [instOf 0x09 0 false] (box [])).eng.insts[(0#16).toNat]? = some (instOf 0x09 0 false) := by decide +kernel
/-- A FIX that waits for its snapshot at tick `n`. -/
def snapping (n : Nat) : State := { box [(F.FIX_STAT_PHASE, 1)] with scn := { (box []).scn with fixAt := n, slots := [⟨none, []⟩, ⟨none, []⟩] } }
theorem witness_FixAndRecorder_snapshot : (snapping 10).canonical = true ∧ (snapping 10).rd F.FIX_STAT_PHASE = 1 ∧ (snapping 10).scn.fix = none ∧
    (snapping 10).scn.fixAt = (snapping 10).tick ∧ (snapping 10).nothingDue 8 = true ∧ (snapping 10).eng.starts = [] ∧ (snapping 11).scn.fixAt ≠ (snapping 11).tick ∧
    (snapping 10).scn.slots.length = 2 ∧ (snapping 10).scn.slot ≤ 1 ∧ (snapping 10).scn.fixTicket = none ∧ (desc []).reach = true ∧ (desc []).dest = true := by decide +kernel

/-- A start of player 1 at tick 10; players that play clip 3; inputs and firings. -/
def starting (c : Bool) : ClipStart := ⟨10, 1, some 3, false, 255, c, false⟩
def playing (p : Player) : State := { box [] with eng := { (box []).eng with players := List.replicate 32 p, clips := [⟨3, 0, 1, 4, 0, [1, 2, 3, 4]⟩] } }
def at3 (p : Nat) : Player := { Player.rest with clip := some 3, pos := p }
def inputs (t : Trigger) (f : List Firing) : State := { box [(F.XPT_DIM0_BU, 6)] with eng := { (box []).eng with trigs := List.replicate 8 t, firings := f } }
def raise15 : List Byte := [0, 3, 0, 0, 5, 0, 15, 0, 0, 0, 0, 0, 0, 0, 0, 0]
theorem witness_ClipAndTriggerEvents : (box []).canonical = true ∧ (box []).nothingDue 8 = true ∧ (inputs .rest [⟨7, true, 10, [(4, raise15)], false⟩]).nothingDue 7 = true ∧
    ({ box [] with eng := { (box []).eng with starts := [starting true] } } : State).nothingDue 8 = true ∧ (box []).eng.starts = [] ∧ (starting false).tick = (box []).tick ∧ (starting false).taken = false ∧
    (starting false).player = (1 : Fin 32).val ∧ (starting false).confirmed = false ∧ (starting true).confirmed = true ∧ (starting true).preset = 255 ∧
    (playing (at3 4)).eng.players[(1 : Fin 32).val]? = some (at3 4) ∧ (at3 4).looping = false ∧ 4 ≤ (at3 4).pos ∧ (at3 3).pos < 4 ∧
    ({ at3 0 with stopLen := 5 } : Player).stopLeft = 0 ∧ ({ at3 9 with looping := true } : Player).stopLen = 0 ∧
    ((inputs .rest []).eng.trigs[(7 : Fin 8).val]? = some .rest ∧ Trigger.rest.fault = false ∧ Trigger.rest.asserted = false ∧
      (inputs .rest []).debounce 7 ≤ 1000 ∧ Trigger.rest.other < (inputs .rest []).debounce 7 ∧ (inputs .rest []).pair.role = .active) ∧
    ((inputs .rest []).enabled 0x58 = true ∧ (inputs .rest []).trigRd F.TRIG_CFG_FAULT_POLICY 7 = 0 ∧ (inputs .rest []).broken 0x58 7 = false ∧
      Trigger.rest.asserted = (Trigger.rest.reading == 1)) ∧
    ((inputs .rest [⟨7, true, 10, [(4, raise15)], false⟩]).tick = 10 ∧ (inputs .rest []).isStandby = false ∧ (standby (inputs .rest [])).isStandby = true) ∧
    (fieldAt raise15 1 1 = 3 ∧ fieldAt raise15 4 2 < (inputs .rest []).rd F.XPT_DIM0_BU ∧ fieldAt raise15 6 1 = 15) := by decide +kernel
/-- At its tick a standby drops the Develop whose confirm has not come: no Develop is armed after it (R304). -/
theorem witness_ClipAndTriggerEvents_develop : gives .developCommit (standby (armed (dev 10) (box []))) (fun u => u.scn.armed.isNone) = true := by decide +kernel

/-- A zeroising under way that an advance from state `n` waits for; tamper pins and KILL; a trial slot. -/
def zeroising (n : Nat) : State :=
  { box [(F.SR_SECURE_ZEROISING, 1)] with sec := { (box []).sec with state := n, adv := some (⟨0, 1, 2, 3, false⟩, List.replicate 96 1), keys := [[1], [2], [3]] } }
def flashed (slot : Nat) (trial d0 d1 v : Bool) (s : State) : State :=
  { s with flash := { s.flash with slot := slot, trial := trial, attempted := trial, dir0 := d0, dir1 := d1, a := ⟨1, 5, 1, v⟩, b := ⟨2, 6, 2, v⟩ } }
def updating : State := { box [] with upd := some ⟨List.replicate 256 0, 3, 2, [], 0, false⟩ }
theorem witness_SecureMemory : (zeroising 0).canonical = true ∧ (box []).on F.SR_SECURE_ZEROISING = false ∧ (zeroising 0).on F.SR_SECURE_ZEROISING = true ∧
    (box []).sec.adv = none ∧ ((box []).enabled 0x88 = true ∧ (box []).raw 0x88 6 = false ∧ (box []).broken 0x88 6 = false) ∧
    (∀ n ∈ [0, 1, 2, 3], (zeroising n).sec.adv = some (⟨0, 1, 2, 3, false⟩, List.replicate 96 1) ∧ (zeroising n).sec.state ≤ 3) ∧
    (zeroising 0).sec.duk = [] ∧ (zeroising 1).sec.keyKill = false ∧
    ((box [(F.LC_TAMPER_CFG_PIN_EN, 2)]).rd F.LC_TAMPER_CFG_PIN_EN).testBit 0 = false ∧ ((box [(F.LC_TAMPER_CFG_PIN_EN, 2)]).rd F.LC_TAMPER_CFG_PIN_EN).testBit 1 = true ∧
    (box []).upd = none ∧ updating.upd = some ⟨List.replicate 256 0, 3, 2, [], 0, false⟩ ∧
    ((box []).enabled 0x98 = true ∧ (box []).raw 0x98 2 = false ∧ (box []).broken 0x98 2 = false) ∧ (box []).on F.MB_BOOT_TRIAL = false ∧
    ((box [(F.MB_BOOT_TRIAL, 1), (F.TICK_STAT_RUNNING, 1)]).on F.MB_BOOT_TRIAL = true ∧ (box [(F.MB_BOOT_TRIAL, 1), (F.TICK_STAT_RUNNING, 1)]).on F.TICK_STAT_RUNNING = true) ∧
    ((flashed 1 true true true true (box [])).flash.trial = true ∧ (flashed 1 true true true true (box [])).flash.attempted = true ∧
      (flashed 1 true true true true (box [])).flash.dir0 = true ∧ (flashed 1 true true true true (box [])).flash.slot ≤ 1 ∧
      ((flashed 1 true true true true (box [])).flash.fw (1 - 1)).valid = true) := by decide +kernel

/-- A device in reset by cause `c`. -/
def down (c : Nat) : State := box [(F.DEV_STAT_MGMT_READY, 0), (F.MB_RESET_CAUSE, c), (F.MB_BOOT_STAGE, 0)]
theorem witness_Resets : (box []).canonical = true ∧ (box []).upd = none ∧ (box []).rd F.FIX_STAT_PHASE = 0 ∧ (box []).eng.restart = none ∧
    (box []).eng.incoming = none ∧ (box []).scn.armed = none ∧ (box []).scn.held = [] ∧ (inState 3 (box [])).deployed = true ∧ (box []).deployed = false ∧
    (posted []).on F.DEV_STAT_MGMT_READY = true ∧ (box []).on F.SCN_STAT_FIX_BUSY = false ∧ (posted []).flash.slot = (posted []).rd F.MB_BOOT_SLOT ∧
    (posted []).upd = none ∧ (posted []).on F.SCN_STAT_FIX_BUSY = false ∧ ((box []).enabled 0x90 = true ∧ (box []).raw 0x90 3 = false ∧ (box []).broken 0x90 3 = false) ∧
    ((down 1).canonical = true ∧ (down 1).on F.DEV_STAT_MGMT_READY = false ∧ (down 1).rd F.MB_BOOT_STAGE = 0 ∧ (down 1).rd F.MB_RESET_CAUSE = 1 ∧
      (down 2).rd F.MB_RESET_CAUSE = 2 ∧ (down 2).eng.run = none ∧ (down 1).scn.slots = [⟨none, []⟩, ⟨none, []⟩] ∧ (down 1).on F.DEV_STAT_ENGINE = false) ∧
    ((flashed 0 false false false true (down 1)).flash.dir0 = false ∧ (flashed 0 false false false true (down 1)).flash.dir1 = false) ∧
    ((flashed 0 false true true true (down 1)).flash.dir0 = true ∧ ((flashed 0 false true true true (down 1)).flash.fw 0).valid = true ∧
      (flashed 0 false true true true (down 1)).flash.trial = false) ∧
    (box []).on F.HOST_CTRL_RING_OWNER = false ∧ (box []).flt.pfailSeq = false ∧
    ({ box [] with flt := { (box []).flt with pfailSeq := true } } : State).flt.pfailSeq = true := by decide +kernel

/-! Lanes. -/

/-- Lane `n` in state `st` of its bring-up. -/
def laneIn (n st : Nat) (l : List (Fld × Nat)) : State := box ((F.LANE_STAT_STATE.pg n, st) :: l)
/-- With so many attempts, and counts of low and high figures of merit, on every lane. -/
def lanesAt (at_ lo hi : Nat) (s : State) : State :=
  { s with net := { s.net with lanes := s.net.lanes.map fun l => { l with attempts := at_, low := lo, high := hi } } }
theorem witness_LaneBringUp : (∀ n ∈ [0, 4, 7], ∀ st ∈ [0, 1, 2, 3, 4, 5, 6, 7], (laneIn n st []).rd (F.LANE_STAT_STATE.pg n) = st) ∧
    (laneIn 7 4 []).canonical = true ∧ (lanesAt 2 9 9 (laneIn 7 4 [])).net.lanes[(7 : Fin 8)].attempts = 2 ∧
    (laneIn 7 4 []).net.lanes[(7 : Fin 8)].attempts < 2 ∧
    ((laneIn 7 4 []).rd (F.LANE_FOM_CFG_FOM_MIN.pg 7) ≤ min 255 (2 * (255#8).toNat * (255#8).toNat / 64)) ∧
    (min 255 (2 * (0#8).toNat * (0#8).toNat / 64) < (laneIn 7 4 [(F.LANE_FOM_CFG_FOM_MIN.pg 7, 1)]).rd (F.LANE_FOM_CFG_FOM_MIN.pg 7)) ∧
    (min 255 (2 * (0#8).toNat * (0#8).toNat / 64) < (laneIn 7 6 [(F.LANE_FOM_CFG_FOM_WARN.pg 7, 1)]).rd (F.LANE_FOM_CFG_FOM_WARN.pg 7)) ∧
    (∀ n ∈ [1, 2], (laneIn 7 4 []).enabled (0x78 + 7) = true ∧ (laneIn 7 4 []).raw (0x78 + 7) n = false ∧ (laneIn 7 4 []).broken (0x78 + 7) n = false) ∧
    (9 ≤ (lanesAt 2 9 9 (laneIn 7 6 [])).net.lanes[(7 : Fin 8)].low ∧ (lanesAt 2 8 8 (laneIn 7 6 [])).net.lanes[(7 : Fin 8)].low < 9) ∧
    (laneIn 7 5 []).rd F.PB_STAT_STATE ≤ 1 ∧ 1 < (laneIn 7 5 [(F.PB_STAT_STATE, 2)]).rd F.PB_STAT_STATE ∧
    (∀ k : Fin 4, (box []).rd (F.LANE_TEST_LOOP.pg k.val) = 0 ∧ (box []).rd (F.LANE_TEST_TX_PAT.pg k.val) = 0 ∧ (box []).rd (F.LANE_TEST_RX_PAT.pg k.val) = 0) := by
  decide +kernel
/-- A lane under test, looped back, with pattern 3. -/
def tested : State := laneIn 0 7 [(F.LANE_TEST_LOOP, 1), (F.LANE_TEST_TX_PAT, 3), (F.LANE_TEST_RX_PAT, 3), (F.LANE_INJ_RATE, 2), (F.LANE_PRBS_STAT_SYNC, 1)]
theorem witness_LaneTests : tested.canonical = true ∧ tested.takes (F.LANE_TEST_LOOP.pg 0).addr = true ∧ tested.takes (F.LANE_INJ_ONE.pg 0).addr = true ∧
    (box []).laneInUse 0 = false ∧ (laneIn 0 6 []).laneInUse 0 = true ∧
    ((laneIn 0 6 []).enabled 0x78 = true ∧ (laneIn 0 6 []).raw 0x78 3 = false ∧ (laneIn 0 6 []).broken 0x78 3 = false) ∧
    ((box []).rd (F.LANE_TEST_TX_PAT.pg 0) = 0 ∧ tested.rd (F.LANE_TEST_TX_PAT.pg 0) ≠ 0 ∧ tested.rd (F.LANE_INJ_RATE.pg 0) ≠ 0 ∧
      tested.rd (F.LANE_TEST_LOOP.pg 0) = 1 ∧ tested.on (F.LANE_PRBS_STAT_SYNC.pg 0) = true ∧
      tested.rd (F.LANE_TEST_RX_PAT.pg 0) = tested.rd (F.LANE_TEST_TX_PAT.pg 0) ∧ (box []).rd (F.LANE_TEST_RX_PAT.pg 0) = 0) ∧
    (((box []).rd F.PB_STAT_LANES_UP).testBit 1 = false ∧ ((box [(F.PB_STAT_LANES_UP, 2)]).rd F.PB_STAT_LANES_UP).testBit 1 = true ∧
      (64#8).toNat ≤ 64 ∧ 64 < (65#8).toNat ∧ (box []).enabled 0x81 = true ∧ (box []).raw 0x81 3 = false ∧ (box []).broken 0x81 3 = false) := by decide +kernel
/-- With a marker of count 5 expected on Porbuod lane 1. -/
def expects5 : State :=
  let s := box [(F.PB_STAT_LANES_UP, 2)]
  { s with net := { s.net with lanes := s.net.lanes.map fun l => { l with marker := some 5 } } }
theorem witness_LaneTests_marker : ((box [(F.PB_STAT_LANES_UP, 2)]).net.lanes[Fin.ofNat 8 (6 + 1)]).marker = none ∧
    (expects5.net.lanes[Fin.ofNat 8 (6 + 1)]).marker = some (5#24).toNat ∧ (5#24) ≠ 6#24 ∧ expects5.canonical = true ∧ (expects5.rd F.PB_STAT_LANES_UP).testBit 1 = true ∧
    markerBytes 1 5 0xFFFF ≠ [] := by decide +kernel

/-! The reference, the clocks and the network. -/

/-- Slots 0 and 1 named, of ranks 3 and 4, both from REFCLK's crystal, slot 2 the word clock; in state `st`, slot `sel` selected, the slots of `q` qualified. -/
def refs (st sel q : Nat) (l : List (Fld × Nat)) : State :=
  box ([(F.REF_CAND_EN.ix 0, 1), (F.REF_CAND_RANK.ix 0, 3), (F.REF_CAND_SRC.ix 0, 4), (F.REF_CAND_EN.ix 1, 1), (F.REF_CAND_RANK.ix 1, 4), (F.REF_CAND_SRC.ix 1, 4),
    (F.REF_STAT_SEL, sel), (F.REF_STAT_STATE, st), (F.REF_QUAL_QUALIFIED, q), (F.REF_CTRL2_REVERT_S, 4), (F.REF_CAND_WIN.ix 0, 10)] ++ l)
def onClk (f : ClkSt → ClkSt) (s : State) : State := { s with clk := f s.clk }
def steady : State → State := onClk fun c => { c with cands := .replicate 8 ⟨true, true⟩ }
def switching (n : Nat) : State → State := onClk fun c => { c with toSwitch := some 2, hist := List.replicate n 5 }
theorem witness_ReferenceSelector : (refs 2 0 1 []).canonical = true ∧ (box []).candOn 0 = false ∧
    ((refs 2 0 1 []).candOn 0 = true ∧ (refs 2 0 1 []).srcUsable ((refs 2 0 1 []).candSrc 0) = true ∧
      (160#16).toInt.natAbs ≤ 16 * (refs 2 0 1 []).rd (F.REF_CAND_WIN.ix 0) ∧ 16 * (refs 2 0 1 []).rd (F.REF_CAND_WIN.ix 0) < (161#16).toInt.natAbs ∧
      (refs 2 0 1 []).qual 0 = true ∧ (refs 2 0 1 []).rd F.REF_STAT_SEL = 0 ∧ (refs 2 1 1 []).rd F.REF_STAT_SEL ≠ 0) ∧
    ((refs 2 0 1 []).enabled 0x70 = true ∧ (refs 2 0 1 []).raw 0x70 0 = false ∧ (refs 2 0 1 []).broken 0x70 0 = false) ∧
    ((steady (refs 3 8 0 [])).clk.cands[(0 : Fin 8)] = ⟨true, true⟩ ∧ (refs 3 8 0 []).rd F.REF_STAT_SEL = 8 ∧ (refs 3 8 0 []).clk.toSwitch = none ∧
      (refs 3 8 0 []).isStandby = false ∧ (∀ j : Fin 8, (refs 3 8 0 []).qual j.val = false) ∧ (refs 3 8 0 []).rd F.REF_STAT_STATE = 3) ∧
    ((refs 2 1 2 []).rd F.REF_STAT_SEL ≠ 8 ∧ (refs 2 1 2 []).qual 0 = false) ∧ (box []).clk.cands[(0 : Fin 8)].usable = false ∧
    ((switching 1999 (refs 1 0 0 [])).clk.toSwitch = some 2 ∧ (switching 1999 (refs 1 0 0 [])).bestCand = none ∧ (switching 2000 (refs 1 0 0 [])).bestCand = none ∧
      (switching 1999 (refs 1 0 0 [])).clk.hist.length < 2000 ∧ 2000 ≤ (switching 2000 (refs 1 0 0 [])).clk.hist.length) ∧
    ((switching 0 (refs 2 0 2 [])).bestCand = some 1 ∧ (refs 2 0 2 []).rd F.REF_STAT_STATE = 2) ∧ (box [(F.REF_CTRL2_REVERT_S, 0)]).rd F.REF_CTRL2_REVERT_S = 0 ∧
    ((refs 2 1 3 []).qual 0 = true ∧ (refs 2 1 3 []).rd F.REF_STAT_SEL = 1 ∧ (refs 2 1 3 []).rd F.REF_CTRL2_REVERT_S ≠ 0 ∧
      (refs 2 1 3 []).rd (F.REF_CAND_RANK.ix 0) < (refs 2 1 3 []).rd (F.REF_CAND_RANK.ix ((refs 2 1 3 []).rd F.REF_STAT_SEL))) := by decide +kernel
theorem witness_MediaClock : ((refs 2 0 1 []).onPps = true ∧ (refs 2 0 1 [(F.REF_EXT_EXT_MODE, 1)]).onPps = false ∧
    (refs 2 0 1 [(F.REF_EXT_EXT_MODE, 1)]).rd F.REF_STAT_STATE = 2 ∧ (refs 2 0 1 [(F.REF_EXT_EXT_MODE, 1)]).on F.REF_STAT_SLEWING = false) ∧ (refs 2 0 1 []).canonical = true ∧ (refs 2 0 1 []).on F.REF_STAT_SLEWING = false ∧
    ((refs 2 0 1 [(F.REF_STAT_SLEWING, 1)]).on F.REF_STAT_SLEWING = true ∧ (refs 2 0 1 []).rd F.REF_STAT_STATE = 2 ∧ (refs 1 0 1 []).rd F.REF_STAT_STATE = 1) ∧
    (((refs 1 0 1 [(F.REF_NCO, 2 ^ 32 - 659706977)]).rdS F.REF_NCO).natAbs ≤ 659706977 ∧ (refs 1 0 1 []).clk.toSwitch = none ∧ (switching 0 (refs 1 0 1 [])).clk.toSwitch ≠ none) ∧
    ((refs 1 0 1 [(F.REF_CTRL1_SLEW, 10)]).rdS F.REF_NCO = 0 ∧ (1099 - 0 : Int).natAbs ≤ (((refs 1 0 1 [(F.REF_CTRL1_SLEW, 10)]).rd F.REF_CTRL1_SLEW * 2 ^ 40 / 10 ^ 10 : Nat) : Int).natAbs) ∧
    ((refs 3 8 0 [(F.REF_HOLD, 1099)]).rdS F.REF_HOLD = 1099 ∧ (refs 3 8 0 []).rd F.REF_STAT_STATE = 3) ∧
    ((onClk (fun c => { c with written := some 77 }) (refs 4 8 0 [])).clk.written = some 77 ∧ (refs 4 8 0 []).rd F.REF_STAT_STATE = 4) ∧
    (refs 2 0 1 []).rd F.REF_STAT_SEL < 8 ∧ ((refs 4 8 0 []).takes F.REF_CTRL_OPEN.addr = true ∧ (refs 4 8 0 []).enabled 0x70 = true) ∧
    ((refs 4 8 2 []).bestCand = some 1 ∧ (refs 4 8 0 []).bestCand = none ∧ (refs 4 8 0 []).clk.written = none) ∧
    ((box []).takes F.REF_NCO.addr = true ∧ (box []).takes F.ALIGN.addr = true ∧ (box []).takes F.TICK_MATCH_LO.addr = true) ∧
    (((box [(F.ALIGN, 6)]).rd F.ALIGN).testBit 2 = true ∧ ((box [(F.ALIGN, 6)]).rd F.ALIGN).testBit 1 = true ∧ ((box [(F.ALIGN, 6)]).rd F.ALIGN).testBit 0 = false ∧
      (box []).on (F.TD_STAT_ANCHORED.pg ((box []).rd F.PPS_CTRL_PPS_TD)) = false ∧
      (box [(F.TD_STAT_ANCHORED, 1)]).on (F.TD_STAT_ANCHORED.pg ((box [(F.TD_STAT_ANCHORED, 1)]).rd F.PPS_CTRL_PPS_TD)) = true) ∧
    ((box []).on F.TICK_STAT_RUNNING = false ∧ (box [(F.TICK_STAT_RUNNING, 1)]).on F.TICK_STAT_RUNNING = true ∧ (box []).on F.HOST_CTRL_RING_OWNER = false ∧
      (box []).tick < (11#32).toNat + 2 ^ 32 * (box []).rd F.TICK_MATCH_HI ∧ (10#32).toNat + 2 ^ 32 * (box []).rd F.TICK_MATCH_HI ≤ (box []).tick) ∧
    ((box [(F.TICK_MATCH_CTRL_EN, 1), (F.TICK_MATCH_CTRL_VEC, 63)]).on F.TICK_MATCH_CTRL_EN = true ∧ ((box []).setReg (0x0940C + 16 * 63) 0).vecMasked 63 = false ∧
      (box []).on F.TICK_MATCH_CTRL_EN = false) := by decide +kernel

/-- With domain `d` stopped, a write of 5 waiting for it, and `n` writes parked. -/
def crossing (d n : Nat) : State := onClk (fun c => { c with stopped := [d], waiting := [(d, 0x30040, 5)], parked := List.replicate n (d, 0x30040, 7) }) (box [])
theorem witness_ClockLosses : (crossing 18 15).canonical = true ∧
    (∀ n ∈ [0, 1, 2, 3, 4, 5, 6], (box []).enabled 0x72 = true ∧ (box []).raw 0x72 n = false ∧ (box []).broken 0x72 n = false) ∧
    ((box []).domainStopped 18 = false ∧ (crossing 18 15).domainStopped 18 = true ∧ (crossing 18 15).clk.waiting = [(18, 0x30040, 5)] ∧ 0x30040 < 2 ^ 20) ∧
    (((crossing 18 15).clk.parked.filter fun y => y.1 == 18).length < 16 ∧ 16 ≤ ((crossing 18 16).clk.parked.filter fun y => y.1 == 18).length) ∧
    (16 ∉ (crossing 15 0).clk.stopped ∧ (crossing 15 0).rd (F.PWR_STATE_CUR.pg (0x10 + 15)) = 0) ∧ (box []).clk.parked = [] ∧ (box []).clk.waiting = [] ∧
    (onClk (fun c => { c with waiting := [] }) (crossing 18 1)).clk.parked = [(18, 0x30040, 7)] := by decide +kernel

/-- The media MACs up; stream 0 receives 144-byte packets sent to 224.0.0.1, port 5000. -/
def nets (l : List (Fld × Nat)) : State :=
  atTick 10 (up [0x01, 0x60, 0x61, 0x62, 0x64, 0x68, 0x6B, 0x6C] (([0, 1, 2].flatMap fun k => [(F.MAC_STAT_LINK.pg k, 1), (F.PAGE_STAT_ADMITTED.pg (0x60 + k), 1), (F.MAC_VLAN.pg k, 9)]) ++
    [(F.PAGE_STAT_ADMITTED.pg 0x64, 1), (F.RX_CFG0_EN.rx 0, 1), (F.RX_CFG1.rx 0, 0xE0000001), (F.RX_CFG2_PORT.rx 0, 5000), (F.RX_CFG2_PT.rx 0, 97), (F.RX_CFG0_FORMAT.rx 0, 1), (F.RX_STAT_STATE.rx 0, 1)] ++ l))
def onNet (f : NetSt → NetSt) (s : State) : State := { s with net := f s.net }
/-- A packet for stream 0, and one of another port. -/
def pkt (port : BitVec 16) (ts : Word) (n : Nat) : RtpPacket := ⟨0xE0000001, port, true, 2, 97, 1000, 7, ts, none, List.replicate n 5⟩
/-- A MAC whose queue holds one frame; one with that frame in the air after `a` attempts. -/
def sends (cur : Bool) (a : Nat) : State → State :=
  onNet fun x => { x with macs := .replicate 3 ⟨[⟨1, none, .supervision⟩], if cur then some ⟨1, none, .supervision⟩ else none, a, false⟩ }
theorem witness_MediaMacs : (nets []).canonical = true ∧ (nets []).enabled 0x61 = true ∧ (up [] []).enabled 0x61 = false ∧
    (∀ n ∈ [1, 3], (nets []).raw 0x61 n = false ∧ (nets []).broken 0x61 n = false) ∧ (nets []).rd (F.MAC_VLAN.pg 1) = 9 ∧ (8#12).toNat ≠ 9 ∧
    ((0 ∈ (nets []).rxStreams) ∧ (nets []).forStream 0 (pkt 5000 0 144) = true ∧ (∀ k ∈ (nets []).rxStreams, (nets []).forStream k (pkt 5001 0 144) = false)) ∧
    ((nets [(F.NET_IP, 0x0A000001)]).rd F.NET_IP = 0x0A000001 ∧ (nets [(F.NET_CTRL_PRP_EN, 0)]).on F.NET_CTRL_PRP_EN = false ∧ (nets [(F.NET_CTRL_PRP_EN, 1)]).on F.NET_CTRL_PRP_EN = true) ∧
    (((onNet (fun x => { x with seen := [⟨77, 3, 0, false⟩] }) (nets [])).net.seen.find? fun x => x.node == 77 && x.seq == 3 && x.port != 1) = some ⟨77, 3, 0, false⟩) ∧
    (nets []).net.macs[(1 : Fin 3)].queue = [] ∧
    ((sends false 0 (nets [])).net.macs[(1 : Fin 3)].queue = [⟨1, none, .supervision⟩] ∧ (nets []).on (F.MAC_STAT_LINK.pg 1) = true ∧
      (nets []).on (F.MAC_STAT_PAUSED.pg 1) = false ∧ (sends false 0 (nets [])).net.macs[(1 : Fin 3)].backoff = false ∧ (nets []).on (F.MAC_TXTHR_SAF.pg 1) = false) ∧
    ((nets []).net.macs[(2 : Fin 3)].cur = none ∧ (sends true 14 (nets [])).net.macs[(2 : Fin 3)].cur = some ⟨1, none, .supervision⟩ ∧
      (sends true 15 (nets [])).net.macs[(2 : Fin 3)].attempts = 15) ∧
    (∀ n ∈ [0, 2], (nets []).enabled 0x62 = true ∧ (nets []).raw 0x62 n = false ∧ (nets []).broken 0x62 n = false) := by decide +kernel
/-- Transmit stream 3 to `ip`, with state `x`. -/
def tx3 (ip : Nat) (x : TxStream) (l : List (Fld × Nat)) : State :=
  onNet (fun y => { y with tx := [(3, x)] }) (nets ([(F.TX_CFG1.tx 3, ip), (F.TX_STAT_RUNNING.tx 3, 1), (F.TX_CFG0_FORMAT.tx 3, 1), (F.NET_CTRL_PRP_EN, 0)] ++ l))
theorem witness_AddressesAndPrp : (tx3 0x0A000001 .rest []).canonical = true ∧ (nets []).on (F.TX_STAT_RUNNING.tx 3) = false ∧ (tx3 0xE0000001 .rest []).unicast 3 = false ∧
    ((tx3 0x0A000001 .rest []).on (F.TX_STAT_RUNNING.tx 3) = true ∧ (tx3 0x0A000001 .rest []).unicast 3 = true ∧ (tx3 0x0A000001 .rest []).on F.NET_CTRL_PRP_EN = false) ∧
    ((tx3 0 .rest []).txOf 3).arp = none ∧ (∀ n ∈ [0, 1, 2, 3], ((tx3 0 { TxStream.rest with arp := some 5, asks := n } []).txOf 3).asks = n) ∧
    ((tx3 0 { TxStream.rest with arp := some 5 } []).txOf 3).arp ≠ none ∧
    (∀ n ∈ [0, 4], (nets []).enabled 0x64 = true ∧ (nets []).raw 0x64 n = false ∧ (nets []).broken 0x64 n = false) ∧
    ((nets [(F.NET_CTRL_PRP_EN, 1), (F.NET_CTRL_SUPERV, 1)]).on F.NET_CTRL_PRP_EN = true ∧ (nets [(F.NET_CTRL_PRP_EN, 1), (F.NET_CTRL_SUPERV, 1)]).on F.NET_CTRL_SUPERV = true) ∧
    (∀ p ∈ (nets []).net.seen, p.node ≠ 77) ∧ (onNet (fun x => { x with seen := [⟨77, 3, 1, false⟩] }) (nets [])).net.seen = [⟨77, 3, 1, false⟩] := by decide +kernel
/-- Time domain `d` with state `x`, in state `st`; PTP's settings give it the three ports and domain 3. -/
def domain (x : TdSt) (st : Nat) (l : List (Fld × Nat)) : State :=
  onNet (fun y => { y with td := .replicate 4 x, ptpIn := [(1, ⟨0xB, 3, true, 9⟩, 0)] }) (nets ((F.TD_STAT_STATE.pg 3, st) :: l))
def served : TdSt := { TdSt.rest with cfg := 0x2203, good := 15, far := 7, run := 16, d := -3 }
theorem witness_TimeDomains : (domain served 1 []).canonical = true ∧ (domain served 1 []).net.td[(3 : Fin 4)] = served ∧
    (domain served 1 []).reads (F.TD_SEC_HI.pg 3).addr = true ∧ (domain served 1 []).takes (F.TD_CTRL_REACQUIRE.pg 3).addr = true ∧
    (domain served 1 []).takes F.TDC_CTRL.addr = true ∧ (domain served 1 []).rd (F.TD_STAT_STATE.pg 3) = 1 ∧ (domain served 0 []).rd (F.TD_STAT_STATE.pg 3) ≠ 1 ∧
    (nets []).net.ptpIn = [] ∧ (∀ k : Fin 4, (domain { served with cfg := 0x2003 } 1 []).net.td[k].cfg.getLsbD (8 + 1) = false) ∧
    ((domain served 1 []).net.ptpIn = [(1, ⟨0xB, 3, true, 9⟩, 0)] ∧ served.cfg.getLsbD (8 + 1) = true ∧ served.cfg.toNat % 256 = 3 ∧ served.cfg.getLsbD 13 = true) ∧
    ((domain served 1 [(F.TD_CTRL_SERVO.pg 3, 1)]).on (F.TD_CTRL_SERVO.pg 3) = true ∧ (∀ m < 3, ({ served with cfg := 3 } : TdSt).cfg.getLsbD (8 + m) = false)) ∧
    ((domain served 1 [(F.TD_CTRL_SERVO.pg 3, 0)]).on (F.TD_CTRL_SERVO.pg 3) = false ∧ (domain served 1 []).rd (F.PTP_STAT_PORT_STATE.pg 3) ≠ 6 ∧
      (99#32).toInt.natAbs < 100 ∧ 10000 < (10001#32).toInt.natAbs ∧ 7 ≤ served.far) ∧ (domain served 1 []).enabled 0x6B = true ∧
    ((domain served 1 []).on (F.TD_STAT_ANCHORED.pg 3) = false ∧ (domain served 1 [(F.TD_STAT_ANCHORED.pg 3, 1)]).on (F.TD_STAT_ANCHORED.pg 3) = true ∧ 16 ≤ served.run ∧
      (domain served 1 []).isStandby = false ∧ (domain served 1 []).raw 0x6B 3 = false ∧ (domain served 1 []).broken 0x6B 3 = false) := by decide +kernel
/-- With packets received, the domain of stream 0 anchored at 0. -/
def got (l : List RtpPacket) : State := onNet (fun x => { x with rtpIn := l }) (nets [(F.TD_STAT_ANCHORED, 1)])
/-- Samples that wait in a transmit stream. -/
def queued (n : Nat) : TxStream := { TxStream.rest with buf := (List.range n).map fun i => (i + 100, [3], false, 3) }
theorem witness_StreamPackets : (got []).canonical = true ∧ (got []).net.rtpIn = [] ∧ (got [pkt 5001 0 18]).net.rtpIn = [pkt 5001 0 18] ∧
    (∀ k ∈ (got []).rxStreams, (got []).forStream k (pkt 5001 0 144) = false) ∧ ((got []).rxStreams.filter fun k => (got []).forStream k (pkt 5000 0 144)) = [0] ∧
    (got []).anchorOf ((got []).rd (F.RX_CFG0_TD.rx 0)) = some 0 ∧ (got []).tick * (got []).F = 40 ∧ (got []).enabled 0x64 = true ∧
    (∀ n ∈ [2, 3], (got []).raw 0x64 n = false ∧ (got []).broken 0x64 n = false) ∧
    ((pkt 5000 0 144).pt.toNat = (got []).rd (F.RX_CFG2_PT.rx 0) ∧ (got []).on (F.RX_CFG2_SSRC_FILT.rx 0) = false ∧ (got []).rxOf 0 = RxStream.rest ∧
      (pkt 5000 0 144).payload.length = (got []).rxCh 0 * formatBytes ((got []).rd (F.RX_CFG0_FORMAT.rx 0)) * (got []).rxNp 0) ∧
    (let due ts := dueAt ts ((got []).rd (F.RX_CFG4.rx 0)) ((got []).linkOffset 0) 0 40
      let room : Int := 40 + ((got []).linkOffset 0 + 2 * (got []).rxNp 0 : Nat)
      let np : Int := (got []).rxNp 0
      room < due 1000 + np - 1 ∧ due (2 ^ 32 - 100) ≤ 40 ∧ due (2 ^ 32 - 100) + np - 1 ≤ room ∧ 40 < due 0 ∧ due 0 + np - 1 ≤ room) ∧
    (Sparse.wf (fun _ => TxStream.rest) (tx3 0 (queued 48) []).net.tx = true ∧ (tx3 0 (queued 48) [(F.TD_STAT_ANCHORED, 1)]).anchorOf ((tx3 0 (queued 48) []).txRd 3 F.TX_CFG0_TD) = some 0 ∧
      packetSamples ((tx3 0 (queued 48) []).txRd 3 F.TX_CFG0_PTIME) ((tx3 0 (queued 48) []).rd F.TICK_CFG_RATE) ≤ ((tx3 0 (queued 48) []).txOf 3).buf.length ∧
      ((tx3 0 (queued 3) []).txOf 3).buf.length < packetSamples ((tx3 0 (queued 3) []).txRd 3 F.TX_CFG0_PTIME) ((tx3 0 (queued 3) []).rd F.TICK_CFG_RATE)) ∧
    ((tx3 0x0A000001 (queued 48) []).unicast 3 = true ∧ (queued 48).arp = none ∧ (queued 48).ramp = none ∧ (tx3 0xE0000001 (queued 48) []).unicast 3 = false ∧
      (tx3 0xE0000001 (queued 48) []).on F.NET_CTRL_PRP_EN = false ∧ (tx3 0xE0000001 (queued 48) []).txRd 3 F.TX_CFG5_BIHIRON = 0) := by decide +kernel

/-! Pairs, ticks and their phases. -/

def onPair (f : PairSt → PairSt) (s : State) : State := { s with pair := f s.pair }
/-- A unit of a formed pair, in role `r`, pairing state `st`, the link in state `lk`. -/
def inPair (r : Role) (st lk : Nat) (l : List (Fld × Nat)) : State :=
  onPair (fun p => { p with formed := true, role := r, epoch := 1 }) (box ([(F.PAIR_STAT_STATE, st), (F.PB_STAT_STATE, lk), (F.CLM_CTRL_PINS_EN, 1)] ++ l))
/-- A shedding of level 2 at tick `t`, as a change that waits for its confirm. -/
def shedAt (t : Nat) : Arm := ⟨7, .shed 2 t, false⟩
theorem witness_PairMessages : (inPair .standby 5 4 []).canonical = true ∧ ((box []).enabled 0x81 = true ∧ (box []).raw 0x81 2 = false ∧ (box []).broken 0x81 2 = false) ∧
    ((box []).rd F.PB_STAT_STATE ≠ 3 ∧ (inPair .active 5 3 []).rd F.PB_STAT_STATE = 3 ∧ (inPair .active 5 3 []).pair.joining = false ∧ (inPair .active 5 3 []).rd F.PB_STAT_RATE < 3) ∧
    (claimRole (0x4000#16).toNat ≠ 3 ∧ (box []).pair.formed = false) ∧
    ((inPair .standby 5 4 []).pair.formed = true ∧ (inPair .standby 5 4 []).rd F.PAIR_STAT_STATE = 5 ∧ (9#64).toNat ≠ (inPair .standby 5 4 []).tick ∧
      (10#64).toNat = (inPair .standby 5 4 []).tick ∧ (inPair .standby 5 4 []).pair.katCall = false ∧ (inPair .standby 5 4 []).pair.sigs = [] ∧
      (0#64).toNat = (inPair .standby 5 4 []).pair.digest ∧ (inPair .standby 5 4 []).isStandby = true ∧ (inPair .standby 3 4 []).rd F.PAIR_STAT_STATE = 3) ∧
    ((box [(F.CLM_CTRL_PINS_EN, 0)]).on F.CLM_CTRL_PINS_EN = false ∧ (inPair .active 5 4 []).on F.CLM_CTRL_PINS_EN = true ∧ claimOf 0 = none ∧ claimOf (claimWord 0xC101) = some 0xC101 ∧
      claimOf (claimWord 0x4001) = some 0x4001 ∧ claimRole 0x4001 ≠ 3) ∧
    (claimRole 0xC101 = 3 ∧ claimSide 0xC101 ≠ (inPair .active 5 4 []).rd F.PAIR_STAT_SIDE ∧ (claimEpoch 0xC101 + 128 - (inPair .active 5 4 []).pair.epoch) % 128 = 1) ∧
    ((inPair .active 5 4 []).enabled 0x83 = true ∧ (inPair .active 5 4 []).raw 0x83 3 = false ∧ (inPair .active 5 4 []).broken 0x83 3 = false) ∧
    (∀ n ∈ [1, 5], (inPair .active 5 4 []).enabled 0x80 = true ∧ (inPair .active 5 4 []).raw 0x80 n = false ∧ (inPair .active 5 4 []).broken 0x80 n = false) ∧
    ((inPair .active 5 4 []).isStandby = false ∧ (9#64).toNat + 1 = (inPair .standby 5 4 []).tick) ∧ (inPair .active 5 4 []).pair.taken = [] ∧
    (onPair (fun p => { p with taken := [shedAt 12] }) (inPair .standby 5 4 [])).pair.taken = [⟨(7#32).toNat, .shed 2 12, false⟩] ∧
    ((inPair .active 5 4 []).pair.acks = [] ∧ (onPair (fun p => { p with arms := [shedAt 13] }) (inPair .active 5 4 [])).pair.arms = [⟨(7#32).toNat, .shed 2 13, false⟩] ∧
      (inPair .active 5 4 []).linkUp = true ∧ (inPair .active 5 4 []).tick + 2 < 13) ∧
    (inPair .active 5 4 []).pair.sent = [] ∧ (onPair (fun p => { p with sent := [(7, .ack 3)] }) (inPair .active 5 4 [])).pair.sent = [((7#32).toNat, .ack 3)] := by decide +kernel
/-- Arms of another kind than a FIX, and one of a FIX. -/
theorem witness_PairMessages_deadline : (onPair (fun p => { p with arms := [shedAt 13, ⟨8, .fix 11, true⟩] }) (inPair .active 5 4 [])).pair.arms = [shedAt 13, ⟨8, .fix 11, true⟩] ∧
    (shedAt 13).change ≠ .fix 13 ∧ changeTick (.fix 11) = some 11 ∧ changeTick (shedAt 13).change = some 13 := by decide
/-- With missed heartbeats and claims; with a plan running; in an election, the partner's claim `c` and side `d` known. -/
def missing (h c : Nat) : State → State := onPair fun p => { p with hbMiss := h, clmiMiss := c }
def runs (s : State) : State := { s with eng := { s.eng with run := some (adm false) } }
def elects (r : Role) (d : Bool) (c : Nat) : State :=
  onPair (fun p => { p with role := r, peerCap := some (.capability 1 0 2 d 4 2 0), peerElection := some (c, 5), peerJoin := some (0, false), pairId := 0 }) (runs (box [(F.PAIR_STAT_STATE, 2), (F.PB_STAT_STATE, 4)]))
theorem witness_PairRoles : (inPair .standby 5 4 []).canonical = true ∧ (box []).pair.hbMiss = 0 ∧
    ((missing 1 1 (inPair .standby 5 4 [])).pair.hbMiss = 1 ∧ (inPair .standby 5 4 []).pair.formed = true ∧ (inPair .standby 5 4 []).pair.role = .standby) ∧
    ((missing 1 2 (inPair .standby 5 4 [])).pair.clmiMiss = 2 ∧ (box []).enabled 0x83 = true ∧ (box []).raw 0x83 0 = false ∧ (box []).broken 0x83 0 = false) ∧
    ((runs (missing 2 2 (inPair .standby 5 4 []))).isStandby = true ∧ (runs (missing 2 2 (inPair .standby 5 4 []))).eng.run ≠ none) ∧
    (∀ n ∈ [1, 3, 8], (box []).enabled 0x80 = true ∧ (box []).raw 0x80 n = false ∧ (box []).broken 0x80 n = false) ∧ (box []).pair.peerCap = none ∧
    ((elects .active true 0).pair.peerCap = some (.capability 1 0 2 true 4 2 0) ∧ (elects .active true 0).pair.peerElection = some (0, 5) ∧
      (elects .active true 0).pair.peerJoin = some ((elects .active true 0).pair.pairId, false) ∧ (elects .active true 0).rd F.PAIR_STAT_STATE = 2 ∧ (elects .active true 0).linkUp = true) ∧
    (false = (elects .active false 0).on F.PAIR_STAT_SIDE ∧ true ≠ (elects .active true 0).on F.PAIR_STAT_SIDE ∧ (0#8).toNat = (elects .active true 0).rd F.MB_FW_INFO_PAIR_COMPAT ∧
      (0 : Fin 8).val = (elects .active true 0).lc ∧ claimCompare (elects .active true 0).electionClaim 0 = 1 ∧ (elects .active true 0).peerHolds 4 = true ∧
      claimCompare (elects .sync true 0xFFFF).electionClaim 0xFFFF = -1) ∧
    ((box []).pair.waiting = false ∧ (onPair (fun p => { p with waiting := true }) (box [])).pair.waiting = true) ∧
    ((box []).pair.join = none ∧ (onPair (fun p => { p with join := some ⟨0, 1, 2, 3, false⟩ }) (box [])).pair.join ≠ none ∧ (box []).linkUp = false) ∧
    ((inPair .active 3 4 []).rd F.PAIR_STAT_STATE = 3 ∧ (inPair .active 4 4 []).rd F.PAIR_STAT_STATE = 4 ∧ (inPair .active 4 4 []).pair.verifyBad = false) ∧
    (∀ n ∈ [0, 2, 3], (onPair (fun p => { p with verifyBad := true, restarts := n }) (inPair .active 4 4 [])).pair.restarts = n) ∧
    ((box []).pair.window = none ∧ (onPair (fun p => { p with window := some 8, mism := [(3, true)], reopened := true }) (box [])).pair.window = some 8 ∧ 8 + 2 ≤ (box []).tick) ∧
    ((box []).pair.mism = [] ∧ (box []).pair.handover ≠ some (box []).tick ∧ (onPair (fun p => { p with handover := some 10 }) (inPair .active 5 4 [])).pair.handover = some 10) ∧
    (onPair (fun p => { p with handover := some 8 }) (inPair .yielded 5 4 [])).pair.role = .yielded ∧ 8 + 2 = (inPair .yielded 5 4 []).tick := by decide +kernel

/-- A running engine of 8 buses and 8 outputs. -/
def engine (f : EngSt → EngSt) (l : List (Fld × Nat)) : State :=
  let s := box ([(F.DEV_STAT_ENGINE, 1), (F.TICK_STAT_RUNNING, 1), (F.XPT_DIM0_S, 4), (F.XPT_DIM0_BU, 8), (F.XPT_DIM1, 8), (F.TICK_CFG_LOG2_F, 2)] ++ l)
  { s with eng := f { s.eng with proc := some (adm false), viewRegs := s.regs } }
/-- A kernel that runs on cluster `c` with `n` cycles left. -/
def kernelOn (c : Fin 16) (n : Nat) : State :=
  let s := engine id []
  { s with clusters := s.clusters.set c { Cluster.zero with run := some ⟨0, 32, 20, 0x100, 0x80, 0x40, 0x200, n⟩ } }
theorem witness_Ticks : (engine id []).canonical = true ∧ (box []).on F.DEV_STAT_ENGINE = false ∧ (box []).on F.TICK_STAT_RUNNING = false ∧
    (engine id []).on F.DEV_STAT_ENGINE = true ∧ (engine id []).mayStart true 9 = false ∧
    (engine (fun e => { e with run := some (adm false), deferred := [⟨true, 9, false⟩] }) []).mayStart true 9 = true ∧
    (box []).clusters[(15 : Fin 16)].run = none ∧ (kernelOn 15 1).clusters[(15 : Fin 16)].run = some ⟨0, 32, 20, 0x100, 0x80, 0x40, 0x200, 1⟩ ∧
    (∀ n ∈ [0, 1], (kernelOn 15 1).enabled 0x02 = true ∧ (kernelOn 15 1).raw 0x02 n = false ∧ (kernelOn 15 1).broken 0x02 n = false) ∧
    ((engine id []).engineOn = true ∧ (box []).engineOn = false ∧ (1 : Nat) ∉ (engine id []).eng.eDone ∧ 4 * 1 < (engine id []).vrd F.XPT_DIM1 ∧ (engine id []).vrd F.XPT_DIM1 ≤ 4 * 2 ∧
      Sparse.get ([], 0) (engine id []).eng.lateOut 1 = ([], 0) ∧ Sparse.wf (fun _ => 0) (engine id []).eng.eOut = true ∧ (engine id []).F ≤ 16) := by decide +kernel
theorem witness_Phases : (engine id []).canonical = true ∧ (box []).engineOn = false ∧ (engine id []).engineOn = true ∧ (engine id []).eng.aDone = false ∧ (engine id []).F ≤ 16 ∧
    (engine (fun e => { e with aDone := true }) []).eng.bDone = false ∧
    ((engine (fun e => { e with bDone := true }) []).eng.bDone = true ∧ (1 : Nat) ∉ (engine id []).eng.cDone ∧ 4 * 1 < (engine id []).vrd F.XPT_DIM0_BU ∧ (engine id []).vrd F.XPT_DIM0_BU ≤ 4 * 2) ∧
    (let s := engine (fun e => { e with bDone := true, dDone := true, insts := [instOf 3 1 false, instOf 3 2 false] }) [(F.PWR_STATE_CUR.pg 0x11, 1)]
     s.stripGated 1 0 = true ∧ s.stripGated 2 0 = true ∧ Sparse.wf (fun _ => 0) s.eng.cOut = true ∧ Sparse.wf (fun _ => 0) s.eng.eOut = true) ∧
    ((engine (fun e => { e with bDone := true, cDone := [1, 0] }) []).cComplete = true ∧ (engine id []).cComplete = false ∧ (engine id []).eng.dDone = false ∧
      (engine id []).enabled 0x20 = true ∧ (engine id []).broken 0x20 0 = false) ∧
    ((engine (fun e => { e with dDone := true }) []).eng.dDone = true ∧ (1 : Nat) ∉ (engine id []).eng.eDone ∧ 4 * 1 < (engine id []).vrd F.XPT_DIM1 ∧ (engine id []).vrd F.XPT_DIM1 ≤ 4 * 2) := by decide +kernel
/-- Groups 0 and 1 of one cluster: group 1 has its turn after group 0 (R209). -/
theorem witness_Phases_turn : (let s := engine (fun e => { e with bDone := true, dDone := true, insts := [instOf 3 1 false, { instOf 3 1 false with info := { (instOf 3 1 false).info with group := 1 } },
       instOf 3 2 false, { instOf 3 2 false with info := { (instOf 3 2 false).info with group := 1 } }] }) []
     s.inTurn 1 0 [] = true ∧ s.inTurn 1 1 [] = false ∧ s.inTurn 1 1 [0] = true ∧ s.inTurn 2 1 [] = false ∧ s.inTurn 2 1 [0] = true) := by decide +kernel

/-! Ports. -/

/-- TDM port 15 in state `st`, in both directions, with port state `x`; master where `m`. -/
def tdm (st m : Nat) (x : TdmPort) (l : List (Fld × Nat)) : State :=
  (atTick 10 (up [0x00, 0x01, 0x3F, 0x40, 0x48, 0x50, 0x51, 0x83] ([(F.TDM_STAT_STATE.pg 15, st), (F.TDM_CTRL_MASTER.pg 15, m), (F.TDM_CTRL_DIR.pg 15, 3), (F.TDM_CTRL_SLOTS.pg 15, 7),
    (F.TDM_CTRL_SLOT_BITS.pg 15, 2), (F.TDM_SLOTMASK.pg 15, 0x81)] ++ l))).setTdm 15 x
theorem witness_TdmPorts : (tdm 2 0 .rest []).canonical = true ∧ (tdm 0 0 .rest []).tdmLive 15 = false ∧ (tdm 2 0 .rest []).tdmLive 15 = true ∧ (tdm 2 0 .rest []).mergeOf 15 = none ∧
    ((tdm 2 0 .rest []).ports.tdm[(15 : Fin 16)] = .rest ∧ TdmPort.rest.inPos < (tdm 2 0 .rest []).F ∧ (tdm 2 0 .rest []).rd (F.TDM_STAT_STATE.pg 15) = 2) ∧
    (((tdm 2 0 .rest []).rd (F.TDM_CTRL_DIR.pg 15)).testBit 0 = true ∧ (tdm 2 0 .rest []).rd (F.TDM_CTRL_ASRC.pg 15) = 0 ∧ (tdm 2 0 .rest []).F ≤ 16 ∧
      Sparse.wf (fun _ => 0) (tdm 2 0 .rest []).eng.cap = true ∧ (tdm 2 0 .rest []).inSlots 15 = [0, 7]) ∧
    (∀ n ∈ [0, 1, 2], (tdm 2 0 .rest []).enabled 0x3F = true ∧ (tdm 2 0 .rest []).raw 0x3F n = false ∧ (tdm 2 0 .rest []).broken 0x3F n = false) ∧
    (TdmPort.rest.glitches < 2 ∧ (tdm 2 0 { TdmPort.rest with glitches := 2, fsMiss := 1, rateBad := 1 } []).ports.tdm[(15 : Fin 16)].glitches = 2 ∧ 80000 < (80001 : Int).natAbs) ∧
    ((tdm 2 0 { TdmPort.rest with inPos := 4, outPos := 4 } []).F ≤ 4 ∧ (tdm 2 0 .rest []).on (F.TDM_CTRL_MASTER.pg 15) = false ∧ (tdm 2 1 .rest []).on (F.TDM_CTRL_MASTER.pg 15) = true) ∧
    (((tdm 2 0 .rest []).rd (F.TDM_CTRL_DIR.pg 15)).testBit 1 = true ∧ TdmPort.rest.ramp = none ∧ TdmPort.rest.fade = none ∧ TdmPort.rest.rise = none ∧ (tdm 2 0 .rest []).enabled 0x83 = true ∧ (tdm 2 0 .rest []).outSlots 15 = [0, 7]) ∧
    ((tdm 2 0 .rest [(F.CLM_CTRL_TDM_SLOT, 0x8000)]).claimsOut 15 = true ∧ (tdm 2 0 .rest []).claimsOut 15 = false ∧ (tdm 2 0 .rest []).rd (F.TDM_CTRL_SLOT_BITS.pg 15) = 2 ∧
      ((tdm 2 0 .rest []).slotsOf 15).getLast? = some 7) ∧
    ((tdm 3 0 .rest []).rd (F.TDM_STAT_STATE.pg 15) = 3 ∧ (tdm 3 0 .rest [(F.TDM_STAT_STABLE.pg 15, 63)]).rd (F.TDM_STAT_STABLE.pg 15) < 64 ∧
      64 ≤ (tdm 3 0 .rest [(F.TDM_STAT_STABLE.pg 15, 64)]).rd (F.TDM_STAT_STABLE.pg 15)) ∧
    (isTdmPage 0x3F = true ∧ isAoutPage 0x3F = false ∧ isAoutPage 0x48 = true ∧ isTdmPage 0x47 = false ∧ isAoutPage 0x47 = false) ∧
    ((tdm 1 0 .rest []).rd (rollField 0x3F) = 1 ∧ (tdm 1 0 .rest []).mayEnable ((tdm 1 0 .rest []).rollOf 0x3F) = true ∧ ((tdm 1 0 .rest []).rollOf 0x3F).left = 0 ∧
      (tdm 1 0 .rest [(F.AOUT_STAT.pg 0, 1)]).rd (rollField 0x48) = 1 ∧ (tdm 1 0 .rest []).mayEnable ((tdm 1 0 .rest []).rollOf 0x48) = true) ∧
    ((tdm 4 0 .rest []).rd (rollField 0x3F) = 4 ∧ ((tdm 4 0 .rest []).rollOf 0x3F).restart = false ∧ (tdm 4 0 .rest []).admitted 0x3F = false ∧
      (tdm 4 0 .rest [(F.PAGE_STAT_ADMITTED.pg 0x3F, 1)]).admitted 0x3F = true ∧ ((tdm 4 0 { TdmPort.rest with restart := true, notBefore := 11 } []).rollOf 0x3F).notBefore = 11) := by decide +kernel
/-- A port whose ramp up waits, one whose pre-roll is 0 that starts outside and within a glide. -/
theorem witness_TdmPorts_rolls : (let s := tdm 1 0 { TdmPort.rest with slow := true } []
     s.rd (rollField 0x3F) = 1 ∧ s.mayEnable (s.rollOf 0x3F) = true ∧ (s.rollOf 0x3F).slow = true ∧ s.eng.level = .full) ∧
    ((tdm 1 0 .rest []).rollOf 0x3F).slow = false ∧
    ((tdm 4 0 { TdmPort.rest with restart := true, notBefore := 10 } [(F.TDM_ROLL_PRE_ROLL.pg 15, 0)]).preRoll 0x3F = 0 ∧ (tdm 4 0 .rest []).on F.CG_STAT_GLIDING = false ∧
      (tdm 4 0 .rest [(F.CG_STAT_GLIDING, 1)]).on F.CG_STAT_GLIDING = true ∧ ((tdm 4 0 { TdmPort.rest with restart := true, notBefore := 10 } []).rollOf 0x3F).notBefore ≤ 10) := by decide +kernel
/-- Transmitter 0 with `x`; receiver 0 with `x`, locked where `k`. -/
def aout (x : AesOut) : State := { tdm 2 0 .rest [] with ports := { (tdm 2 0 .rest []).ports with aout := (tdm 2 0 .rest []).ports.aout.set 0 x } }
def ain (k : Nat) (x : AesIn) : State :=
  { tdm 2 0 .rest [(F.AIN_STAT_LOCK.pg 0, k)] with ports := { (tdm 2 0 .rest []).ports with ain := (tdm 2 0 .rest []).ports.ain.set 0 x } }
theorem witness_ChannelStatus : (aout .rest).canonical = true ∧ (up [] []).enabled 0x48 = false ∧ (aout .rest).enabled 0x48 = true ∧
    (aout .rest).ports.aout[(0 : Fin 8)].csA.length = 6 ∧ (aout .rest).ports.aout[(0 : Fin 8)].csB.length = 6 ∧ ((aout .rest).aoutSet 0).csA.length = 6 ∧
    ((aout .rest).aoutSet 0).csB.length = 6 ∧ (aout { AesOut.rest with commit := true }).ports.aout[(0 : Fin 8)].commit = true := by decide +kernel
theorem witness_AesPdmAsrc : (ain 1 .rest).canonical = true ∧ (up [] []).enabled 0x40 = false ∧ ((ain 1 .rest).enabled 0x40 = true ∧ (ain 1 .rest).on (F.AIN_STAT_LOCK.pg 0) = true ∧
      (∀ n ∈ [0, 1, 2], (ain 1 .rest).raw 0x40 n = false ∧ (ain 1 .rest).broken 0x40 n = false) ∧ (ain 0 .rest).on (F.AIN_STAT_LOCK.pg 0) = false) ∧
    ((ain 0 { AesIn.rest with zOk := true, good := 3, bad := 1, sinceZ := some 191 }).ports.ain[(0 : Fin 8)].good = 3) ∧
    ((ain 1 .rest).on (F.AIN_CTRL_ASRC.pg 0) = false ∧ (ain 1 .rest).changing 0x40 = false ∧ (ain 1 .rest).ports.ain[(0 : Fin 8)].inPos < (ain 1 .rest).F ∧ (ain 1 .rest).F ≤ 16 ∧
      Sparse.wf (fun _ => 0) (ain 1 .rest).eng.cap = true ∧ Sparse.wf (fun _ => false) (ain 1 .rest).eng.capOk = true) ∧
    ([List.replicate 24 (0 : Byte), List.replicate 24 0].all fun b => aesCrcc ((b ++ List.replicate 24 0).take 24) != (b.getD 23 0).toNat) = true ∧
    ((tdm 2 0 .rest []).enabled 0x50 = true ∧ (tdm 2 0 .rest [(F.PDM_CTRL_MASTER, 0)]).on F.PDM_CTRL_MASTER = false ∧ (tdm 2 0 .rest []).on F.PDM_STAT = false ∧
      (tdm 2 0 .rest [(F.PDM_STAT, 1)]).on F.PDM_STAT = true ∧ (∀ n ∈ [0, 1], (tdm 2 0 .rest []).broken 0x50 n = false)) ∧
    (let s := tdm 2 0 .rest [(F.ASRC_MAP_EN.ix 63, 1), (F.ASRC_MAP_PORT.ix 63, 15), (⟨F.ASRC_LOCK.addr + 4, 31, 0⟩, 0x80000000)]
     s.asrcOf 0 15 = [63] ∧ s.bitArr F.ASRC_LOCK 63 = true ∧ s.enabled 0x51 = true ∧ s.raw 0x51 0 = false ∧ s.broken 0x51 0 = false) ∧
    (∀ a ∈ (tdm 2 0 .rest []).asrcOf 0 15, (tdm 2 0 .rest []).bitArr F.ASRC_LOCK a = false) := by decide +kernel

/-! Safelight. -/

/-- A correlator's result over `n` samples, marked as ramping where `r`; voltage and current correlators at 1 kHz. -/
def correl (kind n : Nat) (r : Bool) : Inst :=
  { instOf 0x0B 1 false with now := ⟨0, [0, BitVec.ofNat 32 kind, 0, 0, 10], []⟩, st := { (instOf 1 1 false).st with g := [9, 9, 9, 9, 2, 2, 2, 2], lev := [n, n, n, n], flag := [false, false, false, false, false, r] } }
/-- Line 0 with its voltage and current senses; two paths from output 0; output `o` and microphones 0 and 1 in zone 1. -/
def safe (n : Nat) (r : Bool) (l : List (Fld × Nat)) : State :=
  let s := atTick 4096 (box ([(F.SL_CTRL_JUDGE_EN, 1), (F.SL_CTRL_AMB_EN, 1), (F.SL_JUDGE1_LEARN_N, 2), (F.SL_JUDGE0_DRIFT_PCT, 0), (F.SL_SHARE, 3), (F.SL_SHARE_CYC, 5000),
    (F.XPT_DIM1, 8), (⟨F.XPT_ZONE_MAP_NONE_LO.addr, 15, 0⟩, 1)] ++ l))
  let s := { s with eng := { s.eng with insts := [correl 1 n r, correl 2 n r, { instOf 0x0A 2 false with cluster := 0 }] } }
  let s := ((s.setWord 0x3050000 0x00008000).setWord 0x3050004 0xFFFF0001).setWord 0x3058000 0x00018000
  ((s.setWord 0x3060000 0x80000000).setWord 0x3060010 0x80000000).setWord 0x3058010 0x00018004
def lineAs (x : LineSt) (s : State) : State := s.setLineSt 0 x
def baselined (s : State) : State := s.setLineBits 0 28 31 31 1
theorem witness_LineJudgements : (safe 480 false []).canonical = true ∧ Sparse.wf (fun _ => LineSt.rest) (safe 480 false []).sl.lines = true ∧
    (lineAs ⟨1, 2, none, some true, [7]⟩ (safe 480 false [])).lineSt 0 = ⟨1, 2, none, some true, [7]⟩ ∧ (lineAs ⟨1, 2, none, some true, [7]⟩ (safe 480 false [])).canonical = true ∧
    ((safe 480 false []).lineSt 0).written = none ∧ (box []).on F.SL_CTRL_JUDGE_EN = false ∧
    ((safe 480 false []).on F.SL_CTRL_JUDGE_EN = true ∧ (safe 480 false []).enabled 0x28 = true ∧ (safe 480 false []).lineEn 0 = true ∧ (safe 480 false []).lineBad 0 = 0) ∧
    (((safe 480 false []).setWord 0x3050004 0xFFFF0009).lineBad 0 ≠ 0 ∧ (safe 480 false []).raw 0x28 7 = false ∧ (safe 480 false []).broken 0x28 7 = false) ∧
    ((∃ k ∈ (safe 239 false []).lineSenses 0, 2 * ((safe 239 false []).sense 0 k).2.2.1 < (safe 239 false []).integLen 0) ∧ ((safe 480 true []).sense 0 0).2.2.2 = true ∧
      (∀ k ∈ (safe 240 false []).lineSenses 0, (safe 240 false []).integLen 0 ≤ 2 * ((safe 240 false []).sense 0 k).2.2.1) ∧ ((safe 480 false []).sense 0 0).2.2.2 = false) := by decide +kernel
theorem witness_LineJudgements_learn : (safe 480 false []).canonical = true ∧ ((safe 480 false []).lineBased 0 = false ∧ (baselined (safe 480 false [])).lineBased 0 = true ∧ ((baselined (safe 480 false [])).lineSt 0).learn = none) ∧
    ((lineAs ⟨0, 0, some [], none, []⟩ (safe 480 false [])).lineSt 0).learn = some [] ∧ 1 < (safe 480 false []).rd F.SL_JUDGE1_LEARN_N ∧
    ((lineAs ⟨0, 0, some [(5, 0, 0, 0), (9, 0, 0, 0)], none, []⟩ (safe 480 false [])).lineSt 0).learn = some [(5, 0, 0, 0), (9, 0, 0, 0)] ∧
    (safe 480 false []).rd F.SL_JUDGE1_LEARN_N ≤ 3 := by decide +kernel
/-- Whatever mean a learn of readings 5 and 9 has, one of them is off it: with SL_JUDGE0.DRIFT_PCT at 0 the learn fails. -/
theorem witness_LineJudgements_spread (m : Nat) : ∃ x ∈ [5, 9], 0 * m < ((x : Int) - m).natAbs * 200 := by
  by_cases h : m = 5
  · exact ⟨9, by simp, by omega⟩
  · exact ⟨5, by simp, by omega⟩
/-- A run whose zone 1 is as `r`. -/
def verifies (op : Nat) (r : ZoneRun) (s : State) : State :=
  { s with sl := { s.sl with run := some ⟨9, op, 1, 10, [0, 1], [(1, false, false, false), (5, false, false, true)], [], 3, [], [r], 0, 0⟩ } }
def zone (ready off : Bool) (from_ : Option Nat) : ZoneRun :=
  { zone := 1, outputs := [], output := some 0, ready := ready, shape := 0, power := [], used := [(0, List.replicate 23 (some 1))], provisional := false, gains := [],
    from_ := from_, stop := none, periods := 0, last := 100, acc := [(0, 58), (1, 58)], sums := [], restarts := 0, yielded := false, off := off, busyAt := 0, void := [] }
/-- Without outputs; microphone 0's last block, from sample 8192, is valid where `ok`, and it has seen no sound before. -/
def hears (ok : Bool) (s : State) : State :=
  let s := s.wr F.XPT_DIM1 0
  { s with sl := { s.sl with heard := [(0, ⟨16384, [], true, some (8192, ok, [])⟩)], mics := [(0, ⟨none, List.replicate 23 (some 0), []⟩)] } }
theorem witness_AmbientAndProbes : (safe 480 false []).canonical = true ∧ (box []).analyses 1 = false ∧ (safe 480 false []).analyses 1 = true ∧ (safe 480 false []).analysis 1 = none ∧
    ((safe 480 false []).isStandby = false ∧ (standby (hears true (safe 480 false []))).isStandby = true ∧ (standby (hears true (safe 480 false []))).analyses 1 = true) ∧
    ((verifies 1 (zone true false (some 100)) (safe 480 false [])).zoneRun 1 = some (zone true false (some 100)) ∧ (safe 480 false []).zoneRun 1 = none) ∧
    (safe 480 false []).onPeriod = true ∧ 1 ≤ (safe 480 false []).tick ∧ (zone true false (some 100)).last < (safe 480 false []).tick * (safe 480 false []).F ∧
    ((zone false false none).ready = false ∧ (zone true false none).from_ = none ∧ (zone true false none).output = some 0 ∧ (safe 480 false []).sl.shed = false) ∧
    ({ verifies 1 (zone true false (some 100)) (safe 480 false []) with eng := { (safe 480 false []).eng with zoneNew := [(1, 1)] } } : State).zoneBusy 1 = true ∧
    ((safe 480 false []).zoneBusy 1 = false ∧ (zone true true (some 100)).off = true ∧ 8192 ≤ ((safe 480 false []).tick - (zone true true none).busyAt) * (safe 480 false []).F) ∧
    (let s := verifies 1 (zone true false (some 100)) (safe 480 false [])
     s.dwellPeriods ⟨9, 1, 1, 10, [0, 1], [], [], 3, [], [], 0, 0⟩ 0 = 58 ∧ s.dwellPeriods ⟨9, 1, 1, 11, [0, 1], [], [], 3, [], [], 0, 0⟩ 0 = 64) := by decide +kernel
/-- A block that is not whole updates nothing. -/
theorem witness_AmbientAndProbes_void : (hears false (safe 480 false [])).analyses 1 = true ∧ (hears false (safe 480 false [])).canonical = true ∧
    ((hears false (safe 480 false [])).analysis 1).any (fun b => !b.updated && !b.fell) = true := by decide +kernel
/-- The power of silence in every band. -/
theorem bandPowers_nil (fs : Nat) : bandPowers fs [] = List.replicate 23 0 := by
  have h : ∀ l : List (Nat × Nat), (l.map fun _ => 0).sum = 0 := by
    intro l; induction l with
    | nil => rfl
    | cons _ _ ih => simpa using ih
  have e (k : Nat) : magSq (dftAt [] k) = 0 := rfl
  simp only [bandPowers, bandSums, indexed, List.length_nil, List.range_zero, List.zip_nil_left, List.map_nil, e, Nat.zero_mul, Nat.zero_div, h]
  rfl
/-- Where a zone has no output, silence leaves each band's ambient and a first average at 0. -/
theorem micBlock_silence {s : State} {z m a : Nat} (ho : s.outputsOf z = []) (hm : s.micSt m = ⟨none, List.replicate 23 (some 0), []⟩) :
    s.micBlock z m a [] = (⟨some a, List.replicate 23 (some 0), List.replicate 23 (some 0)⟩, true, false) := by
  have zeros (c b : Nat) : ((List.replicate 23 0).map fun p => p * c / 2 ^ 96).getD b 0 = 0 := by
    simp only [List.map_replicate, Nat.zero_mul, Nat.zero_div, List.getD, List.getElem?_replicate]
    split <;> rfl
  have last (b : Nat) (h : b < 23) : (List.replicate 23 (some 0)).getD b (none : Option Nat) = some 0 := by simp [List.getD, h, -List.reduceReplicate]
  have all (g : Nat → Option Nat) (h : ∀ b < 23, g b = some 0) : (List.range 23).map g = List.replicate 23 (some 0) :=
    List.ext_getElem (by simp) fun b hb _ => by simpa [-List.reduceReplicate] using h b (by simpa using hb)
  have now (p : Nat → Prop) [DecidablePred p] :
      ((List.range 23).map fun b => if p b then some 0 else (List.replicate 23 (some 0)).getD b (none : Option Nat)) = List.replicate 23 (some 0) :=
    all _ fun b hb => by rw [last b hb]; split <;> rfl
  have none_ (l : List Nat) : l.filter (fun _ => false) = [] := List.filter_eq_nil_iff.2 (by simp)
  simp only [State.micBlock, ho, hm, bandPowers_nil, zeros, List.map_nil, List.sum_nil, Nat.mul_zero, Nat.zero_le, decide_true, Bool.not_true, Nat.sub_zero, now,
    and_true, none_, List.length_nil, Nat.not_lt_zero, decide_false, List.any_nil, Bool.false_eq_true, false_and, or_false, if_false]
  rw [all _ fun b hb => by rw [last b hb]; rfl]
/-- Microphone 0 with a block of silence, without a run and with one whose probe was shaped from more. -/
def heardStates : List State := [hears true (safe 480 false []), hears true (verifies 1 (zone true false (some 100)) (safe 480 false []))]
theorem heard_facts : ∀ s ∈ heardStates, s.micsOf 1 = [0, 1] ∧ s.outputsOf 1 = [] ∧ s.micSt 0 = ⟨none, List.replicate 23 (some 0), []⟩ ∧
    (Sparse.get Heard.rest s.sl.heard 0).whole = some (8192, true, []) ∧ (Sparse.get Heard.rest s.sl.heard 1).whole = none ∧
    (s.zoneRun 1 = none ∨ s.zoneRun 1 = some (zone true false (some 100))) := by decide +kernel
theorem fell_facts {s : State} : s.fellFrom (zone true false (some 100)).used 0 ⟨some 8192, List.replicate 23 (some 0), List.replicate 23 (some 0)⟩ = true := by
  have f : (zone true false (some 100)).used.find? (fun u => u.1 == 0) = some (0, List.replicate 23 (some 1)) := by decide
  simp only [State.fellFrom, f]
  generalize powerOf _ = w
  exact List.any_eq_true.2 ⟨(0, some 1), by decide, by simp [List.getD]⟩
/-- The analysis of a zone without outputs where one microphone has a new whole block. -/
theorem analysis_one {s : State} {z a k : Nat} {l : List (Nat × Bool × List Word)} {w : Bool × List Word} {y : MicSt} {u v : Bool}
    (e : (s.micsOf z).filterMap (fun m => (Sparse.get Heard.rest s.sl.heard m).whole) = (a, w) :: l) (ho : s.outputsOf z = [])
    (n : (s.micsOf z).all (fun m => (s.micSt m).block == some a) = false)
    (m : (s.micsOf z).filterMap (fun m => (s.blockAt m a).map fun d => (m, s.micBlock z m a d)) = [(k, y, u, v)]) :
    ∃ b, s.analysis z = some b ∧ b.updated = u ∧ b.fell = (s.zoneRun z).any fun r => s.fellFrom r.used k y := by
  simp only [State.analysis, e, List.head?_cons, ho, List.any_nil, n, Bool.false_eq_true, or_self, if_false, m]
  generalize levelOf _ = lv
  generalize BitVec.ofInt 32 _ = lw
  cases u <;> cases v <;> simp
theorem any_some_of {f : ZoneRun → Bool} {z : ZoneRun} (h : f z = true) {o : Option ZoneRun} (ho : o = some z) : o.any f = o.isSome := by simp [ho, h]
/-- A block that is whole updates the zone's estimate; where the probe was shaped from a higher ambient, it is reshaped. -/
theorem witness_AmbientAndProbes_block : ∀ s ∈ heardStates, ∃ b, s.analysis 1 = some b ∧ b.updated = true ∧ b.fell = (s.zoneRun 1).isSome := by
  intro s hs
  obtain ⟨h1, h2, h3, h4, h5, h6⟩ := heard_facts s hs
  have b : s.blockAt 0 8192 = some [] ∧ s.blockAt 1 8192 = none := by simp [State.blockAt, h4, h5]
  obtain ⟨x, h, hu, hf⟩ := analysis_one (s := s) (z := 1) (a := 8192) (k := 0) (w := (true, [])) (l := []) (y := ⟨some 8192, List.replicate 23 (some 0), List.replicate 23 (some 0)⟩) (u := true) (v := false)
    (by simp [h1, h4, h5]) h2 (by simp [h1, h3]) (by simp only [h1, b, micBlock_silence h2 h3, List.filterMap_cons, List.filterMap_nil, Option.map_some, Option.map_none])
  refine ⟨x, h, hu, hf.trans ?_⟩
  rcases h6 with h6 | h6
  · simp only [h6, Option.any_none, Option.isSome_none]
  · exact any_some_of (f := fun r => s.fellFrom r.used 0 ⟨some 8192, List.replicate 23 (some 0), List.replicate 23 (some 0)⟩) fell_facts h6
theorem witness_AmbientAndProbes_reshape : (let s := hears true (verifies 1 (zone true false (some 100)) (safe 480 false []))
     s.analyses 1 = true ∧ s.canonical = true ∧ s.zoneRun 1 = some (zone true false (some 100)) ∧ (zone true false (some 100)).output = some 0 ∧
       (zone true false (some 100)).restarts < 3 ∧ s.isStandby = false) ∧
    (hears true (safe 480 false [])).analyses 1 = true ∧ (hears true (safe 480 false [])).zoneRun 1 = none := by decide +kernel
/-- Periods that count for no microphone and for one. -/
theorem witness_AmbientAndProbes_periods : (let s := hears true (verifies 1 (zone true false (some 100)) (safe 480 false [])); let r := zone true false (some 100)
     s.periodMics r 100 (s.tick * s.F) [] = [0] ∧ s.periodMics r 100 (s.tick * s.F) [0] = [] ∧ s.blockAt 0 (s.tick * s.F - 8192) = some [] ∧
       s.onPeriod = true ∧ ({ s with eng := { s.eng with aDone := true } } : State).eng.aDone = true ∧ s.eng.aDone = false) := by decide +kernel
/-- The limits of a verification; path 1's reference. Nothing was heard of path 1, so that its measures are 0 and have no bands. -/
def judged (op n toa pass marg : Nat) : State :=
  let s := verifies op (zone true false none) (safe 480 false [(F.SL_VERIFY0_SNR_MIN, 10), (F.SL_VERIFY3_MIN_BANDS, n), (F.SL_VERIFY1_TOA_PASS, toa), (F.SL_VERIFY1_TOA_MARG, 9),
    (F.SL_VERIFY0_PASS_BAND, 3), (F.SL_VERIFY0_MARG_BAND, 20), (F.SL_VERIFY2_COH_PASS, pass), (F.SL_VERIFY2_COH_MARG, marg)])
  { s with sl := { s.sl with refs := [(1, some ⟨5, [some 4, none], []⟩)] } }
theorem witness_PathResults : (judged 1 1 5 0 0).canonical = true ∧ Sparse.wf (fun _ => none) (judged 1 1 5 0 0).sl.refs = true ∧ (box []).sl.run = none ∧
    (∀ op ∈ [1, 2], (judged op 0 5 0 0).measured 1 = ⟨0, 0, [], []⟩ ∧
      (judged op 0 5 0 0).sl.run = some ⟨9, op, 1, 10, [0, 1], [(1, false, false, false), (5, false, false, true)], [], 3, [], [zone true false none], 0, 0⟩) ∧
    ((∀ x ∈ [(1, false, false, false), (5, false, false, true)], x.1 ≠ 0) ∧ ([(1, false, false, false), (5, false, false, true)].find? fun x => x.1 == 1) = some (1, false, false, false) ∧
      (1 : Nat) ∈ [0, 1]) ∧
    ((judged 1 0 5 0 0).rd F.SL_VERIFY3_MIN_BANDS = 0 ∧ 0 < (judged 1 1 5 0 0).rd F.SL_VERIFY3_MIN_BANDS) ∧
    ((Sparse.get none (judged 1 0 5 0 0).sl.refs 1).getD ⟨0, [], []⟩ = ⟨5, [some 4, none], []⟩) ∧
    (((BitVec.ofNat 16 0).toInt - (BitVec.ofNat 16 5).toInt).natAbs ≤ (judged 1 0 5 0 0).rd F.SL_VERIFY1_TOA_PASS ∧ (judged 1 0 5 0 0).rd F.SL_VERIFY2_COH_PASS ≤ 0) ∧
    ((judged 1 0 4 1 0).rd F.SL_VERIFY1_TOA_PASS < ((BitVec.ofNat 16 0).toInt - (BitVec.ofNat 16 5).toInt).natAbs ∧
      ((BitVec.ofNat 16 0).toInt - (BitVec.ofNat 16 5).toInt).natAbs ≤ (judged 1 0 4 1 0).rd F.SL_VERIFY1_TOA_MARG ∧
      0 < (judged 1 0 4 1 0).rd F.SL_VERIFY2_COH_PASS ∧ (judged 1 0 4 1 0).rd F.SL_VERIFY2_COH_MARG ≤ 0 ∧ 0 < (judged 1 0 4 2 1).rd F.SL_VERIFY2_COH_MARG) ∧
    ((box []).sl.storing = none ∧ ({ box [] with sl := { (box []).sl with storing := some ⟨0, 1, 2, 3, false⟩ } } : State).sl.storing = some ⟨0, 1, 2, 3, false⟩ ∧
      (box []).enabled 0x28 = true ∧ (box []).raw 0x28 9 = false ∧ (box []).broken 0x28 9 = false) := by decide +kernel

/-! Host commands. -/

/-- The state in which a command is performed, and whether it comes to that: it stands at the head of a ready ring and passes the common checks. -/
def performed (i : Instr) (s : State) : State := match hostDesc i with
  | some (r, d) => ((s.taken r d).precheck r d).2
  | none => s
def admits (i : Instr) (s : State) : Bool := match hostDesc i with
  | some (r, d) => s.canonical && s.ready r && ((s.taken r d).precheck r d).1.isNone && (performed i s).canonical
  | none => false
theorem admits_passes {i : Instr} {s : State} {r : Fin 16} {d : Desc} (hd : hostDesc i = some (r, d)) (h : admits i s = true) :
    s.passes r d (performed i s) := by
  simp only [admits, hd, Bool.and_eq_true, Option.isNone_iff_eq_none] at h
  exact ⟨h.1.1.2, Prod.ext h.1.2 (by simp [performed, hd])⟩
/-- A host that runs at tick 10, a crosspoint of 100 by 50 by 60. -/
def hosted (l : List (Fld × Nat)) : State := atTick 10 (posted ([(F.XPT_DIM0_S, 100), (F.XPT_DIM0_BU, 50), (F.XPT_DIM1, 60)] ++ l))
/-- A descriptor of a role with arguments and a body. -/
def dsc (role a0 a1 : Nat) (b : List Byte) : Desc := { desc b with role := BitVec.ofNat 8 role, arg0 := BitVec.ofNat 32 a0, arg1 := BitVec.ofNat 32 a1 }
def writes (role off : Nat) : Desc := dsc role 0 0 (leBytes 4 off ++ [5, 0, 0, 0])
def reads (dst a b : Nat) : Desc := dsc 3 0 0 (leBytes 8 dst ++ leBytes 4 a ++ leBytes 4 b)
/-- Whether a PARAM_WRITE comes to its checks and a condition holds of the words it writes. -/
def writing (d : Desc) (s : State) (p : State → List (Nat × Word) → Bool) : Bool :=
  admits (.paramWrite 0 d) s && p (performed (.paramWrite 0 d) s) (offsetWords (fieldAt d.body 0 4) (wordsOf (d.body.drop 4)))
theorem witness_ParameterCommands : admits (.nop 0 (desc [])) (hosted []) = true ∧
    (writing (writes 3 0x1000002) (hosted []) fun _ _ => true) = true ∧ 0x1000002 % 4 ≠ 0 ∧
    (writing (writes 3 0x4000000) (hosted []) fun v l => !v.raiseZero l) = true ∧ (writing (writes 3 0x1000000) (hosted []) fun v l => !v.raiseZero l) = true ∧
    (writing (writes 3 0) (hosted []) fun _ l => l.any fun x => decide (x.1 < 0x1000000)) = true ∧
    (writing (writes 2 0x1000000) (hosted [(F.XPT_LS_BUS, 1)]) fun v l => v.writeTouches l) = true ∧
    (writing (writes 2 0x1000000) (hosted []) fun v l => !v.writeTouches l && v.scn.armed.isNone && l.all fun x => decide (0x1000000 ≤ x.1 ∧ x.1 < 0x1600000) && v.nodeIn (x.1 - 0x1000000)) = true ∧
    (writing (writes 3 0x1000000) (armed (dev 10) (hosted [])) fun v _ => v.scn.armed.isSome) = true ∧
    (let i := Instr.paramRead 0 (reads 64 0x1000000 65536)
     admits i (hosted []) = true ∧ (performed i (hosted [])).destBad (reads 64 0 0) 64 65536 = false ∧ (performed i (hosted [])).on F.HOST_CTRL_RING_OWNER = false ∧
       admits (.paramRead 0 (reads 64 0x3FFFFFC 8)) (hosted []) = true ∧ admits (.paramRead 0 (reads 64 0 65540)) (hosted []) = true ∧
       admits (.paramRead 0 { reads 64 0 4 with dest := false }) (hosted []) = true ∧
       (performed i (hosted [])).destBad { reads 64 0 4 with dest := false } 64 4 = true) ∧
    (let i := Instr.logRead 0 (reads 64 1 3); let s := hosted [(F.LOG_OLDEST, 1), (F.LOG_HEAD, 3)]
     admits i s = true ∧ (performed i s).rd F.LOG_OLDEST = 1 ∧ (performed i s).rd F.LOG_HEAD = 3 ∧ (performed i s).destBad (reads 64 1 3) 64 192 = false ∧
       admits (.logRead 0 (reads 64 1 4)) s = true ∧ admits (.logRead 0 (reads 64 1 4097)) s = true) := by decide +kernel
theorem witness_ParameterCommands_order :
    (writing (writes 3 0x1000002) (armed (dev 10) (hosted [])) fun v l => v.scn.armed.isSome && l.any fun x => decide (0x1000000 ≤ x.1 ∧ x.1 < 0x2000000)) = true ∧
    (writing (writes 3 0) (armed (dev 10) (hosted [])) fun v l => v.scn.armed.isSome && l.all fun x => decide (x.1 < 0x1000000)) = true ∧
    (let v := performed (.paramWrite 0 (writes 3 0)) (hosted [])
     v.enabled 0x24 = true ∧ v.raw 0x24 0 = false ∧ v.broken 0x24 0 = false) := by decide +kernel

/-- A plan image without instances, and a Develop's body. -/
def image : List Byte := leBytes 4 0x4E414C50 ++ leBytes 2 1 ++ [3, 3] ++ leBytes 2 4 ++ leBytes 2 4 ++ leBytes 2 4 ++ leBytes 2 0 ++ List.replicate 12 0 ++
  [64, 0, 0, 0, 64, 0, 0, 0, 64, 0, 0, 0, 64, 0, 0, 0] ++ List.replicate 20 0
def develops (tick classes flag x : Nat) : Desc := dsc 3 tick 0 ([0, 0, 0, 0, BitVec.ofNat 8 classes, BitVec.ofNat 8 flag] ++ List.replicate 9 0 ++ [BitVec.ofNat 8 x])
def loaded (s : State) : State := { s with eng := { s.eng with loaded := parsePlan image } }
theorem witness_PlanCommands : parsePlan [] = none ∧ admits (.planLoad 0 (desc [])) (hosted []) = true ∧ admits (.planLoad 0 (desc image)) (hosted []) = true ∧
    ((parsePlan image).any fun p => p.kerns == []) = true ∧
    (let i := Instr.admitPlan 0 (dsc 3 100 0 (leBytes 8 64 ++ leBytes 4 32)) false
     admits i (hosted []) = true ∧ (performed i (hosted [])).destBad (reads 64 0 0) 64 32 = false ∧ (performed i (hosted [])).eng.loaded = none ∧
       admits i (loaded (hosted [])) = true ∧ (performed i (loaded (hosted []))).eng.loaded ≠ none ∧ (performed i (loaded (hosted []))).planArmed = false ∧
       (performed i (armed { dev 10 with withPlan := true } (loaded (hosted [])))).planArmed = true ∧
       admits (.admitPlan 0 (dsc 3 101 0 (leBytes 8 64 ++ leBytes 4 32)) false) (hosted []) = true) ∧
    (let i := Instr.develop 0 (develops 14 15 0 0); let v := performed i (hosted [(F.JRNL_SIZE, 4096)])
     admits i (hosted []) = true ∧ v.on F.SCN_STAT_JRNL_FULL = false ∧ v.lsDirty = false ∧ v.eng.pend = none ∧ v.scn.arming = none ∧ v.scn.armed = none ∧ v.tick + 4 = 14 ∧
       v.journalFits (.develop { dev 14 with seq := v.scn.seq + 1, lines := v.commitLines 15, regs := v.commitRegs 15 } none) = true ∧
       admits i (hosted [(F.SCN_STAT_JRNL_FULL, 1)]) = true ∧ (performed i (hosted [(F.SCN_STAT_JRNL_FULL, 1)])).on F.SCN_STAT_JRNL_FULL = true ∧
       admits (.develop 0 (develops 13 15 0 0)) (hosted []) = true ∧ admits (.develop 0 (develops 14 16 0 0)) (hosted []) = true ∧
       admits i (armed (dev 14) (hosted [])) = true ∧ (performed i (armed (dev 14) (hosted []))).scn.armed ≠ none) ∧
    (let i := Instr.developCancel 0 (develops 14 15 1 0)
     admits i (hosted []) = true ∧ admits i (armed (dev 14) (hosted [])) = true ∧ (performed i (armed (dev 14) (hosted []))).scn.armed = some (dev 14) ∧
       (performed i (armed (dev 14) (hosted []))).scn.held = [] ∧ admits (.developCancel 0 (develops 14 15 1 9)) (armed (dev 14) (hosted [])) = true ∧
       admits (.developCancel 0 { develops 14 15 1 0 with role := 2 }) (armed { dev 14 with ls := true } (hosted [])) = true) ∧
    (admits (.fix 0 (desc [])) (hosted []) = true ∧ (performed (.fix 0 (desc [])) (hosted [])).on F.SCN_STAT_FIX_BUSY = false ∧
      (performed (.fix 0 (desc [])) (hosted [])).scn.fixTicket = none ∧ admits (.fix 0 (desc [])) (hosted [(F.SCN_STAT_FIX_BUSY, 1)]) = true) := by decide +kernel

/-- A clip of one sample, on upload ring 48; a running plan whose player 0 has clip 7 to play; a meter and another object. -/
def clip1 : List Byte := leBytes 4 0x50494C43 ++ [0, 1, 0, 0] ++ leBytes 4 1 ++ List.replicate 20 0
def uploads (l : List (List Byte)) (s : State) : State :=
  (s.wrAll [(F.RING_CTRL_LOG2_SIZE.ring 48, 2), (F.RING_CTRL_EN.ring 48, 1), (F.DEV_DRAM_USABLE_MIB, 1000)]).setQueue 48 (l.map desc)
def player (on : Bool) (s : State) : State :=
  { s with eng := { s.eng with run := some { adm false with plan := { (adm false).plan with buDim := 4, insts := [⟨0x0E, 0, 0, 0, 0, 0, 0, false, false, 5, 0⟩] } },
                               clips := [⟨7, s.rd F.TICK_CFG_RATE, 1, 2, 0, [1, 2]⟩], players := s.eng.players.set 0 { Player.rest with clip := if on then some 7 else none },
                               insts := [instOf 0x09 1 false, instOf 3 1 false] } }
theorem witness_ClipAndSheetCommands :
    (let i := Instr.clipLoad 0 (dsc 3 4095 48 [])
     admits i (hosted []) = true ∧ (performed i (hosted [])).host.clipWait = none ∧ (performed i (hosted [])).ringRuns 48 = false ∧
       admits (.clipLoad 0 (dsc 3 4096 48 [])) (hosted []) = true ∧
       admits i (uploads [clip1] (hosted [])) = true ∧ (performed i (uploads [clip1] (hosted []))).ringRuns 48 = true ∧
       uploadData ((performed i (uploads [clip1] (hosted []))).queueOf 48) = clip1 ∧ clip1.length = 32 ∧ clipHeaderBad clip1 = false ∧ clip1.length < 32 + 4 * 1 * 1 ∧
       uploadData ((performed i (uploads [clip1, [5, 0, 0, 0]] (hosted []))).queueOf 48) = clip1 ++ [5, 0, 0, 0] ∧
       clipHeaderBad (List.replicate 32 0) = true ∧ 36 ≤ (performed i (uploads [clip1, [5, 0, 0, 0]] (hosted []))).libraryRoom 4095 ∧
       (performed i ((uploads [clip1] (hosted [])).wrAll [(F.DEV_DRAM_USABLE_MIB, 0)])).libraryRoom 4095 < 36 ∧
       (performed i (uploads [clip1] (hosted []))).leads = false) ∧
    (let i := Instr.clipPlay 0 (dsc 3 (255 * 2 ^ 24 + 7) 0 []); let j := Instr.clipStop 0 (dsc 3 (255 * 2 ^ 24 + 7) 0 [])
     admits i (player false (hosted [])) = true ∧ admits j (player true (hosted [])) = true ∧ (performed i (player false (hosted []))).playerInst 0 ≠ none ∧
       (performed i (hosted [])).playerInst 0 = none ∧ (performed i (player false (hosted []))).clipOk 7 = true ∧ (performed i (player false (hosted []))).clipOk 8 = false ∧
       (performed i (player false (hosted []))).playing 0 = false ∧ (performed i (player true (hosted []))).playing 0 = true ∧
       admits (.clipPlay 0 (dsc 2 (255 * 2 ^ 24 + 7) 0 [])) (player false (hosted [])) = true ∧ (performed i (player false (hosted []))).playerLs 0 = false) ∧
    (let i := Instr.sheetDefine 0 (dsc 3 47 65535 [0, 0, 0, 0]); let v := performed i (player false (hosted []))
     admits i (player false (hosted [])) = true ∧ v.meter? 0 ≠ none ∧ v.meter? 1 = none ∧ v.host.sheets = [] ∧ v.sheetsOver [(1, 65535)] = false ∧
       v.sheetsOver [(8192, 1), (8000, 1)] = true ∧ admits (.sheetDefine 0 (dsc 3 48 1 [])) (hosted []) = true ∧ admits (.sheetDefine 0 (dsc 3 32 1 [])) (hosted []) = true) := by
  decide +kernel

/-- A Safelight body; the device of the Safelight tests with its host. -/
def slBody (all first n dwell tick : Nat) : Desc := dsc 3 0 0 ([0, BitVec.ofNat 8 all] ++ leBytes 2 first ++ leBytes 2 n ++ leBytes 2 dwell ++ leBytes 8 tick ++ List.replicate 16 0)
def safeHost : State :=
  let s := atTick 4096 (hosted [(F.SL_SHARE, 3), (F.SL_SHARE_CYC, 5000), (⟨F.XPT_ZONE_MAP_NONE_LO.addr, 15, 0⟩, 1)])
  { s with eng := (safe 480 false []).eng, win := (safe 480 false []).win }
theorem witness_SafelightCommands :
    (∀ i ∈ [Instr.verify 0 (slBody 0 0 2 10 0), .capture 0 (slBody 0 0 2 600 4099), .learnLines 0 (slBody 0 0 2 10 0), .store 0 (slBody 0 0 0 0 0)], admits i safeHost = true) ∧
    (let v := performed (.capture 0 (slBody 0 0 2 600 4099)) safeHost
     v.runStart (slBody 0 0 2 600 4099).body = some 4099 ∧ v.runStart (slBody 0 0 2 600 4098).body = none ∧ runBodyOk (slBody 0 0 2 600 4099).body 4096 = true ∧
       runBodyOk (slBody 0 4095 2 600 0).body 4096 = false ∧ v.sl.run = none ∧ v.sl.storing = none ∧ v.pathEn 0 = true ∧ v.pathSkipped 2 0 = false ∧ v.pathSkipped 1 0 = true ∧
       v.zoneOf (v.pathOut 0) = some 1 ∧ v.zoneCap [1] ≠ 0 ∧ (v.wrAll [(F.SL_SHARE_CYC, 0)]).zoneCap [1] = 0 ∧ (v.lineEn 0 && v.lineBad 0 == 0) = true ∧ v.lineEn 1 = false) ∧
    (let s := verifies 2 (zone true false none) safeHost
     admits (.abort 0 (slBody 0 0 0 0 0)) s = true ∧ (performed (.abort 0 (slBody 0 0 0 0 0)) s).sl.run ≠ none ∧ admits (.abort 0 (slBody 2 0 0 0 0)) s = true ∧
       admits (.verify 0 (slBody 0 0 2 10 0)) s = true) := by decide +kernel
/-- An ABORT of a learn of which line 0 is learning and line 1 not yet. -/
theorem witness_SafelightCommands_learn :
    (let s := lineAs ⟨0, 0, some [], none, []⟩ (verifies 3 (zone true false none) safeHost); let v := performed (.abort 0 (slBody 0 0 0 0 0)) s
     admits (.abort 0 (slBody 0 0 0 0 0)) s = true ∧ (v.sl.run.any fun q => q.op == 3 && q.left == [0, 1]) = true ∧ Sparse.wf (fun _ => LineSt.rest) v.sl.lines = true ∧
       (v.lineSt 0).written = none ∧ (v.lineSt 0).learn = some [] ∧ (v.lineSt 1).learn = none ∧ (v.lineSt 1).written = none) := by decide +kernel
theorem witness_PairAndTimeCommands :
    (let i := Instr.pairJoin 0 (dsc 3 (2 ^ 17 - 1) 0 []); let s := hosted [(F.PB_STAT_STATE, 4)]
     admits i (hosted []) = true ∧ admits i s = true ∧ (performed i (hosted [])).linkUp = false ∧ (performed i s).linkUp = true ∧ (performed i s).pair.join = none ∧
       (performed i s).pair.joining = false ∧ (performed i s).rd F.PAIR_STAT_STATE = 0 ∧ (performed i s).pair.handover = none ∧ admits (.pairJoin 0 (dsc 3 (2 ^ 17) 0 [])) s = true ∧
       admits i (onPair (fun p => { p with join := some ⟨0, 1, 2, 3, false⟩ }) s) = true ∧
       (performed i (hosted [(F.PAIR_STAT_STATE, 5)])).rd F.PAIR_STAT_STATE = 5 ∧ (performed i (hosted [(F.PAIR_STAT_STATE, 5)])).pair.role ≠ .yielded) ∧
    (let i := Instr.pairYield 0 (desc []); let f r := onPair fun p => { p with formed := true, role := r }
     let s := f .active (hosted [(F.PB_STAT_STATE, 4), (F.PAIR_STAT_STATE, 5), (F.PAIR_CLAIM_PEER, 0x8001)])
     admits i (hosted []) = true ∧ (performed i (hosted [])).pair.formed = false ∧ admits i s = true ∧ (performed i s).linkUp = true ∧ (performed i s).rd F.PAIR_STAT_STATE = 5 ∧
       claimRole ((performed i s).rd F.PAIR_CLAIM_PEER) = 2 ∧ (performed i s).scn.armed = none ∧ (performed i s).scn.arming = none ∧ (performed i s).pair.handover = none ∧
       admits i (f .standby (hosted [])) = true ∧ (performed i (f .standby (hosted []))).pair.role ≠ .active) ∧
    (let d := dsc 3 3 549755814 (List.replicate 12 0); let s (n : Nat) := hosted [(F.TD_CTRL_SERVO.pg 3, 1), (F.TD_STAT_STATE.pg 3, n)]
     admits (.timeStep 0 d) (s 0) = true ∧ admits (.timeRate 0 { d with buf := [], bufLen := 0 }) (s 0) = true ∧ (performed (.timeStep 0 d) (s 0)).on (F.TD_CTRL_SERVO.pg 3) = true ∧
       (performed (.timeStep 0 d) (s 1)).rd (F.TD_STAT_STATE.pg 3) = 1 ∧ (performed (.timeStep 0 d) (s 0)).rd (F.TD_STAT_STATE.pg 3) ≠ 1 ∧ d.arg1.toInt.natAbs = 549755814 ∧
       (performed (.timeStep 0 d) (hosted [(F.TD_CTRL_SERVO.pg 3, 0)])).on (F.TD_CTRL_SERVO.pg 3) = false ∧ admits (.timeStep 0 { d with arg0 := 4 }) (s 0) = true) := by decide +kernel

/-- The bytes of an image header that its signature covers: a key package, and firmware of one chunk of zeros. -/
def covered (ty enc svn len : Nat) : List Byte :=
  leBytes 4 0x4D495747 ++ leBytes 2 1 ++ [BitVec.ofNat 8 ty, BitVec.ofNat 8 enc] ++ leBytes 4 8 ++ leBytes 2 svn ++ leBytes 2 0 ++ leBytes 4 len ++ List.replicate 140 0
/-- Role keys stored and working; an update under way after `n` chunks. -/
def keyed (s : State) : State := { s with sec := { s.sec with keys := [[1], [2], [3]], svn := 3 } }
def update (n : Nat) (s : State) : State := { s with upd := some ⟨covered 0 0 5 4096 ++ List.replicate 96 0, 3, n, List.replicate (4096 * n) 0, n, false⟩ }
theorem witness_UpdateCommands :
    (let h := covered 1 1 3 100 ++ List.replicate 96 0; let i := Instr.updateBegin 0 (desc h); let v := performed i (keyed (hosted []))
     h.length = 256 ∧ admits i (keyed (hosted [])) = true ∧ hdrBad h = false ∧ hdrBad (List.replicate 256 0) = true ∧ v.sec.svn ≤ fieldAt h 12 2 ∧
       fieldAt (covered 1 1 2 100) 12 2 < v.sec.svn ∧ hdrType h = 1 ∧ hdrLength h = 100 ∧ 4096 ≤ v.flash.slotSize - 256) ∧
    (let i := Instr.updateChunk 0 (dsc 3 0 0 (List.replicate 4096 0))
     admits i (hosted []) = true ∧ (performed i (hosted [])).upd = none ∧ admits i (update 0 (hosted [])) = true ∧ admits i (update 1 (hosted [])) = true ∧
       ((performed i (update 0 (hosted []))).upd.any fun u => u.chunks == 0 && hdrLength u.hdr == 4096) = true ∧
       admits (.updateChunk 0 (dsc 3 0 0 [1])) (update 0 (hosted [])) = true) ∧
    (let i := Instr.updateCommit 0 (desc [])
     admits i (hosted []) = true ∧ admits i (update 1 (hosted [])) = true ∧
       ((performed i (update 1 (hosted []))).upd.any fun u => decide (hdrLength u.hdr ≤ u.chunks * 4096 ∧ u.chunks ≤ u.programmed) && !u.bad && ((performed i (update 1 (hosted []))).openImage u).isSome) = true ∧
       (update 1 (hosted [])).inRecovery = false) ∧
    (let i (n : Nat) (b : List Byte) := Instr.lifecycleAdvance 0 (dsc 3 n 0 b); let b := List.replicate 96 1
     admits (i 1 []) (hosted []) = true ∧ admits (i 2 b) (inState 1 (hosted [])) = true ∧ (performed (i 2 b) (inState 1 (hosted []))).sec.state = 1 ∧ b.length = 96 ∧
       (∀ j < 3, ∃ x ∈ (b.drop (32 * j)).take 32, x ≠ 0) ∧ (performed (i 1 []) (hosted [])).sec.adv = none ∧ (performed (i 1 []) (hosted [])).on F.SCN_STAT_FIX_BUSY = false ∧
       (performed (i 1 []) (hosted [])).sl.storing = none ∧ admits (i 3 []) (hosted []) = true) := by decide +kernel
/-- A key package signed under the sending role's key passes; HMAC-SHA-256 is no part of the model. -/
theorem witness_UpdateCommands_signed {s : State} (h : s.sec.keys = [[1], [2], [3]]) :
    s.hdrSigned 3 (covered 1 1 3 100 ++ (Config.hmacSha256 [3] (covered 1 1 3 100) ++ List.replicate 64 0)) = true := by
  have n : (covered 1 1 3 100).length = 160 := by decide +kernel
  have t (x : List Byte) : hdrType (covered 1 1 3 100 ++ x) = 1 := rfl
  simp [State.hdrSigned, t, h, n]

/-! Steps and invariants. -/

theorem witness_StepRunsFront : ({ State.reset with pending := [.dpllLock, .zeroise] } : State).pending = .dpllLock :: [.zeroise] ∧ State.reset.pending = [] ∧
    State.reset.nextRing = none := by decide +kernel
theorem witness_StepKeepsSafe : State.reset.safe = true ∧ State.reset.maps = true ∧ ({ State.reset with pending := [.zeroise] } : State).safe = true := by decide +kernel
theorem witness_LifeCycleForward : step { State.reset with pending := [.zeroise] } = .next State.reset.zeroise := rfl

/-! Single steps whose outcome the spec gives. -/

theorem test_lane_pll_lock : gives (.lanePllLock 7) (laneIn 7 1 []) (fun t => t.rd (F.LANE_STAT_STATE.pg 7) == 2) = true := by decide +kernel
theorem test_lane_fom_saturates : gives (.laneAdaptEnd 7 255 255 3 9) (laneIn 7 4 []) (fun t => t.rd (F.LANE_STAT_FOM.pg 7) == 255 && t.rd (F.LANE_STAT_STATE.pg 7) == 5) = true := by decide +kernel
theorem test_zeroise_clears_keys : gives .zeroise (keyed (box [])) (fun t => t.sec.keys == [] && t.on F.SR_SECURE_ZEROISING) = true := by decide +kernel
theorem test_meter_hold_of_other_object : gives (.meterHoldWrite 0 3) (holds [instOf 3 1 false] (box [])) (fun t => t == holds [instOf 3 1 false] (box [])) = true := by decide +kernel
theorem test_nco_in_open : gives (.refNcoWrite 0x7FFFFFFF) (refs 4 8 0 []) (fun t => t.clk.written == some 659706977) = true := by decide +kernel
theorem test_frame_bad_fcs : gives (.macFrameRx 1 ⟨false, 77, none, none, .other⟩) (nets []) (fun t => t.rd (F.MAC_RX_FCS.pg 1) == 1) = true := by decide +kernel
theorem test_heartbeat_miss_demotes : gives .heartbeatMiss (missing 1 1 (inPair .standby 5 4 [])) (fun t => t.pair.role == .sync) = true := by decide +kernel
theorem test_kernel_budget : gives (.kernelBudgetExhausted 15) (kernelOn 15 1) (fun t => t.rd F.OVR_LAST_CLUSTER == 15 && (t.rd (F.FLT_LATCH.pg 0x02)).testBit 0) = true := by decide +kernel
theorem test_tdm_bclk_loss : gives (.tdmBclkLoss 15) (tdm 2 0 .rest []) (fun t => t.rd (F.TDM_STAT_STATE.pg 15) == 3 && t.rd (F.TDM_STAT_CAUSE.pg 15) == 1) = true := by decide +kernel
theorem test_nop_answers : gives (.nop 0 (desc [])) (hosted []) (fun t => match t.out with
  | .response 16 0 0 77 9 0 0 0 0 :: _ => true
  | _ => false) = true := by decide +kernel
theorem test_param_write_stores : gives (.paramWrite 0 (writes 3 0x1000004)) (hosted []) (fun t => t.word 0x1000004 == 5 && t.word 0x1000000 == 0) = true := by decide +kernel
theorem test_develop_starts : gives (.develop 0 (develops 14 15 0 0)) (hosted [(F.JRNL_SIZE, 4096)]) (fun t => t.on F.SCN_STAT_JRNL_BUSY && t.scn.arming.any fun d => d.tick == 14) = true := by decide +kernel

end Sys2Proof.Tests
end

section
/-!
O14: what a write of a class register leaves (R31, R32). The new word packs eight classes of three bits, each the one offered or the one held; the
clearing of MASK bits that may follow touches no class.
-/
namespace Sys2Proof.Machine

/-! Numbers of three bits packed side by side. -/

/-- The first `n` values of `g`, three bits each, the first one lowest. -/
def packThrees (g : Nat → Nat) (n : Nat) : Nat := (List.range n).foldl (fun a j => a + g j * 2 ^ (3 * j)) 0

theorem packThrees_succ {g : Nat → Nat} {n : Nat} : packThrees g (n + 1) = packThrees g n + g n * 2 ^ (3 * n) := by
  simp [packThrees, List.range_succ]

theorem packThrees_lt {g : Nat → Nat} (hg : ∀ j, g j < 8) (n : Nat) : packThrees g n < 2 ^ (3 * n) := by
  induction n with
  | zero => exact Nat.one_pos
  | succ n ih =>
    calc packThrees g (n + 1) < 2 ^ (3 * n) + g n * 2 ^ (3 * n) := by rw [packThrees_succ]; omega
      _ = (g n + 1) * 2 ^ (3 * n) := by rw [Nat.add_mul, Nat.one_mul, Nat.add_comm]
      _ ≤ 2 ^ 3 * 2 ^ (3 * n) := Nat.mul_le_mul_right _ (hg n)
      _ = 2 ^ (3 * (n + 1)) := by rw [← Nat.pow_add, Nat.mul_succ, Nat.add_comm]

/-- Each value stands at its place. -/
theorem packThrees_digit {g : Nat → Nat} (hg : ∀ j, g j < 8) {n j : Nat} (hj : j < n) : packThrees g n / 2 ^ (3 * j) % 8 = g j := by
  induction n with
  | zero => omega
  | succ n ih =>
    rw [packThrees_succ]
    rcases Nat.lt_succ_iff_lt_or_eq.1 hj with hj | rfl
    · have split : 2 ^ (3 * n) = 2 ^ (3 * j) * (8 * 2 ^ (3 * (n - j - 1))) := by
        rw [show (8 : Nat) = 2 ^ 3 from rfl, ← Nat.pow_add, ← Nat.pow_add]
        congr 1; omega
      rw [split, Nat.mul_left_comm, Nat.add_mul_div_left _ _ (Nat.two_pow_pos _), Nat.mul_left_comm, Nat.add_mul_mod_self_left, ih hj]
    · rw [Nat.add_mul_div_right _ _ (Nat.two_pow_pos _), Nat.div_eq_of_lt (packThrees_lt hg j), Nat.zero_add, Nat.mod_eq_of_lt (hg j)]

/-! The class registers. -/

/-- The register that holds classes `8 * k` to `8 * k + 7` of page `p`. -/
def classReg (p k : Nat) : Fld := if k = 0 then F.FLT_CLASS0.pg p else F.FLT_CLASS1.pg p

theorem classReg_ok {p k : Nat} : (classReg p k).ok = true := by
  unfold classReg
  split <;> rfl

theorem classReg_width {p k : Nat} : (classReg p k).width = 24 := by
  unfold classReg
  split <;> rfl

theorem classReg_ne_mask {p k : Nat} : (classReg p k).addr ≠ (F.FLT_MASK.pg p).addr := by
  unfold classReg
  split <;> simp [Fld.pg, F.FLT_CLASS0, F.FLT_CLASS1, F.FLT_MASK]

theorem classOf_eq {s : State} {p k j : Nat} (hk : k < 2) (hj : j < 8) : s.classOf p (8 * k + j) = s.rd (classReg p k) / 2 ^ (3 * j) % 8 := by
  have low : 8 * k + j < 8 ↔ k = 0 := by omega
  simp only [State.classOf, classReg, low, Nat.mul_add_mod, Nat.mod_eq_of_lt hj]

theorem classOf_lt {s : State} {p n : Nat} : s.classOf p n < 8 := Nat.mod_lt _ (by decide)

/-- The class that field `j` of class register `k` holds after a write of `v` (R31): the one offered where the source exists and the code is one of
the classes and not below the reset class, else the one it held. -/
def State.classTaken (s : State) (p k v j : Nat) : Nat :=
  if 8 * k + j < nsrc p ∧ bitsOf v (3 * j + 2) (3 * j) ≤ 4 ∧ resetClass p (8 * k + j) ≤ bitsOf v (3 * j + 2) (3 * j)
  then bitsOf v (3 * j + 2) (3 * j) else s.classOf p (8 * k + j)

theorem classTaken_lt {s : State} {p k v j : Nat} : s.classTaken p k v j < 8 := by
  unfold State.classTaken
  split
  next => omega
  next => exact classOf_lt

theorem classWrite_eq {s : State} {p k v : Nat} :
    s.classWrite p k v = (s.wr (classReg p k) (packThrees (s.classTaken p k v) 8)).unmaskFatal p := rfl

/-- Of the registers, R32's clearing of fatal sources' MASK bits writes FLT_MASK alone. -/
theorem RB.unmaskFatal {s : State} {l : List Nat} {p : Nat} (h : (F.FLT_MASK.pg p).addr ∈ l) : s.regsBut l (s.unmaskFatal p) :=
  RB.ite (RB.wr h) RB.refl

theorem rd_classReg_classWrite {s : State} {p k v : Nat} (h : s.canonical = true) :
    (s.classWrite p k v).rd (classReg p k) = packThrees (s.classTaken p k v) 8 := by
  have apart : (classReg p k).addr ∉ [(F.FLT_MASK.pg p).addr] := fun z => classReg_ne_mask (List.mem_singleton.1 z)
  rw [classWrite_eq, RB.rd (RB.unmaskFatal List.mem_cons_self) apart, rd_wr_same h classReg_ok, classReg_width]
  exact Nat.mod_eq_of_lt (packThrees_lt (fun _ => classTaken_lt) 8)

theorem classOf_classWrite {s : State} {p k v j : Nat} (h : s.canonical = true) (hk : k < 2) (hj : j < 8) :
    (s.classWrite p k v).classOf p (8 * k + j) = s.classTaken p k v j := by
  rw [classOf_eq hk hj, rd_classReg_classWrite h, packThrees_digit (fun _ => classTaken_lt) hj]

/-! The command. -/

/-- A host write of a class register that reaches its block is the block's own class write. -/
theorem takeReg_classReg {s : State} {p k : Nat} {w : Word} (hk : k < 2) :
    s.takeReg (p * 4096 + 0x01C + 4 * k) w = s.classWrite p k w.toNat := by
  have page : (p * 4096 + 0x01C + 4 * k) / 4096 = p := by omega
  have offset : (p * 4096 + 0x01C + 4 * k) % 4096 = 0x01C + 4 * k := by omega
  unfold State.takeReg
  rw [page, offset, if_pos (by omega)]
  obtain rfl | rfl : k = 0 ∨ k = 1 := by omega
  · rfl
  · rfl

theorem exec_fltClassWrite {s : State} {page : Byte} {k : Fin 2} {v : BitVec 24} :
    exec (.fltClassWrite page k v) s = .next (s.hostWrite (page.toNat * 4096 + 0x01C + 4 * k.val) (v.setWidth 32)) := rfl

theorem classOf_congr {s t : State} {p n : Nat} (h : ∀ f, t.rd f = s.rd f) : t.classOf p n = s.classOf p n := by
  simp only [State.classOf, h]

theorem classOf_hostWrite {s : State} {p k j : Nat} {w : Word} (h : s.canonical = true) (ht : s.takes (p * 4096 + 0x01C + 4 * k) = true)
    (hk : k < 2) (hj : j < 8) :
    (s.hostWrite (p * 4096 + 0x01C + 4 * k) w).classOf p (8 * k + j) = s.classTaken p k w.toNat j := by
  rw [classOf_congr fun _ => rd_takes ht, takeReg_classReg hk, classOf_classWrite h hk hj]

/-- Settles O14: the write packs, field by field, what R31 lets each source take. -/
theorem classWrites : Obligations.ClassWrites := by
  intro s page h k v ht
  refine Does.of exec_fltClassWrite fun j => ?_
  have word : (v.setWidth 32).toNat = v.toNat := BitVec.toNat_setWidth_of_le (by decide)
  rw [classOf_hostWrite h ht k.isLt j.isLt, word, State.classTaken]

end Sys2Proof.Machine
end

section
/-!
O48: the channel status that an AES3 transmitter sends (R330, R331). A block is 23 bytes of the status words and the CRCC over them; a transmitter's
block start sends one for each subframe, from its whole register set or from the set it has.
-/
namespace Sys2Proof.Machine

/-! A block of channel status. -/

theorem length_leBytes (n v : Nat) : (leBytes n v).length = n := by
  induction n generalizing v with
  | zero => rfl
  | succ n ih => rw [leBytes, List.length_cons, ih]

theorem getD_append_add {a l : List Byte} {n i : Nat} (h : a.length = n) : (a ++ l).getD (n + i) 0 = l.getD i 0 := by
  rw [List.getD_eq_getElem?_getD, List.getElem?_append_right (by omega), h, Nat.add_sub_cancel_left, ← List.getD_eq_getElem?_getD]

/-- The bytes of a list of words, each word's low byte first (R7). -/
def bytesOf (w : List Word) : List Byte := w.flatMap fun x => leBytes 4 x.toNat

theorem length_bytesOf (w : List Word) : (bytesOf w).length = 4 * w.length := by
  induction w with
  | nil => rfl
  | cons x w ih =>
    have split : bytesOf (x :: w) = leBytes 4 x.toNat ++ bytesOf w := rfl
    rw [split, List.length_append, length_leBytes, ih, List.length_cons]
    omega

/-- The block that status words give (R330): the first 23 of their bytes, and in byte 23 the CRCC. -/
def statusBlock (w : List Word) : List Byte := (bytesOf w).take 23 ++ [BitVec.ofNat 8 (aesCrcc ((bytesOf w).take 23))]

section Block
variable {w : List Word} (hw : w.length = 6)
include hw

theorem length_statusBytes : ((bytesOf w).take 23).length = 23 := by
  rw [List.length_take, length_bytesOf, hw]
  rfl

theorem length_statusBlock : (statusBlock w).length = 24 := by
  rw [statusBlock, List.length_append, length_statusBytes hw]
  rfl

/-- The bytes after a block. -/
theorem drop_statusBlock_append (l : List Byte) : (statusBlock w ++ l).drop 24 = l := List.drop_left' (length_statusBlock hw)

theorem getD_statusBlock_append (l : List Byte) (i : Nat) : (statusBlock w ++ l).getD (24 + i) 0 = l.getD i 0 :=
  getD_append_add (length_statusBlock hw)

/-- Bytes that begin with a block begin with the words' own 23. -/
theorem take_of_statusBlock {b : List Byte} (hb : statusBlock w <+: b) : b.take 23 = (bytesOf w).take 23 := by
  obtain ⟨l, rfl⟩ := hb
  rw [statusBlock, List.append_assoc, List.take_left' (length_statusBytes hw)]

/-- Bytes that begin with a block have in byte 23 the CRCC of those before it. -/
theorem crcc_of_statusBlock {b : List Byte} (hb : statusBlock w <+: b) : (b.getD 23 0).toNat = aesCrcc b % 256 := by
  have crcc : aesCrcc b = aesCrcc ((bytesOf w).take 23) := by
    rw [aesCrcc, take_of_statusBlock hw hb, aesCrcc, List.take_take, Nat.min_self]
  have last : b.getD 23 0 = BitVec.ofNat 8 (aesCrcc ((bytesOf w).take 23)) := by
    obtain ⟨l, rfl⟩ := hb
    rw [statusBlock, List.append_assoc]
    exact getD_append_add (i := 0) (length_statusBytes hw)
  rw [last, crcc, BitVec.toNat_ofNat]

end Block

/-! The transmitters. -/

theorem aout_setAout_same {s : State} {n : Fin 8} {x : AesOut} : (s.setAout n x).ports.aout[n] = x := Vector.getElem_set_self _

theorem aout_setAout_ne {s : State} {n m : Fin 8} {x : AesOut} (h : m ≠ n) : (s.setAout n x).ports.aout[m] = s.ports.aout[m] :=
  Vector.getElem_set_ne n.isLt m.isLt fun e => h (Fin.ext e.symm)

theorem aoutCommit_false {s : State} {n : Fin 8} : s.aoutCommit n false = s := rfl

theorem aoutCommit_true {s : State} {n : Fin 8} : s.aoutCommit n true = s.setAout n { s.ports.aout[n] with commit := true } := rfl

/-- The set that a transmitter sends from its next block on (R331). -/
def State.aoutTaken (s : State) (n : Fin 8) (aged : Bool) : AesOut :=
  if s.ports.aout[n].commit = true ∧ aged = true then s.aoutSet n else s.ports.aout[n]

/-- The status words of subframe B: its own, or A's with CS_LINK (R331). -/
def State.aoutSecond (s : State) (n : Fin 8) (o : AesOut) : List Word := if s.on (F.AOUT_CTRL_CS_LINK.pg n.val) then o.csA else o.csB

theorem length_aoutSecond {s : State} {n : Fin 8} {o : AesOut} (hA : o.csA.length = 6) (hB : o.csB.length = 6) : (s.aoutSecond n o).length = 6 := by
  unfold State.aoutSecond
  split
  next => exact hA
  next => exact hB

theorem aoutBlock_disabled {s : State} {n : Fin 8} {aged : Bool} (h : s.enabled (0x48 + n.val) = false) : s.aoutBlock n aged = s := by
  rw [State.aoutBlock, if_pos (by simp [h])]

theorem aoutBlock_enabled {s : State} {n : Fin 8} {aged : Bool} {o : AesOut} (h : s.enabled (0x48 + n.val) = true) (ho : o = s.aoutTaken n aged) :
    s.aoutBlock n aged = (s.setAout n o).put (.aes3 n.val (statusBlock o.csA ++ statusBlock (s.aoutSecond n o))) := by
  rw [State.aoutBlock, if_neg (by simp [h]), ho]
  rfl

theorem only_aoutBlock {s : State} {n : Fin 8} {aged : Bool} : s.only [] [.out, .ports] (s.aoutBlock n aged) :=
  ⟨RB.keep keep_aoutBlock, keep_aoutBlock.sameBut (by decide)⟩

theorem only_aoutCommit {s : State} {n : Fin 8} {v : Bool} : s.only [] [.ports] (s.aoutCommit n v) :=
  ⟨RB.keep keep_aoutCommit, keep_aoutCommit.sameBut (by decide)⟩

/-! The commands. -/

theorem exec_aes3TxBlockStart {s : State} {n : Fin 8} {aged : Bool} : exec (.aes3TxBlockStart n aged) s = .next (s.aoutBlock n aged) := rfl

theorem exec_aoutCsCommit {s : State} {n : Fin 8} {v : Bool} : exec (.aoutCsCommit n v) s = .next (s.aoutCommit n v) := rfl

/-- Settles O48: the block start sends a status block for each subframe of the set that R331 lets the transmitter take. -/
theorem channelStatus : Obligations.ChannelStatus := by
  intro s _
  refine ⟨fun n aged => ⟨fun off => ?disabled, fun on o ho hA hB => ?sends⟩, fun n => ⟨?unwritten, ?written⟩⟩
  case disabled => rw [exec_aes3TxBlockStart, aoutBlock_disabled off]
  case sends =>
    have hB2 : (s.aoutSecond n o).length = 6 := length_aoutSecond hA hB
    have sent := aoutBlock_enabled on ho
    have front : statusBlock o.csA <+: statusBlock o.csA ++ statusBlock (s.aoutSecond n o) := List.prefix_append _ _
    refine Does.of exec_aes3TxBlockStart ⟨?_, only_aoutBlock, _, ?_, ?_, take_of_statusBlock hA front, ?_, crcc_of_statusBlock hA front, ?_⟩
    · rw [sent, put_ports, aout_setAout_same]
    · rw [sent, State.put, setAout_out]
    · rw [List.length_append, length_statusBlock hA, length_statusBlock hB2]
    · rw [drop_statusBlock_append hA]
      exact take_of_statusBlock hB2 List.prefix_rfl
    · rw [getD_statusBlock_append hA _ 23, drop_statusBlock_append hA]
      exact crcc_of_statusBlock hB2 List.prefix_rfl
  case unwritten => rw [exec_aoutCsCommit, aoutCommit_false]
  case written =>
    refine Does.of exec_aoutCsCommit ⟨?_, fun m hm => ?_, only_aoutCommit⟩
    · rw [aoutCommit_true, aout_setAout_same]
    · rw [aoutCommit_true, aout_setAout_ne hm]

end Sys2Proof.Machine
end
